-- ==== Sys2Proof/Word.lean ====
section
/-!
DEFINITION. The plain data types of the model: bytes, lines, digests, time values and finite maps.
Identifiers, indices, counts and sizes are natural numbers; only what the spec treats as bits is a bit vector.
-/
namespace Sys2Proof

/-- One byte. -/
abbrev Byte := BitVec 8

/-- A string of bytes, first byte first (spec/00_scope.md R6: fields inside it are little-endian). -/
abbrev Bytes := List Byte

/-- One 64-byte data line, byte 0 in bits [7:0] (spec/21_ports.md, `HP_REQ_WDATA`). -/
abbrev Line := BitVec 512

/-- An AES-256 key. -/
abbrev Key := BitVec 256

/-- A SHA-384 digest, first byte of the digest string in bits [7:0]. -/
abbrev Digest := BitVec 384

/-- A finite map keyed by naturals: a list of pairs with strictly rising keys. -/
abbrev Map (α : Type) := List (Nat × α)

/-- The value at a key, if the map holds one. -/
def Map.find {α : Type} : Map α → Nat → Option α
  | [], _ => none
  | (k, v) :: m, q => if k = q then some v else Map.find m q

/-- The value at a key, or a default. -/
def Map.findD {α : Type} (m : Map α) (q : Nat) (d : α) : α := (Map.find m q).getD d

/-- The map with one key set. -/
def Map.put {α : Type} : Map α → Nat → α → Map α
  | [], q, v => [(q, v)]
  | (k, w) :: m, q, v =>
    if q < k then (q, v) :: (k, w) :: m
    else if q = k then (q, v) :: m
    else (k, w) :: Map.put m q v

/-- The map without one key. -/
def Map.del {α : Type} (m : Map α) (q : Nat) : Map α := m.filter (fun x => x.1 != q)

/-- The keys of a map, rising. -/
def Map.keys {α : Type} (m : Map α) : List Nat := m.map Prod.fst

/-- The values of a map, by rising key. -/
def Map.vals {α : Type} (m : Map α) : List α := m.map Prod.snd

/-- Keys strictly rise. -/
def Map.wf {α : Type} : Map α → Bool
  | [] => true
  | [_] => true
  | (k, _) :: (k', v') :: m => decide (k < k') && Map.wf ((k', v') :: m)

end Sys2Proof
end

