-- ==== Sys2Proof/Syntax.lean ====
section
/-!
DEFINITION. The commands of the block: one constructor of `Instr` for each row of spec/opcode_table.json.
Loom commands name the path whose oldest waiting command they execute (spec/12_command_protocol.md R243);
port events carry the signals of spec/21_ports.md; timers and internal steps name the object they concern.
-/
namespace Sys2Proof

/-- The path from which a Loom command is fetched (R243): a command ring by its `EV_RING` index
(0-63 HOST, 64-67 HCP, 68 MGMT, 69 DEBUG), or a TENANT session. PEER commands run in `PEER_CMD`. -/
inductive Src
  | ring (i : Nat)
  | session (sid : Nat)
  deriving DecidableEq, Repr

/-- Where a register access comes from (R461): PCIe function n of the register port, with bit [6] of
`CP_REQ_FUNC` apart, the HCP sub-port, or DBG_ACCESS. -/
inductive RegPath
  | func (n : Nat) (bit6 : Bool)
  | hcp
  | dbg
  deriving DecidableEq, Repr

/-- One write access on a register path: byte address, data and byte strobes (21, `CP_` signals). -/
structure RegWrite where
  path : RegPath
  addr : Nat
  data : BitVec 64
  strb : BitVec 8
  deriving DecidableEq, Repr

/-- What a failing Shuttle engine's copy meets (R386, R387, R389): an uncorrectable error in step 2 or 4, or none, and then how many
of its packets had not left whole. -/
inductive EngineLoss
  | uncorrectable
  | copied (unsent : Nat)
  deriving DecidableEq, Repr

/-- What the TAP does at once (R459): DBG_ACCESS's data register is updated with its instruction selected, another instruction is
selected and its data register shifted out, or the integrator programs an OTP word (R347). -/
inductive TapOp
  | access (dr : BitVec 96)
  | select (code : BitVec 5)
  | program (addr : Nat) (bits : BitVec 32)
  deriving DecidableEq, Repr

/-- A request on `HP_` of one lane (21, `HP_` signals). -/
structure HpReq where
  lane : Nat
  op : Nat
  dli : Nat
  ldi : Nat
  ctx : Nat
  fence : Nat
  arr : Nat
  annot : BitVec 32
  tag : Nat
  data : Line
  be : BitVec 64
  deriving DecidableEq, Repr

/-- A packet on `FP_EH` of one port (21, `FP_` signals): routing header, then payload. -/
structure EgressPkt where
  port : Nat
  rh : Bytes
  ptag : Nat
  dest : Nat
  mcast : Bool
  vc : Nat
  ldi : Nat
  ctx : Nat
  fence : Nat
  mapgen : Nat
  annot : BitVec 32
  payload : Bytes
  deriving DecidableEq, Repr

/-- A packet on `FP_IW` of one port: routing header, then the protected part as received. -/
structure IngressPkt where
  port : Nat
  rh : Bytes
  vc : Nat
  group : Nat
  bytes : Bytes
  deriving DecidableEq, Repr

/-- A request on `BA_` (21, `BA_` signals): `hdr` is `BA_REQ_HDR`, 24 bytes; `data` the beats. -/
structure BaReq where
  kind : Nat
  hdr : Bytes
  data : Bytes
  ldi : Nat
  ctx : Nat
  fence : Nat
  arr : Nat
  annot : BitVec 32
  tag : Nat
  deriving DecidableEq, Repr

/-- A pull on one Spindle port (08 R176). -/
structure PullReq where
  port : Nat
  ldi : Nat
  ctx : Nat
  stream : Nat
  offset : Nat
  beats : Nat
  annot : BitVec 32
  deriving DecidableEq, Repr

/-- A block of a pull that an idle slot of a lane's or an engine's pipelines computes (08 R173): the instance by its number,
and whether the block has not returned within 256 cycles (R175). -/
structure LentBlock where
  block : Nat
  engine : Bool
  inst : Nat
  late : Bool
  deriving DecidableEq, Repr

/-- The connection that carries an SPDM message (10 R207): MCTP, or a HOST ring's `ATT_SESSION_OPEN`. -/
inductive Conn
  | mctp
  | host (ring : Nat)
  deriving DecidableEq, Repr

/-- What every SPDM message carries: its connection, its version and the secure session it travels in. -/
structure SpdmCtx where
  conn : Conn
  version : Nat
  session : Option Nat
  /-- The secured record that brought a message of a session (DSP0277); empty outside sessions. -/
  secured : Bytes
  deriving DecidableEq, Repr

/-- The parts of KEY_EXCHANGE that are read (10 R208, R211): certificate slot, the requester's half of the session ID, mutual
authentication, the opaque element with its standards-body ID, vendor ID, type byte and GDID, and the ephemeral key share. -/
structure KexReq where
  slot : Nat
  reqSid : Nat
  mutAuth : Bool
  opaqueStd : Nat
  opaqueVendor : Nat
  opaqueType : Nat
  opaqueGdid : Option Nat
  share : Bytes
  deriving DecidableEq, Repr

/-- A 12-B time value (11 R226). -/
structure Time12 where
  sec : Nat
  ns : Nat
  frac : Nat
  deriving DecidableEq, Repr

/-- A PTP message on `TP_RX` (11 R229, 21 R455), parsed by its IEEE 1588 fields. `corr` is the correctionField
in units of 2^-16 ns; `auth` is `TP_RX_AUTH`. -/
structure PtpMsg where
  domain : Nat
  master : Nat
  seq : Nat
  auth : Nat
  delayed : Bool
  rxTs : Time12
  origin : Time12
  corr : Int
  twoStep : Bool
  deriving DecidableEq, Repr

/-- The fields of an Announce that the dataset comparison of IEEE 1588 reads, lower is better, in order. -/
structure AnnounceData where
  interval : Int
  utcOffset : Int
  priority : List Nat
  deriving DecidableEq, Repr

/-- What the boot ROM reads through `CP_DM0` at one poll (23 R481): descriptor, image, bundle, DMA error. -/
structure BootRead where
  desc : Bytes
  image : Bytes
  bundle : Bytes
  err : Bool
  deriving DecidableEq, Repr

/-- What a resumed command received meanwhile: bytes fetched by host DMA, a DMA error, and the moment's FREERUN. -/
structure Supply where
  dma : Bytes
  dmaErr : Bool
  deriving DecidableEq, Repr

/-- The commands, in the order of the table; each docstring names the row and its rule. -/
inductive Instr
  /-- DOM_CREATE (R269). -/
  | domCreate (src : Src)
  /-- DOM_SET_POLICY (R270). -/
  | domSetPolicy (src : Src)
  /-- DOM_ADD_CONTEXT (R271). -/
  | domAddContext (src : Src)
  /-- DOM_RELEASE_CONTEXT (R272). -/
  | domReleaseContext (src : Src)
  /-- DOM_SEAL (R273). -/
  | domSeal (src : Src)
  /-- DOM_QUIESCE (R274). -/
  | domQuiesce (src : Src)
  /-- DOM_ABORT (R275). -/
  | domAbort (src : Src)
  /-- DOM_RETIRE (R276). -/
  | domRetire (src : Src)
  /-- DOM_QUERY (R277). -/
  | domQuery (src : Src)
  /-- MEM_ASSIGN (R278). -/
  | memAssign (src : Src)
  /-- MEM_RELEASE (R279). -/
  | memRelease (src : Src)
  /-- MEM_SCRUB (R280). -/
  | memScrub (src : Src)
  /-- MEM_QUERY (R281). -/
  | memQuery (src : Src)
  /-- MEM_IMPORT_BLOB (R282). -/
  | memImportBlob (src : Src)
  /-- MEM_FINGERPRINT (R283). -/
  | memFingerprint (src : Src)
  /-- MEM_DIGEST (R283). -/
  | memDigest (src : Src)
  /-- CMP_BIND_SLICE (R284). -/
  | cmpBindSlice (src : Src)
  /-- CMP_UNBIND_SLICE (R284). -/
  | cmpUnbindSlice (src : Src)
  /-- CMP_REBIND_PREPARE (R143). -/
  | cmpRebindPrepare (src : Src)
  /-- CMP_REBIND_COMMIT (R144). -/
  | cmpRebindCommit (src : Src)
  /-- REBIND_SQUASH_TIMEOUT (R144). -/
  | rebindSquashTimeout (ldi : Nat)
  /-- RED_WINDOW_OPEN (R287). -/
  | redWindowOpen (src : Src)
  /-- RED_WINDOW_CLOSE (R288). -/
  | redWindowClose (src : Src)
  /-- RED_WINDOW_QUERY (R288). -/
  | redWindowQuery (src : Src)
  /-- ARR_ALLOC (R289). -/
  | arrAlloc (src : Src)
  /-- ARR_FREE (R289). -/
  | arrFree (src : Src)
  /-- FEN_CREATE (R290). -/
  | fenCreate (src : Src)
  /-- FEN_REGISTER_PRODUCER (R290). -/
  | fenRegisterProducer (src : Src)
  /-- FEN_DESTROY (R290). -/
  | fenDestroy (src : Src)
  /-- LNK_PORT_CLASS (R292). -/
  | lnkPortClass (src : Src)
  /-- LNK_SA_WARM (R293). -/
  | lnkSaWarm (src : Src)
  /-- LNK_SA_QUERY (R294). -/
  | lnkSaQuery (src : Src)
  /-- LNK_GROUP_CREATE (R295). -/
  | lnkGroupCreate (src : Src)
  /-- KEY_EPHEMERAL_GET (R296). -/
  | keyEphemeralGet (src : Src)
  /-- KEY_WEIGHT_INSTALL (R297). -/
  | keyWeightInstall (src : Src)
  /-- KEY_WEIGHT_DROP (R298). -/
  | keyWeightDrop (src : Src)
  /-- ATT_REPORT (R299). -/
  | attReport (src : Src)
  /-- ATT_SESSION_OPEN (R300). -/
  | attSessionOpen (src : Src)
  /-- MTR_READ (R301). -/
  | mtrRead (src : Src)
  /-- MTR_ACK (R302). -/
  | mtrAck (src : Src)
  /-- TIM_STATUS (R303). -/
  | timStatus (src : Src)
  /-- TIM_SET_SERVO (R304). -/
  | timSetServo (src : Src)
  /-- TIM_OFFSET_MEASURE (R305). -/
  | timOffsetMeasure (src : Src)
  /-- DBG_CERT_PRESENT (R306). -/
  | dbgCertPresent (src : Src)
  /-- DBG_REVOKE (R307). -/
  | dbgRevoke (src : Src)
  /-- DBG_HALT (R308). -/
  | dbgHalt (src : Src)
  /-- DBG_RESUME (R309). -/
  | dbgResume (src : Src)
  /-- PRF_FREEZE_AT (R310). -/
  | prfFreezeAt (src : Src)
  /-- PRF_READ (R311). -/
  | prfRead (src : Src)
  /-- TRC_CONFIG (R312). -/
  | trcConfig (src : Src)
  /-- TRC_MARK (R313). -/
  | trcMark (src : Src)
  /-- TRC_READ (R314). -/
  | trcRead (src : Src)
  /-- LCS_QUERY (R315). -/
  | lcsQuery (src : Src)
  /-- LCS_TRANSITION (R351). -/
  | lcsTransition (src : Src)
  /-- LCS_TRANSITION_RESET_TIMER (R351). -/
  | lcsTransitionResetTimer
  /-- LCS_TOKEN_UNLOCK (R354). -/
  | lcsTokenUnlock (src : Src)
  /-- LCS_ZEROIZE (R318). -/
  | lcsZeroize (src : Src)
  /-- MIG_FREEZE (R319). -/
  | migFreeze (src : Src)
  /-- MIG_FREEZE_ANSWER_TIMEOUT (R339). -/
  | migFreezeAnswerTimeout (ldi : Nat)
  /-- MIG_EXPORT (R320). -/
  | migExport (src : Src)
  /-- MIG_IMPORT (R321). -/
  | migImport (src : Src)
  /-- MIG_THAW (R322). -/
  | migThaw (src : Src)
  /-- SPN_STREAM_OPEN (R323). -/
  | spnStreamOpen (src : Src)
  /-- SPN_STREAM_CLOSE (R323). -/
  | spnStreamClose (src : Src)
  /-- SNS_STATUS (R324). -/
  | snsStatus (src : Src)
  /-- SNS_CAL_WINDOW (R325). -/
  | snsCalWindow (src : Src)
  /-- RCV_LOG_READ (R326). -/
  | rcvLogRead (src : Src)
  /-- RCV_LOG_CLEAR (R327). -/
  | rcvLogClear (src : Src)
  /-- RCV_DUMP_READ (R328). -/
  | rcvDumpRead (src : Src)
  /-- JOURNAL_STEP_RESUME (R261). -/
  | journalStepResume (jid : Nat) (sup : Supply)
  /-- RING_TAIL_WRITE (R467). -/
  | ringTailWrite (w : RegWrite)
  /-- RING_EVT_CLEAR (R454). -/
  | ringEvtClear (w : RegWrite)
  /-- EV_STATUS_CLEAR (R469). -/
  | evStatusClear (w : RegWrite)
  /-- EV_MAP_CLEAR (R469). -/
  | evMapClear (w : RegWrite)
  /-- EV_ENABLE_WRITE (R470). -/
  | evEnableWrite (w : RegWrite)
  /-- CTC_DEVID_WRITE (R463). -/
  | ctcDevidWrite (w : RegWrite)
  /-- CLOCK_STATUS_CLEAR (R466). -/
  | clockStatusClear (w : RegWrite)
  /-- TIM_SNAP_CAPTURE (R471). -/
  | timSnapCapture (w : RegWrite)
  /-- DBG_ARR_DATA_READ (R475); every other read on a register path has no row of its own and is this one, by its address. -/
  | dbgArrDataRead (path : RegPath) (addr : Nat)
  /-- DBG_CORE_REG_WRITE (R431). -/
  | dbgCoreRegWrite (w : RegWrite)
  /-- REGISTER_WRITE (R460). -/
  | registerWrite (w : RegWrite)
  /-- DBG_ACCESS (R459); every other use of the TAP has no row of its own and is this one, by its operation. -/
  | dbgAccess (op : TapOp)
  /-- TAP_RESET (R459). -/
  | tapReset
  /-- HP_READ (R65). -/
  | hpRead (r : HpReq)
  /-- HP_FULL_WRITE (R67). -/
  | hpFullWrite (r : HpReq)
  /-- HP_BYTE_MASKED_WRITE (R68). -/
  | hpByteMaskedWrite (r : HpReq)
  /-- GOT_FETCH_COMPLETE (R64). -/
  | gotFetchComplete (lane granule : Nat)
  /-- MP_READ_RETURN (R65). -/
  | mpReadReturn (lane tag : Nat) (data : Line) (ecc : Nat)
  /-- DOMAIN_INTEGRITY_EVENT (R77). -/
  | domainIntegrityEvent
  /-- WRITE_GROUP_CLOSE (R71). -/
  | writeGroupClose (lane : Nat) (bad : List Nat)
  /-- MP_WRITE_ACK (R73). -/
  | mpWriteAck (lane tag : Nat)
  /-- SCRUB_GRANULE_DONE (R41). -/
  | scrubGranuleDone
  /-- LANE_FAILED (R88). -/
  | laneFailed (lane : Nat)
  /-- MP_FLUSH_ACK (R89). -/
  | mpFlushAck (lane : Nat) (bad : List Nat)
  /-- FP_EGRESS_PACKET (R487). -/
  | fpEgressPacket (p : EgressPkt)
  /-- FP_INGRESS_PACKET (R114). -/
  | fpIngressPacket (p : IngressPkt)
  /-- NACK_RECEIVED (R128). -/
  | nackReceived
  /-- ATOMIC_REQUEST_RECEIVED (R134). -/
  | atomicRequestReceived
  /-- ATOMIC_RESPONSE_RECEIVED (R135). -/
  | atomicResponseReceived
  /-- ATOMIC_QUERY_RECEIVED (R136). -/
  | atomicQueryReceived
  /-- ACK_ONLY_RECEIVED (R137). -/
  | ackOnlyReceived
  /-- ATOMIC_DUE_EXPIRY (R136). -/
  | atomicDueExpiry (peer aseq : Nat)
  /-- ACK_ONLY_TIMER (R137). -/
  | ackOnlyTimer (peer : Nat)
  /-- SA_INIT (R106). -/
  | saInit (peer : Nat)
  /-- SA_RESP (R105). -/
  | saResp (peer : Nat)
  /-- SA_FIN (R107). -/
  | saFin (peer : Nat)
  /-- SA_DONE (R197). -/
  | saDone (peer : Nat)
  /-- CHAIN_GET (R105). -/
  | chainGet (peer : Nat)
  /-- CHAIN (R105). -/
  | chain (peer : Nat)
  /-- KEEPALIVE (R109). -/
  | keepalive (peer : Nat)
  /-- KEEPALIVE_TIMER (R109). -/
  | keepaliveTimer (peer : Nat)
  /-- SA_LOSS_TIMEOUT (R110). -/
  | saLossTimeout (peer : Nat)
  /-- SA_FAILED_EXPIRY (R104). -/
  | saFailedExpiry (peer : Nat)
  /-- GROUP_KEY (R112). -/
  | groupKey (peer : Nat)
  /-- GROUP_KEY_HOLD_EXPIRY (R112). -/
  | groupKeyHoldExpiry
  /-- GROUP_CREATE_TIMEOUT (R112). -/
  | groupCreateTimeout (ldi group : Nat)
  /-- POLICY (R36). -/
  | policy (peer : Nat)
  /-- RETIRED (R54). -/
  | retired (peer : Nat)
  /-- FDT_QUARANTINE_EXPIRY (R54). -/
  | fdtQuarantineExpiry (fdt : Nat)
  /-- SQUALL (R392). -/
  | squall (peer : Nat)
  /-- FREEZE (R419). -/
  | freeze (peer : Nat)
  /-- OFFSET (R240). -/
  | offset (peer : Nat)
  /-- OFFSET_PROBE_TIMER (R239). -/
  | offsetProbeTimer (ldi : Nat)
  /-- OFFSET_PERIODIC_EXCHANGE (R241). -/
  | offsetPeriodicExchange (ldi : Nat)
  /-- PEER_CMD (R254). -/
  | peerCmd (peer : Nat)
  /-- PEER_REPLY (R254). -/
  | peerReply (peer : Nat)
  /-- ENGINE_FAILED (R386). -/
  | engineFailed (engine : Nat) (loss : EngineLoss)
  /-- BA_REDUCE (R445). -/
  | baReduce (r : BaReq)
  /-- BA_MSTORE (R445). -/
  | baMstore (r : BaReq)
  /-- BA_ATOMIC (R445). -/
  | baAtomic (r : BaReq)
  /-- BATTEN_ENTRY_APPLY (R157). -/
  | battenEntryApply (unit : Nat) (bad : List (Nat × Bool))
  /-- BATTEN_FILL_RETURN (R153). -/
  | battenFillReturn (unit : Nat)
  /-- MIRROR_ACK (R153). -/
  | mirrorAck (unit : Nat)
  /-- BATTEN_WRITEBACK (R154). -/
  | battenWriteback (unit dli : Nat)
  /-- BATTEN_WRITEBACK_ACCEPTED (R155). -/
  | battenWritebackAccepted (unit dli : Nat)
  /-- WINDOW_CONTRIBUTION (R160). -/
  | windowContribution (unit : Nat) (bad : Bool)
  /-- WINDOW_LINE_ACCEPTED (R162). -/
  | windowLineAccepted (dli : Nat)
  /-- UNIT_FAILED (R167). -/
  | unitFailed (unit : Nat) (lost : Bool)
  /-- SPINDLE_PULL (R178). -/
  | spindlePull (r : PullReq) (lent : List LentBlock)
  /-- SPINDLE_REISSUE_TIMEOUT (R175). -/
  | spindleReissueTimeout (port : Nat)
  /-- FENCE_SIGNAL (R47). -/
  | fenceSignal
  /-- BP_ACK (R448). -/
  | bpAck (seq : Nat)
  /-- BP_IN_PRESENT (R450). -/
  | bpInPresent (type kind first count : Nat)
  /-- BP_IN_REPORT (R48). -/
  | bpInReport (ldi handle ctx status : Nat)
  /-- BP_IN_NEIGHBOUR (R391). -/
  | bpInNeighbour (ldi pos devid : Nat)
  /-- HCP_RESET_ASSERT (R452). -/
  | hcpResetAssert
  /-- HCP_IMAGE_STREAM (R452). -/
  | hcpImageStream (image : Bytes)
  /-- KP_ACK (R458). -/
  | kpAck
  /-- KP_FLR (R333). -/
  | kpFlr (func : Nat)
  /-- KP_LOCKED_CONFIG_WRITE (R333). -/
  | kpLockedConfigWrite (func : Nat)
  /-- KP_IDE_INTEGRITY_FAILURE (R333). -/
  | kpIdeIntegrityFailure (func : Nat)
  /-- GET_VERSION (R207). -/
  | getVersion (m : SpdmCtx)
  /-- GET_CAPABILITIES (R207). -/
  | getCapabilities (m : SpdmCtx)
  /-- NEGOTIATE_ALGORITHMS (R209). -/
  | negotiateAlgorithms (m : SpdmCtx) (offered : Bool)
  /-- GET_DIGESTS (R207). -/
  | getDigests (m : SpdmCtx)
  /-- GET_CERTIFICATE (R209). -/
  | getCertificate (m : SpdmCtx) (slot offset len : Nat)
  /-- CHALLENGE (R207). -/
  | challenge (m : SpdmCtx) (slot : Nat) (nonce : BitVec 256)
  /-- GET_MEASUREMENTS (R210). -/
  | getMeasurements (m : SpdmCtx) (slot index : Nat) (signed : Bool) (nonce : BitVec 256)
  /-- KEY_EXCHANGE (R211). -/
  | keyExchange (m : SpdmCtx) (k : KexReq)
  /-- FINISH (R211). -/
  | finish (m : SpdmCtx) (sid : Nat) (proof : Bytes)
  /-- GET_ENCAPSULATED_REQUEST (R207). -/
  | getEncapsulatedRequest (m : SpdmCtx) (sid : Nat)
  /-- DELIVER_ENCAPSULATED_RESPONSE (R207). -/
  | deliverEncapsulatedResponse (m : SpdmCtx) (sid : Nat) (chain : Bytes)
  /-- HEARTBEAT (R213). -/
  | heartbeat (m : SpdmCtx)
  /-- KEY_UPDATE (R207). -/
  | keyUpdate (m : SpdmCtx) (op : Nat)
  /-- END_SESSION (R213). -/
  | endSession (m : SpdmCtx)
  /-- CHUNK_SEND (R207). -/
  | chunkSend (m : SpdmCtx) (handle seq : Nat) (last : Bool) (chunk : Bytes)
  /-- CHUNK_GET (R207). -/
  | chunkGet (m : SpdmCtx) (handle seq : Nat)
  /-- VENDOR_DEFINED_REQUEST (R212). -/
  | vendorDefinedRequest (m : SpdmCtx) (std vendor : Nat) (body : Bytes)
  /-- SPDM_UNSUPPORTED_REQUEST (R208). -/
  | spdmUnsupportedRequest (m : SpdmCtx) (code : Nat)
  /-- SESSION_HEARTBEAT_TIMEOUT (R213). -/
  | sessionHeartbeatTimeout (sid : Nat)
  /-- GET_TDISP_VERSION (R332). -/
  | getTdispVersion (m : SpdmCtx) (func : Nat)
  /-- GET_TDISP_CAPABILITIES (R332). -/
  | getTdispCapabilities (m : SpdmCtx) (func : Nat)
  /-- LOCK_INTERFACE_REQUEST (R333). -/
  | lockInterfaceRequest (m : SpdmCtx) (func : Nat)
  /-- GET_DEVICE_INTERFACE_REPORT (R334). -/
  | getDeviceInterfaceReport (m : SpdmCtx) (func : Nat)
  /-- GET_DEVICE_INTERFACE_STATE (R332). -/
  | getDeviceInterfaceState (m : SpdmCtx) (func : Nat)
  /-- START_INTERFACE_REQUEST (R333). -/
  | startInterfaceRequest (m : SpdmCtx) (func : Nat) (nonce : BitVec 256)
  /-- STOP_INTERFACE_REQUEST (R333). -/
  | stopInterfaceRequest (m : SpdmCtx) (func : Nat)
  /-- IDE_KEY_DELIVERY_VDM (R336). -/
  | ideKeyDeliveryVdm (m : SpdmCtx) (vendor func stream keySet : Nat)
  /-- TDISP_UNSUPPORTED_REQUEST (R332). -/
  | tdispUnsupportedRequest (m : SpdmCtx) (func code : Nat)
  /-- IDE_KM_QUERY (R335). -/
  | ideKmQuery (m : SpdmCtx) (func : Nat)
  /-- KEY_PROG (R335). -/
  | keyProg (m : SpdmCtx) (func stream keySet : Nat)
  /-- K_SET_GO (R335). -/
  | kSetGo (m : SpdmCtx) (func stream keySet : Nat)
  /-- K_SET_STOP (R335). -/
  | kSetStop (m : SpdmCtx) (func stream keySet : Nat)
  /-- SET_ENDPOINT_ID (R456). -/
  | setEndpointId (eid : Nat)
  /-- GET_ENDPOINT_ID (R456). -/
  | getEndpointId
  /-- GET_MCTP_VERSION_SUPPORT (R456). -/
  | getMctpVersionSupport
  /-- GET_MESSAGE_TYPE_SUPPORT (R456). -/
  | getMessageTypeSupport
  /-- MCTP_VENDOR_COMMAND (R456). -/
  | mctpVendorCommand (type vendor cmdSet : Nat) (body : Bytes)
  /-- ANNOUNCE (R232). -/
  | announce (m : PtpMsg) (a : AnnounceData)
  /-- SYNC (R229). -/
  | sync (m : PtpMsg)
  /-- FOLLOW_UP (R229). -/
  | followUp (m : PtpMsg)
  /-- DELAY_RESP (R234). -/
  | delayResp (m : PtpMsg)
  /-- PTP_IGNORED_MESSAGE (R230). -/
  | ptpIgnoredMessage
  /-- TP_TXTS (R455). -/
  | tpTxts (id : Nat) (ts : Time12)
  /-- TXTS_TIMEOUT (R455). -/
  | txtsTimeout (id : Nat)
  /-- TIME_NO_SAMPLE_TIMEOUT (R235). -/
  | timeNoSampleTimeout
  /-- HOLDOVER_TIMEOUT (R235). -/
  | holdoverTimeout
  /-- FREEZE_FIRE (R418). -/
  | freezeFire (ldi : Nat)
  /-- DEBUG_RIGHTS_EXPIRY (R361). -/
  | debugRightsExpiry (cert : Nat)
  /-- DEBUG_NONCE_EXPIRY (R306). -/
  | debugNonceExpiry
  /-- METER_INTERVAL_TIMER (R221). -/
  | meterIntervalTimer (ldi : Nat)
  /-- METER_BATCH_CLOSE (R223). -/
  | meterBatchClose
  /-- ERROR_LOG_WRITE (R381). -/
  | errorLogWrite
  /-- TRACE_SEGMENT_PERIOD (R425). -/
  | traceSegmentPeriod (src inst : Nat)
  /-- COARSE_SNAPSHOT (R421). -/
  | coarseSnapshot
  /-- POWER_ESTIMATE_UPDATE (R414). -/
  | powerEstimateUpdate (milliwatt : Nat)
  /-- BREAKPOINT_HIT (R430). -/
  | breakpointHit (addr : Nat)
  /-- HALT_DRAIN_COMPLETE (R430). -/
  | haltDrainComplete
  /-- WATCHDOG_EXPIRY (R384). -/
  | watchdogExpiry
  /-- LOCKSTEP_MISMATCH (R384). -/
  | lockstepMismatch
  /-- STORE_UE (R383), and a single-bit error, which the read path corrects (R27): `single`. -/
  | storeUe (store word : Nat) (single : Bool)
  /-- CROSSING_FAULT (R367). -/
  | crossingFault (inst : Nat) (toHost : Bool)
  /-- CK_ROOT_LOST (R368). -/
  | ckRootLost
  /-- CK_ROOT_RETURN (R368). -/
  | ckRootReturn
  /-- RS_PORST_ASSERT (R370). -/
  | rsPorstAssert
  /-- POR_RELEASE (R370). -/
  | porRelease (porstN : Bool)
  /-- RS_SYSREQ (R372). -/
  | rsSysreq
  /-- RS_COREREQ (R372). -/
  | rsCorereq
  /-- RESET_HOLD_END (R372). -/
  | resetHoldEnd (left : Nat)
  /-- SYSTEM_RESET (R373). -/
  | systemReset
  /-- CORE_RESET (R385). -/
  | coreReset
  /-- BOOT_ROM_START (R353). -/
  | bootRomStart
  /-- BOOT_DESCRIPTOR_POLL (R481). -/
  | bootDescriptorPoll (b : BootRead)
  /-- PORTS_OPEN (R484). -/
  | portsOpen
  /-- FU_RSP (R457). -/
  | fuRsp (rdata : BitVec 32)
  /-- POWER_WARN (R378). -/
  | powerWarn
  /-- POWER_HOLD_CLEAR (R378). -/
  | powerHoldClear
  /-- TAMPER_INPUT (R408). -/
  | tamperInput (input : Nat)
  /-- BAROMETER_SAMPLE (R406). -/
  | barometerSample (inst marginTaps droop glitch bin : Nat)
  /-- STRETCH_RELAX (R401). -/
  | stretchRelax (inst : Nat)
  /-- TAMPER_SCORE_DECAY (R407). -/
  | tamperScoreDecay
  /-- CAL_EPOCH_END (R409). -/
  | calEpochEnd (inst bin : Nat)
  /-- CAL_WINDOW_EXPIRY (R410). -/
  | calWindowExpiry
  /-- ENTROPY_TEST_FAIL (R203). -/
  | entropyTestFail (raw : List Bool)
  /-- DRBG_RESEED (R202). -/
  | drbgReseed
  /-- ENTROPY_STARTUP_TEST_DONE (R203). -/
  | entropyStartupTestDone (raw : List Bool)
  /-- BAROMETER_STATUS_REFRESH (R472). -/
  | barometerStatusRefresh
  deriving DecidableEq, Repr

end Sys2Proof
end

