-- ==== Sys2Proof/Decode.lean ====
section
/-!
DEFINITION. The command that a word spells by the bits of spec/opcode_table.json. Every row's list of fields is empty:
the table gives no row any bits, so no word spells a command.
-/
namespace Sys2Proof

/-- The command that a word of `nbits` bits spells: none, for no row of the table has bits. -/
def decodeTableWord (_nbits _w : Nat) : Option Instr := none

end Sys2Proof
end

