-- ==== Sys2Proof/Config.lean ====
section
/-!
DEFINITION. What the spec takes from published standards without restating it, and its free values: opaque constants
with no body, so that a claim holds whatever they are (notes/assumptions/7.md).
-/
namespace Sys2Proof.Config

/-- AES-256 of one block (R206, FIPS 197), byte 0 in bits [7:0]. -/
opaque aes256 : Key → BitVec 128 → BitVec 128

/-- The inverse cipher. -/
opaque aes256Inv : Key → BitVec 128 → BitVec 128

/-- SHA-384 (R206, FIPS 180-4). -/
opaque sha384 : Bytes → Digest

/-- HMAC-SHA-384 (R206, FIPS 198-1): key, message. -/
opaque hmac384 : Bytes → Bytes → Digest

/-- A block of the AES-256-GCM keystream (R206, SP 800-38D): key, 96-bit IV, and the block's number from 0 on. Its first
byte in bits [7:0]. -/
opaque gcmBlock : Key → BitVec 96 → Nat → BitVec 128

/-- AES-256-GCM tag: key, IV, additional authenticated data, ciphertext. Its first byte in bits [7:0]. -/
opaque gcmTag : Key → BitVec 96 → Bytes → Bytes → BitVec 128

/-- ML-KEM-1024 (R206, FIPS 203): encapsulation key of a seed. -/
opaque mlkemPublic : Bytes → Bytes

/-- ML-KEM-1024 encapsulation: key, randomness; ciphertext and shared secret. -/
opaque mlkemEncaps : Bytes → Bytes → Bytes × Bytes

/-- ML-KEM-1024 decapsulation: seed, ciphertext; shared secret. -/
opaque mlkemDecaps : Bytes → Bytes → Bytes

/-- P-384 public key of a private key, uncompressed (97 bytes). -/
opaque p384Public : Bytes → Bytes

/-- A valid P-384 point. -/
opaque p384Valid : Bytes → Bool

/-- The x-coordinate of the ECDH P-384 shared point: private key, public key. -/
opaque p384Shared : Bytes → Bytes → Bytes

/-- Public keys of a hybrid signature key pair (ML-DSA-87 then P-384) of its seeds. -/
opaque hybridPublic : Bytes → Bytes

/-- ML-DSA-87 signature: seeds, message (4,627 bytes). -/
opaque mldsaSign : Bytes → Bytes → Bytes

/-- ECDSA P-384 signature over SHA-384 of the message: seeds, message, hedging randomness (96 bytes). -/
opaque ecdsaSign : Bytes → Bytes → Bytes → Bytes

/-- Both signatures of a hybrid signature verify: public keys, message, ML-DSA-87 and ECDSA signatures. -/
opaque hybridVerify : Bytes → Bytes → Bytes → Bytes → Bool

/-- An ECDSA P-384 signature verifies: public key, message, signature. -/
opaque ecdsaVerify : Bytes → Bytes → Bytes → Bool

/-- A DER certificate that the block issues: issuer seeds, subject public keys, the fields it carries, hedging randomness. -/
opaque issueCert : Bytes → Bytes → Bytes → Bytes → Bytes

/-- The number of bytes of the first DER certificate of a string; 0 when it is none. -/
opaque derLength : Bytes → Nat

/-- A chain of DER certificates verifies to the device root held in ROM: the leaf's public keys. -/
opaque chainLeaf : Digest → Bytes → Option Bytes

/-- The class that a firmware signing certificate names: 0 production, 1 development (R482). -/
opaque signerClass : Bytes → Nat

/-- The certificate is of a Vuora life-cycle authority (R350 step 4). -/
opaque isLifecycleAuthority : Bytes → Bool

/-- notBefore and notAfter of a chain's leaf, in seconds, when the string is 1 to 4 DER X.509 v3 certificates (R306). -/
opaque certValidity : Bytes → Option (Nat × Nat)

/-- The extension of a chain's leaf with an object identifier: its critical flag and its value (RFC 5280). -/
opaque leafExtension : Bytes → List Nat → Option (Bool × Bytes)

/-- The leaf of a chain is issued by a Vuora debug CA under the Vuora device root (R358). -/
opaque isDebugLeaf : Bytes → Bool

/-- An issuer in the chain appears in the revocation list of the running Loom firmware, by its digest (R359). -/
opaque revoked : Digest → Bytes → Bool

/-- SHA-384 of the DER SubjectPublicKeyInfo of a chain's leaf, and its P-384 key (R211). -/
opaque leafKey : Bytes → Option (Digest × Bytes)

/-- SHA-384 of the boot ROM (R190). -/
opaque romDigest : Digest

/-- The digest of the two public keys of the Vuora device root, held in ROM. -/
opaque rootDigest : Digest

/-- The integrator's JEDEC manufacturer identity, `DB_MFG`. -/
opaque dbMfg : BitVec 11

/-- Draw n of the DRBG (R202): 64 bytes of output. -/
opaque drbg : Nat → BitVec 512

/-- Free bytes, by draw or message and by field. -/
opaque freeBytes : Nat → Nat → Bytes

/-- A free number: the value of draw n. -/
opaque freeNat : Nat → Nat

/-- The DEVIDs of a domain's members, by GDID: the spec gives the block no list of them (notes/assumptions/33.md). -/
opaque domainMembers : Nat → List Nat

/-- Which array of store 9 of R383 a word index names, and the place in it: the spec gives no order of the five arrays. -/
opaque ninthStore : Nat → Nat × Nat

/-- The Loom core registers and firmware data that the crash dump copies and the debug window reads (R382, R475):
free values, by address. -/
opaque coreWord : Nat → BitVec 64

/-- Words of the block's SRAM arrays as the debug window presents them (R475), by draw, store and word. -/
opaque arrayWord : Nat → Nat → Nat → BitVec 64

/-- Words in the stores of R383 whose sizes the spec does not give, beyond which `DBG_ARR_DATA` reads zero. -/
opaque arrayWords : Nat → Nat

/-- The bulk unit that runs the entry of a JID: the spec gives no rule (R453, notes/assumptions/31.md). -/
opaque bulkUnit : Nat → Nat

/-- Destination EID, message tag and transmission unit of the MCTP message sent at a place of `out`: what the request carried and the
binding fixed (R456, notes/assumptions/23.md). -/
opaque mctpFrame : Nat → Nat × Nat × Nat

/-- An SPDM request of a connection, and of the session that a chunked one travels in, as its parsed form (R207, R300). -/
opaque spdmParse : Conn → Option Nat → Bytes → Option Instr

/-- The wire form of an SPDM request, as transcripts hold it; it is asked of requests without a record (`requestBytes`). -/
opaque spdmWire : Instr → Bytes

/-- The wire form of an SPDM response: code and body. -/
opaque spdmEncode : Nat → Bytes → Bytes

end Sys2Proof.Config
end

