-- ==== Sys2Proof/Machine/State/Ports.lean ====
section
/-!
DEFINITION. What the block has driven on its output channels (spec/21_ports.md). `State.out` keeps the transfers
in the order in which the block made them; levels are fields or functions of the state.
-/
namespace Sys2Proof.Machine

/-- One transfer on an output channel of the block (21, signal tables). -/
inductive Output
  /-- `HP_RSP` of a lane number (R438): tag, kind (0 read data, 1 write acknowledgement), error, status, data. -/
  | hpRsp (lane tag kind : Nat) (err : Bool) (status : Nat) (data : Line)
  /-- `MP_CMD` of a lane number (R440). -/
  | mpCmd (lane op line group : Nat) (last : Bool) (tag : Nat) (data : Line) (be : BitVec 64)
  /-- `FP_ER` (R442): code 0 SENT, 1 NEED_SA, 2 STALE_MAP, 3 REFUSED. -/
  | fpReport (port ptag code status : Nat)
  /-- `FP_SAUP` (R105). -/
  | fpSaUp (devid : Nat)
  /-- `FP_EW` of a port: virtual channel, routing header, protected part and tag (R443). -/
  | fpWire (port vc : Nat) (rh bytes : Bytes)
  /-- `FP_IH` of a port: virtual channel, local LDI, source DEVID, routing header, verified payload. -/
  | fpHost (port vc ldi src : Nat) (rh payload : Bytes)
  /-- `BA_RSP` (R445). -/
  | baRsp (tag status : Nat) (result : BitVec 64)
  /-- `SP_RSP` of a Spindle port (R446). -/
  | spRsp (port : Nat) (data : Line) (status : Nat) (last : Bool)
  /-- `BP_PUB_REC` (R447). -/
  | bpPub (record : BitVec 128)
  /-- `BP_FEN` (R449). -/
  | bpFence (handle ldi status cause : Nat)
  /-- `BP_ARR` (R449). -/
  | bpArr (index ldi bytes : Nat)
  /-- `CP_RSP`, or the HCP sub-port's response (R451). -/
  | cpRsp (data : BitVec 64)
  /-- The data register of DBG_ACCESS after the access (R459). -/
  | dbgRsp (data : BitVec 64)
  /-- The data register of a TAP instruction that is shifted out (R459): instruction code, bytes. -/
  | tapDr (code : BitVec 5) (data : Bytes)
  /-- A DMA read that a channel issues (R453): function, address, bytes. -/
  | dmaRead (chan func addr len : Nat)
  /-- A DMA write of a channel (R453). -/
  | dmaWrite (chan func addr : Nat) (data : Bytes)
  /-- `KP_REC` (R337). -/
  | kpRec (record : BitVec 384)
  /-- `TP_TX`: a Delay_Req with its `TP_TX_ID`, domain, master and sequence (R229, R455). -/
  | tpTx (id domain seq : Nat)
  /-- An MCTP message that the endpoint sends (R456). -/
  | mgTx (msgType : Nat) (body : Bytes)
  /-- `MG_TX`: one packet, from its transport header on (R456). -/
  | mgPacket (packet : Bytes)
  /-- A response in a secure session, as its AEAD protects it (R209, DSP0277). -/
  | spdmSecured (conn : Conn) (session : Nat) (message : Bytes)
  /-- An SPDM, TDISP or IDE_KM response on a connection (R207). -/
  | spdmRsp (conn : Conn) (session : Option Nat) (code : Nat) (body : Bytes)
  /-- `FU_REQ` (R457): operation 0 read, 1 program. -/
  | fuReq (op addr : Nat) (data : BitVec 32)
  deriving DecidableEq, Repr

end Sys2Proof.Machine
end

