-- ==== Sys2Proof/Machine/State/Batten.lean ====
section
/-!
DEFINITION. The state of Batten (spec/07_batten_reductions.md).
-/
namespace Sys2Proof.Machine

/-- Where a Batten request came from: `BA_` with its request number, or a Shuttle port. -/
inductive BSrc
  /-- Local work: the `BA_` request's number in `Batten.reqs`. -/
  | ba (req : Nat)
  /-- Remote work: port, source DEVID, virtual channel and, for an ATOMIC, its ASEQ. -/
  | port (p : Nat) (peer : Nat) (vc : Nat) (aseq : Nat)
  deriving DecidableEq, Repr

/-- What an entry does to its line (R149, R157). -/
inductive BWork
  /-- A fast-mode REDUCE of one line: operation, format and contribution. -/
  | reduce (op fmt : Nat) (data : Line)
  /-- A fast-mode MX REDUCE of one group: format, group base, first line, lines, and their scale bytes. -/
  | mx (fmt gbase first : Nat) (lines : List Line) (scales : Bytes)
  /-- A line of MSTORE. -/
  | store (data : Line)
  /-- A returning atomic (ATOMIC operation body). -/
  | atomic (offset aopc : Nat) (operand compare : BitVec 64)
  /-- A window contribution from data line `w` on: window and its opening (`RedWindow.nth`), lines and, for MX, their scale
  bytes. One line, or the lines of one MX group (R150). -/
  | exact (win nth w opfmt : Nat) (lines : List Line) (scales : Bytes)
  deriving DecidableEq, Repr

/-- A router entry (R150, R151). `seq` counts from the moment the router serves it. `applied`: applied and mirrored, waiting for
the mirror's acknowledgement. -/
structure BEntry where
  seq : Nat := 0
  src : BSrc := .ba 0
  work : BWork := .store 0
  dli : Nat := 0
  ldi : Nat := 0
  gen : Nat := 0
  ctx : Nat := 0
  fence : Nat := 0
  arr : Nat := 0
  annot : BitVec 32 := 0
  applied : Bool := false
  result : BitVec 64 := 0
  deriving DecidableEq, Repr

/-- What one applied entry waits for at its line's write-back (R155); `seq` is the entry's sequence number. -/
structure BPending where
  seq : Nat := 0
  src : BSrc := .ba 0
  ldi : Nat := 0
  fence : Nat := 0
  arr : Nat := 0
  atomic : Bool := false
  opfmt : Nat := 0
  deriving DecidableEq, Repr

/-- A line of a working line buffer (R153). -/
structure WLine where
  dli : Nat := 0
  ldi : Nat := 0
  gen : Nat := 0
  data : Line := 0
  dirty : Bool := false
  seq : Nat := 0
  owed : List BPending := []
  /-- A write-back has been issued through Weft and is not yet accepted. -/
  writing : Bool := false
  /-- FREERUN at the latest entry for the line, at the change that made it dirty, and at the first returning atomic applied
  since (R154). -/
  lastAt : Nat := 0
  dirtyAt : Nat := 0
  atomicAt : Option Nat := none
  deriving DecidableEq, Repr

/-- A mirror copy held for the partner (R153). -/
structure MLine where
  dli : Nat := 0
  data : Line := 0
  seq : Nat := 0
  deriving DecidableEq, Repr

/-- One unit number with the instance that serves it. `inbox` holds the entries that the router has accepted and not yet served,
in the order of acceptance, and `queue` the served ones that have not retired, in sequence order: at most 32 in all for each
source (R151). `turn` is the source that the router served last. `mirror` holds the copies of this unit's dirty lines in its
partner. -/
structure BUnit where
  /-- 0x00-0x0B for BU0-BU11, 0x80 for BUS0 (R169). -/
  instance_ : Nat := 0
  dead : Bool := false
  nextSeq : Nat := 0
  turn : Nat := 25
  inbox : List BEntry := []
  queue : List BEntry := []
  /-- Working lines, most recently used first. -/
  lines : List WLine := []
  mirror : List MLine := []
  /-- Lines whose fill read is outstanding. -/
  fills : List Nat := []
  /-- Failovers of the unit: answers to fill reads of an earlier number are discarded (R167 step 3). -/
  fillEpoch : Nat := 0
  deriving DecidableEq, Repr

/-- A `BA_` request whose lines are not all accepted (R155). `left` counts them. -/
structure BaOpen where
  tag : Nat := 0
  ldi : Nat := 0
  fence : Nat := 0
  left : Nat := 0
  deriving DecidableEq, Repr

/-- Window states (R159). -/
inductive WinState
  | open_
  | complete
  | failed
  deriving DecidableEq, Repr

/-- An accumulator element (07, 64-bit and 320-bit classes): VALUE in units of the format's exact LSB weight. -/
structure AccElem where
  value : Int := 0
  nan : Bool := false
  pinf : Bool := false
  ninf : Bool := false
  deriving DecidableEq, Repr

/-- An accumulator line record with its elements (07). -/
structure AccLine where
  applied : Nat := 0
  written : Bool := false
  lastSeq : Nat := 0
  elems : List AccElem := []
  /-- For MX: the block scale bytes that the final rounding chose for the line (R163). -/
  scales : Bytes := []
  deriving DecidableEq, Repr

/-- A window table entry (R159) with its accumulator lines. A line not listed has APPLIED 0. -/
structure RedWindow where
  base : Nat := 0
  lines : Nat := 0
  opfmt : Nat := 0
  ldi : Nat := 0
  state : WinState := .open_
  /-- The model's own: which opening of a window this is. -/
  nth : Nat := 0
  count : Nat := 0
  accUnits : Nat := 0
  arr : Nat := 0
  fence : Nat := 0
  done : Nat := 0
  acc : Map AccLine := []
  /-- MX groups whose scale line Weft has accepted (R162). -/
  scalesDone : List Nat := []
  deriving DecidableEq, Repr

/-- The Batten state. -/
structure Batten where
  units : Map BUnit := []
  /-- The unit number that BUS0 serves, when it is in use (R167). -/
  spare : Option Nat := none
  reqs : Map BaOpen := []
  nextReq : Nat := 0
  windows : Map RedWindow := []
  /-- Windows opened so far. -/
  nextWin : Nat := 0
  deriving DecidableEq, Repr

end Sys2Proof.Machine
end

