-- ==== Sys2Proof/Machine/State/Services.lean ====
section
/-!
DEFINITION. The state of Spindle, the key store, the entropy source, the SPDM responder and metering
(spec/08_spindle_determinism.md, spec/09_keys.md, spec/10_attestation.md).
-/
namespace Sys2Proof.Machine

/-- The key reference that an AES block carries into a pipeline (R191): a key store slot, or the TX_KEY or RX_KEY of an SA
entry. -/
inductive KeyRef
  | slot (i : Nat)
  | tx (peer : Nat)
  | rx (peer : Nat)
  deriving DecidableEq, Repr

/-- A stream table entry (R176). -/
structure Stream where
  stream : Nat := 0
  ldi : Nat := 0
  pulled : Nat := 0
  deriving DecidableEq, Repr

/-- A pull that its port holds (R175, R177): the beats from `next` on have not left, and the blocks in `late` were sent
to borrowed slots and have not returned. A nonzero `status` is what every beat still to leave carries, with zero
data. `ref` is the key reference that every block of the pull carries (R173, R191). -/
structure Pull where
  req : PullReq := ⟨0, 0, 0, 0, 0, 0, 0⟩
  next : Nat := 0
  late : List Nat := []
  since : Nat := 0
  status : Nat := 0
  ref : KeyRef := .slot 0
  deriving DecidableEq, Repr

/-- The Spindle state: the stream table and the pulls each port holds. -/
structure Spindle where
  streams : List Stream := []
  pulls : Map (List Pull) := []
  deriving DecidableEq, Repr

/-- A key slot (R191): TYPE, LDI, GEN, BUSY, the key field, and for a weight slot its KEY_ID (R218). -/
structure KeySlot where
  type : Nat := 0
  ldi : Nat := 0
  gen : Nat := 0
  busy : Bool := false
  key : Key := 0
  keyId : Nat := 0
  /-- The salt of a group key (R112). -/
  salt : Nat := 0
  deriving DecidableEq, Repr

/-- The key store and the identity area (R190, R191, R193, R201). An unlisted slot is empty. `rootReady`: RK_MEM,
the link signing key and the reset epoch have been generated since the last POR or SYSTEM reset. -/
structure Keys where
  slots : Map KeySlot := []
  rootReady : Bool := false
  epoch : BitVec 64 := 0
  /-- Seeds of the link signing key pair (32 + 56 bytes), present after R193. -/
  linkSeed : Bytes := []
  deviceIdSeed : Bytes := []
  cdi1 : Digest := 0
  aliasSeed : Bytes := []
  /-- The DeviceID certificate has been accepted, and the chain CA, DeviceID, Alias, Link as DER (R201). -/
  identity : Bool := false
  chain : Bytes := []
  /-- The Alias and the Link certificate have been issued and stand in the chain. -/
  aliasIssued : Bool := false
  linkIssued : Bool := false
  /-- `LCS_ZEROIZE` or fatal tamper has run since the last reset that regenerates keys (R200). -/
  zeroized : Bool := false
  deriving DecidableEq, Repr

/-- The entropy source and the DRBG (R202, R203). `draws` counts the values drawn: the DRBG's output is a free
value of Config applied to it. `testing`: a start-up test runs, as after each POR and SYSTEM reset. -/
structure Entropy where
  passed : Bool := false
  failed : Bool := false
  /-- Failures of a start-up or continuous test within the last second, by FREERUN. -/
  failTimes : List Nat := []
  testing : Bool := true
  /-- Start-up tests of the present run that have failed. -/
  tries : Nat := 0
  draws : Nat := 0
  requests : Nat := 0
  reseededAt : Nat := 0
  deriving DecidableEq, Repr

/-- How far a secure session has come (R211). -/
inductive SessionStage
  /-- KEY_EXCHANGE_RSP sent; the encapsulated request or FINISH is awaited. -/
  | exchanged
  /-- FINISH has verified. -/
  | open_
  deriving DecidableEq, Repr

/-- A logged reply of a path (R252, R253): SEQ and the 64 bytes. -/
structure LoggedReply where
  seq : Nat := 0
  reply : Bytes := []
  deriving DecidableEq, Repr

/-- The keys of one direction of a secure session (R209): the secret that they derive from, the AEAD key and IV, and the sequence
number of the next message. -/
structure DirKeys where
  secret : Bytes := []
  key : Key := 0
  iv : BitVec 96 := 0
  seq : Nat := 0
  deriving DecidableEq, Repr

/-- A secure session (R211, R213). `ldi` is the LDI it is bound to in class TENANT; `inbox` the command slot that a
VENDOR_DEFINED_REQUEST has brought and that Loom has not executed yet. -/
structure Session where
  conn : Conn := .mctp
  stage : SessionStage := .exchanged
  mutAuth : Bool := false
  gdid : Option Nat := none
  ldi : Option Nat := none
  /-- The requester's leaf key: its digest and its bytes, once delivered. -/
  leaf : Option (Digest × Bytes) := none
  /-- The shared secret of the key exchange, and the transcript of its messages. -/
  secret : Bytes := []
  transcript : Bytes := []
  /-- The requester's half of the session ID. -/
  reqSid : Nat := 0
  /-- Keys of requests and of responses; those of the open session while FINISH_RSP is owed. -/
  req : DirKeys := {}
  rsp : DirKeys := {}
  dataKeys : Option (DirKeys × DirKeys) := none
  /-- The session ends once its last response has been protected. -/
  ending : Bool := false
  lastMsg : Nat := 0
  inbox : Option Bytes := none
  running : Bool := false
  next : Nat := 0
  replyLog : List LoggedReply := []
  deriving DecidableEq, Repr

/-- One SPDM connection (R207): what has been negotiated, and the chunks in transfer. -/
structure SpdmConn where
  version : Bool := false
  caps : Bool := false
  algs : Bool := false
  transcript : Bytes := []
  /-- The messages of connection set-up, with which the transcript of every session begins. -/
  vca : Bytes := []
  /-- A large request being received by CHUNK_SEND: handle, next sequence, bytes so far. -/
  chunkIn : Option (Nat × Nat × Bytes) := none
  /-- A large response being read by CHUNK_GET: handle, next sequence, bytes left. -/
  chunkOut : Option (Nat × Nat × Bytes) := none
  nextHandle : Nat := 0
  deriving DecidableEq, Repr

/-- The SPDM responder. Connections by ring number, with 64 for MCTP. -/
structure Spdm where
  conns : Map SpdmConn := []
  sessions : Map Session := []
  nextSession : Nat := 1
  deriving DecidableEq, Repr

/-- A metering batch (R223). -/
structure MeterBatch where
  number : Nat := 0
  firstSeq : Nat := 0
  records : List Bytes := []
  /-- GDID and LDI of each record, for a TENANT's `MTR_READ` (R224). -/
  owners : List (Nat × Nat) := []
  openedAt : Nat := 0
  /-- Leaves of the closed batch whose staged record is lost (R383). -/
  lost : List Nat := []
  /-- Header and signatures, once the batch is closed. -/
  closed : Option (Bytes × Bytes) := none
  deriving DecidableEq, Repr

/-- The metering staging area (R223-R225). -/
structure Metering where
  nextSeq : Nat := 0
  nextBatch : Nat := 0
  batches : List MeterBatch := []
  /-- FINAL records that found no place (R225): GDID, LDI and bytes 8 to 111. -/
  held : List (Nat × Nat × Bytes) := []
  deriving DecidableEq, Repr

/-- Usage that an LDI has accrued since its last record (R221). Times are in ticks of FREERUN. -/
structure Usage where
  /-- Start of the interval: FREERUN, disciplined time and its flags. -/
  start : Nat := 0
  startTime : Time12 := ⟨0, 0, 0⟩
  startFlags : Nat := 0
  extended : Bool := false
  /-- FREERUN up to which the resource times below have accrued. -/
  upTo : Nat := 0
  compute : Nat := 0
  channel : Nat := 0
  port : Nat := 0
  granule : Nat := 0
  weft : Nat := 0
  shuttle : Nat := 0
  reductions : Nat := 0
  deriving DecidableEq, Repr

end Sys2Proof.Machine
end

