-- ==== Sys2Proof/Machine/State/Domains.lean ====
section
/-!
DEFINITION. The state of domains, granules, contexts, fences and arrival counters
(spec/02_domains.md, spec/06_shuttle_delivery.md R124, spec/15_sharing_migration.md).
-/
namespace Sys2Proof.Machine

/-- Domain states (R32), with the DOM_STATE codes of the report (R214). -/
inductive DomState
  | empty
  | building
  | sealed_
  | running
  | quiescing
  | aborted
  | retired
  deriving DecidableEq, Repr

/-- The grant of a domain, in the row order of the table of R37. -/
structure Grant where
  keys : Nat := 0
  granules : Nat := 0
  contexts : Nat := 0
  fences : Nat := 0
  arrs : Nat := 0
  acc : Nat := 0
  windows : Nat := 0
  selvedge : Nat := 0
  spindle : Nat := 0
  reply : Nat := 0
  deriving DecidableEq, Repr

/-- A slice entry: kind 0 compute slice, 1 memory channel, 2 port, and its ID (13, composition commands). -/
structure Slice where
  kind : Nat := 0
  id : Nat := 0
  deriving DecidableEq, Repr

/-- The state part of a migration as imported (R342, R343): the reserved objects. -/
structure MigState where
  gparts : Nat := 0
  seed : Option (BitVec 128) := none
  slots : List Nat := []
  /-- Fence index, producer slot, state, epoch, status and cause. -/
  fences : List (Nat × Nat × Nat × Nat × Nat × Nat) := []
  arrs : List (Nat × Nat × Nat) := []
  streams : List (Nat × Nat) := []
  deriving DecidableEq, Repr

/-- A migration of the LDI (R319-R344): its side, the peer, the pool slot of KMIG, and the parts. -/
structure Migration where
  source : Bool := true
  peer : Nat := 0
  slot : Nat := 0
  nextIndex : Nat := 0
  imported : List Nat := []
  stateDone : Bool := false
  reserved : Option MigState := none
  deriving DecidableEq, Repr

/-- One LDI (R29-R37). -/
structure Domain where
  state : DomState := .empty
  gen : Nat := 0
  gdid : Nat := 0
  fdt : Nat := 0
  rank : Nat := 0
  members : Nat := 0
  policy : BitVec 32 := 0
  tkd : Digest := 0
  vmfn : Nat := 0
  grant : Grant := {}
  errFence : Nat := 0
  retiring : Bool := false
  /-- MAP_CUR and OPEN (R140). -/
  mapCur : Nat := 0
  mapOpen : Bool := false
  slices : List Slice := []
  /-- Bindings that belong only to the old map while OPEN is 1 (R143, R144). -/
  oldSlices : List Slice := []
  /-- Tree neighbours by POS (R391, R450). -/
  neighbours : Map Nat := []
  /-- Squall has been sent or forwarded for this instance (R392); for an abort whose Squall has not left (R372). -/
  squalled : Bool := false
  jobSeed : Option (BitVec 128) := none
  /-- Tenant consent, and FINE_EVER (R217, R422). -/
  consent : Bool := false
  fineEver : Bool := false
  frozen : Bool := false
  mig : Option Migration := none
  usage : Usage := {}
  meterNext : Nat := 0
  counters : Map Nat := []
  coarse : Map Nat := []
  deriving DecidableEq, Repr

/-- Granule states (R38). -/
inductive GranState
  | free
  | owned
  | scrubbing
  | held
  deriving DecidableEq, Repr

/-- A GOT entry (R38). -/
structure GotEntry where
  ldi : Nat := 0
  gen : Nat := 0
  state : GranState := .free
  cslot : Nat := 0
  deriving DecidableEq, Repr

/-- A live context (R44, R271). -/
structure Context where
  ldi : Nat := 0
  slot : Nat := 0
  queues : List Nat := []
  releasing : Bool := false
  deriving DecidableEq, Repr

/-- Fence states (R45). -/
inductive FenceState
  | free
  | armed
  | signalled
  deriving DecidableEq, Repr

/-- A fence table entry (R45). -/
structure Fence where
  ldi : Nat := 0
  producer : Nat := 0
  state : FenceState := .free
  epoch : Nat := 0
  status : Nat := 0
  cause : Nat := 0
  deriving DecidableEq, Repr

/-- An arrival counter entry (R124) with its owner; owner 0 is not allocated. -/
structure Arrival where
  ldi : Nat := 0
  bytes : Nat := 0
  fence : Nat := 0
  deriving DecidableEq, Repr

/-- Who carried a status to the fence table (R380, DETAIL [55:48]). -/
inductive FenceOrigin
  | weft
  | shuttle
  | batten
  | loom
  | spindle
  | report
  deriving DecidableEq, Repr

/-- A status on its way to the fence table (R47, R51, R77). -/
structure FenceMsg where
  ldi : Nat := 0
  handle : Nat := 0
  status : Nat := 0
  origin : FenceOrigin := .weft
  deriving DecidableEq, Repr

/-- An FDT in quarantine or waiting to enter it (R54): the peers that have not reported RETIRED, the moment of its
entry, and the later of the moments from which the 10 ms count. -/
structure Quarantined where
  fdt : Nat := 0
  gdid : Nat := 0
  peers : List Nat := []
  since : Nat := 0
  deriving DecidableEq, Repr

/-- The tables of domains, granules, contexts, fences and arrival counters. -/
structure Tables where
  domains : Map Domain := []
  got : Map GotEntry := []
  contexts : Map Context := []
  fences : Map Fence := []
  /-- Indices freed since reset, least recently freed first; indices from `fenceFresh` on were never used. -/
  fenceFreed : List Nat := []
  fenceFresh : Nat := 1
  arrs : Map Arrival := []
  arrFreed : List Nat := []
  arrFresh : Nat := 1
  fenceQ : List FenceMsg := []
  quarantine : List Quarantined := []
  quarWait : List Quarantined := []
  deriving DecidableEq, Repr

end Sys2Proof.Machine
end

