-- ==== Sys2Proof/Machine/State/Loom.lean ====
section
/-!
DEFINITION. The state of Loom's command protocol, journal, records, counters, trace and freezes
(spec/12_command_protocol.md, spec/18_recovery.md, spec/20_observability.md, spec/22_registers.md).
-/
namespace Sys2Proof.Machine

/-- One ring's registers (22, ring registers) and reply log (R253). `heldTail` is the latest RING_TAIL write received
during a CORE reset (R468); `running` says that the oldest command fetched has no reply yet (R257). -/
structure Ring where
  tail : Nat := 0
  head : Nat := 0
  next : Nat := 0
  reply : Nat := 0
  evt : Bool := false
  badTail : Bool := false
  heldTail : Option Nat := none
  running : Bool := false
  replyLog : List LoggedReply := []
  deriving DecidableEq, Repr

/-- A command path (R243). -/
inductive Path
  | ring (i : Nat)
  | session (sid : Nat)
  | peer (devid : Nat)
  deriving DecidableEq, Repr

/-- What a suspended command waits for (R257). -/
inductive Wait
  /-- The acknowledgement of a SYNC (R448). -/
  | bp (seq : Nat)
  /-- The LDI's in-flight counts are zero (R53 step 4, R319 step 1). -/
  | inflight (ldi : Nat)
  /-- The scrub engine has finished the granules of the journal entry (R40). -/
  | scrub
  /-- The scan of the journal entry has ended (R182, R86). -/
  | scan
  /-- Every named SA is VALID or FAILED, or FREERUN has reached the deadline (R293). -/
  | sas (peers : List Nat) (deadline : Nat)
  /-- The tally of R142 is zero, or `REBIND_SQUASH_TIMEOUT` has squashed (R144). -/
  | tally (ldi : Nat)
  /-- The group key is installed (R112). -/
  | groupKey (ldi gid : Nat)
  /-- The OTP job is finished (R351). -/
  | otp
  /-- The offset measurement has ended or its deadline has passed (R239). -/
  | measure (ldi deadline : Nat)
  /-- The answer of D to the POLICY of a freeze (R339). -/
  | policy (ldi : Nat)
  /-- Bytes of a host DMA read (R453). -/
  | dma
  /-- The entropy source has passed its start-up test again (R200, R203). -/
  | entropy
  /-- The accepted pulls of the LDI have left (R192). -/
  | pulls (ldi : Nat)
  /-- The SPDM response that `ATT_SESSION_OPEN` carries (R300). -/
  | answer
  /-- Nothing: the next step can run. -/
  | ready
  deriving DecidableEq, Repr

/-- What remains of a suspended command. `res` are result bytes from reply offset 24 (R249). -/
inductive Cont
  /-- Only the reply (R271, R273, R284, R290). -/
  | reply (res : Bytes)
  | releaseContext (ldi ctx : Nat)
  | quiesce (ldi : Nat)
  | retireDrain (ldi weft shuttle batten : Nat)
  | retireUnbind (ldi weft shuttle batten : Nat)
  /-- `MEM_ASSIGN`: the granules assigned, and those not yet HELD. -/
  | assign (ldi cslot done : Nat) (rest : List Nat)
  | scan (ldi : Nat)
  /-- `MEM_IMPORT_BLOB`: slot, source, blob length, and the bytes received. -/
  | importBlob (ldi slot src blobLen : Nat) (got : Bytes)
  /-- The target of a failed import or part is being zeroed; `lines` had been written. -/
  | zeroing (ldi lines index : Nat) (part : Bool)
  | prepare (ldi : Nat)
  | commitWait (ldi drained squashed deadline : Nat)
  | commitClose (ldi drained squashed : Nat)
  | saWarm (peers : List Nat)
  /-- `SPN_STREAM_CLOSE` of the last stream: PULLED. -/
  | streamClose (ldi pulled : Nat)
  | groupCreate (ldi gid slot entries deadline : Nat)
  | measure (ldi : Nat)
  | transition (target : Nat)
  | unlock (target : Nat)
  /-- `LCS_ZEROIZE`: the domains it aborted. -/
  | zeroized (domains : Nat)
  | freezeDrain (ldi dest epoch : Nat)
  | freezePolicy (ldi dest slot deadline : Nat) (nonce : BitVec 256)
  | export_ (ldi first count dst : Nat) (index slot : Nat)
  /-- `MIG_EXPORT`: a part of this kind has been written; its result. -/
  | exportWrite (ldi kind : Nat) (result : Bytes)
  | importPart (ldi src len : Nat) (got : Bytes)
  /-- `ATT_SESSION_OPEN`: the response. -/
  | spdm (message : Bytes)
  deriving DecidableEq, Repr

/-- A journal entry in INTENT (R261): allocation, intent and commit fall into one step, so no entry stands in another
state. -/
structure JEntry where
  jid : Nat := 0
  path : Path := .ring 0
  /-- Command slot, SEQ, OPCODE, header LDI, QUIET, and the buffer (BUF_OFF, BUF_LEN). -/
  slot : Nat := 0
  seq : Nat := 0
  opcode : Nat := 0
  ldi : Nat := 0
  quiet : Bool := false
  bufOff : Nat := 0
  bufLen : Nat := 0
  /-- CONTEXT and ANNOT of the header, for the trace (R424). -/
  ctx : Nat := 0
  annot : BitVec 64 := 0
  journaled : Bool := true
  wait : Wait := .ready
  cont : Cont := .reply []
  /-- The index of the last applied step (R261). -/
  done : Nat := 0
  /-- The LDI's domain at the last commit before the intent, for the readers of R258. -/
  before : Option Domain := none
  /-- The objects that it locks, as they stood then: key slots, granules, windows. -/
  beforeSlots : Map KeySlot := []
  beforeGot : Map GotEntry := []
  beforeWindows : Map RedWindow := []
  /-- Bindings that it adds and removes (R284, R285). -/
  adds : List Slice := []
  rems : List Slice := []
  /-- Locks held (R259): the domain record of the LDI, granules, SAs, ports, contexts, fences, key slots. -/
  lockDomain : Bool := false
  /-- Domain records, offset measurements and migration records of LDIs that a command changes. -/
  lockDomains : List Nat := []
  lockOffsets : List Nat := []
  lockMigs : List Nat := []
  lockGranules : List Nat := []
  lockPorts : List Nat := []
  lockFences : List Nat := []
  lockContexts : List Nat := []
  lockSlots : List Nat := []
  lockPeers : List Nat := []
  /-- Compute slices, windows, arrival counters, streams (by `streamKey`) and groups (by `groupKeyOf`) locked (R259). -/
  lockSlices : List Nat := []
  lockWindows : List Nat := []
  lockArrs : List Nat := []
  lockStreams : List Nat := []
  lockGroups : List Nat := []
  /-- The life-cycle state is locked (R351). -/
  lockLcs : Bool := false
  /-- An abort has overtaken the command (R259). -/
  overtaken : Bool := false
  deriving DecidableEq, Repr

/-- What an engine of Loom does with a region of lines (R86, R179, R180, R220, R341). -/
inductive ScanKind
  | verify
  | zero
  | finger
  | digest
  | export_
  | import_
  deriving DecidableEq, Repr

/-- A pass over lines `next` to `stop - 1` for the command `jid` (R181-R183, R86, R220, R341): at most one line
outstanding. `y` is the fingerprint so far, `data` what a digest or an export has read; `begun` says that its engine has
taken it up. A nonzero `status` ends it. -/
structure Scan where
  jid : Nat := 0
  kind : ScanKind := .verify
  ldi : Nat := 0
  gen : Nat := 0
  next : Nat := 0
  stop : Nat := 0
  begun : Bool := false
  out : Bool := false
  /-- The sequencers of a fingerprint (R182): the line that each lane has come to, and the lanes with a line outstanding. -/
  heads : Map Nat := []
  outs : List Nat := []
  count : Nat := 0
  failed : Nat := 0
  skipped : Nat := 0
  fseed : Bytes := []
  y : BitVec 128 := 0
  data : Bytes := []
  status : Nat := 0
  deriving DecidableEq, Repr

/-- The error log (R380, R381, R473): the staging queue, the records by place, the SEQ of the next record made, and
of the newest written. -/
structure ErrorLog where
  queue : List Bytes := []
  places : Map Bytes := []
  nextSeq : Nat := 1
  newest : Nat := 0
  /-- Suppression (R93, R117, R169, R188, R242, R46, R413): per kind, FREERUN of the latest record and the
  count of records not made since. -/
  quiet : List (Nat × Nat × Nat × Nat × Nat) := []
  deriving DecidableEq, Repr

/-- An annotation-table entry (R416). -/
structure Annot where
  value : BitVec 32 := 0
  marker : Bool := false
  command : Bool := false
  ldi : Nat := 0
  count : Nat := 0
  deriving DecidableEq, Repr

/-- An armed freeze (R418, R419). `scope1` carries the LDI. T in units of 2^-16 ns. -/
structure ArmedFreeze where
  ldi : Nat := 0
  id : Nat := 0
  t : Time12 := ⟨0, 0, 0⟩
  unaligned : Bool := false
  deriving DecidableEq, Repr

/-- A frozen set (R418). -/
structure FrozenSet where
  ldi : Nat := 0
  id : Nat := 0
  t : Time12 := ⟨0, 0, 0⟩
  tstate : Nat := 0
  unaligned : Bool := false
  late : Bool := false
  values : Map Nat := []
  coarse : Map Nat := []
  annots : Map Annot := []
  deriving DecidableEq, Repr

/-- Block counters, their level-0 snapshots, the annotation table and the freezes (R414-R421). -/
structure Counters where
  block : Map Nat := []
  coarse : Map Nat := []
  powerCoarse : Map Nat := []
  snapAt : Nat := 0
  powerSnapAt : Nat := 0
  powerAt : Nat := 0
  /-- Energy below 1 mJ, in mW ticks. -/
  energyRest : Nat := 0
  annots : Map Annot := []
  armed : List ArmedFreeze := []
  sets : List FrozenSet := []
  lastId : Nat := 0
  /-- FREEZE_IDs seen (R419). -/
  seenIds : List Nat := []
  /-- Register accesses that R330, R461, R463, R467 and R475 count, for which chapter 20 gives no counter. -/
  refused : Nat := 0
  /-- Corrected reads that `MP_RD_ECC` reports (R441), for which chapter 20 gives no counter. -/
  corrected : Nat := 0
  /-- Messages that the spec drops and counts, for which chapter 20 gives no counter (R36, R54, R99, R134, R135,
  R254). -/
  dropped : Nat := 0
  deriving DecidableEq, Repr

/-- Traffic of one instance in the current 1 µs period (R425): source, instance, LDI, annotation, bytes. -/
structure Segment where
  src : Nat := 0
  inst : Nat := 0
  ldi : Nat := 0
  annot : BitVec 32 := 0
  ctx : Nat := 0
  bytes : Nat := 0
  /-- FREERUN at its first bytes. -/
  at_ : Nat := 0
  deriving DecidableEq, Repr

/-- The trace (R422-R429). Records by index; the trigger log by its own index. -/
structure Trace where
  mode : Nat := 0
  sources : BitVec 16 := 0
  trigValue : BitVec 32 := 0
  trigMask : BitVec 32 := 0
  records : Map Bytes := []
  nextIndex : Nat := 0
  written : Nat := 0
  /-- Records that may still be written after the trigger (TRIGGER_CENTRED). -/
  triggered : Option Nat := none
  log : Map Bytes := []
  logNext : Nat := 0
  segments : List Segment := []
  /-- Index and first 4 bytes of records that newer ones have replaced since the configuration, and the same of the log. -/
  gone : Map Bytes := []
  logGone : Map Bytes := []
  deriving DecidableEq, Repr

/-- The event registers (22, events). -/
structure Events where
  status : BitVec 13 := 0
  enable : BitVec 13 := 0
  integ : BitVec 256 := 0
  abort : BitVec 256 := 0
  deriving DecidableEq, Repr

/-- The binding port (R447-R450): next SEQ, the highest acknowledged, and the host's PRESENT ranges by kind. -/
structure Binding where
  nextSync : Nat := 1
  acked : Nat := 0
  queues : List (Nat × Nat) := []
  slices : List (Nat × Nat) := []
  deriving DecidableEq, Repr

/-- The crash dump (R382): its header and command area, whether it has been read to the end. -/
structure Dump where
  head : Bytes := []
  cmds : Bytes := []
  time : Time12 := ⟨0, 0, 0⟩
  readEnd : Bool := false
  /-- Words that a double-bit error has discarded (R383). -/
  lost : List Nat := []
  deriving DecidableEq, Repr

/-- An abort whose domain is marked while Loom does not run (R392, R385, R430): what remains of R34. `begun`: only the fence
signals and the journal entry remain. -/
structure DueAbort where
  ldi : Nat := 0
  gen : Nat := 0
  cause : Nat := 0
  origin : Bool := false
  begun : Bool := false
  deriving DecidableEq, Repr

/-- Loom: rings, journal, scans, records, counters, trace, events. The mailbox is in `State.mailbox`. -/
structure Loom where
  rings : Map Ring := []
  nextJid : Nat := 1
  lastJid : Nat := 0
  /-- The model's own field: read-only commands run, which numbers those that wait. -/
  readRuns : Nat := 0
  /-- The place of R257's rotation that is looked at first. -/
  turn : Nat := 0
  journal : List JEntry := []
  /-- Internal entries in progress: the lane that fails over, and its JID (R88). -/
  failovers : List (Nat × Nat) := []
  scans : List Scan := []
  /-- Headers of the last 512 commands fetched, newest first (R382). -/
  headers : List Bytes := []
  ringsOpen : Bool := false
  portsOpen : Bool := false
  /-- A CORE restart is in progress (R385). -/
  restarting : Bool := false
  halted : Bool := false
  /-- The cores stop at the next boundary and the engines drain (R430). -/
  halting : Bool := false
  bps : List Nat := []
  /-- The PC at which the cores halted. -/
  haltPc : Nat := 0
  /-- The draw under which the registers of the cores stand while halted, before they are written. -/
  haltDraw : Nat := 0
  /-- Registers of the cores written through the debug window (R431), by window offset; both cores alike. -/
  coreRegs : Map (BitVec 64) := []
  arrStore : Nat := 0
  arrWord : Nat := 0
  /-- Loom has stopped refreshing the watchdog since this FREERUN (R383). -/
  escalated : Option Nat := none
  expiries : List Nat := []
  dump : Option Dump := none
  abortsDue : List DueAbort := []
  deriving DecidableEq, Repr

end Sys2Proof.Machine
end

