-- ==== Sys2Proof/Machine/State/Platform.lean ====
section
/-!
DEFINITION. The state of OTP and life cycle, resets, clocks, supply, boot, the host command processor, debug rights,
Barometer, the host link and management (spec/15, 16, 17, 19, 21, 22, 23).
-/
namespace Sys2Proof.Machine

/-- A program request still to be made of the OTP macro (R347, R457). -/
structure OtpWrite where
  addr : Nat := 0
  bits : BitVec 32 := 0
  deriving DecidableEq, Repr

/-- OTP and life cycle (R345-R357). A word not listed reads 0. `job` are the programs still to be requested, `busy`
the request outstanding on `FU_`. -/
structure Otp where
  words : Map (BitVec 32) := []
  job : List OtpWrite := []
  busy : Option OtpWrite := none
  lcs : Nat := 0
  zeroizedFlag : Bool := false
  mismatches : Nat := 0
  /-- FREERUN at which the SYSTEM reset of R351 step 5 is due. -/
  resetDue : Option Nat := none
  deriving DecidableEq, Repr

/-- Reset levels (R369). -/
inductive ResetLevel
  | core
  | system
  | por
  deriving DecidableEq, Repr

/-- Where the reset sequencer stands (R370-R375). -/
inductive ResetPhase
  /-- No reset is in progress. -/
  | idle
  /-- A SYSTEM or CORE request is held (R372): level, cause, PENDED, and the holds that were found. -/
  | held (level : ResetLevel) (cause : Nat) (pended otpHeld squallHeld : Bool)
  /-- The holds have ended; the reset takes effect next. -/
  | due (level : ResetLevel) (cause : Nat) (pended otpHeld squallHeld : Bool)
  /-- POR is asserted. -/
  | por
  /-- A request latched while CK_ROOT is stopped (R371). -/
  | latched (level : ResetLevel) (cause : Nat)
  deriving DecidableEq, Repr

/-- Clocks, resets, supply (R363-R378). -/
structure Power where
  phase : ResetPhase := .idle
  cause : Nat := 1
  pended : Bool := false
  otpHeld : Bool := false
  squallHeld : Bool := false
  rootValid : Bool := true
  rootLost : Bool := false
  crossFault : Bool := false
  faultInst : Nat := 0
  hold : Bool := false
  /-- FREERUN at the latest recognised assertion of `PW_WARN_N`. -/
  warnAt : Nat := 0
  /-- FREERUN at which the holds of R372 began, and the Squalls still to leave: LDI and cause. -/
  heldAt : Nat := 0
  squalls : List (Nat × Nat) := []
  /-- `EV_FATAL` (R395). -/
  fatal : Bool := false
  /-- Tamper events counted by input (R408). -/
  tamperCount : Map Nat := []
  deriving DecidableEq, Repr

/-- Boot phases (R346, R481-R484). -/
inductive BootPhase
  /-- The ROM has not decoded the life cycle yet. -/
  | rom
  /-- The ROM has decoded the life cycle, and the programs of the decode are under way (R346, R353, R357). -/
  | decode
  /-- The ROM polls the boot descriptor; an image with this SEQ was rejected, if any. -/
  | poll (rejected : Option Nat)
  /-- An accepted image starts once its SVN bits are programmed: the SEQ of its descriptor, and its bundle (R483). -/
  | starting (seq : Nat) (bundle : Bytes)
  /-- The firmware runs; the SEQ of its descriptor, and of a refused bundle. -/
  | running (seq : Nat)
  /-- SCRAP: nothing runs. -/
  | dead
  deriving DecidableEq, Repr

/-- Firmware, DEVID and the host command processor (R201, R452, R463, R481-R484). -/
structure Boot where
  phase : BootPhase := .rom
  fwDigest : Digest := 0
  fwSvn : Nat := 0
  /-- The content of firmware SRAM: the header and the code of the accepted image (R482). -/
  image : Bytes := []
  /-- A firmware SRAM word has been damaged since the image was loaded (R376). -/
  imageBad : Bool := false
  devid : Nat := 0xFFFF
  devidSet : Bool := false
  hcpDigest : Digest := 0
  /-- The HCP rings are closed (R21, R452). -/
  hcpClosed : Bool := true
  deriving DecidableEq, Repr

/-- An active debug certificate (R306, R361): its rights, notAfter in seconds, and its slot of `DBG_CERTS`. -/
structure DebugCert where
  rights : BitVec 8 := 0
  notAfter : Nat := 0
  slot : Nat := 0
  deriving DecidableEq, Repr

/-- Debug authorisation (R306, R358-R361). -/
structure Debug where
  certs : Map DebugCert := []
  nextCert : Nat := 1
  nonce : Option (BitVec 256) := none
  nonceUntil : Nat := 0
  /-- The DBG_ACCESS data register and DONE (R459). -/
  drData : BitVec 64 := 0
  drDone : Bool := false
  /-- The TAP's instruction register: IDCODE after its reset (R459). -/
  tapIr : BitVec 5 := 1
  deriving DecidableEq, Repr

/-- One activity bin of an instance (R403, R409): learned values, trained epochs, and the running epoch's sample
count and envelope. -/
structure Bin where
  lm : Nat := 0
  ld : Nat := 0
  lg : Nat := 0
  epochs : Nat := 0
  samples : Nat := 0
  em : Nat := 0
  ed : Nat := 0
  eg : Nat := 0
  /-- The tamper score rose during the epoch (R410). -/
  spoiled : Bool := false
  deriving DecidableEq, Repr

/-- One instance's sensor set (R399-R413). -/
structure Sensor where
  stretch : Nat := 0
  score : Nat := 0
  soft : Nat := 0
  exc : Nat := 0
  bin : Nat := 0
  rawM : Nat := 0
  rawD : Nat := 0
  rawW : Nat := 0
  /-- Levels of the last 1 ms, each with its latest time, newest first: those that no later level has reached (R412). -/
  peaks : List (Nat × Nat) := []
  /-- Consecutive samples that let s fall (R401), and the last soft alarm and excursion. -/
  calm : Nat := 0
  softAt : Option Nat := none
  excAt : Option Nat := none
  fullStretch : Nat := 0
  bins : Map Bin := []
  deriving DecidableEq, Repr

/-- The Barometer. An unlisted instance is as after POR. While a window is open, `held` holds the sensor sets as
they stood when it opened: decisions use their learned values (R410). -/
structure Baro where
  sensors : Map Sensor := []
  window : Option Nat := none
  held : Map Sensor := []
  /-- The status registers as last refreshed (R472). -/
  regs : List (BitVec 64) := []
  regsAt : Nat := 0
  /-- Whole microseconds of FREERUN up to which the scores have fallen (R407). -/
  decayedUs : Nat := 0
  deriving DecidableEq, Repr

/-- TDI states (R333). -/
inductive TdiState
  | unlocked
  | locked
  | run
  | error
  deriving DecidableEq, Repr

/-- One function's TDI and selective IDE stream (R333-R337) with its active key sets. -/
structure Tdi where
  state : TdiState := .unlocked
  nonce : BitVec 256 := 0
  stream : Option Nat := none
  active : List Nat := []
  deriving DecidableEq, Repr

/-- What the acknowledgement of a `KP_` record completes (R335, R336). -/
inductive KpDone
  | none
  /-- The pool slot to zero, unless its key has ended already; on the last record, the response to deliver: an empty one when the
  keys that it carried have ended. -/
  | install (slot : Option Nat) (last : Option (Conn × Option Nat × Bytes))
  /-- GO or STOP of a key set; on the last record, K_GOSTOP_ACK. -/
  | gostop (func keySet : Nat) (go : Bool) (last : Option (Conn × Option Nat))
  deriving DecidableEq, Repr

/-- A record on `KP_` (R337, R458): sent and unacknowledged, or waiting for a place. `gone`: an INSTALL whose key has ended; one
that waits is not sent. -/
structure KpRec where
  record : BitVec 384 := 0
  done : KpDone := .none
  gone : Bool := false
  deriving DecidableEq, Repr

/-- The host link and management endpoint. -/
structure HostLink where
  tdis : Map Tdi := []
  /-- Unacknowledged records, oldest first (at most 8), and records that wait. -/
  kpOut : List KpRec := []
  kpWait : List KpRec := []
  eid : Nat := 0
  deriving DecidableEq, Repr

/-- Build facts (R2-R5, R462): never written by a step. -/
structure Build where
  lanes : Nat := 128
  engines : Nat := 24
  weave2k : Bool := true
  pool : Bool := false
  deriving DecidableEq, Repr

end Sys2Proof.Machine
end

