-- ==== Sys2Proof/Machine/State/Shuttle.lean ====
section
/-!
DEFINITION. The state of the Shuttle engines (spec/05_shuttle_security.md, spec/06_shuttle_delivery.md).
-/
namespace Sys2Proof.Machine

/-- A replay window (R102, R103). `top` is t. A counter has its bit set when it lies below `floor` or stands in
`seen`; counters below t - 4095 lie outside the window and leave `seen`. -/
structure Window where
  top : Nat := 0
  floor : Nat := 0
  seen : List Nat := []
  /-- RX_TOP: t as last written to the central table (R103, R389). -/
  saved : Nat := 0
  deriving DecidableEq, Repr

/-- The states of an SA table entry (R104). -/
inductive SaState
  | free
  | pending
  | valid
  | lost
  | failed
  deriving DecidableEq, Repr

/-- The keys of an SA (R104, R197). -/
structure SaKeys where
  txKey : Key := 0
  rxKey : Key := 0
  txSalt : BitVec 32 := 0
  rxSalt : BitVec 32 := 0
  /-- K_CONF, which ends with SA_DONE (R197). -/
  confirm : BitVec 384 := 0
  deriving DecidableEq, Repr

/-- One domain's POLICY exchange with the peer of an SA (R36): the word has been sent, and the word received; the peer
has reported RETIRED (R54). -/
structure PolicyExch where
  sent : Bool := false
  retired : Bool := false
  got : Option (BitVec 32) := none
  deriving DecidableEq, Repr

/-- A pair handshake in progress (R105, R106). Messages are kept as their bodies, for the transcript. -/
structure Handshake where
  /-- This device sent SA_INIT. -/
  initiator : Bool := true
  /-- Established lazily, by a packet that needed it (FLAGS [1] of R104). -/
  lazily : Bool := true
  initBody : Bytes := []
  respBody : Bytes := []
  finBody : Bytes := []
  /-- The own ephemeral secret: the DRBG draw that made it (R105). -/
  secret : Nat := 0
  /-- The step waits for CHAIN before it verifies (R105). -/
  waitChain : Bool := false
  /-- The responder's shared secrets, kept until SA_FIN verifies. -/
  shared : Bytes := []
  /-- A message waiting for the chain. -/
  waiting : Bytes := []
  deriving DecidableEq, Repr

/-- One SA table entry (R104) with what the home engine holds beside it (R100, R109, R137). -/
structure Sa where
  state : SaState := .free
  keys : SaKeys := {}
  txNext : Nat := 0
  win : Window := {}
  peerEpoch : Nat := 0
  peerId : Bytes := []
  /-- FW_SVN of the peer's pair evidence (R339). -/
  peerSvn : Nat := 0
  established : Bool := false
  lazily : Bool := false
  failReason : Nat := 0
  /-- FREERUN at the last verified packet received, at the last packet sent, at the last packet other than
  KEEPALIVE in either direction, and at the entry into FAILED. -/
  lastRx : Nat := 0
  lastTx : Nat := 0
  lastData : Option Nat := none
  /-- FREERUN at which the present run of packets other than KEEPALIVE, none of them 100 µs apart, began (R109). -/
  dataSince : Nat := 0
  failedAt : Nat := 0
  /-- LDIs for which a verified packet has come since the domain became RUNNING here (R109). -/
  heard : List Nat := []
  /-- TX_ASEQ and RX_ACK (R131). -/
  txAseq : Nat := 0
  rxAck : Nat := 0
  /-- The highest ACK value that a descriptor has carried, and since when it lags (R137). -/
  ackCarried : Nat := 0
  ackSince : Option Nat := none
  /-- LDI and ROUTE (port, virtual channel) of the atomic whose response came last (R137). -/
  lastAtom : Option (Nat × Nat × Nat) := none
  /-- LDI and ROUTE of each domain's most recent atomic on the SA (R137). -/
  atomRoute : Map (Nat × Nat) := []
  /-- POLICY exchanges by GDID (R36). -/
  policy : Map PolicyExch := []
  deriving DecidableEq, Repr

/-- A reply cache entry (R132): PENDING (`reply = false`) or REPLY. -/
structure RcEntry where
  reply : Bool := false
  ldi : Nat := 0
  peer : Nat := 0
  aseq : Nat := 0
  fence : Nat := 0
  status : Nat := 0
  ready : Bool := false
  executed : Bool := false
  port : Nat := 0
  vc : Nat := 0
  due : Nat := 0
  result : BitVec 64 := 0
  deriving DecidableEq, Repr

/-- A multicast group of a domain on this member (R112, R113). -/
structure Group where
  ldi : Nat := 0
  gid : Nat := 0
  /-- Ranks that send to the group, and whether this device is one of them. -/
  senders : List Nat := []
  /-- The pool slot that its key and salt take (R190, R191), and whether the key has come. -/
  slot : Nat := 0
  keyed : Bool := false
  txNext : Nat := 0
  /-- Replay windows by sender DEVID: the multicast replay table (R113). -/
  wins : Map Window := []
  deriving DecidableEq, Repr

/-- A GROUP_KEY that arrived before the local create (R112). -/
structure HeldGroupKey where
  peer : Nat := 0
  gdid : Nat := 0
  gid : Nat := 0
  key : Key := 0
  salt : Nat := 0
  expires : Nat := 0
  deriving DecidableEq, Repr

/-- A verified control message that waits for Loom (R99): peer, type, whether it came under HS, body, and FREERUN
and the time counter at its arrival. -/
structure CtrlMsg where
  peer : Nat := 0
  type : Nat := 0
  body : Bytes := []
  port : Nat := 0
  at_ : Nat := 0
  time : Time12 := ⟨0, 0, 0⟩
  deriving DecidableEq, Repr

/-- Fragments of a control message received so far (R99). -/
structure Partial where
  peer : Nat := 0
  type : Nat := 0
  count : Nat := 0
  parts : Map Bytes := []
  deriving DecidableEq, Repr

/-- A verified data packet that waits inside the engine (R120, R151): an ATOMIC or NACK for its own handling, a
Batten packet whose entries do not fit yet, and every packet behind one of these on its port and virtual channel. -/
structure RxPkt where
  port : Nat := 0
  vc : Nat := 0
  src : Nat := 0
  ldi : Nat := 0
  mapgen : Nat := 0
  hdrFlags : Nat := 0
  ctr : Nat := 0
  rh : Bytes := []
  /-- The group ID that came with a multicast packet. -/
  group : Nat := 0
  payload : Bytes := []
  deriving DecidableEq, Repr

/-- One engine number with the instance that serves it (R100, R386). -/
structure Engine where
  /-- 0x00-0x17 for SE0-SE23, 0x80-0x81 for the spares (R117). -/
  instance_ : Nat := 0
  dead : Bool := false
  /-- SAs whose windows the store holds, most recently used first (R103): (peer, false) or (group key, true). -/
  held : List (Nat × Nat × Bool) := []
  deriving DecidableEq, Repr

/-- The Shuttle state. -/
structure Shuttle where
  /-- Port classes that differ from SEALED (R94): 0 CLEAR, 1 AUTH. -/
  portClass : Map Nat := []
  engines : Map Engine := []
  /-- Spares in use: spare number and the port it serves (`FP_SPARE_SEL`, R444). -/
  spares : Map Nat := []
  sas : Map Sa := []
  handshakes : Map Handshake := []
  /-- Identity chains held, by peer DEVID. -/
  chains : Map Bytes := []
  rcache : List RcEntry := []
  /-- Groups by LDI * 65536 + group ID. -/
  groups : Map Group := []
  groupHold : List HeldGroupKey := []
  ctrlIn : List CtrlMsg := []
  partials : List Partial := []
  rxq : List RxPkt := []
  deriving DecidableEq, Repr

end Sys2Proof.Machine
end

