-- ==== Sys2Proof/Machine/State/Time.lean ====
section
/-!
DEFINITION. The state of the time unit (spec/11_time.md).
-/
namespace Sys2Proof.Machine

/-- The time states (R235), with the codes of the report (R214). -/
inductive TimeState
  | unknown
  | acquiring
  | locked
  | holdover
  | untrusted
  deriving DecidableEq, Repr

/-- A master heard by Announce (R232), by clockIdentity: the times of its latest Announces, its logAnnounceInterval and its
dataset. -/
structure Master where
  announces : List Nat := []
  interval : Int := 0
  utcOffset : Int := 0
  priority : List Nat := []
  qualified : Bool := false
  deriving DecidableEq, Repr

/-- A Sync on its way to a sample (R229): the master, the sequence, t1 (once known) and t2, the Delay_Req that
followed it and t3, all in units of 2^-16 ns. -/
structure SyncPending where
  master : Nat := 0
  seq : Nat := 0
  corr : Int := 0
  t1 : Option Int := none
  t2 : Int := 0
  syncAt : Nat := 0
  txId : Option Nat := none
  txAt : Nat := 0
  t3 : Option Int := none
  t4 : Option Int := none
  deriving DecidableEq, Repr

/-- An accepted sample: FREERUN and theta. -/
structure Sample where
  at_ : Nat := 0
  theta : Int := 0
  /-- It set the counter (R233). -/
  sets : Bool := false
  deriving DecidableEq, Repr

/-- A domain's offset measurement (R239, R241). Times are in units of 2^-16 ns. -/
structure Offset where
  /-- O, once known; 0 on rank 0 (R239). -/
  own : Option Int := none
  parentO : Option Int := none
  /-- D and the kept exchanges: round trip and value. -/
  d : Option Int := none
  kept : List (Int × Int) := []
  /-- Exchanges still to run in this round, the next index, and FREERUN at which the next probe is due. -/
  left : Nat := 0
  index : Nat := 0
  probeAt : Nat := 0
  periodicAt : Nat := 0
  /-- A measurement is running; it began at `since`, its deadline for an answer is 1 ms later. -/
  running : Bool := false
  since : Nat := 0
  /-- DONE messages gathered: the largest spread, and how many members answered (R240). -/
  spread : Int := 0
  count : Nat := 0
  doneSent : Bool := false
  deriving DecidableEq, Repr

/-- The time unit. The counter is `sec`, `ns` and `frac48`; FREERUN is `freerun` (R226, R227). -/
structure TimeUnit where
  sec : Nat := 0
  ns : Nat := 0
  frac48 : Nat := 0
  inc : Nat := 662294062848602
  freerun : Nat := 0
  state : TimeState := .unknown
  /-- f and fi in units of 10^-18 (R231). -/
  f : Int := 0
  fi : Int := 0
  k : Nat := 6
  /-- The row of the gain table that sigma has stayed in, and for how many samples (R234). -/
  kRow : Nat := 6
  kRun : Nat := 0
  deltas : List Int := []
  samples : List Sample := []
  lastSample : Option Nat := none
  holdSince : Nat := 0
  setDone : Bool := false
  setAt : Nat := 0
  setStep : Int := 0
  utcOffset : Int := 0
  /-- Settings of `TIM_SET_SERVO` (R304). -/
  ptpDom : Nat := 0
  requireAuth : Bool := false
  kFloor : Nat := 2
  allow : List Nat := []
  masters : Map Master := []
  selected : Option Nat := none
  /-- Syncs on their way to a sample, latest first (R229). -/
  syncs : List SyncPending := []
  nextTx : Nat := 0
  /-- Pdelay, Signaling and Management messages ignored (R230). -/
  ignored : Nat := 0
  /-- TIM_SNAP registers (R471): the 12-B time and FREERUN. -/
  snapTime : Time12 := ⟨0, 0, 0⟩
  snapFree : Nat := 0
  snapState : Nat := 0
  snapK : Nat := 0
  snapSeq : Nat := 0
  offsets : Map Offset := []
  deriving DecidableEq, Repr

end Sys2Proof.Machine
end

