-- ==== Sys2Proof/Machine/State/Weft.lean ====
section
/-!
DEFINITION. The state of the Weft lanes (spec/03_weft_datapath.md, spec/04_weft_integrity.md).
-/
namespace Sys2Proof.Machine

/-- The sources of a lane (R19, R39). -/
inductive LineSrc
  /-- The host on `HP_` of the lane. -/
  | host
  /-- Batten's internal port: the unit's working line buffer (R153, R154). -/
  | batten (unit : Nat)
  /-- Batten's exact accumulator writing a finished window line (R162). -/
  | window
  /-- The Loom scrub engine writing a zero line of a granule that arrives or leaves (R40, R41). -/
  | scrub
  /-- The Loom scrub engine for `MEM_SCRUB`, on behalf of scan `jid` (R86). -/
  | scrubCmd (jid : Nat)
  /-- A Loom bulk engine writing imported lines, or reading for export, on behalf of `jid` (R220, R340). -/
  | bulk (jid : Nat)
  /-- A fingerprint sequencer, on behalf of `jid` (R182). -/
  | finger (jid : Nat)
  deriving DecidableEq, Repr

/-- What a line request asks for (21, `HP_REQ_OP`). -/
inductive LineOp
  | read
  | full
  | masked
  deriving DecidableEq, Repr

/-- A request to a lane, from any source. `gen` is the generation of the LDI at its C2 (R55). -/
structure LineReq where
  src : LineSrc := .host
  op : LineOp := .read
  dli : Nat := 0
  ldi : Nat := 0
  gen : Nat := 0
  ctx : Nat := 0
  fence : Nat := 0
  arr : Nat := 0
  annot : BitVec 32 := 0
  tag : Nat := 0
  data : Line := 0
  be : BitVec 64 := 0
  /-- What the ownership check of its C2 said, once made (R63). -/
  c2 : Option Nat := none
  /-- A read that waits behind a byte-masked write of its line (R69). -/
  behind : Bool := false
  /-- The number of its read group, its place in the line order of responses (R438). -/
  order : Option Nat := none
  deriving DecidableEq, Repr

/-- One tag field of a Selvedge buffer entry (R70). -/
structure TagField where
  tag : BitVec 64 := 0
  valid : Bool := false
  dirty : Bool := false
  deriving DecidableEq, Repr

/-- One Selvedge buffer entry (R70). -/
structure SelvEntry where
  psel : Nat := 0
  fields : List TagField := []
  fetchPending : Bool := false
  ldi : Nat := 0
  deriving DecidableEq, Repr

/-- A read access group (R65), for a read or for a byte-masked write (R68): whether it has been issued on `MP_`; the command
tag of the data read while that is outstanding and, where the tag was not held, of the Selvedge read; what has returned; and
whether the group waits for another group's Selvedge read (R70 rule 3). `id` is the model's own number. -/
structure ReadGroup where
  id : Nat := 0
  req : LineReq := {}
  issued : Bool := false
  dataTag : Option Nat := none
  selTag : Option Nat := none
  waitSel : Bool := false
  data : Option Line := none
  storedTag : Option (BitVec 64) := none
  dramUe : Bool := false
  /-- The plaintext of a read that the ingress buffer answers (R66), while earlier reads of its line are outstanding (R438). -/
  plain : Option Line := none
  /-- The status of a request that a context's release cancelled (R52), or 0. -/
  cancelled : Nat := 0
  deriving DecidableEq, Repr

/-- One ingress buffer entry (R67, R73): the accepted write with its plaintext, whether its group has been issued
on `MP_`, and which of its two writes await their acknowledgement. -/
structure IngressEntry where
  id : Nat := 0
  req : LineReq := {}
  issued : Bool := false
  dataWait : Bool := true
  selWait : Bool := true
  deriving DecidableEq, Repr

/-- A write that the lane has presented on `MP_` and that is not yet acknowledged (R73). -/
inductive WriteCmd
  /-- The data write of ingress entry `id`. -/
  | data (id : Nat)
  /-- The Selvedge write of line `psel` that carries the tags of the entries `ids`, at the tag fields `slots`. -/
  | selv (psel : Nat) (ids slots : List Nat)
  deriving DecidableEq, Repr

/-- One Weft lane number with the instance that serves it. -/
structure Lane where
  /-- Physical instance: 0x00-0x7F for WL0-WL127, 0x80-0x83 for the spares (R92). -/
  instance_ : Nat := 0
  /-- The ports are closed and `MP_FLUSH_REQ` is high (R88 step 2). -/
  flushing : Bool := false
  /-- The lane is dead (R91). -/
  dead : Bool := false
  /-- GOT cache: granules held, most recently used first (R64). -/
  got : List Nat := []
  /-- Outstanding misses: granule and the requests that wait for its entry (R64). -/
  misses : List (Nat × List LineReq) := []
  /-- Requests that wait behind an earlier request of their line, and writes that wait for a Selvedge entry (R69, R72). -/
  held : List LineReq := []
  reads : List ReadGroup := []
  nextRead : Nat := 0
  ingress : List IngressEntry := []
  nextEntry : Nat := 0
  /-- The open write group: its weave row in the lane and its ingress entries in line order (R71). -/
  group : Option (Nat × List Nat) := none
  /-- Accepted writes of other weave rows that wait in the write queue (R71). -/
  writeQ : List Nat := []
  writes : List (Nat × WriteCmd) := []
  nextGroup : Nat := 0
  /-- Selvedge buffer, most recently used first (R70). -/
  selv : List SelvEntry := []
  /-- Responses that wait behind an outstanding read of their line (R438): the number of that read's group, and the
  response. -/
  owed : List (Nat × Output) := []
  /-- Failing-line table: dli and LDI (R80). -/
  failing : List (Nat × Nat) := []
  /-- LDIs whose overflow flag is set (R80). -/
  overflow : List Nat := []
  deriving DecidableEq, Repr

/-- An answer of a lane to a source inside the block (R39): Batten, the accumulator, or a Loom engine. -/
structure LaneDone where
  req : LineReq := {}
  status : Nat := 0
  data : Line := 0
  /-- A ZERO scrub's line that R82 refuses: it is skipped (R86). -/
  skipped : Bool := false
  deriving DecidableEq, Repr

/-- An integrity event on its way to Loom: steps 4 to 6 of R77 remain to be done. -/
structure IntegEvent where
  ldi : Nat := 0
  gen : Nat := 0
  recType : Nat := 0
  dli : Nat := 0
  source : Nat := 0
  lane : Nat := 0
  inst : Nat := 0
  flags : Nat := 0
  fence : Nat := 0
  ctx : Nat := 0
  status : Nat := 0
  deriving DecidableEq, Repr

/-- A granule that the scrub engine is to zero, and what its entry becomes (R40, R41, R272). -/
structure ScrubItem where
  granule : Nat := 0
  ldi : Nat := 0
  gen : Nat := 0
  /-- `true`: OWNED after the last line; `false`: FREE. -/
  toOwned : Bool := true
  /-- The journal entry of the command that waits for it, if one does. -/
  jid : Option Nat := none
  /-- The target of a failed import (R220 step 5). -/
  target : Bool := false
  /-- Lines already written. -/
  next : Nat := 0
  deriving DecidableEq, Repr

/-- The Weft state: the lanes by lane number (an unlisted lane is as after reset), the spares in use, the answers
to the block's own sources, integrity events on their way to Loom, and the scrub engine's queue. -/
structure Weft where
  lanes : Map Lane := []
  /-- Spares in use: spare number and the lane number it serves (R88). -/
  spares : Map Nat := []
  done : List LaneDone := []
  integQ : List IntegEvent := []
  scrubQ : List ScrubItem := []
  deriving DecidableEq, Repr

end Sys2Proof.Machine
end

