-- ==== Sys2Proof/Machine/State.lean ====
section
/-!
DEFINITION. The state of the block as plain data, its faults and refusals, and the state right after reset.
-/
namespace Sys2Proof.Machine

/-- Why a step stops. Safe: the model stops where the block would go on, and no claim about a next state can be
false because of it. -/
inductive Fault
  /-- Raised by no command of this model: every command answers a next state or is refused by name. Safe. -/
  | unreachable
  deriving DecidableEq, Repr

/-- Why a command has no meaning. -/
inductive Refusal
  /-- Raised by `exec` for a command whose meaning this model does not hold. Safe. -/
  | notModelled (mnemonic : String)
  deriving DecidableEq, Repr

/-- The state of the block (INVENTORY.md, State). -/
structure State where
  build : Build := {}
  tables : Tables := {}
  weft : Weft := {}
  shuttle : Shuttle := {}
  batten : Batten := {}
  spindle : Spindle := {}
  keys : Keys := {}
  entropy : Entropy := {}
  spdm : Spdm := {}
  metering : Metering := {}
  time : TimeUnit := {}
  loom : Loom := {}
  log : ErrorLog := {}
  counters : Counters := {}
  trace : Trace := {}
  events : Events := {}
  bp : Binding := {}
  /-- Mailbox SRAM (R245): canonical list of offset and byte; an unlisted offset reads 0. -/
  mailbox : List Host.Cell := []
  otp : Otp := {}
  power : Power := {}
  boot : Boot := {}
  dbg : Debug := {}
  baro : Baro := {}
  link : HostLink := {}
  /-- The model's own field: how many free values have been drawn from Config. -/
  freeCount : Nat := 0
  /-- What the block has driven on its output channels since POR or SYSTEM reset. -/
  out : List Output := []
  /-- Commands that wait, first in, first out. -/
  pending : List Instr := []
  deriving DecidableEq, Repr

/-- The state right after POR (R370, R373): POR released, the boot ROM about to decode the life cycle. -/
def State.reset : State := {}

end Sys2Proof.Machine
end

