-- ==== Sys2Proof/Machine/Ops.lean ====
section
/-!
DEFINITION. Named operations shared by the commands: byte strings, time, domains, counters, events, records, the
trace, the mailbox memory, keys and the block's outputs.
-/
namespace Sys2Proof.Machine

/-! ### Byte strings (R6: little-endian) -/

/-- The low `n` bytes of a number, least significant first. -/
def leBytes : Nat → Nat → Bytes
  | 0, _ => []
  | n + 1, v => BitVec.ofNat 8 v :: leBytes n (v / 256)

/-- The number a byte string spells, least significant byte first. -/
def leNat : Bytes → Nat
  | [] => 0
  | b :: bs => b.toNat + 256 * leNat bs

/-- The bytes of a string from an offset, zero where the string ends. -/
def bytesAt (b : Bytes) (off n : Nat) : Bytes :=
  let t := (b.drop off).take n
  t ++ List.replicate (n - t.length) 0

/-- A little-endian field of a byte string. -/
def fieldAt (b : Bytes) (off n : Nat) : Nat := leNat ((b.drop off).take n)

/-- A string padded with zero bytes, or cut, to a length. -/
def padTo (n : Nat) (b : Bytes) : Bytes := bytesAt b 0 n

/-- Every byte of a string is zero. -/
def allZero (b : Bytes) : Bool := b.all (fun x => x == 0)

/-- The bytes of a bit vector. -/
def bvBytes {w : Nat} (n : Nat) (v : BitVec w) : Bytes := leBytes n v.toNat

/-- A line from its bytes and back. -/
def lineOf (b : Bytes) : Line := BitVec.ofNat 512 (leNat b)

def lineBytes (l : Line) : Bytes := leBytes 64 l.toNat

/-- The bytes of the exclusive or of two strings. -/
def xorBytes (a b : Bytes) : Bytes := List.zipWith (fun x y => x ^^^ y) a b

/-- The first `n` bytes of the AES-256-GCM keystream. -/
def gcmStream (key : Key) (iv : BitVec 96) (n : Nat) : Bytes :=
  padTo n ((List.range ((n + 15) / 16)).flatMap (fun i => bvBytes 16 (Config.gcmBlock key iv i)))

/-! ### Status codes (R264) -/

def stOk : Nat := 0x0000
def stBusy : Nat := 0x0001
def stDenied : Nat := 0x0002
def stBadParam : Nat := 0x0003
def stNoResource : Nat := 0x0004
def stState : Nat := 0x0005
def stUnsupported : Nat := 0x0006
def stSequence : Nat := 0x0007
def stExhausted : Nat := 0x0008
def stTimeUnknown : Nat := 0x0009
def stPowerHold : Nat := 0x000A
def stOwnership : Nat := 0x0010
def stStaleGen : Nat := 0x0011
def stGranuleGone : Nat := 0x0012
def stIntegrity : Nat := 0x0013
def stLaneFault : Nat := 0x0014
def stStaleMap : Nat := 0x0020
def stRetry : Nat := 0x0021
def stOutcomeUnknown : Nat := 0x0022
def stPeerEpoch : Nat := 0x0023
def stContextGone : Nat := 0x0030
def stProducerGone : Nat := 0x0031
def stAborted : Nat := 0x0032
def stNondet : Nat := 0x0033

/-! ### Time -/

/-- FREERUN ticks in 1 µs and in 1 ms: CLK_TIME runs at 425 MHz (R363). -/
def usTicks : Nat := 425
def msTicks : Nat := 425000
def secTicks : Nat := 425000000

/-- FREERUN. -/
def State.now (s : State) : Nat := s.time.freerun

/-- The time counter after `n` ticks of CLK_TIME (R226). -/
def TimeUnit.count (t : TimeUnit) (n : Nat) : TimeUnit :=
  let sub := (t.ns * 2 ^ 48 + t.frac48) + n * t.inc
  let unit := 1000000000 * 2 ^ 48
  { t with
    freerun := (t.freerun + n) % 2 ^ 64
    sec := (t.sec + sub / unit) % 2 ^ 48
    ns := sub % unit / 2 ^ 48
    frac48 := sub % 2 ^ 48 }

/-- The state when FREERUN has reached `t`, if it has not already. -/
def State.advanceTo (s : State) (t : Nat) : State :=
  if s.time.freerun < t then { s with time := s.time.count (t - s.time.freerun) } else s

/-- One tick of CLK_TIME, on which nothing else happens: FREERUN and the time counter count, unless CK_ROOT stands or a
reset is asserted (R226, R368). -/
def State.tick (s : State) : State :=
  if s.power.rootValid && s.power.phase != .por then { s with time := s.time.count 1 } else s

/-- The time counter in the 12-B form (R226). -/
def State.time12 (s : State) : Time12 := ⟨s.time.sec, s.time.ns, s.time.frac48 / 2 ^ 32⟩

def timeBytes (t : Time12) : Bytes := leBytes 6 t.sec ++ leBytes 4 t.ns ++ leBytes 2 t.frac

def time12Of (b : Bytes) : Time12 := ⟨fieldAt b 0 6, fieldAt b 6 4, fieldAt b 10 2⟩

/-- A 12-B time value in units of 2^-16 ns. -/
def timeUnits (t : Time12) : Int := ((t.sec * 1000000000 + t.ns) * 65536 + t.frac : Nat)

/-- The 8-B time of records (R380): nanoseconds in [29:0], low seconds in [63:30]. -/
def timeRecord (t : Time12) : Nat := t.ns % 2 ^ 30 + (t.sec % 2 ^ 34) * 2 ^ 30

/-- The 12-B form of a count of 2^-16 ns. -/
def timeOfUnits (u : Int) : Time12 :=
  let n := u.toNat
  ⟨n / 65536 / 1000000000 % 2 ^ 48, n / 65536 % 1000000000, n % 65536⟩

/-- TIME_STATE codes (R214). -/
def TimeState.code : TimeState → Nat
  | .unknown => 0
  | .acquiring => 1
  | .locked => 2
  | .holdover => 3
  | .untrusted => 4

/-! ### Domains and build -/

def State.dom (s : State) (ldi : Nat) : Domain := s.tables.domains.findD ldi {}

def State.setDom (s : State) (ldi : Nat) (d : Domain) : State :=
  { s with tables := { s.tables with domains := s.tables.domains.put ldi d } }

def DomState.code : DomState → Nat
  | .empty => 0
  | .building => 1
  | .sealed_ => 2
  | .running => 3
  | .quiescing => 4
  | .aborted => 5
  | .retired => 6

/-- CK_ROOT runs and no POR is asserted (R368, R370). -/
def State.clocked (s : State) : Bool :=
  s.power.rootValid && (match s.power.phase with | .por => false | _ => true)

/-- Loom is halted, or its cores have stopped and the engines drain (R430). -/
def State.inHalt (s : State) : Bool := s.loom.halted || s.loom.halting

/-- `RS_SYS_OUT_N`: low while POR or SYSTEM holds the block, until its boot ROM starts (R370, R436). -/
def State.sysOutN (s : State) : Bool := s.power.phase != .por && s.boot.phase != .rom

/-- `RS_RST_OUT_N`: low while POR holds the block. -/
def State.rstOutN (s : State) : Bool := s.power.phase != .por && !(s.boot.phase == .rom && s.power.cause == 1)

/-- The block takes inputs on the host's ports: it is clocked, and no reset holds it (R436). -/
def State.released (s : State) : Bool := s.clocked && s.sysOutN

/-- The block takes transfers on the host's channels that have a READY: released, and with no fatal tamper (R395, R436). -/
def State.takesInput (s : State) : Bool := s.released && !s.power.fatal

/-- The data-path ports accept work: Loom has opened them and no fatal tamper has closed them (R484, R395). -/
def State.portsUp (s : State) : Bool := s.clocked && s.loom.portsOpen && !s.power.fatal

/-- The firmware runs (R481). -/
def BootPhase.isRunning : BootPhase → Bool
  | .running _ => true
  | _ => false

/-- Loom executes: its firmware runs, is not restarting (R385) and its cores are not halted (R430). -/
def State.loomUp (s : State) : Bool :=
  s.clocked && s.boot.phase.isRunning && !s.loom.restarting && !s.loom.halted && !s.power.fatal

/-- The LDI holds a domain: any state other than EMPTY and RETIRED. -/
def DomState.live : DomState → Bool
  | .empty | .retired => false
  | _ => true

/-- BUILDING, SEALED, RUNNING or QUIESCING: the states that an abort event ends (R392, R393). -/
def DomState.abortable : DomState → Bool
  | .building | .sealed_ | .running | .quiescing => true
  | _ => false

/-- RUNNING or QUIESCING: the data path of the LDI. -/
def DomState.flows : DomState → Bool
  | .running | .quiescing => true
  | _ => false

/-- LDIs whose domain satisfies a test, rising. -/
def State.ldisWith (s : State) (p : Domain → Bool) : List Nat :=
  (s.tables.domains.filter (fun x => p x.2)).map Prod.fst

/-- The LDI that holds a GDID in a state other than EMPTY and RETIRED. -/
def State.ldiOfGdid (s : State) (gdid : Nat) : Option Nat :=
  (s.ldisWith (fun d => d.state.live && d.gdid == gdid)).head?

def Domain.policyBit (d : Domain) (i : Nat) : Bool := d.policy.getLsbD i

/-- Policy bits (R35). -/
def Domain.integReport (d : Domain) : Bool := d.policyBit 0
def Domain.heal (d : Domain) : Bool := d.policyBit 1
def Domain.det (d : Domain) : Bool := d.policyBit 2
def Domain.denyAuth (d : Domain) : Bool := d.policyBit 3
def Domain.denyClear (d : Domain) : Bool := d.policyBit 4
def Domain.autoRun (d : Domain) : Bool := d.policyBit 5

/-- Data lines and physical lines of a weave row (R57). -/
def Build.dataLines (b : Build) : Nat := if b.weave2k then 28 else 14
def Build.physLines (b : Build) : Nat := if b.weave2k then 32 else 16

/-- `CTC_BUILD` (R462). -/
def Build.word (b : Build) : Nat :=
  b.lanes + (b.lanes / 32) * 2 ^ 8 + b.engines * 2 ^ 11 + 2 * 2 ^ 16 + 12 * 2 ^ 18 + 1 * 2 ^ 22
    + (if b.weave2k then 2 ^ 24 else 0) + (if b.pool then 0 else 2 ^ 25)

/-- `CTC_VERSION` (R1). -/
def Build.version (b : Build) : Nat := 0x03010000 + (if b.pool then 2 else 1)

/-! ### Outputs, free values, DRBG -/

def State.emit (s : State) (o : Output) : State := { s with out := s.out ++ [o] }

def State.emitAll (s : State) (os : List Output) : State := { s with out := s.out ++ os }

/-- The packets of an MCTP message (R456, DSP0236): each with its transport header, whose flags say which is first and last, and at
most a transmission unit of 64 to 1,024 B. -/
def State.mctpPackets (s : State) (type : Nat) (body : Bytes) : List Output :=
  let frame := Config.mctpFrame s.out.length
  let unit := 64 + frame.2.2 % 961
  let msg := leBytes 1 type ++ body
  let n := (msg.length + unit - 1) / unit
  (List.range n).map (fun i =>
    let flags := (if i == 0 then 0x80 else 0) + (if i + 1 == n then 0x40 else 0) + i % 4 * 16 + frame.2.1 % 8
    .mgPacket (leBytes 1 1 ++ leBytes 1 frame.1 ++ leBytes 1 s.link.eid ++ leBytes 1 flags ++ (msg.drop (unit * i)).take unit))

/-- Send an MCTP message, and its packets on `MG_TX` (R456). -/
def State.sendMctp (s : State) (type : Nat) (body : Bytes) : State :=
  s.emitAll (.mgTx type body :: s.mctpPackets type body)

/-- A fresh draw of the DRBG (R202): the draw's number, and the state after it. -/
def State.draw (s : State) : Nat × State :=
  (s.entropy.draws, { s with entropy := { s.entropy with
    draws := s.entropy.draws + 1, requests := s.entropy.requests + 1 } })

/-- A reseed with prediction resistance (R202). -/
def State.reseed (s : State) : State := { s with entropy := { s.entropy with reseededAt := s.now, requests := 0 } }

/-- 32 bytes of a draw. -/
def drawBytes (n len : Nat) : Bytes := bytesAt (lineBytes (Config.drbg n)) 0 len

/-- The DRBG answers: the source has passed its start-up test and is not FAILED (R203). -/
def State.drbgReady (s : State) : Bool := s.entropy.passed && !s.entropy.failed

/-- The DRBG can reseed: the source is not under test (R203). -/
def State.canReseed (s : State) : Bool := s.drbgReady && !s.entropy.testing

/-! ### Counters, events (R414-R415, R469) -/

def wrap64 : Nat := 2 ^ 64

/-- Add to a block counter. -/
def State.bump (s : State) (i : Nat) (n : Nat := 1) : State :=
  { s with counters := { s.counters with
    block := s.counters.block.put i ((s.counters.block.findD i 0 + n) % wrap64) } }

/-- Add to a domain counter of an LDI that holds a domain. -/
def State.bumpDom (s : State) (ldi j : Nat) (n : Nat := 1) : State :=
  let d := s.dom ldi
  if d.state.live then
    s.setDom ldi { d with counters := d.counters.put j ((d.counters.findD j 0 + n) % wrap64) }
  else s

/-- Count a message that is dropped. -/
def State.countDropped (s : State) : State :=
  { s with counters := { s.counters with dropped := s.counters.dropped + 1 } }

/-- Set an event bit of `EV_STATUS`. -/
def State.raise (s : State) (i : Nat) : State :=
  { s with events := { s.events with status := s.events.status ||| (1#13 <<< i) } }

def State.raiseInteg (s : State) (ldi : Nat) : State :=
  let s := s.raise 0
  { s with events := { s.events with integ := s.events.integ ||| (1#256 <<< ldi) } }

def State.raiseAbort (s : State) (ldi : Nat) : State :=
  let s := s.raise 6
  { s with events := { s.events with abort := s.events.abort ||| (1#256 <<< ldi) } }

/-- A step whose occasion holds, or one that finds the block unchanged (notes/assumptions/2.md). -/
def nextIf (g : Bool) (s t : State) : Host.Outcome State Fault Refusal := .next (if g then t else s)

/-! ### Profiling levels (R217, R420) -/

/-- The ROM has decoded the life-cycle state, and its programs have ended (R346). -/
def State.decoded (s : State) : Bool := s.boot.phase != .rom && s.boot.phase != .decode

/-- Life-cycle states in which rights 0 to 7 are open without a certificate (R360), once the ROM has decoded the state (R346). -/
def State.allRights (s : State) : Bool := s.decoded && (s.otp.lcs == 0 || s.otp.lcs == 2 || s.otp.lcs == 6)

/-- The rights open on the device (R360). -/
def State.rights (s : State) : BitVec 8 :=
  if s.allRights then 0xFF
  else s.dbg.certs.vals.foldl (fun r c => r ||| c.rights) 0

def State.right (s : State) (i : Nat) : Bool := s.rights.getLsbD i

/-- DEBUG_RIGHTS of the report and the evidence (R214, R360). -/
def State.debugRights (s : State) : Nat := s.rights.toNat

/-- The level of a reader other than the tenant for counters of an LDI. -/
def State.counterLevel (s : State) (ldi : Nat) : Nat :=
  if s.right 0 then 2 else if (s.dom ldi).consent then 1 else 0

/-- The level of a reader other than the tenant for trace records of an LDI. -/
def State.traceLevel (s : State) (ldi : Nat) : Nat :=
  if s.right 1 then 2 else if (s.dom ldi).consent then 1 else 0

/-- PROF_LEVEL (R420). -/
def State.profLevel (s : State) (ldi : Nat) : Nat := max (s.counterLevel ldi) (s.traceLevel ldi)

/-! ### Trace records (R423-R428) -/

/-- Domain time less the counter: O of the LDI, when set (R241). -/
def State.offsetO (s : State) (ldi : Nat) : Option Int := (s.time.offsets.findD ldi {}).own

/-- The time value a trace record of an LDI carries (R423). -/
def State.traceTime (s : State) (ldi : Nat) : Time12 × Bool :=
  match (if ldi == 0 then none else s.offsetO ldi) with
  | some o => (timeOfUnits (timeUnits s.time12 - o), true)
  | none => (s.time12, false)

structure TraceRec where
  src : Nat := 0
  event : Nat := 0
  ldi : Nat := 0
  ctx : Nat := 0
  mixed : Nat := 0
  annot : BitVec 32 := 0
  marker : Bool := false
  arg0 : Nat := 0
  arg1 : Nat := 0

/-- The 32 bytes of a trace record. -/
def State.traceBytes (s : State) (r : TraceRec) (trigger : Bool) : Bytes :=
  let t := s.traceTime r.ldi
  let flags := s.time.state.code + (if t.2 then 8 else 0) + (if trigger then 16 else 0)
    + (if r.marker then 32 else 0) + (if r.ldi != 0 && s.traceLevel r.ldi > 0 then 128 else 0)
  leBytes 1 r.src ++ leBytes 1 flags ++ leBytes 1 r.ldi ++ leBytes 1 r.event ++ leBytes 2 r.ctx
    ++ leBytes 2 r.mixed ++ leBytes 8 (timeRecord t.1) ++ bvBytes 4 r.annot ++ leBytes 4 r.arg0 ++ leBytes 8 r.arg1

/-- Records the trace buffer holds, and a trigger-centred buffer's records after its trigger (R427). -/
def traceSize : Nat := 524288

/-- The record matches the trigger. -/
def Trace.hits (t : Trace) (annot : BitVec 32) : Bool :=
  t.trigMask != 0 && ((annot ^^^ t.trigValue) &&& t.trigMask) == 0

/-- The buffer accepts a record, which matches the trigger or not (R427): in TRIGGER_CENTRED a later match enters the trigger log
only. -/
def Trace.accepts (t : Trace) (hit : Bool) : Bool :=
  match t.mode with
  | 1 => t.written < traceSize
  | 2 => true
  | 3 => match t.triggered with
    | none => true
    | some left => left > 0 && !hit
  | _ => false

/-- The buffer with one record at the next index, over the one whose place it takes. -/
def Trace.push (t : Trace) (b : Bytes) : Trace :=
  let same := fun (x : Nat × Bytes) => x.1 % traceSize == t.nextIndex % traceSize
  let old := t.records.filter same
  { t with
    records := Map.put (t.records.filter (fun x => !same x)) t.nextIndex b
    gone := t.gone ++ old.map (fun x => (x.1, x.2.take 4))
    nextIndex := t.nextIndex + 1
    written := t.written + 1 }

/-- The trigger log with one record more (R428). -/
def Trace.pushLog (t : Trace) (b : Bytes) : Trace :=
  let same := fun (x : Nat × Bytes) => x.1 % 64 == t.logNext % 64
  let old := t.log.filter same
  { t with
    log := Map.put (t.log.filter (fun x => !same x)) t.logNext b
    logGone := t.logGone ++ old.map (fun x => (x.1, x.2.take 4))
    logNext := t.logNext + 1 }

/-- Write a trace record from an enabled source (R424, R427, R428). -/
def State.traceWrite (s : State) (r : TraceRec) : State :=
  let t := s.trace
  if t.mode == 0 || !t.sources.getLsbD r.src then s
  else
    let hit := t.hits r.annot
    let b := s.traceBytes r hit
    let first := hit && t.mode == 3 && t.triggered.isNone
    let t1 := if t.accepts hit then
        let p := t.push b
        match p.triggered with
        | some left => { p with triggered := some (left - 1) }
        | none => if first then { p with triggered := some 262143 } else p
      else t
    let t2 := if hit then t1.pushLog b else t1
    let s1 := { s with trace := t2 }
    if t.accepts hit then s1 else s1.bump 0x013

/-! ### Traffic: annotation table and trace segments (R416, R425) -/

/-- Count under an annotation key (R416): `command` adds 1, data adds bytes. -/
def State.annotCount (s : State) (ldi : Nat) (command marker : Bool) (value : BitVec 32) (n : Nat) : State :=
  if value == 0 then s
  else
    let t := s.counters.annots
    match t.find? (fun e => e.2.ldi == ldi && e.2.command == command && e.2.marker == marker
        && e.2.value == value) with
    | some (i, e) => { s with counters := { s.counters with
        annots := t.put i { e with count := (e.count + n) % wrap64 } } }
    | none =>
      match (List.range 256).find? (fun i => (t.find i).isNone) with
      | some i =>
        if (t.filter (fun e => e.2.ldi == ldi)).length < 64 then
          let e : Annot := { value := value, marker := marker, command := command, ldi := ldi, count := n % wrap64 }
          { s with counters := { s.counters with annots := t.put i e } }
        else (s.bump 0x017).bumpDom ldi 15
      | none => (s.bump 0x017).bumpDom ldi 15

/-- Add to the running segments of an instance (R425). -/
def State.segment (s : State) (src inst ldi ctx : Nat) (annot : BitVec 32) (n : Nat) : State :=
  let same := fun (g : Segment) => g.src == src && g.inst == inst && g.ldi == ldi && g.annot == annot
  let segs := match s.trace.segments.find? same with
    | some g => { g with bytes := g.bytes + n } :: s.trace.segments.filter (fun g => !same g)
    | none => { src := src, inst := inst, ldi := ldi, annot := annot, ctx := ctx, bytes := n, at_ := s.now } :: s.trace.segments
  { s with trace := { s.trace with segments := segs } }

/-- Bytes that a metering counter of an LDI gains (R221). -/
def State.meter (s : State) (ldi weft shuttle reds : Nat) : State :=
  let d := s.dom ldi
  if d.state.live then
    s.setDom ldi { d with usage := { d.usage with
      weft := d.usage.weft + weft, shuttle := d.usage.shuttle + shuttle, reductions := d.usage.reductions + reds } }
  else s

/-! ### Metering usage (R221) -/

/-- The generation under which the LDI's domain lives: its running retirement has already advanced it (R53 step 2). -/
def Domain.liveGen (d : Domain) : Nat := if d.retiring then d.gen - 1 else d.gen

/-- Granules in a state other than FREE that an LDI owns. -/
def State.granulesOf (s : State) (ldi : Nat) : Nat :=
  (s.tables.got.filter (fun x => x.2.ldi == ldi && x.2.state != .free && x.2.gen == (s.dom ldi).liveGen)).length

/-- Resources of a kind bound to a domain, old-map bindings included while they stand. -/
def Domain.bound (d : Domain) (kind : Nat) : Nat :=
  ((d.slices ++ d.oldSlices).filter (fun x => x.kind == kind)).length

/-- Bring an LDI's resource times up to the present: before each change of what is bound to it. -/
def State.accrue (s : State) (ldi : Nat) : State :=
  let d := s.dom ldi
  if d.state.live then
    let u := d.usage
    let t := s.now - u.upTo
    s.setDom ldi { d with usage := { u with
      upTo := s.now
      compute := u.compute + t * d.bound 0
      channel := u.channel + t * d.bound 1
      port := u.port + t * d.bound 2
      granule := u.granule + t * s.granulesOf ldi } }
  else s

/-! ### Error-log records (R380, R381) -/

/-- Make a record: it takes its SEQ and enters the staging queue, or is dropped and counted; the LOG trace source names
its TYPE and SEQ (R424). Its time state and TIME are those of its writing (`State.stampRecord`). -/
def State.record (s : State) (type : Nat) (payload : Bytes) : State :=
  let s := s.traceWrite { src := 7, arg0 := type, arg1 := s.log.nextSeq }
  let seq := s.log.nextSeq
  let head := leBytes 2 type ++ leBytes 6 seq ++ leBytes 8 0
  let l : ErrorLog := { s.log with nextSeq := (seq + 1) % 2 ^ 48 }
  if l.queue.length < 64 then
    { s with log := { l with queue := l.queue ++ [head ++ padTo 48 payload] } }
  else { s with log := l }.bump 0x010

/-- Find the suppression entry of a kind: type and two distinguishing numbers. -/
def ErrorLog.quietFor (l : ErrorLog) (t a b : Nat) : Option (Nat × Nat) :=
  match l.quiet.find? (fun q => q.1 == t && q.2.1 == a && q.2.2.1 == b) with
  | some q => some (q.2.2.2.1, q.2.2.2.2)
  | none => none

def ErrorLog.setQuiet (l : ErrorLog) (t a b at_ n : Nat) : ErrorLog :=
  { l with quiet := (t, a, b, at_, n) ::
      l.quiet.filter (fun q => !(q.1 == t && q.2.1 == a && q.2.2.1 == b)) }

/-- A record of a kind of which at most one is made in `period` ticks (R93 and the rules that follow it): `pay` forms
the payload from the SUPPRESSED count. -/
def State.recordLimited (s : State) (type a b period : Nat) (pay : Nat → Bytes) : State :=
  match s.log.quietFor type a b with
  | some (at_, n) =>
    if s.now < at_ + period then { s with log := s.log.setQuiet type a b at_ (n + 1) }
    else ({ s with log := s.log.setQuiet type a b s.now 0 }).record type (pay n)
  | none => ({ s with log := s.log.setQuiet type a b s.now 0 }).record type (pay 0)

/-- The payload of types 0x0C01 to 0x0C0B (18). -/
def loomPayload (ldi cause inst gdid detail jid suppressed : Nat) : Bytes :=
  leBytes 1 ldi ++ leBytes 1 cause ++ leBytes 2 inst ++ leBytes 4 gdid ++ leBytes 8 detail ++ leBytes 8 jid
    ++ leBytes 4 suppressed

/-! ### Mailbox memory (R245, R476) -/

/-- What an offset that nothing has written reads as: zero. -/
def memDefault : Byte := 0

/-- One byte of the mailbox. -/
def Memory.read : List Host.Cell → Nat → Byte
  | [], _ => memDefault
  | (k, v) :: m, a => if k = a then v else Memory.read m a

/-- The mailbox with one byte written, in canonical form. -/
def Memory.write : List Host.Cell → Nat → Byte → List Host.Cell
  | [], a, v => if v = memDefault then [] else [(a, v)]
  | (k, w) :: m, a, v =>
    if a < k then (if v = memDefault then (k, w) :: m else (a, v) :: (k, w) :: m)
    else if a = k then (if v = memDefault then m else (a, v) :: m)
    else (k, w) :: Memory.write m a v

/-- Addresses strictly rise, and no entry equals what an unlisted offset reads as. -/
def Memory.wf : List Host.Cell → Bool
  | [] => true
  | [(_, v)] => decide (v ≠ memDefault)
  | (k, v) :: (k', v') :: m => decide (v ≠ memDefault) && decide (k < k') && Memory.wf ((k', v') :: m)

def Memory.readBytes (m : List Host.Cell) (a : Nat) : Nat → Bytes
  | 0 => []
  | n + 1 => Memory.read m a :: Memory.readBytes m (a + 1) n

def Memory.writeBytes (m : List Host.Cell) (a : Nat) : Bytes → List Host.Cell
  | [] => m
  | b :: bs => Memory.writeBytes (Memory.write m a b) (a + 1) bs

/-- Size of the mailbox SRAM: 2 MiB (R245). -/
def mailboxSize : Nat := 0x200000

/-- Partition of ring i: offset and size (R245). -/
def partOffset (i : Nat) : Nat :=
  if i == 0 then 0
  else if i < 64 then 0x30000 + (i - 1) * 0x6000
  else if i < 68 then 0x1DA000 + (i - 64) * 0x8000
  else if i == 68 then 0x1AA000 else 0x1CA000

def partSize (i : Nat) : Nat :=
  if i == 0 then 192 * 1024
  else if i < 64 then 24 * 1024
  else if i < 68 then 32 * 1024
  else if i == 68 then 128 * 1024 else 64 * 1024

/-- Bytes of the buffer area: from 0x1400 to the end of the partition. -/
def partBuffer (i : Nat) : Nat := partSize i - 0x1400

def State.mboxRead (s : State) (off n : Nat) : Bytes := Memory.readBytes s.mailbox off n

def State.mboxWrite (s : State) (off : Nat) (b : Bytes) : State :=
  { s with mailbox := Memory.writeBytes s.mailbox off b }

/-! ### Keys (R189-R192) -/

/-- One block of the counter-mode KDF (R189). -/
def kdfBlock (key : Bytes) (label context : Bytes) (bits i : Nat) : Bytes :=
  bvBytes 48 (Config.hmac384 key (leBytes 4 i ++ label ++ [0] ++ context ++ leBytes 4 bits))

def kdfBlocks (key label context : Bytes) (bits : Nat) : Nat → Nat → Bytes
  | 0, _ => []
  | n + 1, i => kdfBlock key label context bits i ++ kdfBlocks key label context bits n (i + 1)

/-- The bytes of an ASCII label, with no terminator. -/
def ascii (label : String) : Bytes := label.toList.map (fun c => BitVec.ofNat 8 c.toNat)

/-- KDF(K, label, context, L) with L in bits (R189). -/
def kdf (key : Bytes) (label : String) (context : Bytes) (bits : Nat) : Bytes :=
  (kdfBlocks key (ascii label) context bits ((bits + 383) / 384) 1).take (bits / 8)

def keyOf (b : Bytes) : Key := BitVec.ofNat 256 (leNat (b.take 32))

def keyBytes (k : Key) : Bytes := bvBytes 32 k

/-- The 96-bit IV of 12 bytes. -/
def ivOf (b : Bytes) : BitVec 96 := BitVec.ofNat 96 (fieldAt b 0 12)

/-- An AES-256-GCM tag of 16 bytes verifies. -/
def tagOk (key : Key) (iv : BitVec 96) (aad ct tag : Bytes) : Bool := bvBytes 16 (Config.gcmTag key iv aad ct) == tag

def State.keySlot (s : State) (i : Nat) : KeySlot := s.keys.slots.findD i {}

def State.setSlot (s : State) (i : Nat) (k : KeySlot) : State :=
  { s with keys := { s.keys with slots := s.keys.slots.put i k } }

/-- The 18 bits of a key reference (R191): [17:16] the space, [15:0] the slot index or the peer's DEVID. -/
def KeyRef.word : KeyRef → BitVec 18
  | .slot i => BitVec.ofNat 18 (i % 2 ^ 16)
  | .tx peer => BitVec.ofNat 18 (2 ^ 16 + peer % 2 ^ 16)
  | .rx peer => BitVec.ofNat 18 (2 * 2 ^ 16 + peer % 2 ^ 16)

/-- The key that a pipeline fetches for a reference when a block is issued (R191, R192). -/
def State.keyAt (s : State) (r : KeyRef) : Key :=
  match r with
  | .slot i => (s.keySlot i).key
  | .tx peer => (s.shuttle.sas.findD peer {}).keys.txKey
  | .rx peer => (s.shuttle.sas.findD peer {}).keys.rxKey

/-- Destroy the key of a slot: the slot reads as empty (R192). -/
def State.clearSlot (s : State) (i : Nat) : State :=
  { s with keys := { s.keys with slots := s.keys.slots.del i } }

/-- Certificates that a chain of DER certificates holds, at most `n` of them counted. -/
def certCount : Nat → Bytes → Nat
  | 0, _ => 0
  | n + 1, b => if Config.derLength b == 0 then 0 else certCount n (b.drop (Config.derLength b)) + 1

/-- The leaf's public keys of a chain that verifies to the ROM root and is at most 5 deep (R206). -/
def verifiedLeaf (chain : Bytes) : Option Bytes :=
  if certCount 6 chain ≤ 5 then Config.chainLeaf Config.rootDigest chain else none

/-- Memory keys of an LDI and generation for one ITER (R190): K1, K2, KM, H. -/
structure MemKeys where
  k1 : Key := 0
  k2 : Key := 0
  km : Key := 0
  h : BitVec 64 := 0
  deriving DecidableEq, Repr

def memKeysAt (rk : Key) (ldi gen iter : Nat) : MemKeys :=
  let o := kdf (keyBytes rk) "CTC3-MEM" (leBytes 1 ldi ++ leBytes 2 gen ++ leBytes 1 iter) 832
  { k1 := keyOf o, k2 := keyOf (o.drop 32), km := keyOf (o.drop 64), h := BitVec.ofNat 64 (fieldAt o 96 8) }

/-- The first ITER from `iter` on that gives K1 ≠ K2 and H ≠ 0, within its one byte. -/
def memKeysFrom (rk : Key) (ldi gen : Nat) : Nat → Nat → MemKeys
  | 0, iter => memKeysAt rk ldi gen iter
  | n + 1, iter =>
    let k := memKeysAt rk ldi gen iter
    if k.k1 ≠ k.k2 ∧ k.h ≠ 0 then k else memKeysFrom rk ldi gen n (iter + 1)

/-- The memory keys that the fixed slots of an LDI hold (R191). -/
def State.memKeys (s : State) (ldi : Nat) : MemKeys :=
  { k1 := s.keyAt (.slot (8 * ldi)), k2 := s.keyAt (.slot (8 * ldi + 1)), km := s.keyAt (.slot (8 * ldi + 2)),
    h := (s.keyAt (.slot (8 * ldi + 3))).setWidth 64 }

/-- Put a fixed key of the LDI at its generation into slot 8 × LDI + k, with its TYPE (R191). -/
def State.setFixed (s : State) (ldi k type : Nat) (key : Key) : State :=
  s.setSlot (8 * ldi + k) { type := type, ldi := ldi, gen := (s.dom ldi).gen, key := key }

/-- Derive and install the memory keys of the LDI's current generation from RK_MEM in slot 0 (R190). -/
def State.installMemKeys (s : State) (ldi : Nat) : State :=
  let k := memKeysFrom (s.keySlot 0).key ldi (s.dom ldi).gen 255 0
  (((s.setFixed ldi 0 1 k.k1).setFixed ldi 1 2 k.k2).setFixed ldi 2 3 k.km).setFixed ldi 3 4 (k.h.setWidth 256)

/-- Pool slots, 0x800 to 0xFFF, that an LDI holds. -/
def State.poolSlots (s : State) (ldi : Nat) : List Nat :=
  (s.keys.slots.filter (fun x => 0x800 ≤ x.1 && x.1 < 0x1000 && x.2.ldi == ldi)).map Prod.fst

/-- Slots that a `DOM_RETIRE` (0x0108) has freed and whose reply is not written: they are not allocated (R192). -/
def State.freedSlots (s : State) : List Nat :=
  (s.loom.journal.filter (fun e => e.opcode == 0x0108)).flatMap (·.lockSlots)

/-- The lowest free pool slot, when the LDI is within its grant. -/
def State.freePoolSlot (s : State) (ldi : Nat) : Option Nat :=
  if (s.poolSlots ldi).length < (s.dom ldi).grant.keys then
    ((List.range 2048).map (0x800 + ·)).find? (fun i => (s.keySlot i).type == 0 && !s.freedSlots.contains i)
  else none

end Sys2Proof.Machine
end

