-- ==== Sys2Proof/Machine/Fences.lean ====
section
/-!
DEFINITION. The fence table and the arrival counters (spec/02_domains.md R45-R51, spec/06_shuttle_delivery.md R124, R125).
-/
namespace Sys2Proof.Machine

/-- Index and epoch of a handle. -/
def fenceIndex (h : Nat) : Nat := h % 2 ^ 18
def fenceEpoch (h : Nat) : Nat := h / 2 ^ 18

/-- The handle of an index at an epoch. -/
def fenceHandle (i epoch : Nat) : Nat := i + epoch * 2 ^ 18

def State.fence (s : State) (i : Nat) : Fence := s.tables.fences.findD i {}

def State.setFence (s : State) (i : Nat) (f : Fence) : State :=
  { s with tables := { s.tables with fences := s.tables.fences.put i f } }

/-- The handle names an entry of the LDI, in index and epoch, that is not FREE. -/
def State.fenceNamed (s : State) (ldi h : Nat) : Bool :=
  let f := s.fence (fenceIndex h)
  fenceIndex h != 0 && f.ldi == ldi && f.epoch == fenceEpoch h && f.state != .free

/-- The handle matches an ARMED entry of the LDI (R46). -/
def State.fenceArmed (s : State) (ldi h : Nat) : Bool :=
  s.fenceNamed ldi h && (s.fence (fenceIndex h)).state == .armed

def FenceOrigin.code : FenceOrigin → Nat
  | .weft => 0
  | .shuttle => 1
  | .batten => 2
  | .loom => 3
  | .spindle => 4
  | .report => 5

/-- The oldest journal entry in progress (R380, JID of a record). -/
def State.jidNow (s : State) : Nat :=
  let js := (s.loom.journal.filter (·.journaled)).map (·.jid) ++ s.loom.failovers.map Prod.snd
  js.foldl min (js.head?.getD 0)

/-- Signal an ARMED fence (R47): its status and cause, the count, the trace, and `BP_FEN` (R449). -/
def State.signal (s : State) (i status cause : Nat) : State :=
  let f := s.fence i
  let s := s.setFence i { f with state := .signalled, status := status, cause := cause }
  let s := s.bumpDom f.ldi (if status == stOk then 9 else 10)
  let s := s.traceWrite { src := 6, ldi := f.ldi, arg0 := fenceHandle i f.epoch, arg1 := status + cause * 2 ^ 16 }
  s.emit (.bpFence (fenceHandle i f.epoch) f.ldi status cause)

/-- Count a reference that is refused, with its record (R46, R48). -/
def State.badRef (s : State) (m : FenceMsg) : State :=
  (s.bump 0x016).recordLimited 0x0C0A m.ldi 0 usTicks
    (loomPayload m.ldi 0 0 (s.dom m.ldi).gdid (m.handle + m.status * 2 ^ 32 + m.origin.code * 2 ^ 48) s.jidNow)

/-- Count a later error status, with its record (R47). -/
def State.lateRef (s : State) (m : FenceMsg) : State :=
  (s.bump 0x015).recordLimited 0x0C0B m.ldi 0 usTicks
    (loomPayload m.ldi 0 0 (s.dom m.ldi).gdid (m.handle + m.status * 2 ^ 32 + m.origin.code * 2 ^ 48) s.jidNow)

/-- Bind an error to the domain error fence (R50): it signals while ARMED; `counted` says that the status has
already been counted as late. -/
def State.bindError (s : State) (m : FenceMsg) (counted : Bool) : State :=
  let h := (s.dom m.ldi).errFence
  if s.fenceArmed m.ldi h then s.signal (fenceIndex h) m.status 0
  else if s.fenceNamed m.ldi h && !counted then s.lateRef m
  else s

/-- Apply one status at the fence table (R46, R47, R50, R51). -/
def State.applyStatus (s : State) (m : FenceMsg) : State :=
  if fenceIndex m.handle == 0 then
    if m.status == stOk then s else s.bindError m false
  else if s.fenceArmed m.ldi m.handle then s.signal (fenceIndex m.handle) m.status 0
  else if s.fenceNamed m.ldi m.handle then
    if m.status == stOk then s else (s.lateRef m).bindError m true
  else
    let s := s.badRef m
    if m.status == stOk then s else s.bindError m false

/-- Send a status to the fence table (R77 step 1). -/
def State.post (s : State) (ldi handle status : Nat) (origin : FenceOrigin) : State :=
  { s with tables := { s.tables with fenceQ := s.tables.fenceQ ++ [⟨ldi, handle, status, origin⟩] } }

/-- Apply everything that waits for the fence table, in order (R47, R51: a status is written before any reply or
event that reports the same error). -/
def State.settle (s : State) : State :=
  s.tables.fenceQ.foldl State.applyStatus { s with tables := { s.tables with fenceQ := [] } }

/-! ### The error log (R380, R381, R473) -/

/-- A staged record as it is written: the time state and TIME of that moment. -/
def State.stampRecord (s : State) (r : Bytes) : Bytes :=
  leBytes 2 (fieldAt r 0 2 + s.time.state.code * 2 ^ 12) ++ bytesAt r 2 6 ++ leBytes 8 (timeRecord s.time12) ++ r.drop 16

/-- The oldest staged record reaches its place, and every status that waits its fence before it (R51). -/
def State.logWrite (s : State) : State :=
  let s := s.settle
  match s.log.queue with
  | [] => s
  | r :: rs =>
    let seq := fieldAt r 2 6
    let p := (seq + 2 ^ 48 - 1) % 2 ^ 48 % 1024
    let full := (s.log.places.find p).isSome
    let l := { s.log with queue := rs, places := s.log.places.put p (s.stampRecord r), newest := seq }
    let s1 := if full then { s with log := l }.bump 0x011 else { s with log := l }
    if l.places.length == 768 && !full then s1.raise 9 else s1

/-- Every staged record reaches its place. -/
def State.flushLog (s : State) : State := (List.range s.log.queue.length).foldl (fun s _ => s.logWrite) s

/-- A record that is written before anything follows: none is ahead of it. -/
def State.recordNow (s : State) (type : Nat) (payload : Bytes) : State := (s.flushLog.record type payload).flushLog

/-! ### The fences of an LDI -/

/-- Indices of the LDI's ARMED fences, rising. -/
def State.armedOf (s : State) (ldi : Nat) : List Nat :=
  (s.tables.fences.filter (fun x => x.2.ldi == ldi && x.2.state == .armed)).map Prod.fst

/-- Signal every ARMED fence of the LDI with `ST_ABORTED` and a cause (R34, R53). -/
def State.signalAll (s : State) (ldi cause : Nat) : State :=
  (s.armedOf ldi).foldl (fun s i => s.signal i stAborted cause) s

/-! ### Allocation (R46) -/

/-- Fences of the LDI that are not FREE. -/
def State.fencesOf (s : State) (ldi : Nat) : List Nat :=
  (s.tables.fences.filter (fun x => x.2.ldi == ldi && x.2.state != .free)).map Prod.fst

/-- Highest index of the fence table and of the arrival counters. -/
def fenceTop : Nat := 262143

/-- The first index from `i` on that is not taken. -/
def firstFresh (taken : Nat → Bool) : Nat → Nat → Nat
  | 0, i => i
  | n + 1, i => if taken i then firstFresh taken n (i + 1) else i

/-- Take an index: never-used indices rising, then the one freed least recently, never a reserved one. The index, the next
index never used, and the freed indices that are left. `used` tells indices in use above the first. -/
def takeIndex (fresh entries : Nat) (freed reserved : List Nat) (used : Nat → Bool) : Option (Nat × Nat × List Nat) :=
  let i := firstFresh (fun k => used k || reserved.contains k || freed.contains k)
    (entries + freed.length + reserved.length) fresh
  if i ≤ fenceTop then some (i, if i == fresh then fresh + 1 else fresh, freed)
  else (freed.find? (fun k => !reserved.contains k)).map (fun k => (k, fresh, freed.filter (fun x => x != k)))

/-- Fence indices and arrival counters that migrations hold reserved (R343). -/
def Tables.reserved (t : Tables) (f : MigState → List Nat) : List Nat :=
  t.domains.vals.flatMap (fun d => ((d.mig.bind (·.reserved)).map f).getD [])

/-- The LDI's stream entries that its migration holds reserved. -/
def Domain.reservedStreams (d : Domain) : List Nat := ((d.mig.bind (·.reserved)).map (fun x => x.streams.map Prod.fst)).getD []

def MigState.fenceIds (m : MigState) : List Nat := m.fences.map Prod.fst
def MigState.arrIds (m : MigState) : List Nat := m.arrs.map Prod.fst

/-- Fences that count against an LDI's grant: those not FREE, and those reserved. -/
def State.fenceUse (s : State) (ldi : Nat) : Nat :=
  (s.fencesOf ldi).length + (((s.dom ldi).mig.bind (·.reserved)).map (·.fences.length)).getD 0

/-- Arrival counters that count against an LDI's grant. -/
def State.arrUse (s : State) (ldi : Nat) : Nat :=
  (s.tables.arrs.filter (fun x => x.2.ldi == ldi)).length
    + (((s.dom ldi).mig.bind (·.reserved)).map (·.arrs.length)).getD 0

/-- Allocate a fence to the LDI, ARMED, with a producer; its handle. -/
def State.allocFence (s : State) (ldi producer : Nat) : Option (Nat × State) :=
  let t := s.tables
  match takeIndex t.fenceFresh t.fences.length t.fenceFreed (t.reserved MigState.fenceIds)
      (fun i => (s.fence i).ldi != 0) with
  | none => none
  | some (i, fresh, freed) =>
    let e := ((s.fence i).epoch + 1) % 16384
    let f : Fence := { ldi := ldi, producer := producer, state := .armed, epoch := e }
    some (fenceHandle i e,
      { s with tables := { t with fences := t.fences.put i f, fenceFresh := fresh, fenceFreed := freed } })

/-- Free a fence: FREE keeps the epoch. -/
def State.freeFence (s : State) (i : Nat) : State :=
  let s := s.setFence i { epoch := (s.fence i).epoch }
  { s with tables := { s.tables with fenceFreed := s.tables.fenceFreed ++ [i] } }

/-! ### Arrival counters -/

/-- The counter is allocated to the LDI (R125). -/
def State.arrOk (s : State) (ldi i : Nat) : Bool :=
  match s.tables.arrs.find i with
  | some a => i != 0 && a.ldi == ldi
  | none => false

/-- Add bytes to a counter and publish its value on `BP_ARR` (R125, R449). Index 0 names no counter. -/
def State.arrive (s : State) (i n : Nat) : State :=
  match s.tables.arrs.find i with
  | some a =>
    if i == 0 then s
    else
      let b := (a.bytes + n) % 2 ^ 46
      ({ s with tables := { s.tables with arrs := s.tables.arrs.put i { a with bytes := b } } }).emit
        (.bpArr i a.ldi b)
  | none => s

end Sys2Proof.Machine
end

