-- ==== Sys2Proof/Machine/Flags.lean ====
section
/-!
DEFINITION. Field arithmetic and line cryptography of Weft (R55, R56) and of the fingerprint (R179).
-/
namespace Sys2Proof.Machine

/-! ### Binary fields: bit b is the coefficient of x^b (R56, R179) -/

/-- Multiply by x and reduce: `poly` is the reduction polynomial less its leading term. -/
def gfShift {w : Nat} (poly a : BitVec w) : BitVec w := (a <<< 1) ^^^ (if a.msb then poly else 0)

/-- Multiply, taking the bits of `b` from bit `n - 1` down. -/
def gfMulFrom {w : Nat} (poly a b : BitVec w) : Nat → BitVec w → BitVec w
  | 0, acc => acc
  | n + 1, acc => gfMulFrom poly a b n (gfShift poly acc ^^^ (if b.getLsbD n then a else 0))

def gfMul {w : Nat} (poly a b : BitVec w) : BitVec w := gfMulFrom poly a b w 0

/-- x^4 + x^3 + x + 1, for GF(2^64) (R56). -/
def poly64 : BitVec 64 := 0x1B

/-- x^7 + x^2 + x + 1, for GF(2^128) (R179) and the tweak of IEEE 1619 (R55). -/
def poly128 : BitVec 128 := 0x87

/-! ### XTS (R55) -/

/-- Tweak value and tag-mask input block. -/
def tweakBlock (dli ldi gen : Nat) : BitVec 128 :=
  BitVec.ofNat 128 (dli % 2 ^ 32 + ldi % 256 * 2 ^ 32 + gen % 65536 * 2 ^ 40)

/-- T times alpha to the j. -/
def tweakAt (t : BitVec 128) : Nat → BitVec 128
  | 0 => t
  | j + 1 => gfShift poly128 (tweakAt t j)

def lineBlock (l : Line) (j : Nat) : BitVec 128 := l.extractLsb' (128 * j) 128

/-- A line of four blocks, block 0 lowest. -/
def lineJoin (b0 b1 b2 b3 : BitVec 128) : Line :=
  b0.setWidth 512 ||| (b1.setWidth 512 <<< 128) ||| (b2.setWidth 512 <<< 256) ||| (b3.setWidth 512 <<< 384)

/-- One line through the cipher `f` under K1, with the tweak under K2. -/
def xtsLine (f : BitVec 128 → BitVec 128) (t : BitVec 128) (l : Line) : Line :=
  let g := fun j => f (lineBlock l j ^^^ tweakAt t j) ^^^ tweakAt t j
  lineJoin (g 0) (g 1) (g 2) (g 3)

/-- Ciphertext of a line (R55). -/
def encryptLine (k : MemKeys) (dli ldi gen : Nat) (p : Line) : Line :=
  xtsLine (Config.aes256 k.k1) (Config.aes256 k.k2 (tweakBlock dli ldi gen)) p

/-- Plaintext of a line (R55). -/
def decryptLine (k : MemKeys) (dli ldi gen : Nat) (c : Line) : Line :=
  xtsLine (Config.aes256Inv k.k1) (Config.aes256 k.k2 (tweakBlock dli ldi gen)) c

/-- c0·H^8 + ... + c7·H by Horner, from word `8 - n` on (R56). -/
def lineHashFrom (h : BitVec 64) (c : Line) : Nat → BitVec 64 → BitVec 64
  | 0, acc => acc
  | n + 1, acc => lineHashFrom h c n (gfMul poly64 (acc ^^^ c.extractLsb' (64 * (7 - n)) 64) h)

/-- The tag of a line, from its ciphertext (R56). -/
def lineTag (k : MemKeys) (dli ldi gen : Nat) (c : Line) : BitVec 64 :=
  lineHashFrom k.h c 8 0 ^^^ (Config.aes256 k.km (tweakBlock dli ldi gen)).setWidth 64

/-- Byte enables as a mask of bits. -/
def byteMask (be : BitVec 64) : Nat → Line
  | 0 => 0
  | n + 1 => byteMask be n ||| (if be.getLsbD n then (0xFF#512 <<< (8 * n)) else 0)

/-- The plaintext with the enabled bytes of `new` merged in (R68). -/
def mergeLine (old new : Line) (be : BitVec 64) : Line :=
  (old &&& ~~~ (byteMask be 64)) ||| (new &&& byteMask be 64)

/-- Number of bytes enabled. -/
def beCount (be : BitVec 64) : Nat := ((List.range 64).filter (fun i => be.getLsbD i)).length

end Sys2Proof.Machine
end

