-- ==== Sys2Proof/Machine/Lanes.lean ====
section
/-!
DEFINITION. What a Weft lane does with a request (spec/03_weft_datapath.md, spec/04_weft_integrity.md): address mapping,
ownership check, Selvedge buffer, line order, acceptance and refusal. The commands are in Machine/Weft.lean.
-/
namespace Sys2Proof.Machine

/-! ### Address mapping (R57) -/

def Build.gRow (b : Build) (dli : Nat) : Nat := dli / b.dataLines
def Build.slot (b : Build) (dli : Nat) : Nat := dli % b.dataLines
def Build.laneOf (b : Build) (dli : Nat) : Nat := b.gRow dli % b.lanes
def Build.lrow (b : Build) (dli : Nat) : Nat := b.gRow dli / b.lanes
def Build.pdata (b : Build) (dli : Nat) : Nat := b.lrow dli * b.physLines + b.slot dli
def Build.psel (b : Build) (dli : Nat) : Nat := b.lrow dli * b.physLines + b.dataLines + b.slot dli / 8
/-- The tag field of the line within its Selvedge line: `toff` divided by 8. -/
def Build.tagField (b : Build) (dli : Nat) : Nat := b.slot dli % 8

/-- The Selvedge line is line 31 of a 2-KiB row, accessed by 32 B (R58). -/
def Build.halfLine (b : Build) (psel : Nat) : Bool := b.weave2k && psel % 32 == 31

/-- The last Selvedge line of a row, which has reserved bytes (R58). -/
def Build.lastLine (b : Build) (psel : Nat) : Bool := psel % b.physLines == b.physLines - 1

/-- The granule of a line. -/
def granuleOf (dli : Nat) : Nat := dli / 1024

/-! ### Lanes -/

/-- The lane that serves a number; before any failover it is the instance of that number. -/
def State.lane (s : State) (n : Nat) : Lane := s.weft.lanes.findD n { instance_ := n }

def State.setLane (s : State) (n : Nat) (l : Lane) : State :=
  { s with weft := { s.weft with lanes := s.weft.lanes.put n l } }

/-- Block counter `k` of the instance that serves lane n (R414). -/
def State.bumpLane (s : State) (n k : Nat) : State := s.bump (0x080 + 8 * (s.lane n).instance_ + k)

def LineSrc.isHost : LineSrc → Bool
  | .host => true
  | _ => false

/-- The Loom scrub engine (R39). -/
def LineSrc.isScrub : LineSrc → Bool
  | .scrub | .scrubCmd _ => true
  | _ => false

/-- A Loom engine (R39). -/
def LineSrc.isLoom : LineSrc → Bool
  | .scrub | .scrubCmd _ | .bulk _ | .finger _ => true
  | _ => false

/-- SOURCE of a Weft record (R92, R183). -/
def LineSrc.code : LineSrc → Nat
  | .host => 0
  | .batten _ | .window => 1
  | .scrub | .scrubCmd _ | .finger _ => 2
  | .bulk _ => 3

/-- GOT entry of a granule (R38). -/
def State.got (s : State) (g : Nat) : GotEntry := s.tables.got.findD g {}

def State.setGot (s : State) (g : Nat) (e : GotEntry) : State :=
  { s with tables := { s.tables with got := s.tables.got.put g e } }

/-- The ownership check: 0 when the access proceeds, else its status; rows in order (R39, R75). -/
def State.gotCheck (s : State) (r : LineReq) : Nat :=
  let e := s.got (granuleOf r.dli)
  let d := s.dom r.ldi
  let genOk := e.gen == d.gen && e.gen != 65535
  if r.src.isScrub && e.ldi == r.ldi && genOk && (e.state == .scrubbing || e.state == .held) then stOk
  else if d.state == .aborted then stAborted
  else if e.ldi != r.ldi then stOwnership
  else if !genOk then stStaleGen
  else if e.state == .scrubbing || e.state == .free then stGranuleGone
  else if e.state == .held && !r.src.isLoom then stOwnership
  else if !d.state.flows && !r.src.isLoom then stState
  else stOk

/-! ### Answers (R437-R438, R39) -/

/-- A read group comes before a request in line order: every group does, but for a request that has a group of its own. -/
def ReadGroup.before (g : ReadGroup) (r : LineReq) : Bool :=
  match r.order with
  | some k => decide (g.id < k)
  | none => true

/-- The outstanding read group of the host on the line of a request that came last before it (R438). -/
def Lane.lastRead (l : Lane) (r : LineReq) : Option Nat :=
  ((l.reads.filter (fun g => g.req.src.isHost && g.req.dli == r.dli && g.before r)).getLast?).map (·.id)

/-- A response on `HP_`, behind the earlier outstanding reads of its line. -/
def State.hpAnswer (s : State) (n : Nat) (r : LineReq) (o : Output) : State :=
  match (s.lane n).lastRead r with
  | some t => s.setLane n { s.lane n with owed := (s.lane n).owed ++ [(t, o)] }
  | none => s.emit o

/-- The one answer of a request: a response on `HP_`, or a return to the source inside the block;
the scrub engine of R40 and R41 needs none. -/
def State.answer (s : State) (n : Nat) (r : LineReq) (status : Nat) (data : Line) : State :=
  match r.src with
  | .host => s.hpAnswer n r (.hpRsp n r.tag (if r.op == .read then 0 else 1) (status != stOk) status data)
  | .scrub => s
  | _ => { s with weft := { s.weft with done := s.weft.done ++ [{ req := r, status := status, data := data }] } }

/-- The fence of a STORE, MSTORE or REDUCE from the fabric (R127): its arrival counter's, else the domain error fence (0). -/
def State.destFence (s : State) (ldi arr : Nat) : Nat :=
  if s.arrOk ldi arr then
    match s.tables.arrs.find arr with
    | some a => if a.fence == 0 then 0 else fenceHandle a.fence (s.fence a.fence).epoch
    | none => 0
  else 0

/-- The fence of a host request (R51, R127): the one it names; a write that names none, as a STORE delivered from the fabric
does, has its arrival counter's (DEDUCED, notes/assumptions/45.md). -/
def State.hostFence (s : State) (r : LineReq) : Nat := if r.fence == 0 then s.destFence r.ldi r.arr else r.fence

/-- Bind the status of a request's error (R51): the fence of a host request; other sources bind by their own rules. -/
def State.bindLine (s : State) (r : LineReq) (status : Nat) : State :=
  match r.src with
  | .host => s.post r.ldi (s.hostFence r) status .weft
  | _ => s

/-- Refuse a request with a status bound to its fence, which is written before the answer (R51). -/
def State.refuseLine (s : State) (n : Nat) (r : LineReq) (status : Nat) : State :=
  (s.bindLine r status).settle.answer n r status 0

/-! ### Records (R92, R93) -/

/-- The fence that an error naming a handle binds to (R51): the one named while it is ARMED, else the domain error fence. -/
def State.boundFence (s : State) (ldi h : Nat) : Nat := if s.fenceArmed ldi h then h else (s.dom ldi).errFence

/-- The same of a host request. -/
def State.boundHost (s : State) (r : LineReq) : Nat := s.boundFence r.ldi (s.hostFence r)

/-- A record of types 0x0301 to 0x0304: a lane writes one of them in all for an LDI in 1 µs, and counts the others by type for
SUPPRESSED (R93). -/
def State.recordShared (s : State) (type lane ldi : Nat) (pay : Nat → Bytes) : State :=
  let kept := ((s.log.quietFor type lane ldi).map Prod.snd).getD 0
  match s.log.quietFor 0x0300 lane ldi with
  | some (at_, _) =>
    if s.now < at_ + usTicks then { s with log := s.log.setQuiet type lane ldi 0 (kept + 1) }
    else ({ s with log := (s.log.setQuiet 0x0300 lane ldi s.now 0).setQuiet type lane ldi 0 0 }).record type (pay kept)
  | none => ({ s with log := s.log.setQuiet 0x0300 lane ldi s.now 0 }).record type (pay kept)

def weftPayload (dli ldi source gen lane inst flags fence ctx status suppressed : Nat) : Bytes :=
  leBytes 4 dli ++ leBytes 1 ldi ++ leBytes 1 source ++ leBytes 2 gen ++ leBytes 2 lane ++ leBytes 1 inst
    ++ leBytes 1 flags ++ leBytes 4 fence ++ leBytes 2 ctx ++ leBytes 2 status ++ leBytes 4 suppressed

/-- FLAGS of a record on a request (R92). -/
def Lane.recFlags (l : Lane) (r : LineReq) : Nat :=
  (if r.op == .masked then 1 else 0) + (if l.failing.contains (r.dli, r.ldi) then 2 else 0)
    + (if l.overflow.contains r.ldi then 4 else 0)

/-- A record of a lane: of types 0x0301 to 0x0304 at most one per LDI in 1 µs. -/
def State.laneLog (s : State) (n type ldi : Nat) (pay : Nat → Bytes) : State :=
  if 0x0301 ≤ type ∧ type ≤ 0x0304 then s.recordShared type n ldi pay else s.record type (pay 0)

/-- A record of lane n on a request. -/
def State.weftRecord (s : State) (n type : Nat) (r : LineReq) (flags fence status : Nat) : State :=
  s.laneLog n type r.ldi (weftPayload r.dli r.ldi r.src.code r.gen n (s.lane n).instance_ flags fence r.ctx status)

/-! ### Counting (R414-R416, R221, R425) -/

/-- Count one line moved: `k` 0 read and returned verified, 1 full-line write, 2 byte-masked write accepted. -/
def State.countLine (s : State) (n k : Nat) (r : LineReq) : State :=
  let s := (s.bumpLane n k).bumpDom r.ldi (if k == 0 then 0 else 1) 64
  let s := s.meter r.ldi 64 0 0
  let s := if r.src.isHost then s.annotCount r.ldi false false r.annot 64 else s
  s.segment 2 (s.lane n).instance_ r.ldi r.ctx r.annot 64

/-! ### MP_ commands (R440) -/

/-- Command tags in use. -/
def Lane.tags (l : Lane) : List Nat :=
  l.reads.flatMap (fun g => g.dataTag.toList ++ g.selTag.toList) ++ l.writes.map Prod.fst

/-- The lowest free command tags, `k` of them, when there are so many. -/
def Lane.freeTags (l : Lane) (k : Nat) : Option (List Nat) :=
  let used := l.tags
  let t := ((List.range 256).filter (fun i => !used.contains i)).take k
  if t.length == k then some t else none

/-! ### Selvedge buffer (R70, R72) -/

def Lane.selvOf (l : Lane) (psel : Nat) : Option SelvEntry := l.selv.find? (fun e => e.psel == psel)

def emptyFields : List TagField := List.replicate 8 {}

/-- Put an entry first: most recently used. -/
def Lane.selvPut (l : Lane) (e : SelvEntry) : Lane :=
  { l with selv := e :: l.selv.filter (fun x => x.psel != e.psel) }

/-- An entry that may be taken: clean, with no fetch pending. -/
def SelvEntry.takeable (e : SelvEntry) : Bool := !e.fetchPending && e.fields.all (fun f => !f.dirty)

/-- Entries that an LDI holds. -/
def Lane.selvHeld (l : Lane) (ldi : Nat) : Nat := (l.selv.filter (fun e => e.ldi == ldi)).length

/-- The entry to take for an LDI, least recently used first: one of a domain above its guaranteed share, then one
of its own. -/
def State.selvVictim (s : State) (l : Lane) (ldi : Nat) : Option SelvEntry :=
  let clean := l.selv.reverse.filter (·.takeable)
  match clean.find? (fun e => (s.dom e.ldi).grant.selvedge < l.selvHeld e.ldi) with
  | some e => some e
  | none => clean.find? (fun e => e.ldi == ldi)

/-- The lane with an entry for the Selvedge line, when one can be had. -/
def State.selvAlloc (s : State) (l : Lane) (ldi psel : Nat) : Option Lane :=
  match l.selvOf psel with
  | some e => some (l.selvPut e)
  | none =>
    let fresh : SelvEntry := { psel := psel, fields := emptyFields, fetchPending := false, ldi := ldi }
    if l.selv.length < 64 then some (l.selvPut fresh)
    else match s.selvVictim l ldi with
      | some v => some ({ l with selv := l.selv.filter (fun e => e.psel != v.psel) }.selvPut fresh)
      | none => none

/-- A tag that is valid in the buffer. -/
def Lane.tagHeld (l : Lane) (psel field : Nat) : Option (BitVec 64) :=
  match l.selvOf psel with
  | some e => match e.fields[field]? with
    | some f => if f.valid then some f.tag else none
    | none => none
  | none => none

/-- Set one tag field. -/
def Lane.setTag (l : Lane) (psel field : Nat) (f : TagField) : Lane :=
  match l.selvOf psel with
  | some e => l.selvPut { e with fields := e.fields.set field f }
  | none => l

/-- Fill the tag fields from a Selvedge line read from DRAM (R70). DESIGN CHOICE: a field that is valid, clean or dirty, stays as it
is (notes/assumptions/44.md). -/
def fillFields (data : Line) (count : Nat) : List TagField → Nat → List TagField
  | [], _ => []
  | f :: fs, i => (if f.valid || count ≤ i then f
      else { tag := data.extractLsb' (64 * i) 64, valid := true, dirty := false }) :: fillFields data count fs (i + 1)

/-! ### Acceptance (R67, R68) -/

/-- Accepted writes of a line that wait for `MP_`, oldest first (R66). -/
def Lane.accepted (l : Lane) (dli : Nat) : List IngressEntry := l.ingress.filter (fun e => e.req.dli == dli)

/-- The plaintext that a request of the line sees in the ingress buffer. -/
def Lane.forward (l : Lane) (dli : Nat) : Option Line := ((l.accepted dli).getLast?).map (·.req.data)

/-- Ingress entries taken or reserved (R73): every write between its acceptance on the port and its end. -/
def Lane.reserved (l : Lane) : Nat :=
  l.ingress.length + (l.reads.filter (fun g => g.req.op != .read)).length
    + (l.held.filter (fun r => r.op != .read)).length
    + ((l.misses.flatMap Prod.snd).filter (fun r => r.op != .read)).length

/-- A Selvedge entry can be had for the line. -/
def State.selvReady (s : State) (l : Lane) (r : LineReq) : Bool := (s.selvAlloc l r.ldi (s.build.psel r.dli)).isSome

/-- The line joins the open write group of its weave row, opens one, or waits in the write queue; while a write of another row
waits there, the open group takes nothing more (R71). -/
def Lane.joinGroup (b : Build) (l : Lane) (id dli : Nat) : Lane :=
  match l.group with
  | none => { l with group := some (b.lrow dli, [id]) }
  | some (row, ids) =>
    if row == b.lrow dli && l.writeQ.isEmpty then { l with group := some (row, ids ++ [id]) }
    else { l with writeQ := l.writeQ ++ [id] }

/-- Enter an accepted write: ingress entry, tag field valid and dirty, write group (R67, R70 rule 4). DESIGN CHOICE: where a
byte-masked write forms its line and the buffer has no entry to give, its tag goes with its ingress entry alone
(notes/assumptions/44.md). -/
def State.enterWrite (s : State) (n : Nat) (r : LineReq) (plain : Line) : State :=
  let b := s.build
  let k := s.memKeys r.ldi
  let tag := lineTag k r.dli r.ldi r.gen (encryptLine k r.dli r.ldi r.gen plain)
  let l := (s.selvAlloc (s.lane n) r.ldi (b.psel r.dli)).getD (s.lane n)
  let l := l.setTag (b.psel r.dli) (b.tagField r.dli) { tag := tag, valid := true, dirty := true }
  let e : IngressEntry := { id := l.nextEntry, req := { r with data := plain } }
  let l := { l with ingress := l.ingress ++ [e], nextEntry := l.nextEntry + 1 }
  s.setLane n (l.joinGroup b e.id r.dli)

/-- A write is accepted (R19): it enters, leaves the failing-line table, counts, and is acknowledged. -/
def State.acceptWrite (s : State) (n : Nat) (r : LineReq) (plain : Line) : State :=
  let s := s.enterWrite n r plain
  let s := s.setLane n { s.lane n with failing := (s.lane n).failing.filter (fun x => x.1 != r.dli) }
  let s := s.countLine n (if r.op == .masked then 2 else 1) r
  let s := s.arrive r.arr (if r.op == .masked then beCount r.be else 64)
  s.answer n r stOk 0

/-- Keep a request in line order behind another of its line, or until a Selvedge entry is free. -/
def State.holdLine (s : State) (n : Nat) (r : LineReq) : State :=
  s.setLane n { s.lane n with held := (s.lane n).held ++ [r] }

/-- A request must wait behind an earlier one of its line: a byte-masked write (R68), a read whose group is not yet issued, or
a request that waits itself. -/
def Lane.blocked (l : Lane) (dli : Nat) : Bool :=
  l.reads.any (fun g => (g.req.op != .read || !g.issued) && g.req.dli == dli) || l.held.any (fun r => r.dli == dli)

/-- A byte-masked write of the line has passed its C2 and is not accepted yet (R68). -/
def Lane.merging (l : Lane) (dli : Nat) : Bool := l.reads.any (fun g => g.req.op != .read && g.req.dli == dli)

/-- Replace a read group by its number. -/
def Lane.setGroup (l : Lane) (g : ReadGroup) : Lane :=
  { l with reads := l.reads.map (fun x => if x.id == g.id then g else x) }

/-- A fetch of the Selvedge line is pending. -/
def Lane.fetching (l : Lane) (psel : Nat) : Bool := match l.selvOf psel with | some e => e.fetchPending | none => false

/-- The Selvedge line is used, or its fetch begins. -/
def Lane.touchSelv (l : Lane) (psel : Nat) (fetch : Bool) : Lane :=
  match l.selvOf psel with
  | some e => l.selvPut { e with fetchPending := e.fetchPending || fetch }
  | none => l

/-- Issue a read group of the lane on `MP_`: the data read, and the Selvedge read where the tag is neither held nor on its way
(R65, R70). None while command tags or a Selvedge entry are lacking (R72). -/
def State.issueGroup (s : State) (n : Nat) (g : ReadGroup) : Option State :=
  let b := s.build
  let l := s.lane n
  let r := g.req
  let ps := b.psel r.dli
  let gid := l.nextGroup
  let put := fun (l : Lane) (g : ReadGroup) => s.setLane n { l.setGroup g with nextGroup := (gid + 1) % 256 }
  let read := fun (t : Nat) (last : Bool) => Output.mpCmd n 0 (b.pdata r.dli) gid last t 0 0
  match l.tagHeld ps (b.tagField r.dli) with
  | some tag => match l.freeTags 1 with
    | some [t] =>
      some ((put (l.touchSelv ps false) { g with issued := true, dataTag := some t, storedTag := some tag }).emit (read t true))
    | _ => none
  | none => match s.selvAlloc l r.ldi ps with
    | none => none
    | some l1 =>
      if l1.fetching ps then match l1.freeTags 1 with
        | some [t] => some ((put l1 { g with issued := true, dataTag := some t, waitSel := true }).emit (read t true))
        | _ => none
      else match l1.freeTags 2 with
        | some [t1, t2] =>
          some (((put (l1.touchSelv ps true) { g with issued := true, dataTag := some t1, selTag := some t2 }).bumpLane n 5).emitAll
            [read t1 false, .mpCmd n (if b.halfLine ps then 1 else 0) ps gid true t2 0 0])
        | _ => none

/-- Issue the groups of a lane that wait for it, in order. -/
def State.issueWaiting (s : State) (n : Nat) : State :=
  ((s.lane n).reads.filter (fun g => !g.issued)).foldl (fun s g => (s.issueGroup n g).getD s) s

/-- A request past its C2 that must read its line (R65, R68): its group is issued, at once where that can be done. -/
def State.issueRead (s : State) (n : Nat) (r : LineReq) : State :=
  let l := s.lane n
  let g : ReadGroup := { id := l.nextRead, req := { r with order := some l.nextRead } }
  let s := s.setLane n { l with reads := l.reads ++ [g], nextRead := l.nextRead + 1 }
  (s.issueGroup n g).getD s

/-- A read that the ingress buffer answers takes its place behind the outstanding reads of its line (R66, R438). -/
def State.queueRead (s : State) (n : Nat) (r : LineReq) (p : Line) : State :=
  let l := s.lane n
  let g : ReadGroup := { id := l.nextRead, req := { r with order := some l.nextRead }, issued := true, plain := some p }
  s.setLane n { l with reads := l.reads ++ [g], nextRead := l.nextRead + 1 }

/-- Count a read that returns data (R221, R414): a scrub returns none. -/
def State.countRead (s : State) (n : Nat) (r : LineReq) : State :=
  match r.src with
  | .scrubCmd _ => s
  | _ => s.countLine n 0 r

/-- A read at its C2: the ingress buffer answers it (R66), or its access group is issued. -/
def State.passRead (s : State) (n : Nat) (r : LineReq) : State :=
  match (s.lane n).forward r.dli with
  | some p =>
    if r.src.isHost && ((s.lane n).lastRead r).isSome then s.queueRead n r p else (s.countRead n r).answer n r stOk p
  | none => s.issueRead n r

/-- A write that must merge at its C2 (R68): with the accepted data of the line, or after a read of it. -/
def State.passMerge (s : State) (n : Nat) (r : LineReq) : State :=
  match (s.lane n).forward r.dli with
  | some p =>
    if s.selvReady (s.lane n) r then s.acceptWrite n r (if r.op == .masked then mergeLine p r.data r.be else r.data)
    else s.holdLine n r
  | none => s.issueRead n r

/-- Refuse a full-line write of a line known to fail (R82); a ZERO scrub skips it, and no status binds (R86). -/
def State.refuseKnown (s : State) (n : Nat) (r : LineReq) : State :=
  match r.src with
  | .scrubCmd _ =>
    { s with weft := { s.weft with done := s.weft.done ++ [{ req := r, status := stIntegrity, skipped := true }] } }
  | _ => s.refuseLine n r stIntegrity

/-- A full-line write at its C2 (R67, R80-R84). DESIGN CHOICE: the KNOWN_FAIL_REFUSED record of a line that a ZERO scrub skips
carries `ST_INTEGRITY` and FENCE 0, though no status binds. DESIGN CHOICE: the zero writes of R40 and R41 do not take the
byte-masked path under the overflow flag of R80 (notes/assumptions/44.md). -/
def State.passFull (s : State) (n : Nat) (r : LineReq) : State :=
  let l := s.lane n
  let heal := (s.dom r.ldi).heal
  let known := l.failing.contains (r.dli, r.ldi)
  if r.src == .scrub then
    if s.selvReady l r then s.acceptWrite n r r.data else s.holdLine n r
  else if known && !heal then
    (s.weftRecord n 0x0304 r (l.recFlags r) (if r.src.isHost then s.boundHost r else 0) stIntegrity).refuseKnown n r
  else if l.overflow.contains r.ldi && !heal then s.passMerge n r
  else if s.selvReady l r then
    let s := if known then s.weftRecord n 0x0305 r (l.recFlags r) 0 stOk else s
    s.acceptWrite n r r.data
  else s.holdLine n r

/-- The write names an arrival counter that is not allocated to its LDI (R125). -/
def State.badArr (s : State) (r : LineReq) : Bool := r.op != .read && r.arr != 0 && !s.arrOk r.ldi r.arr

/-- The memory keys of an LDI have been destroyed: nothing of it can be decrypted or issued (R192). -/
def State.keyless (s : State) (ldi : Nat) : Bool := (s.keySlot (8 * ldi)).type == 0

/-- A request that has passed the ownership check of its C2. Without the keys of its domain it has no effect (R192). -/
def State.passLine (s : State) (n : Nat) (r : LineReq) : State :=
  if s.keyless r.ldi then s.answer n r stAborted 0
  else if s.badArr r then (s.post r.ldi 0 stBadParam .weft).settle.answer n r stBadParam 0
  else match r.op with
    | .read => s.passRead n r
    | .full => s.passFull n r
    | .masked => if r.be == BitVec.allOnes 64 then s.passFull n { r with op := .full } else s.passMerge n r

/-- The request with the result of its ownership check. -/
def State.checkC2 (s : State) (r : LineReq) : LineReq :=
  { r with gen := (s.dom r.ldi).gen, c2 := some (s.gotCheck r), behind := false }

/-- A request at its C2, the line-order point (R63): it waits behind an earlier request of its line, is refused by the
ownership check, or proceeds. A read makes its check before it waits, and completes under it; where it waited behind a byte-masked
write and no accepted data of the line is there in the end, that write was refused, and the read makes another check as it is
issued again (R69). A write makes its check after it has waited. -/
def State.passC2 (s : State) (n : Nat) (r : LineReq) : State :=
  let l := s.lane n
  if l.blocked r.dli then
    s.holdLine n (if r.op == .read then
      { (if r.c2.isNone then s.checkC2 r else r) with behind := r.behind || l.merging r.dli } else r)
  else
    let q := if r.c2.isNone || (r.behind && (l.forward r.dli).isNone) then s.checkC2 r else r
    if q.c2 != some stOk then s.refuseLine n q (q.c2.getD stOk)
    else s.passLine n q

/-- Let every held request try its C2 again, in order. -/
def State.releaseHeld (s : State) (n : Nat) : State :=
  let l := s.lane n
  l.held.foldl (fun s r => s.passC2 n r) (s.setLane n { l with held := [] })

/-- After an entry or a line has become free: groups that wait are issued, and held requests go on. -/
def State.goOn (s : State) (n : Nat) : State := (s.issueWaiting n).releaseHeld n

/-! ### The GOT cache (R64) -/

/-- Enter a granule as most recently used, in place of the least recently used of 64. -/
def Lane.gotTouch (l : Lane) (g : Nat) : Lane :=
  { l with got := (g :: l.got.filter (fun x => x != g)).take 64 }

/-- A request has its entry at once, or waits for a fetch: at most 8 fetches are outstanding. None when the lane
cannot take the request. -/
def State.lookup (s : State) (n : Nat) (r : LineReq) : Option State :=
  let l := s.lane n
  let g := granuleOf r.dli
  if l.misses.any (fun m => m.1 == g) then
    some (s.setLane n { l with misses := l.misses.map (fun m => if m.1 == g then (g, m.2 ++ [r]) else m) })
  else if l.got.contains g then some ((s.setLane n (l.gotTouch g)).passC2 n r)
  else if l.misses.length < 8 then
    some ((s.setLane n { l with misses := l.misses ++ [(g, [r])] }).bumpLane n 4)
  else none

/-- The entry of a granule reaches the lane, and the requests that wait for it pass their C2 in order. -/
def State.fetchDone (s : State) (n g : Nat) : State :=
  let l := s.lane n
  let rs := (l.misses.filter (fun x => x.1 == g)).flatMap Prod.snd
  rs.foldl (fun s r => s.passC2 n r) (s.setLane n ({ l with misses := l.misses.filter (fun x => x.1 != g) }.gotTouch g))

/-- A request from a source inside the block. DESIGN CHOICE: a fetch that it needs is done within the step, with the fetch that
it merges into, whose requests go before it (notes/assumptions/44.md). -/
def State.submitLine (s : State) (r : LineReq) : State :=
  let n := s.build.laneOf r.dli
  let l := s.lane n
  let g := granuleOf r.dli
  if l.dead then s.answer n r stLaneFault 0
  else
    let s := if l.got.contains g || l.misses.any (fun m => m.1 == g) then s else s.bumpLane n 4
    (s.fetchDone n g).passC2 n r

/-- The lane can take a request of an LDI from inside the block now: not flushing, for a write an ingress entry is free, a fetch
can be made where one is needed (R64), and a Selvedge entry can be had (R72, R73). -/
def State.laneRoom (s : State) (ldi dli : Nat) (write : Bool) : Bool :=
  let l := s.lane (s.build.laneOf dli)
  !l.flushing && (l.dead || ((!write || decide (l.reserved < 48))
    && (l.got.contains (granuleOf dli) || l.misses.any (fun m => m.1 == granuleOf dli) || decide (l.misses.length < 8))
    && s.selvReady l { ldi := ldi, dli := dli }))

/-- The lanes can take requests of an LDI for these lines together. -/
def State.lanesRoom (s : State) (ldi : Nat) (dlis : List Nat) (write : Bool) : Bool :=
  dlis.all (fun d =>
    let n := s.build.laneOf d
    s.laneRoom ldi d write
      && (!write || (s.lane n).dead
        || decide ((s.lane n).reserved + (dlis.filter (fun x => s.build.laneOf x == n)).length ≤ 48)))

/-! ### Abort and retirement (R34 step 2, R53 step 3) -/

/-- Requests of an LDI that have not passed the line-order point of lane n. -/
def Lane.waiting (l : Lane) (ldi : Nat) : List LineReq :=
  ((l.misses.flatMap Prod.snd) ++ l.held).filter (fun r => r.ldi == ldi && r.src != .scrub)

/-- The lane without them. -/
def Lane.dropWaiting (l : Lane) (ldi : Nat) : Lane :=
  let keep := fun (r : LineReq) => !(r.ldi == ldi && r.src != .scrub)
  { l with
    misses := l.misses.map (fun m => (m.1, m.2.filter keep))
    held := l.held.filter keep }

/-- Discard the waiting requests of an LDI in one lane, each with its answer `ST_ABORTED`. -/
def State.discardLane (s : State) (ldi n : Nat) : State :=
  let l := s.lane n
  (l.waiting ldi).foldl (fun s r => s.answer n r stAborted 0) (s.setLane n (l.dropWaiting ldi))

def State.discardWeft (s : State) (ldi : Nat) : State :=
  s.weft.lanes.keys.foldl (fun s n => s.discardLane ldi n) s

/-- After a group has been emptied or closed, the write queue's first row opens the next (R71). -/
def State.nextWriteGroup (s : State) (l : Lane) : Lane :=
  match l.group with
  | some (_, _ :: _) => l
  | _ =>
    let rowOf := fun id => ((l.ingress.find? (fun e => e.id == id)).map (fun e => s.build.lrow e.req.dli)).getD 0
    match l.writeQ with
    | [] => { l with group := none }
    | id :: _ =>
      let row := rowOf id
      { l with
        group := some (row, l.writeQ.takeWhile (fun i => rowOf i == row))
        writeQ := l.writeQ.dropWhile (fun i => rowOf i == row) }

/-- The tag of an ingress entry's line (R56). -/
def State.entryTag (s : State) (e : IngressEntry) : BitVec 64 :=
  let r := e.req
  let k := s.memKeys r.ldi
  lineTag k r.dli r.ldi r.gen (encryptLine k r.dli r.ldi r.gen r.data)

/-- The tag field of a line once an entry of it has gone: that of the latest write of the line that the lane still holds, or none
valid. -/
def State.restTag (s : State) (l : Lane) (dli : Nat) : TagField :=
  match (l.accepted dli).getLast? with
  | some e => { tag := s.entryTag e, valid := true, dirty := e.selWait }
  | none => {}

/-- Take ingress entries out of a lane: a tag field holds the tag of a write that stays, or is no longer valid. -/
def State.removeEntries (s : State) (n : Nat) (out : List IngressEntry) : State :=
  let l := s.lane n
  let ids := out.map (·.id)
  let l := { l with
    ingress := l.ingress.filter (fun e => !ids.contains e.id)
    group := l.group.map (fun g => (g.1, g.2.filter (fun i => !ids.contains i)))
    writeQ := l.writeQ.filter (fun i => !ids.contains i) }
  let l := out.foldl (fun l e => l.setTag (s.build.psel e.req.dli) (s.build.tagField e.req.dli) (s.restTag l e.req.dli)) l
  s.setLane n (s.nextWriteGroup l)

/-- Take accepted writes out of a lane that has not issued them. -/
def State.dropEntries (s : State) (n : Nat) (p : IngressEntry → Bool) : State :=
  s.removeEntries n ((s.lane n).ingress.filter (fun e => !e.issued && p e))

/-- Give out the responses that waited behind a group (R438). -/
def State.payOwed (s : State) (n t : Nat) : State :=
  let l := s.lane n
  (s.setLane n { l with owed := l.owed.filter (fun x => x.1 != t) }).emitAll
    ((l.owed.filter (fun x => x.1 == t)).map Prod.snd)

/-- What a lane holds of an LDI and has not begun on `MP_`: requests that wait, and read groups not issued. -/
def Lane.notBegun (l : Lane) (ldi : Nat) : List LineReq :=
  ((l.reads.filter (fun g => !g.issued)).map (·.req) ++ l.misses.flatMap Prod.snd ++ l.held).filter (fun r => r.ldi == ldi)

/-- Step 3 of R53 in one lane, with R80: waiting requests are answered, unissued writes are dropped, and the LDI leaves
the failing-line table and the overflow flags. -/
def State.retireLane (s : State) (ldi n : Nat) : State :=
  let l := s.lane n
  let gone := l.reads.filter (fun g => !g.issued && g.req.ldi == ldi)
  let l1 := { l with
    reads := l.reads.filter (fun g => g.issued || g.req.ldi != ldi)
    misses := l.misses.map (fun m => (m.1, m.2.filter (fun r => r.ldi != ldi)))
    held := l.held.filter (fun r => r.ldi != ldi)
    failing := l.failing.filter (fun x => x.2 != ldi)
    overflow := l.overflow.filter (fun x => x != ldi) }
  let s := (l.notBegun ldi).foldl (fun s r => s.answer n r stAborted 0) (s.setLane n l1)
  let s := gone.foldl (fun s g => s.payOwed n g.id) s
  s.dropEntries n (fun e => e.req.ldi == ldi)

/-- Operations of the LDI that Weft still has to drop. -/
def Lane.droppable (l : Lane) (ldi : Nat) : Nat :=
  (l.notBegun ldi).length
    + (l.ingress.filter (fun e => !e.issued && e.req.ldi == ldi)).length

def State.weftDroppable (s : State) (ldi : Nat) : Nat :=
  (s.weft.lanes.vals.map (fun l => l.droppable ldi)).foldl (· + ·) 0

def State.retireWeft (s : State) (ldi : Nat) : State :=
  let s := s.weft.lanes.keys.foldl (fun s n => s.retireLane ldi n) s
  { s with weft := { s.weft with scrubQ := s.weft.scrubQ.filter (fun q => q.ldi != ldi) } }

/-- The in-flight count of an LDI in Weft (R53 step 4). -/
def Lane.inflight (l : Lane) (ldi : Nat) : Nat :=
  (l.reads.filter (fun g => g.req.ldi == ldi)).length + (l.ingress.filter (fun e => e.req.ldi == ldi)).length
    + (((l.misses.flatMap Prod.snd) ++ l.held).filter (fun r => r.ldi == ldi)).length

def State.weftInflight (s : State) (ldi : Nat) : Nat :=
  (s.weft.lanes.vals.map (fun l => l.inflight ldi)).foldl (· + ·) 0

end Sys2Proof.Machine
end

