-- ==== Sys2Proof/Machine/Engines.lean ====
section
/-!
DEFINITION. What a Shuttle engine does with a packet (spec/05_shuttle_security.md, spec/06_shuttle_delivery.md): counters,
replay windows, protection, sending, the ingress checks. The commands are in Machine/Shuttle.lean and its neighbours.
-/
namespace Sys2Proof.Machine

/-! ### Engines and homes (R100, R117) -/

def State.engine (s : State) (n : Nat) : Engine := s.shuttle.engines.findD n { instance_ := n }

def State.setEngine (s : State) (n : Nat) (e : Engine) : State :=
  { s with shuttle := { s.shuttle with engines := s.shuttle.engines.put n e } }

/-- The port is open: its engine number is built and not dead (R389). -/
def State.portUp (s : State) (p : Nat) : Bool := decide (p < s.build.engines) && !(s.engine p).dead

/-- The lowest-numbered live engine. -/
def State.firstEngine (s : State) : Nat :=
  ((List.range s.build.engines).find? (fun n => !(s.engine n).dead)).getD 0

/-- The home engine of a number: the engine of that number mod E, or, when it is dead, the lowest live one. -/
def State.homeOf (s : State) (x : Nat) : Nat :=
  let h := x % s.build.engines
  if (s.engine h).dead then s.firstEngine else h

/-- Home of a pair SA, and of a (group, sender) entry. -/
def State.pairHome (s : State) (peer : Nat) : Nat := s.homeOf peer
def State.groupHome (s : State) (gid sender : Nat) : Nat := s.homeOf (Nat.xor gid sender)

/-- Index of an instance in the block counters (R414). -/
def engineIndex (inst : Nat) : Nat := if inst < 0x80 then inst else 24 + (inst - 0x80)

/-- Block counter `k` of the engine that serves a port (R414). -/
def State.bumpEngine (s : State) (p k n : Nat) : State :=
  s.bump (0x4A0 + 8 * engineIndex (s.engine p).instance_ + k) n

/-- A home engine serves one counter request or one replay reservation (R100, R101, R414). DEDUCED: each packet is one, also that of
a port that the home serves itself (notes/assumptions/48.md). -/
def State.homeRequest (s : State) (home : Nat) : State := s.bumpEngine home 6 1

/-- The class code of a port: 2 SEALED, 1 AUTH, 0 CLEAR (R94, R97). -/
def State.portClass (s : State) (p : Nat) : Nat := s.shuttle.portClass.findD p 2

/-! ### SA table -/

def State.sa (s : State) (peer : Nat) : Sa := s.shuttle.sas.findD peer {}

def State.setSa (s : State) (peer : Nat) (a : Sa) : State :=
  { s with shuttle := { s.shuttle with sas := s.shuttle.sas.put peer a } }

def State.saValid (s : State) (peer : Nat) : Bool := (s.sa peer).state == .valid

def SaState.code : SaState → Nat
  | .free => 0
  | .pending => 1
  | .valid => 2
  | .lost => 3
  | .failed => 4

/-- The highest counter value that is never assigned (R198). -/
def ctrEnd : Nat := 2 ^ 64 - 1

/-- The pair SA has a counter value left to assign. -/
def Sa.canCount (a : Sa) : Bool := decide (a.txNext < ctrEnd)

/-- A next counter as the central table holds it: the end of the block of 65,536 values in use (R389). -/
def centralCtr (n : Nat) : Nat := min ctrEnd ((n + 65535) / 65536 * 65536)

/-! ### Replay windows (R102, R103, R389) -/

/-- The counter that the low 16 bits of a header stand for; none when negative. -/
def reconstruct (t ctr : Nat) : Option Nat :=
  let c := t / 65536 * 65536 + ctr
  if t + 32768 < c then (if c < 65536 then none else some (c - 65536))
  else if c + 32767 < t then some (c + 65536)
  else some c

/-- The window accepts the counter: not below it, and its bit clear. -/
def Window.fresh (w : Window) (c : Nat) : Bool :=
  decide (w.floor ≤ c) && decide (w.top ≤ c + 4095) && !w.seen.contains c

/-- Confirm a counter: its bit is set, and t slides. -/
def Window.confirm (w : Window) (c : Nat) : Window :=
  let t := max w.top c
  { w with
    top := t
    seen := (c :: w.seen).filter (fun x => decide (t ≤ x + 4095))
    saved := if w.saved + 1024 ≤ t then t else w.saved }

/-- Every bit at or below t set: a window loaded from the central table. -/
def Window.atTop (w : Window) (t : Nat) : Window := { w with top := t, floor := t + 1, seen := [], saved := t }

/-- The window as the store loses it: t is written back (R103). -/
def Window.evict (w : Window) : Window := w.atTop w.top

/-- The window as a new home rebuilds it after a dead engine (R389). -/
def Window.rebuild (w : Window) : Window := w.atTop (w.saved + 1023)

/-- Key of a group: LDI and group ID. -/
def groupKeyOf (ldi gid : Nat) : Nat := ldi * 65536 + gid

def State.group (s : State) (k : Nat) : Option Group := s.shuttle.groups.find k

def State.setGroup (s : State) (k : Nat) (g : Group) : State :=
  { s with shuttle := { s.shuttle with groups := s.shuttle.groups.put k g } }

/-- Evict one window from its store. -/
def State.evictWindow (s : State) (x : Nat × Nat × Bool) : State :=
  if x.2.2 then
    match s.group x.1 with
    | some g => s.setGroup x.1 { g with wins := g.wins.map (fun y => if y.1 == x.2.1 then (y.1, y.2.evict) else y) }
    | none => s
  else s.setSa x.1 { s.sa x.1 with win := (s.sa x.1).win.evict }

/-- Hold a window at its home as most recently used, in place of the least recently used of 128 (R103). -/
def State.touchWindow (s : State) (home : Nat) (x : Nat × Nat × Bool) : State :=
  let e := s.engine home
  let l := x :: e.held.filter (fun y => y != x)
  (l.drop 128).foldl State.evictWindow (s.setEngine home { e with held := l.take 128 })

/-! ### Packets (R97, R98) -/

structure Header where
  src : Nat := 0
  fdt : Nat := 0
  mapgen : Nat := 0
  ctr : Nat := 0
  cls : Nat := 2
  ctrl : Bool := false
  mcast : Bool := false
  hs : Bool := false

/-- HDRFLAGS: header bits [63:56]. -/
def Header.flags (h : Header) : Nat :=
  h.cls + (if h.ctrl then 4 else 0) + (if h.mcast then 8 else 0) + (if h.hs then 16 else 0)

def Header.bytes (h : Header) : Bytes :=
  leBytes 2 h.src ++ leBytes 2 h.fdt ++ leBytes 1 h.mapgen ++ leBytes 2 h.ctr ++ leBytes 1 h.flags

/-- The header of a packet, and its reserved bits. -/
def headerOf (b : Bytes) : Header × Nat :=
  let f := fieldAt b 7 1
  ({ src := fieldAt b 0 2, fdt := fieldAt b 2 2, mapgen := fieldAt b 4 1, ctr := fieldAt b 5 2, cls := f % 4,
     ctrl := f / 4 % 2 == 1, mcast := f / 8 % 2 == 1, hs := f / 16 % 2 == 1 }, f / 32)

/-- IV: the salt in bits [95:64], the counter in bits [63:0], serialised with bits [95:88] first (R98). IV byte 0 of
`Config.gcmTag` and `gcmStream` is bits [7:0] of their argument. -/
def packetIv (salt : BitVec 32) (ctr : Nat) : BitVec 96 :=
  BitVec.ofNat 96 (leNat (leBytes 12 (salt.toNat * 2 ^ 64 + ctr % 2 ^ 64)).reverse)

/-- The 12-B tag. -/
def packetTag (key : Key) (iv : BitVec 96) (aad ct : Bytes) : Bytes := (bvBytes 16 (Config.gcmTag key iv aad ct)).take 12

/-- The payload of a packet protected in its class, with its tag (R98). -/
def sealPayload (key : Key) (iv : BitVec 96) (cls : Nat) (aad payload : Bytes) : Bytes :=
  if cls == 2 then
    let ct := xorBytes payload (gcmStream key iv payload.length)
    ct ++ packetTag key iv aad ct
  else if cls == 1 then payload ++ packetTag key iv (aad ++ payload) []
  else payload

/-- The payload of a received packet, when its tag verifies. -/
def openPayload (key : Key) (iv : BitVec 96) (cls : Nat) (aad body : Bytes) : Option Bytes :=
  let n := body.length - 12
  let p := body.take n
  let tag := body.drop n
  if cls == 2 then
    if packetTag key iv aad p == tag then some (xorBytes p (gcmStream key iv p.length)) else none
  else if cls == 1 then
    if packetTag key iv (aad ++ p) [] == tag then some p else none
  else some body

/-! ### Sending -/

/-- The SA carried a packet other than KEEPALIVE within the last 100 µs (R109). -/
def Sa.traffic (a : Sa) (now : Nat) : Bool :=
  match a.lastData with | some t => decide (now ≤ t + 100 * usTicks) | none => false

/-- It carries one now. -/
def Sa.noteData (a : Sa) (now : Nat) : Sa :=
  { a with lastData := some now, dataSince := if a.traffic now then a.dataSince else now }

/-- A packet has been sent on the SA: a KEEPALIVE, or another (R109). -/
def State.noteTx (s : State) (peer : Nat) (data : Bool) : State :=
  let a := { s.sa peer with lastTx := s.now }
  s.setSa peer (if data then a.noteData s.now else a)

/-- Assign the next counter of a pair SA; none at its end (R198), nor after a fatal tamper, which has destroyed its keys and
stopped the ports (R192, R395). -/
def State.takeCtr (s : State) (peer : Nat) : Option (Nat × State) :=
  let a := s.sa peer
  if a.canCount && !s.power.fatal then
    some (a.txNext, (s.setSa peer { a with txNext := a.txNext + 1 }).homeRequest (s.pairHome peer))
  else none

/-- Send one control packet under the pair SA (R99, R443). -/
def State.sendCtrlPart (s : State) (peer : Nat) (part : Bytes) : State :=
  let a := s.sa peer
  match s.takeCtr peer with
  | none => s
  | some (c, s) =>
    let h : Header := { src := s.boot.devid, ctr := c % 65536, cls := 2, ctrl := true }
    let ext := leBytes 8 c
    let b := h.bytes ++ ext ++ sealPayload (s.keyAt (.tx peer)) (packetIv a.keys.txSalt c) 2 (h.bytes ++ ext) part
    s.emit (.fpWire (s.pairHome peer) 7 [] b)

/-- Send one handshake packet: no SA protects it. -/
def State.sendHsPart (s : State) (peer : Nat) (part : Bytes) : State :=
  let h : Header := { src := s.boot.devid, cls := 2, ctrl := true, hs := true }
  s.emit (.fpWire (s.pairHome peer) 7 [] (h.bytes ++ leBytes 8 0 ++ part))

/-- The fragments of a control message, each with its control header (R99). -/
def ctrlParts (type : Nat) (body : Bytes) : List Bytes :=
  let n := max 1 ((body.length + 4091) / 4092)
  (List.range n).map (fun i =>
    let f := (body.drop (4092 * i)).take 4092
    leBytes 1 type ++ leBytes 1 (i + (n - 1) * 16) ++ leBytes 2 f.length ++ f)

/-- Send a control message under the pair SA, while it is VALID. -/
def State.sendCtrl (s : State) (peer type : Nat) (body : Bytes) : State :=
  if s.saValid peer then
    ((ctrlParts type body).foldl (fun s p => s.sendCtrlPart peer p) s).noteTx peer (type != 0x05)
  else s

/-- Send a handshake message. -/
def State.sendHs (s : State) (peer type : Nat) (body : Bytes) : State :=
  (ctrlParts type body).foldl (fun s p => s.sendHsPart peer p) s

/-! ### POLICY (R36) -/

/-- What has been exchanged for a domain with a peer on the present SA. -/
def State.exch (s : State) (peer gdid : Nat) : PolicyExch := (s.sa peer).policy.findD gdid {}

def policyBody (gdid : Nat) (policy : BitVec 32) (flags : Nat) (nonce : Bytes) : Bytes :=
  leBytes 4 gdid ++ bvBytes 4 policy ++ leBytes 1 flags ++ leBytes 7 0 ++ padTo 32 nonce

/-- The devices other than this one that are members of an LDI's domain. The spec gives the block no list of them, so it is a
free value of Config (notes/assumptions/33.md). -/
def State.otherMembers (s : State) (ldi : Nat) : List Nat :=
  (Config.domainMembers (s.dom ldi).gdid).filter (fun p => p != s.boot.devid)

/-- Send the domain's word to a peer, once on each SA. -/
def State.sendPolicy (s : State) (peer ldi : Nat) : State :=
  let d := s.dom ldi
  let x := s.exch peer d.gdid
  if s.saValid peer && !x.sent then
    let a := s.sa peer
    (s.setSa peer { a with policy := a.policy.put d.gdid { x with sent := true } }).sendCtrl peer 0x08
      (policyBody d.gdid d.policy 0 [])
  else s

/-! ### Packets that the engine builds (R488) -/

/-- The engine can send a packet of its own to a peer on a port (R488). -/
def State.canBuild (s : State) (port peer : Nat) : Bool := s.saValid peer && s.portUp port && (s.sa peer).canCount

/-- Send a data packet that the engine itself builds, on a port and virtual channel (R488), the domain's POLICY before the
first to the peer (R36). -/
def State.sendBuilt (s : State) (port vc peer ldi : Nat) (payload : Bytes) : State :=
  if s.canBuild port peer then
    let s := s.sendPolicy peer ldi
    let a := s.sa peer
    let d := s.dom ldi
    match s.takeCtr peer with
    | none => s
    | some (c, s) =>
      let cls := s.portClass port
      let h : Header :=
        { src := s.boot.devid, fdt := d.fdt, mapgen := d.mapCur % 256, ctr := c % 65536, cls := cls }
      let b := h.bytes ++ sealPayload (s.keyAt (.tx peer)) (packetIv a.keys.txSalt c) cls h.bytes payload
      let s := (s.noteTx peer true).emit (.fpWire port vc [] b)
      let s := ((s.bumpEngine port 0 payload.length).bumpEngine port 2 1).bumpDom ldi 2 payload.length
      (s.meter ldi 0 payload.length 0).segment 3 (s.engine port).instance_ ldi 0 0 payload.length
  else s

/-! ### Delivery word and descriptor (R118, R130) -/

def kindOf (p : Bytes) : Nat := fieldAt p 0 1 % 16
def idemOf (p : Bytes) : Bool := fieldAt p 0 1 / 16 % 2 == 1
def reroutedOf (p : Bytes) : Bool := fieldAt p 0 1 / 32 % 2 == 1
def arrOf (p : Bytes) : Nat := fieldAt p 1 3 % 2 ^ 18
def tagOf (p : Bytes) : Nat := fieldAt p 4 4

def kStore : Nat := 0
def kLoadReq : Nat := 1
def kLoadResp : Nat := 2
def kAtomic : Nat := 3
def kReduce : Nat := 4
def kMstore : Nat := 5
def kNack : Nat := 6
def kOpaque : Nat := 7

/-- A reserved encoding of the delivery word (R118): reserved KIND or bits, or a TAG where none belongs. -/
def reservedWord (p : Bytes) : Bool :=
  let k := kindOf p
  decide (7 < k) || decide (64 ≤ fieldAt p 0 1) || decide (2 ^ 18 ≤ fieldAt p 1 3)
    || (tagOf p != 0 && k != kLoadReq && k != kLoadResp && k != kNack)

/-- A delivery word that egress refuses (R118): a reserved encoding, or IDEM or REROUTED out of place. -/
def badWord (p : Bytes) : Bool :=
  reservedWord p || (idemOf p && kindOf p != kLoadReq) || (reroutedOf p && !idemOf p)

def aseqOf (p : Bytes) : Nat := fieldAt p 8 4
def ackOf (p : Bytes) : Nat := fieldAt p 12 4
def aopOf (p : Bytes) : Nat := fieldAt p 18 1

/-- A request kind (R119). -/
def isRequest (p : Bytes) : Bool :=
  let k := kindOf p
  k == kStore || k == kLoadReq || (k == kAtomic && aopOf p == 1) || k == kReduce || k == kMstore || k == kOpaque

/-- The payload is too short for its kind, or uses a reserved encoding (R118, ingress). -/
def badFormat (p : Bytes) : Bool :=
  decide (p.length < 8) || reservedWord p
    || (kindOf p == kAtomic && (decide (p.length < 24) || decide (3 < aopOf p)
      || (aopOf p == 1 && decide (p.length < 48)) || (aopOf p == 3 && decide (p.length < 32))))

/-- a serially below b (R130). -/
def seriallyBelow (a b : Nat) : Bool :=
  let d := (b + 2 ^ 32 - a % 2 ^ 32) % 2 ^ 32
  decide (1 ≤ d) && decide (d < 2 ^ 31)

/-! ### Records and drops (R117, R148) -/

def shuttlePayload (src fdt ldi eng home flags ctr reason suppressed : Nat) : Bytes :=
  leBytes 2 src ++ leBytes 2 fdt ++ leBytes 1 ldi ++ leBytes 1 eng ++ leBytes 1 home ++ leBytes 1 flags
    ++ leBytes 8 ctr ++ leBytes 2 reason ++ leBytes 2 0 ++ leBytes 4 suppressed

/-- A record about an SA: not suppressed. No packet belongs to it: ENGINE is the home's physical engine and HDRFLAGS 0
(DESIGN CHOICE, notes/assumptions/45.md). -/
def State.saRecord (s : State) (type peer ctr reason : Nat) : State :=
  let h := s.pairHome peer
  s.record type (shuttlePayload peer 0 0 (s.engine h).instance_ h 0 ctr reason 0)

/-- The home of a packet's counter (R100): its pair SA's, or its (group, sender) entry's. -/
def State.homeFor (s : State) (mcast : Bool) (group src : Nat) : Nat :=
  if mcast then s.groupHome group src else s.pairHome src

/-- Drop a packet: its counter, and its record at most once per type and source in 1 µs on the engine. -/
def State.dropPacket (s : State) (idx type port src fdt ldi flags home ctr : Nat) : State :=
  (s.bump idx).recordLimited type (s.engine port).instance_ src usTicks
    (shuttlePayload src fdt ldi (s.engine port).instance_ home flags ctr 0)

/-- HDRFLAGS of a waiting packet say multicast. -/
def RxPkt.mcast (p : RxPkt) : Bool := p.hdrFlags / 8 % 2 == 1

/-- Drop a verified packet that stands in the engine. -/
def State.dropRx (s : State) (idx type : Nat) (p : RxPkt) : State :=
  s.dropPacket idx type p.port p.src (s.dom p.ldi).fdt p.ldi p.hdrFlags (s.homeFor p.mcast p.group p.src) p.ctr

/-! ### Refusals from the fabric (R127, R128, R146) -/

/-- A NACK for a refused LOAD_REQ. -/
def State.sendNack (s : State) (p : RxPkt) (status : Nat) (reroute : Bool) : State :=
  s.sendBuilt p.port p.vc p.src p.ldi
    (leBytes 4 kNack ++ leBytes 4 (tagOf p.payload) ++ leBytes 2 status ++ leBytes 1 (kindOf p.payload)
      ++ leBytes 1 (if reroute then 1 else 0) ++ leBytes 4 0)

/-- An ATOMIC RESPONSE: the descriptor, and the result from byte 24 (R130). Its ACK is this device's own (R137). -/
def atomicPayload (aseq ack status aop : Nat) (result : Bytes) : Bytes :=
  leBytes 4 kAtomic ++ leBytes 4 0 ++ leBytes 4 aseq ++ leBytes 4 ack ++ leBytes 2 status ++ leBytes 1 aop
    ++ leBytes 5 0 ++ result

/-! ### Reply cache (R131-R133, R37) -/

/-- PENDING and REPLY entries that an LDI holds. -/
def State.rcUsed (s : State) (ldi : Nat) : Nat := (s.shuttle.rcache.filter (fun e => e.ldi == ldi)).length

/-- Entries that the live domains' guarantees leave over, and how many of them are in use. -/
def State.rcShared (s : State) : Nat × Nat :=
  let ls := s.ldisWith (fun d => d.state.live)
  (262144 - (ls.map (fun l => (s.dom l).grant.reply)).foldl (· + ·) 0,
   (ls.map (fun l => s.rcUsed l - (s.dom l).grant.reply)).foldl (· + ·) 0)

/-- An entry is available to the LDI within its share or the unguaranteed remainder. -/
def State.rcAvailable (s : State) (ldi : Nat) : Bool :=
  decide (s.rcUsed ldi < (s.dom ldi).grant.reply) || decide (s.rcShared.2 < s.rcShared.1)

def State.rcFind (s : State) (reply : Bool) (peer aseq : Nat) : Option RcEntry :=
  s.shuttle.rcache.find? (fun e => e.reply == reply && e.peer == peer && e.aseq == aseq)

def State.rcDel (s : State) (p : RcEntry → Bool) : State :=
  { s with shuttle := { s.shuttle with rcache := s.shuttle.rcache.filter (fun e => !p e) } }

def State.rcAdd (s : State) (e : RcEntry) : State :=
  { s with shuttle := { s.shuttle with rcache := s.shuttle.rcache ++ [e] } }

def State.rcSet (s : State) (e : RcEntry) : State :=
  { s with shuttle := { s.shuttle with rcache := s.shuttle.rcache.map (fun x =>
      if x.reply == e.reply && x.peer == e.peer && x.aseq == e.aseq then e else x) } }

/-- The ACK value for an SA: the serially lowest PENDING ASEQ, else TX_ASEQ (R137). -/
def State.ackValue (s : State) (peer : Nat) : Nat :=
  let pend := (s.shuttle.rcache.filter (fun e => !e.reply && e.peer == peer)).map (·.aseq)
  match pend with
  | [] => (s.sa peer).txAseq
  | a :: as => as.foldl (fun m x => if seriallyBelow x m then x else m) a

/-- A descriptor carries the ACK value: nothing lags (R137). -/
def State.noteAck (s : State) (peer : Nat) : State :=
  s.setSa peer { s.sa peer with ackCarried := s.ackValue peer, ackSince := none }

/-- The ACK value may have advanced: from now on it waits for a descriptor (R137). -/
def State.lagAck (s : State) (peer : Nat) : State :=
  let a := s.sa peer
  if s.ackValue peer != a.ackCarried && a.ackSince.isNone then s.setSa peer { a with ackSince := some s.now } else s

/-- An SA forgets the atomics of a domain that ends: no ACK_ONLY carries that domain again (R137). -/
def Sa.forget (a : Sa) (ldi : Nat) : Sa :=
  { a with lastAtom := a.lastAtom.filter (fun x => x.1 != ldi), atomRoute := a.atomRoute.del ldi }

def State.forgetAtoms (s : State) (ldi : Nat) : State :=
  { s with shuttle := { s.shuttle with sas := s.shuttle.sas.map (fun x => (x.1, x.2.forget ldi)) } }

/-- Free the PENDING and REPLY entries of a domain (R139); the ACK values of its peers may advance by it (R137). -/
def State.rcEnd (s : State) (ldi : Nat) : State :=
  let peers := ((s.shuttle.rcache.filter (fun e => !e.reply && e.ldi == ldi)).map (·.peer)).eraseDups
  peers.foldl State.lagAck ((s.rcDel (fun e => e.ldi == ldi)).forgetAtoms ldi)

/-- An ACK that is not serially below RX_ACK frees every older REPLY entry of the SA (R137). -/
def State.takeAck (s : State) (peer ack : Nat) : State :=
  let a := s.sa peer
  if seriallyBelow ack a.rxAck then s
  else (s.setSa peer { a with rxAck := ack }).rcDel (fun e => e.reply && e.peer == peer && seriallyBelow e.aseq ack)

/-- Send an ATOMIC packet with the device's own ACK value, which the packet carries when it leaves (R137). -/
def State.sendDescriptor (s : State) (port vc peer ldi aseq status aop : Nat) (result : Bytes) : State :=
  if s.canBuild port peer then
    (s.sendBuilt port vc peer ldi (atomicPayload aseq (s.ackValue peer) status aop result)).noteAck peer
  else s

/-- Send an atomic's response on the route that the request came by. -/
def State.sendResponse (s : State) (port vc peer ldi aseq status : Nat) (result : BitVec 64) : State :=
  s.sendDescriptor port vc peer ldi aseq status 3 (bvBytes 8 result)

/-! ### Tally and in-flight counts (R142, R53) -/

/-- The map generation of a request: MAP_CUR - 1, MAP_CUR or MAP_CUR + 1 with the same low 8 bits (R140). -/
def Domain.mapOf (d : Domain) (mapgen : Nat) : Option Int :=
  [(d.mapCur : Int) - 1, d.mapCur, d.mapCur + 1].find? (fun g => g % 256 == (mapgen : Int) % 256)

/-- Check 7 accepts the generation (R140). -/
def Domain.mapOk (d : Domain) (mapgen : Nat) : Bool :=
  match d.mapOf mapgen with
  | some g => if d.mapOpen then g != d.mapCur + 1 else g != (d.mapCur : Int) - 1
  | none => false

/-- A tallied packet: a request of generation MAP_CUR - 1 that waits in an engine (R142). -/
def State.tallied (s : State) (ldi : Nat) (p : RxPkt) : Bool :=
  p.ldi == ldi && isRequest p.payload && (s.dom ldi).mapOf p.mapgen == some (((s.dom ldi).mapCur : Int) - 1)

def State.tally (s : State) (ldi : Nat) : Nat := (s.shuttle.rxq.filter (fun p => s.tallied ldi p)).length

/-- The in-flight count of an LDI in Shuttle: packets in the engines (R53). -/
def State.shuttleInflight (s : State) (ldi : Nat) : Nat := (s.shuttle.rxq.filter (fun p => p.ldi == ldi)).length

def State.dropRxq (s : State) (f : RxPkt → Bool) : State :=
  { s with shuttle := { s.shuttle with rxq := s.shuttle.rxq.filter (fun p => !f p) } }

end Sys2Proof.Machine
end

