-- ==== Sys2Proof/Machine/Spindle.lean ====
section
/-!
DEFINITION. The Spindle hub and its ports (spec/08_spindle_determinism.md R170-R178, spec/21_ports.md R446).
-/
namespace Sys2Proof.Machine

/-- Block k of a stream (R170): AES-256 of the counter block. -/
def spindleBlock (key : Key) (stream k : Nat) : BitVec 128 :=
  Config.aes256 key (BitVec.ofNat 128 (k % 2 ^ 64 + stream % 2 ^ 32 * 2 ^ 64))

/-- The BEATS of a pull are in range (R446). -/
def pullBeatsOk (r : PullReq) : Bool := r.beats != 0 && decide (r.beats ≤ 64)

/-- Beats that a pull returns: BEATS, or one when BEATS is out of range. -/
def Pull.total (p : Pull) : Nat := if pullBeatsOk p.req then p.req.beats else 1

/-- Beat b of a pull that is served: blocks k + 4b to k + 4b + 3, under the key that their reference names (R173). -/
def State.beatData (s : State) (p : Pull) (b : Nat) : Line :=
  lineOf ((List.range 4).flatMap (fun i =>
    bvBytes 16 (spindleBlock (s.keyAt p.ref) p.req.stream (p.req.offset + 4 * b + i))))

/-- A block of the beat is late (R175). -/
def Pull.lateBeat (p : Pull) (b : Nat) : Bool := p.late.any (fun k => k / 4 == b)

/-- The first beat from `next` on that cannot leave yet, or the end of the pull. -/
def Pull.stop (p : Pull) : Nat :=
  if p.status != stOk then p.total
  else ((List.range p.total).find? (fun b => decide (p.next ≤ b) && p.lateBeat b)).getD p.total

def State.stream (s : State) (ldi stream : Nat) : Option Stream :=
  s.spindle.streams.find? (fun x => x.ldi == ldi && x.stream == stream)

/-- Count a delivered beat (R176, R414, R415, R416, R425). -/
def State.countBeat (s : State) (p : Pull) : State :=
  let r := p.req
  let streams := s.spindle.streams.map (fun x =>
    if x.ldi == r.ldi && x.stream == r.stream then { x with pulled := (x.pulled + 4) % wrap64 } else x)
  let s := { s with spindle := { s.spindle with streams := streams } }
  let s := (s.bumpDom r.ldi 7 64).annotCount r.ldi false false r.annot 64
  s.segment 5 r.port r.ldi r.ctx r.annot 64

/-- One beat leaves its port (R177). -/
def State.sendBeat (s : State) (p : Pull) (b : Nat) : State :=
  let last := b + 1 == p.total
  if p.status != stOk then s.emit (.spRsp p.req.port 0 p.status last)
  else (s.countBeat p).emit (.spRsp p.req.port (s.beatData p b) stOk last)

/-- The beats of a pull up to `stop` leave, in order. -/
def State.sendBeats (s : State) (p : Pull) : State :=
  (((List.range p.stop).drop p.next)).foldl (fun s b => s.sendBeat p b) s

/-- The pulls of a port leave in the order of acceptance, without interleaving; what stays. -/
def State.drainPulls (s : State) : List Pull → State × List Pull
  | [] => (s, [])
  | p :: ps =>
    if p.stop == p.total then (s.sendBeats p).drainPulls ps
    else (s.sendBeats p, { p with next := p.stop } :: ps)

def State.setPulls (s : State) (port : Nat) (ps : List Pull) : State :=
  { s with spindle := { s.spindle with pulls := s.spindle.pulls.put port ps } }

/-- Let what can leave a port leave. -/
def State.drainPort (s : State) (port : Nat) : State :=
  let t := s.drainPulls (s.spindle.pulls.findD port [])
  t.1.setPulls port t.2

/-- The first check of R178 (with R446) that a pull fails, or `ST_OK`. -/
def State.pullStatus (s : State) (r : PullReq) : Nat :=
  let d := s.dom r.ldi
  if !pullBeatsOk r then stBadParam
  else if d.state == .aborted then stAborted
  else if d.state != .running then stState
  else if (s.stream r.ldi r.stream).isNone then stBadParam
  else if decide (2 ^ 64 < r.offset + 4 * r.beats) then stBadParam
  else stOk

/-- Refuse a pull: its status binds to the domain error fence, with its record (R178, R188). -/
def State.refusePull (s : State) (r : PullReq) (status : Nat) : State :=
  let fence := (s.dom r.ldi).errFence
  ((s.post r.ldi 0 status .spindle).bump 0x5DB).recordLimited 0x0801 r.ldi 0 usTicks (fun sup =>
    leBytes 1 r.ldi ++ leBytes 1 r.port ++ leBytes 2 r.ctx ++ leBytes 4 r.stream ++ leBytes 8 r.offset ++ leBytes 2 status
      ++ leBytes 2 0 ++ leBytes 4 sup ++ leBytes 4 fence)

/-- The instance works in some logical lane or port, so its pipelines have slots to lend (R173). -/
def State.lends (s : State) (x : LentBlock) : Bool :=
  if x.engine then (List.range s.build.engines).any (fun p => engineIndex (s.engine p).instance_ == x.inst && !(s.engine p).dead)
  else (List.range s.build.lanes).any (fun n => (s.lane n).instance_ == x.inst && !(s.lane n).dead)

/-- The blocks of a pull that idle slots compute, each once, in order (R173, R174). -/
def State.borrowed (s : State) (r : PullReq) (lent : List LentBlock) : List LentBlock :=
  (List.range (4 * r.beats)).filterMap (fun k => lent.find? (fun x => x.block == k && s.lends x))

/-- Count a block on the instance that lends its slot (R414). -/
def State.countLent (s : State) (x : LentBlock) : State := s.bump ((if x.engine then 0x4A0 else 0x080) + 8 * x.inst + 7)

/-- An accepted pull takes its place on the port (R173-R175). A beat with a borrowed block counts as served by borrowed slots,
any other as served by the reserved pipelines. -/
def State.enterPull (s : State) (r : PullReq) (lent : List LentBlock) : State :=
  let st := s.pullStatus r
  let xs := if st == stOk then s.borrowed r lent else []
  let p : Pull :=
    { req := r, late := (xs.filter (·.late)).map (·.block), since := s.now, status := st, ref := .slot (8 * r.ldi + 4) }
  let n := ((List.range p.total).filter (fun b => xs.any (fun x => x.block / 4 == b))).length
  let s := if st == stOk then (xs.foldl State.countLent s |>.bump 0x5D8 (r.beats - n)).bump 0x5D9 n else s.refusePull r st
  s.setPulls r.port (s.spindle.pulls.findD r.port [] ++ [p])

/-- SPINDLE_PULL (R178, R177, R446): a port holds at most 32 pulls. `lent` are the blocks that the hub sends to idle slots of
lanes and engines (R173, R175). -/
def execSpindlePull (r : PullReq) (lent : List LentBlock) (s : State) : Host.Outcome State Fault Refusal :=
  nextIf (s.portsUp && !s.build.pool && decide ((s.spindle.pulls.findD r.port []).length < 32)) s
    ((s.enterPull r lent).drainPort r.port)

/-- SPINDLE_REISSUE_TIMEOUT (R175): 256 CLK_DP cycles, 64 CLK_TIME ticks, after the port's first pull entered, its
late blocks are computed again, and the beats leave. -/
def execSpindleReissueTimeout (port : Nat) (s : State) : Host.Outcome State Fault Refusal :=
  match s.spindle.pulls.findD port [] with
  | [] => .next s
  | p :: ps =>
    let s1 := (s.advanceTo (p.since + 64)).bump 0x5DA p.late.length
    nextIf (s.clocked && !s.power.fatal && !p.late.isEmpty) s ((s1.setPulls port ({ p with late := [] } :: ps)).drainPort port)

/-- Pulls of the LDI that are being served have not left whole (R176, R192). -/
def State.pulling (s : State) (ldi : Nat) : Bool :=
  s.spindle.pulls.any (fun x => x.2.any (fun p => p.req.ldi == ldi && p.status == stOk))

/-- An abort or retirement of the LDI: what has not left carries zero data and `ST_ABORTED` (R178). -/
def State.abortPulls (s : State) (ldi : Nat) : State :=
  let hit := fun (p : Pull) =>
    if p.req.ldi == ldi && p.status == stOk then { p with status := stAborted, late := [] } else p
  let pulls : Map (List Pull) := s.spindle.pulls.map (fun (x : Nat × List Pull) => (x.1, x.2.map hit))
  let s := { s with spindle := { s.spindle with pulls := pulls } }
  s.spindle.pulls.keys.foldl State.drainPort s

end Sys2Proof.Machine
end

