-- ==== Sys2Proof/Machine/Numerics.lean ====
section
/-!
DEFINITION. Element formats and arithmetic of Batten (spec/07_batten_reductions.md, element formats, R157, R158, R160,
R163). Finite values are exact integers in units of a power of two.
-/
namespace Sys2Proof.Machine

/-- A binary format: exponent bits, fraction bits, bias, and whether the top exponent holds infinities and NaNs. -/
structure FloatFmt where
  ebits : Nat
  mbits : Nat
  bias : Nat
  hasInf : Bool

def fp16 : FloatFmt := ⟨5, 10, 15, true⟩
def bf16 : FloatFmt := ⟨8, 7, 127, true⟩
def fp32 : FloatFmt := ⟨8, 23, 127, true⟩
def e4m3 : FloatFmt := ⟨4, 3, 7, false⟩
def e5m2 : FloatFmt := ⟨5, 2, 15, true⟩
def e2m1 : FloatFmt := ⟨2, 1, 1, false⟩

def FloatFmt.width (f : FloatFmt) : Nat := f.ebits + f.mbits + 1

/-- Format code to binary format; none for the integer formats and reserved codes. -/
def floatOf (fmt : Nat) : Option FloatFmt :=
  match fmt with
  | 1 => some fp16
  | 2 => some bf16
  | 3 => some fp32
  | 4 => some e4m3
  | 5 => some e5m2
  | 6 => some e4m3
  | 7 => some e5m2
  | 8 => some e2m1
  | _ => none

/-- Codes 6 to 8 are the MX formats. -/
def isMx (fmt : Nat) : Bool := fmt == 6 || fmt == 7 || fmt == 8

/-- Bits of an element in a data line. -/
def elemBits (fmt : Nat) : Nat :=
  match fmt with
  | 0 | 3 => 32
  | 1 | 2 => 16
  | 4 | 5 | 6 | 7 => 8
  | 8 => 4
  | _ => 64

def elemCount (fmt : Nat) : Nat := 512 / elemBits fmt

/-- Exponent of the exact LSB weight. -/
def lsbExp (fmt : Nat) : Int :=
  match fmt with
  | 0 => 0
  | 1 => -24
  | 4 => -9
  | 5 => -16
  | _ => -152

/-- A decoded element: `fin v negZero` is v units, with the sign of a zero apart. -/
inductive Num
  | nan
  | inf (neg : Bool)
  | fin (v : Int) (negZero : Bool)
  deriving DecidableEq, Repr

/-- The exact value of an encoding in units of 2^u. -/
def decodeNum (f : FloatFmt) (u : Int) (x : Nat) : Num :=
  let m := x % 2 ^ f.mbits
  let e := x / 2 ^ f.mbits % 2 ^ f.ebits
  let neg := x / 2 ^ (f.mbits + f.ebits) % 2 == 1
  if f.hasInf && e == 2 ^ f.ebits - 1 then (if m == 0 then .inf neg else .nan)
  else if f.ebits == 4 && x % 128 == 127 then .nan
  else
    let mant := if e == 0 then m else 2 ^ f.mbits + m
    let sh := ((max e 1 : Nat) : Int) - f.bias - f.mbits - u
    let v : Int := if 0 ≤ sh then (mant : Int) * 2 ^ sh.toNat else (mant : Int) / 2 ^ (-sh).toNat
    .fin (if neg then -v else v) (neg && mant == 0)

/-- n / 2^k to the nearest integer, ties to even. -/
def rne (n k : Nat) : Nat :=
  let q := n / 2 ^ k
  let r := n % 2 ^ k
  if 2 ^ k < 2 * r || (2 * r == 2 ^ k && q % 2 == 1) then q + 1 else q

/-- The largest magnitude encoding of a format: infinity where it has one, or its largest finite value. -/
def FloatFmt.topBits (f : FloatFmt) : Nat :=
  if f.hasInf then (2 ^ f.ebits - 1) * 2 ^ f.mbits
  else if f.ebits == 4 then 126 else 7

/-- The largest normal encoding. -/
def FloatFmt.maxBits (f : FloatFmt) : Nat := if f.hasInf then f.topBits - 1 else f.topBits

/-- Magnitude bits of n units of 2^u rounded once to a format; past `cap` the result is `cap`. -/
def roundMag (f : FloatFmt) (u : Int) (n cap : Nat) : Nat :=
  if n == 0 then 0
  else
    let emin : Int := 1 - (f.bias : Int)
    let q := max ((Nat.log2 n : Int) + u) emin - f.mbits
    let sh := q - u
    let k := if 0 ≤ sh then rne n sh.toNat else n * 2 ^ (-sh).toNat
    min ((q - (emin - f.mbits)).toNat * 2 ^ f.mbits + k) cap

def FloatFmt.sign (f : FloatFmt) (neg : Bool) : Nat := if neg then 2 ^ (f.ebits + f.mbits) else 0

/-- The quiet NaN with sign clear (R157): only E4M3 has no infinity among the formats that hold one. -/
def FloatFmt.qnan (f : FloatFmt) : Nat :=
  if f.ebits == 4 then 127 else (2 ^ f.ebits - 1) * 2 ^ f.mbits + 2 ^ (f.mbits - 1)

/-- An encoding of a value in units of 2^u: overflow gives infinity, or saturates for E4M3. -/
def encodeNum (f : FloatFmt) (u : Int) : Num → Nat
  | .nan => f.qnan
  | .inf neg => f.sign neg + f.topBits
  | .fin v nz => f.sign (decide (v < 0) || nz) + roundMag f u v.natAbs f.topBits

/-- The sum of two values in one unit; +0 where two zeros differ in sign or a sum cancels. -/
def addNum : Num → Num → Num
  | .nan, _ => .nan
  | _, .nan => .nan
  | .inf a, .inf b => if a == b then .inf a else .nan
  | .inf a, _ => .inf a
  | _, .inf b => .inf b
  | .fin a za, .fin b zb => .fin (a + b) (za && zb)

/-- a is below b; -0 is below +0. -/
def ltNum : Num → Num → Bool
  | .inf a, .inf b => a && !b
  | .inf a, .fin _ _ => a
  | .fin _ _, .inf b => !b
  | .fin a za, .fin b zb => decide (a < b) || (a == b && za && !zb)
  | _, _ => false

/-- IEEE 754-2019 maximum and minimum. -/
def maxNum (a b : Num) : Num := if a == .nan || b == .nan then .nan else if ltNum a b then b else a
def minNum (a b : Num) : Num := if a == .nan || b == .nan then .nan else if ltNum b a then b else a

/-- One fast-mode step on float elements: in FP32, then rounded to the target format (R157). -/
def fastFloat (f : FloatFmt) (op a b : Nat) : Nat :=
  let x := decodeNum f (-152) a
  let y := decodeNum f (-152) b
  let r := if op == 0 then addNum x y else if op == 1 then maxNum x y else minNum x y
  encodeNum f (-152) (decodeNum fp32 (-152) (encodeNum fp32 (-152) r))

/-- A word as a signed number. -/
def signedOf (w x : Nat) : Int := if x < 2 ^ (w - 1) then x else (x : Int) - 2 ^ w

/-- One fast-mode step on an element (R157). -/
def fastElem (op fmt a b : Nat) : Nat :=
  match floatOf fmt with
  | some f => fastFloat f op a b
  | none =>
    let w := elemBits fmt
    match op with
    | 0 | 6 => (a + b) % 2 ^ w
    | 1 => if signedOf w a < signedOf w b then b else a
    | 2 => if signedOf w b < signedOf w a then b else a
    | 3 => Nat.land a b
    | 4 => Nat.lor a b
    | _ => Nat.xor a b

/-- The elements of a line, lowest first. -/
def lineElems (w : Nat) (l : Line) : List Nat := (List.range (512 / w)).map (fun i => (l >>> (w * i)).toNat % 2 ^ w)

/-- The number that a list of w-bit elements spells, lowest first. -/
def joinElems (w : Nat) : List Nat → Nat
  | [] => 0
  | x :: xs => x % 2 ^ w + 2 ^ w * joinElems w xs

def lineFrom (w : Nat) (xs : List Nat) : Line := BitVec.ofNat 512 (joinElems w xs)

/-- One fast-mode contribution applied to a line (R157). -/
def fastLine (op fmt : Nat) (target contrib : Line) : Line :=
  let w := elemBits fmt
  lineFrom w (List.zipWith (fastElem op fmt) (lineElems w target) (lineElems w contrib))

/-! ### MX blocks (R158, R163) -/

/-- Elements of a block with its scale byte, exact, in units of 2^-152. -/
def mxDecode (f : FloatFmt) (scale : Nat) (xs : List Nat) : List Num :=
  if scale == 255 then xs.map (fun _ => .nan)
  else xs.map (fun x => decodeNum f (-152 - ((scale : Int) - 127)) x)

/-- Round to the 24-bit significand of the wide format. -/
def wideRound : Num → Num
  | .fin v z =>
    let n := v.natAbs
    let k := Nat.log2 n - 23
    let m := rne n k * 2 ^ k
    .fin (if v < 0 then -(m : Int) else m) z
  | x => x

def Num.isFin : Num → Bool
  | .fin _ _ => true
  | _ => false

def Num.mag : Num → Nat
  | .fin v _ => v.natAbs
  | _ => 0

/-- emax of the scale rule. -/
def FloatFmt.emax (f : FloatFmt) : Int := if f.ebits == 4 then 8 else if f.ebits == 5 then 15 else 2

/-- The block's scale exponent by steps 6: floor(log2 m) - emax, clamped; m in units of 2^-152. -/
def mxScale (f : FloatFmt) (m : Nat) : Int :=
  if m == 0 then -127 else min 127 (max (-127) ((Nat.log2 m : Int) - 152 - f.emax))

/-- A block requantised: its scale byte and its elements (R163 steps 5 to 7). DESIGN CHOICE: a negative element that rounds to zero
gives the zero of negative sign (notes/assumptions/48.md). -/
def mxEncode (f : FloatFmt) (xs : List Num) : Nat × List Nat :=
  if xs.all Num.isFin then
    let s := mxScale f (xs.foldl (fun m x => max m x.mag) 0)
    ((s + 127).toNat, xs.map (fun x => match x with
      | .fin v z => f.sign (decide (v < 0) || z) + roundMag f (-152 - s) v.natAbs f.maxBits
      | _ => 0))
  else (255, xs.map (fun _ => 0))

/-- Blocks of 32 elements in a data line. -/
def mxBlocks (fmt : Nat) : Nat := if fmt == 8 then 4 else 2

/-- Data lines of an MX group; its scale line follows them. -/
def mxGroup (fmt : Nat) : Nat := if fmt == 8 then 16 else 32

/-- One fast-mode block (R158): target and contribution with their scales. -/
def mxBlock (f : FloatFmt) (ts cs : Nat) (t c : List Nat) : Nat × List Nat :=
  let sum := List.zipWith addNum (mxDecode f ts t) (mxDecode f cs c)
  let bad := !((mxDecode f ts t).all Num.isFin && (mxDecode f cs c).all Num.isFin)
  if bad then (255, t.map (fun _ => 0)) else mxEncode f (sum.map wideRound)

/-- One fast-mode MX data line: the new line and the new scale bytes of its blocks. -/
def mxLine (fmt : Nat) (target contrib : Line) (ts cs : List Nat) : Line × List Nat :=
  let f := (floatOf fmt).getD e4m3
  let w := elemBits fmt
  let t := lineElems w target
  let c := lineElems w contrib
  let r := (List.range (mxBlocks fmt)).map (fun b =>
    mxBlock f (ts.getD b 0) (cs.getD b 0) ((t.drop (32 * b)).take 32) ((c.drop (32 * b)).take 32))
  (lineFrom w (r.flatMap Prod.snd), r.map Prod.fst)

/-! ### Exact windows (R160, R163) -/

/-- The elements of a contribution line, exact, in the format's LSB weight; `scales` for MX. -/
def exactElems (fmt : Nat) (data : Line) (scales : List Nat) : List Num :=
  let w := elemBits fmt
  let xs := lineElems w data
  match floatOf fmt with
  | none => xs.map (fun x => .fin (signedOf w x) false)
  | some f =>
    if isMx fmt then
      (List.range (mxBlocks fmt)).flatMap (fun b => mxDecode f (scales.getD b 0) ((xs.drop (32 * b)).take 32))
    else xs.map (fun x => decodeNum f (lsbExp fmt) x)

/-- One contribution to one accumulator element (R160); `first` says APPLIED is 0. -/
def accAdd (op : Nat) (first : Bool) (a : AccElem) (x : Num) : AccElem :=
  match x with
  | .nan => { a with nan := true }
  | .inf neg =>
    if op == 0 then (if neg then { a with ninf := true } else { a with pinf := true })
    else if (op == 1) == !neg then
      (if neg then { a with ninf := true, pinf := false } else { a with pinf := true, ninf := false })
    else if first then (if neg then { a with ninf := true } else { a with pinf := true })
    else a
  | .fin v _ =>
    if op == 0 then { a with value := if first then v else a.value + v }
    else if op == 1 then
      if a.pinf then a
      else { a with value := if first || a.ninf then v else max a.value v, ninf := false }
    else
      if a.ninf then a
      else { a with value := if first || a.pinf then v else min a.value v, pinf := false }

/-- An accumulator element as a number, for the final rounding (R163 steps 1 and 2). -/
def accNum (a : AccElem) : Num :=
  if a.nan || (a.pinf && a.ninf) then .nan
  else if a.pinf then .inf false
  else if a.ninf then .inf true
  else .fin a.value false

/-- The final rounding of a line: the line, and for MX its scale bytes (R163). -/
def roundLine (fmt : Nat) (elems : List AccElem) : Line × List Nat :=
  let w := elemBits fmt
  match floatOf fmt with
  | none => (lineFrom w (elems.map (fun a => (a.value % 2 ^ w).toNat)), [])
  | some f =>
    if isMx fmt then
      let r := (List.range (mxBlocks fmt)).map (fun b => mxEncode f (((elems.drop (32 * b)).take 32).map accNum))
      (lineFrom w (r.flatMap Prod.snd), r.map Prod.fst)
    else (lineFrom w (elems.map (fun a => encodeNum f (lsbExp fmt) (accNum a))), [])

/-- Bytes of a data line with its record in the accumulator, and data lines in one unit of 64 KiB. -/
def accLineBytes (fmt : Nat) : Nat :=
  8 + elemCount fmt * (match fmt with
    | 0 | 1 | 4 | 5 => 8
    | _ => 40)

def accLinesPerUnit (fmt : Nat) : Nat := 65536 / accLineBytes fmt

end Sys2Proof.Machine
end

