-- ==== Sys2Proof/Machine/Units.lean ====
section
/-!
DEFINITION. What the Batten router and units do with a request (spec/07_batten_reductions.md): parsing, routing, errors,
windows. The commands are in Machine/Batten.lean.
-/
namespace Sys2Proof.Machine

/-! ### Units -/

def State.unit (s : State) (u : Nat) : BUnit := s.batten.units.findD u { instance_ := u }

def State.setUnit (s : State) (u : Nat) (b : BUnit) : State :=
  { s with batten := { s.batten with units := s.batten.units.put u b } }

/-- Block counter `k` of the instance that serves unit u (R414). -/
def State.bumpUnit (s : State) (u k n : Nat) : State :=
  let i := (s.unit u).instance_
  s.bump (0x570 + 8 * (if i < 0x80 then i else 12) + k) n

/-- The unit of a key (R150). -/
def unitOf (key : Nat) : Nat := (key % 4096 + key / 4096 % 4096 + key / 2 ^ 24 % 256) % 12

/-- Scale line of the MX group with a base. -/
def mxScaleLine (fmt gbase : Nat) : Nat := gbase + mxGroup fmt

/-- Lines that an entry changes. -/
def BEntry.touched (e : BEntry) : List Nat :=
  match e.work with
  | .mx fmt gbase first lines _ =>
    (List.range lines.length).map (fun i => gbase + first + i) ++ [mxScaleLine fmt gbase]
  | .exact _ _ _ _ lines _ => (List.range lines.length).map (fun i => e.dli + i)
  | _ => [e.dli]

def BEntry.isExact (e : BEntry) : Bool :=
  match e.work with
  | .exact _ _ _ _ _ _ => true
  | _ => false

/-- The router source of an entry: its Shuttle port, or 24 for `BA_` (R151). Source 25 is Loom, for which no command of the spec
sends Batten any work. -/
def BSrc.source : BSrc → Nat
  | .ba _ => 24
  | .port p _ _ _ => p

def BSrc.isLocal : BSrc → Bool
  | .ba _ => true
  | _ => false

def BSrc.devid : BSrc → Nat
  | .ba _ => 0xFFFF
  | .port _ peer _ _ => peer

/-! ### Records (R169, R188) -/

/-- No fence of this device: the status of a remote atomic goes to its requester. -/
def noFence : Nat := 2 ^ 32

def battenPayload (dli ldi inst unit win opfmt flags src fence status suppressed seq : Nat) : Bytes :=
  leBytes 4 dli ++ leBytes 1 ldi ++ leBytes 1 inst ++ leBytes 1 unit ++ leBytes 1 win ++ leBytes 1 opfmt
    ++ leBytes 1 flags ++ leBytes 2 src ++ leBytes 4 fence ++ leBytes 2 status ++ leBytes 2 0
    ++ leBytes 4 suppressed ++ leBytes 4 seq

def BEntry.opfmt (e : BEntry) : Nat :=
  match e.work with
  | .reduce op fmt _ => op + fmt * 16
  | .mx fmt _ _ _ _ => fmt * 16
  | .exact _ _ _ of _ _ => of
  | _ => 0

def BEntry.winId (e : BEntry) : Nat :=
  match e.work with
  | .exact w _ _ _ _ _ => w
  | _ => 0

/-- A record on an entry: types 0x0701 to 0x0703 at most once per type and LDI in 1 µs. FENCE is the handle that the status binds
to (R51). -/
def State.entryRecord (s : State) (type u : Nat) (e : BEntry) (fence status : Nat) : State :=
  let fence := if fence == noFence then 0 else s.boundFence e.ldi fence
  let flags := (if e.isExact then 1 else 0) + (if e.src.isLocal then 0 else 2)
  let pay := fun sup => battenPayload e.dli e.ldi (s.unit u).instance_ u e.winId e.opfmt flags e.src.devid fence status
    sup e.seq
  if type ≤ 0x0703 then s.recordLimited type (s.unit u).instance_ e.ldi usTicks pay else s.record type (pay 0)

/-- BAD_REQUEST of a request that has no entry yet: its target line, and the line that keys its unit (R150). -/
def State.badRequest (s : State) (dli key ldi opfmt win src fence : Nat) (exact : Bool) : State :=
  let fence := if fence == noFence then 0 else s.boundFence ldi fence
  let u := unitOf key
  let flags := (if exact then 1 else 0) + (if src == 0xFFFF then 0 else 2)
  s.recordLimited 0x0702 (s.unit u).instance_ ldi usTicks
    (fun sup => battenPayload dli ldi (s.unit u).instance_ u win opfmt flags src fence stBadParam sup 0)

/-- NONDET_REFUSED (R185, R188); FENCE is the handle that the status binds to (R51). -/
def State.nondetRecord (s : State) (ldi ctx kind fence : Nat) : State :=
  let fence := if fence == noFence then 0 else s.boundFence ldi fence
  (s.bumpDom ldi 13).recordLimited 0x0802 ldi 0 usTicks (fun sup =>
    leBytes 1 ldi ++ leBytes 1 0xFF ++ leBytes 2 ctx ++ leBytes 4 0 ++ leBytes 8 0 ++ leBytes 2 stNondet
      ++ leBytes 1 kind ++ leBytes 1 0 ++ leBytes 4 sup ++ leBytes 4 fence)

/-! ### Windows (R159-R165) -/

def State.window (s : State) (w : Nat) : Option RedWindow := s.batten.windows.find w

def State.setWindow (s : State) (w : Nat) (x : RedWindow) : State :=
  { s with batten := { s.batten with windows := s.batten.windows.put w x } }

/-- Format of a window. -/
def RedWindow.fmt (x : RedWindow) : Nat := x.opfmt / 16
def RedWindow.op (x : RedWindow) : Nat := x.opfmt % 16

/-- The target line of data line w (R159). -/
def RedWindow.lineOf (x : RedWindow) (w : Nat) : Nat :=
  if isMx x.fmt then x.base + (mxGroup x.fmt + 1) * (w / mxGroup x.fmt) + w % mxGroup x.fmt else x.base + w

/-- The scale line of MX group g. -/
def RedWindow.scaleOf (x : RedWindow) (g : Nat) : Nat := x.base + (mxGroup x.fmt + 1) * g + mxGroup x.fmt

/-- MX groups of a window; none for the other formats. -/
def RedWindow.groups (x : RedWindow) : Nat := if isMx x.fmt then x.lines / mxGroup x.fmt else 0

/-- An OPEN window becomes FAILED: its fence signals the status (R165). DESIGN CHOICE: a line that it has issued to Weft and that is
not yet accepted is still written (notes/assumptions/48.md). -/
def State.failWindow (s : State) (w status : Nat) : State :=
  match s.window w with
  | some x =>
    if x.state == .open_ then
      let t := (s.setWindow w { x with state := .failed }).post x.ldi x.fence status .batten
      t.record 0x0706 (battenPayload x.base x.ldi (s.unit (unitOf x.base)).instance_ (unitOf x.base) w x.opfmt 1 0xFFFF
        (s.boundFence x.ldi x.fence) status 0 0)
    else s
  | none => s

/-! ### Request bodies -/

/-- A REDUCE body, bytes 8 to 23. -/
structure RedBody where
  dli : Nat := 0
  lines : Nat := 0
  first : Nat := 0
  op : Nat := 0
  fmt : Nat := 0
  exact : Bool := false
  window : Nat := 0
  woff : Nat := 0

def redBody (b : Bytes) : RedBody :=
  { dli := fieldAt b 0 4, lines := fieldAt b 4 1, first := fieldAt b 5 1, op := fieldAt b 6 1 % 16,
    fmt := fieldAt b 6 1 / 16, exact := fieldAt b 7 1 % 2 == 1, window := fieldAt b 8 1, woff := fieldAt b 12 4 }

/-- The operations table. -/
def opAllowed (op fmt : Nat) (exact : Bool) : Bool :=
  if exact then (op == 0 && decide (fmt ≤ 8)) || ((op == 1 || op == 2) && decide (fmt ≤ 5))
  else match op with
    | 0 => decide (fmt ≤ 8)
    | 1 | 2 => decide (fmt ≤ 5)
    | 3 | 4 | 5 => fmt == 0
    | 6 => fmt == 0 || fmt == 9
    | _ => false

/-- Scale bytes that a contribution of MX lines carries, padded to 8 (0 for other formats). -/
def scaleBytes (fmt lines : Nat) : Nat := if isMx fmt then (lines * mxBlocks fmt + 7) / 8 * 8 else 0

/-- The body is one that the unit accepts (R149). DESIGN CHOICE: a field that the body table gives as otherwise 0 is ignored where it
is not 0: FIRST of a format other than MX, DLI with EXACT 1, WINDOW and WOFF with EXACT 0 (notes/assumptions/48.md). -/
def RedBody.ok (r : RedBody) : Bool :=
  opAllowed r.op r.fmt r.exact && decide (1 ≤ r.lines)
    && (if isMx r.fmt then decide (r.first + r.lines ≤ mxGroup r.fmt) else decide (r.lines ≤ 63))

/-- The contribution lies within one MX group of the window, or is of another format. DESIGN CHOICE: one that crosses a group fails
the window under R160, and WOFF places the lines in their group, whatever FIRST says (notes/assumptions/48.md). -/
def RedBody.inGroup (r : RedBody) : Bool :=
  !isMx r.fmt || decide (r.woff % mxGroup r.fmt + r.lines ≤ mxGroup r.fmt)

/-- The target line of a REDUCE for its record, and the line that keys its unit (R150, R169): BASE and WOFF give those of a
contribution to a window of its LDI. -/
def State.redTarget (s : State) (r : RedBody) (ldi : Nat) : Nat × Nat :=
  let w := if r.exact then (s.window r.window).filter (fun x => x.ldi == ldi) else none
  match w with
  | some x => (x.lineOf r.woff, if isMx x.fmt then x.scaleOf (r.woff / mxGroup x.fmt) else x.lineOf r.woff)
  | none => (r.dli, if isMx r.fmt then mxScaleLine r.fmt r.dli else r.dli)

/-- BAD_REQUEST of a REDUCE (R149, R160). -/
def State.badReduce (s : State) (r : RedBody) (ldi src fence : Nat) : State :=
  let t := s.redTarget r ldi
  s.badRequest t.1 t.2 ldi (r.op + r.fmt * 16) (if r.exact then r.window else 0) src fence r.exact

def dataLine (d : Bytes) (i : Nat) : Line := lineOf (bytesAt d (64 * i) 64)

/-- The entries of a fast-mode REDUCE: unit and work by target line. -/
def fastWork (r : RedBody) (d scales : Bytes) : List (Nat × Nat × BWork) :=
  if isMx r.fmt then
    [(unitOf (mxScaleLine r.fmt r.dli), r.dli,
      .mx r.fmt r.dli r.first ((List.range r.lines).map (dataLine d)) scales)]
  else (List.range r.lines).map (fun i =>
    (unitOf (r.dli + i), r.dli + i, .reduce r.op r.fmt (dataLine d i)))

/-- The entries of a window contribution (R150): one for each target line, or one for its MX group, keyed by the scale line. -/
def exactWork (x : RedWindow) (r : RedBody) (d scales : Bytes) : List (Nat × Nat × BWork) :=
  let of := r.op + r.fmt * 16
  if isMx r.fmt then
    [(unitOf (x.scaleOf (r.woff / mxGroup r.fmt)), x.lineOf r.woff,
      .exact r.window x.nth r.woff of ((List.range r.lines).map (dataLine d)) scales)]
  else (List.range r.lines).map (fun i =>
    (unitOf (x.lineOf (r.woff + i)), x.lineOf (r.woff + i), .exact r.window x.nth (r.woff + i) of [dataLine d i] []))

/-- The entries of an MSTORE. -/
def storeWork (dli lines : Nat) (d : Bytes) : List (Nat × Nat × BWork) :=
  (List.range lines).map (fun i => (unitOf (dli + i), dli + i, .store (dataLine d i)))

/-- An ATOMIC operation body (24 bytes): the entry, when it names a defined operation on an aligned operand. -/
def atomicWork (b : Bytes) : Option (Nat × Nat × BWork) :=
  let dli := fieldAt b 0 4
  let off := fieldAt b 4 1
  let aopc := fieldAt b 5 1 % 8
  let width := if aopc / 4 % 2 == 1 then 8 else 4
  if aopc % 4 == 3 || off % width != 0 || 64 < off + width then none
  else some (unitOf dli, dli, .atomic off aopc (BitVec.ofNat 64 (fieldAt b 8 8)) (BitVec.ofNat 64 (fieldAt b 16 8)))

/-! ### The router (R150, R151) -/

/-- The unretired entries of a unit. -/
def BUnit.entries (b : BUnit) : List BEntry := b.queue ++ b.inbox

/-- Entries of a source in a unit's queue. -/
def BUnit.count (b : BUnit) (source : Nat) : Nat := (b.entries.filter (fun e => e.src.source == source)).length

/-- Every entry fits: at most 32 of a source in each unit's queue. -/
def State.routeFits (s : State) (source : Nat) (ws : List (Nat × Nat × BWork)) : Bool :=
  (List.range 12).all (fun u => decide ((s.unit u).count source + (ws.filter (fun w => w.1 == u)).length ≤ 32))

/-- Some entry is for a dead unit (R168). -/
def State.routeDead (s : State) (ws : List (Nat × Nat × BWork)) : Bool := ws.any (fun w => (s.unit w.1).dead)

/-- Queue the entries of a request. -/
def State.routeAll (s : State) (proto : BEntry) (ws : List (Nat × Nat × BWork)) : State :=
  ws.foldl (fun s w =>
    let b := s.unit w.1
    s.setUnit w.1 { b with inbox := b.inbox ++ [{ proto with dli := w.2.1, work := w.2.2 }] }) s

/-- How far a source stands behind the one served last, in the round of the 26 sources (R151). -/
def BUnit.behind (b : BUnit) (e : BEntry) : Nat := (e.src.source + 25 - b.turn) % 26

/-- The entry that the router serves next: the first of the source that comes next in the round. -/
def BUnit.nextEntry (b : BUnit) : Option BEntry :=
  b.inbox.find? (fun e => b.inbox.all (fun x => decide (b.behind e ≤ b.behind x)))

/-- Serve that entry: it takes the unit's next sequence number. -/
def BUnit.serveOne (b : BUnit) : BUnit :=
  match b.nextEntry with
  | some e =>
    { b with
      inbox := b.inbox.erase e, turn := e.src.source, queue := b.queue ++ [{ e with seq := b.nextSeq }]
      nextSeq := (b.nextSeq + 1) % 2 ^ 32 }
  | none => b

/-- Serve what has been accepted, one entry of each queue in a turn (R151). -/
def BUnit.serve (b : BUnit) : BUnit := b.inbox.length.repeat BUnit.serveOne b

def State.serveUnit (s : State) (u : Nat) : State := s.setUnit u (s.unit u).serve

/-! ### Errors of entries (R166) -/

/-- Write the outcome of a remote atomic into its REPLY entry and answer it (R134). -/
def State.finishAtomic (s : State) (ldi peer aseq status : Nat) (executed : Bool) (result : BitVec 64) : State :=
  match s.rcFind true peer aseq with
  | some e =>
    let e := { e with status := status, result := result, executed := executed, ready := true }
    (s.rcSet e).sendResponse e.port e.vc peer ldi aseq status result
  | none => s

/-- An entry that ends unapplied: its status reaches the fence of R166, and a `BA_` atomic its response. -/
def State.failEntry (s : State) (e : BEntry) (status : Nat) : State :=
  match e.src with
  | .ba q =>
    let s1 := s.post e.ldi e.fence status .batten
    let s2 := match e.work, s.batten.reqs.find q with
      | .atomic _ _ _ _, some r => s1.settle.emit (.baRsp r.tag status 0)
      | _, _ => s1
    { s2 with batten := { s2.batten with reqs := s2.batten.reqs.del q } }
  | .port _ peer _ aseq =>
    match e.work with
    | .atomic _ _ _ _ => s.finishAtomic e.ldi peer aseq status false 0
    | _ => s.post e.ldi (s.destFence e.ldi e.arr) status .batten

/-- The fence that an entry's error binds to, for its record. -/
def State.entryFence (s : State) (e : BEntry) : Nat :=
  match e.src, e.work with
  | .ba _, _ => e.fence
  | _, .atomic _ _ _ _ => noFence
  | _, _ => s.destFence e.ldi e.arr

/-- An owed completion that cannot come: its status reaches the fence of its entry, unless that has signalled. -/
def State.failOwed (s : State) (p : BPending) (status : Nat) : State :=
  match p.src with
  | .ba q =>
    let s := s.post p.ldi p.fence status .batten
    { s with batten := { s.batten with reqs := s.batten.reqs.del q } }
  | .port _ _ _ _ => if p.atomic then s else s.post p.ldi (s.destFence p.ldi p.arr) status .batten

/-- One line of a `BA_` request has been accepted, or one window line applied: after the last the fence signals
`ST_OK` (R155, R160). -/
def State.payReq (s : State) (q : Nat) : State :=
  match s.batten.reqs.find q with
  | some r =>
    if r.left ≤ 1 then
      let s := { s with batten := { s.batten with reqs := s.batten.reqs.del q } }
      if r.fence == 0 then s else s.post r.ldi r.fence stOk .batten
    else { s with batten := { s.batten with reqs := s.batten.reqs.put q { r with left := r.left - 1 } } }
  | none => s

/-! ### Abort and retirement (R34, R53, R166) -/

/-- Entries and dirty lines of an LDI that a unit holds. -/
def BUnit.held (b : BUnit) (ldi : Nat) : Nat :=
  (b.entries.filter (fun e => e.ldi == ldi)).length + (b.lines.filter (fun l => l.ldi == ldi && l.dirty)).length

def State.battenDroppable (s : State) (ldi : Nat) : Nat :=
  (s.batten.units.vals.map (fun b => b.held ldi)).foldl (· + ·) 0

/-- The in-flight count of an LDI in Batten (R166). -/
def State.battenInflight (s : State) (ldi : Nat) : Nat :=
  s.battenDroppable ldi
    + (s.batten.windows.vals.filter (fun w => w.ldi == ldi && w.state == .open_)).length

/-- The `BA_` atomics among an LDI's queued entries still owe their responses. -/
def State.battenAnswers (s : State) (ldi : Nat) : List Output :=
  (s.batten.units.vals.flatMap BUnit.entries).filterMap (fun e =>
    match e.src, e.work with
    | .ba q, .atomic _ _ _ _ =>
      if e.ldi == ldi then (s.batten.reqs.find q).map (fun r => Output.baRsp r.tag stAborted 0) else none
    | _, _ => none)

/-- Discard an LDI's queued entries, its lines and its windows (R165, R288), without writing anything back. -/
def State.discardBatten (s : State) (ldi : Nat) : State :=
  let outs := s.battenAnswers ldi
  let clear := fun (b : BUnit) =>
    let gone := (b.lines.filter (fun l => l.ldi == ldi)).map (·.dli)
    { b with
      queue := b.queue.filter (fun e => e.ldi != ldi)
      inbox := b.inbox.filter (fun e => e.ldi != ldi)
      lines := b.lines.filter (fun l => l.ldi != ldi)
      mirror := b.mirror.filter (fun m => !gone.contains m.dli) }
  let units : Map BUnit := s.batten.units.map (fun (x : Nat × BUnit) => (x.1, clear x.2))
  let reqs : Map BaOpen := s.batten.reqs.filter (fun (x : Nat × BaOpen) => x.2.ldi != ldi)
  let wins : Map RedWindow := s.batten.windows.filter
    (fun (x : Nat × RedWindow) => x.2.ldi != ldi)
  ({ s with batten := { s.batten with units := units, reqs := reqs, windows := wins } }).emitAll outs

end Sys2Proof.Machine
end

