-- ==== Sys2Proof/Machine/Abort.lean ====
section
/-!
DEFINITION. Taking a domain out of service: publications on `BP_`, key destruction, abort (R34), Squall (R391, R392), and
the end of an SA (R138, R393).
-/
namespace Sys2Proof.Machine

/-! ### Publications on BP_ (R447, R448) -/

def bit (b : Bool) (i : Nat) : Nat := if b then 2 ^ i else 0

def gateRec (ldi : Nat) (isOpen : Bool) : BitVec 128 := BitVec.ofNat 128 (1 + ldi * 2 ^ 4 + bit isOpen 12)

def queueRec (q ldi ctx : Nat) (isOpen : Bool) : BitVec 128 :=
  BitVec.ofNat 128 (2 + q * 2 ^ 4 + ldi * 2 ^ 20 + ctx * 2 ^ 28 + bit isOpen 40)

def sliceRec (x : Slice) (ldi : Nat) (isOpen : Bool) : BitVec 128 :=
  BitVec.ofNat 128 (3 + x.id * 2 ^ 4 + x.kind * 2 ^ 20 + ldi * 2 ^ 22 + bit isOpen 30)

/-- The record of a binding, opened: the port of a dead engine stays published closed (R389). -/
def State.openSlice (s : State) (ldi : Nat) (x : Slice) : BitVec 128 :=
  sliceRec x ldi !(x.kind == 2 && (s.engine x.id).dead)

def mapRec (ldi mapCur : Nat) (rebind : Bool) : BitVec 128 :=
  BitVec.ofNat 128 (4 + ldi * 2 ^ 4 + mapCur * 2 ^ 12 + bit rebind 44)

def producerRec (ldi handle ctx : Nat) : BitVec 128 := BitVec.ofNat 128 (5 + ldi * 2 ^ 4 + handle * 2 ^ 12 + ctx * 2 ^ 44)

def syncRec (seq : Nat) : BitVec 128 := BitVec.ofNat 128 (6 + seq % 2 ^ 32 * 2 ^ 4)

def neighReq (ldi rank members : Nat) : BitVec 128 :=
  BitVec.ofNat 128 (7 + ldi * 2 ^ 4 + rank * 2 ^ 12 + members * 2 ^ 28)

/-- Publish records and the SYNC that ends them; the SYNC's SEQ (R448). -/
def State.publish (s : State) (rs : List (BitVec 128)) : Nat × State :=
  let seq := s.bp.nextSync
  let s1 := s.emitAll ((rs ++ [syncRec seq]).map Output.bpPub)
  (seq, { s1 with bp := { s1.bp with nextSync := seq + 1 } })

/-! ### Key destruction (R192, R199) -/

/-- Types of the keys that end with an abort: ephemeral seed, weight, group, migration. -/
def endsAtAbort (type : Nat) : Bool := type == 7 || type == 8 || type == 9 || type == 11

/-- Types that end with a generation advance: those, and K1, K2, KM, H and K_SP. -/
def endsAtAdvance (type : Nat) : Bool := endsAtAbort type || (decide (1 ≤ type) && decide (type ≤ 5))

/-- Destroy the keys of an LDI whose types a test names. -/
def State.dropKeys (s : State) (ldi : Nat) (p : Nat → Bool) : State :=
  { s with keys := { s.keys with slots := s.keys.slots.filter (fun x => !(x.2.ldi == ldi && p x.2.type)) } }

/-- The groups of an LDI whose keys have been destroyed stay, without them (R34, R198). -/
def State.dropGroupKeys (s : State) (ldi : Nat) : State :=
  let groups : Map Group := s.shuttle.groups.map (fun (x : Nat × Group) =>
    if x.2.ldi == ldi then (x.1, { x.2 with keyed := false }) else x)
  { s with shuttle := { s.shuttle with groups := groups } }

/-! ### POLICY and Squall (R36, R391, R392) -/

/-- The POLICY exchange for the domain has passed with the peer. -/
def State.exchPassed (s : State) (peer ldi : Nat) : Bool :=
  let d := s.dom ldi
  let x := s.exch peer d.gdid
  s.saValid peer && x.sent && x.got == some d.policy

/-- Tree neighbours of the LDI that count (R391): their exchange has passed. None after a fatal tamper, which leaves no
key to authenticate a Squall (R395). -/
def State.treePeers (s : State) (ldi : Nat) : List Nat :=
  if s.power.fatal then []
  else ((s.dom ldi).neighbours.vals.eraseDups).filter (fun p => s.exchPassed p ldi)

def squallBody (gdid rank devid cause hops : Nat) : Bytes :=
  leBytes 4 gdid ++ leBytes 2 rank ++ leBytes 2 devid ++ leBytes 1 cause ++ leBytes 1 hops ++ leBytes 6 0

/-- The SQUALL record (R392, 18). -/
def State.squallRecord (s : State) (ldi cause devid rank origCause : Nat) (sent : Bool) : State :=
  s.record 0x0C04 (loomPayload ldi cause 0 (s.dom ldi).gdid
    (devid + rank * 2 ^ 16 + origCause * 2 ^ 32 + bit sent 40) s.jidNow 0)

/-- Send Squall for a domain, once for each instance of it (R34 step 4, R392). -/
def State.sendSquall (s : State) (ldi cause : Nat) : State :=
  let d := s.dom ldi
  if d.squalled then s
  else
    let ps := s.treePeers ldi
    let s := s.setDom ldi { d with squalled := true }
    let s := ps.foldl (fun s p => s.sendCtrl p 0x0A (squallBody d.gdid d.rank s.boot.devid cause 1)) s
    if ps.isEmpty then s else s.squallRecord ldi cause s.boot.devid d.rank cause true

/-! ### Abort (R34) -/

/-- Host functions bound to the LDI (R329): its virtual machine's. -/
def State.functionsOf (s : State) (ldi : Nat) : List Nat := if (s.dom ldi).vmfn == 0 then [] else [(s.dom ldi).vmfn]

/-- The TDI of a locked or running function enters ERROR (R333). -/
def State.tdiError (s : State) (func : Nat) : State :=
  let t := s.link.tdis.findD func {}
  match t.state with
  | .locked | .run => { s with link := { s.link with tdis := s.link.tdis.put func { t with state := .error } } }
  | _ => s

/-- Suspended commands of the LDI that an abort overtakes (R259). -/
def State.overtake (s : State) (ldi : Nat) : State :=
  { s with loom := { s.loom with journal := s.loom.journal.map (fun (e : JEntry) =>
    if e.ldi == ldi && e.journaled then { e with overtaken := true } else e) } }

/-- Mark the LDI aborted: check 1 of R39 and R178 applies at once, to pulls that are being served too (R178, R392). -/
def State.markAborted (s : State) (ldi : Nat) : State :=
  let s := (s.overtake ldi).setDom ldi { s.dom ldi with state := .aborted, frozen := false, mig := none }
  ((s.functionsOf ldi).foldl State.tdiError s).abortPulls ldi

/-- Loom runs its firmware now, in the middle of another command's effect included. -/
def State.loomRuns (s : State) : Bool := !s.loom.restarting && !s.loom.halted

/-- Commit an internal journal entry (R251, R260, R414). -/
def State.internalEntry (s : State) : State :=
  { s with loom := { s.loom with nextJid := s.loom.nextJid + 1, lastJid := s.loom.nextJid } }.bump 0x003

/-- The journal entry of a lane's failover: its intent, and its commit (R88, R260). -/
def State.openIntent (s : State) (lane : Nat) : State :=
  { s with loom := { s.loom with
    nextJid := s.loom.nextJid + 1, failovers := s.loom.failovers ++ [(lane, s.loom.nextJid)] } }

def State.commitIntent (s : State) (lane : Nat) : State :=
  match s.loom.failovers.find? (fun x => x.1 == lane) with
  | some x =>
    { s with loom := { s.loom with
      failovers := s.loom.failovers.filter (fun y => y.1 != lane), lastJid := max s.loom.lastJid x.2 } }.bump 0x003
  | none => s

/-- Causes of aborts that a command requests; its own entry journals them. -/
def commandCause (cause : Nat) : Bool := cause == 0x01 || cause == 0x02 || cause == 0x09 || cause == 0x0A

/-- An abort ends the imports of the LDI: the scrub engine leaves their targets, which stay HELD (R220). -/
def State.dropTargets (s : State) (ldi : Nat) : State :=
  { s with weft := { s.weft with scrubQ := s.weft.scrubQ.filter (fun q => !(q.target && q.ldi == ldi)) } }

/-- Steps 1 and 2 of R34 on a marked domain, with the keys that end with it (R199). -/
def State.closeAbort (s : State) (a : DueAbort) : State :=
  let s := (s.publish [gateRec a.ldi false]).2
  let s := (s.dropKeys a.ldi endsAtAbort).dropGroupKeys a.ldi
  (((s.discardWeft a.ldi).dropTargets a.ldi).dropRxq (fun p => p.ldi == a.ldi)).discardBatten a.ldi

/-- Step 3 of R34, under the abort's journal entry: every ARMED fence signals. -/
def State.signalAbort (s : State) (a : DueAbort) : State :=
  (if commandCause a.cause then s else s.internalEntry).signalAll a.ldi a.cause

/-- What follows: replay entries (R139), the event (R469), and Squall for a local cause (step 4 of R34). -/
def State.restAbort (s : State) (a : DueAbort) : State :=
  let s := (s.rcEnd a.ldi).raiseAbort a.ldi
  if a.origin then s.sendSquall a.ldi a.cause else s

/-- The steps of R34 on a marked domain. -/
def State.finishAbort (s : State) (a : DueAbort) : State := ((s.closeAbort a).signalAbort a).restAbort a

/-- An abort event reaches an LDI (R32, R33, R34). `origin`: the cause is local. During a CORE restart all but the fence signals
and the journal entry is done at once (R385); while the cores are halted the domain is marked, and the rest follows the resume
(R431). DESIGN CHOICE: the abort leaves OPEN of an open rebind as it is (notes/assumptions/45.md). -/
def State.abort (s : State) (ldi cause : Nat) (origin : Bool) : State :=
  let d := s.dom ldi
  if d.retiring then (if cause == 0x03 || cause == 0x07 then s.sendSquall ldi cause else s)
  else if !d.state.abortable then s
  else
    let a : DueAbort := { ldi := ldi, gen := d.gen, cause := cause, origin := origin }
    let s := s.settle.markAborted ldi
    if s.loomRuns then s.finishAbort a
    else
      let s1 := if s.loom.restarting then (s.closeAbort a).restAbort a else s
      { s1 with loom := { s1.loom with abortsDue := s1.loom.abortsDue ++ [{ a with begun := s1.loom.restarting }] } }

/-- Complete an abort that waited for Loom. -/
def State.resumeAbort (s : State) (a : DueAbort) : State := if a.begun then s.signalAbort a else s.finishAbort a

/-- Complete the aborts that waited for Loom. -/
def State.finishAborts (s : State) : State :=
  s.loom.abortsDue.foldl State.resumeAbort { s with loom := { s.loom with abortsDue := [] } }

/-! ### The end of an SA (R108, R138, R393) -/

/-- A PENDING entry ends without its answer (R138): fence, record. No packet belongs to the record: FDT is the domain's, ENGINE
the home's physical engine and HDRFLAGS 0 (DESIGN CHOICE, notes/assumptions/45.md). -/
def State.loseAtomic (s : State) (peer : Nat) (e : RcEntry) : State :=
  let s := s.settle.applyStatus ⟨e.ldi, e.fence, stOutcomeUnknown, .shuttle⟩
  let h := s.pairHome peer
  s.record 0x050C (shuttlePayload peer (s.dom e.ldi).fdt e.ldi (s.engine h).instance_ h 0 e.aseq 0 0)

/-- R138 for every entry of the SA. -/
def State.loseAtomics (s : State) (peer : Nat) : State :=
  let pend := s.shuttle.rcache.filter (fun e => !e.reply && e.peer == peer)
  (pend.foldl (fun s e => s.loseAtomic peer e) s).rcDel (fun e => e.peer == peer)

/-- The peer no longer counts among those that a quarantined FDT waits for (R54). -/
def State.quarantinePeerGone (s : State) (peer : Nat) : State :=
  let gone := fun (q : Quarantined) =>
    if q.peers.contains peer then { q with peers := q.peers.filter (fun p => p != peer), since := max q.since s.now } else q
  { s with tables := { s.tables with
    quarantine := s.tables.quarantine.map gone
    quarWait := s.tables.quarWait.map gone } }

/-- A migration with the peer ends: KMIG is destroyed and the reserved indices are released (R344). -/
def State.endMigrations (s : State) (peer : Nat) : State :=
  (s.ldisWith (fun d => match d.mig with | some m => m.peer == peer | none => false)).foldl (fun s l =>
    (s.setDom l { s.dom l with mig := none }).dropKeys l (fun t => t == 11)) s

/-- An SA ends: R138 first, then its keys, then the aborts of R393 in rising LDI order. The caller gives the entry's
new state. -/
def State.endSa (s : State) (peer cause : Nat) (st : SaState) : State :=
  if s.saValid peer then
    let hit := s.ldisWith (fun d => d.state.abortable) |>.filter (fun l => s.exchPassed peer l)
    let s := s.internalEntry.loseAtomics peer
    let a := s.sa peer
    let s := s.setSa peer { a with
      state := st, keys := {}, policy := [], heard := [], lastAtom := none, atomRoute := [], ackSince := none,
      lastData := none }
    let s := (s.endMigrations peer).quarantinePeerGone peer
    hit.foldl (fun s l => s.abort l cause true) s
  else s

/-- Loss of a VALID SA (R110, R383, R393). -/
def State.loseSa (s : State) (peer : Nat) : State :=
  if s.saValid peer then (s.endSa peer 0x05 .lost).saRecord 0x0507 peer 0 0 else s

/-- The SA is VALID and its counter has run out (R198). -/
def State.spent (s : State) (peer : Nat) : Bool := s.saValid peer && !(s.sa peer).canCount

/-- End the SA whose counter has run out, as loss ends it (R198). -/
def State.endExhausted (s : State) (peer : Nat) : State := if s.spent peer then s.loseSa peer else s

/-- The same for every SA (R198). -/
def State.endSpent (s : State) : State := (s.shuttle.sas.keys.filter s.spent).foldl State.endExhausted s

/-! ### Ring tails (R467, R468) -/

/-- `RING_TAIL` takes a value within 16 of itself and of REPLY while the ring is open. -/
def Ring.takesTail (r : Ring) (closed : Bool) (v : Nat) : Bool :=
  let fwd := (v + 2 ^ 32 - r.tail) % 2 ^ 32
  decide (1 ≤ fwd) && decide (fwd ≤ 16) && decide ((v + 2 ^ 32 - r.reply) % 2 ^ 32 ≤ 16) && !closed

/-- A write of `RING_TAIL` applied: accepted, or BADTAIL. -/
def Ring.writeTail (r : Ring) (closed : Bool) (v : Nat) : Ring :=
  if r.takesTail closed v then { r with tail := v, heldTail := none } else { r with badTail := true, heldTail := none }

/-- The HCP's rings are closed until its image has streamed (R21). -/
def State.ringClosed (s : State) (i : Nat) : Bool := decide (64 ≤ i) && decide (i < 68) && s.boot.hcpClosed

/-- Apply a write of `RING_TAIL` to ring i; a refused one is counted. -/
def State.applyTail (s : State) (i v : Nat) : State :=
  let r := s.loom.rings.findD i {}
  let bad := !r.takesTail (s.ringClosed i) v
  { s with
    loom := { s.loom with rings := s.loom.rings.put i (r.writeTail (s.ringClosed i) v) }
    counters := { s.counters with refused := s.counters.refused + (if bad then 1 else 0) } }

/-- The writes that the rings have held (R464, R468). -/
def State.applyHeldTails (s : State) : State :=
  (s.loom.rings.filterMap (fun x => x.2.heldTail.map (fun v => (x.1, v)))).foldl (fun s x => s.applyTail x.1 x.2) s

/-! ### The end of a halt (R383, R430, R432) -/

/-- A halt ends: the watchdog's count restarts, and aborts that waited for Loom complete. Breakpoints stay. -/
def State.endHalt (s : State) : State :=
  let s1 := { s with loom := { s.loom with
    halted := false, halting := false, escalated := s.loom.escalated.map (fun _ => s.now) } }
  if s1.loom.restarting then s1 else s1.finishAborts.applyHeldTails

/-- An instance is declared failed: a halt ends (R432). -/
def State.failureEndsHalt (s : State) : State := if s.inHalt then s.endHalt else s

end Sys2Proof.Machine
end

