-- ==== Sys2Proof/Machine/Otp.lean ====
section
/-!
DEFINITION. What the block reads from OTP (spec/16_lifecycle.md R345-R362), key destruction by zeroize, and fatal tamper
(spec/09_keys.md R199, R200, spec/18_recovery.md R395).
-/
namespace Sys2Proof.Machine

/-! ### Life-cycle state codes (R345) -/

def lcsRaw : Nat := 0
def lcsTestLocked : Nat := 1
def lcsTestUnlocked : Nat := 2
def lcsDev : Nat := 3
def lcsProvisioned : Nat := 4
def lcsMission : Nat := 5
def lcsRma : Nat := 6
def lcsScrap : Nat := 7

/-- PROVISIONED or MISSION. -/
def lcsLive (l : Nat) : Bool := l == lcsProvisioned || l == lcsMission

/-! ### OTP words (R347, R348) -/

def Otp.word (o : Otp) (a : Nat) : Nat := (o.words.findD a 0).toNat

/-- A word as the OTP controller returns it: UDS and OWNER read zero in RMA and SCRAP (R355). -/
def Otp.readWord (o : Otp) (a : Nat) : Nat :=
  let gated := (decide (0x1E0 ≤ a) && decide (a ≤ 0x1E8)) || (decide (0x1F0 ≤ a) && decide (a ≤ 0x1F8))
    || (decide (0x210 ≤ a) && decide (a ≤ 0x21C))
  if gated && (o.lcs == lcsRma || o.lcs == lcsScrap) then 0 else o.word a

/-- Program bits of a word: bits only rise (R347). -/
def Otp.program (o : Otp) (w : OtpWrite) : Otp :=
  { o with words := o.words.put w.addr (o.words.findD w.addr 0 ||| w.bits) }

/-- The bytes of `n` words from an address. -/
def Otp.bytes (o : Otp) (a n : Nat) : Bytes := (List.range n).flatMap (fun i => leBytes 4 (o.readWord (a + i)))

/-- The 0 bits among the low `n` bits of a value (R348). -/
def zeroBits (n v : Nat) : Nat := ((List.range n).filter (fun i => v / 2 ^ i % 2 == 0)).length

/-- A self-checking word of a transition slot. -/
def logWord (marker data : Nat) : Nat := marker * 2 ^ 21 + zeroBits 16 data * 2 ^ 16 + data

def intentWord (from_ dest : Nat) : Nat := logWord 0x5A3 (from_ * 256 + dest)
def stateWord (dest : Nat) : Nat := logWord 0x3C5 (dest * 256 + dest)
def doneWord : Nat := 0x96696996

/-- FROM and TO of a valid INTENT word. -/
def validIntent (w : Nat) : Option (Nat × Nat) :=
  if w == logWord 0x5A3 (w % 65536) then some (w / 256 % 256, w % 256) else none

/-- The group of `n` words whose check word follows is valid. -/
def Otp.groupValid (o : Otp) (a n : Nat) : Bool :=
  let data := leNat (o.bytes a n)
  o.readWord (a + n) == 0x4D2 * 2 ^ 21 + zeroBits (32 * n) data

def Otp.blank (o : Otp) (a n : Nat) : Bool := (List.range n).all (fun i => o.word (a + i) == 0)

/-- The valid UDS area, UDS_A before UDS_B (R353). -/
def Otp.udsArea (o : Otp) : Option Nat :=
  if o.groupValid 0x1E0 8 then some 0x1E0 else if o.groupValid 0x1F0 8 then some 0x1F0 else none

/-- The UDS, while the state lets it be read. -/
def Otp.uds (o : Otp) : Option Bytes := if lcsLive o.lcs then o.udsArea.map (fun a => o.bytes a 8) else none

def Otp.serial (o : Otp) : Bytes := o.bytes 0x000 4
def Otp.integId (o : Otp) : Nat := o.word 0x004 % 65536
def Otp.minPeer (o : Otp) : Nat := o.word 0x006 % 65536
def Otp.ownerValid (o : Otp) : Bool := o.groupValid 0x210 12
def Otp.owner (o : Otp) : Bytes := o.bytes 0x210 12

/-- OTP_SVN: 1 plus the index of the highest set bit of the thermometer (R357). -/
def Otp.svn (o : Otp) : Nat :=
  let v := leNat (o.bytes 0x200 4)
  if v == 0 then 0 else Nat.log2 v + 1

/-- The first transition slot whose INTENT reads 0, if any (R351). -/
def Otp.freeSlot (o : Otp) : Option Nat := (List.range 48).find? (fun i => o.word (0x100 + 3 * i) == 0)

/-- Blank slots left. -/
def Otp.logFree (o : Otp) : Nat := 48 - o.freeSlot.getD 48

/-- The OTP controller accepts the integrator's programs through `DB_` test access (R347, R362). -/
def Otp.integratorOpen (o : Otp) : Bool := o.lcs == lcsRaw || o.lcs == lcsTestUnlocked

/-- FUSE_WORD (R362). -/
def Otp.fuseWord (o : Otp) : Nat :=
  let area := if lcsLive o.lcs then o.udsArea else none
  o.minPeer + bit area.isSome 16 + bit (area == some 0x1F0) 17 + bit o.ownerValid 18
    + bit (!o.integratorOpen) 19 + o.logFree * 2 ^ 20

/-- Token i's hash, when it is valid: a nonzero hash (R354). -/
def Otp.tokenHash (o : Otp) (i : Nat) : Bytes := o.bytes (0x190 + 4 * i) 4

def Otp.tokenSpent (o : Otp) (i : Nat) : Bool := o.word 0x1D0 / 2 ^ i % 2 == 1

/-- Tokens left: valid, unspent hashes. -/
def Otp.tokensLeft (o : Otp) : List Nat :=
  (List.range 16).filter (fun i => !allZero (o.tokenHash i) && !o.tokenSpent i)

/-! ### Zeroize and fatal tamper (R199, R200, R395) -/

/-- What the acknowledgement of a record still completes when its keys have ended: a response without them (R190). -/
def KpDone.ended : KpDone → KpDone
  | .none => .none
  | .install _ last => .install Option.none (last.map (fun x => (x.1, x.2.1, [])))
  | .gostop func keySet _ last => .gostop func keySet false last

/-- The record when its keys have ended: an INSTALL loses its key, and is not sent any more if it has not been. -/
def KpRec.forget (r : KpRec) : KpRec :=
  match r.done with
  | .install _ _ => { record := BitVec.ofNat 384 (r.record.toNat % 2 ^ 128), done := r.done.ended, gone := true }
  | _ => { r with done := r.done.ended }

/-- Accepted writes that no lane has issued leave it: no block is issued under a destroyed key (R192). -/
def State.dropAccepted (s : State) : State := s.weft.lanes.keys.foldl (fun s n => s.dropEntries n (fun _ => true)) s

/-- Destroy every key store slot, every SA key, the identity area apart from the reset epoch, the keys that wait for `KP_`, and
the DRBG state (R199); what was accepted under those keys is dropped. -/
def State.zeroizeKeys (s : State) : State :=
  let sas : Map Sa := s.shuttle.sas.map (fun (x : Nat × Sa) => (x.1, { x.2 with keys := {} }))
  let groups : Map Group := s.shuttle.groups.map (fun (x : Nat × Group) => (x.1, { x.2 with keyed := false }))
  { s with
    keys := { epoch := s.keys.epoch, zeroized := true }
    shuttle := { s.shuttle with sas := sas, groups := groups, groupHold := [], handshakes := [] }
    link := { s.link with kpOut := s.link.kpOut.map KpRec.forget, kpWait := s.link.kpWait.map KpRec.forget }
    entropy := { s.entropy with passed := false, testing := false, requests := 0 } }.dropAccepted

/-- A fatal tamper (R395): ports and fetch stop, keys go, the TAMPER record is written, `EV_FATAL`. Pulls that are being served
end with K_SP: no beat leaves any more (R192). -/
def State.fatalTamper (s : State) (inst mask : Nat) (baro : Bool) : State :=
  if s.power.fatal then s
  else
    let s := s.zeroizeKeys.recordNow 0x0C07 (loomPayload 0 0 inst 0 (mask + bit baro 32) s.jidNow 0)
    { s with power := { s.power with fatal := true }, spindle := { s.spindle with pulls := [] } }

end Sys2Proof.Machine
end

