-- ==== Sys2Proof/Machine/Barometer.lean ====
section
/-!
DEFINITION. Barometer: samples, stretch, thresholds, tamper, calibration (spec/19_barometer.md).
-/
namespace Sys2Proof.Machine

/-! ### Instances (R324, R399) -/

/-- Every instance of the build in the encoding of `SNS_STATUS`, rising. -/
def Build.instances (b : Build) : List Nat :=
  List.range b.lanes ++ (List.range (b.lanes / 32)).map (0x80 + ·)
    ++ (List.range b.engines).map (0x100 + ·) ++ [0x180, 0x181]
    ++ (List.range 12).map (0x200 + ·) ++ [0x280, 0x300, 0x400]

/-- The instance is in service (R405). -/
def State.inService (s : State) (inst : Nat) : Bool :=
  let code := inst % 256
  match inst / 256 with
  | 0 => (List.range s.build.lanes).any (fun n => (s.lane n).instance_ == code && !(s.lane n).dead)
  | 1 => (List.range s.build.engines).any (fun n => (s.engine n).instance_ == code && !(s.engine n).dead)
  | 2 => (List.range 12).any (fun n => (s.unit n).instance_ == code && !(s.unit n).dead)
  | 3 => true
  | _ => !s.build.pool

def Baro.sensor (b : Baro) (inst : Nat) : Sensor := b.sensors.findD inst {}

def State.setSensor (s : State) (inst : Nat) (x : Sensor) : State :=
  { s with baro := { s.baro with sensors := s.baro.sensors.put inst x } }

def Sensor.bin_ (x : Sensor) (i : Nat) : Bin := x.bins.findD i {}

/-- A bin is calibrated once it has trained 4 epochs (R409). -/
def Bin.calibrated (b : Bin) : Bool := decide (4 ≤ b.epochs)

def Sensor.calMask (x : Sensor) : Nat := ((List.range 8).map (fun i => bit (x.bin_ i).calibrated i)).foldl (· + ·) 0

/-- Calibrated bins over every instance. -/
def State.calBins (s : State) : Nat :=
  (s.build.instances.map (fun i => ((List.range 8).filter (fun b =>
    ((s.baro.sensor i).bin_ b).calibrated)).length)).foldl (· + ·) 0

def State.uncalBins (s : State) : Nat := 8 * s.build.instances.length - s.calBins

/-- CAL_INCOMPLETE (R405). -/
def State.calIncomplete (s : State) : Bool :=
  s.build.instances.any (fun i => s.inService i && (s.baro.sensor i).calMask != 255)

/-! ### Fused values and thresholds (R403, R404, R411) -/

/-- The fused values of a subblock kind. -/
structure Fused where
  fm : Nat := 6
  fd : Nat := 60
  fg : Nat := 20
  gbm : Nat := 3
  gbd : Nat := 10
  gbg : Nat := 3
  gbum : Nat := 2
  gbud : Nat := 15
  gbug : Nat := 2
  mt : Nat := 10

def Otp.fused (o : Otp) (kind : Nat) : Fused :=
  let w0 := o.word (0x040 + 8 * kind)
  let w1 := o.word (0x041 + 8 * kind)
  let w2 := o.word (0x042 + 8 * kind)
  if w0 / 2 ^ 24 == 0xB7 then
    { fm := w0 / 2 ^ 18 % 64, fd := w0 / 16 % 256, fg := w0 / 2 ^ 12 % 64,
      gbm := w1 % 64, gbd := w1 / 2 ^ 12 % 256, gbg := w1 / 64 % 64,
      gbum := w2 % 64, gbud := w2 / 2 ^ 12 % 256, gbug := w2 / 64 % 64, mt := w2 / 2 ^ 20 % 64 }
  else {}

def State.fused (s : State) (inst : Nat) : Fused := s.otp.fused (inst / 256)

/-- A_M, A_D and A_G of a bin. -/
structure Thresholds where
  am : Nat := 0
  ad : Nat := 0
  ag : Nat := 0
  deriving DecidableEq, Repr

def calThresholds (f : Fused) (b : Bin) : Thresholds :=
  ⟨max (b.lm - f.gbm) f.fm, min (b.ld + f.gbd) f.fd, max (b.lg - f.gbg) f.fg⟩

/-- The nearest calibrated bin, the higher of two equally near (R404). -/
def Sensor.nearest (x : Sensor) (i : Nat) : Option Nat :=
  ((List.range 8).flatMap (fun d => [i + d, i - d].filter (fun j => decide (j < 8) && (j == i + d || decide (d ≤ i))))).find?
    (fun j => (x.bin_ j).calibrated)

def Sensor.thresholds (f : Fused) (x : Sensor) (i : Nat) : Thresholds :=
  if (x.bin_ i).calibrated then calThresholds f (x.bin_ i)
  else match x.nearest i with
    | some j =>
      let c := calThresholds f (x.bin_ j)
      ⟨max (c.am - f.gbum) f.fm, min (c.ad + f.gbud) f.fd, max (c.ag - f.gbug) f.fg⟩
    | none => ⟨f.fm, f.fd, f.fg⟩

/-- The sensor set whose learned values decide: as at the window's opening while one is open (R410). -/
def State.deciding (s : State) (inst : Nat) : Sensor :=
  match s.baro.window with
  | some _ => s.baro.held.findD inst {}
  | none => s.baro.sensor inst

/-! ### Samples (R400, R401, R406, R407) -/

/-- The stretch level after a sample (R401). -/
def stretchAfter (f : Fused) (level m d : Nat) : Nat :=
  let a := if m < f.mt then min 8 (level + 4) else level
  if 20 < d then max a (min 8 ((d + 9) / 10)) else a

/-- Payload of a Barometer record (R413). -/
def baroPayload (inst bin cls sensor stretch score thresh cal uncal suppressed : Nat) : Bytes :=
  leBytes 2 inst ++ leBytes 1 bin ++ leBytes 1 cls ++ leBytes 1 sensor ++ leBytes 1 stretch ++ leBytes 1 score
    ++ leBytes 1 thresh ++ leBytes 4 cal ++ leBytes 4 uncal ++ leBytes 4 suppressed

/-- Class of a sample (R406): none is normal; 0 soft, 1 and 2 excursions; with the sensor and its threshold. -/
def sampleClass (calibrated : Bool) (t : Thresholds) (level m d w : Nat) : Option (Nat × Nat × Nat) :=
  let am := decide (m < t.am)
  let ad := decide (t.ad < d)
  let ag := decide (w < t.ag)
  if !(am || ad || ag) then none
  else if calibrated && ag then some (2, 2, t.ag)
  else
    let which := if am then (0, t.am) else if ad then (1, t.ad) else (2, t.ag)
    some (if calibrated && level == 8 then 1 else 0, which.1, which.2)

/-- What a class adds to the tamper score. -/
def classWeight (c : Nat) : Nat := if c == 2 then 8 else if c == 1 then 1 else 0

/-- Samples of an epoch (R409). -/
def epochSamples : Nat := 65536

/-- One training sample of a bin, whose epoch has not come to its end (R409). -/
def Bin.train (b : Bin) (m d w : Nat) : Bin :=
  if epochSamples ≤ b.samples then b
  else if b.samples == 0 then { b with samples := 1, em := m, ed := d, eg := w, spoiled := false }
  else { b with samples := b.samples + 1, em := min b.em m, ed := max b.ed d, eg := min b.eg w }

/-- A rise of the score spoils every running epoch of the instance (R410). -/
def Sensor.spoil (x : Sensor) : Sensor :=
  { x with bins := x.bins.map (fun (y : Nat × Bin) => (y.1, { y.2 with spoiled := true })) }

/-- The consequences of a score of 8 and of 16 (R407). -/
def State.scoreReached (s : State) (inst bin cls sensor level thresh old score : Nat) : State :=
  let s := if old < 8 && 8 ≤ score then s.raise 3 else s
  if score < 16 then s
  else if lcsLive s.otp.lcs then s.fatalTamper inst 0 true
  else (s.setSensor inst { s.baro.sensor inst with score := 0 }).record 0x0D03
    (baroPayload inst bin cls sensor level score thresh 0 0 0)

/-- Whole microseconds of FREERUN that have passed since the scores last fell. -/
def State.scoreLag (s : State) : Nat := s.now / usTicks - s.baro.decayedUs

/-- The scores have fallen by 1 for every 1 µs of FREERUN that has passed (R407). -/
def State.decayScores (s : State) : State :=
  let n := s.scoreLag
  let dec : Map Sensor := s.baro.sensors.map (fun (x : Nat × Sensor) => (x.1, { x.2 with score := x.2.score - n }))
  { s with baro := { s.baro with sensors := dec, decayedUs := s.baro.decayedUs + n } }

/-- Take a sample that breaks a threshold: counts, record, score. -/
def State.alarm (s : State) (inst bin level : Nat) (c : Nat × Nat × Nat) : State :=
  let x := s.baro.sensor inst
  let score := min 16 (x.score + classWeight c.1)
  let x1 := if c.1 == 0 then { x with soft := min (x.soft + 1) (2 ^ 32 - 1), softAt := some s.now }
    else { x with exc := min (x.exc + 1) (2 ^ 32 - 1), excAt := some s.now, score := score }
  let x2 := if x.score < score then x1.spoil else x1
  let s := s.setSensor inst x2
  let s := s.recordLimited 0x0D01 inst 0 usTicks (baroPayload inst bin c.1 c.2.1 level score c.2.2 0 0)
  let s := s.traceWrite { src := 9, arg0 := inst, arg1 := c.1 + score * 256 }
  s.scoreReached inst bin c.1 c.2.1 level c.2.2 x.score score

/-- The levels of the last 1 ms with one more. -/
def pushPeak (now level : Nat) (ps : List (Nat × Nat)) : List (Nat × Nat) :=
  (now, level) :: ps.filter (fun p => decide (level < p.2) && decide (now < p.1 + msTicks))

/-- A sample that lets s fall (R401). -/
def calmSample (f : Fused) (m d : Nat) : Bool := decide (f.mt + 2 ≤ m) && decide (d ≤ 20)

/-- The sensor set after the readings of a sample, its stretch and its training. -/
def State.takeSample (s : State) (inst m d w bin : Nat) : Sensor :=
  let x := s.baro.sensor inst
  let level := stretchAfter (s.fused inst) x.stretch m d
  let b := x.bin_ bin
  { x with
    stretch := level, bin := bin, rawM := m, rawD := d, rawW := w
    peaks := pushPeak s.now level x.peaks
    calm := if calmSample (s.fused inst) m d then x.calm + 1 else 0
    fullStretch := if x.stretch == 8 then x.fullStretch + 1 else x.fullStretch
    bins := if s.baro.window.isSome then x.bins.put bin (b.train m d w) else x.bins }

/-- The readings lie in the ranges of R399. -/
def readingOk (m d w : Nat) : Bool := decide (m < 64) && decide (d < 256) && decide (w < 64)

/-- BAROMETER_SAMPLE (R399, R401, R406, R407, R409): the lowest M, the highest D and the lowest W since the previous sample. -/
def execBarometerSample (inst marginTaps droop glitch bin : Nat) (s : State) : Host.Outcome State Fault Refusal :=
  let k := s.deciding inst
  let level := (s.baro.sensor inst).stretch
  let s0 := s.decayScores
  let s1 := s0.setSensor inst (s0.takeSample inst marginTaps droop glitch bin)
  nextIf (s.clocked && s.build.instances.contains inst && readingOk marginTaps droop glitch) s
    (match sampleClass (k.bin_ bin).calibrated (k.thresholds (s.fused inst) bin) level marginTaps droop glitch with
    | none => s1
    | some c => s1.alarm inst bin level c)

/-- STRETCH_RELAX (R401): 64 cycles, which are 4 samples (R400), with M at or above M_T + 2 and D at or below 20. -/
def execStretchRelax (inst : Nat) (s : State) : Host.Outcome State Fault Refusal :=
  let x := s.baro.sensor inst
  nextIf (s.clocked && decide (4 ≤ x.calm) && decide (0 < x.stretch)) s
    (s.setSensor inst { x with stretch := x.stretch - 1, calm := 0 })

/-- FREERUN at the next whole microsecond. -/
def State.nextUs (s : State) : Nat := (s.now / usTicks + 1) * usTicks

/-- TAMPER_SCORE_DECAY (R407): every score falls by 1 for each microsecond of FREERUN that has passed, or, with none due, at the
next one. -/
def execTamperScoreDecay (s : State) : Host.Outcome State Fault Refusal :=
  nextIf s.clocked s (if s.scoreLag == 0 then s.advanceTo s.nextUs else s).decayScores

/-! ### Calibration windows (R409, R410) -/

/-- A learned value of a sensor that is healthier when higher. -/
def learnHigh (trained : Bool) (l e : Nat) : Nat :=
  if !trained then e else if l < e then l + (e - l + 1) / 2 else if e < l then l - 1 else l

/-- A learned value of a sensor that is healthier when lower. -/
def learnLow (trained : Bool) (l e : Nat) : Nat :=
  if !trained then e else if e < l then l - (l - e + 1) / 2 else if l < e then l + 1 else l

/-- The bin after its epoch has ended: learned, or discarded. -/
def Bin.endEpoch (b : Bin) : Bin :=
  let t := decide (0 < b.epochs)
  if b.spoiled then { b with samples := 0, spoiled := false }
  else { b with
    lm := learnHigh t b.lm b.em, ld := learnLow t b.ld b.ed, lg := learnHigh t b.lg b.eg
    epochs := b.epochs + 1, samples := 0, spoiled := false }

/-- CAL_EPOCH_END (R409): the bin's 65,536th sample has come while a window is open. -/
def execCalEpochEnd (inst bin : Nat) (s : State) : Host.Outcome State Fault Refusal :=
  let x := s.baro.sensor inst
  let b := x.bin_ bin
  nextIf (s.clocked && s.baro.window.isSome && decide (epochSamples ≤ b.samples)) s
    (s.setSensor inst { x with bins := x.bins.put bin b.endEpoch })

/-- The CAL_WINDOW record: class 3 opens, 4 closes. -/
def State.windowRecord (s : State) (cls : Nat) : State :=
  s.record 0x0D02 (baroPayload 0xFFFF 0 cls 0 0 0 0 s.calBins s.uncalBins 0)

/-- Running epochs end without effect. -/
def Baro.stopped (b : Baro) : Baro :=
  let stop := fun (x : Bin) => { x with samples := 0, spoiled := false }
  { b with
    sensors := b.sensors.map (fun (x : Nat × Sensor) => (x.1, { x.2 with bins := x.2.bins.map (fun (y : Nat × Bin) => (y.1, stop y.2)) }))
    window := none, held := [] }

/-- Close the window: running epochs are discarded, and what was learned decides from now on (R410). -/
def State.closeWindow (s : State) : State :=
  ({ s with baro := s.baro.stopped }).windowRecord 4

/-- CAL_WINDOW_EXPIRY (R410): the end of DURATION on FREERUN. -/
def execCalWindowExpiry (s : State) : Host.Outcome State Fault Refusal :=
  match s.baro.window with
  | some t => nextIf s.clocked s (s.advanceTo t).closeWindow
  | none => .next s

/-! ### Status (R412, R472) -/

/-- An instance status record. -/
def State.sensorRecord (s : State) (inst : Nat) : Bytes :=
  let x := s.decayScores.baro.sensor inst
  let t := (s.deciding inst).thresholds (s.fused inst) x.bin
  let recent := fun (o : Option Nat) => match o with | some a => decide (s.now < a + msTicks) | none => false
  let raw := s.right 7
  leBytes 2 inst ++ leBytes 1 x.bin ++ leBytes 1 x.calMask ++ leBytes 1 x.stretch
    ++ leBytes 1 (((x.peaks.filter (fun p => decide (s.now < p.1 + msTicks))).map Prod.snd).foldl max x.stretch) ++ leBytes 1 x.score
    ++ leBytes 1 (bit (s.inService inst) 0 + bit (recent x.softAt) 1 + bit (recent x.excAt) 2)
    ++ leBytes 1 t.am ++ leBytes 1 t.ad ++ leBytes 1 t.ag ++ leBytes 1 0
    ++ leBytes 4 x.soft ++ leBytes 4 x.exc ++ leBytes 4 (min (x.fullStretch / 64) (2 ^ 32 - 1))
    ++ leBytes 1 (if raw then x.rawM else 0) ++ leBytes 1 (if raw then x.rawD else 0)
    ++ leBytes 1 (if raw then x.rawW else 0) ++ leBytes 5 0

/-- The lowest instance that holds a maximum, with it. -/
def maxScore (l : List (Nat × Nat)) : Nat × Nat :=
  l.foldl (fun m x => if m.2 < x.2 then x else m) ((l.head?.map Prod.fst).getD 0, 0)

/-- The status registers as they stand (R472): SUMMARY, BINS, WINDOW, ALARMS. -/
def State.baroRegs (s : State) : List (BitVec 64) :=
  let s := s.decayScores
  let is := s.build.instances
  let serving := is.filter s.inService
  let stretch := (serving.map (fun i => (s.baro.sensor i).stretch)).foldl max 0
  let top := maxScore (is.map (fun i => (i, (s.baro.sensor i).score)))
  let left := match s.baro.window with | some t => (t - s.now + msTicks - 1) / msTicks | none => 0
  let sum := fun (f : Sensor → Nat) => min ((is.map (fun i => f (s.baro.sensor i))).foldl (· + ·) 0) (2 ^ 32 - 1)
  [BitVec.ofNat 64 (bit s.calIncomplete 0 + bit s.baro.window.isSome 1 + stretch * 2 ^ 8 + top.2 * 2 ^ 16
      + (if top.2 == 0 then 0 else top.1) * 2 ^ 32),
   BitVec.ofNat 64 (s.calBins + s.uncalBins * 2 ^ 16), BitVec.ofNat 64 left,
   BitVec.ofNat 64 (sum (·.soft) + sum (·.exc) * 2 ^ 32)]

/-- The status registers as software reads them: until the first refresh after a POR, their reset values (R472). -/
def State.baroShown (s : State) : List (BitVec 64) :=
  if s.baro.regs.isEmpty then [1, BitVec.ofNat 64 (8 * s.build.instances.length * 2 ^ 16), 0, 0] else s.baro.regs

/-- BAROMETER_STATUS_REFRESH (R472): each 1 µs of FREERUN. -/
def execBarometerStatusRefresh (s : State) : Host.Outcome State Fault Refusal :=
  let s1 := s.advanceTo ((s.baro.regsAt / usTicks + 1) * usTicks)
  nextIf s.clocked s { s1 with baro := { s1.baro with regs := s1.baroRegs, regsAt := s1.now } }

/-! ### Tamper inputs (R408) -/

/-- TAMPER_INPUT (R408): an input has stayed high for 4 CLK_AUX cycles. -/
def execTamperInput (input : Nat) (s : State) : Host.Outcome State Fault Refusal :=
  let n := s.power.tamperCount.findD input 0 + 1
  let s1 := { s with power := { s.power with tamperCount := s.power.tamperCount.put input n } }
  let enabled := s.otp.word 0x068 / 2 ^ input % 2 == 1
  nextIf (decide (input < 8) && s.clocked) s
    (if !enabled then s1
    else if lcsLive s.otp.lcs then s1.fatalTamper 0 (2 ^ input) false
    else s1.record 0x0D03 (baroPayload 0 0 5 (2 ^ input) 0 0 0 0 0 0))

end Sys2Proof.Machine
end

