-- ==== Sys2Proof/Machine/Delivery.lean ====
section
/-!
DEFINITION. What becomes of a verified data packet (spec/06_shuttle_delivery.md R118-R146), and the start and the end of a
pair handshake (spec/05_shuttle_security.md R104-R108).
-/
namespace Sys2Proof.Machine

/-! ### Refusals (R123, R127, R146) -/

/-- The fence that R127 gives a STORE, MSTORE, REDUCE or OPAQUE. -/
def State.requestFence (s : State) (p : RxPkt) : Nat :=
  if kindOf p.payload == kOpaque then 0 else s.destFence p.ldi (arrOf p.payload)

/-- The rows of R146 for a request that is no ATOMIC. -/
def State.refuseByKind (s : State) (p : RxPkt) (status : Nat) : State :=
  if kindOf p.payload == kLoadReq then
    s.sendNack p status (status == stStaleMap && idemOf p.payload && !reroutedOf p.payload)
  else s.post p.ldi (s.requestFence p) status .shuttle

/-- Count and record a packet that check 7 refuses (R140, R148, R415). -/
def State.dropMap (s : State) (p : RxPkt) : State := (s.dropRx 0x00E 0x050A p).bumpDom p.ldi 11

/-- Count a packet that R123 refuses or drops; a request has a record too (R148). -/
def State.dropState (s : State) (p : RxPkt) : State :=
  if isRequest p.payload then s.dropRx 0x00F 0x050B p else s.bump 0x00F

/-! ### Batten packets (R119, R149, R155, R160, R185) -/

/-- Count a data packet that is delivered (R415, R221). -/
def State.countRx (s : State) (p : RxPkt) : State :=
  (s.bumpDom p.ldi 3 p.payload.length).meter p.ldi 0 p.payload.length 0

/-- The entry that the lines of a remote request share. -/
def State.rxProto (s : State) (p : RxPkt) : BEntry :=
  { src := .port p.port p.src p.vc (aseqOf p.payload), ldi := p.ldi, gen := (s.dom p.ldi).gen, arr := arrOf p.payload }

/-- A remote REDUCE or MSTORE that the router refuses binds its status to the fence of R127. -/
def State.rxRefuse (s : State) (p : RxPkt) (status : Nat) : State := s.post p.ldi (s.requestFence p) status .batten

/-- Queue the lines of a remote request; none while they do not fit (R151). -/
def State.rxRoute (s : State) (p : RxPkt) (ws : List (Nat × Nat × BWork)) : Option State :=
  if s.routeDead ws then some (s.rxRefuse p stLaneFault)
  else if s.routeFits p.port ws then some ((s.routeAll (s.rxProto p) ws).countRx p)
  else none

/-- The request names a counter that is not allocated to its LDI (R155). -/
def State.rxBadArr (s : State) (p : RxPkt) : Bool := arrOf p.payload != 0 && !s.arrOk p.ldi (arrOf p.payload)

/-- A remote window contribution (R160). -/
def State.rxExact (s : State) (p : RxPkt) (b : RedBody) (d scales : Bytes) : Option State :=
  let log := fun (s : State) (fence : Nat) => s.badReduce b p.ldi p.src fence
  match s.window b.window with
  | some x =>
    if x.state != .open_ || x.ldi != p.ldi then some ((log s (s.dom p.ldi).errFence).post p.ldi 0 stBadParam .batten)
    else if x.opfmt != b.op + b.fmt * 16 || x.lines < b.woff + b.lines || arrOf p.payload != 0 || !b.inGroup then
      some (log (s.failWindow b.window stBadParam) x.fence)
    else s.rxRoute p (exactWork x b d scales)
  | none => some ((log s (s.dom p.ldi).errFence).post p.ldi 0 stBadParam .batten)

/-- A remote REDUCE. -/
def State.rxReduce (s : State) (p : RxPkt) : Option State :=
  let b := redBody (bytesAt p.payload 8 16)
  let d := p.payload.drop 24
  if decide (p.payload.length < 24) || !b.ok || d.length != 64 * b.lines + scaleBytes b.fmt b.lines then
    some ((s.badReduce b p.ldi p.src (s.requestFence p)).rxRefuse p stBadParam)
  else
    let scales := d.drop (64 * b.lines)
    if b.exact then s.rxExact p b d scales
    else if (s.dom p.ldi).det && b.op != 6 then
      some ((s.nondetRecord p.ldi 0 kReduce (s.requestFence p)).rxRefuse p stNondet)
    else if s.rxBadArr p then some (s.rxRefuse p stBadParam)
    else s.rxRoute p (fastWork b d scales)

/-- A remote MSTORE. -/
def State.rxMstore (s : State) (p : RxPkt) : Option State :=
  let dli := fieldAt p.payload 8 4
  let n := fieldAt p.payload 12 1
  if n == 0 || decide (63 < n) || p.payload.length != 24 + 64 * n then
    some ((s.badRequest dli dli p.ldi 0 0 p.src (s.requestFence p) false).rxRefuse p stBadParam)
  else if s.rxBadArr p then some (s.rxRefuse p stBadParam)
  else s.rxRoute p (storeWork dli n (p.payload.drop 24))

/-! ### Delivery (R120, R123, R443) -/

/-- Hand a packet to the host's fabric logic. -/
def State.toHost (s : State) (p : RxPkt) : State :=
  (s.countRx p).emit (.fpHost p.port p.vc p.ldi p.src p.rh p.payload)

/-- What the engine does with the first packet of a port and virtual channel; none while it waits for its own row or for
the router. -/
def State.deliverRx (s : State) (p : RxPkt) : Option State :=
  let d := s.dom p.ldi
  let k := kindOf p.payload
  let own := k == kAtomic || k == kNack
  if d.retiring then some s
  else if isRequest p.payload && !own && !d.mapOk p.mapgen then some ((s.dropMap p).refuseByKind p stStaleMap)
  else if d.state == .aborted then some (s.dropState p)
  else if own then none
  else if isRequest p.payload && d.state != .running then some ((s.dropState p).refuseByKind p stState)
  else if k == kReduce then s.rxReduce p
  else if k == kMstore then s.rxMstore p
  else some (s.toHost p)

/-- Count a tallied packet that has finished for the commit that waits for the tally (R144 step 1, R286). -/
def State.countDrained (s : State) (p : RxPkt) (s0 : State) : State :=
  if s0.tallied p.ldi p then
    { s with loom := { s.loom with journal := s.loom.journal.map (fun (e : JEntry) =>
      match e.cont with
      | .commitWait l n sq d => if l == p.ldi then { e with cont := .commitWait l (n + 1) sq d } else e
      | _ => e) } }
  else s

/-- Deliver what can be delivered, each port and virtual channel in order: the packets that stay. -/
def State.pumpList (s : State) (blocked : List (Nat × Nat)) : List RxPkt → State × List RxPkt
  | [] => (s, [])
  | p :: ps =>
    if blocked.contains (p.port, p.vc) then
      let t := s.pumpList blocked ps
      (t.1, p :: t.2)
    else match s.deliverRx p with
      | some s1 => (s1.countDrained p s).pumpList blocked ps
      | none =>
        let t := s.pumpList ((p.port, p.vc) :: blocked) ps
        (t.1, p :: t.2)

def State.setRxq (s : State) (q : List RxPkt) : State := { s with shuttle := { s.shuttle with rxq := q } }

/-- Deliver every waiting packet that can go. -/
def State.pump (s : State) : State :=
  let t := (s.setRxq []).pumpList [] s.shuttle.rxq
  t.1.setRxq (t.1.shuttle.rxq ++ t.2)

/-- The first waiting packet that satisfies a test and has no earlier packet of its port and virtual channel before it;
and the others. -/
def firstRx (f : RxPkt → Bool) (blocked : List (Nat × Nat)) : List RxPkt → Option (RxPkt × List RxPkt)
  | [] => none
  | p :: ps =>
    if !blocked.contains (p.port, p.vc) && f p then some (p, ps)
    else (firstRx f ((p.port, p.vc) :: blocked) ps).map (fun x => (x.1, p :: x.2))

/-- Take that packet out of the engine. -/
def State.takeRx (s : State) (f : RxPkt → Bool) : Option (RxPkt × State) :=
  (firstRx f [] s.shuttle.rxq).map (fun x => (x.1, (s.setRxq x.2).countDrained x.1 s))

/-- The domain's data packets are dropped: it retires, or is ABORTED (R123). -/
def Domain.drops (d : Domain) : Bool := d.retiring || d.state == .aborted

/-- An ATOMIC or NACK that its own row takes: dropped while its domain retires or is ABORTED (R123, R134), else handled; then
the packets behind it go, and an SA whose counter has run out ends (R198). -/
def State.onRx (s : State) (p : RxPkt) (k : State → RxPkt → State) : State :=
  let d := s.dom p.ldi
  ((if d.retiring then s else if d.state == .aborted then s.dropState p else k s p).pump).endExhausted p.src

/-! ### Handshakes (R105-R108, R193, R201) -/

/-- The device can run handshakes: its keys, identity and DRBG are there, and no halt keeps work from the public-key engine
(R430). -/
def State.canShake (s : State) : Bool :=
  !s.inHalt && s.keys.rootReady && s.keys.identity && !s.keys.zeroized && s.drbgReady && s.boot.devidSet

def State.handshake (s : State) (peer : Nat) : Option Handshake := s.shuttle.handshakes.find peer

def State.setHandshake (s : State) (peer : Nat) (h : Handshake) : State :=
  { s with shuttle := { s.shuttle with handshakes := s.shuttle.handshakes.put peer h } }

def State.dropHandshake (s : State) (peer : Nat) : State :=
  { s with shuttle := { s.shuttle with handshakes := s.shuttle.handshakes.del peer } }

/-- The entry of a peer while a handshake runs: FREE and LOST become PENDING, and FAILED when `LNK_SA_WARM` names the peer
(`own`); VALID stays. -/
def State.notePending (s : State) (peer : Nat) (own : Bool) : State :=
  let a := s.sa peer
  if a.state == .valid || (a.state == .failed && !own) then s else s.setSa peer { a with state := .pending }

def State.chainDigest (s : State) : Bytes := bvBytes 48 (Config.sha384 s.keys.chain)

/-- Start a handshake with SA_INIT (R105): nonce, ML-KEM seed and ECDH private key are three draws of the DRBG. -/
def State.startHandshake (s : State) (peer : Nat) (lazily : Bool) : State :=
  if s.canShake then
    let n := s.draw
    let s := n.2.draw.2.draw.2
    let body := bvBytes 8 s.keys.epoch ++ drawBytes n.1 32 ++ padTo 1568 (Config.mlkemPublic (drawBytes (n.1 + 1) 64))
      ++ padTo 97 (Config.p384Public (drawBytes (n.1 + 2) 56)) ++ s.chainDigest
    ((s.setHandshake peer { initiator := true, lazily := lazily, initBody := body, secret := n.1 }).notePending peer true
      ).sendHs peer 0x01 body
  else s

/-- A pair SA becomes VALID with its keys (R106, R131): fresh counters and window, SA_DONE first on the responder (`done`),
SA_UP, and POLICY to the peer for the domains whose tree neighbour it is (R36). It is an internal journal entry (R260, DEDUCED,
notes/assumptions/8.md). -/
def State.becomeValid (s : State) (peer : Nat) (keys : SaKeys) (epoch : Nat) (peerId : Bytes) (lazily : Bool)
    (done : Option Bytes) : State :=
  let a : Sa :=
    { state := .valid, keys := { keys with confirm := 0 }, peerEpoch := epoch, peerId := peerId, established := true, lazily := lazily,
      win := if done.isSome then {} else ({} : Window).confirm 0, lastRx := s.now, lastTx := s.now }
  let a := if done.isSome then a else a.noteData s.now
  let s := ((s.internalEntry.setSa peer a).dropHandshake peer).touchWindow (s.pairHome peer) (peer, 0, false)
  let s := match done with | some b => s.sendCtrl peer 0x04 b | none => s
  let s := (s.emit (.fpSaUp peer)).raise 5
  let ls := s.ldisWith (fun d => (d.state == .sealed_ || d.state.flows) && d.neighbours.vals.contains peer)
  ls.foldl (fun s l => s.sendPolicy peer l) s

end Sys2Proof.Machine
end

