-- ==== Sys2Proof/Machine/Weft.lean ====
section
/-!
DEFINITION. The commands of the Weft family (spec/03_weft_datapath.md, spec/04_weft_integrity.md,
spec/21_ports.md R437-R441), less those that abort domains, which are in Machine/Faults.lean.
-/
namespace Sys2Proof.Machine

/-! ### Requests on HP_ -/

/-- The request as the lane sees it. -/
def hpLine (r : HpReq) (op : LineOp) : LineReq :=
  { src := .host, op := op, dli := r.dli, ldi := r.ldi, ctx := r.ctx, fence := r.fence, arr := r.arr,
    annot := r.annot, tag := r.tag, data := r.data, be := if op == .full then BitVec.allOnes 64 else r.be }

def LineOp.code : LineOp → Nat
  | .read => 0
  | .full => 1
  | .masked => 2

/-- Forms that are refused on `HP_` (R437). -/
def hpBadForm (r : HpReq) (op : LineOp) : Bool :=
  decide (2 < r.op) || (op == .masked && r.be == 0) || (op == .read && r.arr != 0)

/-- A request that the lane answers without a Selvedge entry: its form, its lane (R60), or a dead lane (R91) refuses it. -/
def State.hpRefuses (s : State) (r : HpReq) (op : LineOp) : Bool :=
  hpBadForm r op || s.build.laneOf r.dli != r.lane || (s.lane r.lane).dead

/-- The lane has ready high: its ports are open, a write finds an ingress entry free, and a request that needs a Selvedge entry
finds one (R72, R73, R88). -/
def State.hpReady (s : State) (r : HpReq) (op : LineOp) : Bool :=
  s.portsUp && decide (r.lane < s.build.lanes) && !(s.lane r.lane).flushing
    && (op == .read || decide ((s.lane r.lane).reserved < 48))
    && (s.hpRefuses r op || s.selvReady (s.lane r.lane) (hpLine r op))

/-- A request that transfers on `HP_` (R437, R60, R91, R63, R64). A request of another row's OP is not this row's. DESIGN CHOICE:
of a misrouted request with a bad form, the form's refusal comes first and no MISROUTED record is written
(notes/assumptions/44.md). -/
def State.hpTake (s : State) (r : HpReq) (op : LineOp) : State :=
  let q := hpLine r op
  if !s.hpReady r op || (decide (r.op ≤ 2) && r.op != op.code) then s
  else if hpBadForm r op then s.refuseLine r.lane q stBadParam
  else if s.build.laneOf r.dli != r.lane then
    (s.weftRecord r.lane 0x0308 { q with gen := (s.dom r.ldi).gen } ((s.lane r.lane).recFlags q) (s.boundHost q)
      stBadParam).refuseLine r.lane q stBadParam
  else if (s.lane r.lane).dead then s.refuseLine r.lane q stLaneFault
  else (s.lookup r.lane q).getD s

/-- HP_READ (R65, R66). -/
def execHpRead (r : HpReq) (s : State) : Host.Outcome State Fault Refusal := .next (s.hpTake r .read)

/-- HP_FULL_WRITE (R67). -/
def execHpFullWrite (r : HpReq) (s : State) : Host.Outcome State Fault Refusal := .next (s.hpTake r .full)

/-- HP_BYTE_MASKED_WRITE (R68). -/
def execHpByteMaskedWrite (r : HpReq) (s : State) : Host.Outcome State Fault Refusal := .next (s.hpTake r .masked)

/-- GOT_FETCH_COMPLETE (R64): the entry of a granule reaches the lane. -/
def execGotFetchComplete (lane granule : Nat) (s : State) : Host.Outcome State Fault Refusal :=
  let l := s.lane lane
  nextIf (s.clocked && !l.flushing && l.misses.any (fun m => m.1 == granule)) s (s.fetchDone lane granule)

/-! ### Returns on MP_ -/

/-- Tag fields that a Selvedge line uses (R57). -/
def Build.fieldsOf (b : Build) (psel : Nat) : Nat := min 8 (b.dataLines - 8 * (psel % b.physLines - b.dataLines))

/-- Enter a line in the failing-line table, or set its LDI's overflow flag (R80). -/
def Lane.noteFailing (l : Lane) (dli ldi : Nat) : Lane :=
  if l.failing.contains (dli, ldi) then l
  else if l.failing.length < 256 then { l with failing := l.failing ++ [(dli, ldi)] }
  else if l.overflow.contains ldi then l
  else { l with overflow := l.overflow ++ [ldi] }

/-- An integrity event on its way to Loom (R77 steps 4 to 6). -/
def State.integ (s : State) (e : IntegEvent) : State :=
  { s with weft := { s.weft with integQ := s.weft.integQ ++ [e] } }

/-- A read of the scan that computes a digest (R183). -/
def State.isDigest (s : State) (jid : Nat) : Bool := s.loom.scans.any (fun x => x.jid == jid && x.kind == .digest)

/-- Record type of a failed verification (R92, R183). -/
def State.failType (s : State) (r : LineReq) (ue : Bool) : Nat :=
  if ue then 0x0306
  else match r.src with
    | .scrubCmd _ | .finger _ => 0x0303
    | .bulk j => if s.isDigest j then 0x0303 else 0x0301
    | _ => if r.op == .read then 0x0301 else 0x0302

/-- The fence that a failure of the request binds to, for its record: that of a host request, the domain error fence for a Loom
engine; none for the other sources, which bind by their own rules (R39). -/
def State.failFence (s : State) (r : LineReq) : Nat :=
  match r.src with
  | .host => s.boundHost r
  | .scrubCmd _ | .bulk _ | .finger _ => (s.dom r.ldi).errFence
  | _ => 0

/-- A request whose line fails verification (R77 steps 1 and 2, R79, R80): `ab` says that its domain is ABORTED. DESIGN CHOICE: a
byte-masked write that fails after the abort binds no status and is still an integrity event with a TAG_FAIL_PWRITE record, whose
STATUS is `ST_INTEGRITY` (notes/assumptions/44.md). -/
def State.lineFails (s : State) (n : Nat) (r : LineReq) (ue ab : Bool) : State :=
  let l := s.lane n
  let e : IntegEvent :=
    { ldi := r.ldi, gen := r.gen, recType := s.failType r ue, dli := r.dli, source := r.src.code,
      lane := n, inst := l.instance_, flags := l.recFlags r, fence := s.failFence r, ctx := r.ctx, status := stIntegrity }
  let s := match r.src with
    | .host => if ab && r.op != LineOp.read then s else s.bindLine r stIntegrity
    | .scrubCmd _ | .bulk _ | .finger _ => s.post r.ldi 0 stIntegrity .weft
    | _ => s
  let s := ((s.setLane n (l.noteFailing r.dli r.ldi)).bumpLane n 3).settle
  (s.answer n r (if ab then stAborted else stIntegrity) 0).integ e

/-- A line that verifies: the read is answered, or the merged write is accepted (R65, R68, R79). -/
def State.lineVerifies (s : State) (n : Nat) (r : LineReq) (plain : Line) (ab : Bool) : State :=
  let l := s.lane n
  let s := s.setLane n { l with failing := l.failing.filter (fun x => x.1 != r.dli) }
  if ab then s.answer n r stAborted 0
  else match r.op with
    | .read => (s.countRead n r).answer n r stOk (if r.src.isScrub then 0 else plain)
    | .full => s.acceptWrite n r r.data
    | .masked => s.acceptWrite n r (mergeLine plain r.data r.be)

/-- The ciphertext and the stored tag of a read group, or its plaintext from the ingress buffer, have come. -/
def ReadGroup.complete (g : ReadGroup) : Bool := g.plain.isSome || (g.data.isSome && g.storedTag.isSome)

/-- A host read whose answer must follow that of an earlier one of its line (R438). -/
def Lane.early (l : Lane) (g : ReadGroup) : Bool := g.req.src.isHost && (l.lastRead g.req).isSome

/-- What becomes of a complete read group (R65 D1 to D9, R66, R79, R192). -/
def State.groupResult (s : State) (n : Nat) (g : ReadGroup) : State :=
  let r := g.req
  let d := s.dom r.ldi
  let k := s.memKeys r.ldi
  let c := g.data.getD 0
  let ab := d.state == .aborted
  if r.gen != d.gen || s.keyless r.ldi then s.answer n r stAborted 0
  else if g.cancelled != 0 then s.answer n r g.cancelled 0
  else match g.plain with
    | some p => if ab then s.answer n r stAborted 0 else (s.countRead n r).answer n r stOk p
    | none =>
      if g.dramUe || lineTag k r.dli r.ldi r.gen c != g.storedTag.getD 0 then s.lineFails n r g.dramUe ab
      else s.lineVerifies n r (decryptLine k r.dli r.ldi r.gen c) ab

/-- Finish a read group whose returns are complete, in its turn among the reads of its line. -/
def State.finishGroup (s : State) (n : Nat) (g : ReadGroup) : State :=
  let l := s.lane n
  if !g.complete || l.early g then s
  else ((s.setLane n { l with reads := l.reads.filter (fun x => x.id != g.id) }).groupResult n g).payOwed n g.id

/-- Finish every complete group of a lane, in order, and let what waits go on (R69, R72). -/
def State.finishLane (s : State) (n : Nat) : State :=
  ((s.lane n).reads.foldl (fun s g => s.finishGroup n g) s).goOn n

/-- The lane after a Selvedge line has returned under a tag: the buffer is filled, and the groups that waited for the
line take their stored tags (R70). DESIGN CHOICE: a return with an uncorrectable error fills no tag field
(notes/assumptions/44.md). -/
def Lane.takeSelvedge (b : Build) (l : Lane) (tag : Nat) (data : Line) (ue : Bool) (psel : Nat) : Lane :=
  let l1 := match l.selvOf psel with
    | some e => l.selvPut { e with
        fetchPending := false
        fields := if ue then e.fields else fillFields data (b.fieldsOf psel) e.fields 0 }
    | none => l
  { l1 with reads := l1.reads.map (fun g =>
      if g.storedTag.isNone && b.psel g.req.dli == psel && (g.selTag == some tag || g.waitSel) then
        { g with
          storedTag := some (data.extractLsb' (64 * b.tagField g.req.dli) 64)
          selTag := none, waitSel := false, dramUe := g.dramUe || ue }
      else g) }

/-- MP_READ_RETURN (R65, R441): a read of the lane returns with its ECC result. -/
def execMpReadReturn (lane tag : Nat) (data : Line) (ecc : Nat) (s : State) : Host.Outcome State Fault Refusal :=
  let l := s.lane lane
  let ue := decide (2 ≤ ecc)
  let s := if ecc == 1 then { s with counters := { s.counters with corrected := s.counters.corrected + 1 } } else s
  match l.reads.find? (fun g => g.dataTag == some tag) with
  | some _ =>
    let l := { l with reads := l.reads.map (fun g =>
      if g.dataTag == some tag then { g with data := some data, dataTag := none, dramUe := g.dramUe || ue } else g) }
    nextIf (s.clocked && !l.flushing) s ((s.setLane lane l).finishLane lane)
  | none =>
    match l.reads.find? (fun g => g.selTag == some tag) with
    | some g => nextIf (s.clocked && !l.flushing) s
        ((s.setLane lane (l.takeSelvedge s.build tag data ue (s.build.psel g.req.dli))).finishLane lane)
    | none => .next s

/-! ### Write groups (R71, R73) -/

/-- The entries of a group, in line order. -/
def Lane.entriesOf (l : Lane) (ids : List Nat) : List IngressEntry :=
  ids.filterMap (fun i => l.ingress.find? (fun e => e.id == i))

/-- An uncorrectable error of an ingress entry is counted, and is an integrity event bound to the domain error fence (R85). -/
def State.entryFails (s : State) (n : Nat) (e : IngressEntry) : State :=
  let l := s.lane n
  let r := e.req
  let ev : IntegEvent :=
    { ldi := r.ldi, gen := r.gen, recType := 0x0307, dli := r.dli, source := r.src.code,
      lane := n, inst := l.instance_, flags := l.recFlags r, fence := (s.dom r.ldi).errFence, ctx := r.ctx,
      status := stIntegrity }
  ((s.bump 0x021).post r.ldi 0 stIntegrity .weft).integ ev

/-- The entries that a list names. -/
def Lane.named (l : Lane) (ids : List Nat) : List IngressEntry := l.ingress.filter (fun e => ids.contains e.id)

/-- The entries that a list names fail, and what `MP_` has not accepted of them is not issued (R85). -/
def State.badEntries (s : State) (n : Nat) (ids : List Nat) : State :=
  ((s.lane n).named ids).foldl (fun s e => (s.removeEntries n [e]).entryFails n e) s

/-- The data write of an entry. -/
def State.dataCmd (s : State) (n gid : Nat) (e : IngressEntry) (t : Nat) (last : Bool) : Output :=
  let r := e.req
  .mpCmd n 2 (s.build.pdata r.dli) gid last t (encryptLine (s.memKeys r.ldi) r.dli r.ldi r.gen r.data)
    (BitVec.allOnes 64)

/-- Data and byte enables of a Selvedge write that carries the tags of the entries (R58, R59). -/
def State.selvData (s : State) (psel : Nat) (es : List IngressEntry) : Line × BitVec 64 :=
  let b := s.build
  let put := fun (a : Line × BitVec 64) (e : IngressEntry) =>
    let tag := s.entryTag e
    let f := b.tagField e.req.dli
    ((a.1 &&& ~~~ ((0xFFFFFFFFFFFFFFFF#512) <<< (64 * f))) ||| (tag.setWidth 512 <<< (64 * f)),
      a.2 ||| (0xFF#64 <<< (8 * f)))
  let scrub := es.any (fun e => e.req.src.isScrub)
  let a := es.foldl put (0, 0)
  let tail : BitVec 64 :=
    if b.weave2k then (if b.halfLine psel && scrub then (0xFFFFFFFF#64 <<< 32) else 0)
    else (if b.lastLine psel then (0xFFFF#64 <<< 48) else 0)
  (a.1, a.2 ||| tail)

/-- The Selvedge write of a line. -/
def State.selvCmd (s : State) (n gid psel : Nat) (es : List IngressEntry) (t : Nat) (last : Bool) : Output :=
  let w := s.selvData psel es
  let op := if s.build.halfLine psel && !(es.any (fun e => e.req.src.isScrub)) then 3 else 2
  .mpCmd n op psel gid last t w.1 w.2

/-- Selvedge lines that a group makes dirty, in the order of their first write. -/
def Build.selvLines (b : Build) (es : List IngressEntry) : List Nat := (es.map (fun e => b.psel e.req.dli)).eraseDups

/-- Issue the open write group; the write queue's next row opens the following group. -/
def State.closeGroup (s : State) (n : Nat) : Option State :=
  let l := s.lane n
  match l.group with
  | none => none
  | some (_, ids) =>
    let es := l.entriesOf ids
    let b := s.build
    let ps := b.selvLines es
    match l.freeTags (es.length + ps.length) with
    | none => none
    | some tags =>
      let gid := l.nextGroup
      let dts := tags.take es.length
      let sts := tags.drop es.length
      let dcmds := List.zipWith (fun e t => s.dataCmd n gid e t false) es dts
      let onLine := fun p => es.filter (fun e => b.psel e.req.dli == p)
      let scmds := List.zipWith (fun (p : Nat) t =>
        s.selvCmd n gid p (onLine p) t (some t == sts.getLast?)) ps sts
      let w1 := List.zipWith (fun (e : IngressEntry) t => (t, WriteCmd.data e.id)) es dts
      let w2 := List.zipWith (fun (p : Nat) t =>
        (t, WriteCmd.selv p ((onLine p).map (·.id)) ((onLine p).map (fun e => b.tagField e.req.dli)).eraseDups)) ps sts
      let done := es.map (·.id)
      let l := { l with
        writes := l.writes ++ w1 ++ w2
        group := none
        nextGroup := if es.isEmpty then gid else (gid + 1) % 256
        ingress := l.ingress.map (fun e => if done.contains e.id then { e with issued := true } else e) }
      let s := ps.foldl (fun s _ => s.bumpLane n 6) (s.setLane n (s.nextWriteGroup l))
      some (s.emitAll (dcmds ++ scmds))

/-- WRITE_GROUP_CLOSE (R71, R85): `bad` names the ingress entries that the lane finds with an uncorrectable error. -/
def execWriteGroupClose (lane : Nat) (bad : List Nat) (s : State) : Host.Outcome State Fault Refusal :=
  let t := s.badEntries lane bad
  nextIf (s.clocked && !(s.lane lane).flushing) s (((t.closeGroup lane).getD t).goOn lane)

/-- The tag fields that an acknowledged Selvedge write leaves clean: those that no later accepted write has dirtied. -/
def State.cleanFields (s : State) (l : Lane) (psel : Nat) (ids slots : List Nat) : Lane :=
  let b := s.build
  let again := fun f => l.ingress.any (fun e => !ids.contains e.id && b.psel e.req.dli == psel
    && b.tagField e.req.dli == f)
  slots.foldl (fun l f => match l.selvOf psel with
    | some e => match e.fields[f]? with
      | some t => if again f then l else
          { l with selv := l.selv.map (fun x =>
              if x.psel == psel then { x with fields := x.fields.set f { t with dirty := false } } else x) }
      | none => l
    | none => l) l

/-- The lane after the acknowledgement of a write. -/
def State.ackWrite (s : State) (l : Lane) (c : WriteCmd) : Lane :=
  let l1 : Lane := match c with
    | .data id =>
      { l with ingress := l.ingress.map (fun (e : IngressEntry) =>
          if e.id == id then { e with dataWait := false } else e) }
    | .selv psel ids slots =>
      let l := s.cleanFields l psel ids slots
      { l with ingress := l.ingress.map (fun (e : IngressEntry) =>
          if ids.contains e.id then { e with selWait := false } else e) }
  { l1 with ingress := l1.ingress.filter (fun e => e.dataWait || e.selWait) }

/-- MP_WRITE_ACK (R73): an ingress entry ends with the later of its two acknowledgements. -/
def execMpWriteAck (lane tag : Nat) (s : State) : Host.Outcome State Fault Refusal :=
  let l := s.lane lane
  match l.writes.find? (fun w => w.1 == tag) with
  | some w =>
    let l := { l with writes := l.writes.filter (fun x => x.1 != tag) }
    nextIf (s.clocked && !l.flushing) s ((s.setLane lane (s.ackWrite l w.2)).goOn lane)
  | none => .next s

/-! ### The scrub engine (R40, R41, R86) -/

/-- A zero line of a granule that arrives or leaves. -/
def scrubLine (q : ScrubItem) (i : Nat) : LineReq :=
  { src := .scrub, op := .full, dli := q.granule * 1024 + i, ldi := q.ldi, data := 0, be := BitVec.allOnes 64 }

/-- The line can be accepted in this step: its lane has room, and no other request of it is in the way. -/
def State.scrubReady (s : State) (q : ScrubItem) (i : Nat) : Bool :=
  let r := scrubLine q i
  let l := s.lane (s.build.laneOf r.dli)
  s.laneRoom r.ldi r.dli true && (l.dead || !l.blocked r.dli)

/-- Write zero lines from the item's next line on, while its lanes accept them; the state and the line reached. -/
def State.scrubLines (s : State) (q : ScrubItem) : Nat → Nat → State × Nat
  | 0, i => (s, i)
  | k + 1, i => if s.scrubReady q i then (s.submitLine (scrubLine q i)).scrubLines q k (i + 1) else (s, i)

/-- What the entry becomes after the granule's last line (R40, R41). DESIGN CHOICE: CSLOT of a granule that becomes FREE is 0
(notes/assumptions/44.md). -/
def State.scrubEnd (s : State) (q : ScrubItem) : State :=
  let s := s.accrue q.ldi
  let e := s.got q.granule
  s.setGot q.granule (if q.toOwned then { e with state := .owned } else { e with state := .free, cslot := 0 })

/-- SCRUB_GRANULE_DONE (R41): the scrub engine writes the zero lines of the oldest granule of its queue; after the
last is accepted the entry becomes OWNED or FREE. Lanes that are full take their lines at a later occurrence. -/
def execScrubGranuleDone (s : State) : Host.Outcome State Fault Refusal :=
  match s.weft.scrubQ with
  | [] => .next s
  | q :: rest =>
    let t := s.scrubLines q (1024 - q.next) q.next
    let s1 := t.1
    let s2 := if t.2 < 1024 then { s1 with weft := { s1.weft with scrubQ := { q with next := t.2 } :: rest } }
      else { s1 with weft := { s1.weft with scrubQ := rest } }.scrubEnd q
    nextIf (s.clocked && !s.inHalt && !s.loom.restarting && !s.power.fatal) s s2

end Sys2Proof.Machine
end

