-- ==== Sys2Proof/Machine/Batten.lean ====
section
/-!
DEFINITION. The commands of the Batten family (spec/07_batten_reductions.md, spec/21_ports.md R445), less unit failure,
which is in Machine/Faults.lean.
-/
namespace Sys2Proof.Machine

/-! ### BA_ requests -/

/-- The `BA_` port takes requests. -/
def State.baUp (s : State) : Bool := s.portsUp

/-- Refuse a `BA_` request: its status reaches its fence and its response (R149, R185, R445). -/
def State.baRefuse (s : State) (r : BaReq) (status : Nat) : State :=
  (s.post r.ldi r.fence status .batten).settle.emit (.baRsp r.tag status 0)

/-- Beats that a REDUCE or MSTORE takes, in bytes (R445): 4 lines a beat, and one more beat for MX scales. -/
def beatBytes (fmt lines : Nat) : Nat := 256 * ((lines + 3) / 4 + (if isMx fmt then 1 else 0))

/-- The entry that a `BA_` request's lines share. -/
def State.baProto (s : State) (r : BaReq) : BEntry :=
  { src := .ba s.batten.nextReq, ldi := r.ldi, gen := (s.dom r.ldi).gen, ctx := r.ctx, fence := r.fence, arr := r.arr,
    annot := r.annot }

/-- Queue an accepted `BA_` request of `left` line completions. -/
def State.baQueue (s : State) (r : BaReq) (left : Nat) (ws : List (Nat × Nat × BWork)) : State :=
  let proto := s.baProto r
  let q : BaOpen := { tag := r.tag, ldi := r.ldi, fence := r.fence, left := left }
  let s1 := s.routeAll proto ws
  { s1 with batten := { s1.batten with reqs := s1.batten.reqs.put s.batten.nextReq q, nextReq := s.batten.nextReq + 1 } }

/-- The router's checks that follow R149, in order: domain state (R166), DET (R185), arrival counter (R155), a dead
unit (R168); the refusing state, if one refuses. -/
def State.baChecks (s : State) (r : BaReq) (nondet : Bool) (ws : List (Nat × Nat × BWork)) : Option State :=
  if !(s.dom r.ldi).state.flows then some (s.baRefuse r stState)
  else if (s.dom r.ldi).det && nondet then some ((s.nondetRecord r.ldi r.ctx 0xFF r.fence).baRefuse r stNondet)
  else if r.arr != 0 && !s.arrOk r.ldi r.arr then some (s.baRefuse r stBadParam)
  else if s.routeDead ws then some (s.baRefuse r stLaneFault)
  else none

/-- A `BA_` request whose entries are ready to queue: refused by a check, held back while they do not fit, or queued
with its response. -/
def State.baAccept (s : State) (r : BaReq) (nondet : Bool) (left : Nat) (respond : Bool)
    (ws : List (Nat × Nat × BWork)) : State :=
  match s.baChecks r nondet ws with
  | some t => t
  | none =>
    if s.routeFits 24 ws then
      let t := s.baQueue r left ws
      if respond then t.emit (.baRsp r.tag stOk 0) else t
    else s

/-- A `BA_` window contribution (R160). -/
def State.baExact (s : State) (r : BaReq) (b : RedBody) (d scales : Bytes) : State :=
  if !(s.dom r.ldi).state.flows then s.baRefuse r stState
  else
    let bad := fun (s : State) => (s.badReduce b r.ldi 0xFFFF r.fence).baRefuse r stBadParam
    match s.window b.window with
    | some x =>
      if x.state != .open_ || x.ldi != r.ldi then bad s
      else if x.opfmt != b.op + b.fmt * 16 || x.lines < b.woff + b.lines || r.arr != 0 || !b.inGroup then
        bad (s.failWindow b.window stBadParam)
      else s.baAccept r false (exactWork x b d scales).length true (exactWork x b d scales)
    | none => bad s

/-- A REDUCE on `BA_`. -/
def State.baReduceAt (s : State) (r : BaReq) : State :=
  let b := redBody (r.hdr.take 16)
  let d := r.data
  if !b.ok || d.length != beatBytes b.fmt b.lines then
    (s.badReduce b r.ldi 0xFFFF r.fence).baRefuse r stBadParam
  else
    let scales := bytesAt (d.drop (256 * ((b.lines + 3) / 4))) 0 (scaleBytes b.fmt b.lines)
    if b.exact then s.baExact r b d scales
    else
      let left := if isMx b.fmt then b.lines + 1 else b.lines
      s.baAccept r (b.op != 6) left true (fastWork b d scales)

/-- BA_REDUCE (R445, R149, R151). -/
def execBaReduce (r : BaReq) (s : State) : Host.Outcome State Fault Refusal :=
  nextIf (s.baUp && (r.kind == 0 || r.kind == 3)) s
    (if r.kind == 3 then (s.badRequest 0 0 r.ldi 0 0 0xFFFF r.fence false).baRefuse r stBadParam else s.baReduceAt r)

/-- BA_MSTORE (R445, R149). -/
def execBaMstore (r : BaReq) (s : State) : Host.Outcome State Fault Refusal :=
  let dli := fieldAt r.hdr 0 4
  let n := fieldAt r.hdr 4 1
  nextIf (s.baUp && r.kind == 1) s
    (if n == 0 || decide (63 < n) || r.data.length != beatBytes 0 n then
      (s.badRequest dli dli r.ldi 0 0 0xFFFF r.fence false).baRefuse r stBadParam
    else s.baAccept r false n true (storeWork dli n r.data))

/-- BA_ATOMIC (R445, R149): its response comes at retirement. -/
def execBaAtomic (r : BaReq) (s : State) : Host.Outcome State Fault Refusal :=
  nextIf (s.baUp && r.kind == 2) s
    (match atomicWork r.hdr with
    | none => (s.badRequest (fieldAt r.hdr 0 4) (fieldAt r.hdr 0 4) r.ldi 0 0 0xFFFF r.fence false).baRefuse r stBadParam
    | some w => s.baAccept r true 1 false [w])

/-! ### Applying entries (R151, R153, R157) -/

/-- The working line of an entry's LDI and generation. -/
def BUnit.line (b : BUnit) (e : BEntry) (dli : Nat) : Option WLine :=
  b.lines.find? (fun l => l.dli == dli && l.ldi == e.ldi && l.gen == e.gen)

def BUnit.anyLine (b : BUnit) (dli : Nat) : Option WLine := b.lines.find? (fun l => l.dli == dli)

/-- Some unretired entry concerns the line. -/
def BUnit.inProgress (b : BUnit) (dli : Nat) : Bool := b.queue.any (fun e => e.touched.contains dli)

/-- Arrival counters that a line owes. -/
def WLine.arrs (l : WLine) : List Nat := ((l.owed.map (·.arr)).filter (fun a => a != 0)).eraseDups

/-- The entry's counter would not be the line's fifth (R154). -/
def WLine.takes (l : WLine) (arr : Nat) : Bool :=
  arr == 0 || l.arrs.contains arr || decide (l.arrs.length < 4)

/-- Two entries concern one line. -/
def BEntry.meets (x e : BEntry) : Bool := x.touched.any (fun d => e.touched.contains d)

/-- Entries, in sequence order, with no earlier one on one of their lines. -/
def firstOnLine (seen : List BEntry) : List BEntry → List BEntry
  | [] => []
  | e :: es => if seen.any (fun x => x.meets e) then firstOnLine (e :: seen) es else e :: firstOnLine (e :: seen) es

/-- Entries that may be looked at: not applied, with no earlier unapplied entry on one of their lines (R151). -/
def BUnit.candidates (b : BUnit) : List BEntry := firstOnLine [] (b.queue.filter (fun e => !e.applied))

/-- Those of fast mode, MSTORE and atomics. -/
def BUnit.fastCandidates (b : BUnit) : List BEntry := b.candidates.filter (fun e => !e.isExact)

/-- The line can take the entry now: held for its LDI, not being written back, and not past four counters. -/
def BUnit.holds (b : BUnit) (e : BEntry) (dli : Nat) : Bool :=
  match b.line e dli with
  | some l => !l.writing && l.takes e.arr
  | none => false

/-- Buffer entries are free for `n` lines, or clean lines with no entry in progress can give way (R153, R154). -/
def BUnit.space (b : BUnit) (n : Nat) : Bool :=
  decide (b.lines.length + b.fills.length + n ≤ 2048 + (b.lines.filter (fun l => !l.dirty && !b.inProgress l.dli)).length)

/-- An MSTORE needs no fill: it replaces the line whole. -/
def BUnit.applicable (b : BUnit) (e : BEntry) : Bool :=
  match e.work with
  | .store _ =>
    match b.anyLine e.dli with
    | some l => if l.ldi == e.ldi && l.gen == e.gen then !l.writing && l.takes e.arr else !l.dirty
    | none => b.space 1 && !b.fills.contains e.dli
  | _ => e.touched.all (b.holds e)

/-- Lines of an entry that a fill must bring: not held, not under way, and not held dirty for another owner. -/
def BUnit.missing (b : BUnit) (e : BEntry) : List Nat :=
  match e.work with
  | .store _ => []
  | _ => e.touched.filter (fun d => !b.fills.contains d && (match b.anyLine d with
      | some l => !(l.ldi == e.ldi && l.gen == e.gen) && !l.dirty
      | none => true))

/-- New lines that an entry needs a buffer entry for. -/
def BUnit.wants (b : BUnit) (e : BEntry) : Nat :=
  match e.work with
  | .store _ => if (b.anyLine e.dli).isNone then 1 else 0
  | _ => ((b.missing e).filter (fun d => (b.anyLine d).isNone)).length

/-- Make room for one line: the least recently used clean line with no entry in progress gives way, when needed. -/
def BUnit.makeRoom (b : BUnit) : BUnit :=
  if b.lines.length + b.fills.length < 2048 then b
  else match b.lines.reverse.find? (fun l => !l.dirty && !b.inProgress l.dli) with
    | some v => { b with lines := b.lines.filter (fun l => l.dli != v.dli) }
    | none => b

/-- Write a line back into the buffer as most recently used. -/
def BUnit.putLine (b : BUnit) (l : WLine) : BUnit := { b with lines := l :: b.lines.filter (fun x => x.dli != l.dli) }

/-- Copy a changed line to the mirror in the partner (R153). -/
def BUnit.putMirror (b : BUnit) (l : WLine) : BUnit :=
  { b with mirror := ⟨l.dli, l.data, l.seq⟩ :: b.mirror.filter (fun m => m.dli != l.dli) }

/-- Change a line for an entry: dirty, at the entry's sequence number, owing what the entry waits for. -/
def State.changeLine (s : State) (u : Nat) (e : BEntry) (dli : Nat) (data : Line) (arr : Nat) (atomic : Bool) : State :=
  let b := s.unit u
  let b := match b.anyLine dli with | some _ => b | none => b.makeRoom
  let old := (b.line e dli).getD { dli := dli, ldi := e.ldi, gen := e.gen }
  let p : BPending :=
    { seq := e.seq, src := e.src, ldi := e.ldi, fence := e.fence, arr := arr, atomic := atomic, opfmt := e.opfmt }
  let l := { old with
    data := data, dirty := true, seq := e.seq, owed := old.owed ++ [p], lastAt := s.now
    dirtyAt := if old.dirty then old.dirtyAt else s.now
    atomicAt := if atomic then some (old.atomicAt.getD s.now) else old.atomicAt }
  (s.setUnit u ((b.putLine l).putMirror l)).bumpUnit u 6 1

/-- The data of a held line. -/
def BUnit.dataOf (b : BUnit) (e : BEntry) (dli : Nat) : Line := ((b.line e dli).map (·.data)).getD 0

/-- Count the lines that an entry has applied (R414, R415, R221). -/
def State.countBatten (s : State) (u k lines : Nat) (e : BEntry) (reduction : Bool) : State :=
  let s := s.bumpUnit u k lines
  let s := if reduction then (s.bumpDom e.ldi (if k == 1 then 5 else 4) lines).meter e.ldi 0 0 lines else s
  let s := if e.src.isLocal then s.annotCount e.ldi false false e.annot (64 * lines) else s
  s.segment 4 (s.unit u).instance_ e.ldi e.ctx e.annot (64 * lines)

/-- The new scale line of an MX group: the bytes of data line k replaced. -/
def putScales (scaleLine : Line) (fmt k : Nat) (new : List Nat) : Line :=
  let n := mxBlocks fmt
  lineFrom 8 ((lineElems 8 scaleLine).mapIdx (fun i x => if n * k ≤ i ∧ i < n * k + n then new.getD (i - n * k) 0 else x))

/-- Apply one MX contribution line by line; the scale line is changed with each (R158). -/
def State.applyMx (s : State) (u : Nat) (e : BEntry) (fmt gbase : Nat) (scales : Bytes) : List Line → Nat → Nat → State
  | [], _, _ => s
  | c :: cs, k, i =>
    let n := mxBlocks fmt
    let b := s.unit u
    let sl := b.dataOf e (mxScaleLine fmt gbase)
    let ts := ((lineElems 8 sl).drop (n * k)).take n
    let css := ((scales.drop (n * i)).take n).map (·.toNat)
    let r := mxLine fmt (b.dataOf e (gbase + k)) c ts css
    let s := s.changeLine u e (gbase + k) r.1 e.arr false
    let b := s.unit u
    let l := (b.line e (mxScaleLine fmt gbase)).getD {}
    let s := s.setUnit u (b.putLine { l with data := putScales sl fmt k r.2 })
    s.applyMx u e fmt gbase scales cs (k + 1) (i + 1)

/-- The operand of an atomic: `width` bytes at an offset. -/
def operandAt (l : Line) (off width : Nat) : Nat := (l >>> (8 * off)).toNat % 2 ^ (8 * width)

def putOperand (l : Line) (off width v : Nat) : Line :=
  let m : Line := BitVec.ofNat 512 (2 ^ (8 * width) - 1) <<< (8 * off)
  (l &&& ~~~m) ||| (BitVec.ofNat 512 (v % 2 ^ (8 * width)) <<< (8 * off))

/-- Apply an entry to its line or lines: the state, and the value a returning atomic gives (R157, R158). -/
def State.applyEntry (s : State) (u : Nat) (e : BEntry) : State × BitVec 64 :=
  match e.work with
  | .reduce op fmt c =>
    let s1 := s.changeLine u e e.dli (fastLine op fmt ((s.unit u).dataOf e e.dli) c) e.arr false
    (s1.countBatten u 0 1 e true, 0)
  | .mx fmt gbase first lines scales =>
    let sd := mxScaleLine fmt gbase
    let s1 := s.changeLine u e sd ((s.unit u).dataOf e sd) 0 false
    let s2 := s1.applyMx u e fmt gbase scales lines first 0
    let b := s2.unit u
    let s3 := match b.line e sd with
      | some l => s2.setUnit u (b.putMirror l)
      | none => s2
    (s3.countBatten u 0 lines.length e true, 0)
  | .store d => ((s.changeLine u e e.dli d e.arr false).countBatten u 3 1 e false, 0)
  | .atomic off aopc operand compare =>
    let w := if aopc / 4 % 2 == 1 then 8 else 4
    let l := (s.unit u).dataOf e e.dli
    let old := operandAt l off w
    let op := operand.toNat % 2 ^ (8 * w)
    let new := match aopc % 4 with
      | 0 => (old + op) % 2 ^ (8 * w)
      | 1 => if old == compare.toNat % 2 ^ (8 * w) then op else old
      | _ => op
    let s1 := s.changeLine u e e.dli (putOperand l off w new) e.arr true
    let s2 := (s1.bumpUnit u 2 1).bumpDom e.ldi 6
    let s3 := if e.src.isLocal then s2.annotCount e.ldi false false e.annot w else s2
    (s3.segment 4 (s3.unit u).instance_ e.ldi e.ctx e.annot w, BitVec.ofNat 64 old)
  | .exact _ _ _ _ _ _ => (s, 0)

/-- Set the applied mark and result of an entry. -/
def BUnit.markApplied (b : BUnit) (e : BEntry) (r : BitVec 64) : BUnit :=
  { b with queue := b.queue.map (fun x => if x.seq == e.seq then { x with applied := true, result := r } else x) }

/-- Issue the fill reads of an entry (R153). -/
def State.issueFills (s : State) (u : Nat) (e : BEntry) (ls : List Nat) : State :=
  ls.foldl (fun s d =>
    let b := (s.unit u).makeRoom
    let b := { b with lines := b.lines.filter (fun l => l.dli != d), fills := b.fills ++ [d] }
    ((s.setUnit u b).bumpUnit u 4 1).submitLine
      { src := .batten u, op := .read, dli := d, ldi := e.ldi, ctx := e.ctx, tag := b.fillEpoch }) s

/-- The unit applies the first entry whose lines it holds, or else starts the fills of the first entry that needs them. -/
def State.applyNext (s : State) (u : Nat) : State :=
  let b := s.unit u
  match b.fastCandidates.find? b.applicable with
  | some e =>
    let t := s.applyEntry u e
    t.1.setUnit u ((t.1.unit u).markApplied e t.2)
  | none =>
    match b.fastCandidates.find? (fun e =>
        !(b.missing e).isEmpty && b.space (b.wants e) && s.lanesRoom e.ldi (b.missing e) false) with
    | some e => s.issueFills u e (b.missing e)
    | none => s

/-- Work of a line that is lost to an uncorrectable error: what it owes, and the applied entries that have not retired (R166). -/
def State.failLine (s : State) (u : Nat) (l : WLine) (status : Nat) : State :=
  let hit := fun (e : BEntry) => e.applied && e.touched.contains l.dli
  let b := s.unit u
  let es := b.queue.filter hit
  let owed := l.owed.filter (fun p => !es.any (fun e => e.seq == p.seq))
  let s := s.setUnit u { b with
    queue := b.queue.filter (fun e => !hit e)
    lines := b.lines.filter (fun x => x.dli != l.dli)
    mirror := b.mirror.filter (fun m => m.dli != l.dli) }
  let s := es.foldl (fun s e => s.failEntry e status) s
  owed.foldl (fun s p => s.failOwed p status) s

/-- The entry that a record on a working line names: the last applied to it. -/
def WLine.entry (l : WLine) : BEntry := { seq := l.seq, dli := l.dli, ldi := l.ldi, gen := l.gen }

/-- ACC_UE, or WRITEBACK_REFUSED, of a dirty line: its last entry's source, operation and fence (R169). -/
def State.lineRecord (s : State) (u type : Nat) (l : WLine) (status : Nat) : State :=
  let p := l.owed.getLast?.getD {}
  let f := (match p.src with | .ba _ => p.fence | _ => if p.atomic then noFence else s.destFence p.ldi p.arr)
  let flags := if p.src.isLocal then 0 else 2
  s.record type (battenPayload l.dli l.ldi (s.unit u).instance_ u 0 p.opfmt flags p.src.devid
    (if f == noFence then 0 else s.boundFence l.ldi f) status 0 l.seq)

/-- An uncorrectable error in a working line (R166): restored from a good mirror copy and counted; with both copies of a dirty
line bad, the line is lost, with an integrity event of source SRAM_UE; a clean line is filled again. -/
def State.badLine (s : State) (u dli : Nat) (both : Bool) : State :=
  let b := s.unit u
  match b.anyLine dli with
  | none => s
  | some l =>
    let s := s.bump 0x021
    if !l.dirty then s.setUnit u { b with lines := b.lines.filter (fun x => x.dli != dli) }
    else if !both then
      match b.mirror.find? (fun m => m.dli == dli) with
      | some m =>
        s.setUnit u { b with lines := b.lines.map (fun x => if x.dli == dli then { x with data := m.data, seq := m.seq } else x) }
      | none => s
    else
      let n := s.build.laneOf dli
      let ev : IntegEvent :=
        { ldi := l.ldi, gen := l.gen, recType := 0x0307, dli := dli, source := (LineSrc.batten u).code, lane := n,
          inst := (s.lane n).instance_, fence := (s.dom l.ldi).errFence, status := stIntegrity }
      ((s.lineRecord u 0x0705 l stIntegrity).failLine u l stIntegrity).integ ev

/-- BATTEN_ENTRY_APPLY (R151, R153, R157): the router serves what it has accepted, and the unit applies an entry or starts
fills. `bad` names the working lines that the unit finds with an uncorrectable error, and whether the mirror copy is bad too. -/
def execBattenEntryApply (unit : Nat) (bad : List (Nat × Bool)) (s : State) : Host.Outcome State Fault Refusal :=
  nextIf (s.clocked && !(s.unit unit).dead) s
    ((bad.foldl (fun s x => s.badLine unit x.1 x.2) (s.serveUnit unit)).applyNext unit)

/-- Take the first answer of a lane that satisfies a test. -/
def State.takeDone (s : State) (p : LaneDone → Bool) : Option (LaneDone × State) :=
  match s.weft.done.find? p with
  | some d => some (d, { s with weft := { s.weft with done := s.weft.done.eraseP p } })
  | none => none

/-- Record type of a fill or write-back that ends with a status (R169): FILL_FAIL for a failed verification, WRITEBACK_REFUSED for a
refusal by the ownership check (R39), none for the other statuses. -/
def lossType (status : Nat) : Option Nat :=
  if [stAborted, stOwnership, stStaleGen, stGranuleGone, stState].contains status then some 0x0704
  else if status == stIntegrity then some 0x0703
  else none

/-- A fill that failed: every unapplied entry of the unit on the line ends unapplied (R166). -/
def State.failFill (s : State) (u dli ldi status : Nat) : State :=
  let b := s.unit u
  let hit := fun (e : BEntry) => !e.applied && !e.isExact && e.ldi == ldi && e.touched.contains dli
  let es := b.queue.filter hit
  let s := s.setUnit u { b with queue := b.queue.filter (fun e => !hit e) }
  es.foldl (fun s e =>
    let t := s.failEntry e status
    match lossType status with
    | some k => t.entryRecord k u e (s.entryFence e) status
    | none => t) s

/-- BATTEN_FILL_RETURN (R153, R166): a fill read returns to the unit. -/
def execBattenFillReturn (unit : Nat) (s : State) : Host.Outcome State Fault Refusal :=
  match s.takeDone (fun d => d.req.src == .batten unit && d.req.op == .read) with
  | none => .next s
  | some (d, t) =>
    let b := t.unit unit
    if !s.clocked || b.dead then .next s
    else if !b.fills.contains d.req.dli || d.req.tag != b.fillEpoch then .next t
    else
      let b1 := { b with fills := b.fills.filter (fun x => x != d.req.dli) }
      let t1 := t.setUnit unit b1
      if d.status == stOk then
        .next (t1.setUnit unit (b1.putLine
          { dli := d.req.dli, ldi := d.req.ldi, gen := d.req.gen, data := d.data }))
      else .next (t1.failFill unit d.req.dli d.req.ldi d.status).pump

/-- Retire an applied entry: a returning atomic's result is formed (R153, R134, R445). -/
def State.retireEntry (s : State) (u : Nat) (e : BEntry) : State :=
  let b := s.unit u
  let s := s.setUnit u { b with queue := b.queue.filter (fun x => x.seq != e.seq) }
  match e.work with
  | .atomic _ _ _ _ =>
    match e.src with
    | .ba q => match s.batten.reqs.find q with
      | some r => s.emit (.baRsp r.tag stOk e.result)
      | none => s
    | .port _ peer _ aseq => s.finishAtomic e.ldi peer aseq stOk true e.result
  | _ => s

/-- MIRROR_ACK (R153): the partner has the changed line, and the unit retires its oldest applied entry. -/
def execMirrorAck (unit : Nat) (s : State) : Host.Outcome State Fault Refusal :=
  match (s.unit unit).queue.find? (fun e => e.applied) with
  | some e => nextIf (s.clocked && !(s.unit unit).dead) s (s.retireEntry unit e).pump
  | none => .next s

/-! ### Write-back (R154, R155) -/

/-- The line is dirty, not under way, and every entry applied to it has retired. -/
def BUnit.canWrite (b : BUnit) (dli : Nat) : Bool :=
  match b.anyLine dli with
  | some l => l.dirty && !l.writing && !b.queue.any (fun e => e.applied && e.touched.contains dli)
  | none => false

/-- Issue the write-back of a line. -/
def State.writeBack (s : State) (u dli : Nat) : State :=
  let b := s.unit u
  match b.anyLine dli with
  | some l =>
    let b1 := { b with lines := b.lines.map (fun x => if x.dli == dli then { x with writing := true } else x) }
    ((s.setUnit u b1).bumpUnit u 5 1).submitLine
      { src := .batten u, op := .full, dli := dli, ldi := l.ldi, data := l.data, be := BitVec.allOnes 64 }
  | none => s

/-- The dirty line that gives way to a new one: the least recently used with no entry in progress (R154). -/
def BUnit.victim (b : BUnit) : Option Nat :=
  (b.lines.reverse.find? (fun l => l.dirty && !l.writing && !b.inProgress l.dli)).map (·.dli)

/-- An event of R154 other than the passing of time asks for the line: a new line needs its buffer entry, an entry names a fifth
arrival counter for it, or its domain is not RUNNING any more. -/
def State.asksFor (s : State) (b : BUnit) (l : WLine) : Bool :=
  (b.victim == some l.dli && b.fastCandidates.any (fun e => !b.space (b.wants e)))
    || b.candidates.any (fun e => e.touched.contains l.dli && !l.takes e.arr)
    || (s.dom l.ldi).state != .running

/-- FREERUN at which the first event of time comes (R154): 64 cycles without an entry, 1,024 cycles dirty, or 16 cycles after a
returning atomic; a tick is four cycles. -/
def WLine.due (l : WLine) : Nat :=
  let t := min (l.lastAt + 16) (l.dirtyAt + 256)
  match l.atomicAt with
  | some a => min t (a + 4)
  | none => t

/-- BATTEN_WRITEBACK (R154): the first of its events has come for the line. -/
def execBattenWriteback (unit dli : Nat) (s : State) : Host.Outcome State Fault Refusal :=
  let b := s.unit unit
  match b.anyLine dli with
  | none => .next s
  | some l =>
    let s1 := if s.asksFor b l then s else s.advanceTo l.due
    nextIf (s.clocked && !b.dead && b.canWrite dli && s.laneRoom l.ldi dli true) s (s1.writeBack unit dli)

/-- What an accepted write-back pays: arrival counters, the fences of `BA_` requests (R155). -/
def State.payLine (s : State) (p : BPending) : State :=
  let s := if p.arr == 0 then s else s.arrive p.arr 64
  match p.src with
  | .ba q => s.payReq q
  | .port _ _ _ _ => s

/-- A write-back accepted: the line is clean, its mirror copy is freed, and what it owes is paid. -/
def State.cleanLine (s : State) (u : Nat) (l : WLine) : State :=
  let b := s.unit u
  let clean := fun (x : WLine) =>
    if x.dli == l.dli then { x with dirty := false, writing := false, owed := [], atomicAt := none } else x
  let b1 := { b with
    lines := b.lines.map clean
    mirror := b.mirror.filter (fun m => m.dli != l.dli) }
  l.owed.foldl State.payLine (s.setUnit u b1)

/-- A write-back refused: the line is discarded and the status reaches every entry in it that has not signalled. -/
def State.loseLine (s : State) (u : Nat) (l : WLine) (status : Nat) : State :=
  (if lossType status == some 0x0704 then s.lineRecord u 0x0704 l status else s).failLine u l status

/-- BATTEN_WRITEBACK_ACCEPTED (R155, R166): Weft accepts or refuses a write-back of the line. -/
def execBattenWritebackAccepted (unit dli : Nat) (s : State) : Host.Outcome State Fault Refusal :=
  match s.takeDone (fun d => d.req.src == .batten unit && d.req.op == .full && d.req.dli == dli) with
  | none => .next s
  | some (d, t) =>
    let b := t.unit unit
    if !s.clocked || b.dead then .next s
    else match b.lines.find? (fun l => l.dli == dli && l.writing && l.ldi == d.req.ldi) with
      | some l => .next (if d.status == stOk then t.cleanLine unit l else t.loseLine unit l d.status)
      | none => .next t

/-! ### Windows (R160-R163) -/

/-- The accumulator line after one more contribution. -/
def AccLine.add (a : AccLine) (op fmt seq : Nat) (data : Line) (scales : Bytes) : AccLine :=
  let xs := exactElems fmt data (scales.map (·.toNat))
  let es := if a.elems.isEmpty then List.replicate (elemCount fmt) ({} : AccElem) else a.elems
  { a with
    applied := a.applied + 1
    lastSeq := seq
    elems := List.zipWith (accAdd op (a.applied == 0)) es xs }

/-- Write a completed window line through Weft (R162); the tag names the window and its opening. -/
def State.writeWindowLine (s : State) (win : Nat) (x : RedWindow) (dli : Nat) (data : Line) : State :=
  s.submitLine { src := .window, op := .full, dli := dli, ldi := x.ldi, tag := win + 256 * x.nth, data := data,
                 be := BitVec.allOnes 64 }

/-- The window with contributions added to its data lines from w on, and the lines that they complete, rounded (R160, R162). -/
def RedWindow.addLines (x : RedWindow) (seq : Nat) (scales : Bytes) : Nat → List Line → RedWindow × List (Nat × Line)
  | _, [] => (x, [])
  | w, d :: ds =>
    let n := mxBlocks x.fmt
    let a := (x.acc.findD w {}).add x.op x.fmt seq d (bytesAt scales 0 n)
    let done := a.applied == x.count
    let r := roundLine x.fmt a.elems
    let a := if done then { a with scales := r.2.map (BitVec.ofNat 8) } else a
    let t := RedWindow.addLines { x with acc := x.acc.put w a } seq (scales.drop n) (w + 1) ds
    (t.1, if done then (x.lineOf w, r.1) :: t.2 else t.2)

/-- Apply a contribution to an OPEN window, and write out the lines that it completes. -/
def State.contribute (s : State) (u : Nat) (e : BEntry) (win w : Nat) (lines : List Line) (scales : Bytes) (x : RedWindow) :
    State :=
  let s := s.countBatten u 1 lines.length e true
  let s := match e.src with | .ba q => s.payReq q | _ => s
  let r := x.addLines e.seq scales w lines
  r.2.foldl (fun s d => s.writeWindowLine win x d.1 d.2) (s.setWindow win r.1)

/-- A contribution that R160 or R161 refuses at the unit: nothing is applied. -/
def State.refuseContrib (s : State) (u : Nat) (e : BEntry) (excess : Bool) (win : Nat) : State :=
  let s1 := if excess then
      (s.entryRecord 0x0701 u e ((s.window win).map (·.fence) |>.getD 0) stBadParam).failWindow win stBadParam
    else s.entryRecord 0x0702 u e (if e.src.isLocal then e.fence else 0) stBadParam
  match e.src with
  | .ba q =>
    let s2 := s1.post e.ldi e.fence stBadParam .batten
    { s2 with batten := { s2.batten with reqs := s2.batten.reqs.del q } }
  | .port _ _ _ _ => if excess then s1 else s1.post e.ldi 0 stBadParam .batten

/-- APPLIED of a data line. -/
def RedWindow.applied (x : RedWindow) (w : Nat) : Nat := (x.acc.findD w {}).applied

/-- Lines, among `n` from data line w on, that one more contribution completes. -/
def RedWindow.completing (x : RedWindow) (w n : Nat) : List Nat :=
  ((List.range n).filter (fun i => x.applied (w + i) + 1 == x.count)).map (fun i => x.lineOf (w + i))

/-- An uncorrectable error in an accumulator line (R166): the window fails, and the contribution is applied to no line. -/
def State.badAccLine (s : State) (u : Nat) (e : BEntry) (win : Nat) (x : RedWindow) : State :=
  let s := (((s.bump 0x021).entryRecord 0x0705 u e x.fence stIntegrity).failWindow win stIntegrity)
  match e.src with
  | .ba q =>
    let s := s.post e.ldi e.fence stIntegrity .batten
    { s with batten := { s.batten with reqs := s.batten.reqs.del q } }
  | _ => s

/-- The unit takes a window entry that stands at the front of its lines (R160, R161). The window is the one that the request
named: one opened since under the same ID is not, and the entry then names a window that is not OPEN. -/
def State.takeContrib (s : State) (u : Nat) (e : BEntry) (bad : Bool) : State :=
  let b := s.unit u
  match e.work with
  | .exact win nth w _ lines scales =>
    let t := s.setUnit u { b with queue := b.queue.filter (fun x => x.seq != e.seq) }
    match s.window win with
    | some x =>
      if x.state != .open_ || x.ldi != e.ldi || x.nth != nth then t.refuseContrib u e false win
      else if bad then t.badAccLine u e win x
      else if (List.range lines.length).any (fun i => decide (x.count ≤ x.applied (w + i))) then t.refuseContrib u e true win
      else if !s.lanesRoom e.ldi (x.completing w lines.length) true then s
      else t.contribute u e win w lines scales x
    | none => t.refuseContrib u e false win
  | _ => s

/-- WINDOW_CONTRIBUTION (R151, R160, R161): the router serves what it has accepted, and the unit takes a window entry. `bad`: its
accumulator lines have an uncorrectable error. -/
def execWindowContribution (unit : Nat) (bad : Bool) (s : State) : Host.Outcome State Fault Refusal :=
  let t := s.serveUnit unit
  nextIf (s.clocked && !(s.unit unit).dead) s
    (match (t.unit unit).candidates.find? BEntry.isExact with
    | some e => (t.takeContrib unit e bad).pump
    | none => t)

/-- The scale line of group g of a window: byte `blocks * k + b` is the scale of block b of data line k. -/
def RedWindow.scaleData (x : RedWindow) (g : Nat) : Line :=
  let n := mxGroup x.fmt
  Sys2Proof.Machine.lineOf ((List.range n).flatMap (fun k => bytesAt (x.acc.findD (g * n + k) {}).scales 0 (mxBlocks x.fmt)))

/-- A window whose lines and scale lines are all accepted is COMPLETE, and its fence signals `ST_OK` (R162). -/
def State.tryComplete (s : State) (win : Nat) (x : RedWindow) : State :=
  if x.done == x.lines && x.scalesDone.length == x.groups then
    (s.setWindow win { x with state := .complete }).post x.ldi x.fence stOk .batten
  else s.setWindow win x

/-- The data line of a window that stands at a dli. -/
def RedWindow.indexOf (x : RedWindow) (dli : Nat) : Nat :=
  if isMx x.fmt then (dli - x.base) / (mxGroup x.fmt + 1) * mxGroup x.fmt + (dli - x.base) % (mxGroup x.fmt + 1)
  else dli - x.base

/-- The dli is a scale line of the window. -/
def RedWindow.isScale (x : RedWindow) (dli : Nat) : Bool :=
  isMx x.fmt && (dli - x.base) % (mxGroup x.fmt + 1) == mxGroup x.fmt

/-- Every data line of group g has been written. -/
def RedWindow.groupWritten (x : RedWindow) (g : Nat) : Bool :=
  (List.range (mxGroup x.fmt)).all (fun k => (x.acc.findD (g * mxGroup x.fmt + k) {}).written)

/-- Weft has accepted a data line or a scale line of an OPEN window. -/
def State.windowAccepted (s : State) (win dli : Nat) (x : RedWindow) : State :=
  if x.isScale dli then
    s.tryComplete win { x with scalesDone := x.scalesDone ++ [(dli - x.base) / (mxGroup x.fmt + 1)] }
  else
    let w := x.indexOf dli
    let x := { x with acc := x.acc.put w { x.acc.findD w {} with written := true }, done := x.done + 1 }
    let s := if x.arr == 0 then s else s.arrive x.arr 64
    let g := w / mxGroup x.fmt
    let s := s.tryComplete win x
    if isMx x.fmt && x.groupWritten g then s.writeWindowLine win x (x.scaleOf g) (x.scaleData g) else s

/-- WINDOW_LINE_ACCEPTED (R162, R165): Weft accepts or refuses a window's line. -/
def execWindowLineAccepted (dli : Nat) (s : State) : Host.Outcome State Fault Refusal :=
  match s.takeDone (fun d => d.req.src == .window && d.req.dli == dli) with
  | none => .next s
  | some (d, t) =>
    let win := d.req.tag % 256
    match s.window win with
    | some x =>
      if x.state != .open_ || x.ldi != d.req.ldi || x.nth != d.req.tag / 256 then nextIf s.clocked s t
      else if d.status != stOk then nextIf s.clocked s (t.failWindow win d.status)
      else
        let g := x.indexOf dli / mxGroup x.fmt
        let room := !isMx x.fmt || x.isScale dli || s.laneRoom x.ldi (x.scaleOf g) true
        nextIf (s.clocked && room) s (t.windowAccepted win dli x)
    | none => nextIf s.clocked s t

end Sys2Proof.Machine
end

