-- ==== Sys2Proof/Machine/Reports.lean ====
section
/-!
DEFINITION. Signatures, the report body and the pair evidence, measurement blocks, a domain's ephemeral keys, and metering
records and batches (spec/09_keys.md, spec/10_attestation.md R210-R225).
-/
namespace Sys2Proof.Machine

/-! ### Signatures and ephemeral keys (R194, R206) -/

/-- A hybrid signature, ML-DSA-87 then ECDSA P-384: its ECDSA nonce takes a draw of the DRBG. -/
def State.hybridSign (s : State) (seeds msg : Bytes) : (Bytes × Bytes) × State :=
  let n := s.draw
  ((padTo 4627 (Config.mldsaSign seeds msg), padTo 96 (Config.ecdsaSign seeds msg (drawBytes n.1 48))), n.2)

/-- The ephemeral KEM seed of an LDI, while it exists (R194, R215). -/
def State.ekemSeed (s : State) (ldi : Nat) : Option Key :=
  let k := s.keySlot (8 * ldi + 5)
  if k.type == 7 then some k.key else none

/-- GDID, LDI and GEN, as contexts of a derivation. -/
def State.domContext (s : State) (ldi : Nat) : Bytes :=
  leBytes 4 (s.dom ldi).gdid ++ leBytes 1 ldi ++ leBytes 2 (s.dom ldi).gen

def State.ekemKem (s : State) (ldi : Nat) (seed : Key) : Bytes := kdf (keyBytes seed) "CTC3-EKEM" (s.domContext ldi) 512
def State.ekemEcdh (s : State) (ldi : Nat) (seed : Key) : Bytes := kdf (keyBytes seed) "CTC3-EECDH" (s.domContext ldi) 448

/-- EKEM_PUB and EECDH_PUB of an LDI. -/
def State.ekemPublic (s : State) (ldi : Nat) : Option (Bytes × Bytes) :=
  (s.ekemSeed ldi).map (fun k =>
    (padTo 1568 (Config.mlkemPublic (s.ekemKem ldi k)), padTo 97 (Config.p384Public (s.ekemEcdh ldi k))))

/-! ### The report (R214-R217) -/

/-- The device has an identity and its keys (R193, R200, R201). -/
def State.identityUp (s : State) : Bool := s.keys.rootReady && s.keys.identity && !s.keys.zeroized

def State.dflags (s : State) : Nat :=
  bit (s.otp.svn == 128) 0 + bit s.calIncomplete 1
    + bit (!s.weft.spares.isEmpty || !s.shuttle.spares.isEmpty || s.batten.spare.isSome) 2 + bit s.entropy.failed 3

/-- The time state in which time is disciplined (R222). -/
def TimeState.disciplined : TimeState → Bool
  | .locked | .holdover | .untrusted => true
  | _ => false

/-- The disciplined time, or zero (R214, R222). -/
def State.discTime (s : State) : Time12 := if s.time.state.disciplined then s.time12 else ⟨0, 0, 0⟩

def State.chainSha (s : State) : Bytes := bvBytes 48 (Config.sha384 s.keys.chain)

/-- Bytes 0 to 255 of a report body: the pair evidence, with no domain part (R216). -/
def State.reportHead (s : State) (len : Nat) : Bytes :=
  leBytes 4 0x52435443 ++ leBytes 2 1 ++ leBytes 2 len ++ leBytes 4 s.build.version ++ leBytes 2 s.boot.devid
    ++ leBytes 2 s.dflags ++ bvBytes 8 s.keys.epoch ++ s.otp.serial ++ bvBytes 48 Config.romDigest
    ++ bvBytes 48 s.boot.fwDigest ++ bvBytes 48 s.boot.hcpDigest ++ leBytes 2 s.boot.fwSvn ++ leBytes 1 s.otp.svn
    ++ leBytes 1 s.otp.lcs ++ leBytes 4 s.otp.fuseWord ++ leBytes 8 s.debugRights ++ leBytes 4 s.build.word ++ leBytes 4 0
    ++ s.chainSha

/-- The pair evidence (R105, R216). -/
def State.evidence (s : State) : Bytes := s.reportHead 2056

/-- Insert a slice by ID, then by kind. -/
def insertSlice (x : Slice) : List Slice → List Slice
  | [] => [x]
  | y :: ys => if x.id < y.id || (x.id == y.id && x.kind ≤ y.kind) then x :: y :: ys else y :: insertSlice x ys

/-- Bindings of a domain, those of the old map included, by ID. -/
def Domain.sliceList (d : Domain) : List Slice := ((d.slices ++ d.oldSlices).eraseDups).foldr insertSlice []

/-- The domain part: offset 304 to the end. -/
def State.reportDomain (s : State) (ldi : Nat) : Bytes :=
  let d := s.dom ldi
  let ports := d.sliceList.filter (fun x => x.kind == 2)
  let slices := d.sliceList.filter (fun x => x.kind != 2)
  let pub := (s.ekemPublic ldi).getD ([], [])
  leBytes 4 d.gdid ++ leBytes 1 ldi ++ leBytes 1 d.state.code ++ leBytes 2 d.gen ++ leBytes 2 d.fdt ++ leBytes 2 d.members
    ++ leBytes 2 d.rank ++ leBytes 2 ports.length ++ bvBytes 4 d.policy ++ leBytes 4 d.mapCur
    ++ leBytes 4 (s.granulesOf ldi) ++ leBytes 2 slices.length ++ leBytes 2 0 ++ bvBytes 48 d.tkd
    ++ padTo 1568 pub.1 ++ padTo 97 pub.2 ++ leBytes 7 0
    ++ ports.flatMap (fun x => leBytes 1 x.id ++ leBytes 1 (s.portClass x.id) ++ leBytes 2 0)
    ++ slices.flatMap (fun x => leBytes 2 x.id ++ leBytes 1 x.kind ++ leBytes 1 0)

/-- The report body of one snapshot; LDI 0 asks for the device part only. -/
def State.reportBody (s : State) (nonce : Bytes) (ldi : Nat) : Bytes :=
  let has := ldi != 0
  let n := if has then (s.dom ldi).sliceList.length else 0
  let rflags := bit has 0 + bit (has && ((s.dom ldi).fineEver || decide (0 < s.profLevel ldi))) 1
    + bit (has && (s.ekemSeed ldi).isSome) 2
  s.reportHead (2056 + 4 * n) ++ timeBytes s.discTime ++ leBytes 1 s.time.state.code ++ leBytes 1 (s.profLevel ldi)
    ++ leBytes 1 rflags ++ leBytes 1 0 ++ padTo 32 nonce
    ++ (if has then s.reportDomain ldi else List.replicate 1752 0)

/-- Measurement blocks 1 to 6 (R210). -/
def State.measurement (s : State) (i : Nat) : Bytes :=
  match i with
  | 1 => bvBytes 48 Config.romDigest
  | 2 => bvBytes 48 s.boot.fwDigest
  | 3 => bvBytes 48 s.boot.hcpDigest
  | 4 => leBytes 2 s.boot.fwSvn ++ leBytes 1 s.otp.svn ++ leBytes 2 s.dflags
  | 5 => leBytes 1 s.otp.lcs ++ leBytes 4 s.otp.fuseWord
  | 6 => leBytes 8 s.debugRights
  | _ => []

/-! ### Metering (R221-R225) -/

/-- TFLAGS of a time field at its low bit: not disciplined, and in UNTRUSTED. -/
def State.timeFlags (s : State) : Nat := bit (!s.time.state.disciplined) 0 + bit (s.time.state == .untrusted) 2

/-- Records in a batch, and batches in the staging area. -/
def batchSize : Nat := 192
def batchPlaces : Nat := 8

/-- The batch that takes the next record: its number, the LEAF, and the staging area with that batch open. None when it
is full and no place is free (R225). -/
def State.openBatch (s : State) : Option (Nat × Nat × List MeterBatch) :=
  let m := s.metering
  match m.batches.getLast? with
  | some b =>
    if b.closed.isNone && b.records.length < batchSize then some (b.number, b.records.length, m.batches)
    else if m.batches.length < batchPlaces then
      some (m.nextBatch, 0, m.batches ++ [{ number := m.nextBatch, firstSeq := m.nextSeq, openedAt := s.now }])
    else none
  | none => some (m.nextBatch, 0, [{ number := m.nextBatch, firstSeq := m.nextSeq, openedAt := s.now }])

def u64 (n : Nat) : Bytes := leBytes 8 n

/-- Bytes 8 to 111 of a record from its usage: KIND 0 INTERVAL, 1 FINAL, 2 EPOCH. -/
def State.meterBytes (s : State) (kind ldi : Nat) (d : Domain) (u : Usage) : Bytes :=
  bvBytes 8 s.keys.epoch ++ leBytes 4 d.gdid ++ leBytes 1 ldi ++ leBytes 1 kind ++ leBytes 2 d.liveGen
    ++ timeBytes u.startTime ++ timeBytes s.discTime
    ++ leBytes 1 (u.startFlags + 2 * s.timeFlags + bit u.extended 4) ++ leBytes 3 0
    ++ leBytes 4 ((s.now - u.start) / msTicks) ++ u64 (u.compute / msTicks) ++ u64 (u.channel / msTicks)
    ++ u64 (u.port / msTicks) ++ u64 (u.granule / secTicks) ++ u64 u.weft ++ u64 u.shuttle ++ u64 u.reductions

/-- Put a record into the last batch. -/
def addRecord (r : Bytes) (owner : Nat × Nat) : List MeterBatch → List MeterBatch
  | [] => []
  | [b] => [{ b with records := b.records ++ [r], owners := b.owners ++ [owner] }]
  | b :: bs => b :: addRecord r owner bs

/-- The usage that a new interval begins with: what is below the unit of each field is kept. -/
def State.freshUsage (s : State) (u : Usage) : Usage :=
  { start := s.now, startTime := s.discTime, startFlags := s.timeFlags, upTo := s.now,
    compute := u.compute % msTicks, channel := u.channel % msTicks, port := u.port % msTicks,
    granule := u.granule % secTicks }

/-- Place a record with its SEQ, BATCH and LEAF; none when there is no place. -/
def State.placeRecord (s : State) (gdid ldi : Nat) (body : Bytes) : Option State :=
  s.openBatch.map (fun b =>
    let m := s.metering
    let r := u64 m.nextSeq ++ body ++ leBytes 4 b.1 ++ leBytes 2 b.2.1 ++ leBytes 10 0
    { s with metering := { m with
        batches := addRecord r (gdid, ldi) b.2.2, nextSeq := m.nextSeq + 1, nextBatch := max m.nextBatch (b.1 + 1) } })

/-- Write a record over a usage. -/
def State.putRecord (s : State) (kind ldi : Nat) (d : Domain) (u : Usage) : Option State :=
  s.placeRecord d.gdid ldi (s.meterBytes kind ldi d u)

/-- Write the LDI's record over its usage so far; with no place its interval goes on, EXTENDED. -/
def State.meterRecord (s : State) (ldi kind : Nat) : State :=
  let s := s.accrue ldi
  let d := s.dom ldi
  match s.putRecord kind ldi d d.usage with
  | some t => t.setDom ldi { d with usage := t.freshUsage d.usage }
  | none => s.setDom ldi { d with usage := { d.usage with extended := true } }

/-- The FINAL record of a domain, kept EXTENDED until a place is free when there is none (R225). -/
def State.finalRecord (s : State) (ldi : Nat) : State :=
  let s := s.accrue ldi
  let d := s.dom ldi
  match s.putRecord 1 ldi d d.usage with
  | some t => t
  | none =>
    let b := s.meterBytes 1 ldi d { d.usage with extended := true }
    { s with metering := { s.metering with held := s.metering.held ++ [(d.gdid, ldi, b)] } }

/-- Place the FINAL records that wait, while there is room. -/
def State.placeHeld (s : State) : State :=
  s.metering.held.foldl (fun s x => match s.placeRecord x.1 x.2.1 x.2.2 with
    | some t => t
    | none => { s with metering := { s.metering with held := s.metering.held ++ [x] } })
    { s with metering := { s.metering with held := [] } }

/-- The EPOCH record, the first of each reset epoch (R222). -/
def State.epochRecord (s : State) : State :=
  let u : Usage := { start := s.now, startTime := s.discTime, startFlags := s.timeFlags, upTo := s.now }
  (s.putRecord 2 0 {} u).getD s

/-- The Merkle tree of R223, level by level. -/
def merkleLeaf (r : Bytes) : Bytes := bvBytes 48 (Config.sha384 ((0 : Byte) :: r))
def merkleNode (a b : Bytes) : Bytes := bvBytes 48 (Config.sha384 ((1 : Byte) :: (a ++ b)))

def merkleUp : List Bytes → List Bytes
  | a :: b :: r => merkleNode a b :: merkleUp r
  | l => l

def merkleLevels : Nat → List Bytes → List (List Bytes)
  | 0, l => [l]
  | n + 1, l => l :: merkleLevels n (merkleUp l)

def merkleRoot (rs : List Bytes) : Bytes :=
  (((merkleLevels 8 (rs.map merkleLeaf)).getLast?.getD []).head?).getD []

/-- Siblings of leaf i, from the leaf level upward; none where a node is promoted. -/
def merklePath (rs : List Bytes) (i : Nat) : List Bytes :=
  let ls := merkleLevels 8 (rs.map merkleLeaf)
  (List.range 8).filterMap (fun k =>
    match ls[k]? with
    | some l => if l.length ≤ 1 then none else l[Nat.xor (i / 2 ^ k) 1]?
    | none => none)

def State.batchHeader (s : State) (b : MeterBatch) : Bytes :=
  leBytes 4 0x4D435443 ++ leBytes 4 b.number ++ bvBytes 8 s.keys.epoch ++ leBytes 8 b.firstSeq
    ++ leBytes 2 b.records.length ++ leBytes 2 s.boot.devid ++ leBytes 4 0 ++ timeBytes s.discTime
    ++ leBytes 1 s.time.state.code ++ leBytes 3 0 ++ merkleRoot b.records ++ leBytes 32 0

/-- Close a batch: root, header, hybrid signature with the Alias key, event METER (R223, R469). -/
def State.closeBatch (s : State) (b : MeterBatch) : State :=
  let h := s.batchHeader b
  let g := s.hybridSign s.keys.aliasSeed h
  let bs := g.2.metering.batches.map (fun (x : MeterBatch) =>
    if x.number == b.number then { x with closed := some (h, g.1.1 ++ g.1.2) } else x)
  ({ g.2 with metering := { g.2.metering with batches := bs } }).raise 10

/-- METER_INTERVAL_TIMER (R221): the LDI's next second of CLK_TIME is over; while the cores are halted the record waits (R431). -/
def execMeterIntervalTimer (ldi : Nat) (s : State) : Host.Outcome State Fault Refusal :=
  let d := s.dom ldi
  let s1 := (s.advanceTo d.meterNext).meterRecord ldi 0
  nextIf (s.clocked && !s.inHalt && d.state.live) s (s1.setDom ldi { s1.dom ldi with meterNext := d.meterNext + secTicks })

/-- METER_BATCH_CLOSE (R223): the oldest batch that is not closed holds 192 records, or 1 s has passed since its first
record; its signature takes the Alias key and the DRBG. -/
def execMeterBatchClose (s : State) : Host.Outcome State Fault Refusal :=
  match s.metering.batches.find? (fun b => b.closed.isNone) with
  | some b =>
    let s1 := if b.records.length < batchSize then s.advanceTo (b.openedAt + secTicks) else s
    nextIf (s.loomUp && !s.loom.halting && s.identityUp && s.drbgReady) s (s1.closeBatch b)
  | none => .next s

end Sys2Proof.Machine
end

