-- ==== Sys2Proof/Machine/Shuttle.lean ====
section
/-!
DEFINITION. The data commands of the Shuttle family: egress and ingress of a packet, NACKs and exactly-once atomics
(spec/05_shuttle_security.md R94-R103, R114, R487, spec/06_shuttle_delivery.md, spec/21_ports.md R442, R443).
-/
namespace Sys2Proof.Machine

/-! ### Egress (R487) -/

/-- The LDI is bound to the port, under the old map or the new. -/
def Domain.boundPort (d : Domain) (p : Nat) : Bool := (d.slices ++ d.oldSlices).any (fun x => x.kind == 2 && x.id == p)

/-- The domain's policy refuses a class (R24, R96). -/
def Domain.deniesClass (d : Domain) (cls : Nat) : Bool := (cls == 1 && d.denyAuth) || (cls == 0 && d.denyClear)

/-- Check 5: DET forbids the request (R184, R185). -/
def Domain.deniesDet (d : Domain) (payload : Bytes) : Bool :=
  let k := kindOf payload
  let b := redBody (bytesAt payload 8 16)
  d.det && (k == kAtomic || (k == kReduce && !b.exact && b.op != 6))

/-- R149 refuses the body of a REDUCE or an ATOMIC. -/
def bodyMalformed (payload : Bytes) : Bool :=
  if kindOf payload == kReduce then
    let b := redBody (bytesAt payload 8 16)
    decide (payload.length < 24) || !b.ok || (payload.drop 24).length != 64 * b.lines + scaleBytes b.fmt b.lines
  else kindOf payload == kAtomic && (atomicWork (bytesAt payload 24 24)).isNone

/-- Check 6: MAP_CUR, or MAP_CUR - 1 while OPEN is 1 (R141). -/
def Domain.egressMapOk (d : Domain) (mapgen : Nat) : Bool :=
  match d.mapOf mapgen with
  | some g => g == d.mapCur || (d.mapOpen && g == (d.mapCur : Int) - 1)
  | none => false

/-- What R487 makes of a packet: sent, returned, or refused with a status. -/
inductive Egress
  | sent
  /-- Malformed under R149 and forbidden under DET: refused with `ST_BAD_PARAM` and a BAD_REQUEST record (R185). -/
  | malformed
  | needSa
  | staleMap
  | refused (status : Nat)
  deriving DecidableEq, Repr

/-- The form of a packet is one that checks 1 and 2 pass. -/
def egressForm (p : EgressPkt) : Bool :=
  p.vc != 7 && decide (1 ≤ p.payload.length) && decide (p.payload.length ≤ 4096) && decide (p.rh.length ≤ 32)
    && decide (8 ≤ p.payload.length) && !badWord p.payload
    && (kindOf p.payload != kAtomic || (p.payload.length == 48 && !p.mcast))

/-- Check 3: the destination. A group exists once its key is there: one that still waits for it is not committed (R112). -/
def State.egressDest (s : State) (p : EgressPkt) : Bool :=
  if p.mcast then
    match s.group (groupKeyOf p.ldi p.dest) with | some g => g.keyed | none => false
  else p.dest != 0xFFFF && p.dest != s.boot.devid

/-- Check 7 for the packet's SA. -/
def State.egressSa (s : State) (p : EgressPkt) : Egress :=
  if p.mcast then
    match s.group (groupKeyOf p.ldi p.dest) with
    | some g => if g.txNext < ctrEnd then .sent else .refused stExhausted
    | none => .refused stBadParam
  else match (s.sa p.dest).state with
    | .valid => .sent
    | .failed => .refused stDenied
    | _ => .needSa

/-- The checks of R487 in their order. -/
def State.egressCheck (s : State) (p : EgressPkt) : Egress :=
  let d := s.dom p.ldi
  if !egressForm p || !s.egressDest p then .refused stBadParam
  else if !d.boundPort p.port then .refused stOwnership
  else if !d.state.flows then .refused stState
  else if d.deniesClass (s.portClass p.port) then .refused stDenied
  else if d.deniesDet p.payload then (if bodyMalformed p.payload then .malformed else .refused stNondet)
  else if !d.egressMapOk p.mapgen then .staleMap
  else match s.egressSa p with
    | .sent => if kindOf p.payload == kAtomic && !s.rcAvailable p.ldi then .refused stRetry else .sent
    | e => e

/-- Count a data packet that passes egress (R414-R416, R221, R425). -/
def State.countTx (s : State) (p : EgressPkt) : State :=
  let n := p.payload.length
  let s := ((s.bumpEngine p.port 0 n).bumpEngine p.port 2 1).bumpDom p.ldi 2 n
  ((s.meter p.ldi 0 n 0).annotCount p.ldi false false p.annot n).segment 3 (s.engine p.port).instance_ p.ldi p.ctx
    p.annot n

/-- An ATOMIC request takes its ASEQ and its PENDING entry, due 20 µs on (R133): the payload that leaves. -/
def State.stampAtomic (s : State) (p : EgressPkt) : Bytes × State :=
  let a := s.sa p.dest
  let e : RcEntry :=
    { ldi := p.ldi, peer := p.dest, aseq := a.txAseq, fence := p.fence, port := p.port, vc := p.vc,
      due := s.now + 20 * usTicks }
  let s := (s.setSa p.dest { a with
    txAseq := (a.txAseq + 1) % 2 ^ 32, atomRoute := a.atomRoute.put p.ldi (p.port, p.vc) }).rcAdd e
  (p.payload.take 8 ++ leBytes 4 a.txAseq ++ leBytes 4 (s.ackValue p.dest) ++ leBytes 2 0 ++ leBytes 1 1 ++ leBytes 5 0
    ++ p.payload.drop 24, s.noteAck p.dest)

/-- Protect a unicast packet under the pair SA and send it (R97, R98, R443). -/
def State.sendUnicast (s : State) (p : EgressPkt) : State :=
  let t := if kindOf p.payload == kAtomic then s.stampAtomic p else (p.payload, s)
  let a := t.2.sa p.dest
  match t.2.takeCtr p.dest with
  | none => t.2
  | some (c, s) =>
    let cls := s.portClass p.port
    let h : Header :=
      { src := s.boot.devid, fdt := (s.dom p.ldi).fdt, mapgen := p.mapgen, ctr := c % 65536, cls := cls }
    let b := h.bytes ++ sealPayload (s.keyAt (.tx p.dest)) (packetIv a.keys.txSalt c) cls h.bytes t.1
    (s.noteTx p.dest true).emit (.fpWire p.port p.vc p.rh b)

/-- Salt of a group packet (R113). -/
def groupSalt (salt src : Nat) : BitVec 32 := BitVec.ofNat 32 (salt % 65536 * 65536 + src % 65536)

/-- Send the domain's word to its other members before their first data packet of it (R36). -/
def State.sendPolicies (s : State) (ldi : Nat) : State :=
  (s.otherMembers ldi).foldl (fun s peer => s.sendPolicy peer ldi) s

/-- Protect a multicast packet under its group key and send it (R113). -/
def State.sendMulticast (s : State) (p : EgressPkt) : State :=
  let s := s.sendPolicies p.ldi
  match s.group (groupKeyOf p.ldi p.dest) with
  | some g =>
    let cls := s.portClass p.port
    let c := g.txNext
    let key := s.keyAt (.slot g.slot)
    let h : Header :=
      { src := s.boot.devid, fdt := (s.dom p.ldi).fdt, mapgen := p.mapgen, ctr := c % 65536, cls := cls, mcast := true }
    let b := h.bytes ++ sealPayload key (packetIv (groupSalt (s.keySlot g.slot).salt s.boot.devid) c) cls h.bytes p.payload
    ((s.setGroup (groupKeyOf p.ldi p.dest) { g with txNext := c + 1 }).homeRequest (s.groupHome p.dest s.boot.devid)).emit (.fpWire p.port p.vc p.rh b)
  | none => s

/-- A packet whose SA is not VALID returns to the host, and a handshake starts (R105). -/
def State.returnNeedSa (s : State) (p : EgressPkt) : State :=
  let st := (s.sa p.dest).state
  let s := if st == .free || st == .lost then s.startHandshake p.dest true else s
  s.emit (.fpReport p.port p.ptag 1 stOk)

/-- A packet leaves, and is counted. -/
def State.sendCounted (s : State) (p : EgressPkt) : State :=
  let s := if p.mcast then s.sendMulticast p else s.sendUnicast p
  (s.countTx p).emit (.fpReport p.port p.ptag 0 stOk)

/-- A packet passes every check: the domain's POLICY goes before it (R36). When that takes the SA's last counter the SA ends, and
the packet finds it LOST (R198). -/
def State.sendChecked (s : State) (p : EgressPkt) : State :=
  if p.mcast then s.sendCounted p
  else
    let t := s.sendPolicy p.dest p.ldi
    if t.spent p.dest then (t.endExhausted p.dest).returnNeedSa p else t.sendCounted p

/-- Refuse an egress packet: its status binds to its fence. -/
def State.refuseEgress (s : State) (p : EgressPkt) (status : Nat) : State :=
  (s.post p.ldi p.fence status .shuttle).settle.emit (.fpReport p.port p.ptag 3 status)

/-- The BAD_REQUEST record of an egress REDUCE or ATOMIC. -/
def State.egressBad (s : State) (p : EgressPkt) : State :=
  let b := redBody (bytesAt p.payload 8 16)
  if kindOf p.payload == kReduce then
    s.badRequest b.dli b.dli p.ldi (b.op + b.fmt * 16) (if b.exact then b.window else 0) 0xFFFF p.fence b.exact
  else s.badRequest (fieldAt p.payload 24 4) (fieldAt p.payload 24 4) p.ldi 0 0 0xFFFF p.fence false

/-- The single report of an egress packet, with what R487 does for it. -/
def State.egress (s : State) (p : EgressPkt) : State :=
  match s.egressCheck p with
  | .sent => s.sendChecked p
  | .needSa => s.returnNeedSa p
  | .staleMap => s.emit (.fpReport p.port p.ptag 2 stOk)
  | .malformed => (s.egressBad p).refuseEgress p stBadParam
  | .refused status =>
    (if status == stNondet then s.nondetRecord p.ldi p.ctx (kindOf p.payload) p.fence else s).refuseEgress p status

/-- FP_EGRESS_PACKET (R487, R442). -/
def execFpEgressPacket (p : EgressPkt) (s : State) : Host.Outcome State Fault Refusal :=
  nextIf (s.portsUp && s.portUp p.port) s ((s.endSpent.egress p).endSpent)

/-! ### Ingress (R114) -/

/-- Check 1: lengths, class, channel. -/
def State.ingressForm (s : State) (p : IngressPkt) (h : Header) : Bool :=
  let need := 8 + (if h.ctrl then 12 else 0) + (if h.cls != 0 && !h.hs then 12 else 0)
  decide (need ≤ p.bytes.length) && h.cls != 3 && decide (s.portClass p.port ≤ h.cls) && (h.ctrl == (p.vc == 7))
    && (!h.ctrl || h.cls == 2) && (!h.hs || h.ctrl)

/-- The LDI that holds an FDT, and is in no quarantine. -/
def State.ldiOfFdt (s : State) (fdt : Nat) : Option Nat :=
  if (s.tables.quarantine ++ s.tables.quarWait).any (fun q => q.fdt == fdt) then none
  else (s.ldisWith (fun d => d.state.live && d.fdt == fdt)).head?

/-- A drop at one of the checks. -/
def State.ingressDrop (s : State) (p : IngressPkt) (h : Header) (idx type ldi ctr : Nat) : State :=
  s.dropPacket idx type p.port h.src (if h.ctrl then 0 else h.fdt) ldi (fieldAt p.bytes 7 1)
    (s.homeFor (h.mcast && !h.ctrl) p.group h.src) ctr

/-- A failed tag: also the link integrity event of the port (R114, R469). -/
def State.dropTag (s : State) (p : IngressPkt) (h : Header) (ldi ctr : Nat) : State :=
  ((s.ingressDrop p h 0x00D 0x0501 ldi ctr).raise 1).bumpEngine p.port 5 1

/-- A verified packet of the SA has come: it counts as a keepalive (R109). -/
def State.noteRx (s : State) (peer : Nat) (data : Bool) : State :=
  let a := s.sa peer
  let a := { a with lastRx := s.now, heard := (a.heard ++ s.ldisWith (fun d => d.state.flows)).eraseDups }
  s.setSa peer (if data then a.noteData s.now else a)

/-- A whole control message has a body of its type's form (R36, R54, R112, R254, R392). -/
def ctrlForm (type : Nat) (body : Bytes) : Bool :=
  if type == 0x07 then body.length == 40
  else if type == 0x08 then body.length == 48
  else if type == 0x09 then body.length == 8
  else if type == 0x0A then body.length == 16
  else if type == 0x0B then body.length == 24
  else if type == 0x0C then body.length == 52
  else if type == 0x0D then decide (fieldAt body 0 1 < 2) && (fieldAt body 0 1 == 1 || decide (260 ≤ body.length))
  else true

/-- Add a fragment of a control message; the message when it is whole (R99). A malformed fragment or message is dropped and
counted. -/
def State.fragment (s : State) (p : IngressPkt) (peer : Nat) (part : Bytes) : State :=
  let type := fieldAt part 0 1
  let i := fieldAt part 1 1 % 16
  let n := fieldAt part 1 1 / 16 + 1
  let len := fieldAt part 2 2
  if decide (part.length < 4 + len) || decide (n ≤ i) || decide (4092 < len) then s.countDropped
  else
    let body := (part.drop 4).take len
    let old := (s.shuttle.partials.find? (fun x => x.peer == peer && x.type == type && x.count == n)).getD
      { peer := peer, type := type, count := n }
    let parts := old.parts.put i body
    let rest := s.shuttle.partials.filter (fun x => !(x.peer == peer && x.type == type))
    if parts.length == n then
      let m : CtrlMsg :=
        { peer := peer, type := type, body := parts.vals.flatten, port := p.port, at_ := s.now, time := s.time12 }
      if ctrlForm type m.body then
        { s with shuttle := { s.shuttle with partials := rest, ctrlIn := s.shuttle.ctrlIn ++ [m] } }
      else { s with shuttle := { s.shuttle with partials := rest } }.countDropped
    else { s with shuttle := { s.shuttle with partials := { old with parts := parts } :: rest } }

/-- Control message types carried under HS, and under the pair SA (R99). -/
def hsType (t : Nat) : Bool := t == 0x01 || t == 0x02 || t == 0x03 || t == 0x06
def saType (t : Nat) : Bool := t == 0x05 || (decide (0x07 ≤ t) && decide (t ≤ 0x0D))

/-- The keys of the SA that a finished SA_FIN of this initiator would open (R197): they wait for SA_DONE. -/
def pendingKeys (h : Handshake) (own peer : Nat) : Digest × SaKeys :=
  let t3 := Config.sha384 (h.initBody ++ h.respBody ++ h.finBody)
  let i := if h.initiator then own else peer
  let r := if h.initiator then peer else own
  let o := kdf h.shared "CTC3-PAIR" (bvBytes 48 t3 ++ leBytes 2 i ++ leBytes 2 r) 960
  let ir := keyOf o
  let ri := keyOf (o.drop 32)
  let sir := BitVec.ofNat 32 (fieldAt o 64 4)
  let sri := BitVec.ofNat 32 (fieldAt o 68 4)
  let conf := Config.hmac384 (bytesAt o 72 48) (bvBytes 48 t3)
  let kc := BitVec.ofNat 384 (leNat (bytesAt o 72 48))
  (conf, if h.initiator then { txKey := ir, rxKey := ri, txSalt := sir, rxSalt := sri, confirm := kc }
    else { txKey := ri, rxKey := ir, txSalt := sri, rxSalt := sir, confirm := kc })

/-- A control packet under the pending keys of a handshake, counter 0: SA_DONE (R105, R197). -/
def State.doneMsg (s : State) (h : Header) (ext aad body : Bytes) : Option Bytes :=
  match s.handshake h.src with
  | some k =>
    if k.initiator && !k.finBody.isEmpty && leNat ext == 0 then
      let keys := (pendingKeys k s.boot.devid h.src).2
      match openPayload keys.rxKey (packetIv keys.rxSalt 0) 2 aad body with
      | some part => if fieldAt part 0 1 == 0x04 then some part else none
      | none => none
    else none
  | none => none

/-- A control packet under the pair SA (checks 2, 5 and 6). -/
def State.ingressCtrl (s : State) (p : IngressPkt) (h : Header) : State :=
  let ext := bytesAt p.bytes 8 8
  let aad := p.bytes.take 16
  let body := p.bytes.drop 16
  match s.doneMsg h ext aad body with
  | some part => s.fragment p h.src part
  | none =>
    let a := s.sa h.src
    if h.src == 0xFFFF || h.src == s.boot.devid || a.state != .valid then s.ingressDrop p h 0x009 0x050F 0 0
    else
      let c := leNat ext
      let s := (s.homeRequest (s.pairHome h.src)).touchWindow (s.pairHome h.src) (h.src, 0, false)
      if !a.win.fresh c then s.ingressDrop p h 0x00C 0x0502 0 c
      else match openPayload (s.keyAt (.rx h.src)) (packetIv a.keys.rxSalt c) 2 aad body with
        | none => s.dropTag p h 0 c
        | some part =>
          let s := s.setSa h.src { a with win := a.win.confirm c }
          let s := s.noteRx h.src (fieldAt part 0 1 != 0x05)
          if saType (fieldAt part 0 1) then s.fragment p h.src part else s.countDropped

/-- A handshake packet: no SA protects it, and it passes check 2 in every state of the entry (R114). -/
def State.ingressHs (s : State) (p : IngressPkt) (h : Header) : State :=
  let part := p.bytes.drop 16
  if h.src == 0xFFFF || h.src == s.boot.devid then s.ingressDrop p h 0x009 0x050F 0 0
  else if hsType (fieldAt part 0 1) then s.fragment p h.src part
  else s.countDropped

/-- What check 5 and check 6 use of a data packet's SA: its window, key and salt. -/
structure RxSa where
  win : Window := {}
  key : Key := 0
  salt : BitVec 32 := 0

/-- Replay entries that a group takes here: one for each other sender (R112, R113). -/
def State.groupEntries (s : State) (g : Group) : Nat := (g.senders.filter (fun r => r != (s.dom g.ldi).rank)).length

/-- The SA of a data packet: the pair SA, or the group SA of its FDT and group ID with a replay entry for the sender
(R112, R113). DESIGN CHOICE: a multicast packet's SA is VALID when its FDT and group ID name a group here whose key is held and
that has, or has room for, a replay entry of the sender; a packet of an unmapped FDT therefore drops at check 2
(notes/assumptions/45.md). -/
def State.rxSa (s : State) (p : IngressPkt) (h : Header) : Option RxSa :=
  if h.src == 0xFFFF || h.src == s.boot.devid then none
  else if h.mcast then
    match (s.ldiOfFdt h.fdt).bind (fun l => s.group (groupKeyOf l p.group)) with
    | some g =>
      let known := (g.wins.find h.src).isSome
      if g.keyed && (known || decide (g.wins.length < s.groupEntries g)) then
        some { win := g.wins.findD h.src {}, key := s.keyAt (.slot g.slot),
               salt := groupSalt (s.keySlot g.slot).salt h.src }
      else none
    | none => none
  else if s.saValid h.src then
    let a := s.sa h.src
    some { win := a.win, key := s.keyAt (.rx h.src), salt := a.keys.rxSalt }
  else none

/-- The home holds the window that check 5 asks for, loading it when it does not (R103). -/
def State.holdWindow (s : State) (p : IngressPkt) (h : Header) (ldi : Nat) : State :=
  let s := s.homeRequest (if h.mcast then s.groupHome p.group h.src else s.pairHome h.src)
  if h.mcast then
    match s.group (groupKeyOf ldi p.group) with
    | some g => if (g.wins.find h.src).isSome then
        s.touchWindow (s.groupHome p.group h.src) (groupKeyOf ldi p.group, h.src, true) else s
    | none => s
  else s.touchWindow (s.pairHome h.src) (h.src, 0, false)

/-- Confirm the counter of a data packet at its home (R102, R103). A CLEAR packet, which nothing verifies, counts as carried
but not as a keepalive (R109). -/
def State.confirmRx (s : State) (p : IngressPkt) (h : Header) (ldi : Nat) (w : Window) (c : Nat) : State :=
  if h.mcast then
    match s.group (groupKeyOf ldi p.group) with
    | some g => (s.setGroup (groupKeyOf ldi p.group) { g with wins := g.wins.put h.src (w.confirm c) }).touchWindow
        (s.groupHome p.group h.src) (groupKeyOf ldi p.group, h.src, true)
    | none => s
  else
    let s := (s.setSa h.src { s.sa h.src with win := w.confirm c }).touchWindow (s.pairHome h.src) (h.src, 0, false)
    if h.cls == 0 then s.setSa h.src ((s.sa h.src).noteData s.now) else s.noteRx h.src true

/-- A data packet after its counter is confirmed: counted, its format checked (R118), and queued for delivery. -/
def State.acceptRx (s : State) (p : IngressPkt) (h : Header) (ldi c : Nat) (payload : Bytes) : State :=
  let s := ((s.bumpEngine p.port 1 payload.length).bumpEngine p.port 3 1).segment 3 (s.engine p.port).instance_ ldi 0 0
    payload.length
  let r : RxPkt :=
    { port := p.port, vc := p.vc, src := h.src, ldi := ldi, mapgen := h.mapgen, hdrFlags := fieldAt p.bytes 7 1, ctr := c,
      rh := p.rh, group := p.group, payload := payload }
  if badFormat payload || (h.mcast && kindOf payload == kAtomic) then s.dropRx 0x018 0x0510 r
  else (s.setRxq (s.shuttle.rxq ++ [r])).pump

/-- Checks 2 to 6 of a data packet. DEDUCED from R114 and R118: the counter is confirmed after check 6, and a packet that check 7
refuses later keeps it so, where step 3 of R102 releases the reservation of one that fails a later check
(notes/assumptions/45.md). -/
def State.ingressData (s : State) (p : IngressPkt) (h : Header) : State :=
  match s.rxSa p h with
  | none => s.ingressDrop p h 0x009 0x050F ((s.ldiOfFdt h.fdt).getD 0) 0
  | some a =>
    match s.ldiOfFdt h.fdt with
    | none => s.ingressDrop p h 0x00A 0x0504 0 0
    | some ldi =>
      let d := s.dom ldi
      if !d.boundPort p.port then s.ingressDrop p h 0x00A 0x0504 ldi 0
      else if d.deniesClass h.cls then s.ingressDrop p h 0x00B 0x0505 ldi 0
      else
      let s := s.holdWindow p h ldi
      match reconstruct a.win.top h.ctr with
        | none => s.ingressDrop p h 0x00C 0x0502 ldi 0
        | some c =>
          if !a.win.fresh c then s.ingressDrop p h 0x00C 0x0502 ldi c
          else match openPayload a.key (packetIv a.salt c) h.cls (p.bytes.take 8) (p.bytes.drop 8) with
            | none => s.dropTag p h ldi c
            | some payload => (s.confirmRx p h ldi a.win c).acceptRx p h ldi c payload

/-- The ingress checks. -/
def State.ingress (s : State) (p : IngressPkt) : State :=
  let h := (headerOf p.bytes).1
  if !s.ingressForm p h then s.ingressDrop p h 0x008 0x0503 (if h.ctrl then 0 else (s.ldiOfFdt h.fdt).getD 0) 0
  else if h.hs then s.ingressHs p h
  else if h.ctrl then s.ingressCtrl p h
  else s.ingressData p h

/-- FP_INGRESS_PACKET (R114). -/
def execFpIngressPacket (p : IngressPkt) (s : State) : Host.Outcome State Fault Refusal :=
  nextIf (s.portsUp && s.portUp p.port) s ((s.ingress p).endExhausted (headerOf p.bytes).1.src)

/-! ### NACKs and atomics (R128, R133-R137) -/

/-- A waiting ATOMIC packet of an AOP. -/
def isAop (aop : Nat) (p : RxPkt) : Bool := kindOf p.payload == kAtomic && aopOf p.payload == aop

/-- The NACK's TAG is checked under R46; without REROUTE its status binds to that fence; the host gets it. -/
def State.takeNack (s : State) (p : RxPkt) : State :=
  let tag := tagOf p.payload
  let st := fieldAt p.payload 8 2
  let reroute := fieldAt p.payload 11 1 % 2 == 1
  let s :=
    if !reroute then s.post p.ldi tag st .shuttle
    else if fenceIndex tag == 0 || s.fenceNamed p.ldi tag then s
    else s.badRef ⟨p.ldi, tag, st, .shuttle⟩
  s.toHost p

/-- NACK_RECEIVED (R128). -/
def execNackReceived (s : State) : Host.Outcome State Fault Refusal :=
  match s.takeRx (fun p => kindOf p.payload == kNack) with
  | some (p, t) => nextIf s.clocked s (t.onRx p State.takeNack)
  | none => .next s

/-- A refusal of an ATOMIC REQUEST that keeps no entry: its response leaves by the way the request came. -/
def State.refuseAtomic (s : State) (p : RxPkt) (status : Nat) : State :=
  let s := if status == stRetry then s.bumpDom p.ldi 12 else s
  s.sendResponse p.port p.vc p.src p.ldi (aseqOf p.payload) status 0

/-- Answer a REQUEST or a QUERY from its READY entry (R134, R136, R488). -/
def State.answerCached (s : State) (e : RcEntry) : State :=
  s.sendResponse e.port e.vc e.peer e.ldi e.aseq e.status e.result

/-- The REPLY entry of a request that is taken. -/
def replyEntry (p : RxPkt) : RcEntry :=
  { reply := true, ldi := p.ldi, peer := p.src, aseq := aseqOf p.payload, port := p.port, vc := p.vc }

/-- Batten's part of the last row of R134: refused whole, queued, or, with no room in the router, none. -/
def State.runAtomic (s : State) (p : RxPkt) : Option State :=
  let aseq := aseqOf p.payload
  let s1 := s.rcAdd (replyEntry p)
  match atomicWork (bytesAt p.payload 24 24) with
  | none =>
    some ((s1.badRequest (fieldAt p.payload 24 4) (fieldAt p.payload 24 4) p.ldi 0 0 p.src noFence false).finishAtomic p.ldi p.src aseq stBadParam false 0)
  | some w =>
    if s.rxBadArr p then some (s1.finishAtomic p.ldi p.src aseq stBadParam false 0)
    else if s.routeDead [w] then some (s1.finishAtomic p.ldi p.src aseq stLaneFault false 0)
    else if s.routeFits p.port [w] then some ((s1.routeAll (s.rxProto p) [w]).countRx p)
    else none

/-- The table of R134; none while the router has no room. -/
def State.requestTable (s : State) (p : RxPkt) : Option State :=
  let d := s.dom p.ldi
  let aseq := aseqOf p.payload
  match s.rcFind true p.src aseq with
  | some e => if e.ready then some (s.answerCached e) else some s
  | none =>
    if seriallyBelow aseq (s.sa p.src).rxAck then some s.countDropped
    else if !d.mapOk p.mapgen then some ((s.dropMap p).refuseAtomic p stStaleMap)
    else if d.state != .running then some ((s.dropState p).refuseAtomic p stState)
    else if d.det && (atomicWork (bytesAt p.payload 24 24)).isSome then
      some ((s.nondetRecord p.ldi 0 kAtomic noFence).refuseAtomic p stNondet)
    else if !s.rcAvailable p.ldi then some (s.refuseAtomic p stRetry)
    else s.runAtomic p

/-- An ATOMIC REQUEST: its ACK, then the table; none while the router has no room, and for a domain that drops it, at once. -/
def State.takeRequest (s : State) (p : RxPkt) : Option State :=
  if (s.dom p.ldi).drops then some s else (s.takeAck p.src (ackOf p.payload)).requestTable p

/-- ATOMIC_REQUEST_RECEIVED (R134). -/
def execAtomicRequestReceived (s : State) : Host.Outcome State Fault Refusal :=
  match s.takeRx (isAop 1) with
  | some (p, t) => nextIf (s.clocked && (t.takeRequest p).isSome) s (t.onRx p (fun s p => (s.takeRequest p).getD s))
  | none => .next s

/-- A RESPONSE meets its PENDING entry, or is discarded and counted (R135). -/
def State.meetEntry (s : State) (p : RxPkt) : State :=
  match s.rcFind false p.src (aseqOf p.payload) with
  | some e =>
    if e.ldi == p.ldi then
      let s := s.post e.ldi e.fence (fieldAt p.payload 16 2) .shuttle
      let s := (s.toHost p).rcDel (fun x => !x.reply && x.peer == p.src && x.aseq == e.aseq)
      (s.setSa p.src { s.sa p.src with lastAtom := some (e.ldi, e.port, e.vc) }).lagAck p.src
    else s.countDropped
  | none => s.countDropped

/-- A RESPONSE: its ACK, then its entry (R135, R137). -/
def State.takeResponse (s : State) (p : RxPkt) : State := (s.takeAck p.src (ackOf p.payload)).meetEntry p

/-- ATOMIC_RESPONSE_RECEIVED (R135). -/
def execAtomicResponseReceived (s : State) : Host.Outcome State Fault Refusal :=
  match s.takeRx (isAop 3) with
  | some (p, t) => nextIf s.clocked s (t.onRx p State.takeResponse)
  | none => .next s

/-- The answer to a QUERY (R136). With no entry and an ASEQ serially below RX_ACK, of which R136 says nothing, there is none
(DESIGN CHOICE, notes/assumptions/45.md). -/
def State.answerQuery (s : State) (p : RxPkt) : State :=
  let aseq := aseqOf p.payload
  match s.rcFind true p.src aseq with
  | some e => if e.ready then s.answerCached e else s
  | none =>
    if seriallyBelow aseq (s.sa p.src).rxAck || !s.rcAvailable p.ldi then s
    else
      let e := { replyEntry p with status := stRetry, ready := true }
      ((s.rcAdd e).bumpDom p.ldi 12).answerCached e

/-- A QUERY: its ACK, then its answer. -/
def State.takeQuery (s : State) (p : RxPkt) : State := (s.takeAck p.src (ackOf p.payload)).answerQuery p

/-- ATOMIC_QUERY_RECEIVED (R136). -/
def execAtomicQueryReceived (s : State) : Host.Outcome State Fault Refusal :=
  match s.takeRx (isAop 2) with
  | some (p, t) => nextIf s.clocked s (t.onRx p State.takeQuery)
  | none => .next s

/-- ACK_ONLY_RECEIVED (R137). -/
def execAckOnlyReceived (s : State) : Host.Outcome State Fault Refusal :=
  match s.takeRx (isAop 0) with
  | some (p, t) => nextIf s.clocked s (t.onRx p (fun s p => s.takeAck p.src (ackOf p.payload)))
  | none => .next s

/-- Send a QUERY for a PENDING entry; the next is due 20 µs later (R136). -/
def State.sendQuery (s : State) (e : RcEntry) : State :=
  let s := s.rcSet { e with due := s.now + 20 * usTicks }
  s.sendDescriptor e.port e.vc e.peer e.ldi e.aseq 0 2 []

/-- ATOMIC_DUE_EXPIRY (R136): FREERUN reaches the entry's DUE. -/
def execAtomicDueExpiry (peer aseq : Nat) (s : State) : Host.Outcome State Fault Refusal :=
  match s.rcFind false peer aseq with
  | some e => nextIf (s.portsUp && s.saValid peer) s (((s.advanceTo e.due).sendQuery e).endExhausted peer)
  | none => .next s

/-- The domain and ROUTE of an ACK_ONLY (R137). DESIGN CHOICE: where the lowest LDI has sent no atomic on the SA, no ROUTE is known
and none is sent (notes/assumptions/45.md). -/
def State.ackRoute (s : State) (peer : Nat) : Option (Nat × Nat × Nat) :=
  let a := s.sa peer
  let other := ((s.ldisWith (fun d => d.state.flows)).filter (fun l => s.exchPassed peer l)).head?
  let alt := other.bind (fun l => (a.atomRoute.find l).map (fun r => (l, r.1, r.2)))
  match a.lastAtom with
  | some x => if (s.dom x.1).state.flows then some x else alt
  | none => alt

/-- ACK_ONLY_TIMER (R137): 10 µs after the ACK value has advanced and no descriptor has carried it. -/
def execAckOnlyTimer (peer : Nat) (s : State) : Host.Outcome State Fault Refusal :=
  match (s.sa peer).ackSince, s.ackRoute peer with
  | some t, some (ldi, port, vc) =>
    let s1 := s.advanceTo (t + 10 * usTicks)
    nextIf (s.portsUp && s.saValid peer) s
      ((s1.sendDescriptor port vc peer ldi 0 0 0 []).endExhausted peer)
  | _, _ => .next s

end Sys2Proof.Machine
end

