-- ==== Sys2Proof/Machine/Links.lean ====
section
/-!
DEFINITION. Control messages between devices: pair handshakes, keepalive and loss, group keys, POLICY, RETIRED, SQUALL
(spec/05_shuttle_security.md, spec/02_domains.md R36, R54, spec/18_recovery.md R391-R393, spec/15_sharing_migration.md R339).
-/
namespace Sys2Proof.Machine

/-! ### Waiting messages (R99) -/

/-- The first control message of a peer that a test names, and the others. -/
def firstCtrl (f : CtrlMsg → Bool) : List CtrlMsg → Option (CtrlMsg × List CtrlMsg)
  | [] => none
  | m :: ms => if f m then some (m, ms) else (firstCtrl f ms).map (fun x => (x.1, m :: x.2))

/-- Take a peer's first waiting message of a type. -/
def State.takeMsg (s : State) (peer type : Nat) (f : Bytes → Bool) : Option (CtrlMsg × State) :=
  (firstCtrl (fun m => m.peer == peer && m.type == type && f m.body) s.shuttle.ctrlIn).map (fun x =>
    (x.1, { s with shuttle := { s.shuttle with ctrlIn := x.2 } }))

/-- Any body. -/
def anyBody (_ : Bytes) : Bool := true

/-- Run a message's effect on the state without it. -/
def State.onMsg (s : State) (g : Bool) (peer type : Nat) (f : Bytes → Bool) (k : State → CtrlMsg → State) :
    Host.Outcome State Fault Refusal :=
  match s.takeMsg peer type f with
  | some (m, t) => nextIf g s (k t m)
  | none => .next s

/-! ### Admission (R107) -/

/-- The DeviceID certificate: the second of the chain CA, DeviceID, Alias, Link. -/
def deviceCert (chain : Bytes) : Bytes :=
  let r := chain.drop (Config.derLength chain)
  r.take (Config.derLength r)

def peerIdOf (chain : Bytes) : Bytes := (bvBytes 48 (Config.sha384 (deviceCert chain))).take 16

/-- Rights that expose keys or SRAM (R360). -/
def exposing (rights : Nat) : Bool := rights / 16 % 8 != 0

/-- The chain of the peer, when the one held has the digest. -/
def State.heldChain (s : State) (peer : Nat) (digest : Bytes) : Option Bytes :=
  match s.shuttle.chains.find peer with
  | some c => if bvBytes 48 (Config.sha384 c) == digest then some c else none
  | none => none

/-- The first admission check that fails, or 0 (R107). `msg` is what the signatures cover. -/
def State.admission (s : State) (peer : Nat) (chain msg evidence mldsa ecdsa : Bytes) : Nat :=
  match verifiedLeaf chain with
  | none => 1
  | some leaf =>
    let a := s.sa peer
    if !Config.hybridVerify leaf msg mldsa ecdsa then 2
    else if fieldAt evidence 8 4 / 2 ^ 24 != 3 then 3
    else if s.otp.lcs == lcsMission && fieldAt evidence 187 1 != lcsMission then 4
    else if fieldAt evidence 184 2 < s.otp.minPeer then 5
    else if exposing (fieldAt evidence 192 8) then 6
    else if fieldAt evidence 12 2 != peer then 7
    else if a.established && a.peerId != peerIdOf chain then 8
    else 0

/-- The handshake ends at an admission check: an entry that is VALID stays so, any other becomes FAILED. -/
def State.failHandshake (s : State) (peer check : Nat) : State :=
  let a := s.sa peer
  let a := if a.state == .valid then { a with failReason := check }
    else { a with state := .failed, failReason := check, failedAt := s.now, established := false }
  ((s.internalEntry.setSa peer a).dropHandshake peer).saRecord (if check == 8 then 0x0508 else 0x0506) peer 0 check

/-- The new SA takes the place of the old one (R108, R393): an epoch that differs from the stored one is a reset. -/
def State.replaceSa (s : State) (peer : Nat) (keys : SaKeys) (evidence chain : Bytes) (lazily : Bool) (done : Option Bytes) :
    State :=
  let a := s.sa peer
  let epoch := fieldAt evidence 16 8
  let reset := a.established && a.peerEpoch != epoch
  let s := s.endSa peer (if reset then 0x06 else 0x05) .lost
  let s := if reset then s.saRecord 0x0509 peer 0 0 else s
  let s := s.becomeValid peer keys epoch (peerIdOf chain) lazily done
  s.setSa peer { s.sa peer with peerSvn := fieldAt evidence 184 2 }

/-! ### Handshake messages (R105, R106, R197) -/

/-- The messages of handshakes are served: a halt holds them (R430, R431). -/
def State.shakes (s : State) : Bool := s.clocked && !s.inHalt

/-- Digest of a transcript, as the signatures cover it. -/
def transcript (b : Bytes) : Bytes := bvBytes 48 (Config.sha384 b)

/-- Places in SA_INIT and SA_RESP: key or ciphertext, ECDH key, chain digest. -/
def kexKem (b : Bytes) : Bytes := bytesAt b 40 1568
def kexEcdh (b : Bytes) : Bytes := bytesAt b 1608 97
def kexDigest (b : Bytes) : Bytes := bytesAt b 1705 48

/-- Ask for the chain of a digest that is not held. -/
def State.needChain (s : State) (peer : Nat) (digest : Bytes) : State :=
  if (s.heldChain peer digest).isSome then s else s.sendHs peer 0x06 []

/-- Answer SA_INIT with SA_RESP: nonce, encapsulation randomness and ECDH key are three draws, the signature a fourth. FLAGS [1] is
set on an SA that the peer initiates (DESIGN CHOICE, notes/assumptions/45.md). -/
def State.answerInit (s : State) (peer : Nat) (init : Bytes) : State :=
  let n := s.draw
  let s := n.2.draw.2.draw.2
  let priv := drawBytes (n.1 + 2) 56
  let kem := Config.mlkemEncaps (kexKem init) (drawBytes (n.1 + 1) 32)
  let body := bvBytes 8 s.keys.epoch ++ drawBytes n.1 32 ++ padTo 1568 kem.1 ++ padTo 97 (Config.p384Public priv)
    ++ s.chainDigest ++ s.evidence
  let g := s.hybridSign s.keys.linkSeed (transcript (init ++ body))
  let resp := body ++ g.1.1 ++ g.1.2
  let h : Handshake :=
    { initiator := false, lazily := true, initBody := init, respBody := resp, secret := n.1,
      shared := padTo 32 kem.2 ++ padTo 48 (Config.p384Shared priv (kexEcdh init)) }
  (((g.2.setHandshake peer h).notePending peer false).sendHs peer 0x02 resp).needChain peer (kexDigest init)

/-- The device's own SA_INIT prevails: it is the lower DEVID and has no answer yet (R106). -/
def State.ownPrevails (s : State) (peer : Nat) : Bool :=
  match s.handshake peer with
  | some h => h.initiator && h.respBody.isEmpty && decide (s.boot.devid < peer)
  | none => false

/-- SA_INIT (R106, R193, R201): not answered while the device cannot run handshakes. -/
def execSaInit (peer : Nat) (s : State) : Host.Outcome State Fault Refusal :=
  s.onMsg s.shakes peer 0x01 anyBody (fun s m =>
    if !s.canShake || m.body.length != 1753 || !Config.p384Valid (kexEcdh m.body)
      || s.ownPrevails peer then s
    else s.answerInit peer m.body)

/-- The initiator verifies SA_RESP and sends SA_FIN. -/
def State.verifyResp (s : State) (peer : Nat) (h : Handshake) (chain : Bytes) : State :=
  let r := h.respBody
  let ev := bytesAt r 1753 256
  let c := s.admission peer chain (transcript (h.initBody ++ r.take 2009)) ev (bytesAt r 2009 4627) (bytesAt r 6636 96)
  if c != 0 then s.failHandshake peer c
  else
    let ssk := Config.mlkemDecaps (drawBytes (h.secret + 1) 64) (kexKem r)
    let sse := Config.p384Shared (drawBytes (h.secret + 2) 56) (kexEcdh r)
    let own := s.evidence
    let g := s.hybridSign s.keys.linkSeed (transcript (h.initBody ++ r ++ own))
    let fin := own ++ g.1.1 ++ g.1.2
    (g.2.setHandshake peer { h with finBody := fin, shared := padTo 32 ssk ++ padTo 48 sse, waitChain := false }).sendHs
      peer 0x03 fin

/-- The responder verifies SA_FIN, sends SA_DONE under the new SA and is VALID. -/
def State.verifyFin (s : State) (peer : Nat) (h : Handshake) (chain : Bytes) : State :=
  let f := h.finBody
  let ev := f.take 256
  let c := s.admission peer chain (transcript (h.initBody ++ h.respBody ++ ev)) ev (bytesAt f 256 4627) (bytesAt f 4883 96)
  if c != 0 then s.failHandshake peer c
  else
    let k := pendingKeys h s.boot.devid peer
    s.replaceSa peer k.2 ev chain h.lazily (some (bvBytes 48 k.1))

/-- Verify at once, or wait for the chain. -/
def State.whenChain (s : State) (peer : Nat) (h : Handshake) (digest : Bytes) (k : State → Bytes → State) : State :=
  match s.heldChain peer digest with
  | some c => k s c
  | none => (s.setHandshake peer { h with waitChain := true }).sendHs peer 0x06 []

/-- SA_RESP (R105). -/
def execSaResp (peer : Nat) (s : State) : Host.Outcome State Fault Refusal :=
  s.onMsg s.shakes peer 0x02 anyBody (fun s m =>
    match s.handshake peer with
    | some h =>
      if !s.canShake || !h.initiator || !h.respBody.isEmpty || m.body.length != 6732
        || !Config.p384Valid (kexEcdh m.body) then s
      else
        let h := { h with respBody := m.body }
        s.whenChain peer h (kexDigest m.body) (fun s c => s.verifyResp peer h c)
    | none => s)

/-- SA_FIN (R107). -/
def execSaFin (peer : Nat) (s : State) : Host.Outcome State Fault Refusal :=
  s.onMsg s.shakes peer 0x03 anyBody (fun s m =>
    match s.handshake peer with
    | some h =>
      if !s.canShake || h.initiator || !h.finBody.isEmpty || m.body.length != 4979 then s
      else
        let h := { h with finBody := m.body }
        s.whenChain peer h (kexDigest h.initBody) (fun s c => s.verifyFin peer h c)
    | none => s)

/-- SA_DONE (R197): the initiator compares the confirmation. -/
def execSaDone (peer : Nat) (s : State) : Host.Outcome State Fault Refusal :=
  s.onMsg s.shakes peer 0x04 anyBody (fun s m =>
    match s.handshake peer with
    | some h =>
      if !h.initiator || h.finBody.isEmpty then s
      else
        let k := pendingKeys h s.boot.devid peer
        if m.body != bvBytes 48 k.1 then s.failHandshake peer 2
        else match s.heldChain peer (kexDigest h.respBody) with
          | some c => s.replaceSa peer k.2 (bytesAt h.respBody 1753 256) c h.lazily none
          | none => s
    | none => s)

/-- CHAIN_GET (R105, R201): a message of type 6 without a body. -/
def execChainGet (peer : Nat) (s : State) : Host.Outcome State Fault Refusal :=
  s.onMsg s.shakes peer 0x06 List.isEmpty (fun s _ => if s.canShake then s.sendHs peer 0x06 s.keys.chain else s)

/-- CHAIN (R105): held when its digest is the one asked for; a step that waited goes on. -/
def execChain (peer : Nat) (s : State) : Host.Outcome State Fault Refusal :=
  s.onMsg s.shakes peer 0x06 (fun b => !b.isEmpty) (fun s m =>
    match s.handshake peer with
    | some h =>
      if bvBytes 48 (Config.sha384 m.body) != kexDigest (if h.initiator then h.respBody else h.initBody) then s
      else
        let s := { s with shuttle := { s.shuttle with chains := s.shuttle.chains.put peer m.body } }
        if !h.waitChain then s
        else if h.initiator then s.verifyResp peer h m.body
        else s.verifyFin peer h m.body
    | none => s)

/-! ### Keepalive and loss (R104, R109, R110) -/

/-- Domains that run here and have the peer as a tree neighbour. -/
def State.treeDomains (s : State) (peer : Nat) : List Nat :=
  s.ldisWith (fun d => d.state.flows && d.neighbours.vals.contains peer)

/-- Traffic within the last 100 µs, or an atomic that the peer has not acknowledged. -/
def State.busySa (s : State) (peer : Nat) : Bool :=
  (s.sa peer).traffic s.now || s.shuttle.rcache.any (fun e => !e.reply && e.peer == peer)

/-- The SA sends keepalives: live-monitored, or a tree SA that has not heard the peer yet. -/
def State.keepsAlive (s : State) (peer : Nat) : Bool := !(s.treeDomains peer).isEmpty || s.busySa peer

/-- A tree SA on which the peer has been heard since the domain runs here. -/
def State.treeHeard (s : State) (peer : Nat) : Bool := (s.treeDomains peer).any (fun l => (s.sa peer).heard.contains l)

/-- Live-monitored (R109). -/
def State.liveMonitored (s : State) (peer : Nat) : Bool := s.treeHeard peer || s.busySa peer

/-- From when the 30 µs of R110 count: the latest verified packet, but not before the monitoring began. -/
def State.quietSince (s : State) (peer : Nat) : Nat :=
  let a := s.sa peer
  if s.treeHeard peer then a.lastRx else max a.lastRx a.dataSince

/-- KEEPALIVE (R109): its packet has been noted when it verified; the message asks for nothing more. -/
def execKeepalive (peer : Nat) (s : State) : Host.Outcome State Fault Refusal :=
  s.onMsg s.clocked peer 0x05 anyBody (fun s _ => s)

/-- KEEPALIVE_TIMER (R109): no packet sent on the SA for 10 µs. -/
def execKeepaliveTimer (peer : Nat) (s : State) : Host.Outcome State Fault Refusal :=
  let s1 := s.advanceTo ((s.sa peer).lastTx + 10 * usTicks)
  nextIf (s.portsUp && s.saValid peer && s1.keepsAlive peer) s
    (((s1.sendCtrl peer 0x05 []).bumpEngine (s1.pairHome peer) 4 1).endExhausted peer)

/-- SA_LOSS_TIMEOUT (R110): no verified packet for 30 µs on a live-monitored SA; an SA whose counter a control message has
run out ends by this row too (R198). -/
def execSaLossTimeout (peer : Nat) (s : State) : Host.Outcome State Fault Refusal :=
  let s1 := if s.spent peer then s else s.advanceTo (s.quietSince peer + 30 * usTicks)
  nextIf (s.clocked && !s.power.fatal && s.saValid peer && (s.spent peer || s1.liveMonitored peer)) s (s1.loseSa peer)

/-- SA_FAILED_EXPIRY (R104): 1 s in FAILED; while a handshake of the peer runs, the entry is PENDING then. -/
def execSaFailedExpiry (peer : Nat) (s : State) : Host.Outcome State Fault Refusal :=
  let a := s.sa peer
  let s1 := s.advanceTo (a.failedAt + secTicks)
  nextIf (s.clocked && a.state == .failed) s
    (s1.internalEntry.setSa peer { a with state := if (s.handshake peer).isSome then .pending else .free })

/-! ### Group keys (R112) -/

/-- GROUP_KEY body: GDID, group ID, salt, key (DESIGN CHOICE, notes/assumptions/15.md). -/
def groupKeyBody (gdid gid salt : Nat) (key : Key) : Bytes := leBytes 4 gdid ++ leBytes 2 gid ++ leBytes 2 salt ++ keyBytes key

/-- The pool slot of a group that waits for its key. -/
def State.groupSlot (s : State) (ldi gid : Nat) : Option Nat :=
  s.loom.journal.findSome? (fun (e : JEntry) => match e.cont with
    | .groupCreate l g slot _ _ => if l == ldi && g == gid then some slot else none
    | _ => none)

/-- Install a group key that a peer sent. -/
def State.installGroupKey (s : State) (ldi gid : Nat) (g : Group) (key : Key) (salt : Nat) : State :=
  let s := s.internalEntry.setGroup (groupKeyOf ldi gid) { g with keyed := true }
  s.setSlot g.slot { s.keySlot g.slot with key := key, salt := salt }

/-- GROUP_KEY (R112): installed where the local create waits for it, else held for 1 s. -/
def execGroupKey (peer : Nat) (s : State) : Host.Outcome State Fault Refusal :=
  s.onMsg s.clocked peer 0x07 (fun b => b.length == 40) (fun s m =>
    let gdid := fieldAt m.body 0 4
    let gid := fieldAt m.body 4 2
    let key := keyOf (m.body.drop 8)
    let salt := fieldAt m.body 6 2
    let held : HeldGroupKey := { peer := peer, gdid := gdid, gid := gid, key := key, salt := salt, expires := s.now + secTicks }
    match (s.ldiOfGdid gdid).bind (fun l => (s.group (groupKeyOf l gid)).map (fun g => (l, g))) with
    | some (l, g) => if !g.keyed && (s.groupSlot l gid).isSome then s.installGroupKey l gid g key salt else s
    | none => { s with shuttle := { s.shuttle with groupHold := s.shuttle.groupHold ++ [held] } })

/-- GROUP_KEY_HOLD_EXPIRY (R112): the oldest held key is discarded. -/
def execGroupKeyHoldExpiry (s : State) : Host.Outcome State Fault Refusal :=
  match s.shuttle.groupHold with
  | [] => .next s
  | g :: gs =>
    let s1 := s.advanceTo g.expires
    nextIf s.clocked s { s1 with shuttle := { s1.shuttle with groupHold := gs } }

/-! ### POLICY (R36, R339) -/

/-- A domain's word has come from a peer: answer with the own word, and abort when they differ. -/
def State.takePolicy (s : State) (peer ldi : Nat) (word : BitVec 32) : State :=
  let d := s.dom ldi
  let a := s.sa peer
  let x := s.exch peer d.gdid
  let s := (s.internalEntry.setSa peer { a with policy := a.policy.put d.gdid { x with got := some word } }).sendPolicy peer ldi
  if word == d.policy then s else s.abort ldi 0x07 true

/-- KMIG of a migration from `src` to `dst` (R339); `fwd` is the key of that direction. -/
def kmig (fwd back : Key) (gdid src dst : Nat) (ns nd : Bytes) : Key :=
  keyOf (kdf (keyBytes fwd ++ keyBytes back) "CTC3-MIG"
    (leBytes 4 gdid ++ leBytes 2 src ++ leBytes 2 dst ++ padTo 32 ns ++ padTo 32 nd) 256)

/-- The destination's answer to a POLICY with MIG (R339 step 3): with its own policy word for the GDID, or zero where it
holds no domain of it. -/
def State.takeMigPolicy (s : State) (peer gdid : Nat) (word : BitVec 32) (ns : Bytes) : State :=
  let refuse := fun (own : BitVec 32) => s.sendCtrl peer 0x08 (policyBody gdid own 1 [])
  match s.ldiOfGdid gdid with
  | none => refuse 0
  | some l =>
    let d := s.dom l
    match s.freePoolSlot l with
    | none => refuse d.policy
    | some i =>
      if d.state == .building && d.policy == word && d.mig.isNone && s.drbgReady then
        let n := s.draw
        let nd := drawBytes n.1 32
        let k := (n.2.sa peer).keys
        let key := kmig k.rxKey k.txKey gdid peer s.boot.devid ns nd
        let s := n.2.setSlot i { type := 11, ldi := l, gen := d.gen, key := key }
        let s := s.internalEntry.setDom l { s.dom l with mig := some { source := false, peer := peer, slot := i } }
        s.sendCtrl peer 0x08 (policyBody gdid d.policy 3 nd)
      else refuse d.policy

/-- The freeze that waits for D's answer: journal entry, its LDI, slot and nonce. -/
def JEntry.asksPeer (e : JEntry) (peer : Nat) : Option (Nat × Nat × BitVec 256) :=
  match e.wait, e.cont with
  | .policy _, .freezePolicy l dest slot _ n => if dest == peer then some (l, slot, n) else none
  | _, _ => none

/-- Let a journal entry run on. -/
def State.wake (s : State) (jid : Nat) : State :=
  { s with loom := { s.loom with journal := s.loom.journal.map (fun (e : JEntry) =>
    if e.jid == jid then { e with wait := .ready } else e) } }

/-- D's answer reaches the source (R339 steps 3 and 4). -/
def State.takeMigAnswer (s : State) (peer gdid : Nat) (accept : Bool) (nd : Bytes) : State :=
  match s.loom.journal.find? (fun e => match e.asksPeer peer with
      | some x => (s.dom x.1).gdid == gdid | none => false) with
  | none => s
  | some e => match e.asksPeer peer with
    | none => s
    | some (l, slot, n) =>
      if accept then
        let k := (s.sa peer).keys
        let key := kmig k.txKey k.rxKey gdid s.boot.devid peer (bvBytes 32 n) nd
        let s := s.setSlot slot { type := 11, ldi := l, gen := (s.dom l).gen, key := key }
        (s.setDom l { s.dom l with mig := some { source := true, peer := peer, slot := slot } }).wake e.jid
      else s.wake e.jid

/-- A freeze of this GDID waits for an answer of the peer. -/
def State.awaitsAnswer (s : State) (peer gdid : Nat) : Bool :=
  s.loom.journal.any (fun e => match e.asksPeer peer with | some x => (s.dom x.1).gdid == gdid | none => false)

/-- POLICY (R36, R339). -/
def execPolicy (peer : Nat) (s : State) : Host.Outcome State Fault Refusal :=
  s.onMsg s.clocked peer 0x08 (fun b => b.length == 48) (fun s m =>
    let gdid := fieldAt m.body 0 4
    let word := BitVec.ofNat 32 (fieldAt m.body 4 4)
    let flags := fieldAt m.body 8 1
    let nonce := bytesAt m.body 16 32
    if flags % 2 == 1 then
      if flags / 2 % 2 == 1 || s.awaitsAnswer peer gdid then s.takeMigAnswer peer gdid (flags / 2 % 2 == 1) nonce
      else (s.takeMigPolicy peer gdid word nonce).endExhausted peer
    else match s.ldiOfGdid gdid with
      | some l => if (s.dom l).state.abortable then (s.takePolicy peer l word).endExhausted peer else s.countDropped
      | none => s.countDropped)

/-! ### RETIRED and the FDT quarantine (R54) -/

def retiredBody (gdid fdt : Nat) : Bytes := leBytes 4 gdid ++ leBytes 2 fdt ++ leBytes 2 0

/-- One peer has reported RETIRED for the GDID of a quarantined FDT. -/
def Quarantined.report (q : Quarantined) (gdid peer now : Nat) : Quarantined :=
  if q.gdid == gdid && q.peers.contains peer then
    { q with peers := q.peers.filter (fun p => p != peer), since := max q.since now } else q

/-- A GDID that names a domain here, or a quarantined or waiting FDT (R54). -/
def State.knowsGdid (s : State) (gdid : Nat) : Bool :=
  (s.ldiOfGdid gdid).isSome || (s.tables.quarantine ++ s.tables.quarWait).any (fun q => q.gdid == gdid)

/-- RETIRED (R54): it changes only the quarantine, or what the quarantine of a domain that is still held will wait for; one
that matches neither is counted and dropped. -/
def execRetired (peer : Nat) (s : State) : Host.Outcome State Fault Refusal :=
  s.onMsg s.clocked peer 0x09 (fun b => b.length == 8) (fun s m =>
    let gdid := fieldAt m.body 0 4
    if !s.knowsGdid gdid then s.countDropped
    else
    let s := s.internalEntry
    let a := s.sa peer
    let s := match a.policy.find gdid with
      | some x => s.setSa peer { a with policy := a.policy.put gdid { x with retired := true } }
      | none => s
    { s with tables := { s.tables with
      quarantine := s.tables.quarantine.map (fun q => q.report gdid peer s.now)
      quarWait := s.tables.quarWait.map (fun q => q.report gdid peer s.now) } })

/-- Places of the quarantine. -/
def quarantinePlaces : Nat := 1024

/-- The FDT that has waited longest enters a free place; its 10 ms start no earlier than this. -/
def State.admitQuarantine (s : State) : State :=
  match s.tables.quarWait with
  | [] => s
  | q :: qs =>
    if s.tables.quarantine.length < quarantinePlaces then
      { s with tables := { s.tables with
        quarantine := s.tables.quarantine ++ [{ q with since := max q.since s.now }], quarWait := qs } }
    else s

/-- FDT_QUARANTINE_EXPIRY (R54). -/
def execFdtQuarantineExpiry (fdt : Nat) (s : State) : Host.Outcome State Fault Refusal :=
  match s.tables.quarantine.find? (fun q => q.fdt == fdt) with
  | some q =>
    let s1 := s.advanceTo (q.since + 10 * msTicks)
    let s2 := { s1 with tables := { s1.tables with quarantine := s1.tables.quarantine.filter (fun x => x.fdt != fdt) } }
    nextIf (s.clocked && q.peers.isEmpty) s s2.internalEntry.admitQuarantine
  | none => .next s

/-! ### SQUALL (R392) -/

/-- Forward a Squall to every tree neighbour but the one it came from. -/
def State.forwardSquall (s : State) (peer ldi : Nat) (b : Bytes) : State :=
  let out := b.take 9 ++ leBytes 1 (fieldAt b 9 1 + 1) ++ leBytes 6 0
  ((s.treePeers ldi).filter (fun p => p != peer)).foldl (fun s p => s.sendCtrl p 0x0A out) s

/-- The first Squall for a domain instance. -/
def State.takeSquall (s : State) (peer ldi : Nat) (b : Bytes) : State :=
  let cause := if fieldAt b 8 1 == 0x06 then 0x06 else 0x04
  let retiring := (s.dom ldi).retiring
  let s := (s.setDom ldi { s.dom ldi with squalled := true }).forwardSquall peer ldi b
  let s := s.squallRecord ldi cause (fieldAt b 6 2) (fieldAt b 4 2) (fieldAt b 8 1) false
  if retiring then s else s.abort ldi cause false

/-- SQUALL (R392): one for an unknown, ended or already aborted domain, a later one, and one of a peer that the domain has not
admitted are dropped and counted. -/
def execSquall (peer : Nat) (s : State) : Host.Outcome State Fault Refusal :=
  s.onMsg s.clocked peer 0x0A (fun b => b.length == 16) (fun s m =>
    match s.ldiOfGdid (fieldAt m.body 0 4) with
    | some l =>
      let d := s.dom l
      if s.exchPassed peer l && !d.squalled && d.state.abortable then (s.takeSquall peer l m.body).endSpent else s.countDropped
    | none => s.countDropped)

end Sys2Proof.Machine
end

