-- ==== Sys2Proof/Machine/Faults.lean ====
section
/-!
DEFINITION. Faults inside the block: integrity events, failovers and dead instances, the watchdog, lockstep, store errors,
crossings, the error log, and requests for a reset (spec/04_weft_integrity.md R77, R88-R91, spec/07_batten_reductions.md
R167, R168, spec/17_clocks_reset_power.md R367-R372, spec/18_recovery.md).
-/
namespace Sys2Proof.Machine

/-! ### Requests for a reset (R369, R371, R372) -/

def ResetLevel.rank : ResetLevel → Nat
  | .core => 0
  | .system => 1
  | .por => 2

/-- The level that is pending or held, if any. -/
def ResetPhase.level : ResetPhase → Option ResetLevel
  | .idle => none
  | .held l _ _ _ _ | .due l _ _ _ _ | .latched l _ => some l
  | .por => some .por

/-- The level that is pending, held or in progress: a SYSTEM or POR reset goes on until the boot ROM starts. -/
def State.resetLevel (s : State) : Option ResetLevel :=
  match s.power.phase.level with
  | some l => some l
  | none => if s.boot.phase == .rom then some (if s.power.cause == 1 then .por else .system) else none

def State.setPhase (s : State) (p : ResetPhase) : State := { s with power := { s.power with phase := p } }

/-- A CORE restart begins with the holds of R372, and lasts until its recovery has ended (R375, R385). -/
def State.enterRestart (s : State) (level : ResetLevel) : State :=
  if level == .core then { s with loom := { s.loom with restarting := true } } else s

/-- The reset takes effect next. -/
def State.assertReset (s : State) (level : ResetLevel) (cause : Nat) (pended otpHeld squallHeld : Bool) : State :=
  s.setPhase (.due level cause pended otpHeld squallHeld)

/-- The Squall sender's work before a reset: for SYSTEM, every domain that can abort and has tree peers. None for CORE: an abort
sends its Squall in the step that journals it, so no journaled abort has a Squall that has not left. -/
def State.squallBefore (s : State) (level : ResetLevel) : List (Nat × Nat) :=
  if level == .system then
    ((s.ldisWith (fun d => d.state.abortable && !d.squalled)).filter (fun l => !(s.treePeers l).isEmpty)).map (fun l => (l, 0x06))
  else []

/-- The request is taken up: its holds begin. -/
def State.beginReset (s : State) (level : ResetLevel) (cause : Nat) (pended : Bool) : State :=
  let ls := s.squallBefore level
  let s1 := ({ s with power := { s.power with heldAt := s.now, squalls := ls } } : State).enterRestart level
  let otp := s.otp.busy.isSome
  if otp || !ls.isEmpty then s1.setPhase (.held level cause pended otp (!ls.isEmpty))
  else s1.assertReset level cause pended false false

/-- The first `left` Squalls of the hold have left; the others are dropped. -/
def State.endHold (s : State) (left : Nat) : State :=
  let t := ((s.power.squalls.take left).foldl (fun s x => s.sendSquall x.1 x.2) s).endSpent
  { t with power := { t.power with squalls := [] } }

/-- A request for a reset: absorbed while one of its level or above is pending, held or in progress. -/
def State.requestReset (s : State) (level : ResetLevel) (cause : Nat) : State :=
  let higher := match s.resetLevel with
    | none => true
    | some l => decide (l.rank < level.rank)
  if !higher then s
  else if s.power.rootValid then s.beginReset level cause false
  else s.setPhase (.latched level cause)

/-! ### Integrity events (R77 steps 4 to 6) -/

/-- Steps 4 to 6 for one event: a domain that has gone meanwhile leaves only the record. One whose retirement runs still counts
and raises its event (R33). -/
def State.integStep (s : State) (e : IntegEvent) : State :=
  let s := s.settle
  let pay := weftPayload e.dli e.ldi e.source e.gen e.lane e.inst e.flags e.fence e.ctx e.status
  let s := s.laneLog e.lane e.recType e.ldi pay
  let d := s.dom e.ldi
  if d.liveGen == e.gen && d.state.live then
    let s := (s.raiseInteg e.ldi).bumpDom e.ldi 8
    if d.integReport then s else (s.abort e.ldi 0x03 true).endSpent
  else s

/-- Integrity events that stand come before what follows: a command's reply (R87), or the end of a domain (R33). -/
def State.drainInteg (s : State) : State :=
  s.weft.integQ.foldl State.integStep { s with weft := { s.weft with integQ := [] } }

/-- DOMAIN_INTEGRITY_EVENT (R77). -/
def execDomainIntegrityEvent (s : State) : Host.Outcome State Fault Refusal :=
  match s.weft.integQ with
  | [] => .next s
  | e :: es => nextIf s.loomUp s ({ s with weft := { s.weft with integQ := es } }.integStep e)

/-! ### Weft lanes (R88-R91) -/

/-- The record of a failover or a death of a lane. DESIGN CHOICE: INSTANCE is the instance that then serves the lane number, the
spare's after a failover, and SOURCE is 4 (notes/assumptions/44.md). -/
def State.laneRecord (s : State) (n type : Nat) : State :=
  (s.record type (weftPayload 0 0 4 0 n (s.lane n).instance_ 0 0 0 0 0)).raise 8

/-- A line of the granule is on lane n. -/
def Build.granuleOn (b : Build) (g n : Nat) : Bool :=
  let first := b.gRow (1024 * g)
  let last := b.gRow (1024 * g + 1023)
  (List.range (last - first + 1)).any (fun i => (first + i) % b.lanes == n)

/-- Domains that own a granule with a line on lane n. -/
def State.ownersOn (s : State) (n : Nat) : List Nat :=
  s.ldisWith (fun d => d.state.abortable) |>.filter (fun l => s.tables.got.any (fun x =>
    x.2.ldi == l && x.2.gen == (s.dom l).gen && x.2.state != .free && s.build.granuleOn x.1 n))

/-- Abort domains with cause 0x08; an SA whose last counter a Squall takes ends (R198). -/
def State.abortAll (s : State) (ls : List Nat) : State := (ls.foldl (fun s l => s.abort l 0x08 true) s).endSpent

/-- Bind the status of an accepted write that is lost: a source inside the block has had its answer, so the domain error fence
takes it (R50, R91). -/
def State.bindLost (s : State) (r : LineReq) (status : Nat) : State :=
  if r.src.isHost then s.bindLine r status else s.post r.ldi 0 status .weft

/-- The lane dies: everything that it holds fails with `ST_LANE_FAULT` on its fence (R91). -/
def State.killLane (s : State) (n : Nat) : State :=
  let l := s.lane n
  let waiting := l.reads.map (·.req) ++ l.misses.flatMap Prod.snd ++ l.held
  let s := s.setLane n { instance_ := l.instance_, dead := true }
  let s := waiting.foldl (fun s r => s.refuseLine n r stLaneFault) s
  let s := (l.owed.map Prod.snd).foldl State.emit s
  let s := l.ingress.foldl (fun s e => s.bindLost e.req stLaneFault) s
  (s.settle.laneRecord n 0x030A).abortAll (s.ownersOn n)

/-- The ingress entries as the spare reissues them: full-line writes of the domains that still hold their generation. -/
def State.carryIngress (s : State) (l : Lane) : List IngressEntry :=
  (l.ingress.filter (fun e => e.req.gen == (s.dom e.req.ldi).gen && !s.keyless e.req.ldi)).map (fun e =>
    { e with issued := false, dataWait := true, selWait := true })

/-- Put the tag of a reissued entry into the spare's Selvedge buffer. -/
def State.carryTag (s : State) (l : Lane) (e : IngressEntry) : Lane :=
  let b := s.build
  let r := e.req
  ((s.selvAlloc l r.ldi (b.psel r.dli)).getD l).setTag (b.psel r.dli) (b.tagField r.dli)
    { tag := s.entryTag e, valid := true, dirty := true }

/-- A byte-masked write that the spare runs again from its C2 and that the ownership check now refuses. -/
def State.refusedAgain (s : State) (g : ReadGroup) : Bool :=
  let r := { g.req with gen := (s.dom g.req.ldi).gen }
  r.op != .read && (s.dom r.ldi).state != .aborted && s.gotCheck r != stOk

/-- Take one read group that the ownership check now refuses from the spare. -/
def State.checkAgain (s : State) (n : Nat) (g : ReadGroup) : State :=
  if s.refusedAgain g then
    let l := s.lane n
    let s1 := s.setLane n { l with reads := l.reads.filter (fun x => x.id != g.id) }
    (s1.refuseLine n g.req (s.gotCheck { g.req with gen := (s.dom g.req.ldi).gen })).payOwed n g.id
  else s

/-- A read group as the spare begins it anew; one that waits with its plaintext stays. -/
def ReadGroup.anew (g : ReadGroup) : ReadGroup :=
  if g.plain.isSome then g else { g with issued := false, dataTag := none, selTag := none, waitSel := false, data := none, storedTag := none, dramUe := false }

/-- The spare reissues the entries that it holds, group by group (R90): the reads of their lines come after. -/
def State.reissue (s : State) (n : Nat) : State :=
  (s.lane n).ingress.foldl (fun s _ => (s.closeGroup n).getD s) s

/-- Steps 4 to 7 of R88 on the covering spare, and the commit of the failover's journal entry. -/
def State.spareLane (s : State) (n k : Nat) : State :=
  let l := s.lane n
  let ing := s.carryIngress l
  let reads := l.reads.map (·.anew)
  let fresh : Lane :=
    { l with instance_ := 0x80 + k, flushing := false, got := [], reads := reads, ingress := ing, group := none,
             writeQ := ing.map (·.id), writes := [], selv := [] }
  let fresh := ing.foldl (fun x e => s.carryTag x e) fresh
  let s1 := s.setLane n (s.nextWriteGroup fresh)
  let s1 := { s1 with weft := { s1.weft with spares := s1.weft.spares.put k n } }
  let s2 := reads.foldl (fun s g => s.checkAgain n g) (s1.reissue n)
  (((s2.commitIntent n).bump 0x022).laneRecord n 0x0309).goOn n

/-- A lane is declared failed: its ports close and a flush is requested, under a journal entry, or, with its spare in use, it
dies (R88, R91). -/
def State.failLane (s : State) (n : Nat) : State :=
  let l := s.lane n
  if l.dead || l.flushing || decide (s.build.lanes ≤ n) then s
  else
  let s := s.failureEndsHalt
  if (s.weft.spares.find (n / 32)).isSome then s.killLane n
  else (s.openIntent n).setLane n { s.lane n with flushing := true }

/-- LANE_FAILED (R88). -/
def execLaneFailed (lane : Nat) (s : State) : Host.Outcome State Fault Refusal :=
  nextIf s.clocked s (s.failLane lane)

/-- MP_FLUSH_ACK (R89, R91): `bad` names the ingress entries in which step 4 meets an uncorrectable error. With one such entry, or
with the spare taken meanwhile, the lane dies. -/
def execMpFlushAck (lane : Nat) (bad : List Nat) (s : State) : Host.Outcome State Fault Refusal :=
  nextIf (s.clocked && (s.lane lane).flushing) s
    (if !((s.lane lane).named bad).isEmpty || (s.weft.spares.find (lane / 32)).isSome then
      ((((s.lane lane).named bad).foldl (fun s e => s.entryFails lane e) s).killLane lane).commitIntent lane
    else s.spareLane lane (lane / 32))

/-! ### Shuttle engines (R386-R389) -/

/-- The record of a failover or a death of an engine. -/
def State.engineRecord (s : State) (n type : Nat) : State :=
  (s.record type (shuttlePayload 0 0 0 (s.engine n).instance_ n 0 0 0 0)).raise 8

/-- The SAs and group entries of a home engine with their windows and their next counters as another engine takes them. -/
def State.moveHome (s : State) (n : Nat) (win : Window → Window) (ctr : Nat → Nat) : State :=
  let sas : Map Sa := s.shuttle.sas.map (fun (x : Nat × Sa) =>
    if s.pairHome x.1 == n then (x.1, { x.2 with txNext := ctr x.2.txNext, win := win x.2.win }) else x)
  let wins := fun (g : Group) => g.wins.map (fun (y : Nat × Window) =>
    if s.groupHome g.gid y.1 == n then (y.1, win y.2) else y)
  let tx := fun (g : Group) => if s.groupHome g.gid s.boot.devid == n then ctr g.txNext else g.txNext
  let groups : Map Group := s.shuttle.groups.map (fun (x : Nat × Group) =>
    (x.1, { x.2 with txNext := tx x.2, wins := wins x.2 }))
  { s with shuttle := { s.shuttle with sas := sas, groups := groups } }

/-- What the central tables give to the new home of a dead engine's SAs and group entries (R389). -/
def State.rebuildHome (s : State) (n : Nat) : State := s.moveHome n Window.rebuild centralCtr

/-- A verified packet that a dead engine holds: `ST_LANE_FAULT` on its fence on this device (R51, R127). What R127 reaches by a
NACK or a response is not reached, since the packet's port is closed. -/
def State.failRx (s : State) (p : RxPkt) : State :=
  let k := kindOf p.payload
  if k == kNack || k == kLoadResp then s.post p.ldi (tagOf p.payload) stLaneFault .shuttle
  else if k == kAtomic then
    match (if aopOf p.payload == 3 then s.rcFind false p.src (aseqOf p.payload) else none) with
    | some e => s.post e.ldi e.fence stLaneFault .shuttle
    | none => s
  else if k == kLoadReq then s
  else s.post p.ldi (s.requestFence p) stLaneFault .shuttle

/-- The port's bindings are published closed. -/
def State.closePort (s : State) (n : Nat) : State :=
  let ls := s.ldisWith (fun d => d.state.live && d.boundPort n)
  if ls.isEmpty then s else (s.publish (ls.map (fun l => sliceRec { kind := 2, id := n } l false))).2

/-- The engine dies (R389): what it holds is lost, its home duties pass on, and the domains on its port abort. -/
def State.killEngine (s : State) (n : Nat) : State :=
  let hit := s.ldisWith (fun d => d.state.abortable && d.boundPort n)
  let s := s.rebuildHome n
  let s := ((s.shuttle.rxq.filter (fun p => p.port == n)).foldl State.failRx s).dropRxq (fun p => p.port == n)
  let s := s.setEngine n { s.engine n with dead := true, held := [] }
  ((s.closePort n).engineRecord n 0x050E).abortAll hit

/-- A packet on the line of port n. -/
def Output.onWire (n : Nat) : Output → Bool
  | .fpWire port _ _ _ => port == n
  | _ => false

/-- The last packets that engine n has put on its line, oldest first: those that it holds still, since their last beats have not
left (R387). -/
def State.unsentOf (s : State) (n count : Nat) : List Output :=
  let ws := s.out.filter (Output.onWire n)
  ws.drop (ws.length - count)

/-- The covering spare takes the engine number with its counters and packets (R386), loads every window with each bit
at or below its t set (R103; DEDUCED, notes/assumptions/45.md), and resends the last `unsent` packets under the counters that they
have: the identical ciphertext and tag (R387; DEDUCED, notes/assumptions/48.md). -/
def State.spareEngine (s : State) (n k unsent : Nat) : State :=
  let again := s.unsentOf n unsent
  let s := (s.moveHome n Window.evict id).setEngine n { s.engine n with instance_ := 0x80 + k }
  let s := { s with shuttle := { s.shuttle with spares := s.shuttle.spares.put k n } }
  ((s.internalEntry.bump 0x022).engineRecord n 0x050D).emitAll again

def State.failEngine (s : State) (n : Nat) (loss : EngineLoss) : State :=
  if (s.engine n).dead || decide (s.build.engines ≤ n) then s
  else
  let s := s.failureEndsHalt
  match loss, s.shuttle.spares.find (n / 12) with
  | .uncorrectable, _ => (s.bump 0x021).killEngine n
  | .copied _, some _ => s.killEngine n
  | .copied k, none => s.spareEngine n (n / 12) k

/-- ENGINE_FAILED (R386, R387, R389). -/
def execEngineFailed (engine : Nat) (loss : EngineLoss) (s : State) : Host.Outcome State Fault Refusal :=
  nextIf s.clocked s (s.failEngine engine loss)

/-! ### Batten units (R167, R168) -/

/-- The record of a failover or a death of a unit. -/
def State.unitRecord (s : State) (u type : Nat) : State :=
  (s.record type (battenPayload 0 0 (s.unit u).instance_ u 0 0 0 0xFFFF 0 0 0 0)).raise 8

/-- The window has a data line or a scale line keyed to the unit. -/
def RedWindow.on (x : RedWindow) (u : Nat) : Bool :=
  if isMx x.fmt then (List.range x.groups).any (fun g => unitOf (x.scaleOf g) == u)
  else (List.range x.lines).any (fun w => unitOf (x.lineOf w) == u)

/-- Domains with an entry, a dirty line or a window line on the unit. -/
def State.ownersOnUnit (s : State) (u : Nat) : List Nat :=
  let b := s.unit u
  s.ldisWith (fun d => d.state.abortable) |>.filter (fun l =>
    b.entries.any (fun e => e.ldi == l) || b.lines.any (fun x => x.ldi == l && x.dirty)
      || s.batten.windows.vals.any (fun w => w.ldi == l && w.state == .open_ && w.on u))

/-- OPEN windows with a line on the unit. -/
def State.windowsOn (s : State) (u : Nat) : List Nat :=
  (s.batten.windows.filter (fun x => x.2.state == .open_ && x.2.on u)).map Prod.fst

/-- The unit dies: its entries, what its dirty lines still owe, and the windows that it serves fail with `ST_LANE_FAULT`
(R165, R168). -/
def State.killUnit (s : State) (u : Nat) : State :=
  let b := s.unit u
  let hit := s.ownersOnUnit u
  let s := s.setUnit u { instance_ := b.instance_, dead := true, nextSeq := b.nextSeq }
  let owed := (b.lines.flatMap (·.owed)).filter (fun p => !b.queue.any (fun e => e.applied && e.seq == p.seq))
  let s := b.entries.foldl (fun s e => s.failEntry e stLaneFault) s
  let s := owed.foldl (fun s p => s.failOwed p stLaneFault) s
  let s := (s.windowsOn u).foldl (fun s w => s.failWindow w stLaneFault) s
  (s.settle.unitRecord u 0x0708).abortAll hit

/-- A fill read of unit u. -/
def LineReq.fills (r : LineReq) (u : Nat) : Bool := r.src == .batten u && r.op == .read

/-- Discard the outstanding fill reads of a unit in one lane (R167 step 3): those not yet issued on `MP_` go, and what returns for
the others is not looked at. -/
def Lane.dropFills (l : Lane) (u : Nat) : Lane :=
  { l with
    misses := l.misses.map (fun m => (m.1, m.2.filter (fun r => !r.fills u)))
    held := l.held.filter (fun r => !r.fills u)
    reads := (l.reads.filter (fun g => !(g.req.fills u && !g.issued))).map (fun g =>
      if g.req.fills u then { g with cancelled := stAborted } else g) }

/-- The same in every lane, with the answers that have not reached the unit. -/
def State.dropFills (s : State) (u : Nat) : State :=
  let lanes : Map Lane := s.weft.lanes.map (fun (x : Nat × Lane) => (x.1, x.2.dropFills u))
  let t := { s with weft := { s.weft with lanes := lanes, done := s.weft.done.filter (fun d => !d.req.fills u) } }
  t.weft.lanes.keys.foldl State.goOn t

/-- BUS0 takes the unit number with the dirty lines of the mirror; outstanding fills are discarded, and entries that are
not in the mirror are applied again (R167). -/
def State.spareUnit (s : State) (u : Nat) : State :=
  let b := s.unit u
  let again := (b.queue.filter (fun e => !e.applied)).length
  let s := (s.dropFills u).setUnit u { b with
    instance_ := 0x80, fills := [], fillEpoch := b.fillEpoch + 1, lines := b.lines.filter (fun l => l.dirty) }
  let s := { s with batten := { s.batten with spare := some u } }
  ((s.internalEntry.bump 0x022).bumpUnit u 7 again).unitRecord u 0x0707

def State.failUnit (s : State) (u : Nat) (lost : Bool) : State :=
  if (s.unit u).dead || decide (12 ≤ u) then s
  else
  let s := if lost then s.failureEndsHalt.bump 0x021 else s.failureEndsHalt
  if lost || s.batten.spare.isSome then s.killUnit u
  else s.spareUnit u

/-- UNIT_FAILED (R167, R168): `lost` says that the dirty lines of the unit and of its partner are lost. -/
def execUnitFailed (unit : Nat) (lost : Bool) (s : State) : Host.Outcome State Fault Refusal :=
  nextIf s.clocked s (s.failUnit unit lost).pump

/-! ### Crossings (R367) -/

/-- The lane, engine or unit number that an instance serves. -/
def State.numberOf (s : State) (inst : Nat) : Option Nat :=
  let code := inst % 256
  match inst / 256 with
  | 0 => (List.range s.build.lanes).find? (fun n => (s.lane n).instance_ == code)
  | 1 => (List.range s.build.engines).find? (fun n => (s.engine n).instance_ == code)
  | 2 => (List.range 12).find? (fun n => (s.unit n).instance_ == code)
  | _ => none

/-- CROSSING_FAULT (R367): the receiving instance fails over; at a crossing to a host region the clock status register and
a record say so, and the instance on the block side fails over. How many packets of an engine had not left whole is a free value
(notes/assumptions/48.md). -/
def execCrossingFault (inst : Nat) (toHost : Bool) (s : State) : Host.Outcome State Fault Refusal :=
  let s1 := if toHost then
      { s with power := { s.power with crossFault := true, faultInst := inst } }.record 0x0C05
        (loomPayload 0 0 inst 0 0 s.jidNow 0)
    else s
  nextIf s.clocked s
    (match s.numberOf inst with
    | none => s1
    | some n => match inst / 256 with
      | 0 => s1.failLane n
      | 1 => { s1 with freeCount := s1.freeCount + 1 }.failEngine n (.copied (Config.freeNat s1.freeCount))
      | _ => (s1.failUnit n false).pump)

/-! ### The error log (R381) -/

/-- ERROR_LOG_WRITE (R381). -/
def execErrorLogWrite (s : State) : Host.Outcome State Fault Refusal :=
  nextIf (s.clocked && !s.log.queue.isEmpty) s s.logWrite

/-! ### Watchdog, lockstep, stores (R383, R384) -/

/-- A held crash dump notes that a later expiry escalated (R382). -/
def State.markDump (s : State) : State :=
  match s.loom.dump with
  | some d =>
    let head := d.head.take 7 ++ leBytes 1 (fieldAt d.head 7 1 ||| 1) ++ d.head.drop 8
    { s with loom := { s.loom with dump := some { d with head := head } } }
  | none => s

/-- One expiry: a record, which is written at once, since it must be before the reset takes effect, and a CORE request, or, as the
third within 100 ms, SYSTEM with cause 0x11 (R384). -/
def State.expire (s : State) (type cause : Nat) : State :=
  let recent := s.loom.expiries.filter (fun t => decide (s.now ≤ t + 100 * msTicks))
  let third := decide (2 ≤ recent.length)
  let s := { s with loom := { s.loom with expiries := recent ++ [s.now] } }
  let c := if third then 0x11 else cause
  let s := s.recordNow type (loomPayload 0 c 0 0 0 s.jidNow 0)
  if third then s.markDump.requestReset .system c else s.requestReset .core c

/-- The watchdog counts: the firmware runs, or an escalation has stopped its refresh (R383, R384). -/
def State.watched (s : State) : Bool :=
  s.loomUp || (s.clocked && s.loom.escalated.isSome && !s.loom.restarting && !s.loom.halted && !s.power.fatal)

/-- WATCHDOG_EXPIRY (R384): 4 ms since Loom last restarted the count, which it does at each turn until it escalates. -/
def execWatchdogExpiry (s : State) : Host.Outcome State Fault Refusal :=
  nextIf s.watched s ((s.advanceTo ((s.loom.escalated.getD s.now) + 4 * msTicks)).expire 0x0C01 0x21)

/-- LOCKSTEP_MISMATCH (R384). -/
def execLockstepMismatch (s : State) : Host.Outcome State Fault Refusal := nextIf s.loomUp s (s.expire 0x0C02 0x22)

/-- Escalate (R383): the escalation count is full, and the watchdog is no longer refreshed; its count runs on from the first. -/
def State.escalate (s : State) : State :=
  { s with loom := { s.loom with expiries := [s.now, s.now], escalated := some (s.loom.escalated.getD s.now) } }

/-- The window at a place of the replay-window stores is dropped and loaded again (R383 row 7). -/
def State.dropWindow (s : State) (word : Nat) : State :=
  match (s.engine (word / 8192)).held[word % 8192 / 64]? with
  | some x => s.evictWindow x
  | none => s

/-- The batch without one of its records. One that is closed keeps the digest that its signed root covers, and returns the record no
more (DESIGN CHOICE, notes/assumptions/47.md). -/
def MeterBatch.lose (b : MeterBatch) (leaf : Nat) : MeterBatch :=
  if b.closed.isSome then { b with lost := b.lost ++ [leaf] }
  else { b with records := b.records.eraseIdx leaf, owners := b.owners.eraseIdx leaf }

/-- A staged record is lost, with its METER_LOST record (R383 row 8). -/
def State.loseMeter (s : State) (word : Nat) : State :=
  let i := word / 16 / batchSize
  let leaf := word / 16 % batchSize
  match s.metering.batches[i]? with
  | some b =>
    match b.records[leaf]? with
    | some r =>
      if b.lost.contains leaf then s
      else
        ({ s with metering := { s.metering with batches := s.metering.batches.set i (b.lose leaf) } }).record 0x0C08
          (loomPayload 0 0 0 0 (fieldAt r 0 8) s.jidNow 0)
    | none => s
  | none => s

/-- The crash dump with one word discarded: it reads zero. -/
def Dump.discard (d : Dump) (i : Nat) : Dump := { d with lost := d.lost ++ [i % 131072] }

/-- The word of store 9 is discarded: a record that held it is gone, and a counter is 0. Which of the five arrays a word index
names is not said: a free value (row 9 of R383, notes/assumptions/47.md). -/
def State.discardWord (s : State) (word : Nat) : State :=
  let i := (Config.ninthStore word).2
  let t := s.trace
  match (Config.ninthStore word).1 % 6 with
  | 0 => { s with trace := { t with records := t.records.del i } }
  | 1 => { s with trace := { t with log := t.log.del i } }
  | 2 => { s with counters := { s.counters with block := s.counters.block.del i } }
  | 3 =>
    let d := s.dom (i / 16 % 256)
    s.setDom (i / 16 % 256) { d with counters := d.counters.del (i % 16) }
  | 4 => { s with log := { s.log with places := s.log.places.del (i % 1024) } }
  | _ => { s with loom := { s.loom with dump := s.loom.dump.map (fun d => d.discard i) } }

/-- What a double-bit error does by store (R383). -/
def State.storeError (s : State) (store word : Nat) : State :=
  let s1 := (s.bump 0x021).record 0x0C03 (loomPayload 0 0 0 0 (store + word % 2 ^ 32 * 256) s.jidNow 0)
  match store with
  | 1 =>
    let s2 := { s1 with boot := { s1.boot with imageBad := true } }
    if s.loomUp then s2.expire 0x0C02 0x22 else s2
  | 2 | 3 | 4 | 5 => s1.escalate
  | 6 => s1.loseSa (word / 16)
  | 7 => s1.dropWindow word
  | 8 => s1.loseMeter word
  | _ => s1.discardWord word

/-! ### Lane arrays (R92, and "Uncorrectable errors that are not tag failures" of spec/04) -/

/-- The SRAM_UE record of a lane array, for no request. -/
def State.laneArrayRecord (s : State) (n dli : Nat) : State :=
  (s.bump 0x021).record 0x0307 (weftPayload dli 0 0 0 n (s.lane n).instance_ 0 0 0 0 0)

/-- A GOT cache entry is dropped: its granule's next request takes the miss path. -/
def State.badGotEntry (s : State) (n g : Nat) : State :=
  let l := s.lane n
  if l.got.contains g then
    (s.setLane n { l with got := l.got.filter (fun x => x != g) }).laneArrayRecord n (1024 * g)
  else s

/-- A tag field of the Selvedge buffer: clean, it is no longer valid, and a read of its line fetches it again; dirty, the tag is
computed again from its ingress entry, and the group is closed. -/
def State.badTagField (s : State) (n psel field : Nat) : State :=
  let l := s.lane n
  match (l.selvOf psel).bind (fun e => e.fields[field]?) with
  | some f =>
    if !f.valid then s
    else if f.dirty then let s1 := s.laneArrayRecord n 0; (s1.closeGroup n).getD s1
    else (s.setLane n (l.setTag psel field {})).laneArrayRecord n 0
  | none => s

/-- Codes of the lane arrays as STORE_UE's operand gives them, which R383's stores do not use (DESIGN CHOICE,
notes/assumptions/47.md): 16 a GOT cache entry, `word` its granule above the lane number's 8 bits; 17 a tag field, `word` its
Selvedge line and field above them. -/
def State.arrayError (s : State) (store word : Nat) : State :=
  let n := word % 256
  if s.build.lanes ≤ n ∨ (s.lane n).dead = true then s
  else if store == 16 then s.badGotEntry n (word / 256)
  else s.badTagField n (word / 2048) (word / 256 % 8)

/-- STORE_UE (R27, R383): a single-bit error of any array is corrected and counted. A double-bit error acts whether or not the
cores run; where they do not, no core reads its image. -/
def execStoreUe (store word : Nat) (single : Bool) (s : State) : Host.Outcome State Fault Refusal :=
  nextIf s.clocked s
    (if single then s.bump 0x020
    else if 1 ≤ store ∧ store ≤ 9 then s.storeError store word
    else if store = 16 ∨ store = 17 then s.arrayError store word
    else s)

end Sys2Proof.Machine
end

