-- ==== Sys2Proof/Machine/Binding.lean ====
section
/-!
DEFINITION. Events at the fence table, on `BP_` and at the host command processor's port (spec/02_domains.md R47, R48,
spec/18_recovery.md R391, spec/21_ports.md R447-R452).
-/
namespace Sys2Proof.Machine

/-- FENCE_SIGNAL (R47): the fence table applies the next status of its order. -/
def execFenceSignal (s : State) : Host.Outcome State Fault Refusal :=
  match s.tables.fenceQ with
  | [] => .next s
  | m :: ms => nextIf s.clocked s ({ s with tables := { s.tables with fenceQ := ms } }.applyStatus m)

/-- The publication after the last one acknowledged whose SYNC carries the 32 bits of this SEQ. -/
def bpNamed (b : Binding) (seq : Nat) : Nat := b.acked + (seq + 2 ^ 32 - b.acked % 2 ^ 32) % 2 ^ 32

/-- The SEQ is one that an earlier acknowledgement has covered. -/
def bpCovered (b : Binding) (seq : Nat) : Bool := decide ((b.acked + 2 ^ 32 - seq % 2 ^ 32) % 2 ^ 32 < min b.acked (2 ^ 31))

/-- The state when an acknowledgement has come: one of a published SEQ covers every earlier one, one of a SEQ acknowledged before says
nothing new, and one of a SEQ not yet published is counted and ignored. -/
def State.takeBpAck (s : State) (seq : Nat) : State :=
  let n := bpNamed s.bp seq
  if s.bp.acked < n ∧ n < s.bp.nextSync then { s with bp := { s.bp with acked := n } }
  else if bpCovered s.bp seq then s
  else s.countDropped

/-- BP_ACK (R448). -/
def execBpAck (seq : Nat) (s : State) : Host.Outcome State Fault Refusal := nextIf s.released s (s.takeBpAck seq)

/-- The TYPE belongs to a row of its own: REPORT and NEIGHBOUR. -/
def bpInNamed (type : Nat) : Bool := type == 2 || type == 3

/-- BP_IN_PRESENT (R450): kind 0 queues, 1 compute slices. A record of a reserved TYPE has no row and is this one: it is counted and
dropped, and so is a PRESENT of a reserved kind (notes/assumptions/23.md). -/
def execBpInPresent (type kind first count : Nat) (s : State) : Host.Outcome State Fault Refusal :=
  nextIf (s.takesInput && !bpInNamed type) s
    (if type != 1 || decide (1 < kind) then s.countDropped
    else if kind == 0 then { s with bp := { s.bp with queues := s.bp.queues ++ [(first, count)] } }
    else { s with bp := { s.bp with slices := s.bp.slices ++ [(first, count)] } })

/-- The report comes from the registered producer of an ARMED fence of its LDI (R48). -/
def State.reportOk (s : State) (ldi handle ctx : Nat) : Bool :=
  let f := s.fence (fenceIndex handle)
  s.fenceArmed ldi handle && f.producer != 0 && f.producer == ctx
    && !((s.tables.contexts.find ctx).map (·.releasing)).getD false

/-- BP_IN_REPORT (R48): applied in the order in which it passes, or counted and recorded as a bad reference. -/
def execBpInReport (ldi handle ctx status : Nat) (s : State) : Host.Outcome State Fault Refusal :=
  let s1 := s.settle
  nextIf s.takesInput s
    (if s1.reportOk ldi handle ctx then s1.signal (fenceIndex handle) status 0
    else s1.badRef ⟨ldi, handle, status, .report⟩)

/-- BP_IN_NEIGHBOUR (R391, R36): the DEVID of a tree neighbour, to which a sealed domain's POLICY goes at once. -/
def execBpInNeighbour (ldi pos devid : Nat) (s : State) : Host.Outcome State Fault Refusal :=
  let d := s.dom ldi
  let s1 := s.setDom ldi { d with neighbours := d.neighbours.put pos devid }
  nextIf (s.takesInput && d.state.live && decide (pos ≤ 8)) s
    (if d.state == .sealed_ || d.state.flows then (s1.sendPolicy devid ldi).endExhausted devid else s1)

/-- HCP_RESET_ASSERT (R452, R21): the HCP rings close. -/
def execHcpResetAssert (s : State) : Host.Outcome State Fault Refusal :=
  nextIf s.released s { s with boot := { s.boot with hcpClosed := true } }

/-- HCP_IMAGE_STREAM (R452, R21): at LAST the digest is set and the rings open again. -/
def execHcpImageStream (image : Bytes) (s : State) : Host.Outcome State Fault Refusal :=
  nextIf s.takesInput s { s with boot := { s.boot with hcpDigest := Config.sha384 image, hcpClosed := false } }

end Sys2Proof.Machine
end

