-- ==== Sys2Proof/Machine/Secured.lean ====
section
/-!
DEFINITION. The keys of SPDM secure sessions and the AEAD protection of their messages (spec/10_attestation.md R209, R211): the
SPDM key schedule of DSP0274 and the records of DSP0277 (notes/assumptions/19.md).
-/
namespace Sys2Proof.Machine

/-! ### The SPDM key schedule -/

/-- HKDF-Expand with HMAC-SHA-384, for at most 48 bytes. -/
def hkdfExpand (secret info : Bytes) (len : Nat) : Bytes := (bvBytes 48 (Config.hmac384 secret (info ++ leBytes 1 1))).take len

/-- The context of an expansion: length, version, label and transcript digest. -/
def binConcat (len : Nat) (label : String) (context : Bytes) : Bytes := leBytes 2 len ++ ascii "spdm1.3 " ++ ascii label ++ context

def expandSecret (secret : Bytes) (label : String) (context : Bytes) : Bytes := hkdfExpand secret (binConcat 48 label context) 48

/-- Key and IV of a direction, from its secret; its sequence numbers start at 0. -/
def DirKeys.ofSecret (secret : Bytes) : DirKeys :=
  { secret := secret, key := keyOf (hkdfExpand secret (binConcat 32 "key" []) 32)
    iv := ivOf (hkdfExpand secret (binConcat 12 "iv" []) 12) }

/-- The handshake secret of a shared secret. -/
def handshakeSecret (shared : Bytes) : Bytes := bvBytes 48 (Config.hmac384 (leBytes 48 0) shared)

/-- The master secret that follows it. -/
def masterSecret (shared : Bytes) : Bytes :=
  bvBytes 48 (Config.hmac384 (expandSecret (handshakeSecret shared) "derived" []) (leBytes 48 0))

/-- Keys of request and response while the session is opened; `th` is the transcript up to the signature of
KEY_EXCHANGE_RSP. -/
def handshakeKeys (shared th : Bytes) : DirKeys × DirKeys :=
  let d := bvBytes 48 (Config.sha384 th)
  (.ofSecret (expandSecret (handshakeSecret shared) "req hs data" d),
    .ofSecret (expandSecret (handshakeSecret shared) "rsp hs data" d))

/-- Keys of the open session; `th` is the transcript up to FINISH_RSP. -/
def sessionKeys (shared th : Bytes) : DirKeys × DirKeys :=
  let d := bvBytes 48 (Config.sha384 th)
  (.ofSecret (expandSecret (masterSecret shared) "req app data" d), .ofSecret (expandSecret (masterSecret shared) "rsp app data" d))

/-- The keys after a KEY_UPDATE of the direction. -/
def DirKeys.update (d : DirKeys) : DirKeys := .ofSecret (expandSecret d.secret "traffic upd" [])

/-- The verify data of a handshake message: its MAC over the transcript under the direction's finished key. -/
def DirKeys.verifyData (d : DirKeys) (th : Bytes) : Bytes :=
  bvBytes 48 (Config.hmac384 (expandSecret d.secret "finished" []) (bvBytes 48 (Config.sha384 th)))

/-! ### Secured messages -/

/-- The session ID: the requester's half, then the responder's. -/
def Session.id (x : Session) (sid : Nat) : Nat := x.reqSid % 65536 + sid % 65536 * 65536

/-- The AEAD nonce of the direction's next message. -/
def DirKeys.nonce (d : DirKeys) : BitVec 96 := d.iv ^^^ BitVec.ofNat 96 d.seq

/-- The authenticated header of a record: session ID, sequence number, and the bytes that follow. -/
def recordHead (id seq len : Nat) : Bytes := leBytes 4 id ++ leBytes 2 seq ++ leBytes 2 len

/-- Protect a message. -/
def DirKeys.protect (d : DirKeys) (id : Nat) (msg : Bytes) : Bytes :=
  let plain := leBytes 2 msg.length ++ msg
  let head := recordHead id d.seq (plain.length + 16)
  let ct := xorBytes plain (gcmStream d.key d.nonce plain.length)
  head ++ ct ++ bvBytes 16 (Config.gcmTag d.key d.nonce head ct)

/-- Bytes that protection adds. -/
def recordOverhead : Nat := 26

/-- The message of a record that verifies as the direction's next. -/
def DirKeys.unprotect (d : DirKeys) (id : Nat) (r : Bytes) : Option Bytes :=
  let head := recordHead id d.seq (r.length - 8)
  let ct := (r.drop 8).take (r.length - 24)
  let plain := xorBytes ct (gcmStream d.key d.nonce ct.length)
  if decide (recordOverhead ≤ r.length) && r.take 8 == head && tagOk d.key d.nonce head ct (r.drop (r.length - 16)) then
    some ((plain.drop 2).take (fieldAt plain 0 2))
  else none

end Sys2Proof.Machine
end

