-- ==== Sys2Proof/Machine/Tdi.lean ====
section
/-!
DEFINITION. The IDE key port and the TDI of each host function (spec/15_sharing_migration.md R332-R337, spec/21_ports.md
R458). The TDISP and IDE_KM messages are in Machine/Tdisp.lean.
-/
namespace Sys2Proof.Machine

/-! ### Records on KP_ (R337, R458) -/

def kpInstall : Nat := 0
def kpGo : Nat := 1
def kpStop : Nat := 2
def kpInvalidate : Nat := 3

/-- A key record. -/
def kpRecord (func stream ctl op : Nat) (key : Key) : BitVec 384 :=
  BitVec.ofNat 384 (func + stream * 2 ^ 8 + ctl * 2 ^ 16 + op * 2 ^ 24 + key.toNat * 2 ^ 128)

/-- CTL of key set k for sub-stream and direction i: PR, NPR, CPL of device receive, then of device transmit. -/
def kpCtl (keySet i : Nat) : Nat := keySet + i / 3 * 2 + i % 3 * 4

/-- Send a record when fewer than 8 are unacknowledged; keep it waiting otherwise. -/
def State.kpSend (s : State) (r : KpRec) : State :=
  let l := s.link
  if l.kpOut.length < 8 then ({ s with link := { l with kpOut := l.kpOut ++ [r] } }).emit (.kpRec r.record)
  else { s with link := { l with kpWait := l.kpWait ++ [r] } }

/-- The function that a record is for. -/
def KpRec.func (r : KpRec) : Nat := r.record.toNat % 256

/-! ### TDIs (R333, R334) -/

def State.tdi (s : State) (func : Nat) : Tdi := s.link.tdis.findD func {}

def State.setTdi (s : State) (func : Nat) (t : Tdi) : State :=
  { s with link := { s.link with tdis := s.link.tdis.put func t } }

/-- TDI_RUN of a function: bit n - 1 of `KP_TDI_RUN` (R334). -/
def State.tdiRun (s : State) (func : Nat) : Bool := (s.tdi func).state == .run

/-- Keys that wait for `KP_` end with the TDISP binding (R190): their slots are zeroed, no record that has not left carries one,
and a GO that is not acknowledged activates nothing. -/
def State.forgetInstalls (s : State) (func : Nat) : State :=
  let all := s.link.kpOut ++ s.link.kpWait
  let slots := all.filterMap (fun r => match r.done with
    | .install (some i) _ => if r.func == func then some i else none
    | _ => none)
  let quiet := fun (r : KpRec) => if r.func == func then r.forget else r
  slots.foldl State.clearSlot
    { s with link := { s.link with kpOut := s.link.kpOut.map quiet, kpWait := s.link.kpWait.map quiet } }

/-- Invalidate both key sets of the function's stream (R333). -/
def State.invalidate (s : State) (func : Nat) : State :=
  let t := s.tdi func
  let s := s.forgetInstalls func
  match t.stream with
  | some id => (s.setTdi func { t with stream := none, active := [] }).kpSend { record := kpRecord func id 0 kpInvalidate 0 }
  | none => s

/-- CONFIG_UNLOCKED with its keys invalidated; nothing where it is unlocked already. -/
def State.tdiUnlock (s : State) (func : Nat) : State :=
  let t := s.tdi func
  if t.state == .unlocked then s
  else (s.setTdi func { t with state := .unlocked, nonce := 0 }).invalidate func

/-- The live LDI that a function is bound to (R329). -/
def State.funcLdi (s : State) (func : Nat) : Option Nat :=
  if func == 0 then none else (s.ldisWith (fun d => d.state.live && d.vmfn == func)).head?

/-- The abort of R333, with cause 0x01: only of a domain in BUILDING, SEALED or RUNNING. -/
def State.tdiAbort (s : State) (func : Nat) : State :=
  match s.funcLdi func with
  | some l =>
    let st := (s.dom l).state
    if st == .building || st == .sealed_ || st == .running then (s.internalEntry.abort l 0x01 true).endSpent else s
  | none => s

/-- What STOP and a function-level reset do (R333). -/
def State.tdiStop (s : State) (func : Nat) : State :=
  let st := (s.tdi func).state
  let s := s.tdiUnlock func
  if st == .locked || st == .run then s.tdiAbort func else s

end Sys2Proof.Machine
end

