-- ==== Sys2Proof/Machine/Waits.lean ====
section
/-!
DEFINITION. The conditions on which suspended commands wait (spec/12_command_protocol.md R257, R261, R263).
-/
namespace Sys2Proof.Machine

/-- The in-flight count that replies carry. -/
def State.inflight (s : State) (ldi : Nat) : Nat := s.weftInflight ldi + s.shuttleInflight ldi + s.battenInflight ldi

/-- The scrub engine still works for a journal entry. -/
def State.scrubbing (s : State) (jid : Nat) : Bool := s.weft.scrubQ.any (fun q => q.jid == some jid)

/-- Every named SA is VALID or FAILED. -/
def State.sasSettled (s : State) (ps : List Nat) : Bool :=
  ps.all (fun p => (s.sa p).state == .valid || (s.sa p).state == .failed)

/-- No program is outstanding or to be requested. -/
def State.otpIdle (s : State) : Bool := s.otp.busy.isNone && s.otp.job.isEmpty

def State.offsetOf (s : State) (ldi : Nat) : Offset := s.time.offsets.findD ldi {}

/-- The measurement has ended: every member has answered. -/
def State.measured (s : State) (ldi : Nat) : Bool := decide ((s.dom ldi).members ≤ (s.offsetOf ldi).count)

/-- The group has its key. -/
def State.groupKeyed (s : State) (ldi gid : Nat) : Bool :=
  match s.group (groupKeyOf ldi gid) with
  | some g => g.keyed
  | none => false

/-- What an overtaken command no longer waits for: its condition may never come (R259). -/
def Wait.moot : Wait → Bool
  | .inflight _ | .tally _ | .groupKey _ _ | .measure _ _ | .policy _ => true
  | _ => false

/-- The condition of an entry's wait. -/
def State.waitMet (s : State) (e : JEntry) : Bool :=
  match e.wait with
  | .bp n => decide (n ≤ s.bp.acked)
  | .inflight l => s.inflight l == 0
  | .scrub => !s.scrubbing e.jid
  | .sas ps d => s.sasSettled ps || decide (d ≤ s.now)
  | .tally l => s.tally l == 0
  | .groupKey l g => s.groupKeyed l g
  | .otp => s.otpIdle
  | .measure l d => s.measured l || decide (d ≤ s.now)
  | .entropy => !s.entropy.testing
  | .pulls l => !s.pulling l
  | .policy _ | .answer => false
  | .scan | .dma | .ready => true

/-- The entry's next step can run. -/
def State.waitHolds (s : State) (e : JEntry) : Bool := (e.overtaken && e.wait.moot) || s.waitMet e

/-- An engine drives the entry's steps: each is an event of its own, and none stands before a fetch. -/
def Wait.driven : Wait → Bool
  | .scan | .dma => true
  | _ => false

/-- A suspended command can go on: its step goes before a newly fetched command (R257). -/
def State.stepDue (s : State) : Bool := s.loom.journal.any (fun e => !e.wait.driven && s.waitHolds e)

end Sys2Proof.Machine
end

