-- ==== Sys2Proof/Machine/Command.lean ====
section
/-!
DEFINITION. The command protocol of Loom: fetch, checks, journal and reply (spec/12_command_protocol.md R243-R265). What each
command does is in the files that give its `CmdSpec`.
-/
namespace Sys2Proof.Machine

/-! ### Classes and scopes (R243, R244, R256) -/

/-- Requester classes, in the column order of the table of R256. -/
inductive Class
  | host0
  | hostVm
  | hcp
  | mgmt
  | debug
  | peer
  | tenant
  deriving DecidableEq, Repr

/-- A cell of the table of R256. -/
inductive Perm
  | none
  | all
  | own
  | dev
  deriving DecidableEq, Repr

def ringClass (i : Nat) : Class :=
  if i == 0 then .host0 else if i < 64 then .hostVm else if i < 68 then .hcp else if i == 68 then .mgmt else .debug

def State.session (s : State) (sid : Nat) : Session := s.spdm.sessions.findD sid {}

/-- The class of a path: a session that is not a TENANT's runs in the class of the path that carries it (R211). -/
def State.pathClass (s : State) : Path → Class
  | .ring i => ringClass i
  | .peer _ => .peer
  | .session sid =>
    let x := s.session sid
    if x.ldi.isSome then .tenant
    else match x.conn with
      | .mctp => .mgmt
      | .host i => ringClass i

/-- The live LDI bound to a virtual-machine ring (R244). -/
def State.vmLdi (s : State) (ring : Nat) : Option Nat := (s.ldisWith (fun d => d.state.live && d.vmfn == ring)).head?

/-- The one LDI of a path's scope, where the class has one. -/
def State.scopeLdi (s : State) : Path → Option Nat
  | .ring i => if i != 0 && i < 64 then s.vmLdi i else none
  | .peer _ => none
  | .session sid =>
    let x := s.session sid
    match x.ldi, x.conn with
    | some l, _ => some l
    | none, .host i => if i == 0 then none else s.vmLdi i
    | none, .mctp => none

/-! ### A fetched command (R246-R248, R254) -/

/-- A command as Loom has copied it: its path and slot index, the slot, and the parameter bytes that PBUF says lie in the
buffer. `jid` names the command's entry, or its place among suspended read-only commands. -/
structure Cmd where
  path : Path := .ring 0
  slot : Nat := 0
  cls : Class := .host0
  hdr : Bytes := []
  buffer : Bytes := []
  jid : Nat := 0

/-- The command under the number of its entry. -/
def Cmd.named (c : Cmd) (jid : Nat) : Cmd := { c with jid := jid }

def Cmd.opcode (c : Cmd) : Nat := fieldAt c.hdr 0 2
def Cmd.flags (c : Cmd) : Nat := fieldAt c.hdr 2 1
def Cmd.pbuf (c : Cmd) : Bool := c.flags % 2 == 1
def Cmd.rbuf (c : Cmd) : Bool := c.flags / 2 % 2 == 1
def Cmd.quiet (c : Cmd) : Bool := c.flags / 4 % 2 == 1
def Cmd.hver (c : Cmd) : Nat := fieldAt c.hdr 3 1
def Cmd.seq (c : Cmd) : Nat := fieldAt c.hdr 4 4
def Cmd.ctx (c : Cmd) : Nat := fieldAt c.hdr 8 2 % 4096
def Cmd.ldi (c : Cmd) : Nat := fieldAt c.hdr 10 1
def Cmd.plen (c : Cmd) : Nat := fieldAt c.hdr 12 4
def Cmd.bufOff (c : Cmd) : Nat := fieldAt c.hdr 16 4
def Cmd.bufLen (c : Cmd) : Nat := fieldAt c.hdr 20 4
def Cmd.annot (c : Cmd) : BitVec 64 := BitVec.ofNat 64 (fieldAt c.hdr 24 8)

/-- The parameter bytes. -/
def Cmd.params (c : Cmd) : Bytes := (if c.pbuf then c.buffer else c.hdr.drop 32).take c.plen

/-- A parameter field. -/
def Cmd.p (c : Cmd) (off n : Nat) : Nat := fieldAt c.params off n

/-- Reserved header bits (R247). -/
def Cmd.reservedClear (c : Cmd) : Bool :=
  decide (c.flags < 8) && decide (fieldAt c.hdr 8 2 < 4096) && fieldAt c.hdr 11 1 == 0
    && fieldAt c.hdr 28 4 % 2 ^ 31 == 0

/-- Bytes of the buffer area of a path. -/
def Path.area : Path → Nat
  | .ring i => partBuffer i
  | _ => 65536

def Path.isRing : Path → Bool
  | .ring _ => true
  | _ => false

/-- The parameters and the buffer lie where R248 and R254 let them, and the rest of the slot is zero. -/
def Cmd.bufferOk (c : Cmd) : Bool :=
  let uses := c.pbuf || c.rbuf
  (if c.pbuf then allZero (c.hdr.drop 32) else decide (c.plen ≤ 224) && allZero (c.hdr.drop (32 + c.plen)))
    && decide (c.bufLen ≤ 65536) && c.bufOff % 64 == 0 && decide (c.bufOff + c.bufLen ≤ c.path.area)
    && (!uses || c.bufLen != 0)
    && (!c.pbuf || decide (c.plen ≤ c.bufLen))
    && (c.path.isRing || ((!c.pbuf || (c.bufOff == 0 && c.bufLen == c.plen))
        && c.buffer.length == (if c.pbuf then c.plen else 0)))

/-- The room that an extended reply has (R251); a PEER answer stays within the limit of R99. -/
def Cmd.room (c : Cmd) : Nat :=
  match c.path with
  | .peer _ => min c.bufLen (65472 - 68)
  | _ => c.bufLen

/-! ### What an entry of the command reference gives -/

/-- What a reply carries beside its header: RLEN where it is not the extended reply's length, RESULT and the extended
reply. -/
structure Reply where
  status : Nat := 0
  need : Nat := 0
  result : Bytes := []
  ext : Bytes := []

/-- How a command's body ends: without effect, complete, or suspended (R257). -/
inductive Res
  | fail (status : Nat)
  /-- No effect, so no journal entry (R260, R261), but the status and the result bytes that its entry gives. -/
  | refuse (r : Reply)
  | done (r : Reply) (s : State)
  | wait (w : Wait) (k : Cont) (s : State)

/-- Complete with `ST_OK`. -/
def Res.ok (s : State) (result : Bytes := []) (ext : Bytes := []) : Res := .done { result := result, ext := ext } s

/-- An entry of the command reference (R266-R268, R291): opcode, classes, header LDI, states, kind, whether the power hold
and FROZEN refuse it, parameter length, reserved parameter bits, extended reply, locks, the fence that it names, and
check 9 with the effect. -/
structure CmdSpec where
  opcode : Nat
  perm : List Perm
  ldiOk : Cmd → Bool := fun c => c.ldi != 0
  states : List DomState := []
  journaled : Cmd → Bool := fun _ => true
  hold : Cmd → Bool := fun _ => false
  frozen : Cmd → Bool := fun _ => false
  len : Bytes → Nat := fun _ => 0
  reserved : Bytes → Bool := fun _ => true
  ext : State → Cmd → Option Nat := fun _ _ => none
  locks : State → Cmd → JEntry → JEntry := fun _ _ e => e
  /-- The fence handle that the parameters name, and that a failure binds its status to (R51). -/
  names : Cmd → Option Nat := fun _ => none
  /-- RESULT where the entry fills it for a failure of the checks too (R278). -/
  failResult : Bytes := []
  body : State → Cmd → Res
  /-- What follows the body's steps, once the reply that they give is written (R198, R419). -/
  after : Cmd → State → State := fun _ s => s

def ldiZero (c : Cmd) : Bool := c.ldi == 0
def ldiAny (_ : Cmd) : Bool := true
def readOnly (_ : Cmd) : Bool := false
def always (_ : Cmd) : Bool := true

/-- Rows of the table of R256. -/
def permManager : List Perm := [.all, .none, .none, .all, .none, .none, .none]
def permSeal : List Perm := [.all, .none, .none, .all, .none, .none, .own]
def permAbort : List Perm := [.all, .own, .all, .all, .all, .none, .own]
def permDriver : List Perm := [.all, .own, .all, .all, .none, .none, .none]
def permQuery : List Perm := [.all, .own, .all, .all, .all, .dev, .own]
def permRead : List Perm := [.all, .own, .all, .all, .all, .none, .own]
def permDigest : List Perm := [.all, .own, .none, .all, .none, .none, .own]
def permTenant : List Perm := [.none, .none, .none, .none, .none, .none, .own]
def permOpen : List Perm := [.all, .own, .none, .none, .none, .none, .none]
def permMeter : List Perm := [.all, .none, .none, .all, .none, .none, .own]
def permProfile : List Perm := [.all, .own, .none, .all, .all, .none, .own]
def permDevice : List Perm := [.all, .dev, .all, .all, .all, .dev, .dev]
def permDebug : List Perm := [.all, .none, .none, .all, .all, .none, .none]
def permLcs : List Perm := [.none, .none, .none, .all, .all, .none, .none]

def Class.column : Class → Nat
  | .host0 => 0
  | .hostVm => 1
  | .hcp => 2
  | .mgmt => 3
  | .debug => 4
  | .peer => 5
  | .tenant => 6

/-- State lists of the fact tables. -/
def stBuilding : List DomState := [.building]
def stToRunning : List DomState := [.building, .sealed_, .running]
def stToQuiescing : List DomState := [.building, .sealed_, .running, .quiescing]
def stToAborted : List DomState := [.building, .sealed_, .running, .quiescing, .aborted]
def stSealed : List DomState := [.sealed_, .running]
def stSealedOn : List DomState := [.sealed_, .running, .quiescing]
def stNotEmpty : List DomState := [.building, .sealed_, .running, .quiescing, .aborted, .retired]
def stEvery : List DomState := [.empty, .building, .sealed_, .running, .quiescing, .aborted, .retired]

/-- The defined opcodes (R247, chapters 13 and 14). -/
def opcodes : List Nat :=
  [0x0101, 0x0102, 0x0103, 0x0104, 0x0105, 0x0106, 0x0107, 0x0108, 0x0109, 0x0201, 0x0202, 0x0203, 0x0204, 0x0205,
   0x0206, 0x0207, 0x0301, 0x0302, 0x0303, 0x0304, 0x0310, 0x0311, 0x0312, 0x0313, 0x0401, 0x0402, 0x0403, 0x0501,
   0x0502, 0x0510, 0x0511, 0x0601, 0x0602, 0x0603, 0x0610, 0x0611, 0x0620, 0x0621, 0x0622, 0x0701, 0x0702, 0x0703,
   0x0801, 0x0802, 0x0803, 0x0804, 0x0810, 0x0811, 0x0820, 0x0821, 0x0822, 0x0901, 0x0902, 0x0903, 0x0904, 0x0A01,
   0x0A02, 0x0A03, 0x0A04, 0x0B01, 0x0B02, 0x0B10, 0x0B11, 0x0C01, 0x0C02, 0x0C03]

/-! ### Replies (R249, R250, R252, R253) -/

def State.ring (s : State) (i : Nat) : Ring := s.loom.rings.findD i {}

def State.setRing (s : State) (i : Nat) (r : Ring) : State :=
  { s with loom := { s.loom with rings := s.loom.rings.put i r } }

def State.setSession (s : State) (sid : Nat) (x : Session) : State :=
  { s with spdm := { s.spdm with sessions := s.spdm.sessions.put sid x } }

/-! ### SPDM responses on a connection (R207, R300) -/

/-- Connections by HOST ring number, with 64 for MCTP. -/
def connKey : Conn → Nat
  | .mctp => 64
  | .host i => i

def State.spdmConn (s : State) (c : Conn) : SpdmConn := s.spdm.conns.findD (connKey c) {}

def State.setConn (s : State) (c : Conn) (x : SpdmConn) : State :=
  { s with spdm := { s.spdm with conns := s.spdm.conns.put (connKey c) x } }

/-- Bytes of an SPDM message that one MCTP transfer carries; a longer response waits for CHUNK_GET. -/
def mctpUnit : Nat := 1024

/-- The response as the connection's transport carries it: ERROR LargeResponse with a handle when it is too long. -/
def State.fitSpdm (s : State) (c : Conn) (code : Nat) (body : Bytes) : (Nat × Bytes) × State :=
  if c == .mctp && decide (mctpUnit < body.length + 2) then
    let x := s.spdmConn c
    let h := x.nextHandle % 256
    ((0x7F, leBytes 1 0x0F ++ leBytes 1 0 ++ leBytes 1 h),
      s.setConn c { x with chunkOut := some (h, 0, Config.spdmEncode code body), nextHandle := h + 1 })
  else ((code, body), s)

/-- The `ATT_SESSION_OPEN` of a HOST ring that waits for its response. -/
def JEntry.awaits (e : JEntry) (c : Conn) : Bool :=
  match e.path, c with
  | .ring r, .host i => r == i && e.wait == .answer
  | _, _ => false

/-- Protect a message of a session (R209). What the message completes takes effect behind it: the keys of the open session
after FINISH_RSP, and the end of the session. -/
def State.protect (s : State) (sid : Nat) (msg : Bytes) : Bytes × State :=
  let x := s.session sid
  let y := { x with rsp := { x.rsp with seq := x.rsp.seq + 1 } }
  let y := match y.dataKeys with
    | some k => { y with req := k.1, rsp := k.2, dataKeys := none }
    | none => y
  (x.rsp.protect (x.id sid) msg,
    if x.ending then { s with spdm := { s.spdm with sessions := s.spdm.sessions.del sid } } else s.setSession sid y)

/-- A response as the transport carries it, in its session or outside. -/
def State.wireSpdm (s : State) (session : Option Nat) (code : Nat) (body : Bytes) : Bytes × State :=
  match session with
  | some sid => s.protect sid (Config.spdmEncode code body)
  | none => (Config.spdmEncode code body, s)

/-- The packets that carry a message, where its connection is MCTP (R456). -/
def State.carry (s : State) (c : Conn) (type : Nat) (body : Bytes) : State :=
  match c with
  | .mctp => s.emitAll (s.mctpPackets type body)
  | .host _ => s

/-- Deliver a response: to the command that waits for it, or on the connection. -/
def State.sendSpdm (s : State) (c : Conn) (session : Option Nat) (code : Nat) (body : Bytes) : State :=
  if s.loom.journal.any (fun e => e.awaits c) then
    let w := s.wireSpdm session code body
    { w.2 with loom := { w.2.loom with journal := w.2.loom.journal.map (fun e =>
        if e.awaits c then { e with wait := .ready, cont := .spdm w.1 } else e) } }
  else
    let f := s.fitSpdm c code body
    match session with
    | some sid =>
      let w := f.2.protect sid (Config.spdmEncode f.1.1 f.1.2)
      (w.2.emit (.spdmSecured c sid w.1)).carry c 0x06 w.1
    | none => (f.2.emit (.spdmRsp c none f.1.1 f.1.2)).carry c 0x05 (Config.spdmEncode f.1.1 f.1.2)

/-- A session ends (R213); a command of its path that is in progress has no requester any more. A waiting
`ATT_SESSION_OPEN` of its connection is answered with ERROR Unspecified. -/
def State.endSession (s : State) (sid : Nat) : State :=
  match s.spdm.sessions.find sid with
  | some x =>
    let t := if (x.running || x.inbox.isSome) && s.loom.journal.any (fun e => e.awaits x.conn) then
        s.sendSpdm x.conn (some sid) 0x7F (leBytes 1 0x05 ++ leBytes 1 0)
      else s
    { t with spdm := { t.spdm with sessions := t.spdm.sessions.del sid } }
  | none => s

/-- The 64 bytes of a reply. -/
def replyBytes (e : JEntry) (dup : Bool) (jid : Nat) (r : Reply) : Bytes :=
  let n := if r.ext.isEmpty then r.need else r.ext.length
  leBytes 2 r.status ++ leBytes 1 (bit dup 0 + bit (!r.ext.isEmpty) 1) ++ leBytes 1 0 ++ leBytes 4 e.seq
    ++ leBytes 8 jid ++ leBytes 4 n ++ leBytes 2 e.opcode ++ leBytes 2 0 ++ padTo 40 r.result

/-- Where a command's reply goes, before the command has a journal entry. -/
def Cmd.entry (c : Cmd) : JEntry :=
  { path := c.path, slot := c.slot, seq := c.seq, opcode := c.opcode, ldi := c.ldi, quiet := c.quiet,
    bufOff := c.bufOff, bufLen := c.bufLen, ctx := c.ctx, annot := c.annot }

/-- The CMD record of the trace (R424). -/
def State.traceCmd (s : State) (e : JEntry) (event status jid : Nat) : State :=
  s.traceWrite
    { src := 0, event := event, ldi := e.ldi, ctx := e.ctx, annot := e.annot.setWidth 32,
      marker := e.annot.msb, arg0 := e.opcode + status * 2 ^ 16, arg1 := jid }

/-- Deliver a reply on its path in the order of R250. -/
def State.deliver (s : State) (e : JEntry) (reply ext : Bytes) : State :=
  match e.path with
  | .ring i =>
    let base := partOffset i
    let s1 := (s.mboxWrite (base + 0x1400 + e.bufOff) ext).mboxWrite (base + 0x1000 + 64 * e.slot) reply
    let r := s1.ring i
    let s2 := s1.setRing i
      { r with reply := (r.reply + 1) % 2 ^ 32, evt := r.evt || !e.quiet, running := false }
    if i == 68 then s2.sendMctp 0x7E (leBytes 2 s.otp.integId ++ leBytes 2 1 ++ reply ++ ext) else s2
  | .session sid =>
    match s.spdm.sessions.find sid with
    | some x => (s.setSession sid { x with running := false }).sendSpdm x.conn (some sid) 0x7E (reply ++ ext)
    | none => s
  | .peer d => s.sendCtrl d 0x0D (leBytes 4 1 ++ reply ++ ext)

/-- Log a reply and advance NEXT (R252, R253). -/
def State.logReply (s : State) (e : JEntry) (reply : Bytes) : State :=
  let l : LoggedReply := { seq := e.seq, reply := reply }
  match e.path with
  | .ring i =>
    let r := s.ring i
    s.setRing i
      { r with next := (e.seq + 1) % 2 ^ 32, replyLog := (l :: r.replyLog).take 64 }
  | .session sid =>
    match s.spdm.sessions.find sid with
    | some x => s.setSession sid { x with next := (e.seq + 1) % 2 ^ 32, replyLog := (l :: x.replyLog).take 16 }
    | none => s
  | .peer _ => s

/-- Write a reply (R261 `complete`): counted, traced, logged where its SEQ was accepted. -/
def State.reply (s : State) (e : JEntry) (jid : Nat) (r : Reply) (logged : Bool) : State :=
  let b := replyBytes e false jid r
  let s := if r.status == stOk then s else s.bump 0x001
  let s := s.settle.traceCmd e 1 r.status jid
  let s := if logged then s.logReply e b else s
  s.deliver e b r.ext

/-! ### Checks 1 and 2 (R252) -/

/-- NEXT, the depth of the reply log and the log of a path; PEER queues have none. -/
def State.seqState (s : State) : Path → Option (Nat × Nat × List LoggedReply)
  | .ring i => let r := s.ring i; some (r.next, 64, r.replyLog)
  | .session sid => let x := s.session sid; some (x.next, 16, x.replyLog)
  | .peer _ => none

/-- How SEQ stands to NEXT. -/
inductive SeqCheck
  | fresh
  | duplicate (reply : Bytes)
  | outside
  deriving DecidableEq, Repr

def State.seqCheck (s : State) (path : Path) (seq : Nat) : SeqCheck :=
  match s.seqState path with
  | none => .fresh
  | some (next, w, log) =>
    if seq == next then .fresh
    else
      let back := (next + 2 ^ 32 - seq) % 2 ^ 32
      match log.find? (fun l => l.seq == seq) with
      | some l => if decide (1 ≤ back) && decide (back ≤ w) then .duplicate l.reply else .outside
      | none => .outside

/-- A logged reply as it is sent again: DUP set, EXT clear (R252). -/
def dupReply (b : Bytes) : Bytes := b.take 2 ++ leBytes 1 1 ++ b.drop 3

/-- A command that has passed checks 1 and 2 is counted (spec/20_observability.md). -/
def State.accepted (s : State) (c : Cmd) : State :=
  ((s.bump 0x000).bumpDom c.ldi 14).annotCount c.ldi true c.annot.msb (c.annot.setWidth 32) 1

/-- Run `k` on a command that passes checks 1 and 2; answer any other. -/
def State.inSequence (s : State) (c : Cmd) (k : State → State) : State :=
  match s.seqCheck c.path c.seq with
  | .duplicate b => (s.bump 0x002).deliver c.entry (dupReply b) []
  | .outside => s.reply c.entry 0 { status := stSequence } false
  | .fresh => k (s.accepted c)

/-! ### Checks 3 to 8 (R255) -/

/-- Check 5: the header LDI lies within the path's scope; for an own class, LDI 0 passes for `ATT_REPORT` alone (R256). Only a
TENANT names an LDI in `TRC_CONFIG` (R422). -/
def State.inScope (s : State) (sp : CmdSpec) (c : Cmd) : Bool :=
  match sp.perm[c.cls.column]? with
  | some .all => sp.opcode != 0x0820 || c.ldi == 0
  | some .own =>
    if c.ldi == 0 then sp.opcode == 0x0501
    else s.scopeLdi c.path == some c.ldi && (sp.opcode != 0x0820 || c.cls == .tenant)
  | some .dev => c.ldi == 0
  | _ => false

/-- The domain records that an entry locks. -/
def JEntry.domains (e : JEntry) : List Nat := if e.lockDomain then e.ldi :: e.lockDomains else e.lockDomains

/-- Some lock of one entry is also one of the other (R259). -/
def JEntry.clashes (a b : JEntry) : Bool :=
  let meets := fun (x y : List Nat) => x.any (fun i => y.contains i)
  meets a.domains b.domains || meets a.lockOffsets b.lockOffsets || meets a.lockMigs b.lockMigs || meets a.lockGranules b.lockGranules
    || meets a.lockPorts b.lockPorts || meets a.lockFences b.lockFences || meets a.lockContexts b.lockContexts
    || meets a.lockSlots b.lockSlots || meets a.lockPeers b.lockPeers || meets a.lockSlices b.lockSlices
    || meets a.lockWindows b.lockWindows || meets a.lockArrs b.lockArrs || meets a.lockStreams b.lockStreams
    || meets a.lockGroups b.lockGroups || (a.lockLcs && b.lockLcs)

/-- Check 8: a lock, a running retirement (R33), or a migration's freeze (R319). -/
def State.isLocked (s : State) (sp : CmdSpec) (c : Cmd) : Bool :=
  let d := s.dom c.ldi
  (d.retiring && sp.opcode != 0x0109) || (d.frozen && sp.frozen c)
    || (sp.opcode != 0x0107 && s.loom.journal.any (fun e => e.journaled && (sp.locks s c c.entry).clashes e))

/-- Check 6: the header, the buffer, the length and the reserved parameter bits. -/
def CmdSpec.formOk (sp : CmdSpec) (c : Cmd) : Bool :=
  c.reservedClear && c.bufferOk && decide (sp.len c.params ≤ c.plen) && sp.reserved c.params
    && allZero (c.params.drop (sp.len c.params))

/-- The reply of a session's command with n extended bytes fits the buffer of the `ATT_SESSION_OPEN` that waits to carry it. -/
def State.carriedFits (s : State) (c : Cmd) (n : Nat) : Bool :=
  match c.path with
  | .session sid => s.loom.journal.all (fun e => !e.awaits (s.session sid).conn
      || decide ((Config.spdmEncode 0x7E (List.replicate (64 + n) 0)).length + recordOverhead ≤ e.bufLen))
  | _ => true

/-- R251, within check 6: the bytes that an extended reply needs and has no room for. -/
def State.extShort (s : State) (sp : CmdSpec) (c : Cmd) : Option Nat :=
  match sp.ext s c with
  | some n => if c.rbuf && decide (n ≤ c.room) && s.carriedFits c n then none else some n
  | none => none

/-! ### The state as of the last commit (R258) -/

/-- A domain as of the last commit: what a suspended command has changed in its state, generation, policy, map and bindings is
not seen; an abort, which commits at once, is. -/
def State.committedDom (s : State) (ldi : Nat) : Domain :=
  let d := s.dom ldi
  let mine := s.loom.journal.filter (fun e => e.journaled && e.ldi == ldi)
  let slices := d.slices.filter (fun x => !mine.any (fun e => e.adds.contains x)) ++ mine.flatMap (·.rems)
  match mine.find? (·.lockDomain) with
  | some e =>
    let b := e.before.getD d
    { d with
      state := if d.state == .aborted then .aborted else b.state
      gen := b.gen, policy := b.policy, mapCur := b.mapCur, mapOpen := b.mapOpen, oldSlices := b.oldSlices, slices := slices }
  | none => { d with slices := slices }

/-- Objects as of the last commit: those that a suspended entry locks stand as its intent found them. An abort, which commits at
once, shows. -/
def State.holders (s : State) : List JEntry := s.loom.journal.filter (fun e => e.journaled && e.before.isSome && !e.overtaken)

/-- The key slots that an entry changes: those it locks, and with a domain record the fixed slots. -/
def JEntry.slots (e : JEntry) : List Nat := e.lockSlots ++ (if e.lockDomain then (List.range 8).map (8 * e.ldi + ·) else [])

/-- A key slot as of the last commit; whether a key is BUSY is the key store's own. -/
def State.committedSlots (s : State) : Map KeySlot :=
  s.holders.foldl (fun m e => e.slots.foldl (fun m i =>
    m.put i { e.beforeSlots.findD i {} with busy := (s.keys.slots.findD i {}).busy }) m) s.keys.slots

/-- The granule table as of the last commit. -/
def State.committedGot (s : State) : Map GotEntry :=
  s.tables.got.map (fun (x : Nat × GotEntry) =>
    match s.holders.find? (fun e => e.lockGranules.contains x.1 && e.ldi == x.2.ldi) with
    | some e => (x.1, e.beforeGot.findD x.1 {})
    | none => x)

/-- The reduction windows as of the last commit. -/
def State.committedWindows (s : State) : Map RedWindow :=
  s.holders.foldl (fun m e => e.beforeWindows.foldl (fun m x => m.put x.1 x.2) m) s.batten.windows

/-- What a suspended journal entry is making and readers do not see: the contexts of `DOM_ADD_CONTEXT`, the producers of
`FEN_REGISTER_PRODUCER`. -/
def State.unseen (s : State) (opcode : Nat) (f : JEntry → List Nat) : List Nat :=
  (s.loom.journal.filter (fun e => e.opcode == opcode)).flatMap f

/-- The state that read-only commands report: as of the last commit. -/
def State.committed (s : State) : State :=
  let doms : Map Domain := s.tables.domains.map (fun (x : Nat × Domain) => (x.1, s.committedDom x.1))
  let newCtx := s.unseen 0x0103 (·.lockContexts)
  let newProd := s.unseen 0x0621 (·.lockFences)
  let contexts : Map Context := s.tables.contexts.filter (fun (x : Nat × Context) => !newCtx.contains x.1)
  let fences : Map Fence := s.tables.fences.map (fun (x : Nat × Fence) =>
    if newProd.contains x.1 then (x.1, { x.2 with producer := 0 }) else x)
  { s with
    tables := { s.tables with domains := doms, contexts := contexts, fences := fences, got := s.committedGot }
    keys := { s.keys with slots := s.committedSlots }
    batten := { s.batten with windows := s.committedWindows } }

/-- The domain as a command's own checks see it: a read-only one reports the last commit. -/
def State.checkedDom (s : State) (sp : CmdSpec) (c : Cmd) : Domain :=
  if sp.journaled c then s.dom c.ldi else s.committedDom c.ldi

/-- The first failure among checks 3 to 8. -/
def State.checkFailure (s : State) (sp : CmdSpec) (c : Cmd) : Option Reply :=
  if c.hver != 1 then some { status := stUnsupported }
  else if sp.perm[c.cls.column]? == some Perm.none then some { status := stDenied }
  else if !s.inScope sp c then some { status := stDenied }
  else if !sp.formOk c then some { status := stBadParam }
  else match s.extShort sp c with
    | some n => some { status := stBadParam, need := n }
    | none =>
      if s.power.hold && sp.hold c then some { status := stPowerHold }
      else if s.isLocked sp c then some { status := stBusy }
      else none

/-- The first failure of check 9: the header LDI and the domain's state (R267, R291). -/
def State.ownFailure (s : State) (sp : CmdSpec) (c : Cmd) : Option Nat :=
  if !sp.ldiOk c then some stBadParam
  else if c.ldi != 0 && !sp.states.contains (s.checkedDom sp c).state then some stState
  else none

/-- The first failure among checks 3 to 8 and the start of check 9. -/
def State.firstFailure (s : State) (sp : CmdSpec) (c : Cmd) : Option Reply :=
  match s.checkFailure sp c with
  | some r => some r
  | none => (s.ownFailure sp c).map (fun st => { status := st })

/-! ### The journal (R260, R261) -/

def State.setEntry (s : State) (e : JEntry) : State :=
  { s with loom := { s.loom with journal := s.loom.journal.map (fun x => if x.jid == e.jid then e else x) } }

def State.dropEntry (s : State) (jid : Nat) : State :=
  { s with loom := { s.loom with journal := s.loom.journal.filter (fun x => x.jid != jid) } }

/-- Give an entry what it waits for and what remains of it. -/
def State.suspend (s : State) (jid : Nat) (w : Wait) (k : Cont) : State :=
  { s with loom := { s.loom with journal := s.loom.journal.map (fun x =>
      if x.jid == jid then { x with wait := w, cont := k, done := x.done + 1 } else x) } }

/-- A suspended read-only command stands in the list under a number that no journal entry has: one for each run. -/
def State.readOnlyId (s : State) : Nat := 2 ^ 64 + s.loom.readRuns

/-- Commit an entry, free it and write its reply. -/
def State.commit (s : State) (e : JEntry) (r : Reply) : State :=
  let s := s.dropEntry e.jid
  if e.journaled then
    ({ s with loom := { s.loom with lastJid := max s.loom.lastJid e.jid } }.bump 0x003).reply e e.jid r true
  else s.reply e 0 r true

/-- The number of a command's entry: its JID, or one for this run of a read-only command. -/
def State.newJid (s : State) (sp : CmdSpec) (c : Cmd) : Nat := if sp.journaled c then s.loom.nextJid else s.readOnlyId

/-- An entry notes the objects that it locks as they stand. -/
def JEntry.keep (e : JEntry) (s : State) : JEntry :=
  let slots : Map KeySlot := s.keys.slots.filter (fun (x : Nat × KeySlot) => e.slots.contains x.1)
  let got : Map GotEntry := s.tables.got.filter (fun (x : Nat × GotEntry) => e.lockGranules.contains x.1)
  let windows : Map RedWindow := s.batten.windows.filter (fun (x : Nat × RedWindow) => e.lockWindows.contains x.1)
  { e with beforeSlots := slots, beforeGot := got, beforeWindows := windows }

/-- A command's entry, with its locks (R259, R260). -/
def State.newEntry (s : State) (sp : CmdSpec) (c : Cmd) : JEntry :=
  ({ sp.locks s c c.entry with jid := s.newJid sp c, journaled := sp.journaled c, before := some (s.dom c.ldi) } : JEntry).keep s

/-- The state with a command's entry made: its effect begins. -/
def State.enter (s : State) (sp : CmdSpec) (c : Cmd) : State :=
  let j := sp.journaled c
  let next := if j then s.loom.nextJid + 1 else s.loom.nextJid
  let runs := if j then s.loom.readRuns else s.loom.readRuns + 1
  { s with loom := { s.loom with nextJid := next, readRuns := runs, journal := s.loom.journal ++ [s.newEntry sp c] } }

/-- The fence that a failing command names takes the command's status; when it is SIGNALLED or not valid, the domain error
fence does (R51). DEDUCED: a failure of checks 6 to 9 binds so, and R265's "no effect" is of the command
(notes/assumptions/41.md). -/
def State.failNamed (s : State) (sp : CmdSpec) (c : Cmd) (st : Nat) : State :=
  match sp.names c with
  | none => s
  | some h => if h == 0 || c.ldi == 0 then s else s.applyStatus ⟨c.ldi, h, st, .loom⟩

/-- A command fails: the fence it names, then the reply. -/
def State.failWith (s : State) (sp : CmdSpec) (c : Cmd) (st : Nat) : State :=
  (s.failNamed sp c st).reply c.entry 0 { status := st, result := sp.failResult } true

/-- A command fails checks 3 to 8. One that the class or the scope refuses reaches no fence. -/
def State.refuseWith (s : State) (sp : CmdSpec) (c : Cmd) (r : Reply) : State :=
  let s := if r.status == stDenied || r.status == stUnsupported then s else s.failNamed sp c r.status
  s.reply c.entry 0 { r with result := sp.failResult } true

/-- Check 9 and the effect of a command that has passed the others. -/
def State.runBody (s : State) (sp : CmdSpec) (c : Cmd) : State :=
  match sp.body (s.enter sp c) (c.named (s.newJid sp c)) with
  | .fail st => s.failWith sp c st
  | .refuse r => s.reply c.entry 0 r true
  | .done r t => sp.after c (t.commit (s.newEntry sp c) r)
  | .wait w k t => sp.after c (t.suspend (s.newJid sp c) w k)

/-- After a command that sends on SAs, those whose last counter it has taken end (R198). -/
def endSpentAfter (_ : Cmd) (s : State) : State := s.endSpent

/-- A fetched command from check 1 on. -/
def State.runCommand (s : State) (sp : CmdSpec) (c : Cmd) : State :=
  s.settle.inSequence c (fun s =>
    match s.checkFailure sp c with
    | some r => s.refuseWith sp c r
    | none => match s.ownFailure sp c with
      | some st => s.failWith sp c st
      | none => s.runBody sp c)

/-! ### Fetch (R245, R246, R257) -/

/-- Loom serves the command paths. -/
def State.pathsServed (s : State) : Bool := s.loomUp && s.loom.ringsOpen && !s.loom.halting && s.otp.resetDue.isNone

/-- Loom serves a ring or a session. -/
def State.serves (s : State) (src : Src) : Bool :=
  s.pathsServed && (match src with | .ring i => !s.ringClosed i | .session _ => true)

/-- A path's place in the rotation of R257: the rows of R243 in their order, the PEER queues as one path. DESIGN CHOICE: R257
gives no order of the turns (notes/assumptions/8.md). -/
def Path.place : Path → Nat
  | .ring i => i
  | .peer _ => 70
  | .session sid => 71 + sid

def srcPath : Src → Path
  | .ring i => .ring i
  | .session sid => .session sid

/-- A PEER_CMD with its whole slot (R254). -/
def isPeerCmd (m : CtrlMsg) : Bool := m.type == 0x0D && fieldAt m.body 0 1 == 0 && decide (260 ≤ m.body.length)

/-- The places with a command ready. -/
def State.readyPlaces (s : State) : List Nat :=
  (List.range 70).filter (fun i => (s.ring i).head != (s.ring i).tail && !(s.ring i).running && !s.ringClosed i)
    ++ (if s.shuttle.ctrlIn.any isPeerCmd then [70] else [])
    ++ (s.spdm.sessions.filter (fun x => x.2.inbox.isSome && !x.2.running)).map (fun x => 71 + x.1)

/-- Place j comes before place k in the rotation that starts at `turn`. -/
def turnBefore (turn k j : Nat) : Bool :=
  if turn ≤ k then decide (turn ≤ j) && decide (j < k) else decide (turn ≤ j) || decide (j < k)

/-- Place k has the turn: no ready place comes before it. -/
def State.hasTurn (s : State) (k : Nat) : Bool := !s.readyPlaces.any (turnBefore s.loom.turn k)

/-- The turn passes to the place after k. -/
def State.tookTurn (s : State) (k : Nat) : State := { s with loom := { s.loom with turn := k + 1 } }

/-- Loom fetches the next command from a path: it has the turn, and no suspended command can go on (R257). -/
def State.fetches (s : State) (src : Src) : Bool := s.serves src && !s.stepDue && s.hasTurn (srcPath src).place

/-- The oldest command that a path could give, while the path has no command in progress. -/
def State.waitingCmd (s : State) (src : Src) : Option Cmd :=
  match src with
  | .ring i =>
    let r := s.ring i
    if r.head == r.tail || r.running then none
    else
      let k := r.head % 16
      let base := partOffset i
      let hdr := s.mboxRead (base + 256 * k) 256
      let c : Cmd := { path := .ring i, slot := k, cls := ringClass i, hdr := hdr }
      some (if c.pbuf then
        { c with buffer := s.mboxRead (base + 0x1400 + min c.bufOff (partBuffer i)) (min c.plen 65536) } else c)
  | .session sid =>
    match s.spdm.sessions.find sid with
    | some x =>
      match x.inbox with
      | some b =>
        if x.running then none
        else some { path := .session sid, cls := s.pathClass (.session sid), hdr := padTo 256 b, buffer := b.drop 256 }
      | none => none
    | none => none

/-- The state when Loom has copied that command (R246 step 4): it is traced as fetched (R424). -/
def State.fetched (s : State) (c : Cmd) : State :=
  let heads := (c.hdr.take 32 :: s.loom.headers).take 512
  let s := ({ s with loom := { s.loom with headers := heads } }.tookTurn c.path.place).traceCmd c.entry 0 0 0
  match c.path with
  | .ring i => let r := s.ring i; s.setRing i { r with head := (r.head + 1) % 2 ^ 32, running := true }
  | .session sid => s.setSession sid { s.session sid with inbox := none, running := true }
  | .peer _ => s

/-- The ring or session at a place of the rotation. -/
def placeSrc (k : Nat) : Option Src := if k < 70 then some (.ring k) else if k == 70 then none else some (.session (k - 71))

/-- The command that has the turn, when its opcode is not defined: check 3 answers it. -/
def State.undefinedNext (s : State) : Option Cmd :=
  if s.pathsServed && !s.stepDue then
    (((s.readyPlaces.find? s.hasTurn).bind placeSrc).bind s.waitingCmd).filter (fun c => !opcodes.contains c.opcode)
  else none

/-- Commands that wait on the rings and the sessions. -/
def State.readyCount (s : State) : Nat :=
  ((List.range 70).map (fun i => ((s.ring i).tail + 2 ^ 32 - (s.ring i).head) % 2 ^ 32)).foldl (· + ·) s.spdm.sessions.length

/-- Answer the commands of undefined opcode that have the turn, `n` at most: no row of the table is theirs. -/
def State.drain (s : State) : Nat → State
  | 0 => s
  | n + 1 => match s.undefinedNext with
    | some c => ((s.fetched c).settle.inSequence c (fun s => s.reply c.entry 0 { status := stUnsupported } true)).drain n
    | none => s

/-- The same, as far as the rotation comes to such commands. -/
def State.drainTurns (s : State) : State := s.drain s.readyCount

/-- The command of this entry that Loom fetches next, when it is the one that the path has. -/
def State.commandAt (s : State) (sp : CmdSpec) (src : Src) : Option Cmd :=
  if s.fetches src then (s.waitingCmd src).filter (fun c => c.opcode == sp.opcode) else none

/-- Fetch and run the oldest command of a path, when it is of this entry's opcode. -/
def State.runSrc (s : State) (sp : CmdSpec) (src : Src) : State :=
  let t := if (s.commandAt sp src).isSome then s else s.drainTurns
  match t.commandAt sp src with
  | some c => ((t.fetched c).runCommand sp c).drainTurns
  | none => t

end Sys2Proof.Machine
end

