-- ==== Sys2Proof/Machine/Domains.lean ====
section
/-!
DEFINITION. The domain commands (spec/13_commands_resources.md R269-R277) over spec/02_domains.md R29-R54: creation, policy,
contexts, seal, quiesce, abort, retirement, query.
-/
namespace Sys2Proof.Machine

/-! ### Pools and grants (R37) -/

/-- Grants in the row order of R37. -/
def Grant.list (g : Grant) : List Nat :=
  [g.keys, g.granules, g.contexts, g.fences, g.arrs, g.acc, g.windows, g.selvedge, g.spindle, g.reply]

/-- Device pools, and the range of one domain's grant. -/
def poolSizes : List Nat := [2048, 4194304, 4095, 262143, 262143, 1024, 256, 48, 64, 262144]
def grantMin : List Nat := [0, 0, 1, 1, 0, 0, 0, 0, 0, 0]
def grantMax : List Nat := [64, 4194304, 63, 262143, 262143, 1024, 256, 16, 64, 262144]

def leAll (a b : List Nat) : Bool := (List.zip a b).all (fun x => decide (x.1 ≤ x.2))

/-- What the live domains hold of each pool. -/
def State.granted (s : State) : List Nat :=
  (s.ldisWith (fun d => d.state.live)).foldl (fun acc l => List.zipWith (· + ·) acc (s.dom l).grant.list)
    (List.replicate 10 0)

def State.grantFits (s : State) (g : Grant) : Bool := leAll (List.zipWith (· + ·) s.granted g.list) poolSizes

/-! ### DOM_CREATE (R29, R75, R76, R269) -/

/-- The LDI that R29 selects. -/
def State.chooseLdi (s : State) : Option Nat :=
  ((List.range 255).map (· + 1)).find? (fun l =>
    let d := s.dom l
    !d.state.live && d.gen != 65535)

/-- Some LDI is exhausted (R76). -/
def State.someExhausted (s : State) : Bool := !(s.ldisWith (fun d => d.gen == 65535)).isEmpty

/-- The device can create domains and name itself (R193, R200, R463). -/
def State.rootUp (s : State) : Bool := s.keys.rootReady && !s.keys.zeroized

def grantOf (c : Cmd) : Grant :=
  { keys := c.p 20 1, contexts := c.p 21 1, selvedge := c.p 22 1, spindle := c.p 23 1, acc := c.p 24 2,
    windows := c.p 26 2, granules := c.p 28 4, fences := c.p 32 4, arrs := c.p 36 4, reply := c.p 40 4 }

def State.fdtQuarantined (s : State) (fdt : Nat) : Bool := (s.tables.quarantine ++ s.tables.quarWait).any (fun q => q.fdt == fdt)

/-- The quarantine takes no further FDT (R54). -/
def State.quarantineFull (s : State) : Bool :=
  decide (quarantinePlaces ≤ s.tables.quarantine.length) || !s.tables.quarWait.isEmpty

/-- A new domain's record on LDI l. -/
def State.newDomain (s : State) (l : Nat) (c : Cmd) : Domain :=
  { state := .building, gen := (s.dom l).gen, gdid := c.p 0 4, fdt := c.p 4 2, rank := c.p 6 2, members := c.p 8 2,
    policy := BitVec.ofNat 32 (c.p 12 4), tkd := BitVec.ofNat 384 (c.p 48 48), vmfn := c.p 10 1, grant := grantOf c,
    mapCur := c.p 16 4, fineEver := s.right 0 || s.right 1,
    usage := { start := s.now, startTime := s.discTime, startFlags := s.timeFlags, upTo := s.now },
    meterNext := s.now + secTicks }

/-- DOM_CREATE's own checks and effect. A grant outside its range is `ST_BAD_PARAM`, R269's first matching row, although R37
names `ST_NO_RESOURCE` for a grant above its per-domain limit: DESIGN CHOICE (notes/assumptions/42.md). MAP_CUR and OPEN go to
the host at once (R141). -/
def createBody (s : State) (c : Cmd) : Res :=
  let gdid := c.p 0 4
  let fdt := c.p 4 2
  let vm := c.p 10 1
  let g := grantOf c
  let inUse := !(s.ldisWith (fun d => d.state.live && d.fdt == fdt)).isEmpty
  if !s.rootUp || !s.boot.devidSet || (vm != 0 && (s.vmLdi vm).isSome) || s.fdtQuarantined fdt
    || (!inUse && s.quarantineFull) then .fail stBusy
  else if gdid == 0 || fdt == 0 || (s.ldiOfGdid gdid).isSome || inUse || c.p 8 2 == 0
    || decide (c.p 8 2 ≤ c.p 6 2) || decide (63 < vm) || !leAll grantMin g.list || !leAll g.list grantMax then .fail stBadParam
  else match s.chooseLdi with
    | none => .fail (if s.someExhausted then stExhausted else stNoResource)
    | some l =>
      if !s.grantFits g then .fail stNoResource
      else
        let s1 := (s.setDom l (s.newDomain l c)).installMemKeys l
        match s1.allocFence l 0 with
        | none => .fail stNoResource
        | some (h, s2) =>
          let s3 := (s2.publish [mapRec l (s2.dom l).mapCur false]).2
          .ok { s3.setDom l { s3.dom l with errFence := h } with otp := { s3.otp with zeroizedFlag := false } }
            (leBytes 1 l ++ leBytes 1 0 ++ leBytes 2 (s2.dom l).gen ++ leBytes 4 h)

def domCreateSpec : CmdSpec :=
  { opcode := 0x0101, perm := permManager, ldiOk := ldiZero, hold := always, len := fun _ => 96
    locks := fun s _ e => { e with lockDomains := s.chooseLdi.toList }
    reserved := fun p => fieldAt p 11 1 == 0 && decide (fieldAt p 12 4 < 64) && fieldAt p 44 4 == 0
    body := createBody }

/-- DOM_CREATE (R269). -/
def execDomCreate (src : Src) (s : State) : Host.Outcome State Fault Refusal := .next (s.runSrc domCreateSpec src)

/-! ### DOM_SET_POLICY (R35, R270) -/

/-- The policy word refuses a port class (R24). -/
def policyRefuses (policy : BitVec 32) (cls : Nat) : Bool :=
  (policy.getLsbD 3 && cls == 1) || (policy.getLsbD 4 && cls == 0)

/-- Ports bound to a domain. -/
def Domain.ports (d : Domain) : List Nat := ((d.slices ++ d.oldSlices).filter (fun x => x.kind == 2)).map (·.id)

/-- What class TENANT may not do: clear DENY_AUTH or DENY_CLEAR, or set AUTO_RUN. -/
def loosens (old new : BitVec 32) : Bool :=
  (old.getLsbD 3 && !new.getLsbD 3) || (old.getLsbD 4 && !new.getLsbD 4) || (!old.getLsbD 5 && new.getLsbD 5)

/-- A newly set DENY bit refuses a port that is bound. -/
def State.refusesBound (s : State) (d : Domain) (new : BitVec 32) : Bool :=
  d.ports.any (fun p => policyRefuses new (s.portClass p) && !policyRefuses d.policy (s.portClass p))

def setPolicyBody (s : State) (c : Cmd) : Res :=
  let d := s.dom c.ldi
  let new := BitVec.ofNat 32 (c.p 0 4)
  if (c.cls == .tenant && loosens d.policy new) || s.refusesBound d new then .fail stDenied
  else .ok (s.setDom c.ldi { d with policy := new }) (bvBytes 4 new)

/-- The lock of a command that changes the domain record. -/
def lockDom (_ : State) (_ : Cmd) (e : JEntry) : JEntry := { e with lockDomain := true }

def domSetPolicySpec : CmdSpec :=
  { opcode := 0x0102, perm := permSeal, states := stBuilding, len := fun _ => 4
    reserved := fun p => decide (fieldAt p 0 4 < 64)
    locks := lockDom, body := setPolicyBody }

/-- DOM_SET_POLICY (R270). -/
def execDomSetPolicy (src : Src) (s : State) : Host.Outcome State Fault Refusal := .next (s.runSrc domSetPolicySpec src)

/-! ### Contexts (R44, R271, R272, R52) -/

def covered (ranges : List (Nat × Nat)) (i : Nat) : Bool := ranges.any (fun r => decide (r.1 ≤ i) && decide (i < r.1 + r.2))

/-- Consecutive 4-byte entries of a parameter list. -/
def words (b : Bytes) (off n : Nat) : List Nat := (List.range n).map (fun i => fieldAt b (off + 4 * i) 4)

/-- Live contexts of an LDI. -/
def State.contextsOf (s : State) (ldi : Nat) : List (Nat × Context) := s.tables.contexts.filter (fun x => x.2.ldi == ldi)

def State.freeContext (s : State) : Option Nat :=
  ((List.range 4095).map (· + 1)).find? (fun i => (s.tables.contexts.find i).isNone)

def State.freeCslot (s : State) (ldi : Nat) : Option Nat :=
  ((List.range 63).map (· + 1)).find? (fun i => !(s.contextsOf ldi).any (fun x => x.2.slot == i))

/-- A list of 4-byte entries holds at most 54 of them inline (R271, R284). -/
def inlineOk (c : Cmd) (n : Nat) : Bool := c.pbuf || decide (n ≤ 54)

def addContextBody (s : State) (c : Cmd) : Res :=
  let n := c.p 0 2
  let qs := words c.params 4 n
  if n == 0 || decide (1024 < n) || !inlineOk c n || qs.eraseDups.length != n || !qs.all (covered s.bp.queues) then .fail stBadParam
  else if qs.any (fun q => s.tables.contexts.vals.any (fun x => x.queues.contains q)) then .fail stBusy
  else if decide ((s.dom c.ldi).grant.contexts ≤ (s.contextsOf c.ldi).length) then .fail stNoResource
  else match s.freeContext, s.freeCslot c.ldi with
    | some i, some k =>
      let x : Context := { ldi := c.ldi, slot := k, queues := qs }
      let t := ({ s with tables := { s.tables with contexts := s.tables.contexts.put i x } }).publish
        (qs.map (fun q => queueRec q c.ldi i true))
      let e := t.2.loom.journal.find? (fun e => e.jid == c.jid)
      .wait (.bp t.1) (.reply (leBytes 2 i ++ leBytes 1 k))
        (match e with | some e => t.2.setEntry { e with lockContexts := [i] } | none => t.2)
    | _, _ => .fail stNoResource

def frozenAlways : Cmd → Bool := always

def domAddContextSpec : CmdSpec :=
  { opcode := 0x0103, perm := permDriver, states := stToRunning, frozen := frozenAlways
    len := fun p => 4 + 4 * fieldAt p 0 2
    reserved := fun p => fieldAt p 2 2 == 0 && (words p 4 (fieldAt p 0 2)).all (fun q => decide (q < 65536))
    body := addContextBody }

/-- DOM_ADD_CONTEXT (R271). -/
def execDomAddContext (src : Src) (s : State) : Host.Outcome State Fault Refusal := .next (s.runSrc domAddContextSpec src)

/-- The slot of a context, 0 when it is not live. -/
def State.contextSlot (s : State) (ctx : Nat) : Nat := ((s.tables.contexts.find ctx).map (·.slot)).getD 0

/-- Granules of the LDI's generation, OWNED or HELD, that are private to a context slot. -/
def State.privateGranules (s : State) (ldi slot : Nat) : List Nat :=
  (s.tables.got.filter (fun x => x.2.ldi == ldi && x.2.gen == (s.dom ldi).gen && (x.2.state == .owned || x.2.state == .held)
    && x.2.cslot == slot && slot != 0)).map Prod.fst

def releaseContextBody (s : State) (c : Cmd) : Res :=
  let i := c.p 0 4
  match s.tables.contexts.find i with
  | some x =>
    if x.ldi != c.ldi then .fail stBadParam
    else
      let s1 := { s with tables := { s.tables with contexts := s.tables.contexts.put i { x with releasing := true } } }
      let t := s1.publish (x.queues.map (fun q => queueRec q c.ldi i false))
      .wait (.bp t.1) (.releaseContext c.ldi i) t.2
  | none => .fail stBadParam

def domReleaseContextSpec : CmdSpec :=
  { opcode := 0x0104, perm := permDriver, states := stToAborted, frozen := frozenAlways, len := fun _ => 4
    reserved := fun p => decide (fieldAt p 0 4 < 4096)
    locks := fun s c e => { e with
      lockContexts := [c.p 0 4]
      lockFences := (s.armedOf c.ldi).filter (fun i => (s.fence i).producer == c.p 0 4)
      lockGranules := s.privateGranules c.ldi (s.contextSlot (c.p 0 4)) }
    body := releaseContextBody }

/-- DOM_RELEASE_CONTEXT (R272): the rest of R52 follows the acknowledgement. -/
def execDomReleaseContext (src : Src) (s : State) : Host.Outcome State Fault Refusal :=
  .next (s.runSrc domReleaseContextSpec src)

/-- Bind `ST_CONTEXT_GONE`, with which a pending operation of a released context ends, to the operation's fence; a fence
that the context produces has its own status instead (R51). -/
def State.goneFence (s : State) (ldi ctx handle : Nat) (o : FenceOrigin) : State :=
  if s.fenceNamed ldi handle && (s.fence (fenceIndex handle)).producer == ctx then s
  else s.post ldi handle stContextGone o

/-- A host request of the context. -/
def LineReq.ofContext (r : LineReq) (ldi ctx : Nat) : Bool := r.src.isHost && r.ldi == ldi && r.ctx == ctx

/-- Cancel what one lane holds of a context: what waits is answered now, what has been issued when it returns. -/
def State.cancelLane (s : State) (ldi ctx : Nat) (k n : Nat) : State × Nat :=
  let l := s.lane n
  let waiting := ((l.misses.flatMap Prod.snd) ++ l.held).filter (fun r => r.ofContext ldi ctx)
  let keep := fun (r : LineReq) => !r.ofContext ldi ctx
  let s := s.setLane n { l with misses := l.misses.map (fun m => (m.1, m.2.filter keep)), held := l.held.filter keep }
  let a := waiting.foldl (fun (x : State × Nat) r =>
    ((x.1.goneFence ldi ctx r.fence .weft).settle.answer n r stContextGone 0, x.2 + 1)) (s, k)
  l.reads.foldl (fun (x : State × Nat) g =>
    if g.req.ofContext ldi ctx && g.cancelled == 0 then
      let y := x.1.goneFence ldi ctx g.req.fence .weft
      (y.setLane n ((y.lane n).setGroup { g with cancelled := stContextGone }), x.2 + 1)
    else x) a

/-- The `BA_` request of an unapplied entry of the context. -/
def BEntry.gone (e : BEntry) (ldi ctx : Nat) : Option Nat :=
  match e.src with
  | .ba q => if e.ldi == ldi && e.ctx == ctx && !e.applied then some q else none
  | _ => none

/-- Cancel the context's `BA_` requests whose entries wait in the router, served or not. -/
def State.cancelBatten (s : State) (ldi ctx k : Nat) : State × Nat :=
  let es := (s.batten.units.vals.flatMap BUnit.entries).filter (fun e => (e.gone ldi ctx).isSome)
  let qs := (es.filterMap (fun e => e.gone ldi ctx)).eraseDups
  let units : Map BUnit := s.batten.units.map (fun (x : Nat × BUnit) =>
    let keep := fun (e : BEntry) => (e.gone ldi ctx).isNone
    (x.1, { x.2 with queue := x.2.queue.filter keep, inbox := x.2.inbox.filter keep }))
  let s := { s with batten := { s.batten with units := units } }
  qs.foldl (fun (x : State × Nat) q =>
    match es.find? (fun e => e.gone ldi ctx == some q) with
    | some e =>
      let y := (x.1.goneFence ldi ctx e.fence .batten).settle
      let t := { y with batten := { y.batten with reqs := y.batten.reqs.del q } }
      (match e.work, y.batten.reqs.find q with
       | .atomic _ _ _ _, some r => t.emit (.baRsp r.tag stContextGone 0)
       | _, _ => t, x.2 + 1)
    | none => x) (s, k)

/-- Put granules into SCRUBBING and into the scrub engine's queue. -/
def State.scrubGranules (s : State) (ldi : Nat) (gs : List Nat) (toOwned : Bool) (jid : Option Nat) : State :=
  let gen := (s.dom ldi).gen
  let mark := fun (e : GotEntry) => { e with state := GranState.scrubbing, cslot := if toOwned then 0 else e.cslot }
  let s := gs.foldl (fun s g => s.setGot g (mark (s.got g))) (s.accrue ldi)
  let items := gs.map (fun g => ({ granule := g, ldi := ldi, gen := gen, toOwned := toOwned, jid := jid } : ScrubItem))
  { s with weft := { s.weft with scrubQ := s.weft.scrubQ ++ items } }

/-- R52 from the host's acknowledgement to the commit: fences, operations, private granules, the ID and the slot. -/
def State.finishRelease (s : State) (ldi ctx : Nat) : State × Bytes :=
  let s := s.settle
  let slot := s.contextSlot ctx
  let made := (s.armedOf ldi).filter (fun i => (s.fence i).producer == ctx)
  let s := made.foldl (fun s i => s.signal i stProducerGone 0) s
  let a := s.weft.lanes.keys.foldl (fun (x : State × Nat) n => x.1.cancelLane ldi ctx x.2 n) (s, 0)
  let b := a.1.cancelBatten ldi ctx a.2
  let s := b.1.settle
  let mine := s.privateGranules ldi slot
  let s := s.scrubGranules ldi mine true none
  ({ s with tables := { s.tables with contexts := s.tables.contexts.del ctx } },
   leBytes 4 made.length ++ leBytes 4 b.2 ++ leBytes 4 mine.length)

/-! ### DOM_SEAL (R31, R32, R36, R194, R273, R391) -/

/-- The domain begins to run: its bindings open, and every peer must be heard anew (R109). -/
def State.startRunning (s : State) (ldi : Nat) : State :=
  let sas : Map Sa := s.shuttle.sas.map (fun (x : Nat × Sa) => (x.1, { x.2 with heard := x.2.heard.filter (fun l => l != ldi) }))
  let o := s.time.offsets.findD ldi {}
  { s.setDom ldi { s.dom ldi with state := .running } with
    shuttle := { s.shuttle with sas := sas }
    time := { s.time with offsets := s.time.offsets.put ldi { o with periodicAt := s.now } } }

/-- The `DOM_SEAL` that leaves BUILDING, and its publication. -/
def sealBuilding (s : State) (c : Cmd) : Res :=
  if !s.drbgReady then .fail stState
  else
    let n := s.draw
    let d := s.dom c.ldi
    let s1 := n.2.setFixed c.ldi 5 7 (keyOf (drawBytes n.1 32))
    let s2 := if d.autoRun then s1.startRunning c.ldi else s1.setDom c.ldi { s1.dom c.ldi with state := .sealed_ }
    let s3 := (d.neighbours.vals.eraseDups).foldl (fun s p => s.sendPolicy p c.ldi) s2
    let t := s3.publish (neighReq c.ldi d.rank d.members :: (if d.autoRun then [gateRec c.ldi true] else []))
    if d.autoRun then .wait (.bp t.1) (.reply (leBytes 1 3)) t.2 else .ok t.2 (leBytes 1 2)

def sealBody (s : State) (c : Cmd) : Res :=
  match c.cls == .tenant, (s.dom c.ldi).state with
  | false, .building => sealBuilding s c
  | true, .sealed_ =>
    let t := (s.startRunning c.ldi).publish [gateRec c.ldi true]
    .wait (.bp t.1) (.reply (leBytes 1 3)) t.2
  | true, .running => .ok s (leBytes 1 3)
  | _, _ => .fail stState

def domSealSpec : CmdSpec :=
  { opcode := 0x0105, perm := permSeal, states := stEvery, locks := lockDom, body := sealBody, after := endSpentAfter }

/-- DOM_SEAL (R273). -/
def execDomSeal (src : Src) (s : State) : Host.Outcome State Fault Refusal := .next (s.runSrc domSealSpec src)

/-! ### DOM_QUIESCE, DOM_ABORT (R274, R275) -/

def quiesceBody (s : State) (c : Cmd) : Res :=
  let d := s.dom c.ldi
  match d.state with
  | .building | .sealed_ | .running =>
    let t := (s.setDom c.ldi { d with state := .quiescing }).publish [gateRec c.ldi false]
    .wait (.bp t.1) (.quiesce c.ldi) t.2
  | _ => .ok s (leBytes 4 (s.inflight c.ldi))

def domQuiesceSpec : CmdSpec :=
  { opcode := 0x0106, perm := permManager, states := stToAborted, locks := lockDom, body := quiesceBody }

/-- DOM_QUIESCE (R274). -/
def execDomQuiesce (src : Src) (s : State) : Host.Outcome State Fault Refusal := .next (s.runSrc domQuiesceSpec src)

def abortBody (s : State) (c : Cmd) : Res :=
  if (s.dom c.ldi).state == .aborted then .ok s (leBytes 4 0)
  else .ok (s.abort c.ldi (if c.cls == .tenant then 0x02 else 0x01) true) (leBytes 4 (s.armedOf c.ldi).length)

def domAbortSpec : CmdSpec :=
  { opcode := 0x0107, perm := permAbort, states := stToAborted, locks := lockDom, body := abortBody, after := endSpentAfter }

/-- DOM_ABORT (R275). -/
def execDomAbort (src : Src) (s : State) : Host.Outcome State Fault Refusal := .next (s.runSrc domAbortSpec src)

/-! ### DOM_RETIRE (R53, R54, R276) -/

/-- Steps 1 to 3 of R53: fences, generation and keys, dropped work. -/
def retireBody (s : State) (c : Cmd) : Res :=
  let l := c.ldi
  let s := (s.settle.signalAll l 0x09).rcEnd l
  let s := s.accrue l
  let w := s.weftDroppable l
  let p := s.shuttleInflight l
  let b := s.battenDroppable l
  let d := s.dom l
  let s := s.setDom l { d with gen := d.gen + 1, retiring := true, frozen := false, mig := none }
  let s := (s.dropKeys l endsAtAdvance).dropGroupKeys l
  let s := (((s.retireWeft l).dropRxq (fun p => p.ldi == l)).discardBatten l).abortPulls l
  .wait (.inflight l) (.retireDrain l w p b) s

/-- Objects of an LDI that its retirement frees, as locks name them. -/
def State.windowsOf (s : State) (ldi : Nat) : List Nat := (s.batten.windows.filter (fun x => x.2.ldi == ldi)).map Prod.fst
def State.arrsOf (s : State) (ldi : Nat) : List Nat := (s.tables.arrs.filter (fun x => x.2.ldi == ldi)).map Prod.fst
def streamKey (ldi stream : Nat) : Nat := stream * 256 + ldi
def State.streamKeysOf (s : State) (ldi : Nat) : List Nat :=
  (s.spindle.streams.filter (fun x => x.ldi == ldi)).map (fun x => streamKey ldi x.stream)
def State.groupsOf (s : State) (ldi : Nat) : List Nat := (s.shuttle.groups.filter (fun x => x.2.ldi == ldi)).map Prod.fst

def domRetireSpec : CmdSpec :=
  { opcode := 0x0108, perm := permManager, states := [.quiescing, .aborted]
    locks := fun s c e => { e with
      lockDomain := true
      lockMigs := [c.ldi]
      lockContexts := (s.contextsOf c.ldi).map Prod.fst
      lockFences := s.fencesOf c.ldi
      lockWindows := s.windowsOf c.ldi
      lockArrs := s.arrsOf c.ldi
      lockStreams := s.streamKeysOf c.ldi
      lockSlots := s.poolSlots c.ldi
      lockGroups := s.groupsOf c.ldi }
    body := retireBody }

/-- DOM_RETIRE (R276). -/
def execDomRetire (src : Src) (s : State) : Host.Outcome State Fault Refusal := .next (s.runSrc domRetireSpec src)

/-- Step 5 of R53: the unbindings that it publishes. -/
def State.retirePublish (s : State) (ldi : Nat) : Nat × State :=
  let qs := (s.contextsOf ldi).flatMap (fun x => x.2.queues.map (fun q => queueRec q ldi x.1 false))
  let ss := (s.dom ldi).sliceList.map (fun x => sliceRec x ldi false)
  let ps := (s.fencesOf ldi).filter (fun i => (s.fence i).producer != 0)
  s.publish (qs ++ ss ++ ps.map (fun i => producerRec ldi (fenceHandle i (s.fence i).epoch) 0))

/-- Free an LDI's tables (R53 step 5, R241, R416, R418). -/
def State.freeTables (s : State) (ldi : Nat) : State :=
  let s := (s.fencesOf ldi).foldl State.freeFence s
  let s := ((s.spdm.sessions.filter (fun x => x.2.ldi == some ldi)).map Prod.fst).foldl State.endSession s
  let mine := (s.tables.arrs.filter (fun x => x.2.ldi == ldi)).map Prod.fst
  let contexts : Map Context := s.tables.contexts.filter (fun (x : Nat × Context) => x.2.ldi != ldi)
  let arrs : Map Arrival := s.tables.arrs.filter (fun (x : Nat × Arrival) => x.2.ldi != ldi)
  let wins : Map RedWindow := s.batten.windows.filter (fun (x : Nat × RedWindow) => x.2.ldi != ldi)
  let groups : Map Group := s.shuttle.groups.filter (fun (x : Nat × Group) => x.2.ldi != ldi)
  let annots : Map Annot := s.counters.annots.filter (fun (x : Nat × Annot) => x.2.ldi != ldi)
  { s with
    tables := { s.tables with contexts := contexts, arrs := arrs, arrFreed := s.tables.arrFreed ++ mine }
    batten := { s.batten with windows := wins }
    shuttle := { s.shuttle with groups := groups }
    spindle := { s.spindle with streams := s.spindle.streams.filter (fun x => x.ldi != ldi) }
    time := { s.time with offsets := s.time.offsets.del ldi }
    counters := { s.counters with
      annots := annots
      armed := s.counters.armed.filter (fun a => a.ldi != ldi)
      sets := s.counters.sets.filter (fun a => a.ldi != ldi) } }

/-- Peers with which the domain's POLICY exchange has passed (R54). -/
def State.memberPeers (s : State) (ldi : Nat) : List Nat := s.shuttle.sas.keys.filter (fun p => s.exchPassed p ldi)

/-- The retired FDT enters the quarantine, or waits for a place; RETIRED goes to every member known (R54). -/
def State.reportRetired (s : State) (ldi : Nat) : State :=
  let d := s.dom ldi
  let peers := s.memberPeers ldi
  let q : Quarantined :=
    { fdt := d.fdt, gdid := d.gdid, peers := peers.filter (fun p => !(s.exch p d.gdid).retired), since := s.now }
  let t := s.tables
  let t : Tables := if s.quarantineFull then { t with quarWait := t.quarWait ++ [q] }
    else { t with quarantine := t.quarantine ++ [q] }
  let s := peers.foldl (fun s p => s.sendCtrl p 0x09 (retiredBody d.gdid d.fdt)) { s with tables := t }
  let sas : Map Sa := s.shuttle.sas.map (fun (x : Nat × Sa) => (x.1, { x.2 with policy := x.2.policy.del d.gdid }))
  { s with shuttle := { s.shuttle with sas := sas } }

/-- RETIRED (R53 step 5, R221, R329, R333): what has been detected is reported first, then the FINAL record, the tables, the
host function and its ring (R468). -/
def State.finishRetire (s : State) (ldi : Nat) : State :=
  let s := (s.drainInteg.finalRecord ldi).freeTables ldi
  let s := (s.functionsOf ldi).foldl (fun s f => (s.tdiUnlock f).forgetInstalls f) s
  let s := s.dropKeys ldi (fun t => t != 0)
  let d := s.dom ldi
  let s := if d.vmfn == 0 then s else s.setRing d.vmfn { badTail := (s.ring d.vmfn).badTail }
  let s := s.reportRetired ldi
  s.setDom ldi
    { state := .retired, gen := d.gen, gdid := d.gdid, fdt := d.fdt, rank := d.rank, members := d.members,
      policy := d.policy, tkd := d.tkd, mapCur := d.mapCur, fineEver := d.fineEver }

def retireReply (gen weft shuttle batten : Nat) : Bytes :=
  leBytes 2 gen ++ leBytes 1 (bit (gen == 65535) 0) ++ leBytes 1 0 ++ leBytes 4 weft ++ leBytes 4 shuttle ++ leBytes 4 batten

/-! ### DOM_QUERY (R277) -/

def Domain.flagByte (d : Domain) : Nat := bit d.retiring 0 + bit (d.gen == 65535) 1 + bit d.mapOpen 2

/-- The 64-bit word of a fence entry (R45). -/
def Fence.word (f : Fence) : Nat :=
  f.ldi + f.producer * 2 ^ 8 + (match f.state with | .free => 0 | .armed => 1 | .signalled => 2) * 2 ^ 20
    + f.epoch * 2 ^ 22 + f.status * 2 ^ 36 + f.cause * 2 ^ 52

/-- The entry of an arrival counter (R124). -/
def Arrival.word (a : Arrival) : Nat := a.bytes + a.fence * 2 ^ 46

/-- The metadata word of a key slot (R191). -/
def KeySlot.word (k : KeySlot) : Nat := k.type + k.ldi * 2 ^ 4 + k.gen * 2 ^ 12 + bit k.busy 28

/-- The bulk engine works under KMIG of the LDI: a granule part is on its way (R320, R321). -/
def State.partOnWay (s : State) (ldi : Nat) : Bool :=
  s.loom.scans.any (fun x => x.ldi == ldi && (x.kind == .export_ || x.kind == .import_))

/-- A pool slot of the LDI as a report shows it: KMIG is BUSY while the bulk engine uses it (R191). -/
def State.poolSlot (s : State) (ldi i : Nat) : KeySlot :=
  let k := s.keySlot i
  { k with busy := k.busy || (k.type == 11 && s.partOnWay ldi) }

def slotRecord (i : Nat) (k : KeySlot) : Bytes :=
  leBytes 2 i ++ leBytes 2 0 ++ leBytes 4 (if k.type == 8 then k.keyId else 0) ++ leBytes 8 k.word

/-- What a domain uses of each row of its grant (R37): for Selvedge entries the most in any lane, for the Spindle share
none, which nothing measures (notes/assumptions/30.md). -/
def State.used (s : State) (ldi : Nat) : List Nat :=
  [(s.poolSlots ldi).length, s.granulesOf ldi, (s.contextsOf ldi).length, (s.fencesOf ldi).length,
   (s.tables.arrs.filter (fun x => x.2.ldi == ldi)).length,
   ((s.batten.windows.vals.filter (fun w => w.ldi == ldi)).map (·.accUnits)).foldl (· + ·) 0,
   (s.batten.windows.vals.filter (fun w => w.ldi == ldi)).length,
   (s.weft.lanes.vals.map (fun l => l.selvHeld ldi)).foldl max 0, 0, s.rcUsed ldi]

/-- The records of a view by index, ascending. -/
def State.viewRecords (s : State) (ldi view : Nat) : List (Nat × Bytes) :=
  let d := s.dom ldi
  match view with
  | 0 => ((List.range 255).map (· + 1)).map (fun l =>
      let x := s.dom l
      (l, leBytes 1 x.state.code ++ leBytes 1 x.flagByte ++ leBytes 2 x.gen
        ++ leBytes 4 (if x.state == .empty then 0 else x.gdid)))
  | 1 => (s.fencesOf ldi).map (fun i => (i, leBytes 4 i ++ leBytes 8 (s.fence i).word))
  | 2 => (s.tables.arrs.filter (fun x => x.2.ldi == ldi)).map (fun x => (x.1, leBytes 4 x.1 ++ leBytes 8 x.2.word))
  | 3 => ((List.range 6).map (8 * ldi + ·)).map (fun i => (i, slotRecord i (s.keySlot i)))
      ++ (s.poolSlots ldi).map (fun i => (i, slotRecord i (s.poolSlot ldi i)))
  | 4 => (List.zip d.grant.list (s.used ldi)).map (fun x => (0, leBytes 4 x.1 ++ leBytes 4 x.2))
  | 5 => (s.contextsOf ldi).map (fun x =>
      (x.1, leBytes 2 x.1 ++ leBytes 1 x.2.slot ++ leBytes 1 0 ++ leBytes 2 x.2.queues.length ++ leBytes 2 0))
  | _ => []

/-- The view takes no START and COUNT. -/
def wholeView (v : Nat) : Bool := v == 0 || v == 4

/-- The records that the command returns, and NEXT. -/
def State.queryRecords (s : State) (c : Cmd) : List Bytes × Nat :=
  let v := c.p 0 1
  let all := s.viewRecords c.ldi v
  if wholeView v then (all.map Prod.snd, 0xFFFFFFFF)
  else
    let rest := all.filter (fun x => decide (c.p 4 4 ≤ x.1))
    ((rest.take (c.p 8 4)).map Prod.snd, (((rest.drop (c.p 8 4)).head?).map Prod.fst).getD 0xFFFFFFFF)

def queryShape (c : Cmd) : Bool :=
  let v := c.p 0 1
  decide (v ≤ 5) && (v == 0 || c.ldi != 0) && (c.cls != .peer || (v == 0 && c.ldi == 0))
    && (if wholeView v then c.p 4 4 == 0 && c.p 8 4 == 0 else decide (1 ≤ c.p 8 4) && decide (c.p 8 4 ≤ 65536))

/-- The view has an extended reply. -/
def queryExtended (c : Cmd) : Bool := c.p 0 1 != 0 || c.ldi == 0

def queryBody (s : State) (c : Cmd) : Res :=
  if !queryShape c then .fail stBadParam
  else if queryExtended c then
    let r := s.committed.queryRecords c
    .ok s (leBytes 32 0 ++ leBytes 4 r.1.length ++ leBytes 4 r.2) (r.1.flatMap id)
  else
    let d := s.committedDom c.ldi
    .ok s (leBytes 1 d.state.code ++ leBytes 1 d.flagByte ++ leBytes 2 d.gen ++ leBytes 4 d.gdid ++ leBytes 2 d.fdt
      ++ leBytes 2 d.rank ++ leBytes 2 d.members ++ leBytes 2 0 ++ bvBytes 4 d.policy ++ leBytes 4 d.mapCur
      ++ leBytes 4 d.errFence ++ leBytes 4 (s.inflight c.ldi))

def domQuerySpec : CmdSpec :=
  { opcode := 0x0109, perm := permQuery, ldiOk := ldiAny, states := stEvery, journaled := readOnly, len := fun _ => 12
    reserved := fun p => fieldAt p 1 3 == 0
    ext := fun s c => if queryShape c && queryExtended c then
      some ((s.committed.queryRecords c).1.map List.length |>.foldl (· + ·) 0) else none
    body := queryBody }

/-- DOM_QUERY (R277): as of the last commit (R258). -/
def execDomQuery (src : Src) (s : State) : Host.Outcome State Fault Refusal := .next (s.runSrc domQuerySpec src)

end Sys2Proof.Machine
end

