-- ==== Sys2Proof/Machine/Memory.lean ====
section
/-!
DEFINITION. The memory commands and the engines behind them (spec/13_commands_resources.md R278-R283, spec/02_domains.md
R38-R42, spec/04_weft_integrity.md R86, R87, spec/08_spindle_determinism.md R179-R183, spec/10_attestation.md R219, R220).
-/
namespace Sys2Proof.Machine

/-! ### Granules -/

/-- Highest granule, plus one. -/
def granuleTop : Nat := 4194304

/-- LANE_ROWS (R61). -/
def Otp.laneRows (o : Otp) : Nat := o.word 0x005

/-- Some line of the granule lies beyond the weave rows installed (R61). -/
def State.unbacked (s : State) (g : Nat) : Bool := decide (s.otp.laneRows ≤ s.build.lrow (1024 * g + 1023))

/-- The granule has a line on a dead lane (R91). -/
def State.onDeadLane (s : State) (g : Nat) : Bool :=
  s.weft.lanes.any (fun x => x.2.dead && s.build.granuleOn g x.1)

/-- The granule is OWNED by the LDI at its generation. -/
def State.owns (s : State) (ldi g : Nat) : Bool :=
  let e := s.got g
  e.ldi == ldi && e.gen == (s.dom ldi).gen && e.state == .owned

def span (first count : Nat) : List Nat := (List.range count).map (first + ·)

/-- Granules that lines `dli` to `dli + n - 1` touch. -/
def lineGranules (dli n : Nat) : List Nat := if n == 0 then [] else span (dli / 1024) ((dli + n - 1) / 1024 - dli / 1024 + 1)

/-! ### Granule lists (R278) -/

def listRange (c : Cmd) : Bool := c.p 0 1 % 2 == 1
def listCount (c : Cmd) : Nat := c.p 4 4

/-- COUNT and the range are within their limits. -/
def listOk (c : Cmd) : Bool :=
  if listRange c then decide (1 ≤ listCount c) && decide (c.p 8 4 + listCount c ≤ granuleTop)
  else decide (1 ≤ listCount c) && decide (listCount c ≤ 16382)

def granuleList (c : Cmd) : List Nat :=
  if listRange c then span (c.p 8 4) (listCount c) else words c.params 8 (listCount c)

def listLen (p : Bytes) : Nat := if fieldAt p 0 1 % 2 == 1 then 12 else 8 + 4 * fieldAt p 4 4

def listReserved (p : Bytes) : Bool :=
  decide (fieldAt p 0 1 < 2) && fieldAt p 2 2 == 0
    && (if fieldAt p 0 1 == 1 then decide (fieldAt p 8 4 < granuleTop)
        else (words p 8 (fieldAt p 4 4)).all (fun g => decide (g < granuleTop)))

def listReply (done failAt : Nat) : Bytes := leBytes 4 done ++ leBytes 4 failAt

def noGranule : Nat := 0xFFFFFFFF

def lockGran (_ : State) (c : Cmd) (e : JEntry) : JEntry := { e with lockGranules := if listOk c then granuleList c else [] }

/-! ### MEM_ASSIGN (R40, R278) -/

/-- Why a granule cannot be assigned, or 0. -/
def State.assignStatus (s : State) (ldi g : Nat) : Nat :=
  let e := s.got g
  if s.unbacked g then stBadParam
  else if s.onDeadLane g then stLaneFault
  else if decide ((s.dom ldi).grant.granules ≤ s.granulesOf ldi) then stNoResource
  else if e.state == .free || e.gen != (s.dom e.ldi).gen then stOk
  else stBusy

/-- The granule becomes HELD and is queued for its zero lines. -/
def State.hold (s : State) (ldi cslot g jid : Nat) : State :=
  let gen := (s.dom ldi).gen
  let s := (s.accrue ldi).setGot g { ldi := ldi, gen := gen, state := .held, cslot := cslot }
  let q : ScrubItem := { granule := g, ldi := ldi, gen := gen, jid := some jid }
  { s with weft := { s.weft with scrubQ := s.weft.scrubQ ++ [q] } }

/-- The retirement of the entry's domain has begun since its intent. -/
def State.outlived (s : State) (jid ldi : Nat) : Bool :=
  s.loom.journal.any (fun e => e.jid == jid && (e.before.map (·.gen)).getD (s.dom ldi).gen != (s.dom ldi).gen)

/-- The next granule of a `MEM_ASSIGN`, or its end. DESIGN CHOICE: once the `DOM_RETIRE` of its domain has begun, it takes no
further granule and ends with `ST_BUSY`, R33's status (notes/assumptions/43.md). -/
def State.stepAssign (s : State) (jid ldi cslot done : Nat) : List Nat → Res
  | [] => .ok s (listReply done noGranule)
  | g :: rest =>
    let st := if s.outlived jid ldi then stBusy else s.assignStatus ldi g
    if st == stOk then .wait .scrub (.assign ldi cslot (done + 1) rest) (s.hold ldi cslot g jid)
    else .done { status := st, result := listReply done g } s

def assignBody (s : State) (c : Cmd) : Res :=
  let k := c.p 1 1
  if !listOk c || (k != 0 && !(s.contextsOf c.ldi).any (fun x => x.2.slot == k && !x.2.releasing)) then
    .refuse { status := stBadParam, result := listReply 0 noGranule }
  else s.stepAssign c.jid c.ldi k 0 (granuleList c)

def memAssignSpec : CmdSpec :=
  { opcode := 0x0201, perm := permDriver, states := stToRunning, hold := always, frozen := always
    len := listLen, reserved := listReserved, locks := lockGran, failResult := listReply 0 noGranule, body := assignBody }

/-- MEM_ASSIGN (R278). -/
def execMemAssign (src : Src) (s : State) : Host.Outcome State Fault Refusal := .next (s.runSrc memAssignSpec src)

/-! ### MEM_RELEASE (R41, R279) -/

def State.releaseStatus (s : State) (ldi g : Nat) : Nat :=
  let e := s.got g
  if e.ldi != ldi || e.gen != (s.dom ldi).gen then stOwnership
  else match e.state with
    | .scrubbing | .free => stGranuleGone
    | .held => stBusy
    | .owned => stOk

def State.releaseList (s : State) (ldi done : Nat) : List Nat → Res
  | [] => .ok s (listReply done noGranule)
  | g :: rest =>
    let st := s.releaseStatus ldi g
    if st == stOk then (s.scrubGranules ldi [g] false none).releaseList ldi (done + 1) rest
    else .done { status := st, result := listReply done g } s

def releaseBody (s : State) (c : Cmd) : Res :=
  if listOk c then s.releaseList c.ldi 0 (granuleList c)
  else .refuse { status := stBadParam, result := listReply 0 noGranule }

def memReleaseSpec : CmdSpec :=
  { opcode := 0x0202, perm := permDriver, states := stToAborted, frozen := always
    len := listLen, reserved := fun p => listReserved p && fieldAt p 1 1 == 0, locks := lockGran
    failResult := listReply 0 noGranule, body := releaseBody }

/-- MEM_RELEASE (R279). -/
def execMemRelease (src : Src) (s : State) : Host.Outcome State Fault Refusal := .next (s.runSrc memReleaseSpec src)

/-! ### MEM_QUERY (R281) -/

/-- A GOT entry as it reads (R38). -/
def GotEntry.word (e : GotEntry) : Nat :=
  e.ldi + e.gen * 2 ^ 8 + (match e.state with | .free => 0 | .owned => 1 | .scrubbing => 2 | .held => 3) * 2 ^ 24
    + e.cslot * 2 ^ 26

def memQueryBody (s : State) (c : Cmd) : Res :=
  let n := c.p 4 4
  if n == 0 || decide (16384 < n) || decide (granuleTop < c.p 0 4 + n) then .fail stBadParam
  else
    let t := s.committed
    let one := fun g =>
      let e := t.got g
      leBytes 4 (match s.scopeLdi c.path with
        | some l => if e.ldi == l then e.word else 0
        | none => e.word)
    .ok s (leBytes 4 n) ((span (c.p 0 4) n).flatMap one)

def memQuerySpec : CmdSpec :=
  { opcode := 0x0204, perm := permRead, states := stNotEmpty, journaled := readOnly, len := fun _ => 8
    ext := fun _ c => some (4 * c.p 4 4), body := memQueryBody }

/-- MEM_QUERY (R281). -/
def execMemQuery (src : Src) (s : State) : Host.Outcome State Fault Refusal := .next (s.runSrc memQuerySpec src)

/-! ### Passes over lines (R86, R181-R183, R220) -/

def State.scan (s : State) (jid : Nat) : Option Scan := s.loom.scans.find? (fun x => x.jid == jid)

def State.setScan (s : State) (x : Scan) : State :=
  { s with loom := { s.loom with scans := s.loom.scans.map (fun y => if y.jid == x.jid then x else y) } }

def Scan.src (x : Scan) : LineSrc :=
  match x.kind with
  | .verify | .zero => .scrubCmd x.jid
  | .finger => .finger x.jid
  | .digest | .export_ | .import_ => .bulk x.jid

/-- The request of a pass for its next line; `line` is what an import writes. -/
def Scan.request (x : Scan) (line : Line) : LineReq :=
  match x.kind with
  | .zero | .import_ => { src := x.src, op := .full, dli := x.next, ldi := x.ldi, data := line, be := BitVec.allOnes 64 }
  | _ => { src := x.src, op := .read, dli := x.next, ldi := x.ldi }

/-- The fingerprint after one more line (R179). -/
def fingerLine (q y : BitVec 128) (l : Line) : BitVec 128 :=
  (List.range 4).foldl (fun y j => gfMul poly128 (y ^^^ lineBlock l j) q) y

/-- What a line adds to the fingerprint when `after` lines follow it (R179): its sum, weighted by the power of q of its position. -/
def fingerTerm (q : BitVec 128) (after : Nat) (l : Line) : BitVec 128 :=
  (List.range (4 * after)).foldl (fun y _ => gfMul poly128 y q) (fingerLine q 0 l)

/-- The device slot that holds K_FP. -/
def kfpSlot : Nat := 1

/-- Take a line's answer into a pass: a skipped line counts as one; a failed verification counts, ends an export with
`ST_INTEGRITY` (R320), and ends another pass under INTEG_REPORT 0; any other error ends it (R39, R86, R87, R183). -/
def State.scanTake (s : State) (x : Scan) (d : LaneDone) : Scan :=
  let x := { x with out := false, outs := x.outs.filter (fun n => n != s.build.laneOf d.req.dli), count := x.count + 1 }
  if d.skipped then { x with skipped := x.skipped + 1 }
  else if d.status == stIntegrity && x.kind != .import_ then
    { x with
      failed := x.failed + 1
      status := if x.kind == .export_ then stIntegrity else if (s.dom x.ldi).integReport then x.status else stAborted }
  else if d.status != stOk then { x with status := d.status, count := x.count - 1 }
  else match x.kind with
    | .finger => { x with y := x.y ^^^ fingerTerm (Config.aes256 (s.keyAt (.slot kfpSlot)) 0) (x.stop - 1 - d.req.dli) d.data }
    | .digest | .export_ => { x with data := x.data ++ lineBytes d.data }
    | _ => x

/-- An answer for the pass has come. -/
def State.takeAnswer (s : State) (src : LineSrc) : Option (LaneDone × State) :=
  (s.weft.done.find? (fun d => d.req.src == src)).map (fun d =>
    (d, { s with weft := { s.weft with done := s.weft.done.eraseP (fun y => y.req.src == src) } }))

/-- A fingerprint or a digest waits behind an earlier one of its kind (R181). -/
def State.scanWaits (s : State) (x : Scan) : Bool :=
  (x.kind == .finger || x.kind == .digest)
    && (match s.loom.scans.find? (fun y => y.kind == x.kind) with | some y => y.jid != x.jid | none => false)

/-- The domain has been aborted or its generation has advanced. -/
def State.scanDead (s : State) (x : Scan) : Bool := (s.dom x.ldi).state == .aborted || (s.dom x.ldi).gen != x.gen

/-- Send the pass's next line. -/
def State.scanSend (s : State) (x : Scan) (line : Line) : State :=
  (s.setScan { x with next := x.next + 1, out := true, begun := true }).submitLine (x.request line)

/-- One turn of a pass: take the answer that has come, or send the next line when its lane has room. None when neither can
be done. `line` gives the line that an import writes next, once its bytes are there. -/
def State.scanTurn (s : State) (jid : Nat) (line : State → Scan → Option Line) : Option State :=
  match s.scan jid with
  | none => none
  | some x =>
    if x.out then
      (s.takeAnswer x.src).map (fun y => y.2.setScan (y.2.scanTake x y.1))
    else if x.status != stOk || decide (x.stop ≤ x.next) || s.scanWaits x then none
    else if s.scanDead x then some (s.setScan { x with status := stAborted })
    else
      let l := s.lane (s.build.laneOf x.next)
      if !s.laneRoom x.ldi x.next (x.kind == .zero || x.kind == .import_) || (x.kind == .zero && l.blocked x.next) then none
      else match line s x with
        | none => none
        | some v => some (s.scanSend x v)

def State.scanTurns (s : State) (jid : Nat) (line : State → Scan → Option Line) : Nat → State
  | 0 => s
  | n + 1 => match s.scanTurn jid line with
    | some t => t.scanTurns jid line n
    | none => s

/-- Run a pass as far as it goes. -/
def State.runScan (s : State) (jid : Nat) (line : State → Scan → Option Line) : State :=
  match s.scan jid with
  | some x => s.scanTurns jid line (2 * (x.stop - x.next) + 2)
  | none => s

/-- A pass that writes no data of its own. -/
def zeroLine (_ : State) (_ : Scan) : Option Line := some 0

/-! ### Fingerprint scans (R182): one sequencer in each lane -/

/-- The next line of the region that lane n's sequencer reads. -/
def State.scanHead (s : State) (x : Scan) (n : Nat) : Option Nat :=
  let d := x.heads.findD n x.next
  (span d (x.stop - d)).find? (fun d => s.build.laneOf d == n)

/-- Lanes whose sequencer has a line to read. -/
def State.scanLanes (s : State) (x : Scan) : List Nat :=
  (List.range s.build.lanes).filter (fun n => (s.scanHead x n).isSome)

/-- Lane n has a write ready to pass the line-order point. -/
def State.writeReady (s : State) (n : Nat) : Bool :=
  let l := s.lane n
  l.held.any (fun r => r.op != .read && s.selvReady l r && !l.reads.any (fun g => g.req.dli == r.dli))

/-- The sequencer of lane n can issue its next read now. -/
def State.scanReady (s : State) (x : Scan) (n : Nat) : Bool :=
  !x.outs.contains n && !s.writeReady n && (match s.scanHead x n with | some d => s.laneRoom x.ldi d false | none => false)

/-- K_FP stands in its slot from the first read on (R190). -/
def State.beginFinger (s : State) (x : Scan) : State :=
  if x.begun then s else s.setSlot kfpSlot { type := 6, key := keyOf (kdf x.fseed "CTC3-FPRINT" [] 256) }

/-- Lane n's sequencer issues its next read. -/
def State.fingerSend (s : State) (x : Scan) (n : Nat) : State :=
  match s.scanHead x n with
  | some d =>
    ((s.beginFinger x).setScan { x with heads := x.heads.put n (d + 1), outs := x.outs ++ [n], begun := true }).submitLine
      { src := x.src, op := .read, dli := d, ldi := x.ldi }
  | none => s

/-- One turn of a fingerprint: take an answer that has come, or let the first sequencer that can issue a read do so. -/
def State.fingerTurn (s : State) (jid : Nat) : Option State :=
  match s.scan jid with
  | none => none
  | some x =>
    match s.takeAnswer x.src with
    | some y => some (y.2.setScan (y.2.scanTake x y.1))
    | none =>
      if x.status != stOk || s.scanWaits x then none
      else if s.scanDead x then some (s.setScan { x with status := stAborted })
      else ((List.range s.build.lanes).find? (s.scanReady x)).map (s.fingerSend x)

def State.fingerTurns (s : State) (jid : Nat) : Nat → State
  | 0 => s
  | n + 1 => match s.fingerTurn jid with
    | some t => t.fingerTurns jid n
    | none => s

/-- Run a fingerprint as far as it goes. -/
def State.runFinger (s : State) (jid : Nat) : State :=
  match s.scan jid with
  | some x => s.fingerTurns jid (2 * (x.stop - x.next) + 2)
  | none => s

/-- The pass has come to the end of its region. -/
def State.scanPassed (s : State) (x : Scan) : Bool :=
  if x.kind == .finger then (s.scanLanes x).isEmpty else decide (x.stop ≤ x.next)

/-- The pass has ended: nothing is outstanding, and it has failed or reached its end. -/
def State.scanEnded (s : State) (x : Scan) : Bool := !x.out && x.outs.isEmpty && (x.status != stOk || s.scanPassed x)

/-- Free a pass; a fingerprint's key ends with it (R190). -/
def State.endScan (s : State) (x : Scan) : State :=
  let s := if x.kind == .finger && x.begun then s.clearSlot kfpSlot else s
  { s with loom := { s.loom with scans := s.loom.scans.filter (fun y => y.jid != x.jid) } }

/-- A status that no entry of the command gives binds to the domain error fence (R39). -/
def State.bindScan (s : State) (x : Scan) : State :=
  if x.status == stOk || x.status == stAborted || x.status == stIntegrity then s else s.post x.ldi 0 x.status .loom

/-- Status of a scrub or a scan at its end. -/
def Scan.final (x : Scan) : Nat :=
  if x.status != stOk then x.status
  else if x.failed != 0 && x.kind != .zero then stIntegrity else stOk

/-- The reply of a scrub, a fingerprint or a digest (R87, R179, R180, R280, R283). -/
def State.scanReply (s : State) (x : Scan) : Reply :=
  let st := x.final
  match x.kind with
  | .finger =>
    let n := x.count
    let l := BitVec.ofNat 128 (n % 2 ^ 64 + 2 ^ 127)
    let fp := if st == stOk then x.y ^^^ Config.aes256 (s.keyAt (.slot kfpSlot)) l else 0
    if st == stOk || st == stIntegrity then { status := st, result := bvBytes 16 fp ++ leBytes 8 x.failed } else { status := st }
  | .digest =>
    if st == stOk then { status := st, result := leBytes 8 x.failed, ext := bvBytes 48 (Config.sha384 x.data) }
    else if st == stIntegrity then { status := st, result := leBytes 8 x.failed, ext := List.replicate 48 0 }
    else { status := st }
  | _ => { status := st, result := leBytes 8 x.count ++ leBytes 8 x.failed ++ leBytes 8 x.skipped }

/-- Go on with a scrub, a fingerprint or a digest. -/
def State.stepScan (s : State) (jid : Nat) : Res :=
  let s := match s.scan jid with
    | some x => if x.kind == ScanKind.finger then s.runFinger jid else s.runScan jid zeroLine
    | none => s
  match s.scan jid with
  | none => .fail stAborted
  | some x =>
    if !x.out && !x.begun && s.scanDead x then .done { status := stAborted } (s.endScan x)
    else if s.scanEnded x then
      let r := s.scanReply x
      .done r ((s.bindScan x).drainInteg.endScan x)
    else .wait .scan (.scan x.ldi) s

/-- Start a pass. -/
def State.addScan (s : State) (x : Scan) : State := { s with loom := { s.loom with scans := s.loom.scans ++ [x] } }

/-! ### MEM_SCRUB (R280) -/

def scrubBody (s : State) (c : Cmd) : Res :=
  let mode := c.p 0 1
  let first := c.p 4 4
  let n := c.p 8 4
  if decide (1 < mode) || n == 0 || decide (granuleTop < first + n) then .fail stBadParam
  else if !(span first n).all (s.owns c.ldi) then .fail stOwnership
  else (s.addScan
    { jid := c.jid, kind := if mode == 0 then .zero else .verify, ldi := c.ldi, gen := (s.dom c.ldi).gen
      next := 1024 * first, stop := 1024 * (first + n) }).stepScan c.jid

def scrubZero (c : Cmd) : Bool := c.p 0 1 == 0

def memScrubSpec : CmdSpec :=
  { opcode := 0x0203, perm := permDriver, states := stToQuiescing, journaled := scrubZero, hold := scrubZero
    frozen := scrubZero, len := fun _ => 12, reserved := fun p => fieldAt p 1 3 == 0
    locks := fun _ c e =>
      if scrubZero c && decide (c.p 4 4 + c.p 8 4 ≤ granuleTop) then { e with lockGranules := span (c.p 4 4) (c.p 8 4) } else e
    body := scrubBody, after := endSpentAfter }

/-- MEM_SCRUB (R280). -/
def execMemScrub (src : Src) (s : State) : Host.Outcome State Fault Refusal := .next (s.runSrc memScrubSpec src)

/-! ### MEM_FINGERPRINT, MEM_DIGEST (R283) -/

def regionBody (kind : ScanKind) (o : Nat) (s : State) (c : Cmd) : Res :=
  let base := c.p o 4
  let n := c.p (o + 8) 8
  if n == 0 || decide (2 ^ 32 < base + n) then .fail stBadParam
  else if !(lineGranules base n).all (s.owns c.ldi) then .fail stOwnership
  else (s.addScan
    { jid := c.jid, kind := kind, ldi := c.ldi, gen := (s.dom c.ldi).gen, next := base, stop := base + n
      fseed := if kind == .finger then c.params.take 16 else [] }).stepScan c.jid

def memFingerprintSpec : CmdSpec :=
  { opcode := 0x0206, perm := permDigest, states := stSealedOn, journaled := readOnly, len := fun _ => 32
    reserved := fun p => fieldAt p 20 4 == 0, body := regionBody .finger 16, after := endSpentAfter }

/-- MEM_FINGERPRINT (R283). -/
def execMemFingerprint (src : Src) (s : State) : Host.Outcome State Fault Refusal :=
  .next (s.runSrc memFingerprintSpec src)

def memDigestSpec : CmdSpec :=
  { opcode := 0x0207, perm := permDigest, states := stSealedOn, journaled := readOnly, len := fun _ => 16
    reserved := fun p => fieldAt p 4 4 == 0, ext := fun _ _ => some 48, body := regionBody .digest 0, after := endSpentAfter }

/-- MEM_DIGEST (R283). -/
def execMemDigest (src : Src) (s : State) : Host.Outcome State Fault Refusal := .next (s.runSrc memDigestSpec src)

/-! ### MEM_IMPORT_BLOB (R219, R220, R282) -/

/-- The function that a command's host DMA carries (R453). -/
def State.dmaFunc (s : State) : Path → Nat
  | .ring i => if i < 64 then i else 0
  | .session sid => match (s.session sid).conn with | .host i => i | .mctp => 0
  | .peer _ => 0

/-- The DMA channel of an entry's transfers: that of its bulk unit (R453). -/
def dmaChannel (jid : Nat) : Nat := Config.bulkUnit jid % 4

/-- Ask for host bytes (R453). -/
def State.dmaRead (s : State) (jid : Nat) (p : Path) (addr len : Nat) : State :=
  s.emit (.dmaRead (dmaChannel jid) (s.dmaFunc p) addr len)

/-- The slot holds a weight key of the LDI. -/
def State.weightSlot (s : State) (ldi i : Nat) : Bool :=
  let k := s.keySlot i
  decide (0x800 ≤ i) && decide (i < 0x1000) && k.type == 8 && k.ldi == ldi

def importBody (s : State) (c : Cmd) : Res :=
  let i := c.p 0 2
  if !s.weightSlot c.ldi i then .fail stBadParam
  else if (s.keySlot i).busy then .fail stBusy
  else
    let s := s.setSlot i { s.keySlot i with busy := true }
    .wait .dma (.importBlob c.ldi i (c.p 8 8) (c.p 16 8) []) (s.dmaRead c.jid c.path (c.p 8 8) 32)

def memImportBlobSpec : CmdSpec :=
  { opcode := 0x0205, perm := permDriver, states := stSealed, hold := always, frozen := always, len := fun _ => 24
    reserved := fun p => fieldAt p 2 6 == 0
    locks := fun _ c e => { e with lockSlots := [c.p 0 2] }
    body := fun s c => importBody s c }

/-- MEM_IMPORT_BLOB (R282): the engine's steps are resumed with the bytes that the host supplies. -/
def execMemImportBlob (src : Src) (s : State) : Host.Outcome State Fault Refusal :=
  .next (s.runSrc memImportBlobSpec src)

/-- The checks of R219 and R220 on a blob header, or 0. -/
def State.headerStatus (s : State) (ldi slot blobLen : Nat) (h : Bytes) : Nat :=
  let dli := fieldAt h 16 4
  let len := fieldAt h 24 8
  if fieldAt h 12 4 != (s.keySlot slot).keyId || len == 0 || len % 64 != 0 || decide (2 ^ 36 - 64 < len)
    || blobLen != len + 48 || decide (2 ^ 32 < dli + len / 64) then stBadParam
  else if !(lineGranules dli (len / 64)).all (s.owns ldi) then stOwnership
  else stOk

/-- Set granules HELD, keeping their context slots. -/
def State.holdAll (s : State) (gs : List Nat) : State := gs.foldl (fun s g => s.setGot g { s.got g with state := .held }) s

def State.ownAll (s : State) (gs : List Nat) : State := gs.foldl (fun s g => s.setGot g { s.got g with state := .owned }) s

/-- Plaintext line i of a ciphertext under a key and an IV. -/
def cipherLine (key : Key) (iv : BitVec 96) (ct : Bytes) (i : Nat) : Line :=
  lineOf (xorBytes (bytesAt ct (64 * i) 64) ((gcmStream key iv (64 * (i + 1))).drop (64 * i)))

/-- The line that an import writes next, once its ciphertext has come. -/
def blobLine (slot first : Nat) (got : Bytes) (s : State) (x : Scan) : Option Line :=
  let i := x.next - first
  if 32 + 64 * (i + 1) ≤ got.length then some (cipherLine (s.keySlot slot).key (ivOf got) (got.drop 32) i) else none

/-- The slot is no longer in use. -/
def State.freeBusy (s : State) (slot : Nat) : State :=
  if (s.keySlot slot).busy then s.setSlot slot { s.keySlot slot with busy := false } else s

/-- Zero the granules of a failed import (R220 step 5). -/
def State.zeroTarget (s : State) (jid ldi : Nat) (gs : List Nat) (lines index : Nat) (part : Bool) : Res :=
  let gen := (s.dom ldi).gen
  let items := gs.map (fun g => ({ granule := g, ldi := ldi, gen := gen, jid := some jid, target := true } : ScrubItem))
  .wait .scrub (.zeroing ldi lines index part) { s with weft := { s.weft with scrubQ := s.weft.scrubQ ++ items } }

/-- Go on with an import whose header has passed. -/
def State.stepBlob (s : State) (e : JEntry) (ldi slot src blobLen : Nat) (got : Bytes) (err : Bool) (x : Scan) : Res :=
  let len := fieldAt got 24 8
  let dli := fieldAt got 16 4
  let gs := lineGranules dli (len / 64)
  let lines := fun (y : Scan) => leBytes 8 y.count
  let key := (s.keySlot slot).key
  if x.out then .wait .dma (.importBlob ldi slot src blobLen got) s
  else if s.scanDead x || x.status == stAborted then
    .done { status := stAborted, result := lines x } ((s.endScan x).freeBusy slot)
  else if err || x.status == stIntegrity then ((s.endScan x).freeBusy slot).zeroTarget e.jid ldi gs x.count 0 false
  else if x.status != stOk then
    .done { status := x.status, result := lines x } (((s.bindScan x).endScan x).freeBusy slot)
  else if x.next < x.stop || got.length < blobLen then .wait .dma (.importBlob ldi slot src blobLen got) s
  else if tagOk key (ivOf got) (got.take 32) (bytesAt got 32 len) (bytesAt got (32 + len) 16) then
    .ok (((s.endScan x).freeBusy slot).ownAll gs) (lines x)
  else ((s.endScan x).freeBusy slot).zeroTarget e.jid ldi gs x.count 0 false

/-- The bytes that an import's entry has received, with those that come now. -/
def takeDma (got : Bytes) (total : Nat) (sup : Supply) : Bytes := if sup.dmaErr then got else (got ++ sup.dma).take total

/-- Go on with `MEM_IMPORT_BLOB`. -/
def State.stepImport (s : State) (e : JEntry) (ldi slot src blobLen : Nat) (got : Bytes) (sup : Supply) : Res :=
  match s.scan e.jid with
  | some x =>
    let got := takeDma got blobLen sup
    let s := s.runScan e.jid (blobLine slot (fieldAt got 16 4) got)
    s.stepBlob e ldi slot src blobLen got sup.dmaErr ((s.scan e.jid).getD x)
  | none =>
    let got := takeDma got 32 sup
    if (s.dom ldi).state == .aborted || !s.weightSlot ldi slot then
      .done { status := stAborted, result := leBytes 8 0 } (s.freeBusy slot)
    else if sup.dmaErr then .done { status := stIntegrity, result := leBytes 8 0 } (s.freeBusy slot)
    else if got.length < 32 then .wait .dma (.importBlob ldi slot src blobLen got) s
    else
      let st := s.headerStatus ldi slot blobLen got
      if st != stOk then .done { status := st } (s.freeBusy slot)
      else
        let dli := fieldAt got 16 4
        let n := fieldAt got 24 8 / 64
        let x : Scan :=
          { jid := e.jid, kind := .import_, ldi := ldi, gen := (s.dom ldi).gen, next := dli, stop := dli + n }
        let gs := lineGranules dli n
        let t := ((s.holdAll gs).addScan x).setEntry ({ e with lockGranules := gs }.keep s)
        .wait .dma (.importBlob ldi slot src blobLen got) (t.dmaRead e.jid e.path (src + 32) (blobLen - 32))

/-- RESULT of an import or of a migration part that has failed. -/
def zeroingReply (lines index : Nat) (part : Bool) : Bytes := leBytes 8 lines ++ (if part then leBytes 4 index else [])

/-- The target of a failed import or migration part is zero and OWNED again (R220, R321). -/
def State.stepZeroing (s : State) (jid ldi lines index : Nat) (part : Bool) : Res :=
  if s.scrubbing jid then .wait .scrub (.zeroing ldi lines index part) s
  else .done { status := stIntegrity, result := zeroingReply lines index part } s

end Sys2Proof.Machine
end

