-- ==== Sys2Proof/Machine/Composition.lean ====
section
/-!
DEFINITION. The composition, window, arrival counter and fence commands (spec/13_commands_resources.md R284-R290), over
spec/06_shuttle_delivery.md R142-R144, spec/07_batten_reductions.md R159, R165, and spec/02_domains.md R46, R49.
-/
namespace Sys2Proof.Machine

/-! ### Slice entries (R284, R450) -/

def sliceOf (w : Nat) : Slice := { kind := w / 2 ^ 16 % 256, id := w % 2 ^ 16 }

/-- The ID is one that the build or the host has; a POOL instance refuses compute slices under R2 instead. -/
def State.sliceExists (s : State) (x : Slice) (bind : Bool) : Bool :=
  match x.kind with
  | 0 => covered s.bp.slices x.id || (s.build.pool && bind)
  | 1 => decide (x.id < s.build.lanes)
  | 2 => decide (x.id < s.build.engines)
  | _ => false

/-- Bound compute slices and channels, and bound ports. -/
def Domain.nslices (d : Domain) : Nat := (d.sliceList.filter (fun x => x.kind != 2)).length
def Domain.nports (d : Domain) : Nat := (d.sliceList.filter (fun x => x.kind == 2)).length

/-- A compute slice is bound to another LDI. -/
def State.sliceTaken (s : State) (ldi : Nat) (x : Slice) : Bool :=
  x.kind == 0 && (s.ldisWith (fun d => d.sliceList.contains x)).any (fun l => l != ldi)

/-- The first refusal of additions and removals, or `ST_OK` (R284, R285). -/
def State.sliceStatus (s : State) (ldi : Nat) (adds rems : List Slice) : Nat :=
  let d := s.dom ldi
  if (adds ++ rems).eraseDups.length != (adds ++ rems).length
    || !adds.all (fun x => s.sliceExists x true && !d.slices.contains x)
    || !rems.all (fun x => s.sliceExists x false && d.slices.contains x) then stBadParam
  else if (s.build.pool && adds.any (fun x => x.kind == 0))
    || decide (1024 < d.nslices + (adds.filter (fun x => x.kind != 2)).length) then stNoResource
  else if adds.any (s.sliceTaken ldi) then stBusy
  else if adds.any (fun x => x.kind == 2 && policyRefuses d.policy (s.portClass x.id)) then stDenied
  else stOk

/-- The entries of a composition command. -/
def sliceArgs (c : Cmd) (off n : Nat) : List Slice := (words c.params off n).map sliceOf

/-- The locks of a composition command, and the bindings that it adds and removes. -/
def lockEntries (adds rems : List Slice) (e : JEntry) : JEntry :=
  let xs := adds ++ rems
  { e with
    adds := adds
    rems := rems
    lockPorts := (xs.filter (fun x => x.kind == 2)).map (·.id)
    lockSlices := (xs.filter (fun x => x.kind == 0)).map (·.id) }

/-- Reserved bits of slice entries. -/
def entriesReserved (p : Bytes) (off n : Nat) : Bool := (words p off n).all (fun w => decide (w < 2 ^ 24))

def bindReply (d : Domain) : Bytes := leBytes 2 d.nports ++ leBytes 2 d.nslices

/-- Change a domain's bindings and publish (R284). -/
def State.changeSlices (s : State) (ldi : Nat) (new : List Slice) (rs : List (BitVec 128)) : Res :=
  let s := s.accrue ldi
  let s := s.setDom ldi { s.dom ldi with slices := new }
  let t := s.publish rs
  .wait (.bp t.1) (.reply (bindReply (s.dom ldi))) t.2

def bindCount (c : Cmd) : Bool := decide (1 ≤ c.p 0 2) && decide (c.p 0 2 ≤ 256) && inlineOk c (c.p 0 2)

def bindBody (s : State) (c : Cmd) : Res :=
  let xs := sliceArgs c 4 (c.p 0 2)
  let st := if bindCount c then s.sliceStatus c.ldi xs [] else stBadParam
  if st != stOk then .fail st else s.changeSlices c.ldi ((s.dom c.ldi).slices ++ xs) (xs.map (s.openSlice c.ldi))

def cmpBindSliceSpec : CmdSpec :=
  { opcode := 0x0301, perm := permManager, states := stBuilding, len := fun p => 4 + 4 * fieldAt p 0 2
    reserved := fun p => fieldAt p 2 2 == 0 && entriesReserved p 4 (fieldAt p 0 2)
    locks := fun _ c e => lockEntries (sliceArgs c 4 (c.p 0 2)) [] e
    body := bindBody }

/-- CMP_BIND_SLICE (R284). -/
def execCmpBindSlice (src : Src) (s : State) : Host.Outcome State Fault Refusal := .next (s.runSrc cmpBindSliceSpec src)

def unbindBody (s : State) (c : Cmd) : Res :=
  let xs := sliceArgs c 4 (c.p 0 2)
  let st := if bindCount c then s.sliceStatus c.ldi [] xs else stBadParam
  if st != stOk then .fail st
  else s.changeSlices c.ldi ((s.dom c.ldi).slices.filter (fun x => !xs.contains x)) (xs.map (fun x => sliceRec x c.ldi false))

def cmpUnbindSliceSpec : CmdSpec :=
  { opcode := 0x0302, perm := permManager, states := stBuilding, len := fun p => 4 + 4 * fieldAt p 0 2
    reserved := fun p => fieldAt p 2 2 == 0 && entriesReserved p 4 (fieldAt p 0 2)
    locks := fun _ c e => lockEntries [] (sliceArgs c 4 (c.p 0 2)) e
    body := unbindBody }

/-- CMP_UNBIND_SLICE (R284). -/
def execCmpUnbindSlice (src : Src) (s : State) : Host.Outcome State Fault Refusal := .next (s.runSrc cmpUnbindSliceSpec src)

/-! ### Rebind (R143, R144, R285, R286) -/

def prepareBody (s : State) (c : Cmd) : Res :=
  let d := s.dom c.ldi
  let na := c.p 4 2
  let nr := c.p 6 2
  let adds := sliceArgs c 8 na
  let rems := sliceArgs c (8 + 4 * na) nr
  let st := s.sliceStatus c.ldi adds rems
  if d.mapOpen then .fail stState
  else if c.p 0 4 != (d.mapCur + 1) % 2 ^ 32 || decide (256 < na + nr) then .fail stBadParam
  else if st != stOk then .fail st
  else
    let s := s.accrue c.ldi
    let d := s.dom c.ldi
    let d := { d with
      mapCur := c.p 0 4, mapOpen := true, oldSlices := rems, slices := d.slices.filter (fun x => !rems.contains x) ++ adds }
    let t := (s.setDom c.ldi d).publish (d.sliceList.map (s.openSlice c.ldi) ++ [mapRec c.ldi d.mapCur true])
    .wait (.bp t.1) (.prepare c.ldi) t.2

def cmpRebindPrepareSpec : CmdSpec :=
  { opcode := 0x0303, perm := permManager, states := [.running], hold := always
    len := fun p => 8 + 4 * (fieldAt p 4 2 + fieldAt p 6 2)
    reserved := fun p => entriesReserved p 8 (fieldAt p 4 2 + fieldAt p 6 2)
    locks := fun _ c e =>
      lockEntries (sliceArgs c 8 (c.p 4 2)) (sliceArgs c (8 + 4 * c.p 4 2) (c.p 6 2)) { e with lockDomain := true }
    body := prepareBody }

/-- CMP_REBIND_PREPARE (R143, R285). -/
def execCmpRebindPrepare (src : Src) (s : State) : Host.Outcome State Fault Refusal :=
  .next (s.runSrc cmpRebindPrepareSpec src)

def commitReply (drained squashed : Nat) : Bytes := leBytes 4 drained ++ leBytes 4 squashed

/-- The new map alone: OPEN 0, and the bindings of the old map are gone (R144 step 3). -/
def State.closeMap (s : State) (ldi : Nat) : State :=
  let s := s.accrue ldi
  s.setDom ldi { s.dom ldi with mapOpen := false, oldSlices := [] }

/-- Steps 3 and 4 of R144. -/
def State.closeRebind (s : State) (ldi drained squashed : Nat) : Res :=
  let old := (s.dom ldi).oldSlices
  let s := s.closeMap ldi
  let t := s.publish (old.map (fun x => sliceRec x ldi false) ++ [mapRec ldi (s.dom ldi).mapCur false])
  .wait (.bp t.1) (.commitClose ldi drained squashed) t.2

def commitBody (s : State) (c : Cmd) : Res :=
  let d := s.dom c.ldi
  if !d.mapOpen then .fail stState
  else if c.p 0 4 != d.mapCur then .fail stBadParam
  else if s.tally c.ldi == 0 then s.closeRebind c.ldi 0 0
  else .wait (.tally c.ldi) (.commitWait c.ldi 0 0 (s.now + 500 * usTicks)) s

def cmpRebindCommitSpec : CmdSpec :=
  { opcode := 0x0304, perm := permManager, states := [.running, .quiescing], len := fun _ => 4, locks := lockDom
    body := commitBody }

/-- CMP_REBIND_COMMIT (R144, R286). -/
def execCmpRebindCommit (src : Src) (s : State) : Host.Outcome State Fault Refusal :=
  .next (s.runSrc cmpRebindCommitSpec src)

/-- Refuse every tallied request as stale (R144 step 2, R146). -/
def State.squash (s : State) (ldi : Nat) : State :=
  let ps := s.shuttle.rxq.filter (fun p => s.tallied ldi p)
  let s := s.dropRxq (fun p => s.tallied ldi p)
  let s := s.setDom ldi { s.dom ldi with mapOpen := false }
  (ps.foldl (fun s p =>
    if kindOf p.payload == kAtomic then ((s.takeAck p.src (ackOf p.payload)).requestTable p).getD s
    else (s.dropMap p).refuseByKind p stStaleMap) s).pump

/-- The commit of an LDI that waits for its tally. -/
def State.waitingCommit (s : State) (ldi : Nat) : Option (JEntry × Nat × Nat) :=
  s.loom.journal.findSome? (fun (e : JEntry) => match e.wait, e.cont with
    | .tally _, .commitWait l n _ d => if l == ldi && !e.overtaken then some (e, n, d) else none
    | _, _ => none)

/-- REBIND_SQUASH_TIMEOUT (R144): 500 µs of CLK_TIME have passed before the tally reached zero. -/
def execRebindSquashTimeout (ldi : Nat) (s : State) : Host.Outcome State Fault Refusal :=
  match s.waitingCommit ldi with
  | some (e, n, d) =>
    let s1 := s.advanceTo d
    let t := match (s1.squash ldi).closeRebind ldi n (s.tally ldi) with
      | .wait w k t => t.suspend e.jid w k
      | _ => s1
    nextIf (s.loomUp && decide (s.tally ldi ≠ 0)) s t
  | none => .next s

/-! ### Windows (R159, R165, R287, R288) -/

/-- Target lines of a window, scale lines included. -/
def windowSpan (fmt lines : Nat) : Nat := if isMx fmt then lines / mxGroup fmt * (mxGroup fmt + 1) else lines

/-- The fence can be a window's: ARMED, the LDI's, not the domain error fence, without a producer. -/
def State.windowFence (s : State) (ldi h : Nat) : Bool :=
  s.fenceArmed ldi h && h != (s.dom ldi).errFence && (s.fence (fenceIndex h)).producer == 0

def windowOpenBody (s : State) (c : Cmd) : Res :=
  let base := c.p 0 4
  let lines := c.p 4 4
  let op := c.p 8 1 % 16
  let fmt := c.p 8 1 / 16
  let arr := c.p 12 4
  let fence := c.p 16 4
  if !opAllowed op fmt true || c.p 10 2 == 0 || lines == 0 || (isMx fmt && lines % mxGroup fmt != 0)
    || decide (2 ^ 32 < base + windowSpan fmt lines) || (arr != 0 && !s.arrOk c.ldi arr) || !s.windowFence c.ldi fence then
    .fail stBadParam
  else if !(lineGranules base (windowSpan fmt lines)).all (s.owns c.ldi) then .fail stOwnership
  else
    let mine := s.batten.windows.vals.filter (fun w => w.ldi == c.ldi)
    let units := (lines + accLinesPerUnit fmt - 1) / accLinesPerUnit fmt
    let g := (s.dom c.ldi).grant
    match (List.range 256).find? (fun i => (s.window i).isNone) with
    | some i =>
      if decide (g.windows ≤ mine.length) || decide (g.acc < (mine.map (·.accUnits)).foldl (· + ·) units) then .fail stNoResource
      else
        let x : RedWindow :=
          { base := base, lines := lines, opfmt := c.p 8 1, ldi := c.ldi, count := c.p 10 2, accUnits := units
            arr := arr, fence := fence, nth := s.batten.nextWin }
        let t := s.setWindow i x
        .ok { t with batten := { t.batten with nextWin := t.batten.nextWin + 1 } } (leBytes 1 i ++ leBytes 1 0 ++ leBytes 2 units)
    | none => .fail stNoResource

def redWindowOpenSpec : CmdSpec :=
  { opcode := 0x0601, perm := permDriver, states := stSealed, frozen := always, len := fun _ => 20
    reserved := fun p => decide (fieldAt p 4 4 < 2 ^ 20) && fieldAt p 9 1 == 0 && decide (fieldAt p 12 4 < 2 ^ 18)
    names := fun c => some (c.p 16 4), body := windowOpenBody }

/-- RED_WINDOW_OPEN (R159, R287). -/
def execRedWindowOpen (src : Src) (s : State) : Host.Outcome State Fault Refusal := .next (s.runSrc redWindowOpenSpec src)

def WinState.code : WinState → Nat
  | .open_ => 1
  | .complete => 2
  | .failed => 3

def windowCloseBody (s : State) (c : Cmd) : Res :=
  let i := c.p 0 1
  match s.window i with
  | none => .fail stBadParam
  | some x =>
    if x.ldi != c.ldi then .fail stOwnership
    else
      let s := s.failWindow i stState
      .ok { s with batten := { s.batten with windows := s.batten.windows.del i } }
        (leBytes 1 x.state.code ++ leBytes 3 0 ++ leBytes 4 x.done)

def redWindowCloseSpec : CmdSpec :=
  { opcode := 0x0602, perm := permDriver, states := stSealedOn, frozen := always, len := fun _ => 4
    reserved := fun p => fieldAt p 1 3 == 0
    locks := fun _ c e => { e with lockWindows := [c.p 0 1] }, body := windowCloseBody }

/-- RED_WINDOW_CLOSE (R165, R288). -/
def execRedWindowClose (src : Src) (s : State) : Host.Outcome State Fault Refusal := .next (s.runSrc redWindowCloseSpec src)

/-- The 32 bytes of a window table entry (R159). -/
def RedWindow.bytes (x : RedWindow) : Bytes :=
  leBytes 4 x.base ++ leBytes 4 x.lines ++ leBytes 1 x.opfmt ++ leBytes 1 x.ldi ++ leBytes 1 x.state.code ++ leBytes 1 0
    ++ leBytes 2 x.count ++ leBytes 2 x.accUnits ++ leBytes 4 x.arr ++ leBytes 4 x.fence ++ leBytes 4 x.done ++ leBytes 4 0

def windowQueryBody (s : State) (c : Cmd) : Res :=
  match s.window (c.p 0 1) with
  | none => .fail stBadParam
  | some x => if x.ldi != c.ldi then .fail stOwnership else .ok s x.bytes

def redWindowQuerySpec : CmdSpec :=
  { opcode := 0x0603, perm := permRead, states := stSealedOn, journaled := readOnly, len := fun _ => 4
    reserved := fun p => fieldAt p 1 3 == 0, body := windowQueryBody }

/-- RED_WINDOW_QUERY (R288). -/
def execRedWindowQuery (src : Src) (s : State) : Host.Outcome State Fault Refusal := .next (s.runSrc redWindowQuerySpec src)

/-! ### Arrival counters (R124, R289) -/

/-- Allocate an arrival counter that names a fence, in the order of the fences. -/
def State.allocArr (s : State) (ldi fence : Nat) : Option (Nat × State) :=
  let t := s.tables
  (takeIndex t.arrFresh t.arrs.length t.arrFreed (t.reserved MigState.arrIds) (fun i => (t.arrs.find i).isSome)).map
    (fun x => (x.1, { s with tables := { t with
      arrs := t.arrs.put x.1 { ldi := ldi, bytes := 0, fence := fenceIndex fence }, arrFresh := x.2.1, arrFreed := x.2.2 } }))

def arrAllocBody (s : State) (c : Cmd) : Res :=
  let h := c.p 0 4
  if h != 0 && !s.fenceArmed c.ldi h then .fail stBadParam
  else if decide ((s.dom c.ldi).grant.arrs ≤ s.arrUse c.ldi) then .fail stNoResource
  else match s.allocArr c.ldi h with
    | none => .fail stNoResource
    | some (i, t) => .ok t (leBytes 4 i)

def arrAllocSpec : CmdSpec :=
  { opcode := 0x0610, perm := permDriver, states := stToRunning, len := fun _ => 4
    names := fun c => some (c.p 0 4), body := arrAllocBody }

/-- ARR_ALLOC (R289). -/
def execArrAlloc (src : Src) (s : State) : Host.Outcome State Fault Refusal := .next (s.runSrc arrAllocSpec src)

/-- Writes of a lane that it has not accepted. -/
def Lane.unaccepted (l : Lane) : List LineReq :=
  (l.misses.flatMap Prod.snd ++ l.held ++ l.reads.map (·.req)).filter (fun r => r.op != .read)

/-- The counter is in use (R289): an OPEN window, a dirty line or an entry of Batten, or an unaccepted write names it. -/
def State.arrBusy (s : State) (i : Nat) : Bool :=
  s.batten.windows.vals.any (fun w => w.state == .open_ && w.arr == i)
    || s.batten.units.vals.any (fun b => b.entries.any (fun e => e.arr == i)
        || b.lines.any (fun l => l.dirty && l.owed.any (fun p => p.arr == i)))
    || s.weft.lanes.vals.any (fun l => l.unaccepted.any (fun r => r.arr == i))

def arrFreeBody (s : State) (c : Cmd) : Res :=
  let i := c.p 0 4
  match s.tables.arrs.find i with
  | none => .fail stBadParam
  | some a =>
    if !s.arrOk c.ldi i then .fail stBadParam
    else if s.arrBusy i then .fail stBusy
    else .ok { s with tables := { s.tables with arrs := s.tables.arrs.del i, arrFreed := s.tables.arrFreed ++ [i] } }
      (leBytes 8 a.bytes)

def arrFreeSpec : CmdSpec :=
  { opcode := 0x0611, perm := permDriver, states := stToAborted, len := fun _ => 4
    reserved := fun p => decide (fieldAt p 0 4 < 2 ^ 18)
    locks := fun _ c e => { e with lockArrs := [c.p 0 4] }, body := arrFreeBody }

/-- ARR_FREE (R289). -/
def execArrFree (src : Src) (s : State) : Host.Outcome State Fault Refusal := .next (s.runSrc arrFreeSpec src)

/-! ### Fences (R46, R48, R49, R290) -/

def fenCreateBody (s : State) (c : Cmd) : Res :=
  if decide ((s.dom c.ldi).grant.fences ≤ s.fenceUse c.ldi) then .fail stNoResource
  else match s.allocFence c.ldi 0 with
    | none => .fail stNoResource
    | some (h, t) => .ok t (leBytes 4 h)

def fenCreateSpec : CmdSpec :=
  { opcode := 0x0620, perm := permDriver, states := stToRunning, frozen := always, body := fenCreateBody }

/-- FEN_CREATE (R46, R290). -/
def execFenCreate (src : Src) (s : State) : Host.Outcome State Fault Refusal := .next (s.runSrc fenCreateSpec src)

/-- An OPEN window names the fence. -/
def State.fenceOfWindow (s : State) (h : Nat) : Bool := s.batten.windows.vals.any (fun w => w.state == .open_ && w.fence == h)

/-- The handle is the LDI's, and not the domain error fence's. -/
def State.fenceUsable (s : State) (ldi h : Nat) : Bool := s.fenceNamed ldi h && h != (s.dom ldi).errFence

def lockFence (_ : State) (c : Cmd) (e : JEntry) : JEntry := { e with lockFences := [fenceIndex (c.p 0 4)] }

def registerBody (s : State) (c : Cmd) : Res :=
  let h := c.p 0 4
  let f := s.fence (fenceIndex h)
  if !s.fenceUsable c.ldi h || !(s.contextsOf c.ldi).any (fun x => x.1 == c.p 4 4 && !x.2.releasing) then .fail stBadParam
  else if f.state != .armed || f.producer != 0 || s.fenceOfWindow h then .fail stState
  else
    let t := (s.setFence (fenceIndex h) { f with producer := c.p 4 4 }).publish [producerRec c.ldi h (c.p 4 4)]
    .wait (.bp t.1) (.reply []) t.2

def fenRegisterProducerSpec : CmdSpec :=
  { opcode := 0x0621, perm := permDriver, states := stToRunning, frozen := always, len := fun _ => 8
    reserved := fun p => decide (fieldAt p 4 4 < 4096), locks := lockFence, names := fun c => some (c.p 0 4), body := registerBody }

/-- FEN_REGISTER_PRODUCER (R290). -/
def execFenRegisterProducer (src : Src) (s : State) : Host.Outcome State Fault Refusal :=
  .next (s.runSrc fenRegisterProducerSpec src)

/-- Requests that a lane has taken and not finished. -/
def Lane.requests (l : Lane) : List LineReq :=
  l.misses.flatMap Prod.snd ++ l.held ++ l.reads.map (·.req) ++ l.ingress.map (·.req)

/-- An accepted operation names the fence (R49). -/
def State.fenceInUse (s : State) (h : Nat) : Bool :=
  s.weft.lanes.vals.any (fun l => l.requests.any (fun r => r.src.isHost && r.fence == h))
    || s.batten.units.vals.any (fun b => b.entries.any (fun e => e.src.isLocal && e.fence == h))
    || s.batten.reqs.vals.any (fun r => r.fence == h)
    || s.shuttle.rcache.any (fun e => !e.reply && e.fence == h)

/-- R49 refuses to free the fence. -/
def State.fenceKept (s : State) (h : Nat) : Bool :=
  let f := s.fence (fenceIndex h)
  s.tables.arrs.vals.any (fun a => a.fence == fenceIndex h) || s.fenceOfWindow h || s.fenceInUse h
    || (f.state == .armed && f.producer != 0)

def fenDestroyBody (s : State) (c : Cmd) : Res :=
  let h := c.p 0 4
  let f := s.fence (fenceIndex h)
  if !s.fenceUsable c.ldi h then .fail stBadParam
  else if s.fenceKept h then .fail stState
  else .ok (s.freeFence (fenceIndex h)) (leBytes 2 f.status ++ leBytes 1 f.cause)

def fenDestroySpec : CmdSpec :=
  { opcode := 0x0622, perm := permDriver, states := stToAborted, frozen := always, len := fun _ => 4, locks := lockFence
    body := fenDestroyBody }

/-- FEN_DESTROY (R49, R290). -/
def execFenDestroy (src : Src) (s : State) : Host.Outcome State Fault Refusal := .next (s.runSrc fenDestroySpec src)

end Sys2Proof.Machine
end

