-- ==== Sys2Proof/Machine/Services.lean ====
section
/-!
DEFINITION. The link, key, report and metering commands (spec/14_commands_services.md R292-R299, R301, R302).
-/
namespace Sys2Proof.Machine

/-! ### LNK_PORT_CLASS (R24, R94, R292) -/

def portClassBody (s : State) (c : Cmd) : Res :=
  let p := c.p 0 1
  let cls := c.p 1 1
  let old := s.portClass p
  if decide (s.build.engines ≤ p) then .fail stBadParam
  else if !(s.ldisWith (fun d => (d.state == .sealed_ || d.state.flows) && d.boundPort p)).isEmpty then .fail stState
  else if !(s.ldisWith (fun d => d.state == .building && d.boundPort p && policyRefuses d.policy cls)).isEmpty then
    .fail stDenied
  else
    let m := if cls == 2 then s.shuttle.portClass.del p else s.shuttle.portClass.put p cls
    .ok { s with shuttle := { s.shuttle with portClass := m } } (leBytes 1 old)

/-- LNK_PORT_CLASS's facts. CLASS 3 and above is reserved and fails with `ST_BAD_PARAM` at check 6 (R9), since R292's table names
no status for it: DESIGN CHOICE (notes/assumptions/47.md). -/
def lnkPortClassSpec : CmdSpec :=
  { opcode := 0x0310, perm := permManager, ldiOk := ldiZero, len := fun _ => 4
    reserved := fun p => decide (fieldAt p 1 1 < 3) && fieldAt p 2 2 == 0
    locks := fun _ c e => { e with lockPorts := [c.p 0 1] }
    body := portClassBody }

/-- LNK_PORT_CLASS (R292). -/
def execLnkPortClass (src : Src) (s : State) : Host.Outcome State Fault Refusal := .next (s.runSrc lnkPortClassSpec src)

/-! ### LNK_SA_WARM (R293) -/

/-- Consecutive 2-byte entries of a parameter list. -/
def halves (b : Bytes) (off n : Nat) : List Nat := (List.range n).map (fun i => fieldAt b (off + 2 * i) 2)

def State.countSas (s : State) (ps : List Nat) (st : SaState) : Nat := (ps.filter (fun p => (s.sa p).state == st)).length

def State.warmReply (s : State) (ps : List Nat) : Bytes :=
  leBytes 4 (s.countSas ps .valid) ++ leBytes 4 (s.countSas ps .failed) ++ leBytes 4 (s.countSas ps .pending)

/-- Start a handshake where the SA is FREE, LOST or FAILED. -/
def State.warmSa (s : State) (peer : Nat) : State :=
  match (s.sa peer).state with
  | .free | .lost | .failed => s.startHandshake peer false
  | _ => s

def warmBody (s : State) (c : Cmd) : Res :=
  let n := c.p 0 2
  let ps := halves c.params 4 n
  if n == 0 || decide (16384 < n) || ps.eraseDups.length != n || ps.contains 0xFFFF || ps.contains s.boot.devid then
    .fail stBadParam
  else if !s.rootUp || !s.boot.devidSet then .fail stBusy
  else if !s.keys.identity || !s.drbgReady then .fail stState
  else
    let s := ps.foldl State.warmSa s
    if c.p 2 1 % 2 == 0 || s.sasSettled ps then .ok s (s.warmReply ps)
    else .wait (.sas ps (s.now + 10 * msTicks + 50 * usTicks * n)) (.saWarm ps) s

def lnkSaWarmSpec : CmdSpec :=
  { opcode := 0x0311, perm := permManager, ldiOk := ldiZero, len := fun p => 4 + 2 * fieldAt p 0 2
    reserved := fun p => decide (fieldAt p 2 1 < 2) && fieldAt p 3 1 == 0
    locks := fun _ c e => { e with lockPeers := halves c.params 4 (c.p 0 2) }
    body := warmBody }

/-- LNK_SA_WARM (R293). -/
def execLnkSaWarm (src : Src) (s : State) : Host.Outcome State Fault Refusal := .next (s.runSrc lnkSaWarmSpec src)

/-! ### LNK_SA_QUERY (R104, R294) -/

/-- KA_AGE: µs since the last verified packet; 0 when none has come (notes/assumptions/33.md). -/
def State.kaAge (s : State) (a : Sa) : Nat := if a.lastRx == 0 then 0 else min ((s.now - a.lastRx) / usTicks) (2 ^ 32 - 1)

/-- The 64-B record of an SA entry. -/
def State.saBytes (s : State) (peer : Nat) : Bytes :=
  let a := s.sa peer
  leBytes 2 peer ++ leBytes 6 0 ++ leBytes 8 a.txNext ++ leBytes 8 a.win.saved ++ leBytes 8 a.peerEpoch
    ++ padTo 16 a.peerId ++ leBytes 1 a.state.code ++ leBytes 1 (bit (s.saValid peer && s.liveMonitored peer) 0 + bit a.lazily 1)
    ++ leBytes 2 a.failReason ++ leBytes 4 (s.kaAge a) ++ leBytes 4 a.txAseq ++ leBytes 4 a.rxAck

/-- The 128-B entry of the SA table (R104): TX_NEXT as the central table holds it (R389). -/
def State.saEntry (s : State) (peer : Nat) : Bytes :=
  let a := s.sa peer
  keyBytes a.keys.txKey ++ keyBytes a.keys.rxKey ++ leBytes 4 a.keys.txSalt.toNat ++ leBytes 4 a.keys.rxSalt.toNat
    ++ leBytes 8 (centralCtr a.txNext) ++ (s.saBytes peer).drop 16

/-- The entries that the query names from FIRST on, one more than it may return. -/
def State.saList (s : State) (c : Cmd) : List Nat :=
  let first := c.p 0 2
  let n := c.p 2 2 + 1
  if c.p 4 1 % 2 == 1 then
    ((s.shuttle.sas.filter (fun x => decide (first ≤ x.1) && x.2.state != .free)).map Prod.fst).take n
  else span first (min n (65536 - first))

def saQueryBody (s : State) (c : Cmd) : Res :=
  let n := c.p 2 2
  let l := s.saList c
  if n == 0 || decide (1024 < n) then .fail stBadParam
  else .ok s (leBytes 4 (l.take n).length ++ leBytes 4 ((l[n]?).getD 0xFFFFFFFF)) ((l.take n).flatMap s.saBytes)

def lnkSaQuerySpec : CmdSpec :=
  { opcode := 0x0312, perm := permDevice, ldiOk := ldiZero, journaled := readOnly, len := fun _ => 8
    reserved := fun p => decide (fieldAt p 4 1 < 2) && fieldAt p 5 3 == 0
    ext := fun s c => some (64 * ((s.saList c).take (c.p 2 2)).length)
    body := saQueryBody }

/-- LNK_SA_QUERY (R294). -/
def execLnkSaQuery (src : Src) (s : State) : Host.Outcome State Fault Refusal := .next (s.runSrc lnkSaQuerySpec src)

/-! ### LNK_GROUP_CREATE (R112, R113, R295) -/

/-- Multicast replay entries that the groups on the device hold (R113). -/
def State.replayEntries (s : State) : Nat :=
  (s.shuttle.groups.vals.map s.groupEntries).foldl (· + ·) 0

/-- Entries of the multicast replay table. -/
def replayPlaces : Nat := 262144

/-- Take a held key of the group. -/
def State.takeHeldKey (s : State) (ldi gid : Nat) : Option (HeldGroupKey × State) :=
  let f := fun (h : HeldGroupKey) => h.gdid == (s.dom ldi).gdid && h.gid == gid
  (s.shuttle.groupHold.find? f).map (fun h =>
    (h, { s with shuttle := { s.shuttle with groupHold := s.shuttle.groupHold.filter (fun x => !f x) } }))

def groupReply (slot entries : Nat) : Bytes := leBytes 2 slot ++ leBytes 2 0 ++ leBytes 4 entries

/-- Ranks that send to the group. -/
def groupRanks (c : Cmd) (members : Nat) : List Nat :=
  if c.p 2 1 % 2 == 1 then List.range members else halves c.params 8 (c.p 4 2)

def groupArgs (c : Cmd) (members : Nat) : Bool :=
  let n := c.p 4 2
  let rs := groupRanks c members
  c.p 0 2 != 0 && (if c.p 2 1 % 2 == 1 then n == 0 else decide (1 ≤ n) && decide (n ≤ 32764) && rs.eraseDups.length == n)
    && rs.all (fun r => decide (r < members))

def groupBody (s : State) (c : Cmd) : Res :=
  let l := c.ldi
  let d := s.dom l
  let gid := c.p 0 2
  let ranks := groupRanks c d.members
  let entries := (ranks.filter (fun r => r != d.rank)).length
  if !groupArgs c d.members || (s.group (groupKeyOf l gid)).isSome then .fail stBadParam
  else match s.freePoolSlot l with
    | none => .fail stNoResource
    | some i =>
      if decide (replayPlaces < s.replayEntries + entries) then .fail stNoResource
      else if ranks.foldl min 65535 == d.rank then
        if !s.drbgReady then .fail stState
        else
          let n := s.draw
          let key := keyOf (drawBytes n.1 32)
          let salt := fieldAt (drawBytes n.1 64) 32 2
          let g : Group := { ldi := l, gid := gid, senders := ranks, slot := i, keyed := true }
          let t := (n.2.setGroup (groupKeyOf l gid) g).setSlot i { type := 9, ldi := l, gen := d.gen, key := key, salt := salt }
          .ok ((t.otherMembers l).foldl (fun s p => s.sendCtrl p 0x07 (groupKeyBody d.gdid gid salt key)) t) (groupReply i entries)
      else
        let g : Group := { ldi := l, gid := gid, senders := ranks, slot := i }
        let t := (s.setGroup (groupKeyOf l gid) g).setSlot i { type := 9, ldi := l, gen := d.gen }
        match t.takeHeldKey l gid with
        | some (h, t) =>
          .ok ((t.setGroup (groupKeyOf l gid) { g with keyed := true }).setSlot i
            { type := 9, ldi := l, gen := d.gen, key := h.key, salt := h.salt }) (groupReply i entries)
        | none => .wait (.groupKey l gid) (.groupCreate l gid i entries (s.now + secTicks)) t

/-- The group, and the pool slot that its key takes. -/
def lockGroup (s : State) (c : Cmd) (e : JEntry) : JEntry :=
  { e with lockGroups := [groupKeyOf c.ldi (c.p 0 2)], lockSlots := (s.freePoolSlot c.ldi).toList }

def lnkGroupCreateSpec : CmdSpec :=
  { opcode := 0x0313, perm := permManager, states := stBuilding, hold := always, frozen := always
    len := fun p => 8 + 2 * fieldAt p 4 2
    reserved := fun p => decide (fieldAt p 2 1 < 2) && fieldAt p 3 1 == 0 && fieldAt p 6 2 == 0
    locks := lockGroup, body := groupBody, after := endSpentAfter }

/-- LNK_GROUP_CREATE (R295). -/
def execLnkGroupCreate (src : Src) (s : State) : Host.Outcome State Fault Refusal :=
  .next (s.runSrc lnkGroupCreateSpec src)

/-- The create of a group that waits for its key: entry, slot and deadline. -/
def State.waitingGroup (s : State) (ldi gid : Nat) : Option (JEntry × Nat × Nat) :=
  s.loom.journal.findSome? (fun (e : JEntry) => match e.cont with
    | .groupCreate l g i _ d => if l == ldi && g == gid then some (e, i, d) else none
    | _ => none)

/-- A create gives up what it took (R112). -/
def State.dropGroup (s : State) (ldi gid slot : Nat) : State :=
  let s := s.clearSlot slot
  { s with shuttle := { s.shuttle with groups := s.shuttle.groups.del (groupKeyOf ldi gid) } }

/-- GROUP_CREATE_TIMEOUT (R112): 1 s has passed without the key. -/
def execGroupCreateTimeout (ldi group : Nat) (s : State) : Host.Outcome State Fault Refusal :=
  match s.waitingGroup ldi group with
  | some (e, i, d) =>
    let missing := match s.group (groupKeyOf ldi group) with | some g => !g.keyed | none => false
    let s1 := (s.advanceTo d).dropGroup ldi group i
    nextIf (s.loomUp && missing && !e.overtaken) s ((s1.commit e { status := stBusy }).endSpent.drainTurns)
  | none => .next s

/-! ### Key commands (R194-R196, R218, R296-R298) -/

def ephemeralBody (s : State) (c : Cmd) : Res :=
  match s.ekemPublic c.ldi with
  | some k => .ok s (leBytes 4 (s.dom c.ldi).gdid ++ leBytes 2 (s.dom c.ldi).gen) (k.1 ++ k.2)
  | none => .fail stState

def keyEphemeralGetSpec : CmdSpec :=
  { opcode := 0x0401, perm := permRead, states := stSealedOn, journaled := readOnly, ext := fun _ _ => some 1665
    body := ephemeralBody }

/-- KEY_EPHEMERAL_GET (R296). -/
def execKeyEphemeralGet (src : Src) (s : State) : Host.Outcome State Fault Refusal :=
  .next (s.runSrc keyEphemeralGetSpec src)

/-- KEK of R195: the secrets of both agreements, bound to the domain and its public keys. -/
def State.weightKek (s : State) (ldi : Nat) (seed : Key) (ct ecdh : Bytes) : Key :=
  let pub := (s.ekemPublic ldi).getD ([], [])
  let ssk := padTo 32 (Config.mlkemDecaps (s.ekemKem ldi seed) ct)
  let sse := padTo 48 (Config.p384Shared (s.ekemEcdh ldi seed) ecdh)
  keyOf (kdf (ssk ++ sse) "CTC3-WEIGHT" (s.domContext ldi ++ bvBytes 48 (Config.sha384 (pub.1 ++ pub.2))) 256)

/-- Unwrap a weight key (R195 step 4, R218). -/
def unwrapKey (kek : Key) (p context : Bytes) : Option Key :=
  let iv := ivOf (p.drop 1668)
  let ct := bytesAt p 1684 32
  if tagOk kek iv (bytesAt p 1680 4 ++ context) ct (bytesAt p 1716 16) then
    some (keyOf (xorBytes ct (gcmStream kek iv 32))) else none

/-- The LDI holds a weight slot of the KEY_ID. -/
def State.hasKeyId (s : State) (ldi keyId : Nat) : Bool :=
  (s.poolSlots ldi).any (fun i => s.weightSlot ldi i && (s.keySlot i).keyId == keyId)

def weightInstallBody (s : State) (c : Cmd) : Res :=
  let p := c.params
  let ecdh := bytesAt p 1568 97
  let keyId := fieldAt p 1680 4
  if c.plen != 1732 || !Config.p384Valid ecdh || s.hasKeyId c.ldi keyId then .fail stBadParam
  else match s.freePoolSlot c.ldi with
    | none => .fail stNoResource
    | some i =>
      match (s.ekemSeed c.ldi).bind (fun seed =>
          unwrapKey (s.weightKek c.ldi seed (p.take 1568) ecdh) p (s.domContext c.ldi)) with
      | none => .fail stIntegrity
      | some k =>
        .ok (s.setSlot i { type := 8, ldi := c.ldi, gen := (s.dom c.ldi).gen, key := k, keyId := keyId })
          (leBytes 2 i ++ leBytes 2 0 ++ leBytes 4 keyId)

def keyWeightInstallSpec : CmdSpec :=
  { opcode := 0x0402, perm := permTenant, states := stSealed, hold := always, frozen := always, len := fun _ => 1732
    reserved := fun p => fieldAt p 1665 3 == 0, body := weightInstallBody }

/-- KEY_WEIGHT_INSTALL (R297). -/
def execKeyWeightInstall (src : Src) (s : State) : Host.Outcome State Fault Refusal :=
  .next (s.runSrc keyWeightInstallSpec src)

def weightDropBody (s : State) (c : Cmd) : Res :=
  let i := c.p 0 2
  if !s.weightSlot c.ldi i then .fail stBadParam
  else if (s.keySlot i).busy then .fail stBusy
  else .ok (s.clearSlot i)

def keyWeightDropSpec : CmdSpec :=
  { opcode := 0x0403, perm := permDigest, states := stSealedOn, frozen := always, len := fun _ => 4
    reserved := fun p => fieldAt p 2 2 == 0, locks := fun _ c e => { e with lockSlots := [c.p 0 2] }
    body := weightDropBody }

/-- KEY_WEIGHT_DROP (R298). -/
def execKeyWeightDrop (src : Src) (s : State) : Host.Outcome State Fault Refusal := .next (s.runSrc keyWeightDropSpec src)

/-! ### ATT_REPORT (R214, R299) -/

/-- Bytes of the DER certificates, where CHAIN asks for them. -/
def State.chainPart (s : State) (c : Cmd) : Bytes := if c.p 32 1 % 2 == 1 then s.keys.chain else []

/-- Why the device does not attest, or `ST_OK` (R193, R200, R201). -/
def State.attestStatus (s : State) : Nat := if !s.rootUp then stBusy else if !s.keys.identity then stState else stOk

def reportCmdBody (s : State) (c : Cmd) : Res :=
  let body := s.committed.reportBody (c.params.take 32) c.ldi
  let chain := s.chainPart c
  if s.attestStatus != stOk then .fail s.attestStatus
  else if !s.drbgReady then .fail stState
  else
    let g := s.hybridSign s.keys.aliasSeed body
    .ok g.2 (leBytes 4 body.length ++ leBytes 4 chain.length) (body ++ g.1.1 ++ g.1.2 ++ chain)

def attReportSpec : CmdSpec :=
  { opcode := 0x0501, perm := permQuery, ldiOk := ldiAny, states := stNotEmpty, journaled := readOnly, len := fun _ => 36
    reserved := fun p => decide (fieldAt p 32 1 < 2) && fieldAt p 33 3 == 0
    ext := fun s c => some ((s.committed.reportBody (c.params.take 32) c.ldi).length + 4723 + (s.chainPart c).length)
    body := reportCmdBody }

/-- ATT_REPORT (R299). -/
def execAttReport (src : Src) (s : State) : Host.Outcome State Fault Refusal := .next (s.runSrc attReportSpec src)

/-! ### MTR_READ, MTR_ACK (R224, R301, R302) -/

/-- Header and signatures of a closed batch, with the 5 zero bytes. -/
def MeterBatch.front (b : MeterBatch) : Bytes :=
  match b.closed with
  | some (h, sig) => h ++ sig ++ leBytes 5 0
  | none => []

/-- The record of leaf i with its path, as a tenant reads it. -/
def MeterBatch.entry (b : MeterBatch) (i : Nat) : Bytes :=
  let path := merklePath b.records i
  (b.records[i]?).getD [] ++ leBytes 1 path.length ++ leBytes 7 0 ++ padTo 384 (path.flatMap id)

/-- The staged records, without those that are lost (R383). -/
def MeterBatch.kept (b : MeterBatch) : List Bytes :=
  (List.range b.records.length).filterMap (fun i => if b.lost.contains i then none else b.records[i]?)

/-- Leaves of a GDID. -/
def MeterBatch.leavesOf (b : MeterBatch) (gdid : Nat) : List Nat :=
  (List.range b.records.length).filter (fun i => (b.owners[i]?).map Prod.fst == some gdid && !b.lost.contains i)

/-- The block of a batch: `gdid` for a tenant. -/
def MeterBatch.block (b : MeterBatch) : Option Nat → Bytes
  | none => b.front ++ b.kept.flatMap id
  | some g => b.front ++ leBytes 2 (b.leavesOf g).length ++ leBytes 6 0 ++ (b.leavesOf g).flatMap b.entry

/-- The GDID that confines a reader. -/
def State.meterGdid (s : State) (c : Cmd) : Option Nat := if c.cls == .tenant then some (s.dom c.ldi).gdid else none

/-- Batches that a read names, oldest first, with their blocks. -/
def State.meterBlocks (s : State) (c : Cmd) : List (Nat × Bytes) :=
  let g := s.meterGdid c
  let bs := s.metering.batches.filter (fun b => b.closed.isSome && decide (c.p 0 4 ≤ b.number)
    && (match g with | some g => !(b.leavesOf g).isEmpty | none => true))
  (bs.take (c.p 4 1)).map (fun b => (b.number, b.block g))

/-- As many whole blocks as fit in `room` bytes. -/
def fitBlocks (room : Nat) : List (Nat × Bytes) → List (Nat × Bytes)
  | [] => []
  | b :: bs => if b.2.length ≤ room then b :: fitBlocks (room - b.2.length) bs else []

/-- The bytes that the read returns, or those of its first block when that does not fit. -/
def State.meterNeed (s : State) (c : Cmd) : Nat :=
  let bs := s.meterBlocks c
  match fitBlocks c.room bs, bs with
  | [], b :: _ => b.2.length
  | fit, _ => (fit.map (fun b => b.2.length)).foldl (· + ·) 0

def meterReadBody (s : State) (c : Cmd) : Res :=
  let n := c.p 4 1
  let fit := fitBlocks c.room (s.meterBlocks c)
  if n == 0 || decide (8 < n) then .fail stBadParam
  else .ok s (leBytes 2 fit.length ++ leBytes 2 0 ++ leBytes 4 (((fit.getLast?).map (fun b => b.1 + 1)).getD (c.p 0 4)))
    (fit.flatMap Prod.snd)

def mtrReadSpec : CmdSpec :=
  { opcode := 0x0510, perm := permMeter, ldiOk := fun c => if c.cls == .tenant then c.ldi != 0 else c.ldi == 0
    states := stNotEmpty, journaled := readOnly, len := fun _ => 8, reserved := fun p => fieldAt p 5 3 == 0
    ext := fun s c => some (s.meterNeed c), body := meterReadBody }

/-- MTR_READ (R301). -/
def execMtrRead (src : Src) (s : State) : Host.Outcome State Fault Refusal := .next (s.runSrc mtrReadSpec src)

def meterAckBody (s : State) (c : Cmd) : Res :=
  match s.metering.batches.find? (fun b => b.closed.isSome) with
  | some b =>
    if b.number != c.p 0 4 then .fail stBadParam
    else
      let bs := s.metering.batches.filter (fun x => x.number != b.number)
      .ok ({ s with metering := { s.metering with batches := bs } }).placeHeld
  | none => .fail stBadParam

def mtrAckSpec : CmdSpec :=
  { opcode := 0x0511, perm := permManager, ldiOk := ldiZero, len := fun _ => 4, body := meterAckBody }

/-- MTR_ACK (R302). -/
def execMtrAck (src : Src) (s : State) : Host.Outcome State Fault Refusal := .next (s.runSrc mtrAckSpec src)

end Sys2Proof.Machine
end

