-- ==== Sys2Proof/Machine/Debug.lean ====
section
/-!
DEFINITION. Debug authorisation and halting the control cores (spec/14_commands_services.md R306-R309,
spec/16_lifecycle.md R358-R361, spec/20_observability.md R430-R432).
-/
namespace Sys2Proof.Machine

/-! ### The time counter's moments -/

/-- The counter in units of 2^-48 ns, and a 12-B time in the same units. -/
def TimeUnit.fine (t : TimeUnit) : Nat := (t.sec * 1000000000 + t.ns) * 2 ^ 48 + t.frac48

def fineOf (t : Time12) : Nat := (t.sec * 1000000000 + t.ns) * 2 ^ 48 + t.frac * 2 ^ 32

/-- The state at the first tick at which the counter has reached `target`. -/
def State.advanceCounter (s : State) (target : Nat) : State :=
  let t := s.time
  { s with time := t.count ((target - t.fine + t.inc - 1) / t.inc) }

/-! ### Rights (R360, R361) -/

/-- The right HALT (bit 2). -/
def rightHalt : Nat := 2

/-- Rights marked "nonce", and those that expose keys or SRAM. -/
def nonceRights (r : BitVec 64) : Bool := (r &&& 0x74#64) != 0
def exposingRights (r : BitVec 64) : Bool := (r &&& 0x70#64) != 0

/-- The right ARRAY_READ (bit 5), under which the selection of the debug window stands (R475). -/
def rightArray : Nat := 5
def rightScan : Nat := 6

/-- Debug certificates change: where HALT ends with them, a halt ends first and its breakpoints go; the array selection
ends with its right; a domain that a level above 0 now covers has been exposed (R217). -/
def State.setCerts (s : State) (m : Map DebugCert) : State :=
  let t := { s with dbg := { s.dbg with certs := m } }
  let t := if t.right rightArray then t else { t with loom := { t.loom with arrStore := 0, arrWord := 0 } }
  let fine := t.right 0 || t.right 1
  let t := if fine then { t with tables := { t.tables with domains := t.tables.domains.map (fun (x : Nat × Domain) =>
      (x.1, { x.2 with fineEver := x.2.fineEver || x.2.state.live })) } } else t
  if s.right rightHalt && !t.right rightHalt then
    let u := t.failureEndsHalt
    { u with loom := { u.loom with bps := [] } }
  else t

/-- The rights of every certificate end. -/
def State.endRights (s : State) : State := if s.dbg.certs.isEmpty then s else s.setCerts []

/-! ### The debug-rights extension (R358) -/

/-- Its object identifier, 2.25.196551470235082218476393117284601623347. -/
def debugOid : List Nat := [2, 25, 196551470235082218476393117284601623347]

/-- The content of the DER element with this tag that a string begins with, and the rest. Every element of the extension has a length
below 128, which DER gives in one byte. -/
def derElement (tag : Nat) (b : Bytes) : Option (Bytes × Bytes) :=
  let n := fieldAt b 1 1
  if decide (2 ≤ b.length) && fieldAt b 0 1 == tag && decide (n < 128) && decide (2 + n ≤ b.length) then
    some (bytesAt b 2 n, b.drop (2 + n))
  else none

/-- The value of a DER INTEGER that is not negative: big-endian, in as few bytes as it takes. -/
def derNat (b : Bytes) : Option Nat :=
  if b.isEmpty || decide (128 ≤ fieldAt b 0 1) || (decide (2 ≤ b.length) && fieldAt b 0 1 == 0 && decide (fieldAt b 1 1 < 128)) then
    none
  else some (leNat b.reverse)

/-- A DER OCTET STRING of n bytes, and the rest. -/
def derOctets (n : Nat) (b : Bytes) : Option (Bytes × Bytes) := (derElement 4 b).filter (fun x => x.1.length == n)

/-- The extension's value: version 1, rights, serial, lcsMask, and a nonce or none. -/
def debugExtension (v : Bytes) : Option (Nat × Bytes × Nat × Option (BitVec 256)) :=
  match derElement 0x30 v with
  | some (body, []) => do
    let version ← derElement 2 body
    let rights ← derOctets 8 version.2
    let serial ← derOctets 16 rights.2
    let mask ← derElement 2 serial.2
    let lcs ← derNat mask.1
    if derNat version.1 != some 1 then none
    else if mask.2.isEmpty then some (leNat rights.1, serial.1, lcs, none)
    else match derOctets 32 mask.2 with
      | some (n, []) => some (leNat rights.1, serial.1, lcs, some (BitVec.ofNat 256 (leNat n)))
      | _ => none
  | _ => none

/-- The parts of a debug certificate chain that R359 reads. -/
structure DebugFields where
  rights : BitVec 64 := 0
  serial : Bytes := []
  lcsMask : Nat := 0
  nonce : Option (BitVec 256) := none
  notBefore : Nat := 0
  notAfter : Nat := 0
  deriving DecidableEq, Repr

/-- The debug-rights extension and validity of a chain's leaf, when the string is 1 to 4 DER X.509 v3 certificates; the inner option
is none when the leaf lacks the extension, as critical and in its DER form. -/
def debugFields (b : Bytes) : Option (Option DebugFields) :=
  (Config.certValidity b).map (fun v =>
    match Config.leafExtension b debugOid with
    | some (true, x) => (debugExtension x).map (fun (r, sn, m, n) =>
        { rights := BitVec.ofNat 64 r, serial := sn, lcsMask := m, nonce := n, notBefore := v.1, notAfter := v.2 })
    | _ => none)

/-! ### DBG_CERT_PRESENT (R306, R359) -/

/-- DER X.509 v3 certificates of a command: CLEN bytes. -/
def certBytes (c : Cmd) : Bytes := bytesAt c.params 8 (c.p 4 4)

/-- The counter lies within a certificate's validity. -/
def State.validNow (s : State) (f : DebugFields) : Bool :=
  decide (f.notBefore ≤ s.time.sec) && decide (s.time.fine ≤ f.notAfter * 1000000000 * 2 ^ 48)

/-- A right of the certificate needs the nonce that the device holds. -/
def State.nonceOk (s : State) (f : DebugFields) : Bool :=
  !nonceRights f.rights || (s.dbg.nonce.isSome && f.nonce == s.dbg.nonce)

/-- The checks of R359 but those of the time. -/
def State.certOk (s : State) (b : Bytes) (f : DebugFields) : Bool :=
  (verifiedLeaf b).isSome && Config.isDebugLeaf b && f.serial == s.otp.serial && f.lcsMask / 2 ^ s.otp.lcs % 2 == 1
    && s.validNow f && s.nonceOk f && !Config.revoked s.boot.fwDigest b
    && !(lcsLive s.otp.lcs && exposingRights f.rights && !s.otp.zeroizedFlag)

/-- Active certificates that the device holds at most. -/
def certPlaces : Nat := 8

def State.timed (s : State) : Bool := s.time.state == .locked || s.time.state == .holdover

/-- Grant the rights of a certificate that has passed. -/
def State.grantCert (s : State) (f : DebugFields) : State :=
  let id := s.dbg.nextCert
  let slot := ((List.range 8).find? (fun i => s.dbg.certs.all (fun x => x.2.slot != i))).getD 0
  let d := { s.dbg with
    nextCert := id + 1
    nonce := if nonceRights f.rights then none else s.dbg.nonce }
  { s with dbg := d }.setCerts
    (s.dbg.certs.put id { rights := f.rights.setWidth 8, notAfter := f.notAfter, slot := slot })

def certPresentBody (s : State) (c : Cmd) : Res :=
  let mode := c.p 0 1
  let n := c.p 4 4
  let b := certBytes c
  if decide (1 < mode) || (mode == 0 && n != 0) || (mode == 1 && (n == 0 || decide (65528 < n))) then .fail stBadParam
  else if mode == 0 then
    if !s.drbgReady then .fail stState
    else
      let d := s.draw
      let nonce := BitVec.ofNat 256 (leNat (drawBytes d.1 32))
      .ok { d.2 with dbg := { d.2.dbg with nonce := some nonce, nonceUntil := s.now + 300 * secTicks } }
        (bvBytes 32 nonce)
  else match debugFields b with
    | none => .fail stBadParam
    | some f =>
      if !s.timed then .fail stTimeUnknown
      else match f with
        | none => .fail stDenied
        | some f =>
          if !s.certOk b f then .fail stDenied
          else if decide (certPlaces ≤ s.dbg.certs.length) then .fail stNoResource
          else .ok (s.grantCert f) (leBytes 4 s.dbg.nextCert ++ leBytes 8 (f.rights.setWidth 8).toNat)

def dbgCertPresentSpec : CmdSpec :=
  { opcode := 0x0801, perm := permDebug, ldiOk := ldiZero
    len := fun p => 8 + (if fieldAt p 0 1 == 1 then fieldAt p 4 4 else 0)
    reserved := fun p => fieldAt p 1 3 == 0, body := certPresentBody, after := endSpentAfter }

/-- DBG_CERT_PRESENT (R306). -/
def execDbgCertPresent (src : Src) (s : State) : Host.Outcome State Fault Refusal :=
  .next (s.runSrc dbgCertPresentSpec src)

/-! ### DBG_REVOKE (R307) -/

def revokeBody (s : State) (c : Cmd) : Res :=
  let id := c.p 0 4
  let reply := fun (t : State) => Res.ok t (leBytes 8 t.debugRights)
  if id == 0xFFFFFFFF then reply s.endRights
  else if (s.dbg.certs.find id).isNone then .fail stBadParam
  else reply (s.setCerts (s.dbg.certs.del id))

def dbgRevokeSpec : CmdSpec :=
  { opcode := 0x0802, perm := permDebug, ldiOk := ldiZero, len := fun _ => 4, body := revokeBody, after := endSpentAfter }

/-- DBG_REVOKE (R307). -/
def execDbgRevoke (src : Src) (s : State) : Host.Outcome State Fault Refusal := .next (s.runSrc dbgRevokeSpec src)

/-- DEBUG_RIGHTS_EXPIRY (R361): the time counter passes notAfter of an active certificate. -/
def execDebugRightsExpiry (cert : Nat) (s : State) : Host.Outcome State Fault Refusal :=
  match s.dbg.certs.find cert with
  | some x =>
    let s1 := s.advanceCounter (x.notAfter * 1000000000 * 2 ^ 48 + 1)
    nextIf s.clocked s (s1.setCerts (s1.dbg.certs.del cert))
  | none => .next s

/-- DEBUG_NONCE_EXPIRY (R306): 300 s of FREERUN since the nonce was drawn. -/
def execDebugNonceExpiry (s : State) : Host.Outcome State Fault Refusal :=
  let s1 := s.advanceTo s.dbg.nonceUntil
  nextIf (s.clocked && s.dbg.nonce.isSome) s { s1 with dbg := { s1.dbg with nonce := none } }

/-! ### DBG_HALT, DBG_RESUME (R308, R309, R430-R432) -/

def breakpoints (c : Cmd) : List Nat := words c.params 4 (c.p 0 1)

/-- The cores stop at the first instruction boundary; the spec does not name its address, a free value. -/
def State.haltNow (s : State) : State :=
  { s with freeCount := s.freeCount + 1,
           loom := { s.loom with halting := true, haltPc := Config.freeNat s.freeCount % 2 ^ 32
                                 haltDraw := s.freeCount, coreRegs := [] } }

def haltBody (s : State) (c : Cmd) : Res :=
  let n := c.p 0 1
  if !s.right rightHalt then .fail stDenied
  else if decide (4 < n) || (breakpoints c).any (fun a => a % 4 != 0) then .fail stBadParam
  else if !s.loom.bps.isEmpty then .fail stState
  else if n == 0 then .ok s.haltNow
  else .ok { s with loom := { s.loom with bps := breakpoints c } }

/-- Entries of BP beyond NBP are zero. -/
def haltReserved (p : Bytes) : Bool := fieldAt p 1 3 == 0 && allZero ((p.take 20).drop (4 + 4 * fieldAt p 0 1))

def dbgHaltSpec : CmdSpec :=
  { opcode := 0x0803, perm := permLcs, ldiOk := ldiZero, len := fun _ => 20, reserved := haltReserved, body := haltBody }

/-- DBG_HALT (R308): with NBP 0 the cores stop at the first instruction boundary after the reply. -/
def execDbgHalt (src : Src) (s : State) : Host.Outcome State Fault Refusal := .next (s.runSrc dbgHaltSpec src)

/-- BREAKPOINT_HIT (R430): the cores reach an armed breakpoint and stop; the engines drain. -/
def execBreakpointHit (addr : Nat) (s : State) : Host.Outcome State Fault Refusal :=
  nextIf (s.loomUp && !s.loom.halting && s.right rightHalt && s.loom.bps.contains addr) s
    { s with
      freeCount := s.freeCount + 1
      loom := { s.loom with halting := true, haltPc := addr, haltDraw := s.freeCount, coreRegs := [] } }

/-- The lane holds a line of the scrub engine that it has not accepted. -/
def Lane.waitsScrub (l : Lane) : Bool :=
  (l.misses.flatMap Prod.snd ++ l.held).any (fun r => r.src == .scrub)

/-- Every line that an engine has issued has been accepted or answered. What the public-key and digest engines do is done in the
step that asks for it. -/
def State.enginesIdle (s : State) : Bool :=
  s.loom.scans.all (fun x => !x.out || s.weft.done.any (fun d => d.req.src == x.src))
    && s.weft.lanes.vals.all (fun l => !l.waitsScrub)

/-- HALT_DRAIN_COMPLETE (R430): the cores halt, with the halt event (R469). -/
def execHaltDrainComplete (s : State) : Host.Outcome State Fault Refusal :=
  nextIf (s.loomUp && s.loom.halting && s.enginesIdle) s
    (({ s with loom := { s.loom with halted := true, halting := false } }).raise 4)

def resumeBody (s : State) (_ : Cmd) : Res :=
  if !s.inHalt && s.loom.bps.isEmpty then .fail stState
  else
    let t := s.failureEndsHalt
    .ok { t with loom := { t.loom with bps := [] } }

def dbgResumeSpec : CmdSpec := { opcode := 0x0804, perm := permLcs, ldiOk := ldiZero, body := resumeBody, after := endSpentAfter }

/-- The debug controller fetches `DBG_RESUME` from the MGMT or DEBUG ring while the cores are halted (R431). -/
def State.resumeHalted (s : State) (src : Src) : State :=
  let up := s.clocked && s.boot.phase.isRunning && !s.loom.restarting && !s.power.fatal && s.loom.ringsOpen
    && s.otp.resetDue.isNone
  match s.waitingCmd src with
  | some c =>
    if up && s.loom.halted && (src == .ring 68 || src == .ring 69) && c.opcode == 0x0804 then
      ((s.fetched c).runCommand dbgResumeSpec c).drainTurns
    else s
  | none => s

/-- DBG_RESUME (R309). -/
def execDbgResume (src : Src) (s : State) : Host.Outcome State Fault Refusal :=
  .next (if s.loom.halted then s.resumeHalted src else s.runSrc dbgResumeSpec src)

end Sys2Proof.Machine
end

