-- ==== Sys2Proof/Machine/Time.lean ====
section
/-!
DEFINITION. The time unit: the PTP receiver, the servo, the time states, offsets between members, and the time commands
(spec/11_time.md, spec/14_commands_services.md R303-R305).
-/
namespace Sys2Proof.Machine

/-- The time unit processes messages: not during a restart of Loom (R236); a halt does not stop it (R431). -/
def State.timeRuns (s : State) : Bool :=
  s.clocked && s.boot.phase.isRunning && !s.loom.restarting && !s.power.fatal

def State.setTime (s : State) (t : TimeUnit) : State := { s with time := t }

/-! ### Records and states (R235, R242) -/

/-- A signed number saturated to `8 * n` bits, in two's complement. -/
def satInt (n : Nat) (v : Int) : Bytes :=
  let h : Int := 2 ^ (8 * n - 1)
  leBytes n ((max (-h) (min v (h - 1))) % 2 ^ (8 * n)).toNat

/-- f in units of 10^-12. -/
def TimeUnit.freq (t : TimeUnit) : Int := t.f / 1000000

def State.timePayload (s : State) (old new reason : Nat) (theta : Int) (master suppressed : Nat) : Bytes :=
  leBytes 1 old ++ leBytes 1 new ++ leBytes 1 reason ++ leBytes 1 s.time.k ++ satInt 8 theta ++ satInt 4 s.time.freq
    ++ leBytes 8 master ++ leBytes 4 suppressed

/-- SAMPLE_REJECTED, at most once in 1 s. -/
def State.rejectSample (s : State) (reason : Nat) (theta : Int) (master : Nat) : State :=
  let c := s.time.state.code
  s.recordLimited 0x0B02 0 0 secTicks (s.timePayload c c reason theta master)

/-- Enter a time state: record, event, trace; debug rights end outside LOCKED and HOLDOVER (R361). -/
def State.enterTime (s : State) (new : TimeState) (reason : Nat) (theta : Int) : State :=
  let old := s.time.state
  let s := s.setTime { s.time with state := new }
  let s := s.record 0x0B01 (s.timePayload old.code new.code reason theta (s.time.selected.getD 0) 0)
  let s := (s.raise 7).traceWrite { src := 8, arg0 := old.code + new.code * 256 }
  if s.timed then s else s.endRights

/-! ### Statistics of the path delay (R234) -/

/-- n²σ² of a list. -/
def spread2 (l : List Int) : Int :=
  let sum := l.foldl (· + ·) 0
  l.length * (l.map (fun x => x * x)).foldl (· + ·) 0 - sum * sum

def minOf (l : List Int) : Int := (l.tail).foldl min (l.head?.getD 0)

/-- 2^-16 ns in a nanosecond. -/
def nsUnits : Int := 65536

/-- δ exceeds δmin + 4σ + 100 ns, over the values before it. -/
def delayExceeds (l : List Int) (d : Int) : Bool :=
  let x := d - minOf l - 100 * nsUnits
  !l.isEmpty && decide (0 < x) && decide (16 * spread2 l < x * x * (l.length * l.length : Nat))

/-- σ lies within a bound in ns. -/
def sigmaWithin (l : List Int) (b : Int) : Bool := decide (spread2 l ≤ (b * nsUnits * l.length) ^ 2)

/-- The gain row of σ. -/
def gainRow (l : List Int) : Nat :=
  if sigmaWithin l 10 then 2 else if sigmaWithin l 50 then 3 else if sigmaWithin l 200 then 4
  else if sigmaWithin l 1000 then 5 else 6

/-- The integer square root, by its bits from `n - 1` down. -/
def rootFrom (v : Nat) : Nat → Nat → Nat
  | 0, r => r
  | n + 1, r => rootFrom v n (if (r + 2 ^ n) * (r + 2 ^ n) ≤ v then r + 2 ^ n else r)

/-- σ in ps, saturating. -/
def sigmaPs (l : List Int) : Nat :=
  if l.isEmpty then 0
  else min (rootFrom ((spread2 l).toNat * 1000000) 96 0 / (l.length * 65536)) (2 ^ 32 - 1)

/-- Take one δ into the 64 latest, and let the gain index follow σ. -/
def TimeUnit.noteDelta (t : TimeUnit) (d : Int) : TimeUnit :=
  let l := (d :: t.deltas).take 64
  let row := gainRow l
  let run := if row == t.kRow then t.kRun + 1 else 1
  { t with deltas := l, kRow := row, kRun := run, k := max t.kFloor (if 64 ≤ run then row else t.k) }

/-! ### The servo (R226, R234) -/

def incNom : Int := 662294062848602
def ppm100 : Int := 10 ^ 14

def clampF (v : Int) : Int := max (-ppm100) (min v ppm100)

/-- INC_NOM × (1 + f), to the nearest. -/
def incOf (f : Int) : Nat := ((incNom * (10 ^ 18 + f) + 5 * 10 ^ 17) / 10 ^ 18).toNat

/-- θ ÷ Ts ÷ 2^e in units of 10^-18, Ts in ticks of 40/17 ns. -/
def rateOf (theta : Int) (ticks e : Nat) : Int := theta * 10 ^ 18 * 17 / ((ticks * 40 * 65536 * 2 ^ e : Nat) : Int)

/-- One accepted sample steers the counter. -/
def TimeUnit.steer (t : TimeUnit) (theta : Int) (ticks : Nat) : TimeUnit :=
  let fi := t.fi - rateOf theta ticks (2 * t.k + 2)
  let f := clampF (fi - rateOf theta ticks t.k)
  { t with fi := clampF fi, f := f, inc := incOf f }

/-- Set the counter to its value less θ (R233). -/
def TimeUnit.setBy (t : TimeUnit) (theta : Int) : TimeUnit :=
  let v := ((t.fine : Int) - theta * 2 ^ 32).toNat
  let unit := 1000000000 * 2 ^ 48
  { t with
    sec := v / unit % 2 ^ 48, ns := v % unit / 2 ^ 48, frac48 := v % 2 ^ 48
    setDone := true, setAt := t.freerun, setStep := -theta }

/-! ### Samples (R233-R235) -/

/-- Samples accepted in the last 10 s. -/
def State.recentSamples (s : State) : List Sample := s.time.samples.filter (fun x => decide (s.now ≤ x.at_ + 10 * secTicks))

/-- At least 8 samples, every one with |θ| ≤ 1 µs. The one that set the counter, whose θ is the counter's former error, is none of
them: DEDUCED from the worked bring-up of spec/23_integration.md (notes/assumptions/34.md). -/
def lockGood (all : List Sample) : Bool :=
  let l := all.filter (fun x => !x.sets)
  decide (8 ≤ l.length) && l.all (fun x => decide (x.theta ≤ 1000 * nsUnits) && decide (-1000 * nsUnits ≤ x.theta))

/-- An accepted sample: the first after reset sets the counter, every later one steers it; the state follows. -/
def State.acceptSample (s : State) (theta : Int) : State :=
  let t := s.time
  let t1 := match t.lastSample with
    | some a => if a < t.freerun then t.steer theta (t.freerun - a) else t
    | none => t
  let t2 := if t.setDone then t1 else t1.setBy theta
  let s := s.setTime { t2 with lastSample := some t.freerun, samples := { at_ := t.freerun, theta := theta, sets := !t.setDone } :: t.samples }
  let s := s.setTime { s.time with samples := s.recentSamples }
  if t.state == .unknown then s.enterTime .acquiring 1 theta
  else if t.state != .locked && lockGood s.recentSamples then s.enterTime .locked 0 theta
  else s

/-- A complete exchange (R234, R235): the path-delay filter, then the outlier bound of LOCKED. -/
def State.takeTimeSample (s : State) (master : Nat) (t1 t2 t3 t4 : Int) : State :=
  let theta := ((t2 - t1) - (t4 - t3)) / 2
  let delta := ((t2 - t1) + (t4 - t3)) / 2
  let far := delayExceeds s.time.deltas delta
  let s := s.setTime (s.time.noteDelta delta)
  let ms := 1000000 * nsUnits
  if far then s.rejectSample 3 theta master
  else if s.time.state == .locked && (decide (ms < theta) || decide (theta < -ms)) then s.rejectSample 4 theta master
  else s.acceptSample theta

/-- The Sync leaves those in progress. -/
def TimeUnit.dropSync (t : TimeUnit) (p : SyncPending) : TimeUnit := { t with syncs := t.syncs.filter (fun q => q.txId != p.txId) }

/-- An exchange in progress, completed when its four times are there. -/
def State.tryPtpSample (s : State) (p : SyncPending) : State :=
  match p.t1, p.t3, p.t4 with
  | some t1, some t3, some t4 => (s.setTime (s.time.dropSync p)).takeTimeSample p.master t1 p.t2 t3 t4
  | _, _, _ => s.setTime { s.time with syncs := s.time.syncs.map (fun q => if q.txId == p.txId then p else q) }

/-! ### PTP messages (R229-R232) -/

/-- The message is verified, or need not be; a discarded one leaves its record. -/
def State.ptpAuth (s : State) (m : PtpMsg) : Bool := !s.time.requireAuth || (m.auth == 1 && !m.delayed)

/-- Ticks of 4 announceIntervals of 2^i seconds. -/
def announceWindow (i : Int) : Nat :=
  if 0 ≤ i then 4 * secTicks * 2 ^ i.toNat else 4 * secTicks / 2 ^ (-i).toNat

/-- A list is lower than another, entry by entry. -/
def lexLess : List Nat → List Nat → Bool
  | [], [] => false
  | [], _ => true
  | _, [] => false
  | a :: as, b :: bs => decide (a < b) || (a == b && lexLess as bs)

/-- The best qualified master. -/
def bestMaster (m : Map Master) : Option Nat :=
  (m.filter (fun x => x.2.qualified)).foldl (fun (b : Option (Nat × Master)) x =>
    match b with
    | none => some x
    | some y => if lexLess (x.2.priority ++ [x.1]) (y.2.priority ++ [y.1]) then some x else b) none |>.map Prod.fst

/-- Take an Announce into the masters heard, and select. -/
def TimeUnit.hear (t : TimeUnit) (id : Nat) (a : AnnounceData) : TimeUnit :=
  let old := t.masters.findD id {}
  let times := (t.freerun :: old.announces.filter (fun x => decide (t.freerun ≤ x + announceWindow a.interval))).take 4
  let ok := (t.allow.isEmpty || t.allow.contains id) && (old.qualified || decide (2 ≤ times.length))
  let ms := t.masters.put id
    { announces := times, interval := a.interval, utcOffset := a.utcOffset, priority := a.priority, qualified := ok }
  let sel := bestMaster ms
  { t with
    masters := ms, selected := sel, syncs := if sel == t.selected then t.syncs else []
    utcOffset := match sel with
      | some best => (ms.findD best {}).utcOffset
      | none => t.utcOffset }

/-- ANNOUNCE (R232). -/
def execAnnounce (m : PtpMsg) (a : AnnounceData) (s : State) : Host.Outcome State Fault Refusal :=
  nextIf (s.timeRuns && m.domain == s.time.ptpDom) s
    (if s.ptpAuth m then s.setTime (s.time.hear m.master a) else s.rejectSample 2 0 m.master)

/-- Run an accepted message of the selected master. -/
def State.onPtp (s : State) (m : PtpMsg) (k : State → State) : Host.Outcome State Fault Refusal :=
  nextIf (s.timeRuns && m.domain == s.time.ptpDom) s
    (if !s.ptpAuth m then s.rejectSample 2 0 m.master
    else if s.time.selected == some m.master then k s
    else if (s.time.masters.findD m.master {}).qualified then s
    else s.rejectSample 5 0 m.master)

/-- The Sync can still complete: it has its t1, or its Follow_Up can come (R229). -/
def SyncPending.open_ (p : SyncPending) (now : Nat) : Bool := p.t1.isSome || decide (now ≤ p.syncAt + 100 * msTicks)

/-- SYNC (R229): a Delay_Req follows each accepted Sync. -/
def execSync (m : PtpMsg) (s : State) : Host.Outcome State Fault Refusal :=
  s.onPtp m (fun s =>
    let id := s.time.nextTx
    let p : SyncPending :=
      { master := m.master, seq := m.seq, corr := m.corr
        t1 := if m.twoStep then none else some (timeUnits m.origin + m.corr)
        t2 := timeUnits m.rxTs, syncAt := s.now, txId := some id, txAt := s.now }
    let old := s.time.syncs.filter (fun q => q.txId != some id && q.open_ s.now)
    (s.setTime { s.time with syncs := p :: old, nextTx := (id + 1) % 65536 }).emit (.tpTx id s.time.ptpDom id))

/-- FOLLOW_UP (R229): matched by sequenceId within 100 ms of its Sync. -/
def execFollowUp (m : PtpMsg) (s : State) : Host.Outcome State Fault Refusal :=
  s.onPtp m (fun s =>
    match s.time.syncs.find? (fun p => p.master == m.master && p.seq == m.seq && p.t1.isNone && p.open_ s.now) with
    | some p => s.tryPtpSample { p with t1 := some (timeUnits m.origin + p.corr + m.corr) }
    | none => s)

/-- DELAY_RESP (R234): t4 is its receive time less its correctionField. -/
def execDelayResp (m : PtpMsg) (s : State) : Host.Outcome State Fault Refusal :=
  s.onPtp m (fun s =>
    match s.time.syncs.find? (fun p => p.master == m.master && p.txId == some m.seq && p.t4.isNone) with
    | some p => s.tryPtpSample { p with t4 := some (timeUnits m.origin - m.corr) }
    | none => s)

/-- PTP_IGNORED_MESSAGE (R230): ignored and counted. -/
def execPtpIgnoredMessage (s : State) : Host.Outcome State Fault Refusal :=
  nextIf s.timeRuns s (s.setTime { s.time with ignored := s.time.ignored + 1 })

/-- The Sync whose Delay_Req has this ID and waits for its egress timestamp. -/
def TimeUnit.sentReq (t : TimeUnit) (id : Nat) : Option SyncPending := t.syncs.find? (fun p => p.txId == some id && p.t3.isNone)

/-- TP_TXTS (R455): the egress timestamp of the Delay_Req. -/
def execTpTxts (id : Nat) (ts : Time12) (s : State) : Host.Outcome State Fault Refusal :=
  match s.time.sentReq id with
  | some p => nextIf (s.timeRuns && decide (s.now ≤ p.txAt + msTicks)) s (s.tryPtpSample { p with t3 := some (timeUnits ts) })
  | none => .next s

/-- TXTS_TIMEOUT (R455): no egress timestamp within 1 ms; the sample is discarded. -/
def execTxtsTimeout (id : Nat) (s : State) : Host.Outcome State Fault Refusal :=
  match s.time.sentReq id with
  | some p =>
    let s1 := s.advanceTo (p.txAt + msTicks)
    nextIf s.clocked s (s1.setTime (s1.time.dropSync p))
  | none => .next s

/-- TIME_NO_SAMPLE_TIMEOUT (R235): 2 s without an accepted sample in LOCKED; the counter runs at fi. -/
def execTimeNoSampleTimeout (s : State) : Host.Outcome State Fault Refusal :=
  let s1 := s.advanceTo (s.time.lastSample.getD 0 + 2 * secTicks)
  let t := s1.time
  nextIf (s.clocked && s.time.state == .locked) s
    ((s1.setTime { t with f := t.fi, inc := incOf t.fi, holdSince := t.freerun }).enterTime .holdover 0 0)

/-- HOLDOVER_TIMEOUT (R235): 60 s in HOLDOVER. -/
def execHoldoverTimeout (s : State) : Host.Outcome State Fault Refusal :=
  nextIf (s.clocked && s.time.state == .holdover) s
    ((s.advanceTo (s.time.holdSince + 60 * secTicks)).enterTime .untrusted 0 0)

/-! ### TIM_STATUS, TIM_SET_SERVO (R303, R304) -/

def timStatusBody (s : State) (_ : Cmd) : Res :=
  let t := s.time
  let hold := if t.state == .holdover then min ((s.now - t.holdSince) / msTicks) (2 ^ 32 - 1) else 0
  .ok s
    (leBytes 1 t.state.code ++ leBytes 1 t.k
      ++ leBytes 1 (bit t.setDone 0 + bit t.requireAuth 1 + bit (t.masters.any (fun x => x.2.qualified)) 2)
      ++ leBytes 1 t.ptpDom ++ timeBytes s.time12 ++ satInt 4 t.freq ++ leBytes 4 (sigmaPs t.deltas)
      ++ satInt 2 t.utcOffset ++ leBytes 2 s.recentSamples.length ++ leBytes 8 t.freerun ++ leBytes 4 hold)
    (leBytes 8 (t.selected.getD 0) ++ leBytes 8 t.setAt ++ satInt 8 t.setStep
      ++ padTo 32 (t.allow.flatMap (leBytes 8)) ++ leBytes 1 t.kFloor ++ leBytes 7 0)

def timStatusSpec : CmdSpec :=
  { opcode := 0x0701, perm := permDevice, ldiOk := ldiZero, journaled := readOnly, ext := fun _ _ => some 64
    body := timStatusBody }

/-- TIM_STATUS (R303). -/
def execTimStatus (src : Src) (s : State) : Host.Outcome State Fault Refusal := .next (s.runSrc timStatusSpec src)

def allowList (c : Cmd) : List Nat := (List.range (c.p 3 1)).map (fun i => c.p (8 + 8 * i) 8)

def setServoBody (s : State) (c : Cmd) : Res :=
  let floor := c.p 2 1
  if decide (floor < 2) || decide (6 < floor) || decide (4 < c.p 3 1) then .fail stBadParam
  else
    let t := s.time
    let l := allowList c
    let t1 := { t with ptpDom := c.p 0 1, requireAuth := c.p 1 1 % 2 == 1, kFloor := floor, allow := l, k := max t.k floor }
    .ok (s.setTime (if t.ptpDom == t1.ptpDom && t.allow == l then t1
      else { t1 with masters := [], selected := none, syncs := [] }))

def timSetServoSpec : CmdSpec :=
  { opcode := 0x0702, perm := permManager, ldiOk := ldiZero, len := fun _ => 40
    reserved := fun p => decide (fieldAt p 1 1 < 2) && fieldAt p 4 4 == 0
      && allZero ((p.take 40).drop (8 + 8 * fieldAt p 3 1))
    body := setServoBody }

/-- TIM_SET_SERVO (R304). -/
def execTimSetServo (src : Src) (s : State) : Host.Outcome State Fault Refusal := .next (s.runSrc timSetServoSpec src)

/-! ### Offsets between members (R239-R241, R305) -/

def State.setOffset (s : State) (ldi : Nat) (o : Offset) : State :=
  s.setTime { s.time with offsets := s.time.offsets.put ldi o }

/-- The parent in the Squall tree: POS 0 of a member other than rank 0. -/
def State.treeParent (s : State) (ldi : Nat) : Option Nat :=
  let d := s.dom ldi
  if d.rank == 0 then none
  else match d.neighbours.find 0 with
    | some p => if s.exchPassed p ldi then some p else none
    | none => none

/-- The children in the Squall tree. -/
def State.treeChildren (s : State) (ldi : Nat) : List Nat :=
  let d := s.dom ldi
  (((d.neighbours.filter (fun x => d.rank == 0 || x.1 != 0)).map Prod.snd).eraseDups).filter (fun p => s.exchPassed p ldi)

/-- The body of an OFFSET message. -/
def offsetBody (sub index gdid : Nat) (ta tb tc : Bytes) (value : Int) : Bytes :=
  leBytes 1 sub ++ leBytes 1 index ++ leBytes 2 0 ++ leBytes 4 gdid ++ padTo 12 ta ++ padTo 12 tb ++ padTo 12 tc
    ++ satInt 8 value

def State.toChildren (s : State) (ldi : Nat) (body : Bytes) : State :=
  (s.treeChildren ldi).foldl (fun s p => s.sendCtrl p 0x0C body) s

/-- Insert an exchange by its round trip. -/
def insertExchange (x : Int × Int) : List (Int × Int) → List (Int × Int)
  | [] => [x]
  | y :: ys => if x.1 ≤ y.1 then x :: y :: ys else y :: insertExchange x ys

/-- The values of the 16 exchanges with the smallest round trip. -/
def Offset.best (o : Offset) : List Int := ((o.kept.foldr insertExchange []).take 16).map Prod.snd

def meanOf (l : List Int) : Int := l.foldl (· + ·) 0 / l.length

def spreadOf (l : List Int) : Int := (l.tail).foldl max (l.head?.getD 0) - minOf l

/-- Exchanges that D needs: the round's 64 while a measurement runs, 16 otherwise. -/
def Offset.enough (o : Offset) : Bool := decide ((if o.running then 64 else 16) ≤ o.kept.length)

/-- A member other than rank 0 has all that its round gives: DONE goes up. -/
def State.sendDone (s : State) (ldi : Nat) : State :=
  let o := s.offsetOf ldi
  match s.treeParent ldi with
  | some p =>
    if o.running && !o.doneSent && o.parentO.isSome && o.d.isSome && o.enough then
      let v := max o.spread (spreadOf o.best)
      (s.setOffset ldi { o with doneSent := true, running := false, spread := v }).sendCtrl p 0x0C
        (offsetBody 4 0 (s.dom ldi).gdid [] [] [] v)
    else s
  | none => s

/-- O can be set: it is, or the member still answers within 1 ms of the START (R239). -/
def State.offsetInTime (s : State) (o : Offset) : Bool := o.own.isSome || decide (s.now ≤ o.since + msTicks)

/-- O follows its parent's O and D; a change goes down in RESULT. -/
def State.refreshO (s : State) (ldi : Nat) (force : Bool) : State :=
  let o := s.offsetOf ldi
  if !s.offsetInTime o then s
  else match o.parentO, o.d with
  | some p, some d =>
    let s1 := s.setOffset ldi { o with own := some (p + d) }
    let s2 := if force || o.own != some (p + d) then
        s1.toChildren ldi (offsetBody 3 0 (s.dom ldi).gdid [] [] [] (p + d))
      else s1
    s2.sendDone ldi
  | _, _ => s

/-- Send one PROBE to the parent; t1 is the counter now. -/
def State.sendProbe (s : State) (ldi : Nat) : State :=
  let o := s.offsetOf ldi
  match s.treeParent ldi with
  | some p =>
    (s.setOffset ldi { o with left := o.left - 1, index := (o.index + 1) % 64, probeAt := s.now + 213 }).sendCtrl p 0x0C
      (offsetBody 1 o.index (s.dom ldi).gdid (timeBytes s.time12) [] [] 0)
  | none => s

/-- A measurement begins on a member. -/
def State.startOffset (s : State) (ldi : Nat) : State :=
  let o := s.offsetOf ldi
  let s1 := s.setOffset ldi
    { o with own := none, parentO := none, d := none, kept := [], left := 64, index := 0, probeAt := s.now, running := true
             since := s.now, spread := 0, count := 0, doneSent := false }
  s1.toChildren ldi (offsetBody 0 0 (s.dom ldi).gdid [] [] [] 0)

/-- Take an ECHO: its exchange, and D when there are enough. -/
def State.takeEcho (s : State) (ldi : Nat) (b : Bytes) (at_ : Time12) : State :=
  let o := s.offsetOf ldi
  let u := fun k => timeUnits (time12Of (b.drop k))
  let t1 := u 8
  let t2 := u 20
  let t3 := u 32
  let t4 := timeUnits at_
  let o1 := { o with kept := ((((t4 - t1) - (t3 - t2)), ((t1 - t2) + (t4 - t3)) / 2) :: o.kept).take 64 }
  let o2 := if o1.enough then { o1 with d := some (meanOf o1.best) } else o1
  (s.setOffset ldi o2).refreshO ldi o.d.isNone

/-- A DONE has come up: counted on rank 0 while the 1 ms of R239 runs, passed on elsewhere. -/
def State.takeOffsetDone (s : State) (ldi : Nat) (value : Int) : State :=
  let o := s.offsetOf ldi
  let v := max o.spread value
  match s.treeParent ldi with
  | some p => (s.setOffset ldi { o with spread := v }).sendCtrl p 0x0C (offsetBody 4 0 (s.dom ldi).gdid [] [] [] v)
  | none =>
    if o.running && decide (s.now ≤ o.since + msTicks) then s.setOffset ldi { o with spread := v, count := o.count + 1 } else s

/-- A value field of an OFFSET message, signed. -/
def offsetValue (b : Bytes) : Int :=
  let v := fieldAt b 44 8
  if v < 2 ^ 63 then v else (v : Int) - 2 ^ 64

/-- One OFFSET message of a domain's tree. -/
def State.takeOffset (s : State) (peer ldi : Nat) (m : CtrlMsg) : State :=
  let up := s.treeParent ldi == some peer
  let down := (s.treeChildren ldi).contains peer
  match fieldAt m.body 0 1 with
  | 0 => if up then s.startOffset ldi else s
  | 1 =>
    if down then
      s.sendCtrl peer 0x0C (offsetBody 2 (fieldAt m.body 1 1) (s.dom ldi).gdid (bytesAt m.body 8 12) (timeBytes m.time)
        (timeBytes s.time12) 0)
    else s
  | 2 => if up then s.takeEcho ldi m.body m.time else s
  | 3 =>
    if up then
      let o := s.offsetOf ldi
      (s.setOffset ldi { o with parentO := some (offsetValue m.body) }).refreshO ldi o.parentO.isNone
    else s
  | 4 => if down then s.takeOffsetDone ldi (offsetValue m.body) else s
  | _ => s

/-- The domain runs or is sealed. -/
def DomState.sealed (d : DomState) : Bool := d == .sealed_ || d.flows

/-- OFFSET (R240). An SA whose last counter an answer takes ends (R198). -/
def execOffset (peer : Nat) (s : State) : Host.Outcome State Fault Refusal :=
  s.onMsg s.clocked peer 0x0C (fun b => b.length == 52) (fun s m =>
    match s.ldiOfGdid (fieldAt m.body 4 4) with
    | some l => if (s.dom l).state.sealed then (s.takeOffset peer l m).endSpent else s
    | none => s)

/-- OFFSET_PROBE_TIMER (R239): the next of the exchanges that remain, one every 0.5 µs. -/
def execOffsetProbeTimer (ldi : Nat) (s : State) : Host.Outcome State Fault Refusal :=
  let o := s.offsetOf ldi
  nextIf (s.clocked && !s.power.fatal && decide (0 < o.left) && (s.treeParent ldi).isSome) s
    ((s.advanceTo o.probeAt).sendProbe ldi).endSpent

/-- OFFSET_PERIODIC_EXCHANGE (R241): each 1 ms while the domain runs, the first of 4 exchanges; the probe timer sends the
others. -/
def execOffsetPeriodicExchange (ldi : Nat) (s : State) : Host.Outcome State Fault Refusal :=
  let o := s.offsetOf ldi
  let due := o.periodicAt + msTicks
  let s1 := s.advanceTo due
  let busy := o.running && decide (s1.now < o.since + msTicks)
  let s2 := s1.setOffset ldi { o with periodicAt := due, running := busy, left := if busy then o.left else 4 }
  nextIf (s.clocked && !s.power.fatal && (s.dom ldi).state.flows && (s.treeParent ldi).isSome) s
    (if busy then s2 else s2.sendProbe ldi).endSpent

/-- TOOK_PART and SPREAD. -/
def State.measureReply (s : State) (ldi : Nat) : Bytes :=
  let o := s.offsetOf ldi
  leBytes 2 o.count ++ leBytes 2 0 ++ leBytes 8 o.spread.toNat

/-- End the measurement with its reply. -/
def State.endMeasure (s : State) (ldi : Nat) : Res :=
  let o := s.offsetOf ldi
  .ok (s.setOffset ldi { o with running := false }) (s.measureReply ldi)

/-- Rank 0 starts the measurement: its O is 0. -/
def offsetMeasureBody (s : State) (c : Cmd) : Res :=
  let l := c.ldi
  if (s.dom l).rank != 0 then .fail stState
  else if (s.offsetOf l).running then .fail stBusy
  else
    let o := s.offsetOf l
    let s1 := s.setOffset l { o with own := some 0, running := true, since := s.now, spread := 0, count := 1, left := 0 }
    let g := (s.dom l).gdid
    let s2 := (s1.toChildren l (offsetBody 0 0 g [] [] [] 0)).toChildren l (offsetBody 3 0 g [] [] [] 0)
    if s2.measured l then s2.endMeasure l else .wait (.measure l (s.now + msTicks)) (.measure l) s2

def timOffsetMeasureSpec : CmdSpec :=
  { opcode := 0x0703, perm := permManager, states := stSealed, locks := fun _ c e => { e with lockOffsets := [c.ldi] }
    body := offsetMeasureBody, after := endSpentAfter }

/-- TIM_OFFSET_MEASURE (R305). -/
def execTimOffsetMeasure (src : Src) (s : State) : Host.Outcome State Fault Refusal :=
  .next (s.runSrc timOffsetMeasureSpec src)

end Sys2Proof.Machine
end

