-- ==== Sys2Proof/Machine/Profile.lean ====
section
/-!
DEFINITION. Counters at a reader's level, freezes, and the trace commands (spec/20_observability.md R414-R429,
spec/14_commands_services.md R310-R314).
-/
namespace Sys2Proof.Machine

/-! ### Counter values (R414, R416, R421) -/

/-- The key word of an annotation-table entry; `plain` shows VALUE and MARKER. -/
def Annot.word (e : Annot) (plain : Bool) : Nat :=
  (if plain then e.value.toNat else 0) + e.ldi * 2 ^ 32 + bit (plain && e.marker) 40 + bit e.command 41 + bit true 42

/-- A source of counter values: the counters, the snapshot that level 0 reads, and the annotation table. -/
structure CounterView where
  values : Map Nat
  coarse : Map Nat
  annots : Map Annot

def State.blockView (s : State) : CounterView :=
  { values := s.counters.block, coarse := s.counters.coarse ++ s.counters.powerCoarse, annots := s.counters.annots }

/-- The domain's counters, with its annotation entries. -/
def State.domainView (s : State) (ldi : Nat) : CounterView :=
  let mine : Map Annot := s.counters.annots.filter (fun (x : Nat × Annot) => x.2.ldi == ldi)
  { values := (s.dom ldi).counters
    coarse := (s.dom ldi).coarse ++ s.counters.coarse.filter (fun x => decide (0x700 ≤ x.1) && (mine.find (x.1 - 0x700)).isSome)
    annots := mine }

def FrozenSet.view (f : FrozenSet) : CounterView := { values := f.values, coarse := f.coarse, annots := f.annots }

def roundTo (q v : Nat) : Nat := v / q * q

/-- An annotation-table key at a level. -/
def CounterView.key (v : CounterView) (e : Nat) (exact : Bool) : Nat :=
  match v.annots.find e with
  | some a => a.word (exact || a.ldi == 0)
  | none => 0

/-- An annotation-table count. -/
def CounterView.annot (v : CounterView) (e : Nat) (exact : Bool) : Nat :=
  match v.annots.find e with
  | some a => if exact then a.count else roundTo 4096 (v.coarse.findD (0x700 + e) 0)
  | none => 0

/-- Block counter i, exactly or at level 0. -/
def CounterView.block (v : CounterView) (exact : Bool) (i : Nat) : Nat :=
  if 0x700 ≤ i then v.annot (i - 0x700) exact
  else if 0x600 ≤ i then v.key (i - 0x600) exact
  else if exact || (decide (i < 0x80) && i != 0x28 && i != 0x29) then v.values.findD i 0
  else if i < 0x80 then roundTo 1000 (v.coarse.findD i 0)
  else roundTo 4096 (v.coarse.findD i 0)

/-- Domain counter or annotation entry i, exactly or at level 0. -/
def CounterView.domain (v : CounterView) (exact : Bool) (i : Nat) : Nat :=
  if 0x600 ≤ i then v.block exact i
  else if exact then v.values.findD i 0 else roundTo 4096 (v.coarse.findD i 0)

/-! ### PRF_READ (R311, R417, R420) -/

/-- The level of a reader, in the codes of PROF_LEVEL, and whether it reads exactly. -/
def State.readLevel (s : State) (c : Cmd) : Nat × Bool :=
  if c.cls == .tenant then (1, true)
  else
    let l := if c.ldi == 0 then (if s.right 0 then 2 else 0) else s.counterLevel c.ldi
    (l, decide (0 < l))

/-- The range lies within the counters that the header LDI reads. -/
def readRange (c : Cmd) : Bool :=
  let a := c.p 4 2
  let n := c.p 6 2
  decide (1 ≤ n) && (if c.ldi == 0 then decide (a + n ≤ 2048)
    else decide (a + n ≤ 16) || (decide (0x600 ≤ a) && decide (a + n ≤ 0x800)))

/-- The live or frozen values that the command names, with the time that AT carries. -/
def State.readView (s : State) (c : Cmd) : Option (CounterView × Time12) :=
  let id := c.p 0 4
  if id == 0 then some (if c.ldi == 0 then s.blockView else s.domainView c.ldi, s.time12)
  else (s.counters.sets.find? (fun f => f.id == id && f.ldi == c.ldi)).map (fun f => (f.view, f.t))

def prfReadBody (s : State) (c : Cmd) : Res :=
  match s.readView c with
  | none => .fail stBadParam
  | some v =>
    if !readRange c then .fail stBadParam
    else
      let lv := s.readLevel c
      let one := if c.ldi == 0 then v.1.block lv.2 else v.1.domain lv.2
      .ok s (leBytes 1 lv.1 ++ leBytes 3 0 ++ timeBytes v.2)
        ((span (c.p 4 2) (c.p 6 2)).flatMap (fun i => leBytes 8 (one i)))

def prfReadSpec : CmdSpec :=
  { opcode := 0x0811, perm := permProfile, ldiOk := ldiAny, states := stNotEmpty, journaled := readOnly, len := fun _ => 8
    ext := fun _ c => some (8 * c.p 6 2), body := prfReadBody }

/-- PRF_READ (R311). -/
def execPrfRead (src : Src) (s : State) : Host.Outcome State Fault Refusal := .next (s.runSrc prfReadSpec src)

/-! ### Freezes (R310, R418, R419) -/

/-- The counter value, in units of 2^-48 ns, at which an armed freeze fires. -/
def State.freezeTarget (s : State) (ldi : Nat) (t : Time12) : Nat :=
  if ldi == 0 then fineOf t else ((fineOf t : Int) + (s.offsetO ldi).getD 0 * 2 ^ 32).toNat

/-- Latch the counters of a freeze's scope. -/
def State.latch (s : State) (a : ArmedFreeze) (late : Bool) : State :=
  let v := if a.ldi == 0 then s.blockView else s.domainView a.ldi
  let f : FrozenSet :=
    { ldi := a.ldi, id := a.id, t := a.t, tstate := s.time.state.code, unaligned := a.unaligned, late := late,
      values := v.values, coarse := v.coarse, annots := v.annots }
  { s with counters := { s.counters with
    sets := (f :: s.counters.sets).take 4, armed := s.counters.armed.filter (fun x => !(x.ldi == a.ldi && x.id == a.id)) } }

def State.armFreeze (s : State) (a : ArmedFreeze) : State :=
  { s with counters := { s.counters with armed := s.counters.armed ++ [a] } }

/-- The ID of a new freeze. -/
def Counters.nextId (c : Counters) : Nat := max c.lastId (c.seenIds.head?.getD 0) % (2 ^ 32 - 1) + 1

def freezeBody (gdid id : Nat) (t : Time12) (rank : Nat) : Bytes :=
  leBytes 4 gdid ++ leBytes 4 id ++ timeBytes t ++ leBytes 2 rank ++ leBytes 2 0

/-- T lies 10 µs to 3,600 s ahead. -/
def State.freezeAhead (s : State) (ldi : Nat) (t : Time12) : Bool :=
  let target := s.freezeTarget ldi t
  let now := s.time.fine
  decide (now + 10000 * 2 ^ 48 ≤ target) && decide (target ≤ now + 3600 * 1000000000 * 2 ^ 48)

def freezeAtBody (s : State) (c : Cmd) : Res :=
  let l := c.ldi
  let t := time12Of c.params
  let scope := c.p 12 1
  if decide (1 < scope) || (scope == 0) != (l == 0) || !s.freezeAhead l t then .fail stBadParam
  else if !s.timed then .fail stTimeUnknown
  else if s.counters.armed.any (fun a => a.ldi == l) then .fail stBusy
  else
    let id := s.counters.nextId
    let k := { s.counters with lastId := id, seenIds := id :: s.counters.seenIds }
    let s1 := { s with counters := k }.armFreeze
      { ldi := l, id := id, t := t, unaligned := l != 0 && (s.offsetO l).isNone }
    .ok s1 (leBytes 4 id)

/-- FREEZE to every tree neighbour of a domain, once the reply is written (R419). -/
def sendFreeze (c : Cmd) (s : State) : State :=
  let d := s.dom c.ldi
  if c.ldi == 0 then s
  else ((s.treePeers c.ldi).foldl (fun s p =>
    s.sendCtrl p 0x0B (freezeBody d.gdid s.counters.lastId (time12Of c.params) d.rank)) s).endSpent

def prfFreezeAtSpec : CmdSpec :=
  { opcode := 0x0810, perm := permProfile, ldiOk := ldiAny, states := stSealedOn, len := fun _ => 16
    reserved := fun p => fieldAt p 13 3 == 0, body := freezeAtBody, after := sendFreeze }

/-- PRF_FREEZE_AT (R310). -/
def execPrfFreezeAt (src : Src) (s : State) : Host.Outcome State Fault Refusal := .next (s.runSrc prfFreezeAtSpec src)

/-- FREEZE_FIRE (R418, R238): the counter reaches T, or the domain time of the LDI does. -/
def execFreezeFire (ldi : Nat) (s : State) : Host.Outcome State Fault Refusal :=
  match s.counters.armed.find? (fun a => a.ldi == ldi) with
  | some a => nextIf s.clocked s ((s.advanceCounter (s.freezeTarget ldi a.t)).latch a false)
  | none => .next s

/-- The first FREEZE of an ID on a member: forwarded, and, with the domain held in SEALED, RUNNING or QUIESCING, armed, or latched at
once when it is late. DEDUCED from R310, which gives an LDI one armed freeze: one that would be a second is not armed
(notes/assumptions/48.md). -/
def State.takeFreeze (s : State) (peer ldi : Nat) (b : Bytes) : State :=
  let id := fieldAt b 4 4
  let t := time12Of (b.drop 8)
  let s := { s with counters := { s.counters with seenIds := id :: s.counters.seenIds } }
  let s := ((s.treePeers ldi).filter (fun p => p != peer)).foldl (fun s p => s.sendCtrl p 0x0B b) s
  let a : ArmedFreeze := { ldi := ldi, id := id, t := t, unaligned := (s.offsetO ldi).isNone }
  if !(s.dom ldi).state.sealed then s
  else if s.freezeTarget ldi t ≤ s.time.fine then s.latch a true
  else if s.counters.armed.any (fun x => x.ldi == ldi) then s
  else s.armFreeze a

/-- FREEZE (R419): from a member with which the domain's POLICY exchange has passed; later copies of an ID are ignored. -/
def execFreeze (peer : Nat) (s : State) : Host.Outcome State Fault Refusal :=
  s.onMsg s.clocked peer 0x0B (fun b => b.length == 24) (fun s m =>
    match s.ldiOfGdid (fieldAt m.body 0 4) with
    | some l =>
      if s.exchPassed peer l && !s.counters.seenIds.contains (fieldAt m.body 4 4) then
        (s.takeFreeze peer l m.body).endSpent
      else s
    | none => s)

/-! ### TRC_CONFIG, TRC_MARK (R312, R313, R422) -/

/-- A tenant's request changes its consent only. -/
def consentBody (s : State) (c : Cmd) : Res :=
  let src := c.p 2 2
  if c.p 0 1 != 0 || c.p 4 4 != 0 || c.p 8 4 != 0 || (src != 0 && src != 2 ^ 15) then .fail stBadParam
  else
    let d := s.dom c.ldi
    let on := src == 2 ^ 15
    .ok (s.setDom c.ldi { d with consent := on, fineEver := d.fineEver || on })

def traceConfigBody (s : State) (c : Cmd) : Res :=
  let mode := c.p 0 1
  if c.ldi != 0 then consentBody s c
  else if 3 < mode then .fail stBadParam
  else if decide (2 ^ 15 ≤ c.p 2 2) then .fail stDenied
  else
    let t := { s.trace with
      mode := mode, sources := BitVec.ofNat 16 (c.p 2 2), trigValue := BitVec.ofNat 32 (c.p 4 4)
      trigMask := BitVec.ofNat 32 (c.p 8 4), written := 0, triggered := none }
    .ok { s with trace := if mode == 0 then t else { t with records := [], gone := [] } }

def trcConfigSpec : CmdSpec :=
  { opcode := 0x0820, perm := permProfile, ldiOk := ldiAny, states := stToAborted, len := fun _ => 16
    reserved := fun p => fieldAt p 1 1 == 0 && fieldAt p 2 2 / 2 ^ 10 % 32 == 0 && fieldAt p 12 4 == 0
    body := traceConfigBody }

/-- TRC_CONFIG (R312). -/
def execTrcConfig (src : Src) (s : State) : Host.Outcome State Fault Refusal := .next (s.runSrc trcConfigSpec src)

def traceMarkBody (s : State) (c : Cmd) : Res :=
  .ok (s.traceWrite { src := 1, ldi := c.ldi, ctx := c.ctx, annot := BitVec.ofNat 32 (c.p 0 4), marker := true })

def trcMarkSpec : CmdSpec :=
  { opcode := 0x0821, perm := permDriver, ldiOk := ldiAny, states := stToAborted, journaled := readOnly, len := fun _ => 8
    reserved := fun p => fieldAt p 4 4 == 0, body := traceMarkBody }

/-- TRC_MARK (R313). -/
def execTrcMark (src : Src) (s : State) : Host.Outcome State Fault Refusal := .next (s.runSrc trcMarkSpec src)

/-! ### TRC_READ (R314, R429) -/

/-- The record as it stands for a reader (`tenant`: on its own LDI); none where the reader does not see it. -/
def State.showRecord (s : State) (tenant : Bool) (b : Bytes) : Option Bytes :=
  let src := fieldAt b 0 1
  let flags := fieldAt b 1 1
  let ldi := fieldAt b 2 1
  if tenant || ldi == 0 || (decide (0 < s.traceLevel ldi) && decide (128 ≤ flags)) then some b
  else if src == 0 || src == 1 || src == 6 then none
  else
    let time := fieldAt b 8 8
    some (b.take 1 ++ leBytes 1 (flags ||| 64) ++ bytesAt b 2 2 ++ leBytes 4 0
      ++ leBytes 8 (time / 2 ^ 30 * 2 ^ 30 + roundTo 1000000 (time % 2 ^ 30)) ++ leBytes 4 0
      ++ leBytes 4 (roundTo 4096 (fieldAt b 20 4)) ++ leBytes 8 (roundTo 4096 (fieldAt b 24 8)))

/-- A record that the header LDI covers. -/
def coversRecord (c : Cmd) (b : Bytes) : Bool := c.ldi == 0 || fieldAt b 2 1 == c.ldi

/-- What a reader sees of a buffer, by index. -/
def State.shown (s : State) (c : Cmd) (m : Map Bytes) : List (Nat × Bytes) :=
  (m.filter (fun x => coversRecord c x.2)).filterMap (fun x =>
    (s.showRecord (c.cls == .tenant) x.2).map (fun b => (x.1, b)))

/-- The records that the command returns. -/
def State.traceRecords (s : State) (c : Cmd) : List (Nat × Bytes) :=
  let m := if c.p 12 1 == 1 then s.trace.log else s.trace.records
  ((s.shown c m).filter (fun x => decide (c.p 0 8 ≤ x.1))).take (c.p 8 4)

def traceReadBody (s : State) (c : Cmd) : Res :=
  let n := c.p 8 4
  let log := c.p 12 1
  if n == 0 || decide (2048 < n) || decide (1 < log) then .fail stBadParam
  else
    let rs := s.traceRecords c
    let top := if log == 1 then s.trace.logNext else s.trace.nextIndex
    let next := if rs.length == n then (rs.getLast?.map (fun x => x.1 + 1)).getD top else top
    let lost := (s.shown c (if log == 1 then s.trace.logGone else s.trace.gone)).filter (fun x => decide (x.1 < c.p 0 8))
    .ok s (leBytes 4 rs.length ++ leBytes 8 next ++ leBytes 8 lost.length) (rs.flatMap Prod.snd)

def trcReadSpec : CmdSpec :=
  { opcode := 0x0822, perm := permProfile, ldiOk := ldiAny, states := stNotEmpty, journaled := readOnly, len := fun _ => 16
    reserved := fun p => fieldAt p 13 3 == 0, ext := fun s c => some (32 * (s.traceRecords c).length), body := traceReadBody }

/-- TRC_READ (R314). -/
def execTrcRead (src : Src) (s : State) : Host.Outcome State Fault Refusal := .next (s.runSrc trcReadSpec src)

/-! ### Segments, snapshots, power (R414, R421, R425) -/

/-- The pair that moved the most bytes, the lower annotation of two that tie. -/
def topSegment (l : List Segment) : Option Segment :=
  l.foldl (fun (b : Option Segment) g =>
    match b with
    | none => some g
    | some x => if x.bytes < g.bytes || (x.bytes == g.bytes && g.annot.toNat < x.annot.toNat) then some g else b) none

def bytesOf (l : List Segment) : Nat := (l.map (·.bytes)).foldl (· + ·) 0

/-- Insert an LDI with its bytes: the most first, the lower LDI of two that tie. -/
def insertLdi (x : Nat × Nat) : List (Nat × Nat) → List (Nat × Nat)
  | [] => [x]
  | y :: ys => if y.2 < x.2 || (y.2 == x.2 && x.1 ≤ y.1) then x :: y :: ys else y :: insertLdi x ys

/-- The segment record of one LDI; `all` are the pairs of the instance. -/
def State.writeSegment (s : State) (src : Nat) (all : List Segment) (ldi : Nat) : State :=
  let mine := all.filter (fun g => g.ldi == ldi)
  match topSegment mine with
  | some g =>
    s.traceWrite { src := src, ldi := ldi, ctx := g.ctx, mixed := min (all.length - 1) 65535, annot := g.annot,
                   arg0 := min (bytesOf mine - g.bytes) (2 ^ 32 - 1), arg1 := g.bytes }
  | none => s

/-- TRACE_SEGMENT_PERIOD (R425): the 1 µs period of FREERUN in which the instance's running segments began has ended. -/
def execTraceSegmentPeriod (src inst : Nat) (s : State) : Host.Outcome State Fault Refusal :=
  let mine := fun (g : Segment) => g.src == src && g.inst == inst
  let all := s.trace.segments.filter mine
  let s1 := s.advanceTo (((all.map (·.at_)).foldl min s.now / usTicks + 1) * usTicks)
  let s2 := { s1 with trace := { s1.trace with segments := s1.trace.segments.filter (fun g => !mine g) } }
  let order := ((all.map (·.ldi)).eraseDups).foldr (fun l acc =>
    insertLdi (l, bytesOf (all.filter (fun g => g.ldi == l))) acc) []
  let s3 := (order.take 4).foldl (fun s x => s.writeSegment src all x.1) s2
  let on := s.trace.mode != 0 && s.trace.sources.getLsbD src
  nextIf s.clocked s (if on then s3.bump 0x014 (order.length - 4) else s2)

/-- The block's coarse copies at a time: traffic and annotation counters, and power each 10 ms. -/
def Counters.snapped (k : Counters) (now : Nat) : Counters :=
  let traffic : Map Nat := k.block.filter (fun (x : Nat × Nat) => decide (0x80 ≤ x.1))
  let annots : Map Nat := k.annots.map (fun (x : Nat × Annot) => (0x700 + x.1, x.2.count))
  let k1 := { k with coarse := traffic ++ annots, snapAt := now }
  if k.powerSnapAt + 10 * msTicks ≤ now then
    { k1 with powerCoarse := k.block.filter (fun (x : Nat × Nat) => x.1 == 0x28 || x.1 == 0x29), powerSnapAt := now }
  else k1

/-- COARSE_SNAPSHOT (R421): each 1 ms of FREERUN the traffic and domain counters, each 10 ms the power counters. -/
def execCoarseSnapshot (s : State) : Host.Outcome State Fault Refusal :=
  let s1 := s.advanceTo (s.counters.snapAt + msTicks)
  let doms : Map Domain := s1.tables.domains.map (fun (x : Nat × Domain) => (x.1, { x.2 with coarse := x.2.counters }))
  nextIf s.clocked s { s1 with counters := s1.counters.snapped s1.now, tables := { s1.tables with domains := doms } }

/-- POWER_ESTIMATE_UPDATE (R414): each 10 µs the estimate in mW, and the energy in mJ. -/
def execPowerEstimateUpdate (milliwatt : Nat) (s : State) : Host.Outcome State Fault Refusal :=
  let s1 := s.advanceTo (s.counters.powerAt + 10 * usTicks)
  let k := s1.counters
  let e := k.energyRest + milliwatt * (s1.now - k.powerAt)
  let b := (k.block.put 0x28 milliwatt).put 0x29 ((k.block.findD 0x29 0 + e / secTicks) % wrap64)
  nextIf s.clocked s { s1 with counters := { k with block := b, powerAt := s1.now, energyRest := e % secTicks } }

end Sys2Proof.Machine
end

