-- ==== Sys2Proof/Machine/Identity.lean ====
section
/-!
DEFINITION. Programs of the OTP macro, the device identity, the keys that each reset generates, and the start of the firmware
(spec/09_keys.md R190, R193, R200, R201, spec/21_ports.md R457, spec/23_integration.md R483).
-/
namespace Sys2Proof.Machine

/-! ### Programs on FU_ (R352, R457) -/

/-- Request the next program of the job: one at a time, none during power hold, and none once a reset is requested (R372). -/
def State.otpPump (s : State) : State :=
  match s.otp.busy, s.otp.job with
  | none, w :: ws =>
    if s.power.hold || s.power.phase != .idle then s
    else ({ s with otp := { s.otp with busy := some w, job := ws } }).emit (.fuReq 1 w.addr w.bits)
  | _, _ => s

/-- Give the OTP controller a job. -/
def State.otpJob (s : State) (ws : List OtpWrite) : State := { s with otp := { s.otp with job := s.otp.job ++ ws } }.otpPump

/-! ### Identity (R190, R201) -/

/-- The firmware SVN and life-cycle state, as derivations take them. -/
def State.svnLcs (s : State) : Bytes := leBytes 2 s.boot.fwSvn ++ leBytes 1 s.otp.lcs

/-- Derive DeviceID, CDI1 and Alias from the UDS, while it can be read. -/
def State.deriveIdentity (s : State) : State :=
  match s.otp.uds with
  | some uds =>
    let rom := bvBytes 48 Config.romDigest
    let cdi := kdf uds "CTC3-CDI1" (rom ++ bvBytes 48 s.boot.fwDigest ++ s.svnLcs) 384
    { s with keys := { s.keys with
      deviceIdSeed := kdf uds "CTC3-DEVICEID" rom 704
      cdi1 := BitVec.ofNat 384 (leNat cdi)
      aliasSeed := kdf cdi "CTC3-ALIAS" [] 704 } }
  | none => s

/-- Issue the Alias certificate by DeviceID: ROM and firmware digests, firmware SVN, life-cycle state. Its ECDSA nonce is hedged
(R206), so it waits for the DRBG. -/
def State.issueAlias (s : State) : State :=
  if s.keys.identity && s.drbgReady && !s.keys.aliasIssued then
    let n := s.draw
    let cert := Config.issueCert s.keys.deviceIdSeed (Config.hybridPublic s.keys.aliasSeed)
      (bvBytes 48 Config.romDigest ++ bvBytes 48 s.boot.fwDigest ++ s.svnLcs) (drawBytes n.1 48)
    { n.2 with keys := { n.2.keys with aliasIssued := true, chain := n.2.keys.chain ++ cert } }
  else s

/-- Issue the Link certificate by Alias: the reset epoch. -/
def State.issueLink (s : State) : State :=
  if s.keys.aliasIssued && s.keys.rootReady && s.drbgReady && !s.keys.linkIssued then
    let n := s.draw
    let cert := Config.issueCert s.keys.aliasSeed (Config.hybridPublic s.keys.linkSeed) (bvBytes 8 s.keys.epoch)
      (drawBytes n.1 48)
    { n.2 with keys := { n.2.keys with linkIssued := true, chain := n.2.keys.chain ++ cert } }
  else s

/-- Issue the certificates whose time has come, in the order of the chain. -/
def State.issueCerts (s : State) : State := s.issueAlias.issueLink

/-- The DeviceID certificate of a bundle verifies to the ROM root and names the two public keys that the block derives. -/
def State.bundleOk (s : State) (bundle : Bytes) : Bool :=
  !s.keys.deviceIdSeed.isEmpty && verifiedLeaf bundle == some (Config.hybridPublic s.keys.deviceIdSeed)

/-- Record IMAGE_REJECTED with its reason (R483). -/
def State.rejectRecord (s : State) (reason : Nat) : State := s.record 0x0C09 (loomPayload 0 0 0 0 reason s.jidNow 0)

/-- Take up a bundle: the chain CA, DeviceID, Alias, and Link once its key exists; or a record with reason 6. -/
def State.takeBundle (s : State) (bundle : Bytes) : State :=
  if s.bundleOk bundle then
    { s with keys := { s.keys with identity := true, chain := bundle } }.issueCerts
  else s.rejectRecord 6

/-! ### Keys of each reset (R193) -/

/-- RK_MEM, the link signing key and the reset epoch, from the DRBG after a reseed; the Link certificate; the EPOCH record
of metering (R222). -/
def State.generateRoot (s : State) : State :=
  let rk := s.reseed.draw
  let la := rk.2.draw
  let lb := la.2.draw
  let ep := lb.2.draw
  let s1 := ep.2.setSlot 0 { type := 12, key := keyOf (drawBytes rk.1 32) }
  let s2 := { s1 with keys := { s1.keys with
    rootReady := true, linkSeed := drawBytes la.1 64 ++ drawBytes lb.1 24
    epoch := BitVec.ofNat 64 (leNat (drawBytes ep.1 8)) } }
  s2.issueCerts.epochRecord

/-- The wait of R193 ends when the firmware runs, the start-up test has passed and DEVID is set (R463), unless the keys have
been zeroized since the reset (R200). -/
def State.tryRoot (s : State) : State :=
  if s.boot.phase.isRunning && s.canReseed && s.boot.devidSet && !s.keys.rootReady && !s.keys.zeroized && !s.power.fatal then
    s.generateRoot
  else s

/-- The firmware starts (R483): it derives the identity, takes up the bundle, and goes on to R193. -/
def State.startFirmware (s : State) (seq : Nat) (bundle : Bytes) : State :=
  ({ s with boot := { s.boot with phase := .running seq } }.deriveIdentity.takeBundle bundle).tryRoot

end Sys2Proof.Machine
end

