-- ==== Sys2Proof/Machine/Lifecycle.lean ====
section
/-!
DEFINITION. The life-cycle commands and the OTP sequence (spec/14_commands_services.md R315-R318, spec/16_lifecycle.md
R345-R357, spec/21_ports.md R457).
-/
namespace Sys2Proof.Machine

/-! ### Programs on FU_ (R347, R352, R457) -/

/-- Once no program is to be made, the decode ends and the ROM polls (R346), and an accepted image starts (R483), unless the cores
are held (R375). -/
def State.startIfDue (s : State) : State :=
  match s.boot.phase with
  | .decode => if s.otpIdle then { s with boot := { s.boot with phase := .poll none } } else s
  | .starting seq bundle => if s.otpIdle && !s.loom.restarting then s.startFirmware seq bundle else s
  | _ => s

/-- FU_RSP (R457): the pulse ends. The macro must return the word's value, which R457 fixes; the next program follows. -/
def execFuRsp (_rdata : BitVec 32) (s : State) : Host.Outcome State Fault Refusal :=
  match s.otp.busy with
  | some w =>
    nextIf s.clocked s ({ s with otp := { s.otp.program w with busy := none } } : State).otpPump.startIfDue
  | none => .next s

def writeOf (a v : Nat) : OtpWrite := { addr := a, bits := BitVec.ofNat 32 v }

/-- Programs of consecutive words. -/
def writesOf (a : Nat) (b : Bytes) : List OtpWrite :=
  (List.range (b.length / 4)).map (fun i => writeOf (a + i) (fieldAt b (4 * i) 4))

/-- The check word of a group of `n` words with these data (R348). -/
def checkWord (b : Bytes) : Nat := 0x4D2 * 2 ^ 21 + zeroBits (8 * b.length) (leNat b)

/-- A group with its check word. -/
def groupWrites (a : Nat) (b : Bytes) : List OtpWrite := writesOf a b ++ [writeOf (a + b.length / 4) (checkWord b)]

/-- INTENT, STATE and DONE of a slot (R351). -/
def slotWrites (slot from_ dest : Nat) : List OtpWrite :=
  let a := 0x100 + 3 * slot
  [writeOf a (intentWord from_ dest), writeOf (a + 1) (stateWord dest), writeOf (a + 2) doneWord]

/-- Words that the SCRAP fill still has to program, ascending (R356). -/
def Otp.fill (o : Otp) : List OtpWrite :=
  ((List.range 1024).filter (fun a => o.words.findD a 0 != 0xFFFFFFFF)).map (fun a => writeOf a 0xFFFFFFFF)

/-! ### LCS_QUERY (R315) -/

def lcsQueryBody (s : State) (_ : Cmd) : Res :=
  let o := s.otp
  .ok s (leBytes 1 o.lcs ++ leBytes 1 o.tokensLeft.length ++ leBytes 1 o.svn ++ leBytes 1 (bit (o.svn == 128) 0)
    ++ leBytes 4 o.fuseWord ++ o.serial)

def lcsQuerySpec : CmdSpec :=
  { opcode := 0x0901, perm := permDevice, ldiOk := ldiZero, journaled := readOnly, body := lcsQueryBody }

/-- LCS_QUERY (R315). -/
def execLcsQuery (src : Src) (s : State) : Host.Outcome State Fault Refusal := .next (s.runSrc lcsQuerySpec src)

/-! ### LCS_TRANSITION (R316, R349-R351, R356) -/

/-- What a transition of the table needs (R349): nothing, the token list, or an authorisation by Vuora or the owner. -/
inductive LcsAuth
  | none
  | tokens
  | vuora
  | owner
  deriving DecidableEq, Repr

/-- The authorisation of PROVISIONED or MISSION to RMA or SCRAP: Vuora's while OWNER is blank. -/
def Otp.endAuth (o : Otp) : LcsAuth := if o.blank 0x210 13 then .vuora else .owner

/-- The transition table of `LCS_TRANSITION`. -/
def Otp.transition (o : Otp) (dest : Nat) : Option LcsAuth :=
  match o.lcs, dest with
  | 0, 1 => some .tokens
  | 2, 1 => some .none
  | 1, 3 => some .vuora
  | 3, 4 => some .vuora
  | 4, 5 => some .vuora
  | 4, 6 | 5, 6 | 4, 7 | 5, 7 => some o.endAuth
  | 0, 7 | 1, 7 | 2, 7 | 3, 7 | 6, 7 => some .none
  | _, _ => Option.none

/-- AUTH of the command. -/
def authOf (c : Cmd) : Bytes := bytesAt c.params 8 (c.p 4 4)

/-- The reserved bits of an authorisation are zero (R9, R350). -/
def authReserved (b : Bytes) : Bool := fieldAt b 7 1 == 0 && allZero (bytesAt b 84 44)

/-- AUTH may be the RAW token list: 256 bytes for the state that RAW goes to. -/
def isTokenList (dest : Nat) (b : Bytes) : Bool := dest == lcsTestLocked && b.length == 256

/-- The reserved bits of the AUTH of an `LCS_TRANSITION`; the token list has none. -/
def authParamOk (p : Bytes) : Bool :=
  let b := bytesAt p 8 (fieldAt p 4 4)
  isTokenList (fieldAt p 0 1) b || authReserved b

/-- An authorisation has the layout of R350; OWNER_DIGEST is zero but for PROVISIONED to MISSION. -/
def authLayout (b : Bytes) : Bool :=
  decide (4851 ≤ b.length) && b.length == 4851 + fieldAt b 80 4 && decide (fieldAt b 6 1 < 2) && authReserved b
    && ((fieldAt b 4 1 == lcsProvisioned && fieldAt b 5 1 == lcsMission) || allZero (bytesAt b 32 48))

/-- AUTH has the layout that the transition takes, or is absent. -/
def authParses (a : LcsAuth) (dest : Nat) (b : Bytes) : Bool :=
  match a with
  | .none => b.isEmpty || isTokenList dest b || authLayout b
  | .tokens => b.length == 256
  | _ => b.isEmpty || authLayout b

/-- The precondition of the table. -/
def State.lcsReady (s : State) (dest : Nat) (auth : Bytes) : Bool :=
  let o := s.otp
  match o.lcs, dest with
  | 0, 1 => o.blank 0x190 64 || o.bytes 0x190 64 == auth
  | 4, 5 => o.blank 0x210 13 || o.owner == bytesAt auth 32 48
  | 4, 6 | 5, 6 | 4, 7 | 5, 7 => o.zeroizedFlag
  | _, _ => true

/-- The signer's keys (R350 step 4). -/
def State.signerKeys (s : State) (b : Bytes) : Option Bytes :=
  let sd := b.drop 4851
  if fieldAt b 6 1 == 0 then (if Config.isLifecycleAuthority sd then verifiedLeaf sd else none)
  else if sd.length == 2689 && bvBytes 48 (Config.sha384 sd) == s.otp.owner then some sd else none

/-- R350. -/
def State.authOk (s : State) (a : LcsAuth) (dest : Nat) (b : Bytes) : Bool :=
  match a with
  | .none | .tokens => true
  | _ =>
    let epoch := if dest == lcsRma || dest == lcsScrap then s.keys.epoch.toNat else 0
    !b.isEmpty && fieldAt b 0 4 == 0x4C435443 && fieldAt b 4 1 == s.otp.lcs && fieldAt b 5 1 == dest
      && bytesAt b 8 16 == s.otp.serial && fieldAt b 24 8 == epoch
      && (fieldAt b 6 1 == if a == .owner then 1 else 0)
      && (match s.signerKeys b with
        | some k => Config.hybridVerify k (b.take 128) (bytesAt b 128 4627) (bytesAt b 4755 96)
        | none => false)

/-- A blank UDS area is there (R353). -/
def Otp.freeUds (o : Otp) : Option Nat := if o.blank 0x1E0 9 then some 0x1E0 else if o.blank 0x1F0 9 then some 0x1F0 else none

/-- The programs before INTENT (R349, R353): the UDS is a draw of the DRBG after a reseed (R190, R202). -/
def State.lcsPayload (s : State) (dest : Nat) (auth : Bytes) : List OtpWrite × State :=
  match s.otp.lcs, dest with
  | 0, 1 => (writesOf 0x190 auth, s)
  | 3, 4 =>
    let void := fun a => if s.otp.blank a 9 then [] else (List.range 9).map (fun i => writeOf (a + i) 0xFFFFFFFF)
    let n := s.reseed.draw
    (void 0x1E0 ++ void 0x1F0 ++ groupWrites (s.otp.freeUds.getD 0x1E0) (drawBytes n.1 32), n.2)
  | 4, 5 => (groupWrites 0x210 (bytesAt auth 32 48), s)
  | _, 7 => ([writeOf 0x220 0xFFFFFFFF], s)
  | _, _ => ([], s)

/-- Abort every domain with cause 0x0A, in ascending LDI order. -/
def State.abortEvery (s : State) : State := (s.ldisWith (fun d => d.state.abortable)).foldl (fun s l => s.abort l 0x0A true) s

/-- The sequence of R351 begins: aborts, then the programs in the first blank slot. -/
def State.beginTransition (s : State) (dest slot : Nat) (pay : List OtpWrite) : State :=
  s.abortEvery.otpJob (pay ++ slotWrites slot s.otp.lcs dest)

def transitionBody (s : State) (c : Cmd) : Res :=
  let dest := c.p 0 1
  let auth := authOf c
  let kind := s.otp.transition dest
  if decide (7 < dest) || decide (16384 < c.p 4 4) || !authParses (kind.getD .none) dest auth then .fail stBadParam
  else match kind with
    | none => .fail stState
    | some a =>
      let uds := s.otp.lcs == lcsDev && dest == lcsProvisioned
      if !s.lcsReady dest auth then .fail stState
      else if uds && s.otp.freeUds.isNone then .fail stExhausted
      else if uds && !s.canReseed then .fail stState
      else if !s.authOk a dest auth then .fail stDenied
      else match s.otp.freeSlot with
        | none => .fail stExhausted
        | some slot =>
          let p := s.lcsPayload dest auth
          .wait .otp (.transition dest) (p.2.beginTransition dest slot p.1)

def lockLife (_ : State) (_ : Cmd) (e : JEntry) : JEntry := { e with lockLcs := true }

def lcsTransitionSpec : CmdSpec :=
  { opcode := 0x0902, perm := permLcs, ldiOk := ldiZero, hold := always, len := fun p => 8 + fieldAt p 4 4
    reserved := fun p => fieldAt p 1 3 == 0 && authParamOk p, locks := lockLife, body := transitionBody, after := endSpentAfter }

/-- In RAW the ROM takes transitions from the MGMT and DEBUG rings, and nothing else (R345, R349). -/
def State.romServes (s : State) : Bool :=
  s.clocked && !s.power.fatal && !s.loom.restarting && s.otp.lcs == lcsRaw && s.otp.resetDue.isNone
    && (match s.boot.phase with | .poll _ => true | _ => false)

def State.runRaw (s : State) (src : Src) : State :=
  match s.waitingCmd src with
  | some c =>
    if (src == .ring 68 || src == .ring 69) && c.opcode == 0x0902 then
      (s.fetched c).runCommand lcsTransitionSpec c
    else s
  | none => s

/-- LCS_TRANSITION (R351). -/
def execLcsTransition (src : Src) (s : State) : Host.Outcome State Fault Refusal :=
  .next (if s.romServes then s.runRaw src else s.runSrc lcsTransitionSpec src)

/-- Steps 3 to 5 of R351, once DONE is programmed: debug rights end, the reply is written, 1 ms runs; a SCRAP fill goes
on. -/
def State.endTransition (s : State) (e : JEntry) (dest : Nat) (result : Bytes) : State :=
  let t := s.endRights.commit e { result := result }
  let t := { t with otp := { t.otp with resetDue := some (t.now + msTicks) } }
  if dest == lcsScrap then t.otpJob t.otp.fill else t

/-- LCS_TRANSITION_RESET_TIMER (R351 step 5): the SYSTEM reset 1 ms after the reply. -/
def execLcsTransitionResetTimer (s : State) : Host.Outcome State Fault Refusal :=
  match s.otp.resetDue with
  | some t =>
    let s1 := s.advanceTo t
    nextIf s.clocked s (({ s1 with otp := { s1.otp with resetDue := none } }).requestReset .system 0x12)
  | none => .next s

/-! ### LCS_TOKEN_UNLOCK (R317, R354) -/

/-- The lowest unspent token whose hash the token has. -/
def Otp.matchToken (o : Otp) (token : Bytes) : Option Nat :=
  o.tokensLeft.find? (fun i => o.tokenHash i == (bvBytes 48 (Config.sha384 token)).take 16)

def unlockBody (s : State) (c : Cmd) : Res :=
  let o := s.otp
  if o.lcs != lcsTestLocked then .fail stState
  else if o.tokensLeft.isEmpty then .fail stExhausted
  else if 3 ≤ o.mismatches then .fail stDenied
  else match o.matchToken (c.params.take 32), o.freeSlot with
    | some i, some slot =>
      .wait .otp (.unlock lcsTestUnlocked) (s.beginTransition lcsTestUnlocked slot [writeOf 0x1D0 (2 ^ i)])
    | none, _ => .done { status := stDenied } { s with otp := { o with mismatches := o.mismatches + 1 } }
    | _, none => .fail stExhausted

def lcsTokenUnlockSpec : CmdSpec :=
  { opcode := 0x0903, perm := permLcs, ldiOk := ldiZero, hold := always, len := fun _ => 32
    locks := lockLife, body := unlockBody, after := endSpentAfter }

/-- LCS_TOKEN_UNLOCK (R354). -/
def execLcsTokenUnlock (src : Src) (s : State) : Host.Outcome State Fault Refusal := .next (s.runSrc lcsTokenUnlockSpec src)

/-! ### LCS_ZEROIZE (R199, R200, R318, R355) -/

/-- Every VALID SA ends, with its record. -/
def State.loseEverySa (s : State) : State := (s.shuttle.sas.keys.filter s.saValid).foldl State.loseSa s

def zeroizeBody (s : State) (c : Cmd) : Res :=
  if c.p 0 4 != 0x4F52455A then .fail stBadParam
  else
    let n := (s.ldisWith (fun d => d.state.abortable)).length
    let t := s.abortEvery.loseEverySa.zeroizeKeys
    .wait .entropy (.zeroized n)
      { t with otp := { t.otp with zeroizedFlag := true }
               entropy := { t.entropy with testing := true, tries := 0 } }

/-- Every domain that it aborts, every SA and every key slot (R259). -/
def lockEvery (s : State) (_ : Cmd) (e : JEntry) : JEntry :=
  { e with
    lockDomains := s.ldisWith (fun d => d.state.abortable)
    lockPeers := s.shuttle.sas.keys.filter s.saValid
    lockSlots := s.keys.slots.keys }

def lcsZeroizeSpec : CmdSpec :=
  { opcode := 0x0904, perm := permLcs, ldiOk := ldiZero, len := fun _ => 4, locks := lockEvery, body := zeroizeBody, after := endSpentAfter }

/-- LCS_ZEROIZE (R318): the reply follows the DRBG's new start-up test. -/
def execLcsZeroize (src : Src) (s : State) : Host.Outcome State Fault Refusal := .next (s.runSrc lcsZeroizeSpec src)

end Sys2Proof.Machine
end

