-- ==== Sys2Proof/Machine/Maintenance.lean ====
section
/-!
DEFINITION. The Spindle, sensor and recovery commands (spec/14_commands_services.md R323-R328).
-/
namespace Sys2Proof.Machine

/-! ### Streams (R172, R176, R323) -/

/-- Streams that a domain has open. -/
def State.streamsOf (s : State) (ldi : Nat) : List Stream := s.spindle.streams.filter (fun x => x.ldi == ldi)

/-- Entries of the stream table that are open or reserved (R172, R343). -/
def State.streamEntries (s : State) : Nat :=
  s.spindle.streams.length + (s.tables.domains.vals.map (fun d => d.reservedStreams.length)).sum

/-- The job seed that the domain holds, or that its migration reserves with its streams (R343). -/
def Domain.seed (d : Domain) : Option (BitVec 128) := d.jobSeed.or ((d.mig.bind (·.reserved)).bind (·.seed))

def streamOpenBody (s : State) (c : Cmd) : Res :=
  let l := c.ldi
  let seed := BitVec.ofNat 128 (c.p 0 16)
  let id := c.p 16 4
  let mine := s.streamsOf l
  let kept := (s.dom l).reservedStreams
  if s.build.pool then .fail stNoResource
  else if !(mine.isEmpty && kept.isEmpty) && (s.dom l).seed != some seed then .fail stBadParam
  else if mine.any (fun x => x.stream == id) || kept.contains id then .fail stState
  else if decide (4096 ≤ s.streamEntries) || decide (256 ≤ mine.length + kept.length) then .fail stNoResource
  else
    let s1 := if mine.isEmpty then
        (s.setDom l { s.dom l with jobSeed := some seed }).setFixed l 4 5 (keyOf (kdf (bvBytes 16 seed) "CTC3-SPINDLE" [] 256))
      else s
    .ok { s1 with spindle := { s1.spindle with streams := s1.spindle.streams ++ [{ stream := id, ldi := l }] } }

/-- The first open of a job makes K_SP too (R172). -/
def lockOpen (s : State) (c : Cmd) (e : JEntry) : JEntry :=
  { e with
    lockStreams := [streamKey c.ldi (c.p 16 4)]
    lockSlots := if (s.streamsOf c.ldi).isEmpty then [8 * c.ldi + 4] else [] }

def spnStreamOpenSpec : CmdSpec :=
  { opcode := 0x0B01, perm := permDriver, states := stToRunning, frozen := always, len := fun _ => 24
    reserved := fun p => fieldAt p 20 4 == 0, locks := lockOpen, body := streamOpenBody }

/-- SPN_STREAM_OPEN (R323). -/
def execSpnStreamOpen (src : Src) (s : State) : Host.Outcome State Fault Refusal := .next (s.runSrc spnStreamOpenSpec src)

/-- The last stream of the LDI is closed: K_SP is destroyed, and the seed may change (R172, R199). -/
def State.endJob (s : State) (ldi : Nat) : State := (s.setDom ldi { s.dom ldi with jobSeed := none }).clearSlot (8 * ldi + 4)

/-- The close of the last stream waits for the pulls accepted before it, and then destroys K_SP (R176, R192). DESIGN CHOICE:
PULLED is reported as it stands at the close (notes/assumptions/46.md). -/
def streamCloseBody (s : State) (c : Cmd) : Res :=
  let l := c.ldi
  match s.stream l (c.p 0 4) with
  | none => .fail stBadParam
  | some x =>
    let rest := s.spindle.streams.filter (fun y => !(y.ldi == l && y.stream == x.stream))
    let s1 := { s with spindle := { s.spindle with streams := rest } }
    if !(s1.streamsOf l).isEmpty then .ok s1 (leBytes 8 x.pulled)
    else if s1.pulling l then .wait (.pulls l) (.streamClose l x.pulled) s1
    else .ok (s1.endJob l) (leBytes 8 x.pulled)

/-- The close of the last stream ends K_SP too (R192). -/
def lockClose (s : State) (c : Cmd) (e : JEntry) : JEntry :=
  { e with
    lockStreams := [streamKey c.ldi (c.p 0 4)]
    lockSlots := if (s.streamsOf c.ldi).length ≤ 1 then [8 * c.ldi + 4] else [] }

def spnStreamCloseSpec : CmdSpec :=
  { opcode := 0x0B02, perm := permDriver, states := stToAborted, frozen := always, len := fun _ => 4
    locks := lockClose, body := streamCloseBody }

/-- SPN_STREAM_CLOSE (R323). -/
def execSpnStreamClose (src : Src) (s : State) : Host.Outcome State Fault Refusal := .next (s.runSrc spnStreamCloseSpec src)

/-! ### Sensors (R324, R325, R410, R412) -/

/-- Instances from FIRST on. -/
def State.sensorList (s : State) (c : Cmd) : List Nat := s.build.instances.filter (fun i => decide (c.p 0 2 ≤ i))

def sensorStatusBody (s : State) (c : Cmd) : Res :=
  let n := c.p 2 2
  let l := s.sensorList c
  if n == 0 || decide (1024 < n) then .fail stBadParam
  else .ok s
    (leBytes 4 (l.take n).length ++ leBytes 4 ((l[n]?).getD 0xFFFFFFFF)
      ++ leBytes 1 (bit s.calIncomplete 0 + bit s.baro.window.isSome 1))
    ((l.take n).flatMap s.sensorRecord)

def snsStatusSpec : CmdSpec :=
  { opcode := 0x0B10, perm := permDevice, ldiOk := ldiZero, journaled := readOnly, len := fun _ => 4
    ext := fun s c => some (32 * ((s.sensorList c).take (c.p 2 2)).length), body := sensorStatusBody }

/-- SNS_STATUS (R324). -/
def execSnsStatus (src : Src) (s : State) : Host.Outcome State Fault Refusal := .next (s.runSrc snsStatusSpec src)

/-- Open the window: decisions keep the sensor sets as they stand. -/
def State.openWindow (s : State) (ms : Nat) : State :=
  ({ s with baro := { s.baro with window := some (s.now + ms * msTicks), held := s.baro.sensors } }).windowRecord 3

def calWindowBody (s : State) (c : Cmd) : Res :=
  let act := c.p 0 1
  let ms := c.p 2 2
  let reply := fun (t : State) => Res.ok t (leBytes 4 t.calBins ++ leBytes 4 t.uncalBins)
  if decide (1 < act) || (act == 0 && ms != 0) || (act == 1 && (ms == 0 || decide (60000 < ms))) then .fail stBadParam
  else if s.baro.window.isSome == (act == 1) then .fail stState
  else if act == 1 then reply (s.openWindow ms)
  else reply s.closeWindow

def snsCalWindowSpec : CmdSpec :=
  { opcode := 0x0B11, perm := permManager, ldiOk := ldiZero, len := fun _ => 4, reserved := fun p => fieldAt p 1 1 == 0
    body := calWindowBody }

/-- SNS_CAL_WINDOW (R325). -/
def execSnsCalWindow (src : Src) (s : State) : Host.Outcome State Fault Refusal := .next (s.runSrc snsCalWindowSpec src)

/-! ### The error log (R326, R327) -/

/-- Serial distance of 48-bit sequence numbers, and order. -/
def seqDiff (a b : Nat) : Nat := (a + 2 ^ 48 - b % 2 ^ 48) % 2 ^ 48
def seqLe (a b : Nat) : Bool := decide (seqDiff b a < 2 ^ 47)

def recordSeq (b : Bytes) : Nat := fieldAt b 2 6

/-- Insert a record by its distance from a base. -/
def insertBySeq (base : Nat) (b : Bytes) : List Bytes → List Bytes
  | [] => [b]
  | x :: xs => if seqDiff (recordSeq b) base ≤ seqDiff (recordSeq x) base then b :: x :: xs else x :: insertBySeq base b xs

/-- Held records at FROM or above, ascending. -/
def State.logFrom (s : State) (from_ : Nat) : List Bytes :=
  (s.log.places.vals.filter (fun b => seqLe from_ (recordSeq b))).foldr (insertBySeq from_) []

/-- The oldest record held; 0 when none is. -/
def State.logOldest (s : State) : Nat :=
  (s.log.places.vals.map recordSeq).foldl (fun m q =>
    if m == 0 || decide (seqDiff s.log.newest m < seqDiff s.log.newest q) then q else m) 0

def logReadBody (s : State) (c : Cmd) : Res :=
  let n := c.p 8 2
  let rs := (s.logFrom (c.p 0 8)).take n
  if n == 0 || decide (1024 < n) then .fail stBadParam
  else .ok s
    (leBytes 4 rs.length ++ leBytes 8 ((rs.getLast?.map (fun b => (recordSeq b + 1) % 2 ^ 48)).getD (c.p 0 8))
      ++ leBytes 8 s.logOldest)
    (rs.flatMap id)

def rcvLogReadSpec : CmdSpec :=
  { opcode := 0x0C01, perm := permDebug, ldiOk := ldiZero, journaled := readOnly, len := fun _ => 16
    reserved := fun p => fieldAt p 10 6 == 0
    ext := fun s c => some (64 * ((s.logFrom (c.p 0 8)).take (c.p 8 2)).length), body := logReadBody }

/-- RCV_LOG_READ (R326). -/
def execRcvLogRead (src : Src) (s : State) : Host.Outcome State Fault Refusal := .next (s.runSrc rcvLogReadSpec src)

def logClearBody (s : State) (c : Cmd) : Res :=
  let upto := c.p 0 8
  if decide (2 ^ 48 ≤ upto) || !seqLe upto s.log.newest then .fail stBadParam
  else
    let keep : Map Bytes := s.log.places.filter (fun (x : Nat × Bytes) => !seqLe (recordSeq x.2) upto)
    .ok { s with log := { s.log with places := keep } } (leBytes 4 (s.log.places.length - keep.length))

def rcvLogClearSpec : CmdSpec :=
  { opcode := 0x0C02, perm := permDebug, ldiOk := ldiZero, len := fun _ => 8, body := logClearBody }

/-- RCV_LOG_CLEAR (R327). -/
def execRcvLogClear (src : Src) (s : State) : Host.Outcome State Fault Refusal := .next (s.runSrc rcvLogClearSpec src)

/-! ### The crash dump (R328, R382) -/

def dumpSize : Nat := 0x100000

/-- 8 bytes of a dump: header, core registers, command headers, firmware data. The cores and the firmware data areas are free
values of the moment of the dump. -/
def Dump.word (d : Dump) (i : Nat) : Bytes :=
  if d.lost.contains i then leBytes 8 0
  else if i < 32 then bytesAt d.head (8 * i) 8
  else if 1056 ≤ i && i < 3104 then bytesAt d.cmds (8 * (i - 1056)) 8
  else bvBytes 8 (Config.coreWord (fieldAt d.head 24 8 * 2 ^ 20 + i))

def dumpReadBody (s : State) (c : Cmd) : Res :=
  let off := c.p 0 4
  let n := c.p 4 4
  if off % 64 != 0 || decide (dumpSize ≤ off) || n % 64 != 0 || n == 0 || decide (65536 < n) || decide (dumpSize < off + n) then
    .fail stBadParam
  else match s.loom.dump with
    | some d =>
      let d1 := { d with readEnd := d.readEnd || off + n == dumpSize }
      .ok { s with loom := { s.loom with dump := some d1 } }
        (leBytes 1 1 ++ leBytes 3 0 ++ leBytes 4 dumpSize ++ timeBytes d.time)
        ((span (off / 8) (n / 8)).flatMap d.word)
    | none => .ok s (leBytes 20 0) (List.replicate n 0)

def rcvDumpReadSpec : CmdSpec :=
  { opcode := 0x0C03, perm := permDebug, ldiOk := ldiZero, journaled := readOnly, len := fun _ => 8
    ext := fun _ c => some (c.p 4 4), body := dumpReadBody }

/-- RCV_DUMP_READ (R328). -/
def execRcvDumpRead (src : Src) (s : State) : Host.Outcome State Fault Refusal := .next (s.runSrc rcvDumpReadSpec src)

end Sys2Proof.Machine
end

