-- ==== Sys2Proof/Machine/Migration.lean ====
section
/-!
DEFINITION. Migration of a frozen domain (spec/14_commands_services.md R319-R322, spec/15_sharing_migration.md R339-R344).
-/
namespace Sys2Proof.Machine

/-! ### MIG_FREEZE (R319, R339) -/

/-- The peer's reset epoch and pair evidence let a migration start, or the status (R319, R339 step 1). -/
def State.migPeer (s : State) (dest epoch : Nat) : Nat :=
  let a := s.sa dest
  if a.peerEpoch != epoch then stPeerEpoch
  else if !s.saValid dest || a.peerSvn < s.boot.fwSvn then stDenied
  else stOk

/-- The lock of a command that changes the migration record: the migration's key, parts and freeze. -/
def lockMig (_ : State) (c : Cmd) (e : JEntry) : JEntry := { e with lockMigs := [c.ldi] }

def migFreezeBody (s : State) (c : Cmd) : Res :=
  let dest := c.p 0 2
  let epoch := c.p 8 8
  if dest == 0xFFFF || dest == s.boot.devid then .fail stBadParam
  else if (s.dom c.ldi).frozen then .fail stBusy
  else if s.migPeer dest epoch != stOk then .fail (s.migPeer dest epoch)
  else .wait (.inflight c.ldi) (.freezeDrain c.ldi dest epoch) s

def migFreezeSpec : CmdSpec :=
  { opcode := 0x0A01, perm := permManager, states := [.quiescing], hold := always, len := fun _ => 16
    reserved := fun p => fieldAt p 2 6 == 0, locks := lockMig, body := migFreezeBody }

/-- MIG_FREEZE (R319). -/
def execMigFreeze (src : Src) (s : State) : Host.Outcome State Fault Refusal := .next (s.runSrc migFreezeSpec src)

/-- Step 2: nothing is in flight; ask the peer, with a fresh nonce and a slot for KMIG, which the entry locks (R259). -/
def State.stepFreezeDrain (s : State) (e : JEntry) (ldi dest epoch : Nat) : Res :=
  let st := s.migPeer dest epoch
  if st != stOk then .done { status := st } s
  else if !s.drbgReady then .done { status := stState } s
  else match s.freePoolSlot ldi with
    | none => .done { status := stNoResource } s
    | some i =>
      let n := s.draw
      let nonce := BitVec.ofNat 256 (leNat (drawBytes n.1 32))
      let d := s.dom ldi
      let t := ((n.2.setEntry ({ e with lockSlots := [i] }.keep s)).setSlot i { type := 11, ldi := ldi, gen := d.gen }).sendCtrl dest 0x08
        (policyBody d.gdid d.policy 1 (bvBytes 32 nonce))
      .wait (.policy ldi) (.freezePolicy ldi dest i (s.now + 10 * msTicks) nonce) t

/-- The source holds KMIG. -/
def State.migAgreed (s : State) (ldi dest : Nat) : Bool :=
  match (s.dom ldi).mig with
  | some m => m.source && m.peer == dest
  | none => false

/-- Step 3: the answer has come. -/
def State.stepFreezePolicy (s : State) (ldi dest slot : Nat) : Res :=
  if s.migAgreed ldi dest then .ok (s.setDom ldi { s.dom ldi with frozen := true })
  else .done { status := stDenied } (s.clearSlot slot)

/-- A freeze of the LDI that waits for its answer: its slot and deadline. -/
def JEntry.waitsPolicy (e : JEntry) (ldi : Nat) : Option (Nat × Nat) :=
  match e.wait, e.cont with
  | .policy _, .freezePolicy l _ slot d _ => if l == ldi then some (slot, d) else none
  | _, _ => none

/-- MIG_FREEZE_ANSWER_TIMEOUT (R339): no answer within 10 ms. -/
def execMigFreezeAnswerTimeout (ldi : Nat) (s : State) : Host.Outcome State Fault Refusal :=
  match s.loom.journal.find? (fun e => (e.waitsPolicy ldi).isSome) with
  | some e => match e.waitsPolicy ldi with
    | some (slot, d) =>
      nextIf (s.loomUp && !e.overtaken) s
        ((((s.advanceTo d).clearSlot slot).commit e { status := stDenied }).endSpent.drainTurns)
    | none => .next s
  | none => .next s

/-! ### Parts (R340-R342) -/

def partHeader (kind index gdid src dst count first len : Nat) : Bytes :=
  leBytes 4 0x50474D43 ++ leBytes 1 kind ++ leBytes 3 0 ++ leBytes 4 index ++ leBytes 4 gdid ++ leBytes 2 src ++ leBytes 2 dst
    ++ leBytes 4 count ++ leBytes 4 first ++ leBytes 4 0 ++ leBytes 8 len ++ leBytes 24 0

/-- The IV of a part: INDEX, then 8 zero bytes. -/
def partIv (index : Nat) : BitVec 96 := BitVec.ofNat 96 (index % 2 ^ 32)

/-- A part: header, ciphertext, tag. -/
def sealPart (key : Key) (header plain : Bytes) : Bytes :=
  let iv := partIv (fieldAt header 8 4)
  let ct := xorBytes plain (gcmStream key iv plain.length)
  header ++ ct ++ bvBytes 16 (Config.gcmTag key iv header ct)

def stateRecord (type : Nat) (body : Bytes) : Bytes := leBytes 1 type ++ leBytes 7 0 ++ padTo 24 body

/-- The context slot of a context ID. -/
def State.slotOf (s : State) (ctx : Nat) : Nat := ((s.tables.contexts.find ctx).map (·.slot)).getD 0

/-- The records of the state part. -/
def State.stateRecords (s : State) (ldi gparts : Nat) : Bytes :=
  let d := s.dom ldi
  let streams := s.streamsOf ldi
  let fences := (s.fencesOf ldi).filter (fun i => fenceHandle i (s.fence i).epoch != d.errFence)
  let arrs := s.tables.arrs.filter (fun x => x.2.ldi == ldi)
  let seed := if streams.isEmpty then [] else [stateRecord 1 (bvBytes 16 (d.jobSeed.getD 0))]
  let rest := seed
    ++ (s.contextsOf ldi).map (fun x => stateRecord 2 (leBytes 1 x.2.slot))
    ++ fences.map (fun i => stateRecord 3
        (leBytes 4 i ++ leBytes 8 ({ s.fence i with producer := s.slotOf (s.fence i).producer } : Fence).word))
    ++ arrs.map (fun x => stateRecord 4 (leBytes 4 x.1 ++ leBytes 8 x.2.word))
    ++ streams.map (fun x => stateRecord 5 (leBytes 4 x.stream ++ leBytes 8 x.pulled))
  stateRecord 0 (bvBytes 4 d.policy ++ leBytes 4 gparts ++ leBytes 4 (rest.length + 1) ++ leBytes 4 (s.granulesOf ldi))
    ++ rest.flatMap id

/-! ### MIG_EXPORT (R320) -/

def exportReply (n index : Nat) : Bytes := leBytes 8 n ++ leBytes 4 index

/-- Write one part to host memory, and wait for the completion of the write (R453). -/
def State.writePart (s : State) (jid : Nat) (path : Path) (ldi : Nat) (m : Migration) (kind count first dst : Nat)
    (plain : Bytes) : Res :=
  let h := partHeader kind m.nextIndex (s.dom ldi).gdid s.boot.devid m.peer count first plain.length
  let part := sealPart (s.keySlot m.slot).key h plain
  .wait .dma (.exportWrite ldi kind (exportReply part.length m.nextIndex))
    (s.emit (.dmaWrite (dmaChannel jid) (s.dmaFunc path) dst part))

/-- The host has completed the write of a part, which counts from now on, or has answered it with an error: a DMA error, which ends
the command as it ends an import (R321, R453; DEDUCED, notes/assumptions/38.md). -/
def State.stepExportWrite (s : State) (ldi kind : Nat) (result : Bytes) (err : Bool) : Res :=
  let d := s.dom ldi
  match d.mig with
  | none => .done { status := stState } s
  | some m =>
    if err then .done { status := stIntegrity, result := result } s
    else .ok (s.setDom ldi { d with mig := some { m with nextIndex := m.nextIndex + 1, stateDone := kind == 0 } }) result

def migExportBody (s : State) (c : Cmd) : Res :=
  let l := c.ldi
  let d := s.dom l
  let part := c.p 0 1
  let first := c.p 4 4
  let n := c.p 8 4
  match d.mig with
  | none => .fail stState
  | some m =>
    let plain := if part == 0 then s.stateRecords l m.nextIndex else []
    let need := 80 + (if part == 0 then plain.length else 65536 * n)
    if !d.frozen || m.stateDone then .fail stState
    else if decide (1 < part) || (if part == 0 then first != 0 || n != 0
        else n == 0 || decide (4096 < n) || decide (granuleTop < first + n)) then .fail stBadParam
    else if c.p 24 8 < need then .refuse { status := stBadParam, result := exportReply need m.nextIndex }
    else if part == 0 then
      s.writePart c.jid c.path l m 0 (plain.length / 32) 0 (c.p 16 8) plain
    else if !(span first n).all (s.owns l) then .fail stOwnership
    else .wait .scan (.export_ l first n (c.p 16 8) m.nextIndex m.slot)
      (s.addScan { jid := c.jid, kind := .export_, ldi := l, gen := d.gen, next := 1024 * first, stop := 1024 * (first + n) })

def migExportSpec : CmdSpec :=
  { opcode := 0x0A02, perm := permManager, states := [.quiescing], hold := always, len := fun _ => 32
    reserved := fun p => fieldAt p 1 3 == 0 && fieldAt p 12 4 == 0, locks := lockMig, body := migExportBody }

/-- MIG_EXPORT (R320). -/
def execMigExport (src : Src) (s : State) : Host.Outcome State Fault Refusal := .next (s.runSrc migExportSpec src)

/-- Go on with the export of granules; a line that fails verification leaves no part. -/
def State.stepExport (s : State) (e : JEntry) (ldi first n dst index slot : Nat) : Res :=
  let s := s.runScan e.jid zeroLine
  match s.scan e.jid with
  | none => .done { status := stAborted } s
  | some x =>
    if !s.scanEnded x then .wait .scan (.export_ ldi first n dst index slot) s
    else
      let t := (s.bindScan x).drainInteg.endScan x
      if x.final != stOk then .done { status := x.final } t
      else match (t.dom ldi).mig with
        | some m => t.writePart e.jid e.path ldi m 1 n first dst x.data
        | none => .done { status := stState } t

/-! ### MIG_IMPORT (R321, R341, R343) -/

/-- The LDI's migration as a destination. -/
def State.migIn (s : State) (ldi : Nat) : Option Migration := (s.dom ldi).mig.filter (fun m => !m.source)

def migImportBody (s : State) (c : Cmd) : Res :=
  let n := c.p 8 8
  if (s.migIn c.ldi).isNone then .fail stState
  else if decide (n < 80) || decide (80 + 65536 * 4096 < n) then .fail stBadParam
  else .wait .dma (.importPart c.ldi (c.p 0 8) n []) (s.dmaRead c.jid c.path (c.p 0 8) 64)

def migImportSpec : CmdSpec :=
  { opcode := 0x0A03, perm := permManager, states := stBuilding, hold := always, len := fun _ => 16
    locks := lockMig, body := migImportBody }

/-- MIG_IMPORT (R321): resumed with the bytes that the host supplies. -/
def execMigImport (src : Src) (s : State) : Host.Outcome State Fault Refusal := .next (s.runSrc migImportSpec src)

/-- The header fits the migration and the length (R340, R341). -/
def State.partOk (s : State) (ldi : Nat) (m : Migration) (len : Nat) (h : Bytes) : Bool :=
  let kind := fieldAt h 4 1
  let n := fieldAt h 20 4
  let first := fieldAt h 24 4
  let body := fieldAt h 32 8
  fieldAt h 0 4 == 0x50474D43 && fieldAt h 5 3 == 0 && fieldAt h 28 4 == 0 && allZero (bytesAt h 40 24)
    && fieldAt h 12 4 == (s.dom ldi).gdid && fieldAt h 16 2 == m.peer && fieldAt h 18 2 == s.boot.devid
    && !m.imported.contains (fieldAt h 8 4) && len == 80 + body
    && (if kind == 0 then !m.stateDone && first == 0 && decide (1 ≤ n) && body == 32 * n
        else kind == 1 && decide (1 ≤ n) && decide (n ≤ 4096) && decide (first + n ≤ granuleTop) && body == 65536 * n)

/-- The line that a granule part writes next, once its ciphertext has come. -/
def partLine (slot first : Nat) (got : Bytes) (s : State) (x : Scan) : Option Line :=
  let i := x.next - first
  if 64 + 64 * (i + 1) ≤ got.length then
    some (cipherLine (s.keySlot slot).key (partIv (fieldAt got 8 4)) (got.drop 64) i) else none

def importReply (lines index : Nat) : Bytes := leBytes 8 lines ++ leBytes 4 index

/-- The tag of a whole part verifies. -/
def State.partTag (s : State) (slot : Nat) (got : Bytes) : Bool :=
  let len := fieldAt got 32 8
  tagOk (s.keySlot slot).key (partIv (fieldAt got 8 4)) (got.take 64) (bytesAt got 64 len) (bytesAt got (64 + len) 16)

/-- A fence as a state record carries it: index, producer slot, state, epoch, status, cause. -/
def fenceOfRecord (b : Bytes) : Nat × Nat × Nat × Nat × Nat × Nat :=
  let w := fieldAt b 12 8
  (fieldAt b 8 4, w / 2 ^ 8 % 4096, w / 2 ^ 20 % 4, w / 2 ^ 22 % 16384, w / 2 ^ 36 % 65536, w / 2 ^ 52 % 256)

/-- Records of a state part. -/
def recordsOf (plain : Bytes) : List Bytes := (List.range (plain.length / 32)).map (fun i => bytesAt plain (32 * i) 32)

/-- What the records reserve; none where they are no state part (R342). -/
def parseState (plain : Bytes) : Option MigState :=
  let rs := recordsOf plain
  let of := fun k => rs.filter (fun b => fieldAt b 0 1 == k)
  let types := rs.map (fun b => fieldAt b 0 1)
  let ordered := (List.zip types types.tail).all (fun x => decide (x.1 ≤ x.2)) && types.all (fun k => decide (k ≤ 5))
  match of 0, of 1 with
  | [d], seeds =>
    if !ordered || decide (1 < seeds.length) || fieldAt d 16 4 != rs.length then none
    else some
      { gparts := fieldAt d 12 4
        seed := seeds.head?.map (fun b => BitVec.ofNat 128 (fieldAt b 8 16))
        slots := (of 2).map (fun b => fieldAt b 8 1)
        fences := (of 3).map fenceOfRecord
        arrs := (of 4).map (fun b => (fieldAt b 8 4, fieldAt b 12 8 % 2 ^ 46, fieldAt b 12 8 / 2 ^ 46))
        streams := (of 5).map (fun b => (fieldAt b 8 4, fieldAt b 12 8)) }
  | _, _ => none

/-- The indices are free and within the grant, and the stream entries are free (R343). -/
def State.reservable (s : State) (ldi : Nat) (m : MigState) : Bool :=
  let t := s.tables
  let g := (s.dom ldi).grant
  let free := fun (used : Nat → Bool) (res l : List Nat) =>
    l.eraseDups.length == l.length && l.all (fun i => i != 0 && decide (i ≤ fenceTop) && !used i && !res.contains i)
  free (fun i => (s.fence i).ldi != 0) (t.reserved MigState.fenceIds) m.fenceIds
    && free (fun i => (t.arrs.find i).isSome) (t.reserved MigState.arrIds) m.arrIds
    && decide (s.fenceUse ldi + m.fences.length ≤ g.fences) && decide (s.arrUse ldi + m.arrs.length ≤ g.arrs)
    && (m.streams.map Prod.fst).eraseDups.length == m.streams.length
    && m.streams.all (fun x => (s.streamsOf ldi).all (fun y => y.stream != x.1))
    && decide ((s.streamsOf ldi).length + m.streams.length ≤ 256) && decide (s.streamEntries + m.streams.length ≤ 4096)

/-- A state part is all there. -/
def State.takeState (s : State) (ldi : Nat) (m : Migration) (got : Bytes) : Res :=
  let len := fieldAt got 32 8
  let index := fieldAt got 8 4
  let plain := xorBytes (bytesAt got 64 len) (gcmStream (s.keySlot m.slot).key (partIv index) len)
  if !s.partTag m.slot got then .done { status := stIntegrity, result := importReply 0 index } s
  else match parseState plain with
    | none => .done { status := stBadParam } s
    | some x =>
      if !s.reservable ldi x then .done { status := stOwnership } s
      else
        let m1 := { m with imported := m.imported ++ [index], stateDone := true, reserved := some x }
        .ok (s.setDom ldi { s.dom ldi with mig := some m1 }) (importReply 0 index)

/-- Go on with a granule part whose header has passed. -/
def State.stepPart (s : State) (e : JEntry) (ldi src len : Nat) (got : Bytes) (err : Bool) (m : Migration) (x : Scan) : Res :=
  let gs := span (fieldAt got 24 4) (fieldAt got 20 4)
  let index := fieldAt got 8 4
  if x.out then .wait .dma (.importPart ldi src len got) s
  else if s.scanDead x || x.status == stAborted then
    .done { status := stAborted, result := importReply x.count index } (s.endScan x)
  else if err || x.status == stIntegrity then (s.endScan x).zeroTarget e.jid ldi gs x.count index true
  else if x.status != stOk then
    .done { status := x.status, result := importReply x.count index } ((s.bindScan x).endScan x)
  else if x.next < x.stop || got.length < len then .wait .dma (.importPart ldi src len got) s
  else if s.partTag m.slot got then
    let m1 := { m with imported := m.imported ++ [index] }
    let t := (s.endScan x).ownAll gs
    .ok (t.setDom ldi { t.dom ldi with mig := some m1 }) (importReply x.count index)
  else (s.endScan x).zeroTarget e.jid ldi gs x.count index true

/-- The header of a part has come. -/
def State.openPart (s : State) (e : JEntry) (ldi src len : Nat) (got : Bytes) (m : Migration) : Res :=
  let rest := fun (t : State) => Res.wait .dma (.importPart ldi src len got) (t.dmaRead e.jid e.path (src + 64) (len - 64))
  if !s.partOk ldi m len got then .done { status := stBadParam } s
  else if fieldAt got 4 1 == 0 then rest s
  else
    let first := fieldAt got 24 4
    let n := fieldAt got 20 4
    let gs := span first n
    if !gs.all (s.owns ldi) then .done { status := stOwnership } s
    else
      let x : Scan :=
        { jid := e.jid, kind := .import_, ldi := ldi, gen := (s.dom ldi).gen, next := 1024 * first, stop := 1024 * (first + n) }
      rest (((s.holdAll gs).addScan x).setEntry (({ e with lockGranules := gs } : JEntry).keep s))

/-- No line is there to write. -/
def noLine (_ : State) (_ : Scan) : Option Line := none

/-- A granule part whose migration has ended: its line comes back first; then an abort leaves its granules HELD (R220), and
the end of the SA zeroes them (R344). -/
def State.endPart (s : State) (e : JEntry) (ldi src len : Nat) (got : Bytes) (x0 : Scan) : Res :=
  let x := (s.scan e.jid).getD x0
  let index := fieldAt got 8 4
  if x.out then .wait .dma (.importPart ldi src len got) s
  else if s.scanDead x then .done { status := stAborted, result := importReply x.count index } (s.endScan x)
  else (s.endScan x).zeroTarget e.jid ldi (span (fieldAt got 24 4) (fieldAt got 20 4)) x.count index true

/-- Go on with `MIG_IMPORT`; its migration may have ended meanwhile (R344). -/
def State.stepMigImport (s : State) (e : JEntry) (ldi src len : Nat) (got : Bytes) (sup : Supply) : Res :=
  let header := decide (64 ≤ got.length)
  let got1 := takeDma got (if header then len else 64) sup
  match s.migIn ldi, s.scan e.jid with
  | none, some x => (s.runScan e.jid noLine).endPart e ldi src len got x
  | none, none => .done { status := stState } s
  | some m, some x =>
    let t := s.runScan e.jid (partLine m.slot (1024 * fieldAt got1 24 4) got1)
    t.stepPart e ldi src len got1 sup.dmaErr m ((t.scan e.jid).getD x)
  | some m, none =>
    if sup.dmaErr then .done { status := stIntegrity, result := importReply 0 (fieldAt got 8 4) } s
    else if !header then
      if got1.length < 64 then .wait .dma (.importPart ldi src len got1) s else s.openPart e ldi src len got1 m
    else if got1.length < len then .wait .dma (.importPart ldi src len got1) s
    else s.takeState ldi m got1

/-! ### MIG_THAW (R322, R343) -/

/-- Apply one reserved fence: its producer is the live context in its slot. One that is SIGNALLED is published (R449). -/
def State.applyFence (s : State) (ldi : Nat) (x : Nat × Nat × Nat × Nat × Nat × Nat) : State :=
  let (i, slot, st, epoch, status, cause) := x
  let ctx := ((s.contextsOf ldi).find? (fun y => y.2.slot == slot && slot != 0)).map Prod.fst
  let gone := slot != 0 && ctx.isNone
  let f : Fence :=
    { ldi := ldi, producer := ctx.getD 0, epoch := epoch,
      state := if gone || st == 2 then .signalled else .armed
      status := if gone then stProducerGone else status, cause := if gone then 0 else cause }
  let t := s.setFence i f
  let t := { t with tables := { t.tables with fenceFreed := t.tables.fenceFreed.filter (fun k => k != i) } }
  if f.state == .signalled then t.emit (.bpFence (fenceHandle i epoch) ldi f.status f.cause) else t

/-- Apply one reserved arrival counter, and publish its value (R449). -/
def State.applyArr (s : State) (ldi : Nat) (x : Nat × Nat × Nat) : State :=
  ({ s with tables := { s.tables with
    arrs := s.tables.arrs.put x.1 { ldi := ldi, bytes := x.2.1, fence := x.2.2 }
    arrFreed := s.tables.arrFreed.filter (fun k => k != x.1) } }).emit (.bpArr x.1 ldi x.2.1)

/-- Apply the reserved objects of a destination. -/
def State.applyState (s : State) (ldi : Nat) (m : MigState) : State :=
  let s := m.fences.foldl (fun s x => s.applyFence ldi x) s
  let s := m.arrs.foldl (fun s x => s.applyArr ldi x) s
  let st := m.streams.map (fun x => ({ stream := x.1, ldi := ldi, pulled := x.2 } : Stream))
  let s := { s with spindle := { s.spindle with streams := s.spindle.streams ++ st } }
  match m.seed with
  | some seed =>
    (s.setDom ldi { s.dom ldi with jobSeed := some seed }).setFixed ldi 4 5
      (keyOf (kdf (bvBytes 16 seed) "CTC3-SPINDLE" [] 256))
  | none => s

/-- The migration ends on this side: KMIG is destroyed. -/
def State.endMigration (s : State) (ldi : Nat) : State :=
  (s.setDom ldi { s.dom ldi with mig := none, frozen := false }).dropKeys ldi (fun t => t == 11)

/-- Every part that the state part counts has been imported, and the state part itself. -/
def Migration.complete (m : Migration) : Option MigState :=
  m.reserved.filter (fun x => m.stateDone && (List.range x.gparts).all (fun i => m.imported.contains i))

/-- The migration record, the slot of KMIG, and what the state part reserves. -/
def lockThaw (s : State) (c : Cmd) (e : JEntry) : JEntry :=
  let m := (s.dom c.ldi).mig
  let r := m.bind (·.reserved)
  { e with
    lockMigs := [c.ldi]
    lockSlots := (m.map (·.slot)).toList
    lockFences := (r.map MigState.fenceIds).getD []
    lockArrs := (r.map MigState.arrIds).getD [] }

def migThawBody (s : State) (c : Cmd) : Res :=
  let l := c.ldi
  match (s.dom l).mig with
  | none => if (s.dom l).frozen then .ok (s.endMigration l) (leBytes 4 0) else .fail stState
  | some m =>
    if m.source then .ok (s.endMigration l) (leBytes 4 m.nextIndex)
    else match m.complete with
      | some x => .ok ((s.applyState l x).endMigration l) (leBytes 4 m.imported.length)
      | none => .fail stState

def migThawSpec : CmdSpec :=
  { opcode := 0x0A04, perm := permManager, states := [.building, .quiescing], locks := lockThaw, body := migThawBody }

/-- MIG_THAW (R322). -/
def execMigThaw (src : Src) (s : State) : Host.Outcome State Fault Refusal := .next (s.runSrc migThawSpec src)

end Sys2Proof.Machine
end

