-- ==== Sys2Proof/Machine/Spdm.lean ====
section
/-!
DEFINITION. The SPDM 1.3 responder (spec/10_attestation.md R207-R213). Message codes and field layouts are those of DMTF
DSP0274 (notes/assumptions/19.md).
-/
namespace Sys2Proof.Machine

/-! ### Answers -/

/-- What the responder does with a request: a response, a response that follows later, with its body's length where it is
known, or a stop for want of the DRBG (R203). -/
inductive Resp
  | now (code : Nat) (body : Bytes)
  | later (len : Option Nat)
  | noEntropy
  deriving DecidableEq, Repr

def errInvalid : Nat := 0x01
def errBusy : Nat := 0x03
def errUnexpected : Nat := 0x04
def errUnspecified : Nat := 0x05
def errUnsupported : Nat := 0x07
def errVersion : Nat := 0x41

/-- ERROR with its code and data. -/
def spdmError (code : Nat) (data : Nat := 0) : Resp := .now 0x7F (leBytes 1 code ++ leBytes 1 data)

/-- A response whose two parameters are given. -/
def spdmResp (code p1 p2 : Nat) (rest : Bytes) : Resp := .now code (leBytes 1 p1 ++ leBytes 1 p2 ++ rest)

/-- SPDM 1.3, as the version byte gives it. -/
def spdmVersion : Nat := 0x13

/-- Where a request may stand. -/
inductive Place
  /-- Connection set-up, before identity and outside sessions. -/
  | setup
  /-- Outside sessions, or in an open one. -/
  | anywhere
  /-- Wherever the large message that it carries may stand: outside sessions, and in one, opened or not. -/
  | chunked
  /-- While a session is being opened. -/
  | handshake
  /-- In an open session. -/
  | session
  /-- Nowhere: a request that the block refuses wherever it stands. -/
  | nowhere
  deriving DecidableEq, Repr

/-- A request as it stands in its transcript: without the record that brought it in a session. -/
def plainRequest : Instr → Instr
  | .getVersion m => .getVersion { m with secured := [] }
  | .getCapabilities m => .getCapabilities { m with secured := [] }
  | .negotiateAlgorithms m offered => .negotiateAlgorithms { m with secured := [] } offered
  | .getDigests m => .getDigests { m with secured := [] }
  | .getCertificate m slot offset len => .getCertificate { m with secured := [] } slot offset len
  | .challenge m slot nonce => .challenge { m with secured := [] } slot nonce
  | .getMeasurements m slot index signed nonce => .getMeasurements { m with secured := [] } slot index signed nonce
  | .keyExchange m k => .keyExchange { m with secured := [] } k
  | .finish m sid proof => .finish { m with secured := [] } sid proof
  | .getEncapsulatedRequest m sid => .getEncapsulatedRequest { m with secured := [] } sid
  | .deliverEncapsulatedResponse m sid chain => .deliverEncapsulatedResponse { m with secured := [] } sid chain
  | .heartbeat m => .heartbeat { m with secured := [] }
  | .keyUpdate m op => .keyUpdate { m with secured := [] } op
  | .endSession m => .endSession { m with secured := [] }
  | .chunkSend m handle seq last chunk => .chunkSend { m with secured := [] } handle seq last chunk
  | .chunkGet m handle seq => .chunkGet { m with secured := [] } handle seq
  | .vendorDefinedRequest m std vendor body => .vendorDefinedRequest { m with secured := [] } std vendor body
  | .spdmUnsupportedRequest m code => .spdmUnsupportedRequest { m with secured := [] } code
  | .getTdispVersion m func => .getTdispVersion { m with secured := [] } func
  | .getTdispCapabilities m func => .getTdispCapabilities { m with secured := [] } func
  | .lockInterfaceRequest m func => .lockInterfaceRequest { m with secured := [] } func
  | .getDeviceInterfaceReport m func => .getDeviceInterfaceReport { m with secured := [] } func
  | .getDeviceInterfaceState m func => .getDeviceInterfaceState { m with secured := [] } func
  | .startInterfaceRequest m func nonce => .startInterfaceRequest { m with secured := [] } func nonce
  | .stopInterfaceRequest m func => .stopInterfaceRequest { m with secured := [] } func
  | .ideKeyDeliveryVdm m vendor func stream keySet => .ideKeyDeliveryVdm { m with secured := [] } vendor func stream keySet
  | .tdispUnsupportedRequest m func code => .tdispUnsupportedRequest { m with secured := [] } func code
  | .ideKmQuery m func => .ideKmQuery { m with secured := [] } func
  | .keyProg m func stream keySet => .keyProg { m with secured := [] } func stream keySet
  | .kSetGo m func stream keySet => .kSetGo { m with secured := [] } func stream keySet
  | .kSetStop m func stream keySet => .kSetStop { m with secured := [] } func stream keySet
  | i => i

/-- The wire form of a request (DSP0274), which does not depend on its protection. -/
def requestBytes (i : Instr) : Bytes := Config.spdmWire (plainRequest i)

/-- Take a request off its transport. One of a session is taken where the session is of its connection and its record opens to
the request under the session's keys (R209); it restarts the heartbeat period (R213). Any other message of a session is
dropped. -/
def State.takeSpdm (s : State) (i : Instr) (m : SpdmCtx) : Option State :=
  match m.session with
  | none => some s
  | some sid => match s.spdm.sessions.find sid with
    | some x =>
      if x.conn == m.conn && x.req.unprotect (x.id sid) m.secured == some (requestBytes i) then
        some (s.setSession sid { x with lastMsg := s.now, req := { x.req with seq := x.req.seq + 1 } })
      else none
    | none => none

/-- The request may stand where it does: the handshake of a session is never in the clear (R208). -/
def State.placeOk (s : State) (m : SpdmCtx) (p : Place) : Bool :=
  let x := m.session.map (fun sid => (s.session sid).stage)
  match p with
  | .setup => x.isNone
  | .anywhere => x.isNone || x == some .open_
  | .handshake => x == some .exchanged
  | .session => x == some .open_
  | .chunked | .nowhere => true

def State.addTranscript (s : State) (c : Conn) (b : Bytes) : State :=
  let x := s.spdmConn c
  s.setConn c { x with transcript := x.transcript ++ b }

/-- Keep the messages of connection set-up. -/
def State.addSetup (s : State) (c : Conn) (b : Bytes) : State :=
  let x := s.spdmConn c
  s.setConn c { x with vca := x.vca ++ b }

/-- How a request is refused where it may not stand: UnsupportedRequest for a handshake in the clear (R208). -/
def misplaced (m : SpdmCtx) (p : Place) : Resp :=
  if p == .handshake && m.session.isNone then spdmError errUnsupported else spdmError errUnexpected

/-- The checks that every request passes (R207), its answer, and the transcript of its connection. GET_VERSION is answered in
every version. -/
def State.answerSpdm (s : State) (i : Instr) (m : SpdmCtx) (anyVersion : Bool) (p : Place) (f : State → Resp × State) :
    Resp × State :=
  if !anyVersion && m.version != spdmVersion then (spdmError errVersion, s)
  else if m.conn == .mctp && !s.identityUp && p != .setup then (spdmError errBusy, s)
  else if !s.placeOk m p then (misplaced m p, s)
  else if p != .setup && p != .nowhere && !(s.spdmConn m.conn).algs then (spdmError errUnexpected, s)
  else
    let r := f s
    match r.1 with
    | .now code body =>
      if code == 0x7F then r
      else
        let b := requestBytes i ++ Config.spdmEncode code body
        let t := r.2.addTranscript m.conn b
        (r.1, if p == .setup then t.addSetup m.conn b else t)
    | _ => r

/-- Give an answer on its connection. -/
def State.giveAnswer (s : State) (m : SpdmCtx) (a : Resp) : State :=
  match a with
  | .now code body => s.sendSpdm m.conn m.session code body
  | .noEntropy => s.sendSpdm m.conn m.session 0x7F (leBytes 1 errUnspecified ++ leBytes 1 0)
  | _ => s

/-- Loom answers SPDM on MCTP; on a HOST ring only where `ATT_SESSION_OPEN` would carry the response (R207). -/
def State.spdmUp (s : State) (m : SpdmCtx) : Bool :=
  s.loomUp && !s.loom.halting && s.otp.resetDue.isNone && (m.conn == .mctp || s.attestStatus == stOk)

/-- A request as a row of the table: it is taken, and answered by `f`. -/
def State.spdmRow (s : State) (i : Instr) (m : SpdmCtx) (f : State → Resp × State) : Host.Outcome State Fault Refusal :=
  nextIf (s.spdmUp m) s (match s.takeSpdm i m with
    | some t => let r := f t; r.2.giveAnswer m r.1
    | none => s)

/-! ### Connection set-up (R207, R209) -/

def respVersion (m : SpdmCtx) (s : State) : Resp × State :=
  s.answerSpdm (.getVersion m) m true .setup (fun s =>
    let h := (s.spdmConn m.conn).nextHandle
    (spdmResp 0x04 0 0 (leBytes 1 0 ++ leBytes 1 1 ++ leBytes 2 0x1300), s.setConn m.conn { version := true, nextHandle := h }))

/-- GET_VERSION (R207). -/
def execGetVersion (m : SpdmCtx) (s : State) : Host.Outcome State Fault Refusal := s.spdmRow (.getVersion m) m (respVersion m)

/-- Capability flags: certificates, challenge, signed and fresh measurements, encryption and MAC, mutual authentication,
key exchange, encapsulated requests, heartbeat, key update, chunks. -/
def spdmFlags : Nat := 0x0002 + 0x0004 + 0x0010 + 0x0020 + 0x0040 + 0x0080 + 0x0100 + 0x0200 + 0x1000 + 0x2000 + 0x4000 + 0x20000

/-- Fields of CAPABILITIES that the spec does not state are free. -/
def respCapabilities (m : SpdmCtx) (s : State) : Resp × State :=
  s.answerSpdm (.getCapabilities m) m false .setup (fun s =>
    let x := s.spdmConn m.conn
    if !x.version then (spdmError errUnexpected, s)
    else
      (spdmResp 0x61 0 0 (leBytes 1 0 ++ padTo 1 (Config.freeBytes 0x61 0) ++ leBytes 2 0 ++ leBytes 4 spdmFlags
        ++ padTo 8 (Config.freeBytes 0x61 1)), s.setConn m.conn { x with caps := true }))

/-- GET_CAPABILITIES (R207). -/
def execGetCapabilities (m : SpdmCtx) (s : State) : Host.Outcome State Fault Refusal := s.spdmRow (.getCapabilities m) m (respCapabilities m)

/-- The one set of algorithms (R209): measurement specification, measurement hash, base signature, base hash, then DHE, AEAD,
requester signature and key schedule. -/
def spdmAlgorithms : Bytes :=
  leBytes 1 1 ++ leBytes 4 0x04 ++ leBytes 4 0x80 ++ leBytes 4 0x02
    ++ leBytes 2 0x10 ++ leBytes 2 0x02 ++ leBytes 2 0x80 ++ leBytes 2 0x01

def respAlgorithms (m : SpdmCtx) (offered : Bool) (s : State) : Resp × State :=
  s.answerSpdm (.negotiateAlgorithms m offered) m false .setup (fun s =>
    let x := s.spdmConn m.conn
    if !x.caps then (spdmError errUnexpected, s)
    else if !offered then (spdmError errInvalid, s)
    else (spdmResp 0x63 4 0 spdmAlgorithms, s.setConn m.conn { x with algs := true }))

/-- NEGOTIATE_ALGORITHMS (R209): `offered` says that the request offers the block's set. -/
def execNegotiateAlgorithms (m : SpdmCtx) (offered : Bool) (s : State) : Host.Outcome State Fault Refusal :=
  s.spdmRow (.negotiateAlgorithms m offered) m (respAlgorithms m offered)

/-! ### Certificates, challenge, measurements (R209, R210) -/

/-- The first `n` certificates of a string. -/
def firstCerts : Nat → Bytes → Bytes
  | 0, _ => []
  | n + 1, b => let k := Config.derLength b; b.take k ++ firstCerts n (b.drop k)

/-- Slot 0: length, root digest, and the manufacturing CA, DeviceID and Alias certificates. -/
def State.slotChain (s : State) : Bytes :=
  let certs := firstCerts 3 s.keys.chain
  leBytes 2 (52 + certs.length) ++ leBytes 2 0 ++ bvBytes 48 Config.rootDigest ++ certs

def State.slotDigest (s : State) : Bytes := bvBytes 48 (Config.sha384 s.slotChain)

def respDigests (m : SpdmCtx) (s : State) : Resp × State :=
  s.answerSpdm (.getDigests m) m false .anywhere (fun s => (spdmResp 0x01 0 1 s.slotDigest, s))

/-- GET_DIGESTS (R207). -/
def execGetDigests (m : SpdmCtx) (s : State) : Host.Outcome State Fault Refusal := s.spdmRow (.getDigests m) m (respDigests m)

def respCertificate (m : SpdmCtx) (slot offset len : Nat) (s : State) : Resp × State :=
  s.answerSpdm (.getCertificate m slot offset len) m false .anywhere (fun s =>
    let rest := s.slotChain.drop offset
    let part := rest.take len
    if slot != 0 then (spdmError errUnsupported 0x82, s)
    else if rest.isEmpty then (spdmError errInvalid, s)
    else (spdmResp 0x02 0 0 (leBytes 2 part.length ++ leBytes 2 (rest.length - part.length) ++ part), s))

/-- GET_CERTIFICATE (R209): slot 0 only (R208). -/
def execGetCertificate (m : SpdmCtx) (slot offset len : Nat) (s : State) : Host.Outcome State Fault Refusal :=
  s.spdmRow (.getCertificate m slot offset len) m (respCertificate m slot offset len)

/-- A signature of an SPDM message, by the ECDSA half of the Alias key (R209). -/
def State.ecdsaSpdm (s : State) (msg : Bytes) : Bytes × State :=
  let n := s.draw
  (padTo 96 (Config.ecdsaSign s.keys.aliasSeed msg (drawBytes n.1 48)), n.2)

/-- The same over the transcript of the connection, the request and the response. -/
def State.signSpdm (s : State) (i : Instr) (c : Conn) (body : Bytes) : Bytes × State :=
  s.ecdsaSpdm ((s.spdmConn c).transcript ++ requestBytes i ++ body)

/-- Append its signature to a response. -/
def State.signedResp (s : State) (i : Instr) (c : Conn) (code p1 p2 : Nat) (rest : Bytes) : Resp × State :=
  let g := s.signSpdm i c (leBytes 1 p1 ++ leBytes 1 p2 ++ rest)
  (spdmResp code p1 p2 (rest ++ g.1), g.2)

def respChallenge (m : SpdmCtx) (slot : Nat) (nonce : BitVec 256) (s : State) : Resp × State :=
  let i := Instr.challenge m slot nonce
  s.answerSpdm i m false .anywhere (fun s =>
    if slot != 0 then (spdmError errUnsupported 0x83, s)
    else if !s.drbgReady then (.noEntropy, s)
    else
      let n := s.draw
      n.2.signedResp i m.conn 0x03 0 1 (s.slotDigest ++ drawBytes n.1 32 ++ leBytes 2 0))

/-- CHALLENGE (R207, R209). -/
def execChallenge (m : SpdmCtx) (slot : Nat) (nonce : BitVec 256) (s : State) : Host.Outcome State Fault Refusal :=
  s.spdmRow (.challenge m slot nonce) m (respChallenge m slot nonce)

/-- Measurement block i with its header. -/
def State.measurementBlock (s : State) (i : Nat) : Bytes :=
  let v := s.measurement i
  leBytes 1 i ++ leBytes 1 1 ++ leBytes 2 (v.length + 3) ++ leBytes 1 (if i ≤ 3 then i - 1 else 3) ++ leBytes 2 v.length ++ v

/-- The blocks that an index asks for: none with their number, one, or all. -/
def measurementsAsked (index : Nat) : Option (List Nat) :=
  if index == 0 then some []
  else if index == 0xFF then some [1, 2, 3, 4, 5, 6]
  else if index ≤ 6 then some [index] else none

def respMeasurements (m : SpdmCtx) (slot index : Nat) (signed : Bool) (nonce : BitVec 256) (s : State) : Resp × State :=
  let i := Instr.getMeasurements m slot index signed nonce
  s.answerSpdm i m false .anywhere (fun s =>
    if signed && slot != 0 then (spdmError errUnsupported 0xE0, s)
    else match measurementsAsked index with
    | none => (spdmError errInvalid, s)
    | some bs =>
      if !s.drbgReady then (.noEntropy, s)
      else
        let record := bs.flatMap s.measurementBlock
        let n := s.draw
        let rest := leBytes 1 bs.length ++ leBytes 3 record.length ++ record ++ drawBytes n.1 32 ++ leBytes 2 0
        let p1 := if index == 0 then 6 else 0
        if signed then n.2.signedResp i m.conn 0x60 p1 0 rest else (spdmResp 0x60 p1 0 rest, n.2))

/-- GET_MEASUREMENTS (R210): `slot` is the certificate slot of a signed request. -/
def execGetMeasurements (m : SpdmCtx) (slot index : Nat) (signed : Bool) (nonce : BitVec 256) (s : State) :
    Host.Outcome State Fault Refusal := s.spdmRow (.getMeasurements m slot index signed nonce) m (respMeasurements m slot index signed nonce)

/-! ### Sessions (R211, R213) -/

/-- KEY_EXCHANGE carries the opaque element of R211: its GDID. -/
def State.tenantGdid (s : State) (k : KexReq) : Option Nat :=
  if k.opaqueStd == 0x03 && k.opaqueVendor == s.otp.integId && k.opaqueType == 0x01 then k.opaqueGdid else none

/-- On a virtual machine's ring, the element names another domain than the ring's (R300). -/
def State.wrongRing (s : State) (c : Conn) (g : Option Nat) : Bool :=
  match c, g with
  | .host r, some gdid => r != 0 && !(match s.vmLdi r with | some l => (s.dom l).gdid == gdid | none => false)
  | _, _ => false

/-- The limits of R213 are reached. -/
def State.sessionsFull (s : State) (g : Option Nat) : Bool :=
  decide (64 ≤ s.spdm.sessions.length)
    || (g.isSome && decide (4 ≤ (s.spdm.sessions.filter (fun x => x.2.gdid == g)).length))

/-- The transcript of a session begins with connection set-up and the certificate chain. -/
def State.kexStart (s : State) (c : Conn) : Bytes := (s.spdmConn c).vca ++ s.slotDigest

/-- Open the handshake of a session: the ephemeral key, the response, and the session's entry with its handshake keys. -/
def State.openSession (s : State) (i : Instr) (m : SpdmCtx) (k : KexReq) (g : Option Nat) : Resp × State :=
  let priv := s.draw
  let rand := priv.2.draw
  let key := drawBytes priv.1 48
  let secret := Config.p384Shared key k.share
  let sid := s.spdm.nextSession
  let front := leBytes 1 10 ++ leBytes 1 0 ++ leBytes 2 sid ++ leBytes 1 (bit k.mutAuth 1) ++ leBytes 1 0 ++ drawBytes rand.1 32
    ++ (padTo 97 (Config.p384Public key)).drop 1 ++ leBytes 2 0
  let th := s.kexStart m.conn ++ requestBytes i
  let sig := rand.2.ecdsaSpdm (th ++ Config.spdmEncode 0x64 front)
  let th1 := th ++ Config.spdmEncode 0x64 (front ++ sig.1)
  let ks := handshakeKeys secret th1
  let body := front ++ sig.1 ++ ks.2.verifyData th1
  let x : Session :=
    { conn := m.conn, mutAuth := k.mutAuth, gdid := g, secret := secret, lastMsg := s.now, reqSid := k.reqSid
      req := ks.1, rsp := ks.2, transcript := th ++ Config.spdmEncode 0x64 body }
  let t := sig.2
  (.now 0x64 body, { t with spdm := { t.spdm with sessions := t.spdm.sessions.put sid x, nextSession := sid + 1 } })

/-- What a message changes in the session table is journaled with the `ATT_SESSION_OPEN` that carries it; on MCTP, as an internal
entry (R260). -/
def State.noteSession (s : State) (c : Conn) : State :=
  match c with
  | .mctp => s.internalEntry
  | .host _ => s

def respKeyExchange (m : SpdmCtx) (k : KexReq) (s : State) : Resp × State :=
  let i := Instr.keyExchange m k
  s.answerSpdm i m false .anywhere (fun s =>
    let named := s.tenantGdid k
    let g := if k.mutAuth then named else none
    if m.session.isSome then (spdmError errUnexpected, s)
    else if k.slot != 0 then (spdmError errUnsupported 0xE4, s)
    else if s.wrongRing m.conn named then (spdmError errInvalid, s)
    else if (match g with | some gdid => (s.ldiOfGdid gdid).isNone | none => false) then (spdmError errInvalid, s)
    else if !Config.p384Valid k.share then (spdmError errInvalid, s)
    else if s.sessionsFull g then (spdmError errBusy, s)
    else if !s.drbgReady then (.noEntropy, s)
    else (s.noteSession m.conn).openSession i m k g)

/-- KEY_EXCHANGE (R211, R213, R300). -/
def execKeyExchange (m : SpdmCtx) (k : KexReq) (s : State) : Host.Outcome State Fault Refusal :=
  s.spdmRow (.keyExchange m k) m (respKeyExchange m k)

/-- The session that carries the message, while it is being opened and where the message names it. -/
def State.opening (s : State) (m : SpdmCtx) (sid : Nat) : Option Session :=
  match s.spdm.sessions.find sid with
  | some x => if m.session == some sid && x.stage == .exchanged then some x else none
  | none => none

/-- The domain that the session names holds this key digest (R211). -/
def State.tkdMatches (s : State) (x : Session) (d : Digest) : Bool :=
  match x.gdid with
  | none => true
  | some g => match s.ldiOfGdid g with
    | some l => (s.dom l).tkd == d
    | none => false

/-- The header of FINISH: version, code, and whether a signature follows. -/
def finishHead (x : Session) : Bytes := leBytes 1 spdmVersion ++ leBytes 1 0xE5 ++ leBytes 1 (bit x.mutAuth 0) ++ leBytes 1 0

/-- The signature of a FINISH with mutual authentication verifies under the leaf key, which is the tenant's where the session
names a domain (R211). -/
def State.finishSigned (s : State) (x : Session) (proof : Bytes) : Bool :=
  !x.mutAuth || (match x.leaf with
    | some k => s.tkdMatches x k.1 && Config.ecdsaVerify k.2 (x.transcript ++ finishHead x) (proof.take 96)
    | none => false)

/-- FINISH verifies: its signature, and its MAC under the request direction's finished key. -/
def State.finishOk (s : State) (x : Session) (proof : Bytes) : Bool :=
  let n := if x.mutAuth then 96 else 0
  proof.length == n + 48 && s.finishSigned x proof
    && proof.drop n == x.req.verifyData (x.transcript ++ finishHead x ++ proof.take n)

/-- The session is open: its keys follow from the transcript with FINISH and FINISH_RSP, and hold after the response. -/
def State.openedSession (s : State) (x : Session) (proof : Bytes) : Session :=
  { x with
    stage := .open_, ldi := x.gdid.bind s.ldiOfGdid
    dataKeys := some (sessionKeys x.secret (x.transcript ++ finishHead x ++ proof ++ Config.spdmEncode 0x65 (leBytes 2 0))) }

/-- End the session behind the response that says so. -/
def State.endAfter (s : State) (sid : Nat) : State := s.setSession sid { s.session sid with ending := true }

def respFinish (m : SpdmCtx) (sid : Nat) (proof : Bytes) (s : State) : Resp × State :=
  s.answerSpdm (.finish m sid proof) m false .handshake (fun s =>
    match s.opening m sid with
    | none => (spdmError errUnexpected, s)
    | some x =>
      let t := s.noteSession m.conn
      if s.finishOk x proof then (spdmResp 0x65 0 0 [], t.setSession sid (t.openedSession x proof))
      else (spdmError errInvalid, t.endAfter sid))

/-- FINISH (R211): the session opens, or ends. -/
def execFinish (m : SpdmCtx) (sid : Nat) (proof : Bytes) (s : State) : Host.Outcome State Fault Refusal :=
  s.spdmRow (.finish m sid proof) m (respFinish m sid proof)

def respEncapRequest (m : SpdmCtx) (sid : Nat) (s : State) : Resp × State :=
  s.answerSpdm (.getEncapsulatedRequest m sid) m false .handshake (fun s =>
    match s.opening m sid with
    | some x =>
      if x.mutAuth then
        (spdmResp 0x6A 1 0 (leBytes 1 spdmVersion ++ leBytes 1 0x82 ++ leBytes 2 0 ++ leBytes 2 0 ++ leBytes 2 0xFFFF),
          s)
      else (spdmError errUnexpected, s)
    | none => (spdmError errUnexpected, s))

/-- GET_ENCAPSULATED_REQUEST (R207): GET_CERTIFICATE of the requester's slot 0. -/
def execGetEncapsulatedRequest (m : SpdmCtx) (sid : Nat) (s : State) : Host.Outcome State Fault Refusal :=
  s.spdmRow (.getEncapsulatedRequest m sid) m (respEncapRequest m sid)

def respDeliver (m : SpdmCtx) (sid : Nat) (chain : Bytes) (s : State) : Resp × State :=
  let i := Instr.deliverEncapsulatedResponse m sid chain
  s.answerSpdm i m false .handshake (fun s =>
    match s.opening m sid with
    | some x =>
      if !x.mutAuth then (spdmError errUnexpected, s)
      else match Config.leafKey chain with
        | some k =>
          if s.tkdMatches x k.1 then
            (spdmResp 0x6B 1 0 [], (s.noteSession m.conn).setSession sid
              { x with leaf := some k, transcript := x.transcript ++ bvBytes 48 (Config.sha384 chain) })
          else (spdmError errInvalid, (s.noteSession m.conn).endAfter sid)
        | none => (spdmError errInvalid, (s.noteSession m.conn).endAfter sid)
    | none => (spdmError errUnexpected, s))

/-- DELIVER_ENCAPSULATED_RESPONSE (R207, R211): nothing in the chain but the leaf key is checked. -/
def execDeliverEncapsulatedResponse (m : SpdmCtx) (sid : Nat) (chain : Bytes) (s : State) :
    Host.Outcome State Fault Refusal := s.spdmRow (.deliverEncapsulatedResponse m sid chain) m (respDeliver m sid chain)

def respHeartbeat (m : SpdmCtx) (s : State) : Resp × State :=
  s.answerSpdm (.heartbeat m) m false .session (fun s => (spdmResp 0x68 0 0 [], s))

/-- HEARTBEAT (R213). -/
def execHeartbeat (m : SpdmCtx) (s : State) : Host.Outcome State Fault Refusal := s.spdmRow (.heartbeat m) m (respHeartbeat m)

def respKeyUpdate (m : SpdmCtx) (op : Nat) (s : State) : Resp × State :=
  s.answerSpdm (.keyUpdate m op) m false .session (fun s =>
    let sid := m.session.getD 0
    let x := s.session sid
    if op == 1 then (spdmResp 0x69 op 0 [], s.setSession sid { x with req := x.req.update })
    else if op == 2 then (spdmResp 0x69 op 0 [], s.setSession sid { x with req := x.req.update, rsp := x.rsp.update })
    else if op == 3 then (spdmResp 0x69 op 0 [], s)
    else (spdmError errInvalid, s))

/-- KEY_UPDATE (R207): operations 1 UpdateKey, 2 UpdateAllKeys, whose response is under the new key, 3 VerifyNewKey. -/
def execKeyUpdate (m : SpdmCtx) (op : Nat) (s : State) : Host.Outcome State Fault Refusal := s.spdmRow (.keyUpdate m op) m (respKeyUpdate m op)

def respEndSession (m : SpdmCtx) (s : State) : Resp × State :=
  s.answerSpdm (.endSession m) m false .session (fun s => (spdmResp 0x6C 0 0 [], (s.noteSession m.conn).endAfter (m.session.getD 0)))

/-- END_SESSION (R213). -/
def execEndSession (m : SpdmCtx) (s : State) : Host.Outcome State Fault Refusal := s.spdmRow (.endSession m) m (respEndSession m)

/-- SESSION_HEARTBEAT_TIMEOUT (R213): 10 s with no message. -/
def execSessionHeartbeatTimeout (sid : Nat) (s : State) : Host.Outcome State Fault Refusal :=
  match s.spdm.sessions.find sid with
  | some x => nextIf s.loomUp s ((s.advanceTo (x.lastMsg + 10 * secTicks)).internalEntry.endSession sid)
  | none => .next s

/-- A VENDOR_DEFINED_REQUEST that is a block command, told apart by its standards ID and vendor ID (R211, R332). -/
def State.isBlockCommand (s : State) (m : SpdmCtx) (std vendor : Nat) : Bool :=
  m.session.isSome && std == 0x03 && vendor == s.otp.integId

def respVendor (m : SpdmCtx) (std vendor : Nat) (body : Bytes) (s : State) : Resp × State :=
  let i := Instr.vendorDefinedRequest m std vendor body
  if !s.isBlockCommand m std vendor then s.answerSpdm i m false .nowhere (fun s => (spdmError errUnsupported 0xFE, s))
  else
    s.answerSpdm i m false .session (fun s =>
      let sid := m.session.getD 0
      let x := s.session sid
      if body.length < 256 then (spdmError errInvalid, s)
      else if x.inbox.isSome || x.running then (spdmError errBusy, s)
      else (.later none, s.setSession sid { x with inbox := some body }))

/-- VENDOR_DEFINED_REQUEST (R212, R254): a command slot for the session's path, whose reply is the response. -/
def execVendorDefinedRequest (m : SpdmCtx) (std vendor : Nat) (body : Bytes) (s : State) : Host.Outcome State Fault Refusal :=
  nextIf (s.spdmUp m) s (match s.takeSpdm (.vendorDefinedRequest m std vendor body) m with
    | some t =>
      let r := respVendor m std vendor body t
      (r.2.giveAnswer m r.1).drainTurns
    | none => s)

def respUnsupported (m : SpdmCtx) (code : Nat) (s : State) : Resp × State :=
  s.answerSpdm (.spdmUnsupportedRequest m code) m false .nowhere (fun s => (spdmError errUnsupported code, s))

/-- SPDM_UNSUPPORTED_REQUEST (R208). -/
def execSpdmUnsupportedRequest (m : SpdmCtx) (code : Nat) (s : State) : Host.Outcome State Fault Refusal :=
  s.spdmRow (.spdmUnsupportedRequest m code) m (respUnsupported m code)

end Sys2Proof.Machine
end

