-- ==== Sys2Proof/Machine/Tdisp.lean ====
section
/-!
DEFINITION. TDISP and IDE_KM (spec/15_sharing_migration.md R332-R337), and the events and acknowledgements of `KP_`
(spec/21_ports.md R458). Message codes and field layouts are those of TDISP 1.0 and IDE_KM (notes/assumptions/19.md).
-/
namespace Sys2Proof.Machine

/-! ### Messages -/

/-- A PCI-SIG message of a protocol, as VENDOR_DEFINED_RESPONSE carries it: TDISP 0x01, IDE_KM 0x00. -/
def pciBody (protocol : Nat) (payload : Bytes) : Bytes :=
  leBytes 2 0 ++ leBytes 2 0x03 ++ leBytes 1 2 ++ leBytes 2 0x0001 ++ leBytes 2 (payload.length + 1) ++ leBytes 1 protocol ++ payload

def tdispBody (type func : Nat) (rest : Bytes) : Bytes :=
  pciBody 0x01 (leBytes 1 0x10 ++ leBytes 1 type ++ leBytes 2 0 ++ leBytes 4 func ++ leBytes 8 0 ++ rest)

def tdispResp (type func : Nat) (rest : Bytes) : Resp := .now 0x7E (tdispBody type func rest)

def tdispBusy : Nat := 0x0003
def tdispInvalid : Nat := 0x0001
def tdispState : Nat := 0x0004
def tdispUnsupported : Nat := 0x0007
def tdispInterface : Nat := 0x0101
def tdispEntropy : Nat := 0x0103

/-- TDISP ERROR. -/
def tdispError (func code : Nat) (data : Nat := 0) : Resp := tdispResp 0x7F func (leBytes 4 code ++ leBytes 4 data)

/-- TDISP and IDE_KM run in an open session of HOST ring 0, and are answered with ERROR UnsupportedRequest elsewhere (R332). -/
def State.pciAnswer (s : State) (i : Instr) (m : SpdmCtx) (f : State → Resp × State) : Resp × State :=
  if m.conn == .host 0 && (m.session.map (fun sid => (s.session sid).stage)) == some .open_ then s.answerSpdm i m false .session f
  else s.answerSpdm i m false .nowhere (fun s => (spdmError errUnsupported 0xFE, s))

/-- A TDISP message names one of the functions 1 to 63. -/
def State.tdispAnswer (s : State) (i : Instr) (m : SpdmCtx) (func : Nat) (f : State → Resp × State) : Resp × State :=
  s.pciAnswer i m (fun s => if func == 0 || decide (63 < func) then (tdispError func tdispInterface, s) else f s)

def respTdispVersion (m : SpdmCtx) (func : Nat) (s : State) : Resp × State :=
  s.tdispAnswer (.getTdispVersion m func) m func (fun s => (tdispResp 0x01 func (leBytes 1 1 ++ leBytes 1 0x10), s))

/-- GET_TDISP_VERSION (R332): version 1.0 only. -/
def execGetTdispVersion (m : SpdmCtx) (func : Nat) (s : State) : Host.Outcome State Fault Refusal :=
  s.spdmRow (.getTdispVersion m func) m (respTdispVersion m func)

/-- TDISP requests that the block supports, as a bit map from 0x81: all but the two P2P binds and SET_MMIO_ATTRIBUTE. -/
def tdispRequests : Nat := 0x47F

/-- Fields of TDISP_CAPABILITIES that the spec does not state are free. -/
def respTdispCapabilities (m : SpdmCtx) (func : Nat) (s : State) : Resp × State :=
  s.tdispAnswer (.getTdispCapabilities m func) m func (fun s =>
    (tdispResp 0x02 func (padTo 4 (Config.freeBytes 0x02 0) ++ leBytes 16 tdispRequests ++ padTo 8 (Config.freeBytes 0x02 1)), s))

/-- GET_TDISP_CAPABILITIES (R332). -/
def execGetTdispCapabilities (m : SpdmCtx) (func : Nat) (s : State) : Host.Outcome State Fault Refusal :=
  s.spdmRow (.getTdispCapabilities m func) m (respTdispCapabilities m func)

/-- The function is bound to an LDI in one of BUILDING, SEALED and RUNNING: that LDI. -/
def State.funcActive (s : State) (func : Nat) : Option Nat :=
  match s.funcLdi func with
  | some l => if stToRunning.contains (s.dom l).state then some l else none
  | none => none

def respLock (m : SpdmCtx) (func : Nat) (s : State) : Resp × State :=
  s.tdispAnswer (.lockInterfaceRequest m func) m func (fun s =>
    let t := s.tdi func
    if t.state != .unlocked || (s.funcActive func).isNone then (tdispError func tdispState, s)
    else if !s.drbgReady then (tdispError func tdispEntropy, s)
    else
      let n := s.draw
      let nonce := drawBytes n.1 32
      (tdispResp 0x03 func nonce,
        n.2.setTdi func { t with state := .locked, nonce := BitVec.ofNat 256 (leNat nonce) }))

/-- LOCK_INTERFACE_REQUEST (R332, R333). -/
def execLockInterfaceRequest (m : SpdmCtx) (func : Nat) (s : State) : Host.Outcome State Fault Refusal :=
  s.spdmRow (.lockInterfaceRequest m func) m (respLock m func)

/-- The device-specific information of the interface report (R334). -/
def State.tdispInfo (s : State) (func : Nat) : Bytes :=
  let l := (s.funcLdi func).getD 0
  leBytes 4 (s.dom l).gdid ++ leBytes 1 l ++ leBytes 1 func ++ leBytes 2 (s.dom l).gen ++ leBytes 2 s.boot.devid ++ leBytes 6 0
    ++ bvBytes 8 s.keys.epoch ++ leBytes 8 0

/-- The interface report: the two BAR0 ranges of R330, and that information. -/
def State.tdispReport (s : State) (func : Nat) : Bytes :=
  leBytes 12 0 ++ leBytes 4 2
    ++ leBytes 8 0 ++ leBytes 4 1 ++ leBytes 4 0
    ++ leBytes 8 1 ++ leBytes 4 6 ++ leBytes 4 0
    ++ leBytes 4 32 ++ s.tdispInfo func

/-- TDISP 1.0 gives the report in CONFIG_LOCKED and RUN. -/
def respReport (m : SpdmCtx) (func : Nat) (s : State) : Resp × State :=
  s.tdispAnswer (.getDeviceInterfaceReport m func) m func (fun s =>
    let st := (s.tdi func).state
    if st == .locked || st == .run then
      let r := s.tdispReport func
      (tdispResp 0x04 func (leBytes 2 r.length ++ leBytes 2 0 ++ r), s)
    else (tdispError func tdispState, s))

/-- GET_DEVICE_INTERFACE_REPORT (R334). -/
def execGetDeviceInterfaceReport (m : SpdmCtx) (func : Nat) (s : State) : Host.Outcome State Fault Refusal :=
  s.spdmRow (.getDeviceInterfaceReport m func) m (respReport m func)

def TdiState.code : TdiState → Nat
  | .unlocked => 0
  | .locked => 1
  | .run => 2
  | .error => 3

def respState (m : SpdmCtx) (func : Nat) (s : State) : Resp × State :=
  s.tdispAnswer (.getDeviceInterfaceState m func) m func (fun s => (tdispResp 0x05 func (leBytes 1 (s.tdi func).state.code), s))

/-- GET_DEVICE_INTERFACE_STATE (R332). -/
def execGetDeviceInterfaceState (m : SpdmCtx) (func : Nat) (s : State) : Host.Outcome State Fault Refusal :=
  s.spdmRow (.getDeviceInterfaceState m func) m (respState m func)

/-- The row of START in the table of R333 holds: its nonce, an active stream, the domain SEALED or RUNNING. -/
def State.startOk (s : State) (func : Nat) (nonce : BitVec 256) : Bool :=
  let t := s.tdi func
  t.state == .locked && t.nonce == nonce && t.stream.isSome && !t.active.isEmpty
    && (match s.funcLdi func with
      | some l => stSealed.contains (s.dom l).state
      | none => false)

def respStart (m : SpdmCtx) (func : Nat) (nonce : BitVec 256) (s : State) : Resp × State :=
  s.tdispAnswer (.startInterfaceRequest m func nonce) m func (fun s =>
    if s.startOk func nonce then (tdispResp 0x06 func [], s.setTdi func { s.tdi func with state := .run })
    else (tdispError func tdispState, s))

/-- START_INTERFACE_REQUEST (R333). -/
def execStartInterfaceRequest (m : SpdmCtx) (func : Nat) (nonce : BitVec 256) (s : State) :
    Host.Outcome State Fault Refusal := s.spdmRow (.startInterfaceRequest m func nonce) m (respStart m func nonce)

def respStop (m : SpdmCtx) (func : Nat) (s : State) : Resp × State :=
  s.tdispAnswer (.stopInterfaceRequest m func) m func (fun s => (tdispResp 0x07 func [], s.tdiStop func))

/-- STOP_INTERFACE_REQUEST (R333). -/
def execStopInterfaceRequest (m : SpdmCtx) (func : Nat) (s : State) : Host.Outcome State Fault Refusal :=
  s.spdmRow (.stopInterfaceRequest m func) m (respStop m func)

def respTdispUnsupported (m : SpdmCtx) (func code : Nat) (s : State) : Resp × State :=
  s.pciAnswer (.tdispUnsupportedRequest m func code) m (fun s => (tdispError func tdispUnsupported code, s))

/-- TDISP_UNSUPPORTED_REQUEST (R332): the P2P binds, SET_MMIO_ATTRIBUTE_REQUEST, and any other. -/
def execTdispUnsupportedRequest (m : SpdmCtx) (func code : Nat) (s : State) : Host.Outcome State Fault Refusal :=
  s.spdmRow (.tdispUnsupportedRequest m func code) m (respTdispUnsupported m func code)

/-! ### IDE key delivery (R336) -/

/-- The stream ID is the function's own, or no function's; the function has no other stream (R335). -/
def State.streamFree (s : State) (func stream : Nat) : Bool :=
  ((s.tdi func).stream == none || (s.tdi func).stream == some stream)
    && !s.link.tdis.any (fun x => x.1 != func && x.2.stream == some stream)

/-- Take pool slots of TYPE 10 for the LDI, each with a key from the DRBG: the slots and keys, in order. -/
def State.ideKeys (s : State) (ldi : Nat) : Nat → List (Nat × Key) × State
  | 0 => ([], s)
  | n + 1 =>
    match s.freePoolSlot ldi with
    | some i =>
      let d := s.draw
      let key := keyOf (drawBytes d.1 32)
      let slot : KeySlot := { type := 10, ldi := ldi, gen := (s.dom ldi).gen, key := key }
      let r := (d.2.setSlot i slot).ideKeys ldi n
      ((i, key) :: r.1, r.2)
    | none => ([], s)

/-- One INSTALL record for each key; the last acknowledgement delivers the response. -/
def State.sendInstalls (s : State) (func stream keySet : Nat) (answer : Conn × Option Nat × Bytes) (ks : List (Nat × Key)) : State :=
  ((List.range ks.length).zip ks).foldl (fun s x =>
    s.kpSend
      { record := kpRecord func stream (kpCtl keySet x.1) kpInstall x.2.2
        done := .install (some x.2.1) (if x.1 + 1 == ks.length then some answer else none) }) s

/-- The VDM response: the vendor's identity, then the keys. -/
def vdmBody (integ func : Nat) (keys : Bytes) : Bytes := tdispBody 0x0B func (leBytes 1 0 ++ leBytes 1 2 ++ leBytes 2 integ ++ keys)

def respIdeKeys (m : SpdmCtx) (vendor func stream keySet : Nat) (s : State) : Resp × State :=
  s.tdispAnswer (.ideKeyDeliveryVdm m vendor func stream keySet) m func (fun s =>
    if vendor != s.otp.integId then (tdispError func tdispUnsupported 0x8B, s)
    else match s.funcActive func with
      | none => (tdispError func tdispInvalid, s)
      | some l =>
        if decide (255 < stream) || decide (1 < keySet) || !s.streamFree func stream then (tdispError func tdispInvalid, s)
        else if !s.drbgReady then (tdispError func tdispEntropy, s)
        else
          let k := s.ideKeys l 6
          if k.1.length < 6 then (tdispError func tdispBusy, s)
          else
            let body := vdmBody s.otp.integId func (k.1.flatMap (fun x => keyBytes x.2))
            let t := k.2.setTdi func { k.2.tdi func with stream := some stream }
            (.later (some body.length), t.sendInstalls func stream keySet (m.conn, m.session, body) k.1))

/-- IDE_KEY_DELIVERY_VDM (R336). -/
def execIdeKeyDeliveryVdm (m : SpdmCtx) (vendor func stream keySet : Nat) (s : State) : Host.Outcome State Fault Refusal :=
  s.spdmRow (.ideKeyDeliveryVdm m vendor func stream keySet) m (respIdeKeys m vendor func stream keySet)

/-! ### IDE_KM (R335) -/

/-- The IDE capability word: selective streams and IDE_KM, and neither link IDE, flow-through, partial header encryption,
aggregation nor PCRC; one stream for each function. -/
def ideCapability : Nat := 2 + 64

def respIdeQuery (m : SpdmCtx) (func : Nat) (s : State) : Resp × State :=
  s.pciAnswer (.ideKmQuery m func) m (fun s =>
    (.now 0x7E (pciBody 0x00 (leBytes 1 1 ++ leBytes 2 0 ++ leBytes 1 func ++ leBytes 3 0 ++ leBytes 4 ideCapability)), s))

/-- IDE_KM_QUERY (R335). -/
def execIdeKmQuery (m : SpdmCtx) (func : Nat) (s : State) : Host.Outcome State Fault Refusal :=
  s.spdmRow (.ideKmQuery m func) m (respIdeQuery m func)

def respKeyProg (m : SpdmCtx) (func stream keySet : Nat) (s : State) : Resp × State :=
  s.pciAnswer (.keyProg m func stream keySet) m (fun s =>
    (.now 0x7E (pciBody 0x00 (leBytes 1 3 ++ leBytes 2 0 ++ leBytes 1 stream ++ leBytes 1 0x03 ++ leBytes 1 keySet ++ leBytes 1 func)), s))

/-- KEY_PROG (R335): acknowledged with status 03h; nothing is installed. -/
def execKeyProg (m : SpdmCtx) (func stream keySet : Nat) (s : State) : Host.Outcome State Fault Refusal :=
  s.spdmRow (.keyProg m func stream keySet) m (respKeyProg m func stream keySet)

/-- K_GOSTOP_ACK. -/
def goStopBody (func stream keySet : Nat) : Bytes :=
  pciBody 0x00 (leBytes 1 6 ++ leBytes 2 0 ++ leBytes 1 stream ++ leBytes 1 0 ++ leBytes 1 keySet ++ leBytes 1 func)

/-- The six records of GO or STOP for a key set. -/
def State.sendGoStop (s : State) (m : SpdmCtx) (func stream keySet : Nat) (go : Bool) : State :=
  (List.range 6).foldl (fun s i =>
    s.kpSend
      { record := kpRecord func stream (kpCtl keySet i) (if go then kpGo else kpStop) 0
        done := .gostop func keySet go (if i == 5 then some (m.conn, m.session) else none) }) s

/-- GO and STOP name the function's stream and one of its two key sets. -/
def State.goStopOk (s : State) (func stream keySet : Nat) : Bool :=
  func != 0 && decide (keySet < 2) && (s.tdi func).stream == some stream

/-- A STOP is ordered: GO records of the set that are not acknowledged activate nothing any more. -/
def State.endGo (s : State) (func keySet : Nat) : State :=
  let quiet := fun (r : KpRec) => match r.done with
    | .gostop f k true last => if f == func && k == keySet then { r with done := .gostop f k false last } else r
    | _ => r
  { s with link := { s.link with kpOut := s.link.kpOut.map quiet, kpWait := s.link.kpWait.map quiet } }

def State.goStop (s : State) (m : SpdmCtx) (func stream keySet : Nat) (go : Bool) : Resp × State :=
  if s.goStopOk func stream keySet then
    let t := s.tdi func
    let s1 := if go then s else (s.setTdi func { t with active := t.active.filter (fun k => k != keySet) }).endGo func keySet
    (.later (some (goStopBody func stream keySet).length), s1.sendGoStop m func stream keySet go)
  else (spdmError errInvalid, s)

def respGo (m : SpdmCtx) (func stream keySet : Nat) (s : State) : Resp × State :=
  s.pciAnswer (.kSetGo m func stream keySet) m (fun s => s.goStop m func stream keySet true)

/-- K_SET_GO (R335). -/
def execKSetGo (m : SpdmCtx) (func stream keySet : Nat) (s : State) : Host.Outcome State Fault Refusal :=
  s.spdmRow (.kSetGo m func stream keySet) m (respGo m func stream keySet)

def respKStop (m : SpdmCtx) (func stream keySet : Nat) (s : State) : Resp × State :=
  s.pciAnswer (.kSetStop m func stream keySet) m (fun s => s.goStop m func stream keySet false)

/-- K_SET_STOP (R335). -/
def execKSetStop (m : SpdmCtx) (func stream keySet : Nat) (s : State) : Host.Outcome State Fault Refusal :=
  s.spdmRow (.kSetStop m func stream keySet) m (respKStop m func stream keySet)

/-! ### `KP_` (R333, R458) -/

/-- A response that waited for `KP_`: it goes to its session, while that lives. -/
def State.lateAnswer (s : State) (c : Conn) (session : Option Nat) (body : Bytes) : State :=
  if (session.map (fun sid => (s.spdm.sessions.find sid).isSome)).getD true then s.sendSpdm c session 0x7E body
  else if s.loom.journal.any (fun e => e.awaits c) then s.sendSpdm c session 0x7F (leBytes 1 errUnspecified ++ leBytes 1 0)
  else s

/-- The answer of a key delivery whose keys ended before `KP_` had acknowledged them: ERROR Unspecified. DESIGN CHOICE: R336 gives
none (notes/assumptions/38.md). -/
def State.lateError (s : State) (c : Conn) (session : Option Nat) : State :=
  let alive := (session.map (fun sid => (s.spdm.sessions.find sid).isSome)).getD true
  if alive || s.loom.journal.any (fun e => e.awaits c) then
    s.sendSpdm c (if alive then session else none) 0x7F (leBytes 1 errUnspecified ++ leBytes 1 0)
  else s

/-- What the acknowledgement of a record completes. -/
def State.kpDone (s : State) (r : KpRec) : State :=
  match r.done with
  | .none => s
  | .install slot last =>
    let s1 := match slot with | some i => s.clearSlot i | none => s
    match last with
    | some (c, sid, body) => if body.isEmpty then s1.lateError c sid else s1.lateAnswer c sid body
    | none => s1
  | .gostop func keySet go last =>
    match last with
    | some (c, sid) =>
      let t := s.tdi func
      let s1 := if go then s.setTdi func { t with active := t.active.filter (fun k => k != keySet) ++ [keySet] } else s
      s1.lateAnswer c sid (goStopBody func (r.record.toNat / 2 ^ 8 % 256) keySet)
    | none => s

/-- The next record that waits takes the place; one whose key has ended only completes. -/
def State.kpNextOf (s : State) : List KpRec → State
  | [] => { s with link := { s.link with kpWait := [] } }
  | r :: rs =>
    if r.gone then (s.kpDone r).kpNextOf rs else ({ s with link := { s.link with kpWait := rs } }).kpSend r

def State.kpNext (s : State) : State := s.kpNextOf s.link.kpWait

/-- KP_ACK (R458): the oldest record is acknowledged. -/
def execKpAck (s : State) : Host.Outcome State Fault Refusal :=
  match s.link.kpOut with
  | [] => .next s
  | r :: rs => nextIf s.released s (({ s with link := { s.link with kpOut := rs } }.kpDone r).kpNext)

/-- The events of R333 concern functions 1 to 63. -/
def State.kpEvent (s : State) (func : Nat) : Bool := s.takesInput && func != 0 && decide (func < 64)

/-- KP_FLR (R333): as STOP. -/
def execKpFlr (func : Nat) (s : State) : Host.Outcome State Fault Refusal := nextIf (s.kpEvent func) s (s.tdiStop func)

/-- KP_LOCKED_CONFIG_WRITE (R333). -/
def execKpLockedConfigWrite (func : Nat) (s : State) : Host.Outcome State Fault Refusal :=
  nextIf (s.kpEvent func) s (s.tdiError func)

/-- The domain integrity event of R333: the spec gives its record no TYPE and no payload, so both are free. -/
def State.ideIntegrity (s : State) (ldi : Nat) : State :=
  let n := s.freeCount
  let s := { s with freeCount := n + 1 }.record (Config.freeNat n % 2 ^ 12) (Config.freeBytes n 48)
  let s := (s.raiseInteg ldi).bumpDom ldi 8
  if (s.dom ldi).integReport then s else (s.abort ldi 0x03 true).endSpent

/-- KP_IDE_INTEGRITY_FAILURE (R333). -/
def execKpIdeIntegrityFailure (func : Nat) (s : State) : Host.Outcome State Fault Refusal :=
  let st := (s.tdi func).state
  let s1 := s.tdiError func
  nextIf (s.kpEvent func && (st == .locked || st == .run)) s
    (match s.funcLdi func with
    | some l => s1.ideIntegrity l
    | none => s1)

end Sys2Proof.Machine
end

