-- ==== Sys2Proof/Machine/Responder.lean ====
section
/-!
DEFINITION. SPDM chunks, `ATT_SESSION_OPEN`, and the MCTP endpoint (spec/10_attestation.md R207, spec/14_commands_services.md
R300, spec/21_ports.md R456).
-/
namespace Sys2Proof.Machine

/-- The connection, version and session of an SPDM request that is not a chunk. -/
def requestCtx : Instr → Option SpdmCtx
  | .getVersion m | .getCapabilities m | .negotiateAlgorithms m _ | .getDigests m | .getCertificate m _ _ _ | .challenge m _ _
  | .getMeasurements m _ _ _ _ | .keyExchange m _ | .finish m _ _ | .getEncapsulatedRequest m _
  | .deliverEncapsulatedResponse m _ _ | .heartbeat m | .keyUpdate m _ | .endSession m | .vendorDefinedRequest m _ _ _
  | .spdmUnsupportedRequest m _ | .getTdispVersion m _ | .getTdispCapabilities m _ | .lockInterfaceRequest m _
  | .getDeviceInterfaceReport m _ | .getDeviceInterfaceState m _ | .startInterfaceRequest m _ _ | .stopInterfaceRequest m _
  | .ideKeyDeliveryVdm m _ _ _ _ | .tdispUnsupportedRequest m _ _ | .ideKmQuery m _ | .keyProg m _ _ _ | .kSetGo m _ _ _
  | .kSetStop m _ _ _ => some m
  | _ => none

/-- The same for a chunk too. -/
def anyCtx : Instr → Option SpdmCtx
  | .chunkSend m _ _ _ _ | .chunkGet m _ _ => some m
  | i => requestCtx i

/-- The answer to such a request. -/
def respond (i : Instr) (s : State) : Resp × State :=
  match i with
  | .getVersion m => respVersion m s
  | .getCapabilities m => respCapabilities m s
  | .negotiateAlgorithms m o => respAlgorithms m o s
  | .getDigests m => respDigests m s
  | .getCertificate m slot off len => respCertificate m slot off len s
  | .challenge m slot nonce => respChallenge m slot nonce s
  | .getMeasurements m slot ix sg nonce => respMeasurements m slot ix sg nonce s
  | .keyExchange m k => respKeyExchange m k s
  | .finish m sid proof => respFinish m sid proof s
  | .getEncapsulatedRequest m sid => respEncapRequest m sid s
  | .deliverEncapsulatedResponse m sid chain => respDeliver m sid chain s
  | .heartbeat m => respHeartbeat m s
  | .keyUpdate m op => respKeyUpdate m op s
  | .endSession m => respEndSession m s
  | .vendorDefinedRequest m std vendor body => respVendor m std vendor body s
  | .spdmUnsupportedRequest m code => respUnsupported m code s
  | .getTdispVersion m f => respTdispVersion m f s
  | .getTdispCapabilities m f => respTdispCapabilities m f s
  | .lockInterfaceRequest m f => respLock m f s
  | .getDeviceInterfaceReport m f => respReport m f s
  | .getDeviceInterfaceState m f => respState m f s
  | .startInterfaceRequest m f nonce => respStart m f nonce s
  | .stopInterfaceRequest m f => respStop m f s
  | .ideKeyDeliveryVdm m v f st ks => respIdeKeys m v f st ks s
  | .tdispUnsupportedRequest m f code => respTdispUnsupported m f code s
  | .ideKmQuery m f => respIdeQuery m f s
  | .keyProg m f st ks => respKeyProg m f st ks s
  | .kSetGo m f st ks => respGo m f st ks s
  | .kSetStop m f st ks => respKStop m f st ks s
  | _ => (spdmError errInvalid, s)

/-! ### Chunks (R207) -/

/-- The largest SPDM message that the block assembles: what one `ATT_SESSION_OPEN` can hold. -/
def largestMessage : Nat := 65536

/-- The acknowledgement of the last chunk carries the response to the whole message. -/
def chunkAck (handle seq : Nat) (response : Bytes) : Resp := spdmResp 0x05 0 (handle % 256) (leBytes 2 seq ++ response)

/-- What brought a message, without its record: a large message has none of its own. -/
def bareCtx (m : SpdmCtx) : SpdmCtx := { m with secured := [] }

/-- The whole message is answered; with a later response, the acknowledgement itself carries none. -/
def State.answerLarge (s : State) (m : SpdmCtx) (handle seq : Nat) (msg : Bytes) : Resp × State :=
  match Config.spdmParse m.conn m.session msg with
  | some i =>
    if (requestCtx i).map bareCtx == some (bareCtx m) then
      let r := respond i s
      match r.1 with
      | .now code body =>
        let f := r.2.fitSpdm m.conn code body
        (chunkAck handle seq (Config.spdmEncode f.1.1 f.1.2), f.2)
      | .noEntropy => r
      | .later _ => (chunkAck handle seq [], r.2)
    else (spdmError errInvalid, s)
  | none => (spdmError errInvalid, s)

def respChunkSend (m : SpdmCtx) (handle seq : Nat) (last : Bool) (chunk : Bytes) (s : State) : Resp × State :=
  s.answerSpdm (.chunkSend m handle seq last chunk) m false .chunked (fun s =>
    let x := s.spdmConn m.conn
    let held := if seq == 0 then some [] else match x.chunkIn with
      | some (h, n, b) => if h == handle && n == seq then some b else none
      | none => none
    match held with
    | none => (spdmError errInvalid, s.setConn m.conn { x with chunkIn := none })
    | some b =>
      let msg := b ++ chunk
      if largestMessage < msg.length then (spdmError errInvalid, s.setConn m.conn { x with chunkIn := none })
      else if last then (s.setConn m.conn { x with chunkIn := none }).answerLarge m handle seq msg
      else (chunkAck handle seq [], s.setConn m.conn { x with chunkIn := some (handle, seq + 1, msg) }))

/-- CHUNK_SEND (R207). -/
def execChunkSend (m : SpdmCtx) (handle seq : Nat) (last : Bool) (chunk : Bytes) (s : State) :
    Host.Outcome State Fault Refusal := s.spdmRow (.chunkSend m handle seq last chunk) m (respChunkSend m handle seq last chunk)

/-- Bytes of a large response that one CHUNK_RESPONSE carries. -/
def chunkPiece : Nat := 1008

def respChunkGet (m : SpdmCtx) (handle seq : Nat) (s : State) : Resp × State :=
  s.answerSpdm (.chunkGet m handle seq) m false .chunked (fun s =>
    let x := s.spdmConn m.conn
    match x.chunkOut with
    | some (h, n, b) =>
      if h == handle && n == seq then
        let piece := b.take chunkPiece
        let rest := b.drop chunkPiece
        let total := if seq == 0 then leBytes 4 b.length else []
        (spdmResp 0x06 (bit rest.isEmpty 0) h (leBytes 2 seq ++ leBytes 2 0 ++ leBytes 4 piece.length ++ total ++ piece),
          s.setConn m.conn { x with chunkOut := if rest.isEmpty then none else some (h, n + 1, rest) })
      else (spdmError errInvalid, s)
    | none => (spdmError errInvalid, s))

/-- CHUNK_GET (R207). -/
def execChunkGet (m : SpdmCtx) (handle seq : Nat) (s : State) : Host.Outcome State Fault Refusal :=
  s.spdmRow (.chunkGet m handle seq) m (respChunkGet m handle seq)

/-! ### ATT_SESSION_OPEN (R251, R300) -/

/-- The entries of the command reference but for `ATT_SESSION_OPEN`, which no session carries. -/
def blockSpecs : List CmdSpec :=
  [domCreateSpec, domSetPolicySpec, domAddContextSpec, domReleaseContextSpec, domSealSpec, domQuiesceSpec, domAbortSpec,
   domRetireSpec, domQuerySpec, memAssignSpec, memReleaseSpec, memScrubSpec, memQuerySpec, memImportBlobSpec,
   memFingerprintSpec, memDigestSpec, cmpBindSliceSpec, cmpUnbindSliceSpec, cmpRebindPrepareSpec, cmpRebindCommitSpec,
   redWindowOpenSpec, redWindowCloseSpec, redWindowQuerySpec, arrAllocSpec, arrFreeSpec, fenCreateSpec,
   fenRegisterProducerSpec, fenDestroySpec] ++
  [lnkPortClassSpec, lnkSaWarmSpec, lnkSaQuerySpec, lnkGroupCreateSpec, keyEphemeralGetSpec, keyWeightInstallSpec,
   keyWeightDropSpec, attReportSpec, mtrReadSpec, mtrAckSpec, timStatusSpec, timSetServoSpec,
   timOffsetMeasureSpec, dbgCertPresentSpec, dbgRevokeSpec, dbgHaltSpec, dbgResumeSpec, prfFreezeAtSpec, prfReadSpec,
   trcConfigSpec, trcMarkSpec, trcReadSpec, lcsQuerySpec, lcsTransitionSpec, lcsTokenUnlockSpec, lcsZeroizeSpec,
   migFreezeSpec, migExportSpec, migImportSpec, migThawSpec, spnStreamOpenSpec, spnStreamCloseSpec, snsStatusSpec,
   snsCalWindowSpec, rcvLogReadSpec, rcvLogClearSpec, rcvDumpReadSpec]

/-- The request in the buffer of `ATT_SESSION_OPEN`, when it is one of the ring's connection: its session and record with it. -/
def Cmd.request (c : Cmd) : Option Instr :=
  match c.path with
  | .ring r =>
    match Config.spdmParse (.host r) none c.params with
    | some i =>
      if (anyCtx i).map (·.conn) == some (.host r) then some i else none
    | none => none
  | _ => none

/-- The session that carries it. -/
def Cmd.session (c : Cmd) : Option Nat := (c.request.bind anyCtx).bind (·.session)

/-- Its answer, and the session that carries the answer. What is no request of the connection, or no message of its session, is
answered outside sessions with ERROR InvalidRequest. -/
def State.openAnswer (s : State) (c : Cmd) : Resp × Option Nat × State :=
  match c.request.bind (fun i => (anyCtx i).bind (fun m => (s.takeSpdm i m).map (fun t => (i, t)))) with
  | some (i, t) =>
    let r := match i with
      | .chunkSend m h n l b => respChunkSend m h n l b t
      | .chunkGet m h n => respChunkGet m h n t
      | _ => respond i t
    (r.1, c.session, r.2)
  | none => (spdmError errInvalid, none, s)

/-- KEY_EXCHANGE, FINISH and END_SESSION are journaled. -/
def openJournaled (c : Cmd) : Bool :=
  match c.request with
  | some (.keyExchange _ _) | some (.finish _ _ _) | some (.endSession _) => true
  | _ => false

/-- The most bytes that the reply of a session's command takes: its extended reply, where its buffer has room for one. -/
def State.tenantReply (s : State) (sid : Nat) (body : Bytes) : Nat :=
  let c : Cmd := { path := .session sid, cls := s.pathClass (.session sid), hdr := padTo 256 body, buffer := body.drop 256 }
  match blockSpecs.find? (fun sp => sp.opcode == c.opcode) with
  | some sp => 64 + (match sp.ext s c with | some n => if c.rbuf && decide (n ≤ c.room) then n else 0 | none => 0)
  | none => 64

/-- The bytes of a response in its session or outside. -/
def wireLength (session : Option Nat) (code : Nat) (body : Bytes) : Nat :=
  (Config.spdmEncode code body).length + (if session.isSome then recordOverhead else 0)

/-- The parameters let the request be read (R300). -/
def Cmd.carriesSpdm (c : Cmd) : Bool := c.pbuf && c.rbuf && decide (4 ≤ c.plen) && decide (c.plen ≤ 65536)

/-- Bytes of the response, known before the request takes effect (R251). -/
def openExt (s : State) (c : Cmd) : Option Nat :=
  if !c.carriesSpdm || s.attestStatus != stOk then none
  else
    let r := s.openAnswer c
    match r.1 with
    | .now code body => some (wireLength r.2.1 code body)
    | .later (some n) => some (wireLength r.2.1 0x7E (List.replicate n 0))
    | .later none => match c.request with
      | some (.vendorDefinedRequest m _ _ body) =>
        some (wireLength r.2.1 0x7E (List.replicate (s.tenantReply (m.session.getD 0) body) 0))
      | _ => none
    | _ => none

def sessionOpenBody (s : State) (c : Cmd) : Res :=
  if !c.carriesSpdm then .fail stBadParam
  else if s.attestStatus != stOk then .fail s.attestStatus
  else if !c.path.isRing then .fail stDenied
  else
    let r := s.openAnswer c
    match r.1 with
    | .now code body => let w := r.2.2.wireSpdm r.2.1 code body; .ok w.2 [] w.1
    | .later _ => .wait .answer (.spdm []) r.2.2
    | .noEntropy => .fail stState

def attSessionOpenSpec : CmdSpec :=
  { opcode := 0x0502, perm := permOpen, ldiOk := ldiZero, journaled := openJournaled, len := fun p => p.length
    ext := openExt, body := sessionOpenBody, after := endSpentAfter }

/-- ATT_SESSION_OPEN (R300): one SPDM request in, its response in the extended reply. -/
def execAttSessionOpen (src : Src) (s : State) : Host.Outcome State Fault Refusal := .next (s.runSrc attSessionOpenSpec src)

/-! ### The MCTP endpoint (R456) -/

/-- An MCTP control response: instance and command, completion code, and what follows. -/
def State.answerCtl (s : State) (command completion : Nat) (rest : Bytes) : State :=
  s.sendMctp 0x00 (leBytes 1 0 ++ leBytes 1 command ++ leBytes 1 completion ++ rest)

/-- Loom runs the endpoint. -/
def State.mctpUp (s : State) : Bool := s.loomUp && !s.loom.halting

/-- SET_ENDPOINT_ID (R456): the null and the broadcast EID are refused as invalid data. -/
def execSetEndpointId (eid : Nat) (s : State) : Host.Outcome State Fault Refusal :=
  nextIf s.mctpUp s
    (if eid == 0 || eid == 0xFF then s.answerCtl 0x01 0x02 []
    else ({ s with link := { s.link with eid := eid } }).answerCtl 0x01 0x00 (leBytes 1 0 ++ leBytes 1 eid ++ leBytes 1 0))

/-- GET_ENDPOINT_ID (R456): a simple endpoint with a dynamic EID. -/
def execGetEndpointId (s : State) : Host.Outcome State Fault Refusal :=
  nextIf s.mctpUp s (s.answerCtl 0x02 0x00 (leBytes 1 s.link.eid ++ leBytes 1 0 ++ leBytes 1 0))

/-- GET_MCTP_VERSION_SUPPORT (R456): DSP0236 1.3, as one version entry: the bytes F1, F3, FF, 00. -/
def execGetMctpVersionSupport (s : State) : Host.Outcome State Fault Refusal :=
  nextIf s.mctpUp s (s.answerCtl 0x04 0x00 (leBytes 1 1 ++ leBytes 4 0x00FFF3F1))

/-- GET_MESSAGE_TYPE_SUPPORT (R456): SPDM, secured messages, vendor-defined PCI. -/
def execGetMessageTypeSupport (s : State) : Host.Outcome State Fault Refusal :=
  nextIf s.mctpUp s (s.answerCtl 0x05 0x00 (leBytes 1 3 ++ leBytes 1 0x05 ++ leBytes 1 0x06 ++ leBytes 1 0x7E))

/-- The MGMT ring as its endpoint writes it: the slot, the parameters in the buffer, and TAIL. -/
def State.mgmtWrite (s : State) (body : Bytes) : State :=
  let r := s.ring 68
  let base := partOffset 68
  let slot := body.take 256
  let c : Cmd := { hdr := slot }
  let room := partBuffer 68 - min c.bufOff (partBuffer 68)
  let s1 := s.mboxWrite (base + 256 * (r.tail % 16)) slot
  let s2 := if c.pbuf then s1.mboxWrite (base + 0x1400 + c.bufOff) ((body.drop 256).take room) else s1
  s2.setRing 68 { r with tail := (r.tail + 1) % 2 ^ 32 }

/-- The MGMT ring takes commands: Loom or, in RAW, the ROM fetches them, or the debug controller looks for `DBG_RESUME`. -/
def State.mgmtUp (s : State) : Bool :=
  s.loomUp && s.loom.ringsOpen || s.romServes || s.clocked && s.loom.halted && !s.loom.restarting && !s.power.fatal

/-- MCTP message types with rows of their own: control, SPDM and secured messages. -/
def mctpNamed (type : Nat) : Bool := type == 0x00 || type == 0x05 || type == 0x06

/-- A vendor message is a MGMT command slot with at most 65,536 bytes of parameters. -/
def State.mctpSlot (s : State) (type vendor cmdSet : Nat) (body : Bytes) : Bool :=
  type == 0x7E && vendor == s.otp.integId && cmdSet == 1 && decide (256 ≤ body.length) && decide (body.length ≤ 65792)

/-- The MGMT ring has a free slot. -/
def State.mgmtRoom (s : State) : Bool := decide (((s.ring 68).tail + 1 + 2 ^ 32 - (s.ring 68).reply) % 2 ^ 32 ≤ 16)

/-- MCTP_VENDOR_COMMAND (R456): a MGMT command slot, while the ring has a free slot. A message of a type that has no row is this one:
it is dropped and counted, and so is a vendor message that is no such slot (notes/assumptions/23.md). -/
def execMctpVendorCommand (type vendor cmdSet : Nat) (body : Bytes) (s : State) : Host.Outcome State Fault Refusal :=
  if s.mctpSlot type vendor cmdSet body then
    nextIf (s.mgmtUp && s.mgmtRoom) s ((s.mgmtWrite body).drainTurns)
  else nextIf (s.takesInput && !mctpNamed type) s s.countDropped

end Sys2Proof.Machine
end

