-- ==== Sys2Proof/Machine/Registers.lean ====
section
/-!
DEFINITION. The register map: writes on the register paths, and what the debug port reads (spec/22_registers.md,
spec/21_ports.md R451, R459).
-/
namespace Sys2Proof.Machine

/-! ### Reach (R451, R461) -/

/-- An offset is one of ring i's registers; of its partition. -/
def ringRegs (i a : Nat) : Bool := decide (0x2000 + 0x20 * i ≤ a) && decide (a < 0x2020 + 0x20 * i)
def ringPart (i a : Nat) : Bool := decide (0x200000 + partOffset i ≤ a) && decide (a < 0x200000 + partOffset i + partSize i)
def ringPlace (i a : Nat) : Bool := ringRegs i a || ringPart i a

/-- The ring that a register offset or a mailbox offset belongs to. -/
def ringAt (a : Nat) : Option Nat := (List.range 70).find? (fun i => ringPlace i a)

/-- Function 0 reaches the map but for the places of other requesters' rings. -/
def funcZero (a : Nat) : Bool :=
  match ringAt a with
  | some i => i == 0 || i == 68
  | none => true

/-- DBG_ACCESS reaches identity, status, Barometer, the debug window, and the DEBUG ring (R459). -/
def dbgReach (a : Nat) : Bool :=
  decide (a < 0x2000) || (decide (0x5000 ≤ a) && decide (a < 0x6000))
    || (decide (0x100000 ≤ a) && decide (a < 0x200000)) || ringPlace 69 a

/-- The map offset that an access reaches, or none for a reserved location. -/
def pathTarget (p : RegPath) (addr : Nat) : Option Nat :=
  let a := addr / 8 * 8
  match p with
  | .func _ true => none
  | .func 0 false => if funcZero a then some a else none
  | .func n false =>
    if a < 0x20 then some (0x2000 + 0x20 * n + a)
    else if decide (0x1000 ≤ a) && decide (a < 0x7000) then some (0x200000 + partOffset n + (a - 0x1000))
    else none
  | .hcp => if (List.range 4).any (fun k => ringPlace (64 + k) a) then some a else none
  | .dbg => if dbgReach a then some a else none

/-! ### Rows of the table by offset -/

/-- What a write of a map offset is. -/
inductive RegKind
  | tail (ring : Nat)
  | evt (ring : Nat)
  | evStatus
  | evEnable
  | evMap (abort : Bool) (k : Nat)
  | devid
  | clock
  | snap
  | coreReg (off : Nat)
  | arrSel
  | mailbox (off : Nat)
  | other
  deriving DecidableEq, Repr

def regKind (a : Nat) : RegKind :=
  if decide (0x2000 ≤ a) && decide (a < 0x28C0) then
    let i := (a - 0x2000) / 0x20
    if a % 0x20 == 0 then .tail i else if a % 0x20 == 0x18 then .evt i else .other
  else if a == 0x3000 then .evStatus
  else if a == 0x3008 then .evEnable
  else if decide (0x3010 ≤ a) && decide (a < 0x3030) then .evMap false ((a - 0x3010) / 8)
  else if decide (0x3030 ≤ a) && decide (a < 0x3050) then .evMap true ((a - 0x3030) / 8)
  else if a == 0x0010 then .devid
  else if a == 0x1010 then .clock
  else if a == 0x4000 then .snap
  else if decide (0x101000 ≤ a) && decide (a < 0x102000) then .coreReg (a - 0x101000)
  else if a == 0x102000 then .arrSel
  else if 0x200000 ≤ a then .mailbox (a - 0x200000)
  else .other

def writeKind (w : RegWrite) : Option RegKind := (pathTarget w.path w.addr).map regKind

/-- The bits that the strobes select. -/
def strobeMask (strb : BitVec 8) : BitVec 64 :=
  BitVec.ofNat 64 (((List.range 8).map (fun i => if strb.getLsbD i then 255 * 2 ^ (8 * i) else 0)).foldl (· + ·) 0)

def writeMask (w : RegWrite) : BitVec 64 := strobeMask w.strb

/-- The bits that a W1C write clears. -/
def writeClears (w : RegWrite) : BitVec 64 := w.data &&& (writeMask w)

/-- A register after a write of the strobed bytes. -/
def writeOnto (w : RegWrite) (old : Nat) : Nat :=
  (((BitVec.ofNat 64 old) &&& ~~~(writeMask w)) ||| (writeClears w)).toNat

/-- DBG_ACCESS is available: after the decode of R346, outside SCRAP. -/
def State.dbgAvailable (s : State) : Bool := s.clocked && s.decoded && s.otp.lcs != lcsScrap

/-- A register path takes an access: DBG_ACCESS where it is available, the others with the ports (R395, R459). -/
def State.takesOn (s : State) : RegPath → Bool
  | .dbg => s.dbgAvailable
  | _ => s.takesInput

/-- Answer an access on its path (R436, R451): the register port with its response, DBG_ACCESS with its data register. -/
def State.answerOn (s : State) (p : RegPath) (v : BitVec 64) : State :=
  match p with
  | .dbg => s.emit (.dbgRsp v)
  | _ => s.emit (.cpRsp v)

/-- A write as its path sees it: its effect, then its response, which carries zero. -/
def State.answered (s : State) (w : RegWrite) : State := s.answerOn w.path 0

/-- Count an access that the spec counts as refused or ignored. -/
def State.countRefused (s : State) : State := { s with counters := { s.counters with refused := s.counters.refused + 1 } }

/-- Only the MCTP endpoint writes the MGMT ring (R461). -/
def writesMgmt (w : RegWrite) : Bool := match pathTarget w.path w.addr with | some a => ringPlace 68 a | none => false

/-! ### Ring registers (R454, R464, R467, R468) -/

/-- Doorbells are held while RINGS_OPEN is 0 (R464): but not where the ROM, or the debug controller, serves the ring. -/
def State.holdsTail (s : State) (i : Nat) : Bool :=
  if s.loom.restarting then true
  else if s.loom.halted then i != 69
  else !s.loom.ringsOpen && !(s.romServes && i == 69)

def State.tailWrite (s : State) (w : RegWrite) (i : Nat) : State :=
  if writesMgmt w then s.countRefused
  else if (writeMask w).toNat % 2 ^ 32 == 0 then s
  else
    let v := writeOnto w (s.ring i).tail % 2 ^ 32
    if s.holdsTail i then s.setRing i { s.ring i with heldTail := some v }
    else (s.applyTail i v).drainTurns

/-- RING_TAIL_WRITE (R467, R468). -/
def execRingTailWrite (w : RegWrite) (s : State) : Host.Outcome State Fault Refusal :=
  match writeKind w with
  | some (.tail i) => nextIf (s.takesOn w.path) s ((s.tailWrite w i).answered w)
  | _ => .next s

/-- EVT and BADTAIL of a ring. -/
def State.evtWrite (s : State) (w : RegWrite) (i : Nat) : State :=
  if writesMgmt w then s.countRefused
  else
    let r := s.ring i
    s.setRing i { r with evt := r.evt && !(writeClears w).getLsbD 32, badTail := r.badTail && !(writeClears w).getLsbD 33 }

/-- RING_EVT_CLEAR (R454). -/
def execRingEvtClear (w : RegWrite) (s : State) : Host.Outcome State Fault Refusal :=
  match writeKind w with
  | some (.evt i) => nextIf (s.takesOn w.path) s ((s.evtWrite w i).answered w)
  | _ => .next s

/-! ### Events (R469, R470) -/

def State.evStatusWrite (s : State) (w : RegWrite) : State :=
  { s with events := { s.events with status := s.events.status &&& ~~~((writeClears w).setWidth 13) } }

/-- EV_STATUS_CLEAR (R469). -/
def execEvStatusClear (w : RegWrite) (s : State) : Host.Outcome State Fault Refusal :=
  match writeKind w with
  | some .evStatus => nextIf (s.takesOn w.path) s ((s.evStatusWrite w).answered w)
  | _ => .next s

/-- Map register k of the integrity or the abort events. -/
def State.evMapWrite (s : State) (w : RegWrite) (abort : Bool) (k : Nat) : State :=
  let gone : BitVec 256 := ((writeClears w).setWidth 256) <<< (64 * k)
  { s with events :=
    if abort then { s.events with abort := s.events.abort &&& ~~~gone }
    else { s.events with integ := s.events.integ &&& ~~~gone } }

/-- EV_MAP_CLEAR (R469). -/
def execEvMapClear (w : RegWrite) (s : State) : Host.Outcome State Fault Refusal :=
  match writeKind w with
  | some (.evMap abort k) => nextIf (s.takesOn w.path) s ((s.evMapWrite w abort k).answered w)
  | _ => .next s

def State.evEnableWrite (s : State) (w : RegWrite) : State :=
  { s with events := { s.events with enable := BitVec.ofNat 13 (writeOnto w s.events.enable.toNat) } }

/-- EV_ENABLE_WRITE (R470). -/
def execEvEnableWrite (w : RegWrite) (s : State) : Host.Outcome State Fault Refusal :=
  match writeKind w with
  | some .evEnable => nextIf (s.takesOn w.path) s ((s.evEnableWrite w).answered w)
  | _ => .next s

/-- `EV_DEV` (R454, R470). -/
def State.evDev (s : State) : Bool := (s.events.status &&& s.events.enable) != 0

/-- `EV_RING[i]` (R454), and the levels `EV_FATAL` (R395) and `PW_HOLD` (R378). -/
def State.evRing (s : State) (i : Nat) : Bool := (s.ring i).evt
def State.evFatal (s : State) : Bool := s.power.fatal
def State.pwHold (s : State) : Bool := s.power.hold

/-- `FP_SPARE_SEL` of Shuttle spare k (R444): the port served, and active. -/
def State.fpSpareSel (s : State) (k : Nat) : Nat :=
  match s.shuttle.spares.find k with
  | some n => n % 32 + 32
  | none => 0

/-! ### Identity and status (R463, R466) -/

/-- A write of DEVID. -/
def State.devidWrite (s : State) (w : RegWrite) : State :=
  let v := writeOnto w s.boot.devid % 65536
  if (writeMask w).toNat % 65536 == 0 then s
  else if s.boot.devidSet || v == 0xFFFF then s.countRefused
  else { s with boot := { s.boot with devid := v, devidSet := true } }

def State.clockWrite (s : State) (w : RegWrite) : State :=
  let fault := s.power.crossFault && !(writeClears w).getLsbD 2
  { s with power := { s.power with
    rootLost := s.power.rootLost && !(writeClears w).getLsbD 1
    crossFault := fault
    faultInst := if (writeClears w).getLsbD 2 then 0 else s.power.faultInst } }

/-- CLOCK_STATUS_CLEAR (R466): FAULT_INSTANCE goes with CROSSING_FAULT (DEDUCED, notes/assumptions/47.md). -/
def execClockStatusClear (w : RegWrite) (s : State) : Host.Outcome State Fault Refusal :=
  match writeKind w with
  | some .clock => nextIf (s.takesOn w.path) s ((s.clockWrite w).answered w)
  | _ => .next s

/-! ### Time snapshot (R471) -/

def State.snapWrite (s : State) (w : RegWrite) : State :=
  if (writeClears w).getLsbD 0 then
    { s with time := { s.time with
      snapTime := s.time12, snapFree := s.now, snapState := s.time.state.code, snapK := s.time.k
      snapSeq := (s.time.snapSeq + 1) % 2 ^ 32 } }
  else s

/-- TIM_SNAP_CAPTURE (R471). -/
def execTimSnapCapture (w : RegWrite) (s : State) : Host.Outcome State Fault Refusal :=
  match writeKind w with
  | some .snap => nextIf (s.takesOn w.path) s ((s.snapWrite w).answered w)
  | _ => .next s

/-! ### Debug window (R431, R475) -/

def rightWindow : Nat := 3
def rightCore : Nat := 4

/-- The register file is open: CORE_ACCESS, while the cores are halted. -/
def State.coreOpen (s : State) : Bool := s.right rightCore && s.loom.halted

/-- A core register, while halted: as written since, or its free value at the halt. -/
def State.coreWord (s : State) (off : Nat) : BitVec 64 :=
  match s.loom.coreRegs.find off with
  | some v => v
  | none => Config.coreWord (2 ^ 65 + s.loom.haltDraw * 2 ^ 12 + off)

def State.coreRegWrite (s : State) (w : RegWrite) (off : Nat) : State :=
  if !s.right rightCore then s.countRefused
  else if !s.loom.halted then s
  else
    let v := BitVec.ofNat 64 (writeOnto w (s.coreWord off).toNat)
    { s with loom := { s.loom with coreRegs := s.loom.coreRegs.put off v } }

/-- DBG_CORE_REG_WRITE (R431): the write goes to both cores. -/
def execDbgCoreRegWrite (w : RegWrite) (s : State) : Host.Outcome State Fault Refusal :=
  match writeKind w with
  | some (.coreReg off) => nextIf (s.takesOn w.path) s ((s.coreRegWrite w off).answered w)
  | _ => .next s

def State.arrSelWrite (s : State) (w : RegWrite) : State :=
  if !s.right rightArray then s.countRefused
  else
    let v := writeOnto w (s.loom.arrStore + s.loom.arrWord * 2 ^ 16)
    { s with loom := { s.loom with arrStore := v % 256, arrWord := v / 2 ^ 16 % 2 ^ 32 } }

/-- The 64-bit words of a store of R383, by the sizes of the SRAM budget (R27). Stores 2, 4 and 5 hold tables whose sizes or places
the spec does not give: a free value (notes/assumptions/48.md). -/
def Build.storeWords (b : Build) (store : Nat) : Nat :=
  match store with
  | 1 => 8 * 2 ^ 20 / 8
  | 3 => 256 * 2 ^ 10 / 8
  | 6 => 65536 * 128 / 8
  | 7 => (b.engines + 2) * (64 * 2 ^ 10) / 8
  | 8 => 256 * 2 ^ 10 / 8
  | 9 => (16 * 2 ^ 20 + 64 * 32 + (2048 + 16 * 255) * 8 + 1024 * 64 + 2 ^ 20) / 8
  | _ => Config.arrayWords store

/-- The selected word, and zero outside the listed stores and their words: of firmware SRAM the image (R482), of the SA table its
entries (R104). The spec gives no other store's words their places: a free value for each read. -/
def State.arrData (s : State) : BitVec 64 :=
  let st := s.loom.arrStore
  let w := s.loom.arrWord
  if decide (1 ≤ st) && decide (st ≤ 9) && decide (w < s.build.storeWords st) then
    match st with
    | 1 => BitVec.ofNat 64 (fieldAt s.boot.image (8 * w) 8)
    | 6 => BitVec.ofNat 64 (fieldAt (s.saEntry (w / 16)) (8 * (w % 16)) 8)
    | _ => Config.arrayWord s.freeCount st w
  else 0

/-- The state when `DBG_ARR_DATA` has been read. -/
def State.arrAdvance (s : State) : State :=
  { s with freeCount := s.freeCount + 1, loom := { s.loom with arrWord := (s.loom.arrWord + 1) % 2 ^ 32 } }

/-- A read of `DBG_ARR_DATA`: its data, and the state after it. -/
def State.arrRead (s : State) : BitVec 64 × State :=
  if s.right rightArray then (s.arrData, s.arrAdvance) else (0, s.countRefused)

/-! ### Mailbox window, and every other write (R8, R476) -/

/-- The data bytes that the strobes select. -/
def writtenBytes (w : RegWrite) : List (Nat × Byte) :=
  (List.range 8).filterMap (fun i => if w.strb.getLsbD i then some (i, BitVec.ofNat 8 (w.data.toNat / 2 ^ (8 * i))) else none)

/-- A mailbox offset takes writes: command slots and buffer areas, not the reply slots or the reserved range. -/
def mailboxWritable (off : Nat) : Bool :=
  match (List.range 70).find? (fun i => decide (partOffset i ≤ off) && decide (off < partOffset i + partSize i)) with
  | some i => decide (off - partOffset i < 0x1000) || decide (0x1400 ≤ off - partOffset i)
  | none => false

def State.mailboxWrite (s : State) (w : RegWrite) (off : Nat) : State :=
  if mailboxWritable off then (writtenBytes w).foldl (fun s b => s.mboxWrite (off + b.1) [b.2]) s else s

/-- An access to the debug window that no open right covers (R475). -/
def State.debugDenied (s : State) (a : Nat) : Bool :=
  (decide (0x100008 ≤ a) && decide (a ≤ 0x100010) && !s.right rightWindow)
    || (decide (0x101000 ≤ a) && decide (a < 0x102000) && !s.right rightCore)
    || (decide (0x102000 ≤ a) && decide (a ≤ 0x102008) && !s.right rightArray)

/-- A write that no other row names: the array selection, the mailbox, and locations that ignore writes. An access
outside its path's reach, to the MGMT ring's places, or to the debug window with no right, is counted. -/
def State.otherWrite (s : State) (w : RegWrite) : State :=
  if writesMgmt w then s.countRefused
  else match writeKind w with
    | some .arrSel => s.arrSelWrite w
    | some (.mailbox off) => s.mailboxWrite w off
    | some _ => if s.debugDenied (w.addr / 8 * 8) then s.countRefused else s
    | none => s.countRefused

/-- The write is a row of its own. -/
def RegKind.named : RegKind → Bool
  | .arrSel | .mailbox _ | .other => false
  | _ => true

/-- REGISTER_WRITE (R460): every write that is not one of the rows above. -/
def execRegisterWrite (w : RegWrite) (s : State) : Host.Outcome State Fault Refusal :=
  nextIf (s.takesOn w.path && !(((writeKind w).map RegKind.named).getD false)) s ((s.otherWrite w).answered w)

/-! ### Reads (R459-R476) -/

/-- `CTC_STATUS` (R464). -/
def State.statusWord (s : State) : Nat :=
  let dead := s.weft.lanes.vals.any (·.dead) || s.shuttle.engines.vals.any (·.dead) || s.batten.units.vals.any (·.dead)
  let spare := !s.weft.spares.isEmpty || !s.shuttle.spares.isEmpty || s.batten.spare.isSome
  bit s.keys.rootReady 0 + bit s.keys.identity 1
    + bit (s.loom.ringsOpen && !s.loom.restarting && !s.loom.halted) 2 + bit s.loom.restarting 3 + bit s.loom.halted 4
    + bit s.power.hold 5 + bit s.entropy.failed 6 + bit s.calIncomplete 7 + bit spare 8 + bit (s.otp.svn == 128) 9
    + bit dead 10 + bit s.power.fatal 11 + bit s.loom.portsOpen 12 + s.time.state.code * 2 ^ 13 + s.otp.lcs * 2 ^ 16
    + (s.ldisWith (fun d => d.state.live)).length * 2 ^ 32

/-- `CTC_RESET_CAUSE`, `CTC_CLOCK_STATUS`, `CTC_LOG_STATE`. -/
def State.causeWord (s : State) : Nat :=
  s.power.cause + bit s.power.pended 8 + bit s.power.otpHeld 9 + bit s.power.squallHeld 10

def State.clockWord (s : State) : Nat :=
  bit s.power.rootValid 0 + bit s.power.rootLost 1 + bit s.power.crossFault 2 + s.power.faultInst % 2 ^ 16 * 2 ^ 16

def State.logWord (s : State) : Nat :=
  let n := s.log.places.length
  s.log.newest + (if n == 1024 then 0 else n) * 2 ^ 48 + bit (n == 1024) 58

/-- A ring's four registers. -/
def State.ringWord (s : State) (i off : Nat) : Nat :=
  let r := s.ring i
  match off with
  | 0x00 => r.tail
  | 0x08 => r.head
  | 0x10 => r.next
  | _ => r.reply + bit r.evt 32 + bit r.badTail 33 + bit (s.ringClosed i) 34

/-- The debug window; a location whose right is not open reads zero. -/
def State.debugWord (s : State) (a : Nat) : BitVec 64 :=
  let l := s.loom
  if a == 0x100000 then BitVec.ofNat 64 s.debugRights
  else if a == 0x100008 && s.right rightWindow then
    BitVec.ofNat 64 (bit l.halted 0 + bit (!l.bps.isEmpty) 1 + l.bps.length * 4 + (if l.halted then l.haltPc * 2 ^ 32 else 0))
  else if a == 0x100010 && s.right rightWindow then
    BitVec.ofNat 64 ((s.dbg.certs.vals.map (fun c => 2 ^ c.slot)).foldl (· + ·) 0)
  else if decide (0x101000 ≤ a) && decide (a < 0x102000) && s.coreOpen then s.coreWord (a - 0x101000)
  else if a == 0x102000 && s.right rightArray then BitVec.ofNat 64 (l.arrStore + l.arrWord * 2 ^ 16)
  else 0

/-- A word of the map that no read changes. -/
def State.mapWord (s : State) (a : Nat) : BitVec 64 :=
  if a == 0x0000 then BitVec.ofNat 64 s.build.version
  else if a == 0x0008 then BitVec.ofNat 64 s.build.word
  else if a == 0x0010 then BitVec.ofNat 64 (s.boot.devid + bit s.boot.devidSet 16)
  else if a == 0x0018 then (if s.otp.lcs == lcsScrap then 0 else BitVec.ofNat 64 (fieldAt s.otp.serial 0 8))
  else if a == 0x0020 then (if s.otp.lcs == lcsScrap then 0 else BitVec.ofNat 64 (fieldAt s.otp.serial 8 8))
  else if a == 0x1000 then BitVec.ofNat 64 s.statusWord
  else if a == 0x1008 then BitVec.ofNat 64 s.causeWord
  else if a == 0x1010 then BitVec.ofNat 64 s.clockWord
  else if a == 0x1018 then BitVec.ofNat 64 s.logWord
  else if decide (0x2000 ≤ a) && decide (a < 0x28C0) then BitVec.ofNat 64 (s.ringWord ((a - 0x2000) / 0x20) (a % 0x20))
  else if a == 0x3000 then s.events.status.setWidth 64
  else if a == 0x3008 then s.events.enable.setWidth 64
  else if decide (0x3010 ≤ a) && decide (a < 0x3030) then (s.events.integ >>> (8 * (a - 0x3010))).setWidth 64
  else if decide (0x3030 ≤ a) && decide (a < 0x3050) then (s.events.abort >>> (8 * (a - 0x3030))).setWidth 64
  else if a == 0x3050 then BitVec.ofNat 64 (((List.range 64).map (fun i => bit (s.evRing i) i)).foldl (· + ·) 0)
  else if a == 0x3058 then BitVec.ofNat 64 (((List.range 6).map (fun i => bit (s.evRing (64 + i)) i)).foldl (· + ·) 0)
  else if a == 0x4008 then BitVec.ofNat 64 s.time.snapTime.sec
  else if a == 0x4010 then BitVec.ofNat 64 (s.time.snapTime.ns + s.time.snapTime.frac * 2 ^ 32)
  else if a == 0x4018 then BitVec.ofNat 64 s.time.snapFree
  else if a == 0x4020 then BitVec.ofNat 64 (s.time.snapState + s.time.snapK * 2 ^ 8 + s.time.snapSeq * 2 ^ 16)
  else if decide (0x5000 ≤ a) && decide (a < 0x5020) then
    (s.baroShown[(a - 0x5000) / 8]?).getD 0
  else if decide (0x10000 ≤ a) && decide (a < 0x20000) then
    BitVec.ofNat 64 (fieldAt (s.log.places.findD ((a - 0x10000) / 64) []) (a % 64) 8)
  else if decide (0x20000 ≤ a) && decide (a < 0x24000) then BitVec.ofNat 64 (s.blockView.block false ((a - 0x20000) / 8))
  else if decide (0x24080 ≤ a) && decide (a < 0x2C000) then
    let l := (a - 0x24000) / 0x80
    if (s.dom l).state.live then BitVec.ofNat 64 ((s.domainView l).domain false ((a - 0x24000) % 0x80 / 8)) else 0
  else if decide (0x100000 ≤ a) && decide (a < 0x200000) then s.debugWord a
  else if 0x200000 ≤ a then BitVec.ofNat 64 (leNat (s.mboxRead (a - 0x200000) 8))
  else 0

/-- A read of a map offset: its data, and the state after it. -/
def State.regRead (s : State) (a : Nat) : BitVec 64 × State :=
  if a == 0x102008 then s.arrRead
  else (s.mapWord a, if s.debugDenied a then s.countRefused else s)

/-- A read on a register path: a location outside its reach reads zero and is counted (R8, R330). -/
def State.busRead (s : State) (path : RegPath) (addr : Nat) : BitVec 64 × State :=
  match pathTarget path addr with
  | some a => s.regRead a
  | none => (0, s.countRefused)

/-- DBG_ARR_DATA_READ (R475), and a read at any other address (R330, R460, R461). -/
def execDbgArrDataRead (path : RegPath) (addr : Nat) (s : State) : Host.Outcome State Fault Refusal :=
  let r := s.busRead path addr
  nextIf (s.takesOn path) s (r.2.answerOn path r.1)

end Sys2Proof.Machine
end

