-- ==== Sys2Proof/Machine/Boot.lean ====
section
/-!
DEFINITION. Decoding the life cycle, loading the firmware, opening the ports, supply warnings and the entropy source
(spec/16_lifecycle.md R346-R357, spec/23_integration.md R481-R484, spec/17_clocks_reset_power.md R378, spec/09_keys.md R202,
R203).
-/
namespace Sys2Proof.Machine

/-! ### Decoding (R346, R353, R356, R357) -/

/-- The slot holds a completed transition to a state. -/
def Otp.slotDone (o : Otp) (a dest : Nat) : Bool := o.word (a + 1) == stateWord dest && o.word (a + 2) == doneWord

/-- Decode the log from slot s on, in a state: the state at its end, and the programs that repair or void slots. -/
def Otp.decodeFrom (o : Otp) : Nat → Nat → Nat → Nat × List OtpWrite
  | 0, _, st => (st, [])
  | n + 1, s, st =>
    let a := 0x100 + 3 * s
    let i := o.word a
    if i == 0 then (st, [])
    else match validIntent i with
      | some (from_, dest) =>
        if from_ == st then
          let r := o.decodeFrom n (s + 1) dest
          if o.slotDone a dest then r else (r.1, [writeOf a i, writeOf (a + 1) (stateWord dest), writeOf (a + 2) doneWord] ++ r.2)
        else
          let r := o.decodeFrom n (s + 1) st
          (r.1, writeOf a 0xFFFFFFFF :: r.2)
      | none =>
        let r := o.decodeFrom n (s + 1) st
        (r.1, writeOf a 0xFFFFFFFF :: r.2)

/-- The life-cycle state that the OTP spells, with the ROM's programs: in SCRAP the fill (R356). -/
def Otp.decode (o : Otp) : Nat × List OtpWrite :=
  if o.word 0x220 != 0 then (lcsScrap, o.fill) else o.decodeFrom 48 0 lcsRaw

/-- Set bits `from` to `to` - 1 of the SVN thermometer. -/
def svnWrites (first stop : Nat) : List OtpWrite :=
  (List.range 4).filterMap (fun i =>
    let v := ((List.range 32).filter (fun b => decide (first ≤ 32 * i + b) && decide (32 * i + b < stop))).foldl (fun v b => v + 2 ^ b) 0
    if v == 0 then none else some (writeOf (0x200 + i) v))

/-- BOOT_ROM_START (R346, R353, R357): the ROM decodes the state, completes or voids transition slots, and programs the SVN
bits below the highest again; it polls once these programs have ended. -/
def execBootRomStart (s : State) : Host.Outcome State Fault Refusal :=
  let d := s.otp.decode
  let s1 := { s with
    otp := { s.otp with lcs := d.1 }
    boot := { s.boot with phase := if d.1 == lcsScrap then .dead else .decode } }
  nextIf (s.clocked && s.boot.phase == .rom) s
    (s1.otpJob (d.2 ++ if d.1 == lcsScrap then [] else svnWrites 0 (s.otp.svn - 1))).startIfDue

/-! ### The boot descriptor and the image (R481-R483) -/

def descSeq (d : Bytes) : Nat := fieldAt d 4 4
def descValid (d : Bytes) : Bool := fieldAt d 0 4 == 0x42435443 && descSeq d != 0

/-- The descriptor's fields lie in their ranges. -/
def descOk (d : Bytes) : Bool :=
  fieldAt d 8 8 % 64 == 0 && fieldAt d 24 8 % 64 == 0 && decide (1 ≤ fieldAt d 20 4) && decide (fieldAt d 20 4 ≤ 65536)

def imageCode (i : Bytes) : Bytes := (i.drop 128).take (fieldAt i 12 4)
def imageSig (i : Bytes) : Bytes := i.drop (128 + fieldAt i 12 4)
def imageDigest (i : Bytes) : Digest := Config.sha384 (i.take (128 + fieldAt i 12 4))
def imageSvn (i : Bytes) : Nat := fieldAt i 8 2

/-- The header and the code are well formed and of the descriptor's length. -/
def imageOk (d i : Bytes) : Bool :=
  let code := fieldAt i 12 4
  fieldAt i 0 4 == 0x46435443 && fieldAt i 4 2 == 1 && code % 64 == 0 && decide (64 ≤ code) && decide (code ≤ 8388480)
    && fieldAt d 16 4 == 128 + code + fieldAt i 16 4 && i.length == fieldAt d 16 4
    && bytesAt i 32 48 == bvBytes 48 (Config.sha384 (imageCode i))

/-- The certificate chains to the ROM root and both signatures over FW_DIGEST verify. -/
def imageSigned (i : Bytes) : Bool :=
  let g := imageSig i
  match verifiedLeaf (g.drop 4723) with
  | some k => Config.hybridVerify k (bvBytes 48 (imageDigest i)) (bytesAt g 0 4627) (bytesAt g 4627 96)
  | none => false

/-- The state accepts a key of this class: 0 production, 1 development (R345). -/
def classAccepted (lcs cls : Nat) : Bool :=
  if lcsLive lcs then cls == 0 else (cls == 0 || cls == 1) && lcs != lcsRaw && lcs != lcsScrap

/-- Why the image is rejected, if it is (R483). -/
def State.imageRefused (s : State) (b : BootRead) : Option Nat :=
  if b.err then some 5
  else if !descOk b.desc || !imageOk b.desc b.image then some 1
  else if !imageSigned b.image then some 2
  else if imageSvn b.image < s.otp.svn then some 3
  else if !classAccepted s.otp.lcs (Config.signerClass ((imageSig b.image).drop 4723)) then some 4
  else none

/-- The ROM's reads of the descriptor, and of what it names. -/
def bootReads (d : Bytes) : List Output :=
  [.dmaRead 0 0 0 64, .dmaRead 0 0 (fieldAt d 8 8) (fieldAt d 16 4), .dmaRead 0 0 (fieldAt d 24 8) (fieldAt d 20 4)]

/-- Accept an image: it starts at once, or once its SVN bits are programmed (R357). -/
def State.acceptImage (s : State) (b : BootRead) : State :=
  let i := b.image
  let svn := imageSvn i
  let commit := fieldAt i 6 2 % 2 == 1 && decide (s.otp.svn < svn)
  let ws := if commit then svnWrites s.otp.svn (min svn 128) else []
  let s1 := { s with boot := { s.boot with
    fwDigest := imageDigest i, fwSvn := svn, image := i.take (128 + fieldAt i 12 4), imageBad := false
    phase := .starting (descSeq b.desc) b.bundle } }
  (s1.otpJob ws).startIfDue

/-- One poll of the ROM, which an image that has been rejected under this SEQ does not answer. -/
def State.romPoll (s : State) (rejected : Option Nat) (b : BootRead) : State :=
  if !descValid b.desc || rejected == some (descSeq b.desc) then s.emit (.dmaRead 0 0 0 64)
  else
    let s1 := s.emitAll (bootReads b.desc)
    match s.imageRefused b with
    | some r =>
      let s2 := s1.rejectRecord r
      { s2 with boot := { s2.boot with phase := .poll (some (descSeq b.desc)) } }
    | none => s1.acceptImage b

/-- A poll of the firmware for a new bundle, while it runs without identity. -/
def State.bundlePoll (s : State) (seq : Nat) (b : BootRead) : State :=
  if !descValid b.desc || descSeq b.desc == seq then s.emit (.dmaRead 0 0 0 64)
  else
    let s1 := s.emitAll [.dmaRead 0 0 0 64, .dmaRead 0 0 (fieldAt b.desc 24 8) (fieldAt b.desc 20 4)]
    let s2 := { s1 with boot := { s1.boot with phase := .running (descSeq b.desc) } }
    if b.err then s2.rejectRecord 6 else s2.takeBundle b.bundle

/-- BOOT_DESCRIPTOR_POLL (R481): each 100 µs until an image has started and a bundle has been accepted. -/
def execBootDescriptorPoll (b : BootRead) (s : State) : Host.Outcome State Fault Refusal :=
  match s.boot.phase with
  | .poll rejected =>
    nextIf (s.clocked && !s.power.fatal) s (s.romPoll rejected b)
  | .running seq =>
    nextIf (s.loomUp && !s.keys.identity && !s.keys.zeroized) s (s.bundlePoll seq b)
  | _ => .next s

/-! ### Opening (R463, R484) -/

/-- PORTS_OPEN (R484): the firmware has started and DEVID is set. -/
def execPortsOpen (s : State) : Host.Outcome State Fault Refusal :=
  nextIf (s.loomUp && s.boot.devidSet && !s.loom.portsOpen) s
    ({ s with loom := { s.loom with portsOpen := true, ringsOpen := true } }.applyHeldTails.drainTurns)

/-- CTC_DEVID_WRITE (R463): the first value other than 0xFFFF sets DEVID, and ends that part of the wait of R193. -/
def execCtcDevidWrite (w : RegWrite) (s : State) : Host.Outcome State Fault Refusal :=
  match writeKind w with
  | some .devid => nextIf (s.takesOn w.path) s ((s.devidWrite w).tryRoot.answered w)
  | _ => .next s

/-! ### Supply (R352, R378) -/

/-- POWER_WARN (R378): `PW_WARN_N` has been low for 4 CLK_AUX cycles. -/
def execPowerWarn (s : State) : Host.Outcome State Fault Refusal :=
  let s1 := { s with power := { s.power with hold := true, warnAt := s.now } }
  nextIf s.clocked s (if s.power.hold then s1 else s1.raise 2)

/-- POWER_HOLD_CLEAR (R378): `PW_WARN_N` has stayed high for 1 ms; programs go on (R352). -/
def execPowerHoldClear (s : State) : Host.Outcome State Fault Refusal :=
  let s1 := s.advanceTo (s.power.warnAt + msTicks)
  nextIf (s.clocked && s.power.hold) s ({ s1 with power := { s1.power with hold := false } }.otpPump)

/-! ### The entropy source (R202, R203) -/

/-- A failed test: three within 1 s put the source in FAILED. -/
def State.entropyFailure (s : State) : State :=
  let recent := s.entropy.failTimes.filter (fun t => decide (s.now ≤ t + secTicks)) ++ [s.now]
  if 3 ≤ recent.length then
    ({ s with entropy := { s.entropy with failTimes := recent, failed := true, testing := false } }).raise 11
  else { s with entropy := { s.entropy with failTimes := recent, testing := true } }

/-- The repetition count test with cutoff 41: after a bit that has come `n` times in a row, the next bits bring it to 41. -/
def repeats (bit : Bool) (n : Nat) : List Bool → Bool
  | [] => false
  | b :: bs =>
    let k := if b == bit then n + 1 else 1
    decide (41 ≤ k) || repeats b k bs

/-- The adaptive proportion test of one window, with cutoff 792: how often its first bit comes in it. -/
def proportionFails : List Bool → Bool
  | [] => false
  | b :: bs => decide (792 ≤ ((b :: bs).filter (fun x => x == b)).length)

/-- The health tests fail on raw bits: the proportion test over their whole windows of 1,024 bits. -/
def healthFails (raw : List Bool) : Bool :=
  repeats true 0 raw
    || (List.range (raw.length / 1024)).any (fun i => proportionFails ((raw.drop (1024 * i)).take 1024))

/-- ENTROPY_TEST_FAIL (R203): a continuous test fails on the bits just drawn; the pool is discarded and the start-up test runs
again. -/
def execEntropyTestFail (raw : List Bool) (s : State) : Host.Outcome State Fault Refusal :=
  nextIf (s.clocked && s.canReseed && healthFails raw) s s.entropyFailure

/-- DRBG_RESEED (R202): after 65,536 requests, or 1 s of CLK_TIME; not while the source is under test (R203). -/
def execDrbgReseed (s : State) : Host.Outcome State Fault Refusal :=
  let s1 := if s.entropy.requests < 65536 then s.advanceTo (s.entropy.reseededAt + secTicks) else s
  nextIf (s.clocked && s.canReseed) s s1.reseed

/-- A start-up test passes: the DRBG reseeds and goes on; the keys of R193 may follow. -/
def State.entropyPass (s : State) : State :=
  ({ s with entropy := { s.entropy with passed := true, testing := false, tries := 0 } }).reseed.issueCerts.tryRoot

/-- A start-up test fails: it is repeated up to twice more. -/
def State.startupFail (s : State) : State :=
  let s1 := { s with entropy := { s.entropy with tries := s.entropy.tries + 1 } }.entropyFailure
  if s1.entropy.tries < 3 || s1.entropy.failed then s1
  else ({ s1 with entropy := { s1.entropy with failed := true, testing := false } }).raise 11

/-- ENTROPY_STARTUP_TEST_DONE (R203): both tests have run over 4,096 raw bits, which are discarded. -/
def execEntropyStartupTestDone (raw : List Bool) (s : State) : Host.Outcome State Fault Refusal :=
  nextIf (s.clocked && s.entropy.testing && raw.length == 4096) s (if healthFails raw then s.startupFail else s.entropyPass)

end Sys2Proof.Machine
end

