-- ==== Sys2Proof/Machine/Reset.lean ====
section
/-!
DEFINITION. CK_ROOT, and the three resets (spec/17_clocks_reset_power.md R368-R377, spec/18_recovery.md R382, R385,
spec/12_command_protocol.md R262, spec/22_registers.md R465, R468).
-/
namespace Sys2Proof.Machine

/-! ### CK_ROOT (R368, R371) -/

/-- CK_ROOT_LOST (R368): no edge for 1 µs. -/
def execCkRootLost (s : State) : Host.Outcome State Fault Refusal :=
  nextIf s.power.rootValid s
    { s with power := { s.power with rootValid := false, rootLost := s.power.rootLost || s.power.phase != .por } }

/-- CK_ROOT_RETURN (R368, R371): the block resumes, with a CLOCK_LOSS record; a request latched meanwhile is taken up. -/
def execCkRootReturn (s : State) : Host.Outcome State Fault Refusal :=
  let s1 := { s with power := { s.power with rootValid := true } }
  nextIf (!s.power.rootValid) s
    (if s.power.phase == .por then s1
    else
      let s2 := (s1.record 0x0C06 (loomPayload 0 0 0 0 0 s1.jidNow 0)).otpPump.startIfDue
      match s.power.phase with
      | .latched level cause => s2.beginReset level cause true
      | _ => s2)

/-! ### POR (R370, R373) -/

/-- What a pulse that POR interrupts leaves: all its bits when the warning came 20 µs before (R379), else some of them. -/
def State.cutPulse (s : State) : Otp × Nat :=
  match s.otp.busy with
  | none => (s.otp, s.freeCount)
  | some w =>
    if s.power.hold && decide (s.power.warnAt + 20 * usTicks ≤ s.now) then (s.otp.program w, s.freeCount)
    else (s.otp.program { w with bits := w.bits &&& BitVec.ofNat 32 (Config.freeNat s.freeCount) }, s.freeCount + 1)

/-- The state while POR holds the block: OTP and the build alone are kept. The numbers of the draws go on, since no draw is
made twice. -/
def State.porState (s : State) : State :=
  let o := s.cutPulse
  { build := s.build
    otp := { words := o.1.words }
    entropy := { draws := s.entropy.draws }
    power := { phase := .por, rootValid := s.power.rootValid }
    freeCount := o.2
    pending := s.pending }

/-- RS_PORST_ASSERT (R370): POR takes effect at once and overrides everything. -/
def execRsPorstAssert (s : State) : Host.Outcome State Fault Refusal := .next s.porState

/-- POR_RELEASE (R370): the 2 µs have passed; POR ends where `RS_PORST_N`, whose level is `porstN`, is high and CK_ROOT is valid. -/
def execPorRelease (porstN : Bool) (s : State) : Host.Outcome State Fault Refusal :=
  nextIf (s.power.phase == .por && s.power.rootValid && porstN) s (s.setPhase .idle)

/-! ### Requests and holds (R369, R372) -/

/-- RS_SYSREQ (R372): `RS_SYSREQ_N` low for 2 CLK_AUX cycles. -/
def execRsSysreq (s : State) : Host.Outcome State Fault Refusal := .next (s.requestReset .system 0x10)

/-- RS_COREREQ (R372): `RS_COREREQ_N` low for 2 CLK_AUX cycles. -/
def execRsCorereq (s : State) : Host.Outcome State Fault Refusal := .next (s.requestReset .core 0x20)

/-- RESET_HOLD_END (R372): the pulse has ended and every Squall has left, or 20 µs have passed, with `left` Squalls sent. -/
def execResetHoldEnd (left : Nat) (s : State) : Host.Outcome State Fault Refusal :=
  match s.power.phase with
  | .held level cause pended otpHeld squallHeld =>
    let s1 := if left < s.power.squalls.length then s.advanceTo (s.power.heldAt + 20 * usTicks) else s
    nextIf (s.power.rootValid && s.otp.busy.isNone) s ((s1.endHold left).assertReset level cause pended otpHeld squallHeld)
  | _ => .next s

/-- The reset-cause register, written as the reset takes effect (R465). -/
def State.noteCause (s : State) (cause : Nat) (pended otpHeld squallHeld : Bool) : State :=
  { s with power := { s.power with
    phase := .idle, cause := cause, pended := pended, otpHeld := otpHeld, squallHeld := squallHeld } }

/-! ### SYSTEM (R373) -/

/-- A sensor set after FREERUN has returned to 0: its learned values stay, its moments go. -/
def Sensor.restarted (x : Sensor) : Sensor := { x with peaks := [], calm := 0, softAt := none, excAt := none }

def Baro.restarted (b : Baro) : Baro :=
  let c := b.stopped
  { c with sensors := c.sensors.map (fun (x : Nat × Sensor) => (x.1, x.2.restarted)), regsAt := 0 }

/-- The state that a SYSTEM reset leaves: what the table of R373 keeps, and the boot ROM about to decode. -/
def State.systemState (s : State) : State :=
  let o := match s.otp.busy with | some w => s.otp.program w | none => s.otp
  let lanes : Map Lane := s.weft.lanes.map (fun (x : Nat × Lane) => (x.1, { instance_ := x.2.instance_, dead := x.2.dead }))
  let engines : Map Engine :=
    s.shuttle.engines.map (fun (x : Nat × Engine) => (x.1, { instance_ := x.2.instance_, dead := x.2.dead }))
  let units : Map BUnit :=
    s.batten.units.map (fun (x : Nat × BUnit) => (x.1, { instance_ := x.2.instance_, dead := x.2.dead }))
  { build := s.build
    otp := { words := o.words, lcs := o.lcs, zeroizedFlag := o.zeroizedFlag, mismatches := o.mismatches }
    power := { s.power with fatal := false, warnAt := 0, heldAt := 0 }
    dbg := { drData := s.dbg.drData, drDone := s.dbg.drDone, tapIr := s.dbg.tapIr }
    log := { s.log with quiet := [] }
    loom := { dump := s.loom.dump }
    trace := { records := s.trace.records, log := s.trace.log, logNext := s.trace.logNext, logGone := s.trace.logGone }
    weft := { lanes := lanes, spares := s.weft.spares }
    shuttle := { engines := engines, spares := s.shuttle.spares }
    batten := { units := units, spare := s.batten.spare }
    baro := s.baro.restarted
    entropy := { draws := s.entropy.draws }
    freeCount := s.freeCount
    pending := s.pending }

/-- A SYSTEM reset closes a calibration window, with its record (R410, R413). -/
def State.endWindow (s : State) : State := if s.baro.window.isSome then s.closeWindow else s

/-- SYSTEM_RESET (R373): it takes effect. -/
def execSystemReset (s : State) : Host.Outcome State Fault Refusal :=
  match s.power.phase with
  | .due .system cause pended otpHeld squallHeld =>
    nextIf s.power.rootValid s (s.endWindow.systemState.noteCause cause pended otpHeld squallHeld)
  | _ => .next s

/-! ### The crash dump (R382) -/

/-- The headers of the last 512 commands, oldest first. -/
def State.dumpCmds (s : State) : Bytes := padTo 16384 ((s.loom.headers.reverse).flatMap (padTo 32))

/-- Bytes 0 to 255 of the crash dump. -/
def State.dumpHead (s : State) (cause : Nat) : Bytes :=
  leBytes 4 0x44435443 ++ leBytes 2 1 ++ leBytes 1 cause ++ leBytes 1 0 ++ timeBytes s.time12 ++ leBytes 1 s.time.state.code
    ++ leBytes 3 0 ++ leBytes 8 s.now ++ bvBytes 8 s.keys.epoch ++ bvBytes 48 s.boot.fwDigest ++ leBytes 8 s.loom.lastJid
    ++ leBytes 8 s.log.newest ++ leBytes 152 0

/-- Write the crash dump, unless one is held that has not been read to its end. -/
def State.crashDump (s : State) (cause : Nat) : State :=
  let free := match s.loom.dump with | some d => d.readEnd | none => true
  if free then
    let d : Dump := { head := s.dumpHead cause, cmds := s.dumpCmds, time := s.time12 }
    ({ s with loom := { s.loom with dump := some d } }).raise 12
  else s.bump 0x012

/-- Firmware data and the core registers are cleared; sessions end; a halt ends and breakpoints stay; an escalation stands, and
the watchdog's count restarts (R384). -/
def State.clearFirmware (s : State) : State :=
  { s with
    loom := { s.loom with halted := false, halting := false, coreRegs := [], headers := [],
                          escalated := s.loom.escalated.map (fun _ => s.now) }
    spdm := { nextSession := s.spdm.nextSession } }

end Sys2Proof.Machine
end

