-- ==== Sys2Proof/Machine/Journal.lean ====
section
/-!
DEFINITION. Suspended commands as they resume (spec/12_command_protocol.md R257-R263), PEER commands (R254), and the test
access port (spec/21_ports.md R459).
-/
namespace Sys2Proof.Machine

/-! ### The steps that remain (R261) -/

/-- The next steps of an entry; those of a life-cycle transition are in `State.resumeEntry`. -/
def State.resume (s : State) (e : JEntry) (sup : Supply) : Res :=
  match e.cont with
  | .reply res => .ok s res
  | .releaseContext l c => let r := s.finishRelease l c; .ok r.1 r.2
  | .quiesce l => .ok s (leBytes 4 (s.inflight l))
  | .retireDrain l w p b => let r := s.retirePublish l; .wait (.bp r.1) (.retireUnbind l w p b) r.2
  | .retireUnbind l w p b => .ok (s.finishRetire l) (retireReply (s.dom l).gen w p b)
  | .assign l k n rest => s.stepAssign e.jid l k n rest
  | .scan _ => s.stepScan e.jid
  | .importBlob l slot src n got => s.stepImport e l slot src n got sup
  | .zeroing l n index part => s.stepZeroing e.jid l n index part
  | .prepare l => .ok s (leBytes 4 (s.tally l))
  | .commitWait l n q _ => s.closeRebind l n q
  | .commitClose _ n q => .ok s (commitReply n q)
  | .saWarm ps => .ok s (s.warmReply ps)
  | .streamClose l n => .ok (s.endJob l) (leBytes 8 n)
  | .groupCreate _ _ slot n _ => .ok s (groupReply slot n)
  | .measure l => s.endMeasure l
  | .transition _ | .unlock _ => .ok s
  | .zeroized n => .ok s (leBytes 2 n)
  | .freezeDrain l dest epoch => s.stepFreezeDrain e l dest epoch
  | .freezePolicy l dest slot _ _ => s.stepFreezePolicy l dest slot
  | .export_ l first n dst index slot => s.stepExport e l first n dst index slot
  | .exportWrite l kind res => s.stepExportWrite l kind res sup.dmaErr
  | .importPart l src n got => s.stepMigImport e l src n got sup
  | .spdm msg => .ok s [] msg

/-! ### Overtaken commands (R259) -/

/-- What the reply of an overtaken command says: `ST_ABORTED`, with RESULT where its entry fills it then. -/
def abortedReply (result : Bytes := []) : Reply := { status := stAborted, result := result }

/-- An overtaken command ends so where its steps end well; another status of its own entry stands. -/
def Res.overtaken : Res → Res
  | .done r t => .done (if r.status == stOk then { r with status := stAborted } else r) t
  | r => r

/-- The next steps of an overtaken entry: those that still apply in ABORTED. -/
def State.resumeAborted (s : State) (e : JEntry) (sup : Supply) : Res :=
  match e.cont with
  | .reply _ | .quiesce _ | .prepare _ => .done abortedReply s
  | .releaseContext l c => .done abortedReply (s.finishRelease l c).1
  | .assign _ _ n rest => .done (abortedReply (listReply n (rest.head?.getD noGranule))) s
  | .commitWait l n q _ => .done (abortedReply (commitReply n q)) (s.closeMap l)
  | .groupCreate l g slot _ _ => .done abortedReply (s.dropGroup l g slot)
  | .zeroing _ n index part => .done (abortedReply (zeroingReply n index part)) s
  | .measure l => .done abortedReply (s.setOffset l { s.offsetOf l with running := false })
  | .freezeDrain _ _ _ => .done abortedReply s
  | .exportWrite _ _ res => .done (abortedReply res) s
  | .freezePolicy _ _ slot _ _ => .done abortedReply (s.clearSlot slot)
  | _ => (s.resume e sup).overtaken

/-! ### JOURNAL_STEP_RESUME (R261) -/

/-- How the run of an entry's steps leaves the block. -/
def State.settleEntry (s : State) (e : JEntry) : Res → State
  | .fail st => (s.commit e { status := st }).endSpent.drainTurns
  | .refuse r => (s.commit e r).endSpent.drainTurns
  | .done r t => (t.commit e r).endSpent.drainTurns
  | .wait w k t => (t.suspend e.jid w k).endSpent

/-- Run the next steps of an entry whose condition holds. -/
def State.resumeEntry (s : State) (e : JEntry) (sup : Supply) : State :=
  match e.cont with
  | .transition dest => s.endTransition e dest []
  | .unlock dest => s.endTransition e dest (leBytes 1 s.otp.tokensLeft.length)
  | _ => s.settleEntry e (if e.overtaken then s.resumeAborted e sup else s.resume e sup)

/-- Loom, or in RAW the ROM, runs steps. -/
def State.stepsRun (s : State) : Bool := (s.loomUp && !s.loom.halting) || s.romServes

/-- JOURNAL_STEP_RESUME (R261): the entry's wait condition holds, and its next steps run. `sup` carries the bytes that host
DMA returned, for the entries that read host memory. -/
def execJournalStepResume (jid : Nat) (sup : Supply) (s : State) : Host.Outcome State Fault Refusal :=
  let t := s.settle
  match t.loom.journal.find? (fun e => e.jid == jid) with
  | some e => nextIf (t.stepsRun && t.waitHolds e) s (t.resumeEntry e sup)
  | none => .next s

/-! ### PEER commands (R243, R254) -/

/-- The entries of the command reference. -/
def commandSpecs : List CmdSpec := attSessionOpenSpec :: blockSpecs

def specOf (opcode : Nat) : Option CmdSpec := commandSpecs.find? (fun sp => sp.opcode == opcode)

/-- The command in a type 0x0D body: a prefix, the slot, its parameters. -/
def peerCommand (peer : Nat) (body : Bytes) : Cmd :=
  { path := .peer peer, cls := .peer, hdr := bytesAt body 4 256, buffer := body.drop 260 }

/-- Execute a PEER command; an undefined opcode fails check 3. -/
def State.runPeer (s : State) (peer : Nat) (body : Bytes) : State :=
  let c := peerCommand peer body
  let s := s.traceCmd c.entry 0 0 0
  match specOf c.opcode with
  | some sp => s.runCommand sp c
  | none => s.settle.inSequence c (fun s => s.reply c.entry 0 { status := stUnsupported } true)

/-- Loom fetches from the PEER queues, one path of the rotation (R257). -/
def State.peersServed (s : State) : Bool := s.pathsServed && !s.stepDue && s.hasTurn 70

/-- PEER_CMD (R254): one shorter than a slot is dropped and counted. -/
def execPeerCmd (peer : Nat) (s : State) : Host.Outcome State Fault Refusal :=
  s.onMsg s.peersServed peer 0x0D (fun b => fieldAt b 0 1 == 0 && b != []) (fun s m =>
    if m.body.length < 260 then s.countDropped else ((s.tookTurn 70).runPeer peer m.body).endSpent.drainTurns)

/-- PEER_REPLY (R254): consumed; no command of this device awaits it. -/
def execPeerReply (peer : Nat) (s : State) : Host.Outcome State Fault Refusal :=
  s.onMsg s.clocked peer 0x0D (fun b => fieldAt b 0 1 == 1) (fun s _ => s)

/-! ### The test access port (R459) -/

/-- TAP instruction codes. -/
def irExtest : BitVec 5 := 0b00000
def irIdcode : BitVec 5 := 0b00001
def irSample : BitVec 5 := 0b00010
def irDbgAccess : BitVec 5 := 0b01000
def irScan : BitVec 5 := 0b01001
def irBypass : BitVec 5 := 0b11111

/-- The instruction that a code selects: BYPASS for every code without one, and for one that is not available. -/
def State.tapSelects (s : State) (code : BitVec 5) : BitVec 5 :=
  if code == irExtest || code == irIdcode || code == irSample then code
  else if code == irDbgAccess && s.dbgAvailable then code
  else if code == irScan && s.right rightScan then code
  else irBypass

/-- IDCODE: PATCH, 0xC731, `DB_MFG`, 1. -/
def State.idcode (s : State) : Nat := s.build.version / 2 ^ 8 % 16 * 2 ^ 28 + 0xC731 * 2 ^ 12 + Config.dbMfg.toNat * 2 + 1

/-- What the selected instruction's data register shifts out. The cells of the port wrapper and of the scan chains hold what the
spec does not say: free values (notes/assumptions/23.md). -/
def State.tapCapture (s : State) (code : BitVec 5) : Bytes :=
  if code == irIdcode then leBytes 4 s.idcode
  else if code == irDbgAccess then leBytes 8 s.dbg.drData.toNat ++ leBytes 4 (bit s.dbg.drDone 23)
  else if code == irBypass then leBytes 1 0
  else Config.freeBytes s.freeCount 0x459

/-- Select an instruction and shift its data register out. -/
def State.tapSelect (s : State) (code : BitVec 5) : State :=
  let ir := s.tapSelects code
  { s with freeCount := s.freeCount + 1, dbg := { s.dbg with tapIr := ir } }.emit (.tapDr ir (s.tapCapture ir))

/-- OTP words that the integrator programs (R347). -/
def integratorWord (addr : Nat) : Bool := decide (addr ≤ 0x006) || (decide (0x040 ≤ addr) && decide (addr ≤ 0x0FF))

/-- The integrator's program of an OTP word: accepted in RAW and TEST_UNLOCKED only (R347, R362). -/
def State.tapProgram (s : State) (addr : Nat) (bits : BitVec 32) : State :=
  if s.otp.integratorOpen && integratorWord addr then s.otpJob [{ addr := addr, bits := bits }] else s

/-- A write through DBG_ACCESS, by the register that it reaches. -/
def State.dbgWrite (s : State) (w : RegWrite) : State :=
  match writeKind w with
  | some (.tail i) => s.tailWrite w i
  | some (.evt i) => s.evtWrite w i
  | some .evStatus => s.evStatusWrite w
  | some .evEnable => s.evEnableWrite w
  | some (.evMap a k) => s.evMapWrite w a k
  | some .devid => (s.devidWrite w).tryRoot
  | some .clock => s.clockWrite w
  | some .snap => s.snapWrite w
  | some (.coreReg off) => s.coreRegWrite w off
  | _ => s.otherWrite w

/-- A read through DBG_ACCESS: zero outside its reach. -/
def State.dbgRead (s : State) (addr : Nat) : BitVec 64 × State :=
  match pathTarget .dbg addr with
  | some a => s.regRead a
  | none => (0, s)

/-- Complete an access: DATA and DONE, and the instruction that selected it. -/
def State.dbgDone (s : State) (v : BitVec 64) : State :=
  { s with dbg := { s.dbg with drData := v, drDone := true, tapIr := irDbgAccess } }.emit (.dbgRsp v)

/-- An update of DBG_ACCESS's data register. With GO 0, nothing starts. -/
def State.tapAccess (s : State) (dr : BitVec 96) : State :=
  let data : BitVec 64 := dr.setWidth 64
  let addr := dr.toNat / 2 ^ 64 % 2 ^ 22
  let w : RegWrite := { path := .dbg, addr := addr, data := data, strb := 0xFF }
  if !dr.getLsbD 87 then { s with dbg := { s.dbg with drData := data, drDone := false, tapIr := irDbgAccess } }
  else if dr.getLsbD 86 then (s.dbgWrite w).dbgDone data
  else let r := s.dbgRead addr; r.2.dbgDone r.1

/-- DBG_ACCESS (R347, R459): where it is not available, its instruction selects BYPASS. The TAP works while CK_ROOT stands, and its
programs wait for the OTP controller. -/
def execDbgAccess (op : TapOp) (s : State) : Host.Outcome State Fault Refusal :=
  match op with
  | .access dr =>
    .next (if s.dbgAvailable then s.tapAccess dr else { s with dbg := { s.dbg with tapIr := irBypass } })
  | .select code => .next (s.tapSelect code)
  | .program addr bits => nextIf (s.clocked && s.decoded) s (s.tapProgram addr bits)

/-- TAP_RESET (R459): the data register and DONE clear, and the instruction is IDCODE. -/
def execTapReset (s : State) : Host.Outcome State Fault Refusal :=
  .next { s with dbg := { s.dbg with drData := 0, drDone := false, tapIr := irIdcode } }

end Sys2Proof.Machine
end

