-- ==== Sys2Proof/Machine/Recover.lean ====
section
/-!
DEFINITION. Journal recovery and the CORE reset (spec/12_command_protocol.md R262, spec/17_clocks_reset_power.md R375, R376,
spec/18_recovery.md R385, spec/22_registers.md R468).
-/
namespace Sys2Proof.Machine

/-- A read-only command in progress is forgotten: it runs again when its slot is fetched again. -/
def State.forgetRead (s : State) (e : JEntry) : State :=
  match s.scan e.jid with
  | some x => (s.endScan x).dropEntry e.jid
  | none => s.dropEntry e.jid

/-- The suspended journal entry of a ring. -/
def State.heldOn (s : State) (i : Nat) : Bool := s.loom.journal.any (fun e => e.path == .ring i)

/-- The rings after recovery: HEAD follows REPLY and the suspended entry (R468). -/
def State.rewindRings (s : State) : State :=
  { s with loom := { s.loom with rings := s.loom.rings.map (fun (x : Nat × Ring) =>
    let held := s.heldOn x.1
    (x.1, { x.2 with head := (x.2.reply + (if held then 1 else 0)) % 2 ^ 32, running := held })) } }

/-- Roll an entry forward while its wait conditions hold; n bounds its steps. One that waits for host bytes stands where it
was. -/
def State.rollEntry (s : State) (jid : Nat) : Nat → State
  | 0 => s
  | n + 1 => match s.loom.journal.find? (fun e => e.jid == jid) with
    | some e => if s.waitHolds e && !e.wait.driven then (s.resumeEntry e { dma := [], dmaErr := false }).rollEntry jid n else s
    | none => s

/-- Roll every entry forward in ascending JID: each that can commit does so before any path is served. -/
def State.rollForward (s : State) : State := (s.loom.journal.map (·.jid)).foldl (fun s j => s.rollEntry j 8) s

/-- The paths are served again, with the writes of RING_TAIL that were held (R468). -/
def State.endRestart (s : State) : State := ({ s with loom := { s.loom with restarting := false } }).applyHeldTails

/-- Step 6 (R262): read-only commands go, entries are rolled forward, those that still wait keep their locks, rings and aborts
are brought up, and the paths are served again. -/
def State.recover (s : State) : State :=
  let s1 := (s.loom.journal.filter (fun e => !e.journaled)).foldl State.forgetRead s
  let s2 := s1.rollForward.rewindRings.finishAborts
  s2.endSpent.endRestart.drainTurns

/-- Firmware SRAM holds an image: it runs, or is about to start. -/
def BootPhase.loaded : BootPhase → Bool
  | .running _ | .starting _ _ => true
  | _ => false

/-- The restart, step by step (R382, R385); a damaged image requests SYSTEM (R376). Where no firmware has run, there is no journal
to recover. -/
def State.coreRestart (s : State) (cause : Nat) : State :=
  let s1 := (s.crashDump cause).clearFirmware
  if s1.boot.imageBad && s1.boot.phase.loaded then s1.requestReset .system 0x14
  else if s1.boot.phase.isRunning then s1.recover
  else s1.finishAborts.endRestart.startIfDue

/-- CORE_RESET (R375, R385): the cores restart, and programs of OTP go on (R352). -/
def execCoreReset (s : State) : Host.Outcome State Fault Refusal :=
  match s.power.phase with
  | .due .core cause pended otpHeld squallHeld =>
    nextIf s.power.rootValid s ((s.noteCause cause pended otpHeld squallHeld).coreRestart cause).otpPump
  | _ => .next s

end Sys2Proof.Machine
end

