-- ==== Sys2Proof/Machine/Dispatch.lean ====
section
/-!
DEFINITION. The meaning of each command: one arm per row of spec/opcode_table.json, in the table's order.
-/
namespace Sys2Proof.Machine

/-- The effect of a command on everything but the queue. -/
def exec (i : Instr) (s : State) : Host.Outcome State Fault Refusal :=
  match i with
  | .domCreate src => Sys2Proof.Machine.execDomCreate src s
  | .domSetPolicy src => Sys2Proof.Machine.execDomSetPolicy src s
  | .domAddContext src => Sys2Proof.Machine.execDomAddContext src s
  | .domReleaseContext src => Sys2Proof.Machine.execDomReleaseContext src s
  | .domSeal src => Sys2Proof.Machine.execDomSeal src s
  | .domQuiesce src => Sys2Proof.Machine.execDomQuiesce src s
  | .domAbort src => Sys2Proof.Machine.execDomAbort src s
  | .domRetire src => Sys2Proof.Machine.execDomRetire src s
  | .domQuery src => Sys2Proof.Machine.execDomQuery src s
  | .memAssign src => Sys2Proof.Machine.execMemAssign src s
  | .memRelease src => Sys2Proof.Machine.execMemRelease src s
  | .memScrub src => Sys2Proof.Machine.execMemScrub src s
  | .memQuery src => Sys2Proof.Machine.execMemQuery src s
  | .memImportBlob src => Sys2Proof.Machine.execMemImportBlob src s
  | .memFingerprint src => Sys2Proof.Machine.execMemFingerprint src s
  | .memDigest src => Sys2Proof.Machine.execMemDigest src s
  | .cmpBindSlice src => Sys2Proof.Machine.execCmpBindSlice src s
  | .cmpUnbindSlice src => Sys2Proof.Machine.execCmpUnbindSlice src s
  | .cmpRebindPrepare src => Sys2Proof.Machine.execCmpRebindPrepare src s
  | .cmpRebindCommit src => Sys2Proof.Machine.execCmpRebindCommit src s
  | .rebindSquashTimeout ldi => Sys2Proof.Machine.execRebindSquashTimeout ldi s
  | .redWindowOpen src => Sys2Proof.Machine.execRedWindowOpen src s
  | .redWindowClose src => Sys2Proof.Machine.execRedWindowClose src s
  | .redWindowQuery src => Sys2Proof.Machine.execRedWindowQuery src s
  | .arrAlloc src => Sys2Proof.Machine.execArrAlloc src s
  | .arrFree src => Sys2Proof.Machine.execArrFree src s
  | .fenCreate src => Sys2Proof.Machine.execFenCreate src s
  | .fenRegisterProducer src => Sys2Proof.Machine.execFenRegisterProducer src s
  | .fenDestroy src => Sys2Proof.Machine.execFenDestroy src s
  | .lnkPortClass src => Sys2Proof.Machine.execLnkPortClass src s
  | .lnkSaWarm src => Sys2Proof.Machine.execLnkSaWarm src s
  | .lnkSaQuery src => Sys2Proof.Machine.execLnkSaQuery src s
  | .lnkGroupCreate src => Sys2Proof.Machine.execLnkGroupCreate src s
  | .keyEphemeralGet src => Sys2Proof.Machine.execKeyEphemeralGet src s
  | .keyWeightInstall src => Sys2Proof.Machine.execKeyWeightInstall src s
  | .keyWeightDrop src => Sys2Proof.Machine.execKeyWeightDrop src s
  | .attReport src => Sys2Proof.Machine.execAttReport src s
  | .attSessionOpen src => Sys2Proof.Machine.execAttSessionOpen src s
  | .mtrRead src => Sys2Proof.Machine.execMtrRead src s
  | .mtrAck src => Sys2Proof.Machine.execMtrAck src s
  | .timStatus src => Sys2Proof.Machine.execTimStatus src s
  | .timSetServo src => Sys2Proof.Machine.execTimSetServo src s
  | .timOffsetMeasure src => Sys2Proof.Machine.execTimOffsetMeasure src s
  | .dbgCertPresent src => Sys2Proof.Machine.execDbgCertPresent src s
  | .dbgRevoke src => Sys2Proof.Machine.execDbgRevoke src s
  | .dbgHalt src => Sys2Proof.Machine.execDbgHalt src s
  | .dbgResume src => Sys2Proof.Machine.execDbgResume src s
  | .prfFreezeAt src => Sys2Proof.Machine.execPrfFreezeAt src s
  | .prfRead src => Sys2Proof.Machine.execPrfRead src s
  | .trcConfig src => Sys2Proof.Machine.execTrcConfig src s
  | .trcMark src => Sys2Proof.Machine.execTrcMark src s
  | .trcRead src => Sys2Proof.Machine.execTrcRead src s
  | .lcsQuery src => Sys2Proof.Machine.execLcsQuery src s
  | .lcsTransition src => Sys2Proof.Machine.execLcsTransition src s
  | .lcsTransitionResetTimer => Sys2Proof.Machine.execLcsTransitionResetTimer s
  | .lcsTokenUnlock src => Sys2Proof.Machine.execLcsTokenUnlock src s
  | .lcsZeroize src => Sys2Proof.Machine.execLcsZeroize src s
  | .migFreeze src => Sys2Proof.Machine.execMigFreeze src s
  | .migFreezeAnswerTimeout ldi => Sys2Proof.Machine.execMigFreezeAnswerTimeout ldi s
  | .migExport src => Sys2Proof.Machine.execMigExport src s
  | .migImport src => Sys2Proof.Machine.execMigImport src s
  | .migThaw src => Sys2Proof.Machine.execMigThaw src s
  | .spnStreamOpen src => Sys2Proof.Machine.execSpnStreamOpen src s
  | .spnStreamClose src => Sys2Proof.Machine.execSpnStreamClose src s
  | .snsStatus src => Sys2Proof.Machine.execSnsStatus src s
  | .snsCalWindow src => Sys2Proof.Machine.execSnsCalWindow src s
  | .rcvLogRead src => Sys2Proof.Machine.execRcvLogRead src s
  | .rcvLogClear src => Sys2Proof.Machine.execRcvLogClear src s
  | .rcvDumpRead src => Sys2Proof.Machine.execRcvDumpRead src s
  | .journalStepResume jid sup => Sys2Proof.Machine.execJournalStepResume jid sup s
  | .ringTailWrite w => Sys2Proof.Machine.execRingTailWrite w s
  | .ringEvtClear w => Sys2Proof.Machine.execRingEvtClear w s
  | .evStatusClear w => Sys2Proof.Machine.execEvStatusClear w s
  | .evMapClear w => Sys2Proof.Machine.execEvMapClear w s
  | .evEnableWrite w => Sys2Proof.Machine.execEvEnableWrite w s
  | .ctcDevidWrite w => Sys2Proof.Machine.execCtcDevidWrite w s
  | .clockStatusClear w => Sys2Proof.Machine.execClockStatusClear w s
  | .timSnapCapture w => Sys2Proof.Machine.execTimSnapCapture w s
  | .dbgArrDataRead path addr => Sys2Proof.Machine.execDbgArrDataRead path addr s
  | .dbgCoreRegWrite w => Sys2Proof.Machine.execDbgCoreRegWrite w s
  | .registerWrite w => Sys2Proof.Machine.execRegisterWrite w s
  | .dbgAccess op => Sys2Proof.Machine.execDbgAccess op s
  | .tapReset => Sys2Proof.Machine.execTapReset s
  | .hpRead r => Sys2Proof.Machine.execHpRead r s
  | .hpFullWrite r => Sys2Proof.Machine.execHpFullWrite r s
  | .hpByteMaskedWrite r => Sys2Proof.Machine.execHpByteMaskedWrite r s
  | .gotFetchComplete lane granule => Sys2Proof.Machine.execGotFetchComplete lane granule s
  | .mpReadReturn lane tag data ecc => Sys2Proof.Machine.execMpReadReturn lane tag data ecc s
  | .domainIntegrityEvent => Sys2Proof.Machine.execDomainIntegrityEvent s
  | .writeGroupClose lane bad => Sys2Proof.Machine.execWriteGroupClose lane bad s
  | .mpWriteAck lane tag => Sys2Proof.Machine.execMpWriteAck lane tag s
  | .scrubGranuleDone => Sys2Proof.Machine.execScrubGranuleDone s
  | .laneFailed lane => Sys2Proof.Machine.execLaneFailed lane s
  | .mpFlushAck lane bad => Sys2Proof.Machine.execMpFlushAck lane bad s
  | .fpEgressPacket p => Sys2Proof.Machine.execFpEgressPacket p s
  | .fpIngressPacket p => Sys2Proof.Machine.execFpIngressPacket p s
  | .nackReceived => Sys2Proof.Machine.execNackReceived s
  | .atomicRequestReceived => Sys2Proof.Machine.execAtomicRequestReceived s
  | .atomicResponseReceived => Sys2Proof.Machine.execAtomicResponseReceived s
  | .atomicQueryReceived => Sys2Proof.Machine.execAtomicQueryReceived s
  | .ackOnlyReceived => Sys2Proof.Machine.execAckOnlyReceived s
  | .atomicDueExpiry peer aseq => Sys2Proof.Machine.execAtomicDueExpiry peer aseq s
  | .ackOnlyTimer peer => Sys2Proof.Machine.execAckOnlyTimer peer s
  | .saInit peer => Sys2Proof.Machine.execSaInit peer s
  | .saResp peer => Sys2Proof.Machine.execSaResp peer s
  | .saFin peer => Sys2Proof.Machine.execSaFin peer s
  | .saDone peer => Sys2Proof.Machine.execSaDone peer s
  | .chainGet peer => Sys2Proof.Machine.execChainGet peer s
  | .chain peer => Sys2Proof.Machine.execChain peer s
  | .keepalive peer => Sys2Proof.Machine.execKeepalive peer s
  | .keepaliveTimer peer => Sys2Proof.Machine.execKeepaliveTimer peer s
  | .saLossTimeout peer => Sys2Proof.Machine.execSaLossTimeout peer s
  | .saFailedExpiry peer => Sys2Proof.Machine.execSaFailedExpiry peer s
  | .groupKey peer => Sys2Proof.Machine.execGroupKey peer s
  | .groupKeyHoldExpiry => Sys2Proof.Machine.execGroupKeyHoldExpiry s
  | .groupCreateTimeout ldi group => Sys2Proof.Machine.execGroupCreateTimeout ldi group s
  | .policy peer => Sys2Proof.Machine.execPolicy peer s
  | .retired peer => Sys2Proof.Machine.execRetired peer s
  | .fdtQuarantineExpiry fdt => Sys2Proof.Machine.execFdtQuarantineExpiry fdt s
  | .squall peer => Sys2Proof.Machine.execSquall peer s
  | .freeze peer => Sys2Proof.Machine.execFreeze peer s
  | .offset peer => Sys2Proof.Machine.execOffset peer s
  | .offsetProbeTimer ldi => Sys2Proof.Machine.execOffsetProbeTimer ldi s
  | .offsetPeriodicExchange ldi => Sys2Proof.Machine.execOffsetPeriodicExchange ldi s
  | .peerCmd peer => Sys2Proof.Machine.execPeerCmd peer s
  | .peerReply peer => Sys2Proof.Machine.execPeerReply peer s
  | .engineFailed engine loss => Sys2Proof.Machine.execEngineFailed engine loss s
  | .baReduce r => Sys2Proof.Machine.execBaReduce r s
  | .baMstore r => Sys2Proof.Machine.execBaMstore r s
  | .baAtomic r => Sys2Proof.Machine.execBaAtomic r s
  | .battenEntryApply unit bad => Sys2Proof.Machine.execBattenEntryApply unit bad s
  | .battenFillReturn unit => Sys2Proof.Machine.execBattenFillReturn unit s
  | .mirrorAck unit => Sys2Proof.Machine.execMirrorAck unit s
  | .battenWriteback unit dli => Sys2Proof.Machine.execBattenWriteback unit dli s
  | .battenWritebackAccepted unit dli => Sys2Proof.Machine.execBattenWritebackAccepted unit dli s
  | .windowContribution unit bad => Sys2Proof.Machine.execWindowContribution unit bad s
  | .windowLineAccepted dli => Sys2Proof.Machine.execWindowLineAccepted dli s
  | .unitFailed unit lost => Sys2Proof.Machine.execUnitFailed unit lost s
  | .spindlePull r lent => Sys2Proof.Machine.execSpindlePull r lent s
  | .spindleReissueTimeout port => Sys2Proof.Machine.execSpindleReissueTimeout port s
  | .fenceSignal => Sys2Proof.Machine.execFenceSignal s
  | .bpAck seq => Sys2Proof.Machine.execBpAck seq s
  | .bpInPresent type kind first count => Sys2Proof.Machine.execBpInPresent type kind first count s
  | .bpInReport ldi handle ctx status => Sys2Proof.Machine.execBpInReport ldi handle ctx status s
  | .bpInNeighbour ldi pos devid => Sys2Proof.Machine.execBpInNeighbour ldi pos devid s
  | .hcpResetAssert => Sys2Proof.Machine.execHcpResetAssert s
  | .hcpImageStream image => Sys2Proof.Machine.execHcpImageStream image s
  | .kpAck => Sys2Proof.Machine.execKpAck s
  | .kpFlr func => Sys2Proof.Machine.execKpFlr func s
  | .kpLockedConfigWrite func => Sys2Proof.Machine.execKpLockedConfigWrite func s
  | .kpIdeIntegrityFailure func => Sys2Proof.Machine.execKpIdeIntegrityFailure func s
  | .getVersion m => Sys2Proof.Machine.execGetVersion m s
  | .getCapabilities m => Sys2Proof.Machine.execGetCapabilities m s
  | .negotiateAlgorithms m offered => Sys2Proof.Machine.execNegotiateAlgorithms m offered s
  | .getDigests m => Sys2Proof.Machine.execGetDigests m s
  | .getCertificate m slot offset len => Sys2Proof.Machine.execGetCertificate m slot offset len s
  | .challenge m slot nonce => Sys2Proof.Machine.execChallenge m slot nonce s
  | .getMeasurements m slot index signed nonce => Sys2Proof.Machine.execGetMeasurements m slot index signed nonce s
  | .keyExchange m k => Sys2Proof.Machine.execKeyExchange m k s
  | .finish m sid proof => Sys2Proof.Machine.execFinish m sid proof s
  | .getEncapsulatedRequest m sid => Sys2Proof.Machine.execGetEncapsulatedRequest m sid s
  | .deliverEncapsulatedResponse m sid chain => Sys2Proof.Machine.execDeliverEncapsulatedResponse m sid chain s
  | .heartbeat m => Sys2Proof.Machine.execHeartbeat m s
  | .keyUpdate m op => Sys2Proof.Machine.execKeyUpdate m op s
  | .endSession m => Sys2Proof.Machine.execEndSession m s
  | .chunkSend m handle seq last chunk => Sys2Proof.Machine.execChunkSend m handle seq last chunk s
  | .chunkGet m handle seq => Sys2Proof.Machine.execChunkGet m handle seq s
  | .vendorDefinedRequest m std vendor body => Sys2Proof.Machine.execVendorDefinedRequest m std vendor body s
  | .spdmUnsupportedRequest m code => Sys2Proof.Machine.execSpdmUnsupportedRequest m code s
  | .sessionHeartbeatTimeout sid => Sys2Proof.Machine.execSessionHeartbeatTimeout sid s
  | .getTdispVersion m func => Sys2Proof.Machine.execGetTdispVersion m func s
  | .getTdispCapabilities m func => Sys2Proof.Machine.execGetTdispCapabilities m func s
  | .lockInterfaceRequest m func => Sys2Proof.Machine.execLockInterfaceRequest m func s
  | .getDeviceInterfaceReport m func => Sys2Proof.Machine.execGetDeviceInterfaceReport m func s
  | .getDeviceInterfaceState m func => Sys2Proof.Machine.execGetDeviceInterfaceState m func s
  | .startInterfaceRequest m func nonce => Sys2Proof.Machine.execStartInterfaceRequest m func nonce s
  | .stopInterfaceRequest m func => Sys2Proof.Machine.execStopInterfaceRequest m func s
  | .ideKeyDeliveryVdm m vendor func stream keySet => Sys2Proof.Machine.execIdeKeyDeliveryVdm m vendor func stream keySet s
  | .tdispUnsupportedRequest m func code => Sys2Proof.Machine.execTdispUnsupportedRequest m func code s
  | .ideKmQuery m func => Sys2Proof.Machine.execIdeKmQuery m func s
  | .keyProg m func stream keySet => Sys2Proof.Machine.execKeyProg m func stream keySet s
  | .kSetGo m func stream keySet => Sys2Proof.Machine.execKSetGo m func stream keySet s
  | .kSetStop m func stream keySet => Sys2Proof.Machine.execKSetStop m func stream keySet s
  | .setEndpointId eid => Sys2Proof.Machine.execSetEndpointId eid s
  | .getEndpointId => Sys2Proof.Machine.execGetEndpointId s
  | .getMctpVersionSupport => Sys2Proof.Machine.execGetMctpVersionSupport s
  | .getMessageTypeSupport => Sys2Proof.Machine.execGetMessageTypeSupport s
  | .mctpVendorCommand type vendor cmdSet body => Sys2Proof.Machine.execMctpVendorCommand type vendor cmdSet body s
  | .announce m a => Sys2Proof.Machine.execAnnounce m a s
  | .sync m => Sys2Proof.Machine.execSync m s
  | .followUp m => Sys2Proof.Machine.execFollowUp m s
  | .delayResp m => Sys2Proof.Machine.execDelayResp m s
  | .ptpIgnoredMessage => Sys2Proof.Machine.execPtpIgnoredMessage s
  | .tpTxts id ts => Sys2Proof.Machine.execTpTxts id ts s
  | .txtsTimeout id => Sys2Proof.Machine.execTxtsTimeout id s
  | .timeNoSampleTimeout => Sys2Proof.Machine.execTimeNoSampleTimeout s
  | .holdoverTimeout => Sys2Proof.Machine.execHoldoverTimeout s
  | .freezeFire ldi => Sys2Proof.Machine.execFreezeFire ldi s
  | .debugRightsExpiry cert => Sys2Proof.Machine.execDebugRightsExpiry cert s
  | .debugNonceExpiry => Sys2Proof.Machine.execDebugNonceExpiry s
  | .meterIntervalTimer ldi => Sys2Proof.Machine.execMeterIntervalTimer ldi s
  | .meterBatchClose => Sys2Proof.Machine.execMeterBatchClose s
  | .errorLogWrite => Sys2Proof.Machine.execErrorLogWrite s
  | .traceSegmentPeriod src inst => Sys2Proof.Machine.execTraceSegmentPeriod src inst s
  | .coarseSnapshot => Sys2Proof.Machine.execCoarseSnapshot s
  | .powerEstimateUpdate milliwatt => Sys2Proof.Machine.execPowerEstimateUpdate milliwatt s
  | .breakpointHit addr => Sys2Proof.Machine.execBreakpointHit addr s
  | .haltDrainComplete => Sys2Proof.Machine.execHaltDrainComplete s
  | .watchdogExpiry => Sys2Proof.Machine.execWatchdogExpiry s
  | .lockstepMismatch => Sys2Proof.Machine.execLockstepMismatch s
  | .storeUe store word single => Sys2Proof.Machine.execStoreUe store word single s
  | .crossingFault inst toHost => Sys2Proof.Machine.execCrossingFault inst toHost s
  | .ckRootLost => Sys2Proof.Machine.execCkRootLost s
  | .ckRootReturn => Sys2Proof.Machine.execCkRootReturn s
  | .rsPorstAssert => Sys2Proof.Machine.execRsPorstAssert s
  | .porRelease porstN => Sys2Proof.Machine.execPorRelease porstN s
  | .rsSysreq => Sys2Proof.Machine.execRsSysreq s
  | .rsCorereq => Sys2Proof.Machine.execRsCorereq s
  | .resetHoldEnd left => Sys2Proof.Machine.execResetHoldEnd left s
  | .systemReset => Sys2Proof.Machine.execSystemReset s
  | .coreReset => Sys2Proof.Machine.execCoreReset s
  | .bootRomStart => Sys2Proof.Machine.execBootRomStart s
  | .bootDescriptorPoll b => Sys2Proof.Machine.execBootDescriptorPoll b s
  | .portsOpen => Sys2Proof.Machine.execPortsOpen s
  | .fuRsp rdata => Sys2Proof.Machine.execFuRsp rdata s
  | .powerWarn => Sys2Proof.Machine.execPowerWarn s
  | .powerHoldClear => Sys2Proof.Machine.execPowerHoldClear s
  | .tamperInput input => Sys2Proof.Machine.execTamperInput input s
  | .barometerSample inst marginTaps droop glitch bin => Sys2Proof.Machine.execBarometerSample inst marginTaps droop glitch bin s
  | .stretchRelax inst => Sys2Proof.Machine.execStretchRelax inst s
  | .tamperScoreDecay => Sys2Proof.Machine.execTamperScoreDecay s
  | .calEpochEnd inst bin => Sys2Proof.Machine.execCalEpochEnd inst bin s
  | .calWindowExpiry => Sys2Proof.Machine.execCalWindowExpiry s
  | .entropyTestFail raw => Sys2Proof.Machine.execEntropyTestFail raw s
  | .drbgReseed => Sys2Proof.Machine.execDrbgReseed s
  | .entropyStartupTestDone raw => Sys2Proof.Machine.execEntropyStartupTestDone raw s
  | .barometerStatusRefresh => Sys2Proof.Machine.execBarometerStatusRefresh s

end Sys2Proof.Machine
end

