-- ==== Sys2Proof/Safety.lean ====
section
/-!
DEFINITION. What the claims are stated in: the invariant of every state, and what a command may change and what it leaves.
-/
namespace Sys2Proof.Machine

/-- The mailbox is in its canonical form: equal contents are equal data. -/
def State.Inv (s : State) : Prop := Memory.wf s.mailbox = true

/-- A domain's record without its counters and its usage. -/
def Domain.core (d : Domain) : Domain := { d with usage := {}, meterNext := 0, counters := [], coarse := [] }

/-- The parts of the state that commands change: all but the build, which stands for good (R2 to R5), and the queue, which
is its sender's. The resource tables are parts of their own: the domains' records, their counters and usage (`tallies`),
the granule table, contexts, fences with the statuses that wait for them, arrival counters, and quarantined FDTs. -/
inductive Part
  | doms
  | tallies
  | got
  | contexts
  | fences
  | arrs
  | quarantine
  | weft
  | shuttle
  | batten
  | spindle
  | keys
  | entropy
  | spdm
  | metering
  | time
  | loom
  | log
  | counters
  | trace
  | events
  | bp
  | mailbox
  | otp
  | power
  | boot
  | dbg
  | baro
  | link
  | free
  | out
  deriving DecidableEq, Repr

/-- The resource tables, from a to b. -/
structure TablesTouch (F : List Part) (a b : Tables) : Prop where
  doms : Part.doms ∈ F ∨ ∀ l, (b.domains.findD l {}).core = (a.domains.findD l {}).core
  tallies : Part.doms ∈ F ∨ Part.tallies ∈ F ∨ b.domains = a.domains
  got : Part.got ∈ F ∨ b.got = a.got
  contexts : Part.contexts ∈ F ∨ b.contexts = a.contexts
  fences : Part.fences ∈ F ∨
    (b.fences = a.fences ∧ b.fenceFreed = a.fenceFreed ∧ b.fenceFresh = a.fenceFresh ∧ b.fenceQ = a.fenceQ)
  arrs : Part.arrs ∈ F ∨ (b.arrs = a.arrs ∧ b.arrFreed = a.arrFreed ∧ b.arrFresh = a.arrFresh)
  quarantine : Part.quarantine ∈ F ∨ (b.quarantine = a.quarantine ∧ b.quarWait = a.quarWait)

/-- From s to t, at most the parts of the list have changed. The mailbox stays canonical; OTP bits only become 1 (R457); no
draw of the DRBG is made twice (R202). -/
structure Touches (F : List Part) (s t : State) : Prop where
  build : t.build = s.build
  pending : t.pending = s.pending
  tables : TablesTouch F s.tables t.tables
  weft : Part.weft ∈ F ∨ t.weft = s.weft
  shuttle : Part.shuttle ∈ F ∨ t.shuttle = s.shuttle
  batten : Part.batten ∈ F ∨ t.batten = s.batten
  spindle : Part.spindle ∈ F ∨ t.spindle = s.spindle
  keys : Part.keys ∈ F ∨ t.keys = s.keys
  entropy : (Part.entropy ∈ F ∧ s.entropy.draws ≤ t.entropy.draws) ∨ t.entropy = s.entropy
  spdm : Part.spdm ∈ F ∨ t.spdm = s.spdm
  metering : Part.metering ∈ F ∨ t.metering = s.metering
  time : Part.time ∈ F ∨ t.time = s.time
  loom : Part.loom ∈ F ∨ t.loom = s.loom
  log : Part.log ∈ F ∨ t.log = s.log
  counters : Part.counters ∈ F ∨ t.counters = s.counters
  trace : Part.trace ∈ F ∨ t.trace = s.trace
  events : Part.events ∈ F ∨ t.events = s.events
  bp : Part.bp ∈ F ∨ t.bp = s.bp
  mailbox : (Part.mailbox ∈ F ∧ (Memory.wf s.mailbox = true → Memory.wf t.mailbox = true)) ∨ t.mailbox = s.mailbox
  otp : (Part.otp ∈ F ∧ ∀ a, s.otp.words.findD a 0 &&& t.otp.words.findD a 0 = s.otp.words.findD a 0) ∨ t.otp = s.otp
  power : Part.power ∈ F ∨ t.power = s.power
  boot : Part.boot ∈ F ∨ t.boot = s.boot
  dbg : Part.dbg ∈ F ∨ t.dbg = s.dbg
  baro : Part.baro ∈ F ∨ t.baro = s.baro
  link : Part.link ∈ F ∨ t.link = s.link
  free : Part.free ∈ F ∨ t.freeCount = s.freeCount
  out : Part.out ∈ F ∨ t.out = s.out

/-! ### A command's own effect (R246, R252, R255, R257, R261) -/

/-- The state in which a fetched command's checks 3 to 9 are made: off its queue, statuses before it applied, counted and
traced. -/
def State.checked (s : State) (c : Cmd) : State := (s.fetched c).settle.accepted c

/-- The command `c` is the next of `src`, it is of this entry, and it passes checks 1 to 8. -/
structure Begins (s : State) (src : Src) (sp : CmdSpec) (c : Cmd) : Prop where
  fetches : s.fetches src = true
  waiting : s.waitingCmd src = some c
  opcode : c.opcode = sp.opcode
  fresh : (s.fetched c).settle.seqCheck c.path c.seq = .fresh
  passes : (s.checked c).firstFailure sp c = none

/-- The state in which such a command's effect begins: its entry is made. -/
def State.begun (s : State) (sp : CmdSpec) (c : Cmd) : State := (s.checked c).enter sp c

/-- The row runs the command to its end: from the state v, in which its effect stands, the entry is committed with the
reply r, and what follows the reply is done (R198, R419). -/
def Completes (i : Instr) (s : State) (sp : CmdSpec) (c : Cmd) (r : Reply) (v : State) : Prop :=
  exec i s = .next ((sp.after c (v.commit ((s.checked c).newEntry sp c) r)).drainTurns)

/-- The row runs the command's first steps, to the state v, and suspends it: it waits for w, and k remains (R257). -/
def Suspends (i : Instr) (s : State) (sp : CmdSpec) (c : Cmd) (w : Wait) (k : Cont) (v : State) : Prop :=
  exec i s = .next ((sp.after c (v.suspend ((s.checked c).newJid sp c) w k)).drainTurns)

/-- The suspended entry e goes on at t: its wait is over, and its next steps run (R257, R261). -/
structure Wakes (t : State) (e : JEntry) : Prop where
  held : t.settle.loom.journal.find? (fun x => x.jid == e.jid) = some e
  runs : t.settle.stepsRun = true
  due : t.settle.waitHolds e = true

/-- The steps that remain complete the command: from the state v, in which their effect stands, the entry is committed with the
reply r. -/
def Ends (t : State) (e : JEntry) (r : Reply) (v : State) : Prop :=
  ∀ sup : Supply, exec (.journalStepResume e.jid sup) t = .next ((v.commit e r).endSpent.drainTurns)

/-- The row runs the command's first steps, which end as z says: without effect, complete, or suspended. -/
def Runs (i : Instr) (s : State) (sp : CmdSpec) (c : Cmd) (z : Res) : Prop :=
  match z with
  | .fail st => exec i s = .next (((s.checked c).failWith sp c st).drainTurns)
  | .refuse r => exec i s = .next (((s.checked c).reply c.entry 0 r true).drainTurns)
  | .done r v => Completes i s sp c r v
  | .wait w k v => Suspends i s sp c w k v

/-! ### What each command may touch -/

/-- The parts that a command on a ring or a session uses for its slot, its reply and its records (R239 to R251). -/
def ringParts : List Part := [.tallies, .fences, .shuttle, .spdm, .loom, .log, .counters, .trace, .mailbox, .out]

/-- The parts that the abort of a domain reaches (R56, R57). -/
def abortParts : List Part :=
  [.doms, .tallies, .fences, .quarantine, .weft, .shuttle, .batten, .spindle, .keys, .loom, .log, .counters, .trace, .events, .bp, .link, .out]

/-- The parts in which the data path keeps fence statuses, records and answers (R51, R389). -/
def dataParts : List Part := [.tallies, .fences, .arrs, .log, .counters, .trace, .out]

def allParts : List Part :=
  [.doms, .tallies, .got, .contexts, .fences, .arrs, .quarantine, .weft, .shuttle, .batten, .spindle, .keys, .entropy,
   .spdm, .metering, .time, .loom, .log, .counters, .trace, .events, .bp, .mailbox, .otp, .power, .boot, .dbg, .baro, .link, .free, .out]

/-- All parts but these. -/
def allBut (ps : List Part) : List Part := allParts.filter (fun p => !ps.contains p)

/-- The parts of the state that a command may change; it leaves every other part as it is. -/
def touches : Instr → List Part
  | .domCreate _ => ringParts ++ [.doms, .keys, .bp, .otp]
  | .domSetPolicy _ | .trcConfig _ => ringParts ++ [.doms]
  | .domAddContext _ | .domReleaseContext _ => ringParts ++ [.contexts, .bp]
  | .domSeal _ => allBut [.got, .contexts, .arrs, .metering, .otp, .power, .boot, .dbg, .baro, .free]
  | .domQuiesce _ | .cmpBindSlice _ | .cmpUnbindSlice _ | .cmpRebindPrepare _ | .cmpRebindCommit _ =>
    ringParts ++ [.doms, .bp]
  | .domAbort _ | .dbgResume _ | .prfFreezeAt _ => abortParts ++ [.spdm, .mailbox]
  | .domRetire _ => ringParts ++ [.doms, .weft, .batten, .spindle, .keys]
  | .domQuery _ | .memQuery _ | .redWindowQuery _ | .fenCreate _ | .fenDestroy _ | .lnkPortClass _
  | .lnkSaQuery _ | .keyEphemeralGet _ | .mtrRead _ | .timStatus _ | .prfRead _ | .trcMark _ | .trcRead _
  | .lcsQuery _ | .migFreeze _ | .migExport _ | .migImport _ | .snsStatus _ | .rcvLogRead _ | .rcvLogClear _
  | .rcvDumpRead _ | .ringTailWrite _ | .vendorDefinedRequest _ _ _ _ | .mctpVendorCommand _ _ _ _
  | .portsOpen => ringParts
  | .memAssign _ | .memRelease _ => ringParts ++ [.got, .weft]
  | .memScrub _ | .memFingerprint _ | .memDigest _ => abortParts ++ [.arrs, .spdm, .mailbox]
  | .memImportBlob _ | .keyWeightInstall _ | .keyWeightDrop _ => ringParts ++ [.keys]
  | .rebindSquashTimeout _ =>
    [.doms, .tallies, .fences, .shuttle, .batten, .time, .loom, .log, .counters, .trace, .bp, .out]
  | .redWindowOpen _ | .redWindowClose _ => ringParts ++ [.batten]
  | .arrAlloc _ | .arrFree _ => ringParts ++ [.arrs]
  | .fenRegisterProducer _ => ringParts ++ [.bp]
  | .lnkSaWarm _ | .attReport _ => ringParts ++ [.entropy]
  | .lnkGroupCreate _ | .attSessionOpen _ => abortParts ++ [.entropy, .spdm, .mailbox]
  | .mtrAck _ => ringParts ++ [.metering]
  | .timSetServo _ => ringParts ++ [.time]
  | .timOffsetMeasure _ | .migFreezeAnswerTimeout _ | .groupCreateTimeout _ _ => abortParts ++ [.spdm, .time, .mailbox]
  | .dbgCertPresent _ => allBut [.got, .contexts, .arrs, .metering, .time, .otp, .power, .boot, .baro, .free]
  | .dbgRevoke _ => abortParts ++ [.spdm, .mailbox, .dbg]
  | .dbgHalt _ => ringParts ++ [.free]
  | .lcsTransition _ | .lcsZeroize _ =>
    allBut [.got, .contexts, .arrs, .metering, .time, .power, .boot, .dbg, .baro, .free]
  | .lcsTransitionResetTimer => [.time, .loom, .otp, .power]
  | .lcsTokenUnlock _ => abortParts ++ [.spdm, .mailbox, .otp]
  | .migThaw _ => ringParts ++ [.doms, .arrs, .spindle, .keys]
  | .spnStreamOpen _ | .spnStreamClose _ => ringParts ++ [.doms, .spindle, .keys]
  | .snsCalWindow _ => ringParts ++ [.baro]
  | .journalStepResume _ _ => allBut [.power, .boot, .baro, .free]
  | .ringEvtClear _ | .dbgCoreRegWrite _ => [.loom, .counters, .out]
  | .evStatusClear _ | .evMapClear _ | .evEnableWrite _ => [.events, .out]
  | .ctcDevidWrite _ => [.keys, .entropy, .metering, .counters, .boot, .out]
  | .clockStatusClear _ => [.power, .out]
  | .timSnapCapture _ => [.time, .out]
  | .dbgArrDataRead _ _ => [.loom, .counters, .free, .out]
  | .registerWrite _ => [.loom, .counters, .mailbox, .out]
  | .dbgAccess _ => ringParts ++ [.keys, .entropy, .metering, .time, .events, .otp, .power, .boot, .dbg, .free]
  | .tapReset => [.dbg]
  | .hpRead _ | .hpFullWrite _ | .hpByteMaskedWrite _ | .gotFetchComplete _ _ | .mpReadReturn _ _ _ _
  | .writeGroupClose _ _ | .mpWriteAck _ _ => dataParts ++ [.weft]
  | .domainIntegrityEvent | .laneFailed _ | .fpIngressPacket _ | .nackReceived | .atomicRequestReceived
  | .atomicResponseReceived | .atomicQueryReceived | .ackOnlyReceived | .saFin _ | .saDone _ | .squall _
  | .freeze _ | .engineFailed _ _ | .bpInNeighbour _ _ _ | .kpFlr _ => abortParts
  | .scrubGranuleDone => dataParts ++ [.got, .weft]
  | .mpFlushAck _ _ | .unitFailed _ _ => abortParts ++ [.arrs]
  | .fpEgressPacket _ | .chain _ | .policy _ => abortParts ++ [.entropy]
  | .atomicDueExpiry _ _ | .ackOnlyTimer _ | .keepaliveTimer _ | .saLossTimeout _ | .offset _
  | .offsetProbeTimer _ | .offsetPeriodicExchange _ => abortParts ++ [.time]
  | .saInit _ => [.shuttle, .entropy, .out]
  | .saResp _ => [.shuttle, .entropy, .loom, .log, .counters, .trace, .out]
  | .chainGet _ => [.shuttle, .out]
  | .keepalive _ | .peerReply _ => [.shuttle]
  | .saFailedExpiry _ => [.shuttle, .time, .loom, .counters]
  | .groupKey _ => [.shuttle, .keys, .loom, .counters]
  | .groupKeyHoldExpiry => [.shuttle, .time]
  | .retired _ => [.quarantine, .shuttle, .loom, .counters]
  | .fdtQuarantineExpiry _ => [.quarantine, .time, .loom, .counters]
  | .peerCmd _ => allBut [.power, .boot]
  | .baReduce _ | .baMstore _ | .baAtomic _ => [.tallies, .fences, .batten, .log, .counters, .trace, .out]
  | .battenEntryApply _ _ | .battenWritebackAccepted _ _ => dataParts ++ [.weft, .shuttle, .batten]
  | .battenFillReturn _ => [.tallies, .fences, .weft, .shuttle, .batten, .loom, .log, .counters, .trace, .out]
  | .mirrorAck _ => [.tallies, .fences, .shuttle, .batten, .loom, .log, .counters, .trace, .out]
  | .battenWriteback _ _ => dataParts ++ [.weft, .batten, .time]
  | .windowContribution _ _ => dataParts ++ [.weft, .shuttle, .batten, .loom]
  | .windowLineAccepted _ => dataParts ++ [.weft, .batten]
  | .spindlePull _ _ => [.tallies, .fences, .spindle, .log, .counters, .trace, .out]
  | .spindleReissueTimeout _ => [.tallies, .spindle, .time, .counters, .trace, .out]
  | .fenceSignal | .bpInReport _ _ _ _ => [.tallies, .fences, .log, .counters, .trace, .out]
  | .bpAck _ | .bpInPresent _ _ _ _ => [.counters, .bp]
  | .hcpResetAssert | .hcpImageStream _ => [.boot]
  | .kpAck => [.keys, .spdm, .loom, .link, .out]
  | .kpLockedConfigWrite _ => [.link]
  | .kpIdeIntegrityFailure _ => abortParts ++ [.free]
  | .getVersion _ | .getCapabilities _ | .negotiateAlgorithms _ _ | .getDigests _ | .getCertificate _ _ _ _
  | .getEncapsulatedRequest _ _ | .heartbeat _ | .keyUpdate _ _ | .chunkGet _ _ _
  | .spdmUnsupportedRequest _ _ | .getTdispVersion _ _ | .getTdispCapabilities _ _
  | .getDeviceInterfaceReport _ _ | .getDeviceInterfaceState _ _ | .tdispUnsupportedRequest _ _ _
  | .ideKmQuery _ _ | .keyProg _ _ _ _ => [.spdm, .loom, .out]
  | .challenge _ _ _ | .getMeasurements _ _ _ _ _ => [.entropy, .spdm, .loom, .out]
  | .keyExchange _ _ => [.entropy, .spdm, .loom, .counters, .out]
  | .finish _ _ _ | .deliverEncapsulatedResponse _ _ _ | .endSession _ => [.spdm, .loom, .counters, .out]
  | .chunkSend _ _ _ _ _ => abortParts ++ [.entropy, .spdm]
  | .sessionHeartbeatTimeout _ => [.spdm, .time, .loom, .counters, .out]
  | .lockInterfaceRequest _ _ => [.entropy, .spdm, .loom, .link, .out]
  | .startInterfaceRequest _ _ _ | .kSetGo _ _ _ _ | .kSetStop _ _ _ _ => [.spdm, .loom, .link, .out]
  | .stopInterfaceRequest _ _ => abortParts ++ [.spdm]
  | .ideKeyDeliveryVdm _ _ _ _ _ => [.keys, .entropy, .spdm, .loom, .link, .out]
  | .setEndpointId _ => [.link, .out]
  | .getEndpointId | .getMctpVersionSupport | .getMessageTypeSupport => [.out]
  | .announce _ _ => [.time, .log, .counters, .trace]
  | .sync _ => [.time, .log, .counters, .trace, .out]
  | .followUp _ | .delayResp _ | .tpTxts _ _ | .timeNoSampleTimeout | .holdoverTimeout | .debugRightsExpiry _ =>
    [.doms, .tallies, .fences, .weft, .shuttle, .batten, .keys, .time, .loom, .log, .counters, .trace, .events, .bp, .dbg, .out]
  | .ptpIgnoredMessage | .txtsTimeout _ => [.time]
  | .freezeFire _ | .powerEstimateUpdate _ => [.time, .counters]
  | .debugNonceExpiry => [.time, .dbg]
  | .meterIntervalTimer _ => [.tallies, .metering, .time]
  | .meterBatchClose => [.entropy, .metering, .time, .events]
  | .errorLogWrite => [.tallies, .fences, .log, .counters, .trace, .events, .out]
  | .traceSegmentPeriod _ _ => [.time, .counters, .trace]
  | .coarseSnapshot => [.tallies, .time, .counters]
  | .breakpointHit _ => [.loom, .free]
  | .haltDrainComplete => [.loom, .events]
  | .watchdogExpiry => [.tallies, .fences, .time, .loom, .log, .counters, .trace, .events, .power, .out]
  | .lockstepMismatch => [.tallies, .fences, .loom, .log, .counters, .trace, .events, .power, .out]
  | .storeUe _ _ _ => abortParts ++ [.metering, .power, .boot]
  | .crossingFault _ _ => abortParts ++ [.arrs, .power, .free]
  | .ckRootLost | .porRelease _ => [.power]
  | .ckRootReturn => [.keys, .entropy, .metering, .loom, .log, .counters, .trace, .otp, .power, .boot, .out]
  | .rsPorstAssert => allParts
  | .rsSysreq | .rsCorereq => [.loom, .power]
  | .resetHoldEnd _ => abortParts ++ [.time, .power]
  | .systemReset => allBut [.free]
  | .coreReset => allBut [.baro, .free]
  | .bootRomStart | .bootDescriptorPoll _ | .fuRsp _ =>
    [.keys, .entropy, .metering, .log, .counters, .trace, .otp, .boot, .out]
  | .powerWarn => [.events, .power]
  | .powerHoldClear => [.time, .otp, .power, .out]
  | .tamperInput _ =>
    [.tallies, .fences, .weft, .shuttle, .spindle, .keys, .entropy, .log, .counters, .trace, .events, .power, .link, .out]
  | .barometerSample _ _ _ _ _ =>
    [.tallies, .fences, .weft, .shuttle, .spindle, .keys, .entropy, .log, .counters, .trace, .events, .power, .baro, .link, .out]
  | .stretchRelax _ | .calEpochEnd _ _ => [.baro]
  | .tamperScoreDecay | .barometerStatusRefresh => [.time, .baro]
  | .calWindowExpiry => [.time, .log, .counters, .trace, .baro]
  | .entropyTestFail _ => [.entropy, .events]
  | .drbgReseed => [.entropy, .time]
  | .entropyStartupTestDone _ => [.keys, .entropy, .metering, .events]

/-! ### What the data path asks -/

/-- What a lane needs to take a request that passes its C2 at once: the port is ready, the form and the lane are right, the GOT
cache holds the granule and no fetch of it is outstanding, the domain has its memory keys, no earlier request of the line is in the
way, and no response of the line is owed (R19, R39, R60, R63, R64, R192, R437, R438). -/
def LaneTakes (s : State) (r : HpReq) (op : LineOp) : Prop :=
  s.hpReady r op = true ∧ r.op = op.code ∧ hpBadForm r op = false ∧ s.build.laneOf r.dli = r.lane ∧
  (s.lane r.lane).dead = false ∧ (s.lane r.lane).got.contains (granuleOf r.dli) = true ∧
  (s.lane r.lane).misses.any (fun m => m.1 == granuleOf r.dli) = false ∧
  s.keyless r.ldi = false ∧
  (s.lane r.lane).blocked r.dli = false ∧ (s.lane r.lane).lastRead (hpLine r .read) = none

/-- What the router asks of a `BA_` request's entries before it queues them: the domain runs, its counter is its own, no unit
is dead, and every queue has room (R151, R155, R166, R168). -/
def RouterTakes (s : State) (r : BaReq) (ws : List (Nat × Nat × BWork)) : Prop :=
  s.baUp = true ∧ (s.dom r.ldi).state.flows = true ∧ (r.arr = 0 ∨ s.arrOk r.ldi r.arr = true) ∧ s.routeDead ws = false ∧
  s.routeFits 24 ws = true

/-! ### What a request or a command row asks -/

/-- An SPDM request that the responder answers by its own rule: it runs, the request is taken off its transport with the state
t, the version is 1.3 (GET_VERSION alone is `anyVersion`), the request may stand where it does, and after set-up the algorithms
are agreed (R207, R209, R213). -/
def SpdmTakes (s : State) (i : Instr) (m : SpdmCtx) (anyVersion : Bool) (p : Place) (t : State) : Prop :=
  s.spdmUp m = true ∧ s.takeSpdm i m = some t ∧ (anyVersion = true ∨ m.version = spdmVersion) ∧
  (m.conn = .mctp → p ≠ .setup → t.identityUp = true) ∧ t.placeOk m p = true ∧
  (p ≠ .setup → p ≠ .nowhere → (t.spdmConn m.conn).algs = true)

/-- The request, which leaves u, is answered with this message; a response that is no ERROR goes into the connection's
transcript with its request, and into what a session's transcript begins with where it is of set-up. -/
def Answers (i : Instr) (s : State) (m : SpdmCtx) (p : Place) (code : Nat) (body : Bytes) (u : State) : Prop :=
  let b := requestBytes i ++ Config.spdmEncode code body
  let v := if code = 0x7F then u else if p = .setup then (u.addTranscript m.conn b).addSetup m.conn b else u.addTranscript m.conn b
  exec i s = .next (v.sendSpdm m.conn m.session code body)

/-- The source and the entry of the command reference of a row that fetches a command by its entry alone. -/
def commandRow : Instr → Option (Src × CmdSpec)
  | .domCreate x => some (x, domCreateSpec)
  | .domSetPolicy x => some (x, domSetPolicySpec)
  | .domAddContext x => some (x, domAddContextSpec)
  | .domReleaseContext x => some (x, domReleaseContextSpec)
  | .domSeal x => some (x, domSealSpec)
  | .domQuiesce x => some (x, domQuiesceSpec)
  | .domAbort x => some (x, domAbortSpec)
  | .domRetire x => some (x, domRetireSpec)
  | .domQuery x => some (x, domQuerySpec)
  | .memAssign x => some (x, memAssignSpec)
  | .memRelease x => some (x, memReleaseSpec)
  | .memScrub x => some (x, memScrubSpec)
  | .memQuery x => some (x, memQuerySpec)
  | .memImportBlob x => some (x, memImportBlobSpec)
  | .memFingerprint x => some (x, memFingerprintSpec)
  | .memDigest x => some (x, memDigestSpec)
  | .cmpBindSlice x => some (x, cmpBindSliceSpec)
  | .cmpUnbindSlice x => some (x, cmpUnbindSliceSpec)
  | .cmpRebindPrepare x => some (x, cmpRebindPrepareSpec)
  | .cmpRebindCommit x => some (x, cmpRebindCommitSpec)
  | .redWindowOpen x => some (x, redWindowOpenSpec)
  | .redWindowClose x => some (x, redWindowCloseSpec)
  | .redWindowQuery x => some (x, redWindowQuerySpec)
  | .arrAlloc x => some (x, arrAllocSpec)
  | .arrFree x => some (x, arrFreeSpec)
  | .fenCreate x => some (x, fenCreateSpec)
  | .fenRegisterProducer x => some (x, fenRegisterProducerSpec)
  | .fenDestroy x => some (x, fenDestroySpec)
  | .lnkPortClass x => some (x, lnkPortClassSpec)
  | .lnkSaWarm x => some (x, lnkSaWarmSpec)
  | .lnkSaQuery x => some (x, lnkSaQuerySpec)
  | .lnkGroupCreate x => some (x, lnkGroupCreateSpec)
  | .keyEphemeralGet x => some (x, keyEphemeralGetSpec)
  | .keyWeightInstall x => some (x, keyWeightInstallSpec)
  | .keyWeightDrop x => some (x, keyWeightDropSpec)
  | .attReport x => some (x, attReportSpec)
  | .mtrRead x => some (x, mtrReadSpec)
  | .mtrAck x => some (x, mtrAckSpec)
  | .timStatus x => some (x, timStatusSpec)
  | .timSetServo x => some (x, timSetServoSpec)
  | .timOffsetMeasure x => some (x, timOffsetMeasureSpec)
  | .dbgCertPresent x => some (x, dbgCertPresentSpec)
  | .dbgRevoke x => some (x, dbgRevokeSpec)
  | .dbgHalt x => some (x, dbgHaltSpec)
  | .dbgResume x => some (x, dbgResumeSpec)
  | .prfFreezeAt x => some (x, prfFreezeAtSpec)
  | .prfRead x => some (x, prfReadSpec)
  | .trcConfig x => some (x, trcConfigSpec)
  | .trcMark x => some (x, trcMarkSpec)
  | .trcRead x => some (x, trcReadSpec)
  | .lcsQuery x => some (x, lcsQuerySpec)
  | .lcsTransition x => some (x, lcsTransitionSpec)
  | .lcsTokenUnlock x => some (x, lcsTokenUnlockSpec)
  | .lcsZeroize x => some (x, lcsZeroizeSpec)
  | .migFreeze x => some (x, migFreezeSpec)
  | .migExport x => some (x, migExportSpec)
  | .migImport x => some (x, migImportSpec)
  | .migThaw x => some (x, migThawSpec)
  | .spnStreamOpen x => some (x, spnStreamOpenSpec)
  | .spnStreamClose x => some (x, spnStreamCloseSpec)
  | .snsStatus x => some (x, snsStatusSpec)
  | .snsCalWindow x => some (x, snsCalWindowSpec)
  | .rcvLogRead x => some (x, rcvLogReadSpec)
  | .rcvLogClear x => some (x, rcvLogClearSpec)
  | .rcvDumpRead x => some (x, rcvDumpReadSpec)
  | _ => none

end Sys2Proof.Machine
end

