-- ==== Sys2Proof/Certificates/Slice0/Obligations.lean ====
section
/-!
DEFINITION. What the model is claimed to do: the rules of the spec's chapters as statements about one command, one step, or
one shared operation. A statement joins the rows of one family; each of its parts holds for every state and every operand that
its premises leave. `Begins`, `Completes`, `Suspends`, `Runs`, `LaneTakes`, `RouterTakes`, `SpdmTakes`, `Answers` and `touches`
are in Sys2Proof/Safety.lean.
-/
open Sys2Proof Sys2Proof.Machine

/-- A step runs the command at the front of the queue on the state with the queue's rest. -/
def Obligations.StepRunsTheFrontCommand : Prop :=
  ∀ (s : State) (c : Instr) (q : List Instr), s.pending = c :: q → step s = exec c { s with pending := q }

/-- On an empty queue one tick of CLK_TIME passes, in which nothing but the counters moves (the model's choice: log entry 1). -/
def Obligations.EmptyQueueTicks : Prop :=
  ∀ (s : State), s.pending = [] → ∃ t, step s = .next t ∧ t = { s with time := t.time } ∧
    (s.power.rootValid = true → s.power.phase ≠ .por → t.time.freerun = (s.time.freerun + 1) % 2 ^ 64) ∧
    (s.power.rootValid = false ∨ s.power.phase = .por → t.time = s.time)

/-- The state after reset keeps the invariant of the mailbox, and holds what the spec gives for reset: no domain, every granule
FREE, no SA, no key, no record, FREERUN 0 and the time UNKNOWN, no event, ports and rings closed (R29, R38, R226, R235,
R373, R466, R469, R484). -/
def Obligations.ResetStateIsEmpty : Prop :=
  State.reset.Inv ∧ State.reset.pending = [] ∧ State.reset.power.cause = 0x01 ∧
  (∀ l, (State.reset.dom l).state = .empty ∧ (State.reset.dom l).gen = 0) ∧ (∀ g, (State.reset.got g).state = .free) ∧
  (∀ p, (State.reset.sa p).state = .free) ∧ State.reset.keys.slots = [] ∧ State.reset.drbgReady = false ∧
  State.reset.log.places = [] ∧ State.reset.log.queue = [] ∧ State.reset.time.freerun = 0 ∧ State.reset.time.state = .unknown ∧
  State.reset.events.status = 0 ∧ State.reset.events.enable = 0 ∧ State.reset.loom.portsOpen = false ∧
  State.reset.loom.ringsOpen = false ∧ (∀ i, State.reset.ring i = {}) ∧ State.reset.out = []

/-- Every step keeps the mailbox in its canonical form. -/
def Obligations.StepsKeepTheMailboxCanonical : Prop :=
  ∀ (s t : State), s.Inv → step s = .next t → t.Inv

/-- A command changes at most the parts of the state that `touches` lists for it: every other register, table, buffer, counter,
key, memory and pin is as before, OTP bits never fall, and no draw of the DRBG is made twice. -/
def Obligations.CommandsTouchOnlyTheirParts : Prop :=
  ∀ (c : Instr) (s t : State), exec c s = .next t → Touches (touches c) s t

/-- No step clears an OTP bit (R457). -/
def Obligations.OtpBitsNeverFall : Prop :=
  ∀ (s t : State) (a i : Nat), step s = .next t → (s.otp.words.findD a 0).getLsbD i = true → (t.otp.words.findD a 0).getLsbD i = true

/-- Checks 1 to 8 of a fetched command, in the order of R255 (R246, R252, R255), and the first of its own (R267, R291): a logged
SEQ is answered again with DUP set, any other SEQ than NEXT with ST_SEQUENCE, which is not logged, and the first failure
after them with its reply; the command gets no journal entry. That the checks of one row stand in the order of the model
where several fail is DEDUCED (log entry 28). The only other effect is that of R51 on the fence that the command names,
which a failure of checks 6 to 9 has and a failure of checks 3 to 5 has not (DEDUCED, log entry 41). -/
def Obligations.CommandsAreCheckedInOrder : Prop :=
  ∀ (i : Instr) (s : State) (src : Src) (sp : CmdSpec) (c : Cmd) (b : Bytes) (r : Reply) (st : Nat),
    commandRow i = some (src, sp) → s.fetches src = true → s.waitingCmd src = some c → c.opcode = sp.opcode →
    let u := (s.fetched c).settle
    (u.seqCheck c.path c.seq = .duplicate b →
      exec i s = .next (((u.bump 0x002).deliver c.entry (dupReply b) []).drainTurns)) ∧
    (u.seqCheck c.path c.seq = .outside →
      exec i s = .next ((u.reply c.entry 0 { status := stSequence } false).drainTurns)) ∧
    (u.seqCheck c.path c.seq = .fresh → (s.checked c).checkFailure sp c = none → (s.checked c).ownFailure sp c = some st →
      exec i s = .next (((s.checked c).failWith sp c st).drainTurns) ∧ (sp.ldiOk c = false → st = stBadParam) ∧
      (sp.ldiOk c = true → st = stState)) ∧
    (u.seqCheck c.path c.seq = .fresh → (s.checked c).checkFailure sp c = some r →
      exec i s = .next (((s.checked c).refuseWith sp c r).drainTurns) ∧
      ((sp.names c = none ∨ r.status = stDenied ∨ r.status = stUnsupported) →
        (s.checked c).refuseWith sp c r = (s.checked c).reply c.entry 0 { r with result := sp.failResult } true) ∧
      (c.hver ≠ 1 → r.status = stUnsupported) ∧
      (c.hver = 1 → sp.perm[c.cls.column]? = some .none → r.status = stDenied) ∧
      (c.hver = 1 → sp.perm[c.cls.column]? ≠ some .none → (s.checked c).inScope sp c = true → sp.formOk c = false →
        r.status = stBadParam) ∧
      (c.hver = 1 → sp.perm[c.cls.column]? ≠ some .none → (s.checked c).inScope sp c = true → sp.formOk c = true →
        (s.checked c).extShort sp c = none → s.power.hold = true → sp.hold c = true → r.status = stPowerHold))

/-- A reply on a ring (R249, R250, R252, R253): 64 bytes in the command's reply slot, the extended reply in its buffer, no other
byte of the mailbox; REPLY advances, NEXT follows the SEQ, EVT is set unless QUIET, and the reply is logged. -/
def Obligations.RingRepliesAreWritten : Prop :=
  ∀ (s : State) (e : JEntry) (i jid : Nat) (r : Reply), s.Inv → e.path = .ring i → e.slot < 16 →
    let t := s.reply e jid r true
    let b := replyBytes e false jid r
    let at_ := partOffset i + 0x1000 + 64 * e.slot
    let ext := partOffset i + 0x1400 + e.bufOff
    b.length = 64 ∧
    (∀ k, k < 64 → Memory.read t.mailbox (at_ + k) = b.getD k 0) ∧
    (∀ k, k < r.ext.length → Memory.read t.mailbox (ext + k) = r.ext.getD k 0) ∧
    (∀ a, (a < at_ ∨ at_ + 64 ≤ a) → (a < ext ∨ ext + r.ext.length ≤ a) → Memory.read t.mailbox a = Memory.read s.mailbox a) ∧
    (t.ring i).reply = ((s.ring i).reply + 1) % 2 ^ 32 ∧ (t.ring i).next = (e.seq + 1) % 2 ^ 32 ∧
    (t.ring i).evt = ((s.ring i).evt || !e.quiet) ∧ (t.ring i).running = false ∧ (t.ring i).head = (s.ring i).head ∧
    (t.ring i).tail = (s.ring i).tail ∧ (t.ring i).replyLog.head? = some { seq := e.seq, reply := b } ∧
    ∀ k, k ≠ i → t.ring k = s.ring k

/-- An abort event that reaches a domain in BUILDING to QUIESCING (R34, R199, R259, R448, R469): the domain is ABORTED, its
aborted keys are destroyed, its queues close, its commands are overtaken, every ARMED fence signals ST_ABORTED with the
cause, the event is raised, and no other domain changes state. During a CORE restart all but the fence signals is done at
once (R385). That the abort then waits in a list, and that while the cores are halted all of it but the marking waits there,
is the model's reading (DEDUCED, log entry 24). -/
def Obligations.AbortStopsTheDomain : Prop :=
  ∀ (s : State) (l cause : Nat) (origin : Bool), (s.dom l).retiring = false →
    let t := s.abort l cause origin
    ((s.dom l).state.abortable = false → t = s) ∧
    ((s.dom l).state.abortable = true →
      (t.dom l).state = .aborted ∧ (t.dom l).frozen = false ∧ (t.dom l).mig = none ∧ (t.dom l).gen = (s.dom l).gen ∧
      (∀ e ∈ t.loom.journal, e.ldi = l → e.journaled = true → e.overtaken = true) ∧
      (∀ k, k ≠ l → (t.dom k).state = (s.dom k).state) ∧
      (s.loom.restarting = true ∨ s.loom.halted = false → Output.bpPub (gateRec l false) ∈ t.out ∧
        t.keys.slots.any (fun x => x.2.ldi == l && endsAtAbort x.2.type) = false ∧
        t.events.status.getLsbD 6 = true ∧ (l < 256 → t.events.abort.getLsbD l = true)) ∧
      (s.loomRuns = true → ∀ i ∈ s.settle.armedOf l, (t.fence i).state = .signalled ∧ (t.fence i).status = stAborted ∧
        (t.fence i).cause = cause ∧
        Output.bpFence (fenceHandle i (s.settle.fence i).epoch) (s.settle.fence i).ldi stAborted cause ∈ t.out) ∧
      (s.loomRuns = false → ∃ a ∈ t.loom.abortsDue, a.ldi = l ∧ a.cause = cause ∧ a.gen = (s.dom l).gen))

/-- JOURNAL_STEP_RESUME (R257, R259, R261): an entry whose condition holds runs its next steps and is committed with its reply,
or waits again; one that an abort has overtaken ends with ST_ABORTED. PEER commands run by their entry, on their path's turn
(R243, R254, R257). A PEER_CMD shorter than a slot is dropped and counted: the model's reading, since the spec gives none
(DEDUCED, log entry 8).

Rows that it shows to complete: JOURNAL_STEP_RESUME, PEER_CMD, PEER_REPLY. -/
def Obligations.SuspendedAndPeerCommandsRun : Prop :=
  ∀ (s : State) (jid peer : Nat) (sup : Supply) (e : JEntry) (res : Bytes) (l : Nat) (m : CtrlMsg) (t : State) (sp : CmdSpec),
    (
      let u := s.settle
      u.loom.journal.find? (fun e => e.jid == jid) = some e → u.stepsRun = true → u.waitHolds e = true →
      (e.cont = .reply res → exec (.journalStepResume jid sup) s =
        .next ((u.commit e (if e.overtaken then { status := stAborted } else { result := res })).endSpent.drainTurns)) ∧
      (e.cont = .quiesce l → e.overtaken = false → exec (.journalStepResume jid sup) s =
        .next ((u.commit e { result := leBytes 4 (u.inflight l) }).endSpent.drainTurns)) ∧
      (e.cont = .transition l → exec (.journalStepResume jid sup) s = .next (u.endTransition e l [])) ∧
      ((∀ d, e.cont ≠ .transition d ∧ e.cont ≠ .unlock d) → exec (.journalStepResume jid sup) s =
        .next (u.settleEntry e (if e.overtaken then u.resumeAborted e sup else u.resume e sup)))) ∧
    (s.takeMsg peer 0x0D (fun b => fieldAt b 0 1 == 0 && b != []) = some (m, t) → s.peersServed = true →
      let c := peerCommand peer m.body
      let u := (t.tookTurn 70).traceCmd c.entry 0 0 0
      (m.body.length < 260 → exec (.peerCmd peer) s = .next t.countDropped) ∧
      (260 ≤ m.body.length →
        (specOf c.opcode = some sp → exec (.peerCmd peer) s = .next ((u.runCommand sp c).endSpent.drainTurns)) ∧
        (specOf c.opcode = some sp → c.hver = 1 → sp.perm[5]? = some .none → exec (.peerCmd peer) s =
          .next (((u.settle.accepted c).reply c.entry 0 { status := stDenied, result := sp.failResult } true).endSpent.drainTurns)) ∧
        (specOf c.opcode = none → exec (.peerCmd peer) s =
          .next (((u.settle.accepted c).reply c.entry 0 { status := stUnsupported } true).endSpent.drainTurns)))) ∧
    (s.clocked = true → s.takeMsg peer 0x0D (fun b => fieldAt b 0 1 == 1) = some (m, t) →
      exec (.peerReply peer) s = .next t)

/-- DOM_CREATE with arguments that are in order, on a device with no usable LDI, has no effect: ST_EXHAUSTED when one is
exhausted and every other holds a domain, ST_NO_RESOURCE when all hold domains (R76). -/
def Obligations.CreateWithoutAnLdiFails : Prop :=
  ∀ (s : State) (src : Src) (c : Cmd), Begins s src domCreateSpec c →
    let u := s.begun domCreateSpec c
    u.rootUp = true → u.boot.devidSet = true → (c.p 10 1 = 0 ∨ u.vmLdi (c.p 10 1) = none) → c.p 10 1 ≤ 63 →
    u.fdtQuarantined (c.p 4 2) = false → u.quarantineFull = false → c.p 0 4 ≠ 0 → u.ldiOfGdid (c.p 0 4) = none →
    c.p 4 2 ≠ 0 → u.ldisWith (fun d => d.state.live && d.fdt == c.p 4 2) = [] → c.p 6 2 < c.p 8 2 →
    leAll grantMin (grantOf c).list = true → leAll (grantOf c).list grantMax = true →
    (∀ l, 1 ≤ l → l ≤ 255 → (u.dom l).state.live = true ∨ (u.dom l).gen = 65535) →
    ((∃ l, 1 ≤ l ∧ l ≤ 255 ∧ (u.dom l).gen = 65535) →
      exec (.domCreate src) s = .next (((s.checked c).reply c.entry 0 { status := stExhausted } true).drainTurns)) ∧
    ((∀ l, 1 ≤ l → l ≤ 255 → (u.dom l).state.live = true) → u.ldisWith (fun d => d.gen == 65535) = [] →
      exec (.domCreate src) s = .next (((s.checked c).reply c.entry 0 { status := stNoResource } true).drainTurns))

/-- A DOM_CREATE that begins while the root keys and the DEVID are there, whose GDID, FDT and virtual-machine ring are free,
whose rank and grant are in range and fit the pools, takes the LDI of R29 and an error fence for it, and publishes the LDI's
map generation (R29, R37, R141, R269).

Rows that it shows to complete: DOM_CREATE. -/
def Obligations.DomCreateMakesTheDomain : Prop :=
  ∀ (s : State) (src : Src) (c : Cmd) (l h : Nat) (w : State),
    Begins s src domCreateSpec c →
    let u := s.begun domCreateSpec c
    let g := grantOf c
    u.rootUp = true → u.boot.devidSet = true →
    (c.p 10 1 = 0 ∨ u.vmLdi (c.p 10 1) = none) → c.p 10 1 ≤ 63 →
    u.fdtQuarantined (c.p 4 2) = false → u.quarantineFull = false →
    c.p 0 4 ≠ 0 → u.ldiOfGdid (c.p 0 4) = none →
    c.p 4 2 ≠ 0 → u.ldisWith (fun d => d.state.live && d.fdt == c.p 4 2) = [] →
    c.p 6 2 < c.p 8 2 → leAll grantMin g.list = true → leAll g.list grantMax = true → u.grantFits g = true →
    u.chooseLdi = some l → ((u.setDom l (u.newDomain l c)).installMemKeys l).allocFence l 0 = some (h, w) →
    ∃ v, Completes (.domCreate src) s domCreateSpec c
        { result := leBytes 1 l ++ leBytes 1 0 ++ leBytes 2 (u.dom l).gen ++ leBytes 4 h } v ∧
      v.dom l = { u.newDomain l c with errFence := h } ∧
      (∃ i, h = fenceHandle i (v.fence i).epoch ∧ (v.fence i).ldi = l ∧ (v.fence i).state = .armed) ∧
      Output.bpPub (mapRec l (u.newDomain l c).mapCur false) ∈ v.out ∧
      (∀ k, k ≠ l → v.dom k = u.dom k) ∧ v.otp.zeroizedFlag = false

/-- DOM_SET_POLICY, DOM_QUIESCE, DOM_ABORT, DOM_RETIRE and DOM_QUERY on a domain whose state their entries take (R53, R258,
R270, R274, R275, R276, R277): each has its effect and completes, at once or after the wait that its entry names. DOM_RETIRE
signals every ARMED fence with ST_ABORTED, cause 0x09. DOM_QUERY reads the last commit.

DOM_ADD_CONTEXT and DOM_RELEASE_CONTEXT (R52, R271, R272): a free context ID and slot are taken, and the queues are
published; a release marks the context and publishes that its queues close. When the host has acknowledged, the command
completes, and a released context is gone. Which free ID and slot are taken, the lowest, is the model's choice (DESIGN
CHOICE, log entry 21).

DOM_SEAL (R32, R36, R273): from BUILDING to SEALED, or with AUTO_RUN to RUNNING; a tenant starts a SEALED domain, and finds
a RUNNING one as it is. RUNNING opens the gate (R31, R447).

Rows that it shows to complete: DOM_SET_POLICY, DOM_QUIESCE, DOM_ABORT, DOM_RETIRE, DOM_QUERY, DOM_ADD_CONTEXT,
DOM_RELEASE_CONTEXT, DOM_SEAL. -/
def Obligations.DomainCommandsTakeEffect : Prop :=
  (∀ (s : State) (src : Src) (c : Cmd),
     (Begins s src domSetPolicySpec c →
       let u := s.begun domSetPolicySpec c
       let new := BitVec.ofNat 32 (c.p 0 4)
       (c.cls = .tenant → loosens (u.dom c.ldi).policy new = false) → u.refusesBound (u.dom c.ldi) new = false →
       Completes (.domSetPolicy src) s domSetPolicySpec c { result := bvBytes 4 new }
         (u.setDom c.ldi { u.dom c.ldi with policy := new })) ∧
     (Begins s src domQuiesceSpec c →
       let u := s.begun domQuiesceSpec c
       ((u.dom c.ldi).state ∈ [DomState.building, .sealed_, .running] →
         Suspends (.domQuiesce src) s domQuiesceSpec c (.bp u.bp.nextSync) (.quiesce c.ldi)
           ((u.setDom c.ldi { u.dom c.ldi with state := .quiescing }).publish [gateRec c.ldi false]).2) ∧
       ((u.dom c.ldi).state ∉ [DomState.building, .sealed_, .running] →
         Completes (.domQuiesce src) s domQuiesceSpec c { result := leBytes 4 (u.inflight c.ldi) } u)) ∧
     (∀ (t : State) (e : JEntry) (l : Nat), Wakes t e → e.overtaken = false → e.cont = .quiesce l →
       Ends t e { result := leBytes 4 (t.settle.inflight l) } t.settle) ∧
     (Begins s src domAbortSpec c →
       let u := s.begun domAbortSpec c
       ((u.dom c.ldi).state ≠ .aborted →
         Completes (.domAbort src) s domAbortSpec c { result := leBytes 4 (u.armedOf c.ldi).length }
           (u.abort c.ldi (if c.cls = .tenant then 0x02 else 0x01) true)) ∧
       ((u.dom c.ldi).state = .aborted → Completes (.domAbort src) s domAbortSpec c { result := leBytes 4 0 } u)) ∧
     (Begins s src domRetireSpec c →
       let u := s.begun domRetireSpec c
       ∃ w p b v, Suspends (.domRetire src) s domRetireSpec c (.inflight c.ldi) (.retireDrain c.ldi w p b) v ∧
         (v.dom c.ldi).gen = (u.dom c.ldi).gen + 1 ∧ (v.dom c.ldi).retiring = true ∧
         (∀ i ∈ u.settle.armedOf c.ldi, (v.fence i).state = .signalled ∧ (v.fence i).status = stAborted ∧
           (v.fence i).cause = 0x09) ∧
         v.keys.slots.any (fun x => x.2.ldi == c.ldi && endsAtAdvance x.2.type) = false) ∧
     (∀ (t : State) (e : JEntry) (l w p b : Nat), Wakes t e → e.overtaken = false → e.cont = .retireUnbind l w p b →
       ∃ v, Ends t e { result := retireReply (t.settle.dom l).gen w p b } v ∧ (v.dom l).state = .retired) ∧
     (Begins s src domQuerySpec c →
       let u := s.begun domQuerySpec c
       let d := u.committedDom c.ldi
       queryShape c = true →
       ∃ r, Completes (.domQuery src) s domQuerySpec c r u ∧ r.status = stOk ∧
         (queryExtended c = true → r.ext = (u.committed.queryRecords c).1.flatten) ∧
         (queryExtended c = false → r.result.take 8 = leBytes 1 d.state.code ++ leBytes 1 d.flagByte
           ++ leBytes 2 d.gen ++ leBytes 4 d.gdid))) ∧
  (∀ (s : State) (src : Src) (c : Cmd) (i k : Nat) (x : Context),
     (Begins s src domAddContextSpec c →
       let u := s.begun domAddContextSpec c
       let qs := words c.params 4 (c.p 0 2)
       1 ≤ c.p 0 2 → c.p 0 2 ≤ 1024 → (c.pbuf = true ∨ c.p 0 2 ≤ 54) → qs.eraseDups.length = c.p 0 2 →
       (∀ q ∈ qs, covered u.bp.queues q = true) → (∀ q ∈ qs, ∀ y ∈ u.tables.contexts.vals, q ∉ y.queues) →
       (u.contextsOf c.ldi).length < (u.dom c.ldi).grant.contexts →
       u.freeContext = some i → u.freeCslot c.ldi = some k →
       ∃ v, Suspends (.domAddContext src) s domAddContextSpec c (.bp u.bp.nextSync) (.reply (leBytes 2 i ++ leBytes 1 k)) v ∧
         v.tables.contexts.find i = some { ldi := c.ldi, slot := k, queues := qs } ∧
         ∀ q ∈ qs, Output.bpPub (queueRec q c.ldi i true) ∈ v.out) ∧
     (∀ (t : State) (e : JEntry) (res : Bytes), Wakes t e → e.overtaken = false → e.cont = .reply res →
       Ends t e { result := res } t.settle) ∧
     (Begins s src domReleaseContextSpec c →
       let u := s.begun domReleaseContextSpec c
       u.tables.contexts.find (c.p 0 4) = some x → x.ldi = c.ldi →
       ∃ v, Suspends (.domReleaseContext src) s domReleaseContextSpec c (.bp u.bp.nextSync) (.releaseContext c.ldi (c.p 0 4)) v ∧
         v.tables.contexts.find (c.p 0 4) = some { x with releasing := true } ∧
         ∀ q ∈ x.queues, Output.bpPub (queueRec q c.ldi (c.p 0 4) false) ∈ v.out) ∧
     (∀ (t : State) (e : JEntry) (l n : Nat), Wakes t e → e.overtaken = false → e.cont = .releaseContext l n →
       ∃ res v, Ends t e { result := res } v ∧ v.tables.contexts.find n = none)) ∧
  (∀ (s : State) (src : Src) (c : Cmd),
     Begins s src domSealSpec c →
     let u := s.begun domSealSpec c
     (c.cls ≠ .tenant → (u.dom c.ldi).state = .building → u.drbgReady = true → (u.dom c.ldi).autoRun = false →
       ∃ v, Completes (.domSeal src) s domSealSpec c { result := leBytes 1 2 } v ∧ (v.dom c.ldi).state = .sealed_) ∧
     (c.cls ≠ .tenant → (u.dom c.ldi).state = .building → u.drbgReady = true → (u.dom c.ldi).autoRun = true →
       ∃ n v, Suspends (.domSeal src) s domSealSpec c (.bp n) (.reply (leBytes 1 3)) v ∧ (v.dom c.ldi).state = .running ∧
         Output.bpPub (gateRec c.ldi true) ∈ v.out) ∧
     (c.cls = .tenant → (u.dom c.ldi).state = .sealed_ →
       ∃ n v, Suspends (.domSeal src) s domSealSpec c (.bp n) (.reply (leBytes 1 3)) v ∧ (v.dom c.ldi).state = .running ∧
         Output.bpPub (gateRec c.ldi true) ∈ v.out) ∧
     (c.cls = .tenant → (u.dom c.ldi).state = .running →
       Completes (.domSeal src) s domSealSpec c { result := leBytes 1 3 } u))

/-- MEM_QUERY answers the entries of its granules as of the last commit (R258), those of other LDIs as zero for a class with one
LDI (R281).

Rows that it shows to complete: MEM_QUERY. -/
def Obligations.MemQueryReadsEntries : Prop :=
  ∀ (s : State) (src : Src) (c : Cmd),
    Begins s src memQuerySpec c →
    let u := s.begun memQuerySpec c
    let ok := c.p 4 4 ≠ 0 ∧ c.p 4 4 ≤ 16384 ∧ c.p 0 4 + c.p 4 4 ≤ 4194304
    (ok → Completes (.memQuery src) s memQuerySpec c
      { result := leBytes 4 (c.p 4 4),
        ext := (span (c.p 0 4) (c.p 4 4)).flatMap (fun g => leBytes 4
          (if u.scopeLdi c.path = none ∨ u.scopeLdi c.path = some (u.committed.got g).ldi then (u.committed.got g).word
            else 0)) } u) ∧
    (¬ ok → Runs (.memQuery src) s memQuerySpec c (.fail stBadParam))

/-- MEM_ASSIGN of a list whose first granule can be assigned makes it HELD by the LDI at its generation and queues it for its
zero lines, and completes when the list is through; MEM_RELEASE of OWNED granules puts each into SCRUBBING (R40, R41, R278,
R279).

MEM_SCRUB, MEM_FINGERPRINT and MEM_DIGEST over granules that the LDI owns start one pass over their lines and run it as far
as it goes; a pass that has come to its end completes its command with the pass's reply (R181, R280, R283). MEM_IMPORT_BLOB
with a free weight slot of the LDI marks the slot and asks the host for the 32 header bytes; with its last line accepted and
a tag that verifies, its granules are OWNED again and it completes (R219, R220, R282). The DMA channel is that of the
command's bulk unit, which is a free value (R453, log entry 31).

Rows that it shows to complete: MEM_ASSIGN, MEM_RELEASE, MEM_SCRUB, MEM_FINGERPRINT, MEM_DIGEST, MEM_IMPORT_BLOB,
JOURNAL_STEP_RESUME. -/
def Obligations.MemoryCommandsTakeEffect : Prop :=
  (∀ (s : State) (src : Src) (c : Cmd) (g : Nat) (rest : List Nat),
     (Begins s src memAssignSpec c →
       let u := s.begun memAssignSpec c
       let k := c.p 1 1
       listOk c = true → (k = 0 ∨ (u.contextsOf c.ldi).any (fun x => x.2.slot == k && !x.2.releasing) = true) →
       granuleList c = g :: rest → u.assignStatus c.ldi g = stOk →
       u.outlived ((s.checked c).newJid memAssignSpec c) c.ldi = false →
       ∃ v, Suspends (.memAssign src) s memAssignSpec c .scrub (.assign c.ldi k 1 rest) v ∧
         v.got g = { ldi := c.ldi, gen := (u.dom c.ldi).gen, state := .held, cslot := k } ∧
         (∀ h, h ≠ g → v.got h = u.got h) ∧ (v.weft.scrubQ.getLast?.map (·.granule)) = some g) ∧
     (∀ (t : State) (e : JEntry) (l k n : Nat), Wakes t e → e.overtaken = false → e.cont = .assign l k n [] →
       Ends t e { result := listReply n noGranule } t.settle) ∧
     (Begins s src memReleaseSpec c →
       let u := s.begun memReleaseSpec c
       listOk c = true → (granuleList c).Nodup → (∀ h ∈ granuleList c, u.releaseStatus c.ldi h = stOk) →
       ∃ v, Completes (.memRelease src) s memReleaseSpec c
           { result := listReply (granuleList c).length noGranule } v ∧
         (∀ h ∈ granuleList c, (v.got h).state = .scrubbing ∧ (v.got h).ldi = c.ldi) ∧
         ∀ h, h ∉ granuleList c → v.got h = u.got h)) ∧
  (∀ (s : State) (src : Src) (c : Cmd),
     (Begins s src memScrubSpec c →
       let u := s.begun memScrubSpec c
       let j := (s.checked c).newJid memScrubSpec c
       c.p 0 1 ≤ 1 → c.p 8 4 ≠ 0 → c.p 4 4 + c.p 8 4 ≤ 4194304 →
       (∀ g ∈ span (c.p 4 4) (c.p 8 4), u.owns c.ldi g = true) →
       Runs (.memScrub src) s memScrubSpec c ((u.addScan
         { jid := j, kind := if c.p 0 1 = 0 then .zero else .verify, ldi := c.ldi, gen := (u.dom c.ldi).gen,
           next := 1024 * c.p 4 4, stop := 1024 * (c.p 4 4 + c.p 8 4) }).stepScan j)) ∧
     (Begins s src memFingerprintSpec c →
       let u := s.begun memFingerprintSpec c
       let j := (s.checked c).newJid memFingerprintSpec c
       c.p 24 8 ≠ 0 → c.p 16 4 + c.p 24 8 ≤ 2 ^ 32 →
       (∀ g ∈ lineGranules (c.p 16 4) (c.p 24 8), u.owns c.ldi g = true) →
       Runs (.memFingerprint src) s memFingerprintSpec c ((u.addScan
         { jid := j, kind := .finger, ldi := c.ldi, gen := (u.dom c.ldi).gen, next := c.p 16 4,
           stop := c.p 16 4 + c.p 24 8, fseed := c.params.take 16 }).stepScan j)) ∧
     (Begins s src memDigestSpec c →
       let u := s.begun memDigestSpec c
       let j := (s.checked c).newJid memDigestSpec c
       c.p 8 8 ≠ 0 → c.p 0 4 + c.p 8 8 ≤ 2 ^ 32 →
       (∀ g ∈ lineGranules (c.p 0 4) (c.p 8 8), u.owns c.ldi g = true) →
       Runs (.memDigest src) s memDigestSpec c ((u.addScan
         { jid := j, kind := .digest, ldi := c.ldi, gen := (u.dom c.ldi).gen, next := c.p 0 4,
           stop := c.p 0 4 + c.p 8 8 }).stepScan j)) ∧
     (∀ (t : State) (e : JEntry) (l : Nat) (x : Scan), Wakes t e → e.overtaken = false → e.cont = .scan l →
       t.settle.scan e.jid = some x → x.out = false → x.outs = [] → x.begun = true → x.status = stOk → x.stop ≤ x.next →
       (x.kind = .finger → t.settle.takeAnswer x.src = none ∧ t.settle.scanLanes x = [] ∧ t.settle.scanDead x = false) →
       Ends t e (t.settle.scanReply x) ((t.settle.bindScan x).drainInteg.endScan x)) ∧
     (Begins s src memImportBlobSpec c →
       let u := s.begun memImportBlobSpec c
       let i := c.p 0 2
       u.weightSlot c.ldi i = true → (u.keySlot i).busy = false →
       Suspends (.memImportBlob src) s memImportBlobSpec c .dma (.importBlob c.ldi i (c.p 8 8) (c.p 16 8) [])
         ((u.setSlot i { u.keySlot i with busy := true }).emit
           (.dmaRead (dmaChannel ((s.checked c).newJid memImportBlobSpec c)) (u.dmaFunc c.path) (c.p 8 8) 32))) ∧
     (∀ (t : State) (e : JEntry) (l i a len : Nat) (got : Bytes) (x : Scan) (sup : Supply),
       Wakes t e → e.overtaken = false → e.cont = .importBlob l i a len got →
       let u := t.settle
       u.scan e.jid = some x → x.out = false → x.status = stOk → x.stop ≤ x.next → u.scanDead x = false →
       sup.dmaErr = false → got.length = len →
       tagOk (u.keySlot i).key (ivOf got) (got.take 32) (bytesAt got 32 (fieldAt got 24 8))
         (bytesAt got (32 + fieldAt got 24 8) 16) = true →
       exec (.journalStepResume e.jid sup) t = .next
         (((((u.endScan x).freeBusy i).ownAll (lineGranules (fieldAt got 16 4) (fieldAt got 24 8 / 64))).commit e
           { result := leBytes 8 x.count }).endSpent.drainTurns)))

/-- CMP_BIND_SLICE, CMP_UNBIND_SLICE and CMP_REBIND_PREPARE with entries that R284 and R285 take: the bindings stand in the
record, and what the host must know is published; CMP_REBIND_COMMIT closes the map, at once when nothing is left of the old
map, and otherwise waits for it 500 µs of CLK_TIME at most. When the host has acknowledged the publication, each of the four
completes with its RESULT (R143, R144, R284, R285, R286).

REBIND_SQUASH_TIMEOUT (R144, R146): 500 µs of CLK_TIME after the commit began to wait, while requests under the old map are
still there, each of them ends with ST_STALE_MAP, and the commit goes on with their number as SQUASHED.

Rows that it shows to complete: CMP_BIND_SLICE, CMP_UNBIND_SLICE, CMP_REBIND_PREPARE, CMP_REBIND_COMMIT,
REBIND_SQUASH_TIMEOUT. -/
def Obligations.CompositionCommandsTakeEffect : Prop :=
  (∀ (s : State) (src : Src) (c : Cmd),
     (Begins s src cmpBindSliceSpec c →
       let u := s.begun cmpBindSliceSpec c
       let xs := sliceArgs c 4 (c.p 0 2)
       1 ≤ c.p 0 2 → c.p 0 2 ≤ 256 → (c.pbuf = true ∨ c.p 0 2 ≤ 54) → u.sliceStatus c.ldi xs [] = stOk →
       ∃ v, Suspends (.cmpBindSlice src) s cmpBindSliceSpec c (.bp u.bp.nextSync) (.reply (bindReply (v.dom c.ldi))) v ∧
         (v.dom c.ldi).slices = (u.dom c.ldi).slices ++ xs ∧ (∀ l, l ≠ c.ldi → v.dom l = u.dom l) ∧
         ∀ x ∈ xs, Output.bpPub (u.openSlice c.ldi x) ∈ v.out) ∧
     (Begins s src cmpUnbindSliceSpec c →
       let u := s.begun cmpUnbindSliceSpec c
       let xs := sliceArgs c 4 (c.p 0 2)
       1 ≤ c.p 0 2 → c.p 0 2 ≤ 256 → (c.pbuf = true ∨ c.p 0 2 ≤ 54) → u.sliceStatus c.ldi [] xs = stOk →
       ∃ v, Suspends (.cmpUnbindSlice src) s cmpUnbindSliceSpec c (.bp u.bp.nextSync) (.reply (bindReply (v.dom c.ldi))) v ∧
         (v.dom c.ldi).slices = (u.dom c.ldi).slices.filter (fun x => !xs.contains x) ∧ (∀ l, l ≠ c.ldi → v.dom l = u.dom l) ∧
         ∀ x ∈ xs, Output.bpPub (sliceRec x c.ldi false) ∈ v.out) ∧
     (Begins s src cmpRebindPrepareSpec c →
       let u := s.begun cmpRebindPrepareSpec c
       let adds := sliceArgs c 8 (c.p 4 2)
       let rems := sliceArgs c (8 + 4 * c.p 4 2) (c.p 6 2)
       (u.dom c.ldi).mapOpen = false → c.p 0 4 = ((u.dom c.ldi).mapCur + 1) % 2 ^ 32 → c.p 4 2 + c.p 6 2 ≤ 256 →
       u.sliceStatus c.ldi adds rems = stOk →
       ∃ v, Suspends (.cmpRebindPrepare src) s cmpRebindPrepareSpec c (.bp u.bp.nextSync) (.prepare c.ldi) v ∧
         (v.dom c.ldi).mapCur = ((u.dom c.ldi).mapCur + 1) % 2 ^ 32 ∧ (v.dom c.ldi).mapOpen = true ∧
         (v.dom c.ldi).oldSlices = rems ∧
         (v.dom c.ldi).slices = (u.dom c.ldi).slices.filter (fun x => !rems.contains x) ++ adds ∧
         Output.bpPub (mapRec c.ldi (v.dom c.ldi).mapCur true) ∈ v.out ∧
         ∀ x ∈ (v.dom c.ldi).sliceList, Output.bpPub (v.openSlice c.ldi x) ∈ v.out) ∧
     (Begins s src cmpRebindCommitSpec c →
       let u := s.begun cmpRebindCommitSpec c
       (u.dom c.ldi).mapOpen = true → c.p 0 4 = (u.dom c.ldi).mapCur → u.tally c.ldi = 0 →
       ∃ v, Suspends (.cmpRebindCommit src) s cmpRebindCommitSpec c (.bp u.bp.nextSync) (.commitClose c.ldi 0 0) v ∧
         (v.dom c.ldi).mapOpen = false ∧ (v.dom c.ldi).oldSlices = [] ∧
         Output.bpPub (mapRec c.ldi (v.dom c.ldi).mapCur false) ∈ v.out ∧
         ∀ x ∈ (u.dom c.ldi).oldSlices, Output.bpPub (sliceRec x c.ldi false) ∈ v.out) ∧
     (Begins s src cmpRebindCommitSpec c →
       let u := s.begun cmpRebindCommitSpec c
       (u.dom c.ldi).mapOpen = true → c.p 0 4 = (u.dom c.ldi).mapCur → u.tally c.ldi ≠ 0 →
       Suspends (.cmpRebindCommit src) s cmpRebindCommitSpec c (.tally c.ldi)
         (.commitWait c.ldi 0 0 (u.now + 500 * usTicks)) u) ∧
     (∀ (t : State) (e : JEntry) (res : Bytes), Wakes t e → e.overtaken = false → e.cont = .reply res →
       Ends t e { result := res } t.settle) ∧
     (∀ (t : State) (e : JEntry) (l : Nat), Wakes t e → e.overtaken = false → e.cont = .prepare l →
       Ends t e { result := leBytes 4 (t.settle.tally l) } t.settle) ∧
     (∀ (t : State) (e : JEntry) (l n q : Nat), Wakes t e → e.overtaken = false → e.cont = .commitClose l n q →
       Ends t e { result := leBytes 4 n ++ leBytes 4 q } t.settle)) ∧
  (∀ (s : State) (ldi n d : Nat) (e : JEntry),
     s.waitingCommit ldi = some (e, n, d) → s.loomUp = true → s.tally ldi ≠ 0 →
     let u := s.advanceTo d
     let old := u.shuttle.rxq.filter (fun p => u.tallied ldi p)
     (∃ (w : Nat) (v : State), exec (.rebindSquashTimeout ldi) s = .next (v.suspend e.jid (.bp w) (.commitClose ldi n (s.tally ldi))) ∧
       (u.squash ldi).closeRebind ldi n (s.tally ldi) = .wait (.bp w) (.commitClose ldi n (s.tally ldi)) v ∧
       (v.dom ldi).mapOpen = false ∧ (v.dom ldi).oldSlices = []) ∧
     ((∀ p ∈ old, kindOf p.payload ≠ kAtomic) →
       u.squash ldi = (old.foldl (fun t p => (t.dropMap p).refuseByKind p stStaleMap)
         ((u.dropRxq (fun p => u.tallied ldi p)).setDom ldi { u.dom ldi with mapOpen := false })).pump))

/-- RED_WINDOW_OPEN puts an OPEN window of the LDI at the lowest free number; RED_WINDOW_CLOSE takes the LDI's window away;
RED_WINDOW_QUERY reads its entry (R159, R165, R287, R288).

ARR_ALLOC allocates an arrival counter at 0 that names the fence; ARR_FREE frees the LDI's counter and answers its bytes
(R124, R289).

FEN_CREATE arms a fence of the LDI under its next epoch; FEN_REGISTER_PRODUCER gives an ARMED fence without a producer one
of the LDI's contexts, publishes it, and completes when the host has acknowledged; FEN_DESTROY frees a fence that R49 lets
go and answers its STATUS and CAUSE (R46, R48, R49, R290).

Rows that it shows to complete: RED_WINDOW_OPEN, RED_WINDOW_CLOSE, RED_WINDOW_QUERY, ARR_ALLOC, ARR_FREE, FEN_CREATE,
FEN_REGISTER_PRODUCER, FEN_DESTROY. -/
def Obligations.MovementCommandsTakeEffect : Prop :=
  (∀ (s : State) (src : Src) (c : Cmd) (i : Nat) (x : RedWindow),
     (Begins s src redWindowOpenSpec c →
       let u := s.begun redWindowOpenSpec c
       let base := c.p 0 4
       let lines := c.p 4 4
       let fmt := c.p 8 1 / 16
       let mine := u.batten.windows.vals.filter (fun w => w.ldi == c.ldi)
       let units := (lines + accLinesPerUnit fmt - 1) / accLinesPerUnit fmt
       opAllowed (c.p 8 1 % 16) fmt true = true → c.p 10 2 ≠ 0 → lines ≠ 0 → (isMx fmt = true → lines % mxGroup fmt = 0) →
       base + windowSpan fmt lines ≤ 2 ^ 32 → (c.p 12 4 = 0 ∨ u.arrOk c.ldi (c.p 12 4) = true) →
       u.windowFence c.ldi (c.p 16 4) = true → (∀ g ∈ lineGranules base (windowSpan fmt lines), u.owns c.ldi g = true) →
       (List.range 256).find? (fun i => (u.window i).isNone) = some i → mine.length < (u.dom c.ldi).grant.windows →
       (mine.map (·.accUnits)).foldl (· + ·) units ≤ (u.dom c.ldi).grant.acc →
       ∃ v, Completes (.redWindowOpen src) s redWindowOpenSpec c { result := leBytes 1 i ++ leBytes 1 0 ++ leBytes 2 units } v ∧
         v.window i = some
           { base := base, lines := lines, opfmt := c.p 8 1, ldi := c.ldi, count := c.p 10 2
             accUnits := units, arr := c.p 12 4, fence := c.p 16 4, nth := u.batten.nextWin } ∧ (∀ k, k ≠ i → v.window k = u.window k)) ∧
     (Begins s src redWindowCloseSpec c →
       let u := s.begun redWindowCloseSpec c
       u.window (c.p 0 1) = some x → x.ldi = c.ldi →
       ∃ v, Completes (.redWindowClose src) s redWindowCloseSpec c
           { result := leBytes 1 x.state.code ++ leBytes 3 0 ++ leBytes 4 x.done } v ∧
         v.window (c.p 0 1) = none ∧ (∀ k, k ≠ c.p 0 1 → v.window k = u.window k)) ∧
     (Begins s src redWindowQuerySpec c →
       let u := s.begun redWindowQuerySpec c
       u.window (c.p 0 1) = some x → x.ldi = c.ldi →
       Completes (.redWindowQuery src) s redWindowQuerySpec c { result := x.bytes } u)) ∧
  (∀ (s : State) (src : Src) (c : Cmd) (i : Nat) (w : State) (a : Arrival),
     (Begins s src arrAllocSpec c →
       let u := s.begun arrAllocSpec c
       (c.p 0 4 = 0 ∨ u.fenceArmed c.ldi (c.p 0 4) = true) → u.arrUse c.ldi < (u.dom c.ldi).grant.arrs →
       u.allocArr c.ldi (c.p 0 4) = some (i, w) →
       Completes (.arrAlloc src) s arrAllocSpec c { result := leBytes 4 i } w ∧
         w.tables.arrs.find i = some { ldi := c.ldi, bytes := 0, fence := fenceIndex (c.p 0 4) } ∧
         (∀ k, k ≠ i → w.tables.arrs.find k = u.tables.arrs.find k)) ∧
     (Begins s src arrFreeSpec c →
       let u := s.begun arrFreeSpec c
       u.tables.arrs.find (c.p 0 4) = some a → u.arrOk c.ldi (c.p 0 4) = true → u.arrBusy (c.p 0 4) = false →
       ∃ v, Completes (.arrFree src) s arrFreeSpec c { result := leBytes 8 a.bytes } v ∧
         v.tables.arrs.find (c.p 0 4) = none ∧ (∀ k, k ≠ c.p 0 4 → v.tables.arrs.find k = u.tables.arrs.find k) ∧
         v.tables.arrFreed = u.tables.arrFreed ++ [c.p 0 4])) ∧
  (∀ (s : State) (src : Src) (c : Cmd) (h : Nat) (w : State),
     (Begins s src fenCreateSpec c →
       let u := s.begun fenCreateSpec c
       u.fenceUse c.ldi < (u.dom c.ldi).grant.fences → u.allocFence c.ldi 0 = some (h, w) →
       Completes (.fenCreate src) s fenCreateSpec c { result := leBytes 4 h } w ∧
         ∃ i, h = fenceHandle i (w.fence i).epoch ∧
           w.fence i = { ldi := c.ldi, state := .armed, epoch := ((u.fence i).epoch + 1) % 16384 } ∧
           (∀ k, k ≠ i → w.fence k = u.fence k)) ∧
     (Begins s src fenRegisterProducerSpec c →
       let u := s.begun fenRegisterProducerSpec c
       let i := fenceIndex (c.p 0 4)
       u.fenceUsable c.ldi (c.p 0 4) = true →
       (u.contextsOf c.ldi).any (fun x => x.1 == c.p 4 4 && !x.2.releasing) = true →
       (u.fence i).state = .armed → (u.fence i).producer = 0 → u.fenceOfWindow (c.p 0 4) = false →
       ∃ v, Suspends (.fenRegisterProducer src) s fenRegisterProducerSpec c (.bp u.bp.nextSync) (.reply []) v ∧
         v.fence i = { u.fence i with producer := c.p 4 4 } ∧ (∀ k, k ≠ i → v.fence k = u.fence k) ∧
         Output.bpPub (producerRec c.ldi (c.p 0 4) (c.p 4 4)) ∈ v.out) ∧
     (∀ (t : State) (e : JEntry), Wakes t e → e.overtaken = false → e.cont = .reply [] → Ends t e {} t.settle) ∧
     (Begins s src fenDestroySpec c →
       let u := s.begun fenDestroySpec c
       let i := fenceIndex (c.p 0 4)
       u.fenceUsable c.ldi (c.p 0 4) = true → u.fenceKept (c.p 0 4) = false →
       ∃ v, Completes (.fenDestroy src) s fenDestroySpec c
           { result := leBytes 2 (u.fence i).status ++ leBytes 1 (u.fence i).cause } v ∧
         (v.fence i).state = .free ∧ (v.fence i).epoch = (u.fence i).epoch ∧ (∀ k, k ≠ i → v.fence k = u.fence k)))

/-- LNK_PORT_CLASS gives a port that no sealed or running domain binds its class and answers the old one; LNK_SA_QUERY reads SA
entries (R24, R292, R294).

LNK_SA_WARM starts the handshakes that its list lacks and answers, or waits for them 10 ms and 50 µs for each peer and then
completes with how many are VALID, FAILED and PENDING (R293).

LNK_GROUP_CREATE takes the group and a pool slot: the member of lowest rank draws key and salt into the slot and sends both
to the other members as GROUP_KEY; another waits for it, 1 s at most, and completes when it has come, or at once with a key
that came before (R112, R113, R295); the wait that ends without the key gives both back (GROUP_CREATE_TIMEOUT). The layout
of the message is the model's choice (log entry 15).

Rows that it shows to complete: LNK_PORT_CLASS, LNK_SA_QUERY, LNK_SA_WARM, LNK_GROUP_CREATE, GROUP_CREATE_TIMEOUT. -/
def Obligations.LinkCommandsTakeEffect : Prop :=
  (∀ (s : State) (src : Src) (c : Cmd),
     (Begins s src lnkPortClassSpec c →
       let u := s.begun lnkPortClassSpec c
       c.p 0 1 < u.build.engines →
       u.ldisWith (fun d => (d.state == .sealed_ || d.state.flows) && d.boundPort (c.p 0 1)) = [] →
       u.ldisWith (fun d => d.state == .building && d.boundPort (c.p 0 1) && policyRefuses d.policy (c.p 1 1)) = [] →
       ∃ v, Completes (.lnkPortClass src) s lnkPortClassSpec c { result := leBytes 1 (u.portClass (c.p 0 1)) } v ∧
         v.portClass (c.p 0 1) = c.p 1 1 ∧ (∀ p, p ≠ c.p 0 1 → v.portClass p = u.portClass p)) ∧
     (Begins s src lnkSaQuerySpec c →
       let u := s.begun lnkSaQuerySpec c
       1 ≤ c.p 2 2 → c.p 2 2 ≤ 1024 →
       Completes (.lnkSaQuery src) s lnkSaQuerySpec c
         { result := leBytes 4 ((u.saList c).take (c.p 2 2)).length ++ leBytes 4 (((u.saList c)[c.p 2 2]?).getD 0xFFFFFFFF),
           ext := ((u.saList c).take (c.p 2 2)).flatMap u.saBytes } u)) ∧
  ((∀ (t : State) (e : JEntry) (ps : List Nat), Wakes t e → e.overtaken = false → e.cont = .saWarm ps →
     Ends t e { result := t.settle.warmReply ps } t.settle) ∧
   ∀ (s : State) (src : Src) (c : Cmd),
     Begins s src lnkSaWarmSpec c →
     let u := s.begun lnkSaWarmSpec c
     let ps := halves c.params 4 (c.p 0 2)
     c.p 0 2 ≠ 0 → c.p 0 2 ≤ 16384 → ps.eraseDups.length = c.p 0 2 → 0xFFFF ∉ ps → u.boot.devid ∉ ps →
     u.rootUp = true → u.boot.devidSet = true → u.keys.identity = true → u.drbgReady = true →
     let v := ps.foldl State.warmSa u
     (c.p 2 1 = 0 → Completes (.lnkSaWarm src) s lnkSaWarmSpec c { result := v.warmReply ps } v) ∧
     (c.p 2 1 = 1 → v.sasSettled ps = true →
       Completes (.lnkSaWarm src) s lnkSaWarmSpec c { result := v.warmReply ps } v) ∧
     (c.p 2 1 = 1 → v.sasSettled ps = false →
       Suspends (.lnkSaWarm src) s lnkSaWarmSpec c (.sas ps (v.now + 10 * msTicks + 50 * usTicks * c.p 0 2)) (.saWarm ps) v)) ∧
  (∀ (s : State) (src : Src) (c : Cmd) (i : Nat),
     (Begins s src lnkGroupCreateSpec c →
       let u := s.begun lnkGroupCreateSpec c
       let d := u.dom c.ldi
       let ranks := groupRanks c d.members
       let entries := (ranks.filter (fun r => r != d.rank)).length
       groupArgs c d.members = true → u.group (groupKeyOf c.ldi (c.p 0 2)) = none → u.freePoolSlot c.ldi = some i →
       u.replayEntries + entries ≤ 262144 →
       (ranks.foldl min 65535 = d.rank → u.drbgReady = true →
         let key := keyOf (drawBytes u.draw.1 32)
         let salt := fieldAt (drawBytes u.draw.1 64) 32 2
         ∃ t : State, t.keySlot i = { type := 9, ldi := c.ldi, gen := d.gen, key := key, salt := salt } ∧
           (∃ x, t.group (groupKeyOf c.ldi (c.p 0 2)) = some x ∧ x.keyed = true ∧ x.slot = i ∧ x.senders = ranks) ∧
           Completes (.lnkGroupCreate src) s lnkGroupCreateSpec c { result := groupReply i entries }
             ((u.otherMembers c.ldi).foldl (fun z p => z.sendCtrl p 0x07 (groupKeyBody d.gdid (c.p 0 2) salt key)) t)) ∧
       (∀ (h : HeldGroupKey) (z : State), ranks.foldl min 65535 ≠ d.rank → u.takeHeldKey c.ldi (c.p 0 2) = some (h, z) →
         ∃ v, Completes (.lnkGroupCreate src) s lnkGroupCreateSpec c { result := groupReply i entries } v ∧
           v.keySlot i = { type := 9, ldi := c.ldi, gen := d.gen, key := h.key, salt := h.salt }) ∧
       (ranks.foldl min 65535 ≠ d.rank → u.takeHeldKey c.ldi (c.p 0 2) = none →
         ∃ v, Suspends (.lnkGroupCreate src) s lnkGroupCreateSpec c (.groupKey c.ldi (c.p 0 2))
             (.groupCreate c.ldi (c.p 0 2) i entries (u.now + secTicks)) v ∧
           (v.keySlot i).type = 9 ∧ (v.group (groupKeyOf c.ldi (c.p 0 2))).isSome = true)) ∧
     (∀ (t : State) (e : JEntry) (l g n d : Nat), Wakes t e → e.overtaken = false → e.cont = .groupCreate l g i n d →
       Ends t e { result := groupReply i n } t.settle) ∧
     (∀ (l g d : Nat) (e : JEntry) (x : Group),
       s.waitingGroup l g = some (e, i, d) → s.loomUp = true → e.overtaken = false →
       s.group (groupKeyOf l g) = some x → x.keyed = false →
       ∃ v : State, exec (.groupCreateTimeout l g) s = .next ((v.commit e { status := stBusy }).endSpent.drainTurns) ∧
         v.shuttle.groups = s.shuttle.groups.del (groupKeyOf l g) ∧ (v.keySlot i).type = 0))

/-- KEY_EPHEMERAL_GET answers the public halves of the domain's ephemeral keys; KEY_WEIGHT_INSTALL puts the unwrapped weight key
into the lowest free pool slot; KEY_WEIGHT_DROP clears the slot (R194 to R196, R296 to R298).

ATT_REPORT answers the report body as of the last commit (R258), its hybrid signature with the Alias key and, asked for, the
chain (R214, R299); ATT_SESSION_OPEN answers the SPDM response, or waits for it and answers it then (R207, R300).

MTR_READ answers the closed batches that fit, oldest first; MTR_ACK frees the oldest closed batch, and a record that waited
for a place takes it (R224, R225, R301, R302).

Rows that it shows to complete: KEY_EPHEMERAL_GET, KEY_WEIGHT_INSTALL, KEY_WEIGHT_DROP, ATT_REPORT, ATT_SESSION_OPEN,
MTR_READ, MTR_ACK. -/
def Obligations.KeyAndReportCommandsTakeEffect : Prop :=
  (∀ (s : State) (src : Src) (c : Cmd) (i : Nat) (pub : Bytes × Bytes) (seed k : Key),
     (Begins s src keyEphemeralGetSpec c →
       let u := s.begun keyEphemeralGetSpec c
       u.ekemPublic c.ldi = some pub →
       Completes (.keyEphemeralGet src) s keyEphemeralGetSpec c
         { result := leBytes 4 (u.dom c.ldi).gdid ++ leBytes 2 (u.dom c.ldi).gen, ext := pub.1 ++ pub.2 } u) ∧
     (Begins s src keyWeightInstallSpec c →
       let u := s.begun keyWeightInstallSpec c
       let ecdh := bytesAt c.params 1568 97
       c.plen = 1732 → Config.p384Valid ecdh = true → u.hasKeyId c.ldi (c.p 1680 4) = false →
       u.freePoolSlot c.ldi = some i → u.ekemSeed c.ldi = some seed →
       unwrapKey (u.weightKek c.ldi seed (c.params.take 1568) ecdh) c.params (u.domContext c.ldi) = some k →
       Completes (.keyWeightInstall src) s keyWeightInstallSpec c
         { result := leBytes 2 i ++ leBytes 2 0 ++ leBytes 4 (c.p 1680 4) }
         (u.setSlot i { type := 8, ldi := c.ldi, gen := (u.dom c.ldi).gen, key := k, keyId := c.p 1680 4 })) ∧
     (Begins s src keyWeightDropSpec c →
       let u := s.begun keyWeightDropSpec c
       u.weightSlot c.ldi (c.p 0 2) = true → (u.keySlot (c.p 0 2)).busy = false →
       ∃ v, Completes (.keyWeightDrop src) s keyWeightDropSpec c {} v ∧ (v.keySlot (c.p 0 2)).type = 0 ∧
         (∀ j, j ≠ c.p 0 2 → v.keySlot j = u.keySlot j))) ∧
  (∀ (s : State) (src : Src) (c : Cmd) (code : Nat) (body : Bytes) (need sid : Option Nat) (v : State),
     (Begins s src attReportSpec c →
       let u := s.begun attReportSpec c
       let report := u.committed.reportBody (c.params.take 32) c.ldi
       let g := u.hybridSign u.keys.aliasSeed report
       u.rootUp = true → u.keys.identity = true → u.drbgReady = true →
       Completes (.attReport src) s attReportSpec c
         { result := leBytes 4 report.length ++ leBytes 4 (u.chainPart c).length,
           ext := report ++ g.1.1 ++ g.1.2 ++ u.chainPart c } g.2) ∧
     (Begins s src attSessionOpenSpec c →
       let u := s.begun attSessionOpenSpec c
       let k := c.named ((s.checked c).newJid attSessionOpenSpec c)
       u.rootUp = true → u.keys.identity = true → c.pbuf = true → c.rbuf = true → 4 ≤ c.plen → c.plen ≤ 65536 →
       c.path.isRing = true →
       (u.openAnswer k = (.now code body, sid, v) →
         Completes (.attSessionOpen src) s attSessionOpenSpec c { ext := (v.wireSpdm sid code body).1 }
           (v.wireSpdm sid code body).2) ∧
       (u.openAnswer k = (.later need, sid, v) →
         Suspends (.attSessionOpen src) s attSessionOpenSpec c .answer (.spdm []) v)) ∧
     (∀ (t : State) (e : JEntry) (msg : Bytes), Wakes t e → e.overtaken = false → e.cont = .spdm msg →
       Ends t e { ext := msg } t.settle)) ∧
  (∀ (s : State) (src : Src) (c : Cmd) (b : MeterBatch),
     (Begins s src mtrReadSpec c →
       let u := s.begun mtrReadSpec c
       let fit := fitBlocks c.room (u.meterBlocks c)
       1 ≤ c.p 4 1 → c.p 4 1 ≤ 8 →
       Completes (.mtrRead src) s mtrReadSpec c
         { result := leBytes 2 fit.length ++ leBytes 2 0
             ++ leBytes 4 (((fit.getLast?).map (fun b => b.1 + 1)).getD (c.p 0 4)),
           ext := fit.flatMap Prod.snd } u) ∧
     (Begins s src mtrAckSpec c →
       let u := s.begun mtrAckSpec c
       u.metering.batches.find? (fun b => b.closed.isSome) = some b → b.number = c.p 0 4 →
       Completes (.mtrAck src) s mtrAckSpec c {}
         ({ u with metering := { u.metering with
             batches := u.metering.batches.filter (fun x => x.number != b.number) } } : State).placeHeld))

/-- TIM_STATUS answers the time unit's state, and in its extended 64 B the master, the last setting and the servo's settings;
TIM_SET_SERVO takes the settings; TIM_OFFSET_MEASURE on rank 0 starts the measurement, and waits 1 ms for its members unless
every one has answered; it completes with what they have answered then (R303, R304, R305).

Rows that it shows to complete: TIM_STATUS, TIM_SET_SERVO, TIM_OFFSET_MEASURE. -/
def Obligations.TimeCommandsTakeEffect : Prop :=
  ∀ (s : State) (src : Src) (c : Cmd),
    (Begins s src timStatusSpec c →
      let u := s.begun timStatusSpec c
      ∃ r, Completes (.timStatus src) s timStatusSpec c r u ∧ r.status = stOk ∧
        r.result.take 4 = leBytes 1 u.time.state.code ++ leBytes 1 u.time.k
          ++ leBytes 1 (bit u.time.setDone 0 + bit u.time.requireAuth 1 + bit (u.time.masters.any (fun x => x.2.qualified)) 2)
          ++ leBytes 1 u.time.ptpDom ∧
        bytesAt r.result 4 12 = timeBytes u.time12 ∧
        r.ext = leBytes 8 (u.time.selected.getD 0) ++ leBytes 8 u.time.setAt ++ satInt 8 u.time.setStep
          ++ padTo 32 (u.time.allow.flatMap (leBytes 8)) ++ leBytes 1 u.time.kFloor ++ leBytes 7 0) ∧
    (Begins s src timSetServoSpec c →
      let u := s.begun timSetServoSpec c
      2 ≤ c.p 2 1 → c.p 2 1 ≤ 6 → c.p 3 1 ≤ 4 →
      ∃ v, Completes (.timSetServo src) s timSetServoSpec c {} v ∧
        v.time.ptpDom = c.p 0 1 ∧ v.time.requireAuth = (c.p 1 1 % 2 == 1) ∧ v.time.kFloor = c.p 2 1 ∧
        v.time.allow = allowList c ∧ v.time.k = max u.time.k (c.p 2 1) ∧
        (u.time.ptpDom ≠ c.p 0 1 ∨ u.time.allow ≠ allowList c → v.time.selected = none)) ∧
    (Begins s src timOffsetMeasureSpec c →
      let u := s.begun timOffsetMeasureSpec c
      (u.dom c.ldi).rank = 0 → (u.offsetOf c.ldi).running = false →
      ((u.dom c.ldi).members ≤ 1 → ∃ r v, Completes (.timOffsetMeasure src) s timOffsetMeasureSpec c r v ∧
        r.result = leBytes 2 1 ++ leBytes 2 0 ++ leBytes 8 0) ∧
      (1 < (u.dom c.ldi).members → ∃ v, Suspends (.timOffsetMeasure src) s timOffsetMeasureSpec c
          (.measure c.ldi (u.now + msTicks)) (.measure c.ldi) v ∧
        (v.offsetOf c.ldi).own = some 0 ∧ (v.offsetOf c.ldi).running = true)) ∧
    (∀ (t : State) (e : JEntry) (l : Nat), Wakes t e → e.overtaken = false → e.cont = .measure l →
      Ends t e { result := t.settle.measureReply l } (t.settle.setOffset l { t.settle.offsetOf l with running := false }))

/-- DBG_CERT_PRESENT draws a nonce, and grants a certificate that passes R359; DBG_REVOKE ends a certificate's rights, or all
(R306, R307, R359).

DBG_HALT under the right HALT arms its breakpoints, or with none stops the cores; DBG_RESUME disarms them, and while the
cores are halted the debug controller runs it from rings 68 and 69 (R308, R309, R430, R431).

Rows that it shows to complete: DBG_CERT_PRESENT, DBG_REVOKE, DBG_HALT, DBG_RESUME. -/
def Obligations.DebugCommandsTakeEffect : Prop :=
  (∀ (s : State) (src : Src) (c : Cmd) (f : DebugFields) (x : DebugCert),
     (Begins s src dbgCertPresentSpec c →
       let u := s.begun dbgCertPresentSpec c
       (c.p 0 1 = 0 → c.p 4 4 = 0 → u.drbgReady = true →
         let n := BitVec.ofNat 256 (leNat (drawBytes u.draw.1 32))
         ∃ v, Completes (.dbgCertPresent src) s dbgCertPresentSpec c { result := bvBytes 32 n } v ∧
           v.dbg.nonce = some n ∧ v.dbg.nonceUntil = u.now + 300 * secTicks ∧ v.dbg.certs = u.dbg.certs) ∧
       (c.p 0 1 = 1 → 1 ≤ c.p 4 4 → c.p 4 4 ≤ 65528 → debugFields (certBytes c) = some (some f) → u.timed = true →
         u.certOk (certBytes c) f = true → u.dbg.certs.length < 8 →
         Completes (.dbgCertPresent src) s dbgCertPresentSpec c
           { result := leBytes 4 u.dbg.nextCert ++ leBytes 8 (f.rights.setWidth 8).toNat } (u.grantCert f))) ∧
     (Begins s src dbgRevokeSpec c →
       let u := s.begun dbgRevokeSpec c
       (c.p 0 4 = 0xFFFFFFFF →
         Completes (.dbgRevoke src) s dbgRevokeSpec c { result := leBytes 8 u.endRights.debugRights } u.endRights) ∧
       (c.p 0 4 ≠ 0xFFFFFFFF → u.dbg.certs.find (c.p 0 4) = some x →
         let v := u.setCerts (u.dbg.certs.del (c.p 0 4))
         Completes (.dbgRevoke src) s dbgRevokeSpec c { result := leBytes 8 v.debugRights } v))) ∧
  (∀ (s : State) (src : Src) (c : Cmd) (i : Nat),
     (Begins s src dbgHaltSpec c →
       let u := s.begun dbgHaltSpec c
       u.right rightHalt = true → c.p 0 1 ≤ 4 → (∀ a ∈ breakpoints c, a % 4 = 0) → u.loom.bps = [] →
       (c.p 0 1 ≠ 0 → Completes (.dbgHalt src) s dbgHaltSpec c {} { u with loom := { u.loom with bps := breakpoints c } }) ∧
       (c.p 0 1 = 0 → Completes (.dbgHalt src) s dbgHaltSpec c {} u.haltNow ∧ u.haltNow.loom.halting = true)) ∧
     (Begins s src dbgResumeSpec c → s.loom.halted = false →
       let u := s.begun dbgResumeSpec c
       u.loom.bps ≠ [] → ∃ v, Completes (.dbgResume src) s dbgResumeSpec c {} v ∧ v.loom.bps = []) ∧
     (s.clocked = true → s.boot.phase.isRunning = true → s.loom.restarting = false → s.power.fatal = false →
       s.loom.ringsOpen = true → s.otp.resetDue = none → s.loom.halted = true → (i = 68 ∨ i = 69) → s.waitingCmd (.ring i) = some c →
       c.opcode = 0x0804 → (s.fetched c).settle.seqCheck c.path c.seq = .fresh →
       (s.checked c).firstFailure dbgResumeSpec c = none →
       let u := (s.begun dbgResumeSpec c).failureEndsHalt
       (s.begun dbgResumeSpec c).inHalt = true →
       Completes (.dbgResume (.ring i)) s dbgResumeSpec c {} { u with loom := { u.loom with bps := [] } }))

/-- PRF_READ answers counters at the reader's level; PRF_FREEZE_AT arms a freeze under a new ID, and sends FREEZE once its reply
is written (R310, R311, R418, R419).

TRC_CONFIG sets the trace unit, or a domain's consent; TRC_READ answers the records that the reader sees (R312, R314, R422).

Rows that it shows to complete: PRF_READ, PRF_FREEZE_AT, TRC_CONFIG, TRC_READ. -/
def Obligations.ObservationCommandsTakeEffect : Prop :=
  (∀ (s : State) (src : Src) (c : Cmd) (v : CounterView × Time12),
     (Begins s src prfReadSpec c →
       let u := s.begun prfReadSpec c
       let lv := u.readLevel c
       u.readView c = some v → readRange c = true →
       Completes (.prfRead src) s prfReadSpec c
         { result := leBytes 1 lv.1 ++ leBytes 3 0 ++ timeBytes v.2,
           ext := (span (c.p 4 2) (c.p 6 2)).flatMap (fun i =>
             leBytes 8 (if c.ldi = 0 then v.1.block lv.2 i else v.1.domain lv.2 i)) } u) ∧
     (Begins s src prfFreezeAtSpec c →
       let u := s.begun prfFreezeAtSpec c
       let t := time12Of c.params
       (c.p 12 1 = 0 ∧ c.ldi = 0 ∨ c.p 12 1 = 1 ∧ c.ldi ≠ 0) → u.freezeAhead c.ldi t = true → u.timed = true →
       u.counters.armed.any (fun a => a.ldi == c.ldi) = false →
       ∃ w, Completes (.prfFreezeAt src) s prfFreezeAtSpec c { result := leBytes 4 u.counters.nextId } w ∧
         w.counters.armed = u.counters.armed ++
           [{ ldi := c.ldi, id := u.counters.nextId, t := t, unaligned := c.ldi != 0 && (u.offsetO c.ldi).isNone }] ∧
         w.counters.lastId = u.counters.nextId) ∧
     (∀ z : State, c.ldi = 0 → prfFreezeAtSpec.after c z = z) ∧
     (∀ z : State, c.ldi ≠ 0 → prfFreezeAtSpec.after c z = ((z.treePeers c.ldi).foldl (fun x p =>
       x.sendCtrl p 0x0B (freezeBody (z.dom c.ldi).gdid x.counters.lastId (time12Of c.params) (z.dom c.ldi).rank)) z).endSpent)) ∧
  (∀ (s : State) (src : Src) (c : Cmd),
     (Begins s src trcConfigSpec c →
       let u := s.begun trcConfigSpec c
       (c.ldi = 0 → c.p 0 1 ≤ 3 → c.p 2 2 < 2 ^ 15 →
         ∃ v, Completes (.trcConfig src) s trcConfigSpec c {} v ∧ v.trace.mode = c.p 0 1 ∧
           v.trace.sources = BitVec.ofNat 16 (c.p 2 2) ∧ v.trace.triggered = none ∧
           (c.p 0 1 ≠ 0 → v.trace.records = []) ∧ (c.p 0 1 = 0 → v.trace.records = u.trace.records)) ∧
       (c.ldi ≠ 0 → c.p 0 1 = 0 → c.p 4 4 = 0 → c.p 8 4 = 0 → (c.p 2 2 = 0 ∨ c.p 2 2 = 2 ^ 15) →
         ∃ v, Completes (.trcConfig src) s trcConfigSpec c {} v ∧ (v.dom c.ldi).consent = (c.p 2 2 == 2 ^ 15) ∧
           v.trace = u.trace)) ∧
     (Begins s src trcReadSpec c →
       let u := s.begun trcReadSpec c
       1 ≤ c.p 8 4 → c.p 8 4 ≤ 2048 → c.p 12 1 ≤ 1 →
       ∃ r, Completes (.trcRead src) s trcReadSpec c r u ∧ r.status = stOk ∧
         r.ext = ((u.traceRecords c).map Prod.snd).flatten ∧ r.result.take 4 = leBytes 4 (u.traceRecords c).length))

/-- TRC_MARK writes one trace record, a range marker that holds MARKER with the LDI and the context of the header (R313).

Rows that it shows to complete: TRC_MARK. -/
def Obligations.RangeMarksAreTraced : Prop :=
  ∀ (s : State) (src : Src) (c : Cmd), Begins s src trcMarkSpec c →
    Completes (.trcMark src) s trcMarkSpec c {} ((s.begun trcMarkSpec c).traceWrite
      { src := 1, ldi := c.ldi, ctx := c.ctx, annot := BitVec.ofNat 32 (c.p 0 4), marker := true })

/-- LCS_QUERY answers from OTP; LCS_TRANSITION on the DEBUG or MGMT ring programs its payload and then the first blank slot: the
firmware runs it, or in RAW the boot ROM (the model's choice of its rings' order, log entry 21). When its programs are
through, it ends the debug rights and completes, and LCS_TRANSITION_RESET_TIMER asks for the SYSTEM reset (R315, R316,
R351).

LCS_TOKEN_UNLOCK spends the lowest token that matches and goes to TEST_UNLOCKED; a mismatch is counted and denied, and
commits (the model's reading, log entry 36); LCS_ZEROIZE aborts every live domain that is not being retired, ends every
VALID SA, destroys the keys, and waits for the DRBG. Each completes when what it waits for has come (R317, R318, R354,
R355).

FU_RSP ends the outstanding pulse: the word takes the bits requested, and no word loses one; while CLK_AUX stands, nothing
happens (R347, R368, R457).

Rows that it shows to complete: LCS_QUERY, LCS_TRANSITION, JOURNAL_STEP_RESUME, LCS_TRANSITION_RESET_TIMER, LCS_TOKEN_UNLOCK,
LCS_ZEROIZE, FU_RSP. -/
def Obligations.LifecycleCommandsTakeEffect : Prop :=
  (∀ (s : State) (src : Src) (c : Cmd) (a : LcsAuth) (n : Nat) (t : Nat),
     (Begins s src lcsQuerySpec c →
       let u := s.begun lcsQuerySpec c
       ∃ r, Completes (.lcsQuery src) s lcsQuerySpec c r u ∧ r.status = stOk ∧ r.ext = [] ∧
         r.result = leBytes 1 u.otp.lcs ++ leBytes 1 u.otp.tokensLeft.length ++ leBytes 1 u.otp.svn
           ++ leBytes 1 (bit (u.otp.svn == 128) 0) ++ leBytes 4 u.otp.fuseWord ++ u.otp.serial) ∧
     (let u := s.begun lcsTransitionSpec c
       let dest := c.p 0 1
       dest ≤ 7 → c.p 4 4 ≤ 16384 → u.otp.transition dest = some a → authParses a dest (authOf c) = true →
       u.lcsReady dest (authOf c) = true → u.authOk a dest (authOf c) = true → u.otp.freeSlot = some n →
       (u.otp.lcs = 3 → dest = 4 → u.otp.freeUds ≠ none ∧ u.canReseed = true) →
       let p := u.lcsPayload dest (authOf c)
       let v := p.2.beginTransition dest n p.1
       (Begins s src lcsTransitionSpec c → Suspends (.lcsTransition src) s lcsTransitionSpec c .otp (.transition dest) v) ∧
       (s.clocked = true → s.power.fatal = false → s.loom.restarting = false → s.otp.lcs = 0 → s.otp.resetDue = none →
         (∃ q, s.boot.phase = .poll q) → (src = .ring 68 ∨ src = .ring 69) → s.waitingCmd src = some c → c.opcode = 0x0902 →
         (s.fetched c).settle.seqCheck c.path c.seq = .fresh → (s.checked c).firstFailure lcsTransitionSpec c = none →
         exec (.lcsTransition src) s =
           .next (v.suspend ((s.checked c).newJid lcsTransitionSpec c) .otp (.transition dest)).endSpent)) ∧
     (∀ (y : State) (e : JEntry) (dest : Nat) (sup : Supply), Wakes y e → e.cont = .transition dest →
       exec (.journalStepResume e.jid sup) y = .next (y.settle.endTransition e dest []) ∧
         (y.settle.endTransition e dest []).otp.resetDue.isSome = true) ∧
     (s.otp.resetDue = some t → s.clocked = true →
       let u := s.advanceTo t
       exec .lcsTransitionResetTimer s =
         .next (({ u with otp := { u.otp with resetDue := none } } : State).requestReset .system 0x12))) ∧
  (∀ (s : State) (src : Src) (c : Cmd) (i n : Nat),
     (Begins s src lcsTokenUnlockSpec c →
       let u := s.begun lcsTokenUnlockSpec c
       u.otp.lcs = 1 → u.otp.tokensLeft ≠ [] → u.otp.mismatches < 3 →
       (u.otp.matchToken (c.params.take 32) = some i → u.otp.freeSlot = some n →
         Suspends (.lcsTokenUnlock src) s lcsTokenUnlockSpec c .otp (.unlock 2) (u.beginTransition 2 n [writeOf 0x1D0 (2 ^ i)])) ∧
       (u.otp.matchToken (c.params.take 32) = none →
         Completes (.lcsTokenUnlock src) s lcsTokenUnlockSpec c { status := stDenied }
           { u with otp := { u.otp with mismatches := u.otp.mismatches + 1 } })) ∧
     (Begins s src lcsZeroizeSpec c →
       let u := s.begun lcsZeroizeSpec c
       c.p 0 4 = 0x4F52455A →
       ∃ v, Suspends (.lcsZeroize src) s lcsZeroizeSpec c .entropy
           (.zeroized (u.ldisWith (fun d => d.state.abortable)).length) v ∧
         v.otp.zeroizedFlag = true ∧ v.keys.slots = [] ∧ v.keys.zeroized = true ∧
         v.drbgReady = false ∧ (∀ x ∈ v.shuttle.sas, x.2.keys = {}) ∧ (∀ p, v.saValid p = false) ∧
         ∀ l, (u.dom l).state.abortable = true → (u.dom l).retiring = false → (v.dom l).state = .aborted) ∧
     (∀ (y : State) (e : JEntry) (dest : Nat) (sup : Supply), Wakes y e → e.cont = .unlock dest →
       exec (.journalStepResume e.jid sup) y =
         .next (y.settle.endTransition e dest (leBytes 1 y.settle.otp.tokensLeft.length))) ∧
     (∀ (y : State) (e : JEntry) (k : Nat), Wakes y e → e.overtaken = false → e.cont = .zeroized k →
       Ends y e { result := leBytes 2 k } y.settle)) ∧
  (∀ (s : State) (w : OtpWrite) (d : BitVec 32), s.otp.busy = some w →
     (s.clocked = false → exec (.fuRsp d) s = .next s) ∧
     (s.clocked = true → ∃ t, exec (.fuRsp d) s = .next t ∧
       t.otp.words.findD w.addr 0 = s.otp.words.findD w.addr 0 ||| w.bits ∧
       ∀ a, a ≠ w.addr → t.otp.words.findD a 0 = s.otp.words.findD a 0))

/-- MIG_FREEZE towards a VALID peer of the expected epoch waits for the domain's requests in flight; then it takes a slot for
KMIG, asks the peer with its policy word and a fresh nonce, and waits 10 ms for the answer; with KMIG agreed it freezes the
domain and completes; the answer's time limit clears the slot and denies (R319, R339).

MIG_EXPORT of a frozen domain writes the state part to the buffer that the host names, or starts its scan over owned
granules and writes the part with its last line; the write's completion counts the part and completes the command.
MIG_IMPORT reads the header of a part, and with its last line written and a tag that verifies marks the part as there and
completes. MIG_THAW ends the migration on either side (R320, R321, R322, R340 to R343). One write for a part, and an error
answer to it as a DMA error, are the model's choice (log entry 38); the channel is a free value (log entry 31).

Rows that it shows to complete: MIG_FREEZE, JOURNAL_STEP_RESUME, MIG_FREEZE_ANSWER_TIMEOUT, MIG_EXPORT, MIG_IMPORT, MIG_THAW. -/
def Obligations.MigrationCommandsTakeEffect : Prop :=
  (∀ (s : State) (src : Src) (c : Cmd) (ldi dest slot d : Nat) (n : BitVec 256) (e : JEntry),
     (Begins s src migFreezeSpec c →
       let u := s.begun migFreezeSpec c
       let peer := c.p 0 2
       peer ≠ 0xFFFF → peer ≠ u.boot.devid → (u.dom c.ldi).frozen = false → (u.sa peer).peerEpoch = c.p 8 8 →
       u.saValid peer = true → u.boot.fwSvn ≤ (u.sa peer).peerSvn →
       Suspends (.migFreeze src) s migFreezeSpec c (.inflight c.ldi) (.freezeDrain c.ldi peer (c.p 8 8)) u) ∧
     (Wakes s e → e.overtaken = false → e.cont = .freezeDrain ldi dest d →
       let u := s.settle
       let nonce := BitVec.ofNat 256 (leNat (drawBytes u.draw.1 32))
       u.migPeer dest d = stOk → u.drbgReady = true → u.freePoolSlot ldi = some slot →
       ∃ y : State, y.keySlot slot = { type := 11, ldi := ldi, gen := (u.dom ldi).gen } ∧ y.shuttle = u.shuttle ∧
         ∀ sup, exec (.journalStepResume e.jid sup) s =
           .next (((y.sendCtrl dest 0x08 (policyBody (u.dom ldi).gdid (u.dom ldi).policy 1 (bvBytes 32 nonce))).suspend e.jid
             (.policy ldi) (.freezePolicy ldi dest slot (u.now + 10 * msTicks) nonce)).endSpent)) ∧
     (Wakes s e → e.overtaken = false → e.cont = .freezePolicy ldi dest slot d n → s.settle.migAgreed ldi dest = true →
       Ends s e {} (s.settle.setDom ldi { s.settle.dom ldi with frozen := true })) ∧
     (s.loom.journal.find? (fun e => (e.waitsPolicy ldi).isSome) = some e → e.waitsPolicy ldi = some (slot, d) →
       s.loomUp = true → e.overtaken = false →
       exec (.migFreezeAnswerTimeout ldi) s =
         .next ((((s.advanceTo d).clearSlot slot).commit e { status := stDenied }).endSpent.drainTurns))) ∧
  (∀ (s : State) (src : Src) (c : Cmd) (m : Migration) (x : MigState),
     (Begins s src migExportSpec c →
       let u := s.begun migExportSpec c
       (u.dom c.ldi).mig = some m → (u.dom c.ldi).frozen = true → m.stateDone = false →
       (c.p 0 1 = 0 → c.p 4 4 = 0 → c.p 8 4 = 0 →
         let plain := u.stateRecords c.ldi m.nextIndex
         80 + plain.length ≤ c.p 24 8 →
         let part := sealPart (u.keySlot m.slot).key
           (partHeader 0 m.nextIndex (u.dom c.ldi).gdid u.boot.devid m.peer (plain.length / 32) 0 plain.length) plain
         Suspends (.migExport src) s migExportSpec c .dma
           (.exportWrite c.ldi 0 (leBytes 8 part.length ++ leBytes 4 m.nextIndex))
           (u.emit (.dmaWrite (dmaChannel ((s.checked c).newJid migExportSpec c)) (u.dmaFunc c.path) (c.p 16 8) part))) ∧
       (c.p 0 1 = 1 → 1 ≤ c.p 8 4 → c.p 8 4 ≤ 4096 → c.p 4 4 + c.p 8 4 ≤ granuleTop →
         80 + 65536 * c.p 8 4 ≤ c.p 24 8 → (∀ g ∈ span (c.p 4 4) (c.p 8 4), u.owns c.ldi g = true) →
         ∃ v, Suspends (.migExport src) s migExportSpec c .scan
           (.export_ c.ldi (c.p 4 4) (c.p 8 4) (c.p 16 8) m.nextIndex m.slot) v)) ∧
     (Begins s src migImportSpec c →
       let u := s.begun migImportSpec c
       (u.dom c.ldi).mig = some m → m.source = false → 80 ≤ c.p 8 8 → c.p 8 8 ≤ 80 + 65536 * 4096 →
       Suspends (.migImport src) s migImportSpec c .dma (.importPart c.ldi (c.p 0 8) (c.p 8 8) [])
         (u.dmaRead ((s.checked c).newJid migImportSpec c) c.path (c.p 0 8) 64)) ∧
     (∀ (t : State) (e : JEntry) (l first n dst k slot : Nat) (y : Scan), Wakes t e → e.overtaken = false →
       e.cont = .export_ l first n dst k slot →
       let u := t.settle
       let v := (u.bindScan y).drainInteg.endScan y
       u.scan e.jid = some y → y.kind = .export_ → y.out = false → y.outs = [] → y.status = stOk → y.failed = 0 →
       y.stop ≤ y.next → (v.dom l).mig = some m →
       let part := sealPart (v.keySlot m.slot).key
         (partHeader 1 m.nextIndex (v.dom l).gdid v.boot.devid m.peer n first y.data.length) y.data
       ∀ sup, exec (.journalStepResume e.jid sup) t =
         .next (((v.emit (.dmaWrite (dmaChannel e.jid) (v.dmaFunc e.path) dst part)).suspend e.jid .dma
           (.exportWrite l 1 (leBytes 8 part.length ++ leBytes 4 m.nextIndex))).endSpent)) ∧
     (∀ (t : State) (e : JEntry) (l kind : Nat) (res : Bytes) (sup : Supply), Wakes t e → e.overtaken = false →
       e.cont = .exportWrite l kind res → (t.settle.dom l).mig = some m →
       (sup.dmaErr = false → exec (.journalStepResume e.jid sup) t =
         .next (((t.settle.setDom l { t.settle.dom l with
           mig := some { m with nextIndex := m.nextIndex + 1, stateDone := kind == 0 } }).commit e
             { result := res }).endSpent.drainTurns)) ∧
       (sup.dmaErr = true → exec (.journalStepResume e.jid sup) t =
         .next ((t.settle.commit e { status := stIntegrity, result := res }).endSpent.drainTurns))) ∧
     (∀ (t : State) (e : JEntry) (l a len : Nat) (got : Bytes) (y : Scan) (sup : Supply), Wakes t e → e.overtaken = false →
       e.cont = .importPart l a len got →
       let u := t.settle
       u.migIn l = some m → u.scan e.jid = some y → y.out = false → y.status = stOk → y.stop ≤ y.next →
       u.scanDead y = false → sup.dmaErr = false → 64 ≤ got.length → got.length = len → u.partTag m.slot got = true →
       ∃ v : State, exec (.journalStepResume e.jid sup) t =
           .next ((v.commit e { result := importReply y.count (fieldAt got 8 4) }).endSpent.drainTurns) ∧
         (v.dom l).mig = some { m with imported := m.imported ++ [fieldAt got 8 4] }) ∧
     (Begins s src migThawSpec c →
       let u := s.begun migThawSpec c
       (u.dom c.ldi).mig = some m →
       (m.source = true → ∃ v, Completes (.migThaw src) s migThawSpec c { result := leBytes 4 m.nextIndex } v ∧
         (v.dom c.ldi).mig = none ∧ (v.dom c.ldi).frozen = false ∧ (v.dom c.ldi).state = (u.dom c.ldi).state) ∧
       (m.source = false → m.complete = some x →
         ∃ v, Completes (.migThaw src) s migThawSpec c { result := leBytes 4 m.imported.length } v ∧
           (v.dom c.ldi).mig = none ∧ (v.dom c.ldi).frozen = false)))

/-- SPN_STREAM_OPEN opens a stream under the domain's job seed, and the first takes the seed; SPN_STREAM_CLOSE answers the items
pulled, and the last waits for the pulls accepted before it and drops the seed and K_SP (R172, R192, R199, R323). That a
close which waits answers the items pulled as at the close is the model's choice (log entry 46).

SNS_STATUS answers the records of the instances from FIRST on; SNS_CAL_WINDOW opens and closes the calibration window (R324,
R325, R410).

RCV_LOG_READ answers records from FROM on in order of SEQ; RCV_DUMP_READ answers a piece of the crash dump, zeros when there
is none (R326, R328).

Rows that it shows to complete: SPN_STREAM_OPEN, SPN_STREAM_CLOSE, SNS_STATUS, SNS_CAL_WINDOW, RCV_LOG_READ, RCV_DUMP_READ. -/
def Obligations.MaintenanceCommandsTakeEffect : Prop :=
  (∀ (s : State) (src : Src) (c : Cmd) (x : Stream),
     (Begins s src spnStreamOpenSpec c →
       let u := s.begun spnStreamOpenSpec c
       let seed := BitVec.ofNat 128 (c.p 0 16)
       let kept := (u.dom c.ldi).reservedStreams
       u.build.pool = false → (u.streamsOf c.ldi = [] ∧ kept = [] ∨ (u.dom c.ldi).seed = some seed) →
       (∀ y ∈ u.streamsOf c.ldi, y.stream ≠ c.p 16 4) → c.p 16 4 ∉ kept → u.streamEntries < 4096 →
       (u.streamsOf c.ldi).length + kept.length < 256 →
       ∃ v, Completes (.spnStreamOpen src) s spnStreamOpenSpec c {} v ∧
         v.spindle.streams = u.spindle.streams ++ [{ stream := c.p 16 4, ldi := c.ldi }] ∧
         (u.streamsOf c.ldi = [] → (v.dom c.ldi).jobSeed = some seed)) ∧
     (Begins s src spnStreamCloseSpec c →
       let u := s.begun spnStreamCloseSpec c
       let v : State := { u with spindle := { u.spindle with
         streams := u.spindle.streams.filter (fun y => !(y.ldi == c.ldi && y.stream == x.stream)) } }
       u.stream c.ldi (c.p 0 4) = some x →
       (v.streamsOf c.ldi ≠ [] → Completes (.spnStreamClose src) s spnStreamCloseSpec c { result := leBytes 8 x.pulled } v) ∧
       (v.streamsOf c.ldi = [] → v.pulling c.ldi = true →
         Suspends (.spnStreamClose src) s spnStreamCloseSpec c (.pulls c.ldi) (.streamClose c.ldi x.pulled) v) ∧
       (v.streamsOf c.ldi = [] → v.pulling c.ldi = false →
         Completes (.spnStreamClose src) s spnStreamCloseSpec c { result := leBytes 8 x.pulled } (v.endJob c.ldi))) ∧
     (∀ (t : State) (e : JEntry) (l n : Nat), Wakes t e → e.overtaken = false → e.cont = .streamClose l n →
       Ends t e { result := leBytes 8 n } (t.settle.endJob l) ∧ ((t.settle.endJob l).dom l).jobSeed = none ∧
         ((t.settle.endJob l).keySlot (8 * l + 4)).type = 0)) ∧
  (∀ (s : State) (src : Src) (c : Cmd),
     (Begins s src snsStatusSpec c →
       let u := s.begun snsStatusSpec c
       1 ≤ c.p 2 2 → c.p 2 2 ≤ 1024 →
       let l := u.build.instances.filter (fun i => decide (c.p 0 2 ≤ i))
       ∃ r, Completes (.snsStatus src) s snsStatusSpec c r u ∧ r.status = stOk ∧
         r.ext = ((l.take (c.p 2 2)).map u.sensorRecord).flatten ∧ r.result.take 4 = leBytes 4 (l.take (c.p 2 2)).length) ∧
     (Begins s src snsCalWindowSpec c →
       let u := s.begun snsCalWindowSpec c
       (c.p 0 1 = 1 → u.baro.window = none → 1 ≤ c.p 2 2 → c.p 2 2 ≤ 60000 →
         ∃ v, Completes (.snsCalWindow src) s snsCalWindowSpec c { result := leBytes 4 v.calBins ++ leBytes 4 v.uncalBins } v ∧
           v.baro.window = some (u.now + c.p 2 2 * msTicks) ∧ v.baro.held = u.baro.sensors) ∧
       (c.p 0 1 = 0 → c.p 2 2 = 0 → u.baro.window ≠ none →
         ∃ v, Completes (.snsCalWindow src) s snsCalWindowSpec c { result := leBytes 4 v.calBins ++ leBytes 4 v.uncalBins } v ∧
           v.baro.window = none))) ∧
  (∀ (s : State) (src : Src) (c : Cmd) (d : Dump),
     (Begins s src rcvLogReadSpec c →
       let u := s.begun rcvLogReadSpec c
       1 ≤ c.p 8 2 → c.p 8 2 ≤ 1024 →
       ∃ r, Completes (.rcvLogRead src) s rcvLogReadSpec c r u ∧ r.status = stOk ∧
         r.ext = ((u.logFrom (c.p 0 8)).take (c.p 8 2)).flatten) ∧
     (Begins s src rcvDumpReadSpec c →
       let u := s.begun rcvDumpReadSpec c
       c.p 0 4 % 64 = 0 → c.p 4 4 % 64 = 0 → 1 ≤ c.p 4 4 → c.p 4 4 ≤ 65536 → c.p 0 4 + c.p 4 4 ≤ dumpSize →
       (u.loom.dump = none → Completes (.rcvDumpRead src) s rcvDumpReadSpec c
         { result := leBytes 20 0, ext := List.replicate (c.p 4 4) 0 } u) ∧
       (u.loom.dump = some d → ∃ r v, Completes (.rcvDumpRead src) s rcvDumpReadSpec c r v ∧
         r.ext = ((span (c.p 0 4 / 8) (c.p 4 4 / 8)).map d.word).flatten ∧
         r.result = leBytes 1 1 ++ leBytes 3 0 ++ leBytes 4 dumpSize ++ timeBytes d.time)))

/-- RCV_LOG_CLEAR frees every record whose sequence number is UPTO or lower, and no other, and answers their number (R327).

Rows that it shows to complete: RCV_LOG_CLEAR. -/
def Obligations.LogClearFreesRecords : Prop :=
  ∀ (s : State) (src : Src) (c : Cmd), Begins s src rcvLogClearSpec c →
    let u := s.begun rcvLogClearSpec c
    c.p 0 8 < 2 ^ 48 → seqLe (c.p 0 8) u.log.newest = true →
    ∃ v, Completes (.rcvLogClear src) s rcvLogClearSpec c
        { result := leBytes 4 (u.log.places.length - v.log.places.length) } v ∧
      v.log.nextSeq = u.log.nextSeq ∧
      ∀ x, x ∈ v.log.places ↔ x ∈ u.log.places ∧ seqLe (recordSeq x.2) (c.p 0 8) = false

/-- A write of `RING_TAIL` that the ring takes at once moves TAIL under the three conditions of R467; any other value leaves the
ring, sets BADTAIL and is counted. A CORE restart holds the write (R467, R468). The path answers each write (R451).

Rows that it shows to complete: RING_TAIL_WRITE. -/
def Obligations.RingTailWrites : Prop :=
  ∀ (s : State) (w : RegWrite) (i : Nat),
    s.takesOn w.path = true → writeKind w = some (.tail i) → writesMgmt w = false → (writeMask w).toNat % 2 ^ 32 ≠ 0 →
    let r := s.ring i
    let v := writeOnto w r.tail % 2 ^ 32
    let step := (v + 2 ^ 32 - r.tail) % 2 ^ 32
    let open_ := 1 ≤ step ∧ step ≤ 16 ∧ (v + 2 ^ 32 - r.reply) % 2 ^ 32 ≤ 16 ∧ s.ringClosed i = false
    (s.holdsTail i = true →
      exec (.ringTailWrite w) s = .next ((s.setRing i { r with heldTail := some v }).answered w)) ∧
    (s.holdsTail i = false → open_ →
      exec (.ringTailWrite w) s = .next ((s.setRing i { r with tail := v, heldTail := none }).drainTurns.answered w)) ∧
    (s.holdsTail i = false → ¬ open_ →
      ∃ u : State, exec (.ringTailWrite w) s = .next (u.drainTurns.answered w) ∧
        u.ring i = { r with badTail := true, heldTail := none } ∧ u.counters.refused = s.counters.refused + 1)

/-- W1C writes clear exactly the bits that are written as 1; EV_ENABLE takes the strobed bytes; the path answers each write (R8,
R451, R454, R466, R469, R470). That FAULT_INSTANCE goes with CROSSING_FAULT is the model's choice (log entry 47).

DEVID is taken once, and never as 0xFFFF; a capture latches the time; a core register is written while the cores are halted
under CORE_ACCESS; a read of `DBG_ARR_DATA` steps its word, any other read answers the word of the map, and one outside its
path's reach reads zero and is counted; a mailbox write stores the strobed bytes. The register port answers each access on
it with its response, the debug port with its own (R330, R431, R436, R451, R459, R463, R471, R475, R476).

Rows that it shows to complete: EV_STATUS_CLEAR, EV_MAP_CLEAR, EV_ENABLE_WRITE, RING_EVT_CLEAR, CLOCK_STATUS_CLEAR,
CTC_DEVID_WRITE, TIM_SNAP_CAPTURE, DBG_CORE_REG_WRITE, DBG_ARR_DATA_READ, REGISTER_WRITE. -/
def Obligations.RegisterWritesTakeEffect : Prop :=
  (∀ (s : State) (w : RegWrite) (i k : Nat) (abort : Bool), s.takesOn w.path = true →
     (writeKind w = some .evStatus → ∃ t : State, exec (.evStatusClear w) s = .next (t.answered w) ∧ t = { s with events := t.events } ∧
       t.events = { s.events with status := t.events.status } ∧
       ∀ b, b < 13 → t.events.status.getLsbD b = (s.events.status.getLsbD b && !(writeClears w).getLsbD b)) ∧
     (writeKind w = some (.evMap abort k) → k < 4 → ∃ t : State, exec (.evMapClear w) s = .next (t.answered w) ∧
       t.events.status = s.events.status ∧
       (abort = true → t.events.integ = s.events.integ ∧ ∀ b, b < 256 → t.events.abort.getLsbD b =
         (s.events.abort.getLsbD b && !(decide (b / 64 = k) && (writeClears w).getLsbD (b % 64)))) ∧
       (abort = false → t.events.abort = s.events.abort ∧ ∀ b, b < 256 → t.events.integ.getLsbD b =
         (s.events.integ.getLsbD b && !(decide (b / 64 = k) && (writeClears w).getLsbD (b % 64))))) ∧
     (writeKind w = some .evEnable → ∃ t : State, exec (.evEnableWrite w) s = .next (t.answered w) ∧ t.events.status = s.events.status ∧
       ∀ b, b < 13 → t.events.enable.getLsbD b =
         if (writeMask w).getLsbD b then w.data.getLsbD b else s.events.enable.getLsbD b) ∧
     (writeKind w = some (.evt i) → writesMgmt w = false → ∃ t : State, exec (.ringEvtClear w) s = .next (t.answered w) ∧
       t.ring i = { s.ring i with
         evt := (s.ring i).evt && !(writeClears w).getLsbD 32, badTail := (s.ring i).badTail && !(writeClears w).getLsbD 33 }) ∧
     (writeKind w = some .clock → ∃ t : State, exec (.clockStatusClear w) s = .next (t.answered w) ∧
       t.power = { s.power with
         rootLost := s.power.rootLost && !(writeClears w).getLsbD 1, crossFault := s.power.crossFault && !(writeClears w).getLsbD 2,
         faultInst := if (writeClears w).getLsbD 2 then 0 else s.power.faultInst })) ∧
  (∀ (s : State) (w : RegWrite) (path : RegPath) (off a : Nat), s.takesOn w.path = true → s.takesOn path = true →
     (writeKind w = some .devid → (writeMask w).toNat % 65536 ≠ 0 →
       let v := writeOnto w s.boot.devid % 65536
       (s.boot.devidSet = false → v ≠ 0xFFFF → exec (.ctcDevidWrite w) s =
         .next (({ s with boot := { s.boot with devid := v, devidSet := true } } : State).tryRoot.answered w)) ∧
       (s.boot.devidSet = true ∨ v = 0xFFFF → ∃ u : State, exec (.ctcDevidWrite w) s = .next (u.tryRoot.answered w) ∧ u.boot = s.boot ∧
         u.counters.refused = s.counters.refused + 1)) ∧
     (writeKind w = some .snap → (writeClears w).getLsbD 0 = true → ∃ t : State, exec (.timSnapCapture w) s = .next (t.answered w) ∧
       t.time = { s.time with snapTime := s.time12, snapFree := s.time.freerun, snapState := s.time.state.code, snapK := s.time.k
                              snapSeq := (s.time.snapSeq + 1) % 2 ^ 32 }) ∧
     (writeKind w = some (.coreReg off) → s.right 4 = true → s.loom.halted = true →
       ∃ t : State, exec (.dbgCoreRegWrite w) s = .next (t.answered w) ∧
         t.loom.coreRegs.find off = some (BitVec.ofNat 64 (writeOnto w (s.coreWord off).toNat))) ∧
     (pathTarget path a = some 0x102008 → s.right 5 = true →
       exec (.dbgArrDataRead path a) s = .next (s.arrAdvance.answerOn path s.arrData) ∧
         s.arrAdvance.loom.arrWord = (s.loom.arrWord + 1) % 2 ^ 32) ∧
     (pathTarget path a = some off → off ≠ 0x102008 → s.debugDenied off = false →
       exec (.dbgArrDataRead path a) s = .next (s.answerOn path (s.mapWord off))) ∧
     (pathTarget path a = none → exec (.dbgArrDataRead path a) s = .next (s.countRefused.answerOn path 0)) ∧
     (∀ v, s.answerOn path v = s.emit (if path = .dbg then .dbgRsp v else .cpRsp v)) ∧
     (writeKind w = some (.mailbox off) → writesMgmt w = false → mailboxWritable off = true → Memory.wf s.mailbox = true →
       ∃ t : State, exec (.registerWrite w) s = .next (t.answered w) ∧ ∀ b, Memory.read t.mailbox b =
         if off ≤ b ∧ b < off + 8 ∧ w.strb.getLsbD (b - off) = true then BitVec.ofNat 8 (w.data.toNat / 2 ^ (8 * (b - off)))
         else Memory.read s.mailbox b))

/-- FENCE_SIGNAL applies the next status; BP_ACK of a published SEQ moves the acknowledged SEQ, of one acknowledged before does
nothing, and of one not yet published is counted; BP_IN records add ranges, report for a producer, and name neighbours, and
a record of a reserved TYPE or kind is counted and dropped (the count is log entry 23's); the HCP's reset closes its rings
and its image opens them (R21, R47, R48, R391, R448 to R452).

Rows that it shows to complete: FENCE_SIGNAL, BP_ACK, BP_IN_PRESENT, BP_IN_REPORT, BP_IN_NEIGHBOUR, HCP_RESET_ASSERT,
HCP_IMAGE_STREAM. -/
def Obligations.BindingEventsTakeEffect : Prop :=
  ∀ (s : State) (m : FenceMsg) (ms : List FenceMsg) (ldi pos devid seq type kind first count handle ctx status : Nat)
    (image : Bytes), s.takesInput = true →
    (s.tables.fenceQ = m :: ms → exec .fenceSignal s =
      .next (({ s with tables := { s.tables with fenceQ := ms } } : State).applyStatus m)) ∧
    (s.bp.acked < seq → seq < s.bp.nextSync → s.bp.nextSync ≤ s.bp.acked + 2 ^ 32 →
      exec (.bpAck (seq % 2 ^ 32)) s = .next { s with bp := { s.bp with acked := seq } }) ∧
    (1 ≤ seq → seq ≤ s.bp.acked → s.bp.acked < seq + 2 ^ 31 → s.bp.nextSync ≤ seq + 2 ^ 32 →
      exec (.bpAck (seq % 2 ^ 32)) s = .next s) ∧
    (s.bp.acked < seq → s.bp.nextSync ≤ seq → seq < s.bp.acked + 2 ^ 31 →
      exec (.bpAck (seq % 2 ^ 32)) s = .next s.countDropped) ∧
    (kind < 2 → exec (.bpInPresent 1 kind first count) s = .next { s with bp :=
      if kind = 0 then { s.bp with queues := s.bp.queues ++ [(first, count)] }
      else { s.bp with slices := s.bp.slices ++ [(first, count)] } }) ∧
    (type ≠ 1 ∨ 1 < kind → type ≠ 2 → type ≠ 3 → exec (.bpInPresent type kind first count) s = .next s.countDropped) ∧
    (s.settle.reportOk ldi handle ctx = true → ∃ t, exec (.bpInReport ldi handle ctx status) s = .next t ∧
      (t.fence (fenceIndex handle)).state = .signalled ∧ (t.fence (fenceIndex handle)).status = status ∧
      (t.fence (fenceIndex handle)).cause = 0) ∧
    (s.settle.reportOk ldi handle ctx = false →
      exec (.bpInReport ldi handle ctx status) s = .next (s.settle.badRef ⟨ldi, handle, status, .report⟩)) ∧
    ((s.dom ldi).state.live = true → pos ≤ 8 → ∃ t, exec (.bpInNeighbour ldi pos devid) s = .next t ∧
      (t.dom ldi).neighbours = (s.dom ldi).neighbours.put pos devid) ∧
    (exec .hcpResetAssert s = .next { s with boot := { s.boot with hcpClosed := true } }) ∧
    (exec (.hcpImageStream image) s =
      .next { s with boot := { s.boot with hcpDigest := Config.sha384 image, hcpClosed := false } })

/-- BOOT_ROM_START decodes the life cycle, and the ROM polls once the decode's programs have ended; a poll of the ROM takes an
image that passes R483, or writes IMAGE_REJECTED with the reason and polls again until SEQ changes; the firmware polls for a
bundle; PORTS_OPEN opens ports and rings (R346, R353, R356, R481, R483, R484).

The supply warning holds programs until it has been high for 1 ms; the entropy source retests, fails, reseeds and passes
(R202, R203, R378).

Rows that it shows to complete: BOOT_ROM_START, BOOT_DESCRIPTOR_POLL, PORTS_OPEN, POWER_WARN, POWER_HOLD_CLEAR,
ENTROPY_TEST_FAIL, DRBG_RESEED, ENTROPY_STARTUP_TEST_DONE. -/
def Obligations.BootAndSupplyEventsTakeEffect : Prop :=
  (∀ (s : State) (b : BootRead) (q : Option Nat) (r n : Nat),
     (s.clocked = true → s.boot.phase = .rom → ∃ t, exec .bootRomStart s = .next t ∧ t.otp.lcs = s.otp.decode.1 ∧
       t.otp.words = s.otp.words ∧
       t.boot = { s.boot with
         phase := if s.otp.decode.1 = 7 then .dead else if t.otpIdle = true then .poll none else .decode }) ∧
     (s.clocked = true → s.power.fatal = false → s.boot.phase = .poll q →
       (descValid b.desc = false ∨ q = some (descSeq b.desc) →
         exec (.bootDescriptorPoll b) s = .next (s.emit (.dmaRead 0 0 0 64))) ∧
       (descValid b.desc = true → q ≠ some (descSeq b.desc) →
         let u := s.emitAll (bootReads b.desc)
         (u.imageRefused b = some r →
           let v := u.record 0x0C09 (loomPayload 0 0 0 0 r u.jidNow 0)
           exec (.bootDescriptorPoll b) s =
             .next { v with boot := { s.boot with phase := .poll (some (descSeq b.desc)) } }) ∧
         (u.imageRefused b = none → exec (.bootDescriptorPoll b) s = .next (u.acceptImage b)))) ∧
     (s.loomUp = true → s.keys.identity = false → s.keys.zeroized = false → s.boot.phase = .running n →
       descValid b.desc = true → descSeq b.desc ≠ n → b.err = false →
       ∃ t, exec (.bootDescriptorPoll b) s = .next t ∧ t.keys.identity = s.bundleOk b.bundle) ∧
     (s.loomUp = true → s.boot.devidSet = true → s.loom.portsOpen = false →
       exec .portsOpen s = .next ((({ s with loom := { s.loom with portsOpen := true, ringsOpen := true } } : State).applyHeldTails).drainTurns))) ∧
  (∀ (s : State) (raw : List Bool), s.clocked = true →
     (∃ t, exec .powerWarn s = .next t ∧ t.power = { s.power with hold := true, warnAt := s.now } ∧
       (s.power.hold = false → t.events.status = s.events.status ||| (1#13 <<< 2)) ∧ (s.power.hold = true → t.events = s.events)) ∧
     (s.power.hold = true → ∃ t, exec .powerHoldClear s = .next t ∧ t.power = { s.power with hold := false } ∧
       ∀ w ws, s.otp.busy = none → s.otp.job = w :: ws → t.otp.busy = some w) ∧
     (s.canReseed = true → healthFails raw = true → ∃ t, exec (.entropyTestFail raw) s = .next t ∧
       (t.entropy.failed = true ∨ t.entropy.testing = true)) ∧
     (s.canReseed = true → ∃ t, exec .drbgReseed s = .next t ∧ t.entropy.requests = 0 ∧ t.entropy.reseededAt = t.now ∧
       t.entropy.draws = s.entropy.draws) ∧
     (s.entropy.testing = true → raw.length = 4096 → healthFails raw = false →
       exec (.entropyStartupTestDone raw) s = .next (({ s with entropy := { s.entropy with
         passed := true, testing := false, tries := 0, reseededAt := s.now, requests := 0 } } : State).issueCerts.tryRoot)) ∧
     (s.entropy.testing = true → raw.length = 4096 → healthFails raw = true →
       ∃ t, exec (.entropyStartupTestDone raw) s = .next t ∧
         (s.entropy.tries = 2 → t.entropy.failed = true ∧ t.drbgReady = false)))

/-- CK_ROOT lost and returned, POR asserted and released, and the two request pins; a CORE restart begins with its holds, of
which R385 makes step 1 (R368, R370, R371, R372, R385).

Rows that it shows to complete: CK_ROOT_LOST, CK_ROOT_RETURN, RS_PORST_ASSERT, POR_RELEASE, RS_SYSREQ, RS_COREREQ,
RESET_HOLD_END. -/
def Obligations.ResetRequestsTakeEffect : Prop :=
  ∀ (s : State) (l : ResetLevel) (cause left : Nat) (p o q : Bool),
    (s.power.rootValid = true → s.power.phase ≠ .por → ∃ t, exec .ckRootLost s = .next t ∧
      t = { s with power := t.power } ∧ t.power = { s.power with rootValid := false, rootLost := true }) ∧
    (s.power.rootValid = false → ∃ t, exec .ckRootReturn s = .next t ∧ t.power.rootValid = true) ∧
    (∃ t, exec .rsPorstAssert s = .next t ∧ t.power = { phase := .por, rootValid := s.power.rootValid } ∧
      t.tables = {} ∧ t.keys = {} ∧ t.mailbox = [] ∧ t.log = {} ∧ t.time = {} ∧ t.out = [] ∧
      (s.otp.busy = none → t.otp.words = s.otp.words)) ∧
    (s.power.phase = .por → s.power.rootValid = true → exec (.porRelease true) s = .next { s with power := { s.power with phase := .idle } }) ∧
    (s.power.phase = .idle → s.boot.phase ≠ .rom → s.power.rootValid = false →
      exec .rsSysreq s = .next { s with power := { s.power with phase := .latched .system 0x10 } } ∧
      exec .rsCorereq s = .next { s with power := { s.power with phase := .latched .core 0x20 } }) ∧
    (s.power.phase = .idle → s.boot.phase ≠ .rom → s.power.rootValid = true → ∃ t u, exec .rsSysreq s = .next t ∧ exec .rsCorereq s = .next u ∧
      u.loom.restarting = true ∧ (s.otp.busy ≠ none → ∃ x, t.power.phase = .held .system 0x10 false true x) ∧
      (s.otp.busy = none → u.power.phase = .due .core 0x20 false false false)) ∧
    (s.power.phase = .held l cause p o q → s.power.rootValid = true → s.otp.busy = none → ∃ t,
      exec (.resetHoldEnd left) s = .next t ∧
      t.power.phase = .due l cause p o q)

/-- A SYSTEM reset keeps and clears what the table of R373 says, and writes its cause; an open calibration window closes first,
with its record (R373, R410, R413, R465).

A CORE reset restarts Loom, writes the crash dump unless an unread one is held, and notes its cause; where no entry of the
journal goes on, time, OTP and firmware stay as they are; an image found damaged asks for SYSTEM with cause 0x14 (R262,
R375, R376, R382, R385, R465).

Rows that it shows to complete: SYSTEM_RESET, CORE_RESET. -/
def Obligations.ResetsKeepTheirTables : Prop :=
  (∀ (s : State) (cause : Nat) (p o q : Bool), s.power.phase = .due .system cause p o q → s.power.rootValid = true →
     let u := if s.baro.window.isSome then ({ s with baro := s.baro.stopped } : State).windowRecord 4 else s
     ∃ t, exec .systemReset s = .next t ∧
       t.power.phase = .idle ∧ t.power.cause = cause ∧ t.power.pended = p ∧ t.power.otpHeld = o ∧ t.power.squallHeld = q ∧
       t.power.rootLost = s.power.rootLost ∧ t.power.crossFault = s.power.crossFault ∧ t.power.fatal = false ∧
       t.log.places = u.log.places ∧ t.log.nextSeq = u.log.nextSeq ∧ t.trace.records = u.trace.records ∧
       t.loom.dump = u.loom.dump ∧ t.baro.window = none ∧ t.keys = {} ∧ t.tables = {} ∧ t.mailbox = [] ∧ t.time.freerun = 0 ∧ t.boot = {} ∧
       t.events = {} ∧ t.spdm = {} ∧ t.metering = {} ∧ t.otp.lcs = s.otp.lcs ∧
       (s.otp.busy = none → t.otp.words = s.otp.words)) ∧
  (∀ (s : State) (cause n : Nat) (p o q : Bool), s.power.phase = .due .core cause p o q → s.power.rootValid = true →
     (s.boot.phase = .running n → s.boot.imageBad = false → s.loom.journal = [] → s.loom.abortsDue = [] → s.otp.job = [] →
       ∃ t, exec .coreReset s = .next t ∧
       t.power = { s.power with phase := .idle, cause := cause, pended := p, otpHeld := o, squallHeld := q } ∧
       t.time = s.time ∧ t.otp = s.otp ∧ t.boot = s.boot ∧ t.loom.restarting = false ∧
       (s.loom.dump = none → ∃ d, t.loom.dump = some d ∧ d.time = s.time12 ∧ d.head.take 7 = leBytes 4 0x44435443 ++ leBytes 2 1 ++ leBytes 1 cause) ∧
       (∀ d, s.loom.dump = some d → d.readEnd = false → t.loom.dump = some d)) ∧
     (s.boot.phase = .running n → s.boot.imageBad = true → ∃ u t : State, exec .coreReset s = .next t ∧
       t = (u.requestReset .system 0x14).otpPump ∧
       u.power = { s.power with phase := .idle, cause := cause, pended := p, otpHeld := o, squallHeld := q } ∧
       ((∃ x y, t.power.phase = .held .system 0x14 false x y) ∨ t.power.phase = .due .system 0x14 false false false)) ∧
     (s.boot.phase.loaded = false → exec .coreReset s = .next ((({ s with
       power := { s.power with phase := .idle, cause := cause, pended := p, otpHeld := o, squallHeld := q } } : State).crashDump
         cause).clearFirmware.finishAborts.endRestart.startIfDue.otpPump)))

/-- An instance that fails while its spare is free hands over, and one whose spare is taken, or whose state cannot be copied,
dies (R88, R91, R167, R168, R386, R387, R389); DOMAIN_INTEGRITY_EVENT takes the oldest event's last steps (R77). Which
packets an engine still holds as it fails is the operand of its row (the model's choice, log entry 48).

A crossing to the host that overruns sets its status and fails the instance over; the watchdog, the lockstep check and the
stores act by R383 and R384, and a GOT cache entry of a lane is dropped with its record (R92); a single-bit error is
corrected and counted; an error record is stamped and moves to its place (R27, R367, R380, R381, R383, R384). The operand
that says that an error is of a single bit, and the codes of the lane arrays, are the model's choice (log entry 47).

Rows that it shows to complete: DOMAIN_INTEGRITY_EVENT, LANE_FAILED, MP_FLUSH_ACK, ENGINE_FAILED, UNIT_FAILED, CROSSING_FAULT,
LOCKSTEP_MISMATCH, WATCHDOG_EXPIRY, STORE_UE, ERROR_LOG_WRITE. -/
def Obligations.FaultsTakeEffect : Prop :=
  (∀ (s : State) (n k : Nat) (bad : List Nat) (e : IntegEvent) (es : List IntegEvent),
     (s.weft.integQ = e :: es → s.loomUp = true → exec .domainIntegrityEvent s =
       .next (({ s with weft := { s.weft with integQ := es } } : State).integStep e)) ∧
     (s.clocked = true → n < s.build.lanes → (s.lane n).dead = false → (s.lane n).flushing = false →
       let u := s.failureEndsHalt
       (u.weft.spares.find (n / 32) = none →
         exec (.laneFailed n) s = .next ((u.openIntent n).setLane n { u.lane n with flushing := true })) ∧
       (u.weft.spares.find (n / 32) ≠ none → exec (.laneFailed n) s = .next (u.killLane n))) ∧
     (s.clocked = true → (s.lane n).flushing = true →
       let hit := (s.lane n).named bad
       (hit = [] → s.weft.spares.find (n / 32) = none → exec (.mpFlushAck n bad) s = .next (s.spareLane n (n / 32))) ∧
       (hit ≠ [] ∨ s.weft.spares.find (n / 32) ≠ none → exec (.mpFlushAck n bad) s =
         .next (((hit.foldl (fun x y => x.entryFails n y) s).killLane n).commitIntent n))) ∧
     (s.clocked = true → n < s.build.engines → (s.engine n).dead = false →
       let u := s.failureEndsHalt
       (u.shuttle.spares.find (n / 12) = none → exec (.engineFailed n (.copied k)) s = .next (u.spareEngine n (n / 12) k)) ∧
       (u.shuttle.spares.find (n / 12) ≠ none → exec (.engineFailed n (.copied k)) s = .next (u.killEngine n)) ∧
       exec (.engineFailed n .uncorrectable) s = .next ((u.bump 0x021).killEngine n) ∧
       ((u.killEngine n).engine n).dead = true ∧ (((u.bump 0x021).killEngine n).engine n).dead = true) ∧
     (s.clocked = true → n < 12 → (s.unit n).dead = false →
       let u := s.failureEndsHalt
       (u.batten.spare = none → exec (.unitFailed n false) s = .next (u.spareUnit n).pump) ∧
       (u.batten.spare ≠ none → exec (.unitFailed n false) s = .next (u.killUnit n).pump) ∧
       exec (.unitFailed n true) s = .next ((u.bump 0x021).killUnit n).pump ∧
       ((u.killUnit n).unit n).dead = true ∧ (((u.bump 0x021).killUnit n).unit n).dead = true)) ∧
  (∀ (s : State) (inst word n g : Nat) (b : Bytes) (bs : List Bytes),
     (s.clocked = true → s.numberOf inst = none → ∃ t, exec (.crossingFault inst true) s = .next t ∧
       t.power = { s.power with crossFault := true, faultInst := inst }) ∧
     (s.loomUp = true →
       exec .lockstepMismatch s = .next (s.expire 0x0C02 0x22) ∧
       exec .watchdogExpiry s = .next ((s.advanceTo (s.loom.escalated.getD s.now + 4 * msTicks)).expire 0x0C01 0x21) ∧
       (s.loom.expiries = [] → s.power.phase = .idle → s.power.rootValid = true → s.otp.busy = none →
         (s.expire 0x0C02 0x22).power.phase = .due .core 0x22 false false false)) ∧
     (s.clocked = true →
       let u := fun k => (s.bump 0x021).record 0x0C03 (loomPayload 0 0 0 0 (k + word % 2 ^ 32 * 256) s.jidNow 0)
       (∃ t, exec (.storeUe 3 word false) s = .next t ∧ t.loom.escalated = some (s.loom.escalated.getD s.now) ∧
         t.loom.expiries = [s.now, s.now]) ∧
       (let v : State := { u 1 with boot := { s.boot with imageBad := true } }
        exec (.storeUe 1 word false) s = .next (if s.loomUp then v.expire 0x0C02 0x22 else v)) ∧
       exec (.storeUe 6 word false) s = .next ((u 6).loseSa (word / 16)) ∧
       exec (.storeUe 7 word false) s = .next ((u 7).dropWindow word) ∧
       exec (.storeUe 8 word false) s = .next ((u 8).loseMeter word) ∧
       exec (.storeUe 9 word false) s = .next ((u 9).discardWord word) ∧
       (n < s.build.lanes → n < 256 → (s.lane n).dead = false → (s.lane n).got.contains g = true →
         let v := (s.setLane n { s.lane n with got := (s.lane n).got.filter (fun x => x != g) }).bump 0x021
         exec (.storeUe 16 (256 * g + n) false) s = .next (v.record 0x0307
           (weftPayload (1024 * g) 0 0 0 n (s.lane n).instance_ 0 0 0 0 0)))) ∧
     (s.clocked = true → ∀ k, exec (.storeUe k word true) s = .next (s.bump 0x020)) ∧
     (s.clocked = true → s.settle.log.queue = b :: bs → s.log.queue ≠ [] → ∃ t, exec .errorLogWrite s = .next t ∧
       t.log.queue = bs ∧ t.log.newest = fieldAt b 2 6 ∧
       t.log.places.find ((fieldAt b 2 6 + 2 ^ 48 - 1) % 2 ^ 48 % 1024) = some (s.stampRecord b)))

/-- A read that an accepted write of its line covers is answered with that write's data; else its access group is issued; one
that the ownership check refuses is answered with the status (R39, R65, R66, R75).

A full-line write to a line that is not failing is accepted and acknowledged; a byte-masked write of an accepted line merges
with it; each adds its bytes to the arrival counter that it names, and one that names a counter of another LDI, or none that
is allocated, is refused with ST_BAD_PARAM (R67, R68, R125).

Rows that it shows to complete: HP_READ, HP_FULL_WRITE, HP_BYTE_MASKED_WRITE. -/
def Obligations.HostRequestsTakeEffect : Prop :=
  (∀ (s : State) (r : HpReq) (p : Line) (k : Nat) (x : BitVec 64), LaneTakes s r .read →
     let q := s.checkC2 (hpLine r .read)
     let l := s.lane r.lane
     (s.gotCheck q = stOk → l.forward r.dli = some p → ∃ t, exec (.hpRead r) s = .next t ∧
       t.out = s.out ++ [.hpRsp r.lane r.tag 0 false stOk p]) ∧
     (s.gotCheck q = stOk → l.forward r.dli = none → l.tagHeld (s.build.psel r.dli) (s.build.tagField r.dli) = some x →
       l.freeTags 1 = some [k] → ∃ t, exec (.hpRead r) s = .next t ∧
       t.out = s.out ++ [.mpCmd r.lane 0 (s.build.pdata r.dli) l.nextGroup true k 0 0] ∧
       ∃ g ∈ (t.lane r.lane).reads, g.req = { q with order := some l.nextRead } ∧ g.issued = true ∧ g.dataTag = some k ∧ g.storedTag = some x) ∧
     (s.gotCheck q ≠ stOk → ∃ t, exec (.hpRead r) s = .next t ∧
       t.out.getLast? = some (.hpRsp r.lane r.tag 0 true (s.gotCheck q) 0))) ∧
  (∀ (s : State) (r : HpReq) (p : Line) (a : Arrival),
     let l := s.lane r.lane
     let free := r.arr = 0 ∨ s.arrOk r.ldi r.arr = true
     let adds := fun (t : State) (n : Nat) =>
       (r.arr = 0 → t.tables.arrs = s.tables.arrs) ∧
       (s.arrOk r.ldi r.arr = true → s.tables.arrs.find r.arr = some a →
         t.tables.arrs.find r.arr = some { a with bytes := (a.bytes + n) % 2 ^ 46 } ∧
           .bpArr r.arr a.ldi ((a.bytes + n) % 2 ^ 46) ∈ t.out)
     (∀ op, op ≠ .read → LaneTakes s r op → s.gotCheck (hpLine r op) = stOk → r.arr ≠ 0 → s.arrOk r.ldi r.arr = false →
       ∃ t, (op = .full → exec (.hpFullWrite r) s = .next t) ∧ (op = .masked → exec (.hpByteMaskedWrite r) s = .next t) ∧
         t.out.getLast? = some (.hpRsp r.lane r.tag 1 true stBadParam 0) ∧
         (t.lane r.lane).forward r.dli = l.forward r.dli) ∧
     (LaneTakes s r .full → free →
       let q := s.checkC2 (hpLine r .full)
       s.gotCheck q = stOk → s.selvReady (l.gotTouch (granuleOf r.dli)) q = true →
       l.failing.contains (r.dli, r.ldi) = false → l.overflow.contains r.ldi = false →
       ∃ t, exec (.hpFullWrite r) s = .next t ∧ t.out.getLast? = some (.hpRsp r.lane r.tag 1 false stOk 0) ∧
         (t.lane r.lane).forward r.dli = some r.data ∧ adds t 64) ∧
     (LaneTakes s r .masked → free →
       let q := s.checkC2 (hpLine r .masked)
       s.gotCheck q = stOk → s.selvReady (l.gotTouch (granuleOf r.dli)) q = true → r.be ≠ BitVec.allOnes 64 →
       l.forward r.dli = some p →
       ∃ t, exec (.hpByteMaskedWrite r) s = .next t ∧ t.out.getLast? = some (.hpRsp r.lane r.tag 1 false stOk 0) ∧
         (t.lane r.lane).forward r.dli = some (mergeLine p r.data r.be) ∧ adds t (beCount r.be)))

/-- The last return of a host read group: a line whose tag verifies is answered with its plaintext, and one that fails is
answered with `ST_INTEGRITY`, no data, and an integrity event (R20, R65, R77). The reserved ECC value 3 is taken as
uncorrectable (the model's reading, log entry 13).

Rows that it shows to complete: MP_READ_RETURN. -/
def Obligations.ReadReturnsVerify : Prop :=
  ∀ (s : State) (n tag ecc : Nat) (c : Line) (g : ReadGroup) (x : BitVec 64),
    s.clocked = true → (s.lane n).flushing = false → (s.lane n).reads = [g] → (s.lane n).owed = [] → (s.lane n).held = [] →
    g.dataTag = some tag → g.data = none → g.plain = none → g.req.order = some g.id → g.storedTag = some x → g.cancelled = 0 → g.dramUe = false →
    g.req.src = .host → g.req.op = .read → g.req.gen = (s.dom g.req.ldi).gen → s.keyless g.req.ldi = false →
    (s.dom g.req.ldi).state ≠ .aborted →
    let r := g.req
    let k := s.memKeys r.ldi
    (ecc < 2 → lineTag k r.dli r.ldi r.gen c = x → ∃ t, exec (.mpReadReturn n tag c ecc) s = .next t ∧
      t.out = s.out ++ [.hpRsp n r.tag 0 false stOk (decryptLine k r.dli r.ldi r.gen c)]) ∧
    (2 ≤ ecc ∨ lineTag k r.dli r.ldi r.gen c ≠ x → ∃ t e, exec (.mpReadReturn n tag c ecc) s = .next t ∧
      t.out.getLast? = some (.hpRsp n r.tag 0 true stIntegrity 0) ∧ t.weft.integQ = s.weft.integQ ++ [e] ∧
      e.ldi = r.ldi ∧ e.dli = r.dli ∧ e.status = stIntegrity ∧
      ((s.lane n).failing.length < 256 → (t.lane n).failing.contains (r.dli, r.ldi) = true))

/-- A GOT entry that arrives lets its requests pass; a write group is issued whole; a write's acknowledgement frees its entry;
the scrub engine ends a granule (R40, R41, R64, R71, R73).

Rows that it shows to complete: GOT_FETCH_COMPLETE, WRITE_GROUP_CLOSE, MP_WRITE_ACK, SCRUB_GRANULE_DONE. -/
def Obligations.LaneEventsTakeEffect : Prop :=
  ∀ (s : State) (n g tag row : Nat) (w : Nat × WriteCmd) (ids tags : List Nat) (q : ScrubItem)
    (rest : List ScrubItem), s.clocked = true →
    let l := s.lane n
    (l.misses.any (fun m => m.1 == g) = true → l.flushing = false → exec (.gotFetchComplete n g) s =
      .next (((l.misses.filter (fun x => x.1 == g)).flatMap Prod.snd).foldl (fun s r => s.passC2 n r)
        (s.setLane n (({ l with misses := l.misses.filter (fun x => x.1 != g) } : Lane).gotTouch g)))) ∧
    (l.flushing = false → l.group = some (row, ids) → (∀ x ∈ l.reads, x.issued = true) → l.held = [] →
      let es := l.entriesOf ids
      let ps := s.build.selvLines es
      l.freeTags (es.length + ps.length) = some tags → ∃ t, exec (.writeGroupClose n []) s = .next t ∧
        t.out.length = s.out.length + es.length + ps.length ∧
        ∀ e ∈ es, ∃ x ∈ (t.lane n).ingress, x.id = e.id ∧ x.issued = true) ∧
    (l.flushing = false → l.writes.find? (fun w => w.1 == tag) = some w → exec (.mpWriteAck n tag) s =
      .next ((s.setLane n (s.ackWrite { l with writes := l.writes.filter (fun x => x.1 != tag) } w.2)).goOn n)) ∧
    (s.weft.scrubQ = q :: rest → s.inHalt = false → s.loom.restarting = false → s.power.fatal = false →
      let u := s.scrubLines q (1024 - q.next) q.next
      ∃ t, exec .scrubGranuleDone s = .next t ∧
        (u.2 < 1024 → t.weft.scrubQ = { q with next := u.2 } :: rest) ∧
        (1024 ≤ u.2 → t.weft.scrubQ = rest ∧ (t.got q.granule).state = if q.toOwned then .owned else .free))

/-- What R487 makes of an egress packet on an open port while no SA's counter has run out: the one report, and for a packet that
is sent the wire packet under the next counter, unicast under the pair SA and multicast under the group's key slot. A packet
whose POLICY takes the SA's last counter finds the SA ended. A REDUCE or ATOMIC that R149 refuses and DET forbids is refused
as malformed, with a BAD_REQUEST record (R36, R97, R98, R113, R185, R191, R198, R442, R487).

Rows that it shows to complete: FP_EGRESS_PACKET. -/
def Obligations.EgressPacketsAreReported : Prop :=
  ∀ (s : State) (p : EgressPkt) (st : Nat), s.portsUp = true → s.portUp p.port = true → (∀ q, s.spent q = false) →
    let a := s.sa p.dest
    let cls := s.portClass p.port
    let h : Header :=
      { src := s.boot.devid, fdt := (s.dom p.ldi).fdt, mapgen := p.mapgen, ctr := a.txNext % 65536, cls := cls }
    (s.egressCheck p = .sent → p.mcast = false → kindOf p.payload ≠ kAtomic → a.txNext + 1 < ctrEnd →
      (s.exch p.dest (s.dom p.ldi).gdid).sent = true →
      ∃ t, exec (.fpEgressPacket p) s = .next t ∧ (t.sa p.dest).txNext = a.txNext + 1 ∧
        t.out = s.out ++ [.fpWire p.port p.vc p.rh
            (h.bytes ++ sealPayload (s.keyAt (.tx p.dest)) (packetIv a.keys.txSalt a.txNext) cls h.bytes p.payload),
          .fpReport p.port p.ptag 0 stOk]) ∧
    (s.egressCheck p = .sent → p.mcast = false → kindOf p.payload = kAtomic → a.txNext + 1 < ctrEnd →
      (s.exch p.dest (s.dom p.ldi).gdid).sent = true →
      ∃ t, exec (.fpEgressPacket p) s = .next t ∧ t.out.getLast? = some (.fpReport p.port p.ptag 0 stOk) ∧
        ∃ e ∈ t.shuttle.rcache, e.reply = false ∧ e.peer = p.dest ∧ e.aseq = a.txAseq ∧ e.ldi = p.ldi ∧ e.fence = p.fence ∧
          e.due = s.now + 20 * usTicks) ∧
    (s.egressCheck p = .sent → p.mcast = false → a.txNext + 1 = ctrEnd → (s.exch p.dest (s.dom p.ldi).gdid).sent = false →
      ∃ t, exec (.fpEgressPacket p) s = .next t ∧ t.saValid p.dest = false ∧ .fpReport p.port p.ptag 1 stOk ∈ t.out) ∧
    (∀ g, s.egressCheck p = .sent → p.mcast = true → s.group (groupKeyOf p.ldi p.dest) = some g →
      (∀ peer ∈ s.otherMembers p.ldi, (s.exch peer (s.dom p.ldi).gdid).sent = true) →
      let hm : Header := { h with ctr := g.txNext % 65536, mcast := true }
      ∃ t, exec (.fpEgressPacket p) s = .next t ∧ (t.group (groupKeyOf p.ldi p.dest)).map (·.txNext) = some (g.txNext + 1) ∧
        t.out = s.out ++ [.fpWire p.port p.vc p.rh (hm.bytes ++ sealPayload (s.keyAt (.slot g.slot))
            (packetIv (groupSalt (s.keySlot g.slot).salt s.boot.devid) g.txNext) cls hm.bytes p.payload),
          .fpReport p.port p.ptag 0 stOk]) ∧
    (s.egressCheck p = .needSa → ∃ t, exec (.fpEgressPacket p) s = .next t ∧
      t.out.getLast? = some (.fpReport p.port p.ptag 1 stOk)) ∧
    (s.egressCheck p = .staleMap → exec (.fpEgressPacket p) s = .next (s.emit (.fpReport p.port p.ptag 2 stOk))) ∧
    (s.egressCheck p = .malformed → bodyMalformed p.payload = true ∧ (s.dom p.ldi).deniesDet p.payload = true ∧
      exec (.fpEgressPacket p) s = .next ((s.egressBad p).refuseEgress p stBadParam)) ∧
    (s.egressCheck p = .refused st → ∃ t, exec (.fpEgressPacket p) s = .next t ∧
      t.out.getLast? = some (.fpReport p.port p.ptag 3 st))

/-- The checks of R114 on an ingress data packet of a peer whose SA has counters left: a bad form and a counter already seen are
dropped and counted; a packet that passes has its counter confirmed in the window that its home holds, and its payload taken
in (R102, R103, R114).

Rows that it shows to complete: FP_INGRESS_PACKET. -/
def Obligations.IngressPacketsAreChecked : Prop :=
  ∀ (s : State) (p : IngressPkt) (a : RxSa) (ldi c : Nat) (payload : Bytes), s.portsUp = true → s.portUp p.port = true →
    let h := (headerOf p.bytes).1
    let u := s.holdWindow p h ldi
    (s.sa h.src).txNext < ctrEnd →
    (s.ingressForm p h = false → ∃ t, exec (.fpIngressPacket p) s = .next t ∧ t.shuttle = s.shuttle ∧
      t.counters.block.findD 0x008 0 = (s.counters.block.findD 0x008 0 + 1) % 2 ^ 64) ∧
    (s.ingressForm p h = true → h.hs = false → h.ctrl = false → s.rxSa p h = some a → s.ldiOfFdt h.fdt = some ldi →
      (s.dom ldi).boundPort p.port = true → (s.dom ldi).deniesClass h.cls = false → reconstruct a.win.top h.ctr = some c →
      (a.win.fresh c = false → ∃ t, exec (.fpIngressPacket p) s = .next t ∧ t.shuttle = u.shuttle ∧
        t.counters.block.findD 0x00C 0 = (s.counters.block.findD 0x00C 0 + 1) % 2 ^ 64) ∧
      (a.win.fresh c = true →
        openPayload a.key (packetIv a.salt c) h.cls (p.bytes.take 8) (p.bytes.drop 8) = none →
        ∃ t, exec (.fpIngressPacket p) s = .next t ∧ t.shuttle = u.shuttle ∧
          t.counters.block.findD 0x00D 0 = (s.counters.block.findD 0x00D 0 + 1) % 2 ^ 64) ∧
      (a.win.fresh c = true →
        openPayload a.key (packetIv a.salt c) h.cls (p.bytes.take 8) (p.bytes.drop 8) = some payload →
        exec (.fpIngressPacket p) s =
          .next (((u.confirmRx p h ldi a.win c).acceptRx p h ldi c payload).endExhausted h.src)))

/-- A confirmed counter is never fresh again, and one below the window is not fresh (R102). -/
def Obligations.ReplayWindowRefusesAgain : Prop :=
  ∀ (w : Window) (c d : Nat), (w.confirm c).fresh c = false ∧ (d + 4095 < (w.confirm c).top → (w.confirm c).fresh d = false) ∧
    (w.fresh d = false → (w.confirm c).fresh d = false)

/-- NACKs and the four kinds of atomic message of a domain that takes them, and that one of an ABORTED domain is dropped; the
packets behind it go, and the SA ends if its counter has run out (R123, R128, R134 to R137, R198).

A PENDING entry whose DUE passes sends a QUERY and is due again 20 µs later; an ACK that has stayed 10 µs without a
descriptor is sent alone; then the SA ends if its counter has run out (R136, R137, R198).

Rows that it shows to complete: NACK_RECEIVED, ATOMIC_REQUEST_RECEIVED, ATOMIC_QUERY_RECEIVED, ATOMIC_RESPONSE_RECEIVED,
ACK_ONLY_RECEIVED, ATOMIC_DUE_EXPIRY, ACK_ONLY_TIMER. -/
def Obligations.AtomicExchangesTakeEffect : Prop :=
  (∀ (s t : State) (p : RxPkt) (e : RcEntry) (w : Nat × Nat × BWork), s.clocked = true →
     let u := t.takeAck p.src (ackOf p.payload)
     let aseq := aseqOf p.payload
     let after := fun (v : State) => v.pump.endExhausted p.src
     (∀ row ∈ [(Instr.nackReceived, fun p => kindOf p.payload == kNack), (.atomicRequestReceived, isAop 1),
         (.atomicQueryReceived, isAop 2), (.atomicResponseReceived, isAop 3), (.ackOnlyReceived, isAop 0)],
       s.takeRx row.2 = some (p, t) → (t.dom p.ldi).retiring = false → (t.dom p.ldi).state = .aborted →
       exec row.1 s = .next (after (t.dropState p))) ∧
     ((t.dom p.ldi).drops = false →
       (s.takeRx (fun p => kindOf p.payload == kNack) = some (p, t) → exec .nackReceived s = .next (after (t.takeNack p))) ∧
       (s.takeRx (isAop 1) = some (p, t) →
         (u.rcFind true p.src aseq = some e → e.ready = true →
           exec .atomicRequestReceived s = .next (after (u.answerCached e))) ∧
         (u.rcFind true p.src aseq = none → seriallyBelow aseq (u.sa p.src).rxAck = false → (u.dom p.ldi).mapOk p.mapgen = true →
           (u.dom p.ldi).state = .running → (u.dom p.ldi).det = false → u.rcAvailable p.ldi = true →
           atomicWork (bytesAt p.payload 24 24) = some w → u.rxBadArr p = false → u.routeDead [w] = false →
           u.routeFits p.port [w] = true → exec .atomicRequestReceived s =
             .next (after (((u.rcAdd (replyEntry p)).routeAll (u.rxProto p) [w]).countRx p)))) ∧
       (s.takeRx (isAop 2) = some (p, t) → u.rcFind true p.src aseq = none → seriallyBelow aseq (u.sa p.src).rxAck = false →
         u.rcAvailable p.ldi = true → exec .atomicQueryReceived s = .next
           (after (((u.rcAdd { replyEntry p with status := stRetry, ready := true }).bumpDom p.ldi 12).answerCached
             { replyEntry p with status := stRetry, ready := true }))) ∧
       (s.takeRx (isAop 3) = some (p, t) → u.rcFind false p.src aseq = some e → e.ldi = p.ldi →
         exec .atomicResponseReceived s = .next (after (u.meetEntry p)) ∧
         ∀ x ∈ (u.meetEntry p).shuttle.rcache, ¬ (x.reply = false ∧ x.peer = p.src ∧ x.aseq = aseq)) ∧
       (s.takeRx (isAop 0) = some (p, t) → exec .ackOnlyReceived s = .next (after u)))) ∧
  (∀ (s : State) (peer aseq t0 ldi port vc : Nat) (e : RcEntry), s.portsUp = true → s.saValid peer = true →
     (s.rcFind false peer aseq = some e →
       let t := (s.advanceTo e.due).sendQuery e
       exec (.atomicDueExpiry peer aseq) s = .next (t.endExhausted peer) ∧
       ∃ x ∈ t.shuttle.rcache, x.reply = false ∧ x.aseq = aseq ∧ x.peer = peer ∧
         x.due = (s.advanceTo e.due).now + 20 * usTicks) ∧
     ((s.sa peer).ackSince = some t0 → s.ackRoute peer = some (ldi, port, vc) →
       let t := (s.advanceTo (t0 + 10 * usTicks)).sendDescriptor port vc peer ldi 0 0 0 []
       exec (.ackOnlyTimer peer) s = .next (t.endExhausted peer) ∧
       (s.canBuild port peer = true → (t.sa peer).ackSince = none)))

/-- The messages of a pair handshake when what each needs is there, and no halt holds them (R105 to R107, R197, R201, R430).

A handshake that R107 refuses at check c leaves the entry FAILED for that reason (the side whose check fails: a reading of
the model, log entry 14), unless its SA stands (R106, R107).

Rows that it shows to complete: SA_INIT, SA_RESP, SA_FIN, SA_DONE, CHAIN_GET, CHAIN. -/
def Obligations.HandshakesTakeEffect : Prop :=
  (∀ (s t : State) (peer : Nat) (m : CtrlMsg) (h : Handshake) (chain : Bytes), s.shakes = true →
     (s.takeMsg peer 0x01 anyBody = some (m, t) → t.canShake = true → m.body.length = 1753 →
       Config.p384Valid (kexEcdh m.body) = true → t.ownPrevails peer = false →
       exec (.saInit peer) s = .next (t.answerInit peer m.body)) ∧
     (s.takeMsg peer 0x02 anyBody = some (m, t) → t.handshake peer = some h → t.canShake = true → h.initiator = true →
       h.respBody = [] → m.body.length = 6732 → Config.p384Valid (kexEcdh m.body) = true →
       t.heldChain peer (kexDigest m.body) = some chain →
       exec (.saResp peer) s = .next (t.verifyResp peer { h with respBody := m.body } chain)) ∧
     (s.takeMsg peer 0x03 anyBody = some (m, t) → t.handshake peer = some h → t.canShake = true → h.initiator = false →
       h.finBody = [] → m.body.length = 4979 → t.heldChain peer (kexDigest h.initBody) = some chain →
       exec (.saFin peer) s = .next (t.verifyFin peer { h with finBody := m.body } chain)) ∧
     (s.takeMsg peer 0x04 anyBody = some (m, t) → t.handshake peer = some h → h.initiator = true → h.finBody ≠ [] →
       m.body = bvBytes 48 (pendingKeys h t.boot.devid peer).1 → t.heldChain peer (kexDigest h.respBody) = some chain →
       exec (.saDone peer) s = .next (t.replaceSa peer (pendingKeys h t.boot.devid peer).2 (bytesAt h.respBody 1753 256) chain
         h.lazily none)) ∧
     (s.takeMsg peer 0x06 List.isEmpty = some (m, t) → t.canShake = true →
       exec (.chainGet peer) s = .next (t.sendHs peer 0x06 t.keys.chain)) ∧
     (s.takeMsg peer 0x06 (fun b => !b.isEmpty) = some (m, t) → t.handshake peer = some h → h.waitChain = false →
       bvBytes 48 (Config.sha384 m.body) = kexDigest (if h.initiator then h.respBody else h.initBody) →
       exec (.chain peer) s = .next { t with shuttle := { t.shuttle with chains := t.shuttle.chains.put peer m.body } })) ∧
  (∀ (s : State) (peer c : Nat),
     ((s.sa peer).state ≠ .valid → ((s.failHandshake peer c).sa peer).state = .failed ∧
       ((s.failHandshake peer c).sa peer).failReason = c ∧ (s.failHandshake peer c).saValid peer = false) ∧
     ((s.sa peer).state = .valid → ((s.failHandshake peer c).sa peer).state = .valid ∧
       ((s.failHandshake peer c).sa peer).keys = (s.sa peer).keys) ∧
     (s.failHandshake peer c).handshake peer = none)

/-- Keepalive and loss (R104, R109, R110, R198): a quiet SA sends a KEEPALIVE, a live-monitored SA that hears nothing for 30 µs
is lost with its record, as is one whose counter has run out, and a FAILED entry is FREE again after 1 s, or PENDING where a
handshake runs.

Rows that it shows to complete: KEEPALIVE, KEEPALIVE_TIMER, SA_LOSS_TIMEOUT, SA_FAILED_EXPIRY. -/
def Obligations.LinkTimersTakeEffect : Prop :=
  ∀ (s t : State) (peer : Nat) (m : CtrlMsg),
    (s.clocked = true → s.takeMsg peer 0x05 anyBody = some (m, t) → exec (.keepalive peer) s = .next t) ∧
    (
      let u := s.advanceTo ((s.sa peer).lastTx + 10 * usTicks)
      s.portsUp = true → s.saValid peer = true → u.keepsAlive peer = true →
      let v := (u.sendCtrl peer 0x05 []).bumpEngine (u.pairHome peer) 4 1
      exec (.keepaliveTimer peer) s = .next (v.endExhausted peer) ∧ (v.sa peer).lastTx = u.now) ∧
    (
      let u := s.advanceTo (s.quietSince peer + 30 * usTicks)
      s.clocked = true → s.power.fatal = false → s.saValid peer = true →
      (s.spent peer = false → u.liveMonitored peer = true →
        exec (.saLossTimeout peer) s = .next ((u.endSa peer 0x05 .lost).saRecord 0x0507 peer 0 0)) ∧
      (s.spent peer = true → exec (.saLossTimeout peer) s = .next ((s.endSa peer 0x05 .lost).saRecord 0x0507 peer 0 0))) ∧
    (s.clocked = true → (s.sa peer).state = .failed → ∃ v, exec (.saFailedExpiry peer) s = .next v ∧
      v.sa peer = { s.sa peer with state := if (s.handshake peer).isSome then .pending else .free } ∧
      ∀ k, k ≠ peer → v.sa k = s.sa k)

/-- GROUP_KEY, POLICY, RETIRED, the FDT quarantine and SQUALL (R36, R54, R112, R391, R392). A group key goes into the pool slot
of the group whose create waits for it, with its salt (R191); its places in the message are the model's choice (log entry
15). An SA whose last counter an answer takes ends (R198).

Rows that it shows to complete: GROUP_KEY, GROUP_KEY_HOLD_EXPIRY, POLICY, RETIRED, FDT_QUARANTINE_EXPIRY, SQUALL. -/
def Obligations.ControlMessagesTakeEffect : Prop :=
  ∀ (s t : State) (peer l slot fdt : Nat) (m : CtrlMsg) (g : Group) (gk : HeldGroupKey) (gks : List HeldGroupKey)
    (q : Quarantined), s.clocked = true →
    (s.takeMsg peer 0x07 (fun b => b.length == 40) = some (m, t) → t.ldiOfGdid (fieldAt m.body 0 4) = some l →
      let k := groupKeyOf l (fieldAt m.body 4 2)
      t.group k = some g → g.keyed = false → t.groupSlot l (fieldAt m.body 4 2) = some slot →
      ∃ v, exec (.groupKey peer) s = .next v ∧ v.group k = some { g with keyed := true } ∧
        v.keySlot g.slot = { t.keySlot g.slot with key := keyOf (m.body.drop 8), salt := fieldAt m.body 6 2 }) ∧
    (s.takeMsg peer 0x07 (fun b => b.length == 40) = some (m, t) → t.ldiOfGdid (fieldAt m.body 0 4) = some l →
      t.group (groupKeyOf l (fieldAt m.body 4 2)) = some g → g.keyed = true → exec (.groupKey peer) s = .next t) ∧
    (s.takeMsg peer 0x07 (fun b => b.length == 40) = some (m, t) →
      (t.ldiOfGdid (fieldAt m.body 0 4)).bind (fun l => t.group (groupKeyOf l (fieldAt m.body 4 2))) = none →
      ∃ v x, exec (.groupKey peer) s = .next v ∧ v.shuttle.groupHold = t.shuttle.groupHold ++ [x] ∧ x.peer = peer ∧
        x.key = keyOf (m.body.drop 8) ∧ x.salt = fieldAt m.body 6 2 ∧ x.expires = t.now + secTicks) ∧
    (s.shuttle.groupHold = gk :: gks → ∃ v, exec .groupKeyHoldExpiry s = .next v ∧ v.shuttle.groupHold = gks) ∧
    (s.takeMsg peer 0x08 (fun b => b.length == 48) = some (m, t) → fieldAt m.body 8 1 % 2 = 0 →
      t.ldiOfGdid (fieldAt m.body 0 4) = some l → (t.dom l).state.abortable = true →
      exec (.policy peer) s = .next ((t.takePolicy peer l (BitVec.ofNat 32 (fieldAt m.body 4 4))).endExhausted peer)) ∧
    (s.takeMsg peer 0x09 (fun b => b.length == 8) = some (m, t) →
      (t.knowsGdid (fieldAt m.body 0 4) = true → ∃ v, exec (.retired peer) s = .next v ∧
        v.tables.quarantine = t.tables.quarantine.map (fun q => q.report (fieldAt m.body 0 4) peer t.now)) ∧
      (t.knowsGdid (fieldAt m.body 0 4) = false → exec (.retired peer) s = .next t.countDropped)) ∧
    (s.tables.quarantine.find? (fun q => q.fdt == fdt) = some q → q.peers = [] → s.tables.quarWait = [] →
      ∃ v, exec (.fdtQuarantineExpiry fdt) s = .next v ∧
        v.tables.quarantine = s.tables.quarantine.filter (fun x => x.fdt != fdt)) ∧
    (s.takeMsg peer 0x0A (fun b => b.length == 16) = some (m, t) → t.ldiOfGdid (fieldAt m.body 0 4) = some l →
      t.exchPassed peer l = true → (t.dom l).squalled = false → (t.dom l).state.abortable = true →
      exec (.squall peer) s = .next (t.takeSquall peer l m.body).endSpent)

/-- `BA_` requests that the router takes are queued as one open request; a REDUCE, of fast mode or to a window, and an MSTORE
are answered at once, an ATOMIC when it retires (R149, R151, R160, R445). Under DET an ATOMIC is refused (R185).

Rows that it shows to complete: BA_REDUCE, BA_MSTORE, BA_ATOMIC. -/
def Obligations.BattenRequestsTakeEffect : Prop :=
  ∀ (s : State) (r : BaReq) (w : Nat × Nat × BWork) (x : RedWindow),
    let b := redBody (r.hdr.take 16)
    let dli := fieldAt r.hdr 0 4
    let n := fieldAt r.hdr 4 1
    (let ws := fastWork b r.data (bytesAt (r.data.drop (256 * ((b.lines + 3) / 4))) 0 (scaleBytes b.fmt b.lines))
     r.kind = 0 → b.ok = true → b.exact = false → r.data.length = beatBytes b.fmt b.lines →
      ((s.dom r.ldi).det = false ∨ b.op = 6) → RouterTakes s r ws →
      ∃ t, exec (.baReduce r) s = .next t ∧ t.out = s.out ++ [.baRsp r.tag stOk 0] ∧
        t.batten.reqs.find s.batten.nextReq = some { tag := r.tag, ldi := r.ldi, fence := r.fence
                                                     left := if isMx b.fmt then b.lines + 1 else b.lines }) ∧
    (let ws := exactWork x b r.data (bytesAt (r.data.drop (256 * ((b.lines + 3) / 4))) 0 (scaleBytes b.fmt b.lines))
     r.kind = 0 → b.ok = true → b.exact = true → r.data.length = beatBytes b.fmt b.lines → s.window b.window = some x →
      x.state = .open_ → x.ldi = r.ldi → x.opfmt = b.op + b.fmt * 16 → b.woff + b.lines ≤ x.lines → r.arr = 0 →
      b.inGroup = true → RouterTakes s r ws →
      ∃ t, exec (.baReduce r) s = .next t ∧ t.out = s.out ++ [.baRsp r.tag stOk 0] ∧
        t.batten.reqs.find s.batten.nextReq = some { tag := r.tag, ldi := r.ldi, fence := r.fence, left := ws.length }) ∧
    (r.kind = 1 → 1 ≤ n → n ≤ 63 → r.data.length = beatBytes 0 n → RouterTakes s r (storeWork dli n r.data) →
      ∃ t, exec (.baMstore r) s = .next t ∧ t.out = s.out ++ [.baRsp r.tag stOk 0] ∧
        t.batten.reqs.find s.batten.nextReq = some { tag := r.tag, ldi := r.ldi, fence := r.fence, left := n }) ∧
    (r.kind = 2 → atomicWork r.hdr = some w → (s.dom r.ldi).det = false → RouterTakes s r [w] →
      ∃ t, exec (.baAtomic r) s = .next t ∧ t.out = s.out ∧
        t.batten.reqs.find s.batten.nextReq = some { tag := r.tag, ldi := r.ldi, fence := r.fence, left := 1 }) ∧
    (r.kind = 2 → atomicWork r.hdr = some w → s.baUp = true → (s.dom r.ldi).state.flows = true → (s.dom r.ldi).det = true →
      ∃ t, exec (.baAtomic r) s = .next t ∧ t.out.getLast? = some (.baRsp r.tag stNondet 0))

/-- A unit, when the router has served it, applies its first entry whose line it holds: an MSTORE replaces the line, a reduction
combines with it, an atomic keeps the old value as its result; with none such, an entry whose line is missing starts its
fills. A line found with an uncorrectable error comes back from its mirror copy first (R149, R151, R153, R157, R166).

A fill brings its line, or fails its entries; the mirror's acknowledgement retires an entry; a line is written back when the
first of its events comes, and an accepted write-back leaves it clean (R153, R154, R155, R166).

Rows that it shows to complete: BATTEN_ENTRY_APPLY, BATTEN_FILL_RETURN, MIRROR_ACK, BATTEN_WRITEBACK,
BATTEN_WRITEBACK_ACCEPTED. -/
def Obligations.BattenLinesTakeEffect : Prop :=
  (∀ (s : State) (u dli : Nat) (both : Bool) (e : BEntry) (l : WLine) (m : MLine), s.clocked = true → (s.unit u).dead = false →
     let q := s.serveUnit u
     let b := (s.unit u).serve
     (b.fastCandidates.find? b.applicable = some e → ∃ t, exec (.battenEntryApply u []) s = .next t ∧
       (∀ d, e.work = .store d → (t.unit u).dataOf e e.dli = d) ∧
       (∀ op fmt c, e.work = .reduce op fmt c → (t.unit u).dataOf e e.dli = fastLine op fmt (b.dataOf e e.dli) c) ∧
       (∀ off aopc v c, e.work = .atomic off aopc v c → ∀ x ∈ (t.unit u).queue, x.seq = e.seq →
         x.applied = true ∧ x.result = BitVec.ofNat 64 (operandAt (b.dataOf e e.dli) off (if aopc / 4 % 2 = 1 then 8 else 4)))) ∧
     (b.fastCandidates.find? b.applicable = none →
       b.fastCandidates.find? (fun e =>
         !(b.missing e).isEmpty && b.space (b.wants e) && q.lanesRoom e.ldi (b.missing e) false) = some e →
       exec (.battenEntryApply u []) s = .next (q.issueFills u e (b.missing e))) ∧
     exec (.battenEntryApply u [(dli, both)]) s = .next ((q.badLine u dli both).applyNext u) ∧
     (b.anyLine dli = some l → l.dirty = true → b.mirror.find? (fun m => m.dli == dli) = some m →
       (((q.badLine u dli false).unit u).anyLine dli).map (·.data) = some m.data)) ∧
  (∀ (s t : State) (u dli : Nat) (d : LaneDone) (e : BEntry) (l : WLine), s.clocked = true → (s.unit u).dead = false →
     (s.takeDone (fun d => d.req.src == .batten u && d.req.op == .read) = some (d, t) →
       (s.unit u).fills.contains d.req.dli = true → d.req.tag = (s.unit u).fillEpoch →
       let b := { s.unit u with fills := (s.unit u).fills.filter (fun x => x != d.req.dli) }
       (d.status = stOk → ∃ v, exec (.battenFillReturn u) s = .next v ∧
         (v.unit u).lines.head? = some { dli := d.req.dli, ldi := d.req.ldi, gen := d.req.gen, data := d.data }) ∧
       (d.status ≠ stOk → exec (.battenFillReturn u) s =
         .next ((t.setUnit u b).failFill u d.req.dli d.req.ldi d.status).pump)) ∧
     ((s.unit u).queue.find? (fun e => e.applied) = some e → exec (.mirrorAck u) s = .next (s.retireEntry u e).pump) ∧
     ((s.unit u).anyLine dli = some l → (s.unit u).canWrite dli = true → s.laneRoom l.ldi dli true = true →
       exec (.battenWriteback u dli) s =
         .next ((if s.asksFor (s.unit u) l then s else s.advanceTo l.due).writeBack u dli)) ∧
     (s.takeDone (fun d => d.req.src == .batten u && d.req.op == .full && d.req.dli == dli) = some (d, t) →
       (s.unit u).lines.find? (fun l => l.dli == dli && l.writing && l.ldi == d.req.ldi) = some l →
       (d.status = stOk → ∃ v, exec (.battenWritebackAccepted u dli) s = .next v ∧
         ∀ x ∈ (v.unit u).lines, x.dli = dli → x.dirty = false ∧ x.owed = []) ∧
       (d.status ≠ stOk → ∃ v, exec (.battenWritebackAccepted u dli) s = .next v ∧ ∀ x ∈ (v.unit u).lines, x.dli ≠ dli)))

/-- A window takes a contribution that it awaits, whole; one beyond its count, or one that meets an accumulator line with an
uncorrectable error, fails it; a line that Weft accepts counts, and one that it refuses fails the window (R160, R161, R162,
R165, R166).

Rows that it shows to complete: WINDOW_CONTRIBUTION, WINDOW_LINE_ACCEPTED. -/
def Obligations.WindowsTakeContributions : Prop :=
  ∀ (s t : State) (u win w of_ dli : Nat) (e : BEntry) (lines : List Line) (scales : Bytes) (x : RedWindow) (d : LaneDone),
    s.clocked = true → s.window win = some x → x.state = .open_ →
    (let b := (s.unit u).serve
     (s.unit u).dead = false → b.candidates.find? BEntry.isExact = some e → e.work = .exact win x.nth w of_ lines scales →
      x.ldi = e.ldi →
      let q := (s.serveUnit u).setUnit u { b with queue := b.queue.filter (fun y => y.seq != e.seq) }
      ((∀ i < lines.length, x.applied (w + i) < x.count) →
        (s.serveUnit u).lanesRoom e.ldi (x.completing w lines.length) true = true →
        exec (.windowContribution u false) s = .next (q.contribute u e win w lines scales x).pump) ∧
      ((∃ i < lines.length, x.count ≤ x.applied (w + i)) →
        exec (.windowContribution u false) s = .next (q.refuseContrib u e true win).pump) ∧
      exec (.windowContribution u true) s = .next (q.badAccLine u e win x).pump) ∧
    (s.takeDone (fun d => d.req.src == .window && d.req.dli == dli) = some (d, t) → d.req.tag = win + 256 * x.nth → win < 256 →
      x.ldi = d.req.ldi →
      (d.status = stOk → isMx x.fmt = false → exec (.windowLineAccepted dli) s = .next (t.windowAccepted win dli x)) ∧
      (d.status ≠ stOk → ∃ v, exec (.windowLineAccepted dli) s = .next v ∧
        v.window win = some { x with state := .failed }))

/-- A pull that R178 accepts on a free port is answered with its blocks, beat by beat, the last one marked, whichever pipelines
compute them in time; one that it refuses is answered with zeros under its status; late blocks leave after they are computed
again (R170, R173 to R178, R446).

Rows that it shows to complete: SPINDLE_PULL, SPINDLE_REISSUE_TIMEOUT. -/
def Obligations.SpindlePullsAreAnswered : Prop :=
  ∀ (s : State) (r : PullReq) (lent : List LentBlock) (p : Pull),
    (s.portsUp = true → s.build.pool = false → s.spindle.pulls.findD r.port [] = [] →
      let key := (s.keySlot (8 * r.ldi + 4)).key
      let beat := fun b => lineOf ((List.range 4).flatMap (fun i => bvBytes 16 (spindleBlock key r.stream (r.offset + 4 * b + i))))
      let n := if pullBeatsOk r then r.beats else 1
      (s.pullStatus r = stOk → (∀ x ∈ lent, x.late = false) → ∃ t, exec (.spindlePull r lent) s = .next t ∧
        t.out = s.out ++ (List.range r.beats).map (fun b => .spRsp r.port (beat b) stOk (b + 1 == r.beats))) ∧
      (s.pullStatus r ≠ stOk → ∃ t, exec (.spindlePull r lent) s = .next t ∧
        t.out = s.out ++ (List.range n).map (fun b => .spRsp r.port 0 (s.pullStatus r) (b + 1 == n)))) ∧
    (s.clocked = true → s.power.fatal = false → s.spindle.pulls.findD r.port [] = [p] → p.late ≠ [] → p.status = stOk →
      ∃ t, exec (.spindleReissueTimeout r.port) s = .next t ∧
        t.out = s.out ++
          ((List.range p.total).drop p.next).map (fun b => .spRsp p.req.port (s.beatData p b) stOk (b + 1 == p.total)))

/-- Messages of the PTP domain while the time unit runs (R229, R230, R232, R234, R455): an Announce is heard; a Sync of the
selected master starts an exchange and sends a Delay_Req; the others bring its times; a message that must be verified and is
not is discarded with its record; a timestamp that does not come within 1 ms discards the exchange.

A complete exchange (R233, R234, R235): the first sample after reset sets the counter by θ and goes to ACQUIRING; an outlier
of more than 1 ms in LOCKED steers nothing. LOCKED ends after 2 s without a sample, the counter then running at fi, and
HOLDOVER after 60 s, which ends the debug rights (R361).

Rows that it shows to complete: PTP_IGNORED_MESSAGE, ANNOUNCE, SYNC, FOLLOW_UP, DELAY_RESP, TP_TXTS, TXTS_TIMEOUT,
TIME_NO_SAMPLE_TIMEOUT, HOLDOVER_TIMEOUT. -/
def Obligations.TimeMessagesTakeEffect : Prop :=
  (∀ (s : State) (m : PtpMsg) (a : AnnounceData) (p : SyncPending) (id : Nat) (ts : Time12), s.timeRuns = true →
     (exec .ptpIgnoredMessage s = .next (s.setTime { s.time with ignored := s.time.ignored + 1 })) ∧
     (m.domain = s.time.ptpDom → s.ptpAuth m = false →
       exec (.announce m a) s = .next (s.rejectSample 2 0 m.master) ∧ exec (.sync m) s = .next (s.rejectSample 2 0 m.master) ∧
       exec (.followUp m) s = .next (s.rejectSample 2 0 m.master) ∧ exec (.delayResp m) s = .next (s.rejectSample 2 0 m.master)) ∧
     (m.domain = s.time.ptpDom → s.ptpAuth m = true →
       (∃ t x, exec (.announce m a) s = .next t ∧ t = { s with time := t.time } ∧ t.time.masters.find m.master = some x ∧
         x.announces.head? = some s.time.freerun ∧ x.priority = a.priority ∧
         (x.qualified = true → s.time.allow = [] ∨ m.master ∈ s.time.allow) ∧
         (s.time.masters.find m.master = none → x.qualified = false)) ∧
       (s.time.selected = some m.master →
         (∃ t q, exec (.sync m) s = .next t ∧ t.time.syncs.head? = some q ∧ q.master = m.master ∧ q.seq = m.seq ∧
           q.t2 = timeUnits m.rxTs ∧ q.t1 = (if m.twoStep then none else some (timeUnits m.origin + m.corr)) ∧
           t.out = s.out ++ [.tpTx s.time.nextTx s.time.ptpDom s.time.nextTx]) ∧
         (s.time.syncs.find? (fun p => p.master == m.master && p.seq == m.seq && p.t1.isNone && p.open_ s.now) = some p →
           exec (.followUp m) s = .next (s.tryPtpSample { p with t1 := some (timeUnits m.origin + p.corr + m.corr) })) ∧
         (s.time.syncs.find? (fun p => p.master == m.master && p.txId == some m.seq && p.t4.isNone) = some p →
           exec (.delayResp m) s = .next (s.tryPtpSample { p with t4 := some (timeUnits m.origin - m.corr) })))) ∧
     (s.time.sentReq id = some p → s.now ≤ p.txAt + msTicks →
       exec (.tpTxts id ts) s = .next (s.tryPtpSample { p with t3 := some (timeUnits ts) })) ∧
     (s.time.sentReq id = some p →
       ∃ t, exec (.txtsTimeout id) s = .next t ∧ t.time.syncs = s.time.syncs.filter (fun q => q.txId != p.txId) ∧ t.now = (s.advanceTo (p.txAt + msTicks)).now)) ∧
  (∀ (s : State) (p : SyncPending) (t1 t3 t4 : Int),
     (p.t1 = some t1 → p.t3 = some t3 → p.t4 = some t4 →
       let theta := ((p.t2 - t1) - (t4 - t3)) / 2
       let delta := ((p.t2 - t1) + (t4 - t3)) / 2
       delayExceeds s.time.deltas delta = false →
       (s.time.state = .unknown → s.time.setDone = false → s.time.lastSample = none →
         (s.tryPtpSample p).time.state = .acquiring ∧ (s.tryPtpSample p).time.setDone = true ∧
         (s.tryPtpSample p).time.setStep = -theta ∧ (s.tryPtpSample p).time.lastSample = some s.now) ∧
       (s.time.state = .locked → 65536 * 1000000 < theta →
         (s.tryPtpSample p).time = (s.time.dropSync p).noteDelta delta)) ∧
     (s.clocked = true → s.time.state = .locked → ∃ t, exec .timeNoSampleTimeout s = .next t ∧ t.time.state = .holdover ∧
       t.time.f = s.time.fi ∧ t.time.holdSince = t.now ∧ t.dbg = s.dbg) ∧
     (s.clocked = true → s.time.state = .holdover → ∃ t, exec .holdoverTimeout s = .next t ∧ t.time.state = .untrusted ∧
       t.dbg.certs = [] ∧ t.events.status.getLsbD 7 = true))

/-- Offsets between members (R239, R240, R241): what an OFFSET message from the tree does, with a RESULT of the parent giving O
in time; the exchanges that remain; and the periodic ones. An SA whose last counter a message takes ends (R198).

Rows that it shows to complete: OFFSET, OFFSET_PROBE_TIMER, OFFSET_PERIODIC_EXCHANGE. -/
def Obligations.OffsetExchangesTakeEffect : Prop :=
  ∀ (s t : State) (peer ldi p : Nat) (m : CtrlMsg) (d : Int), s.clocked = true →
    (s.takeMsg peer 0x0C (fun b => b.length == 52) = some (m, t) → t.ldiOfGdid (fieldAt m.body 4 4) = some ldi →
      (t.dom ldi).state.sealed = true →
      exec (.offset peer) s = .next (t.takeOffset peer ldi m).endSpent ∧
      (fieldAt m.body 0 1 = 3 → t.treeParent ldi = some peer → (t.offsetOf ldi).d = some d →
        t.offsetInTime (t.offsetOf ldi) = true →
        ((t.takeOffset peer ldi m).offsetOf ldi).own = some (offsetValue m.body + d))) ∧
    (s.power.fatal = false → s.treeParent ldi = some p →
      (0 < (s.offsetOf ldi).left → ∃ v, exec (.offsetProbeTimer ldi) s = .next v ∧
        (v.offsetOf ldi).left = (s.offsetOf ldi).left - 1 ∧ (v.offsetOf ldi).index = ((s.offsetOf ldi).index + 1) % 64 ∧
        (v.offsetOf ldi).probeAt = v.now + 213) ∧
      ((s.dom ldi).state.flows = true → (s.offsetOf ldi).running = false → ∃ v, exec (.offsetPeriodicExchange ldi) s = .next v ∧
        (v.offsetOf ldi).periodicAt = (s.offsetOf ldi).periodicAt + msTicks ∧ (v.offsetOf ldi).left = 3))

/-- Barometer (R399, R401, R406, R407, R408, R409, R410, R472): a sample within the reading ranges is judged by its thresholds,
at the stretch level before it (the model's reading, log entry 25), counted by its class and weighed in the score, which
falls by 1 for each microsecond; a score that reaches 16 stops a live device, and elsewhere starts at 0 again; stretch
relaxes after four calm samples; an epoch is learned or discarded; a window ends; the status registers follow; an enabled
tamper input stops a live device.

Rows that it shows to complete: BAROMETER_SAMPLE, STRETCH_RELAX, TAMPER_SCORE_DECAY, CAL_EPOCH_END, CAL_WINDOW_EXPIRY,
BAROMETER_STATUS_REFRESH, TAMPER_INPUT. -/
def Obligations.SensorEventsTakeEffect : Prop :=
  ∀ (s : State) (inst m d w bin until_ input : Nat) (c : Nat × Nat × Nat), s.clocked = true →
    let x := s.decayScores.baro.sensor inst
    let y := s.decayScores.takeSample inst m d w bin
    let z := sampleClass ((s.deciding inst).bin_ bin).calibrated ((s.deciding inst).thresholds (s.fused inst) bin) x.stretch m d w
    (s.build.instances.contains inst = true → m < 64 → d < 256 → w < 64 →
      (z = none → exec (.barometerSample inst m d w bin) s = .next (s.decayScores.setSensor inst y)) ∧
      (z = some c → x.score + classWeight c.1 < 16 → ∃ t, exec (.barometerSample inst m d w bin) s = .next t ∧
        (c.1 = 0 → t.baro.sensor inst = { y with soft := min (x.soft + 1) (2 ^ 32 - 1), softAt := some s.now }) ∧
        (c.1 ≠ 0 → (t.baro.sensor inst).exc = min (x.exc + 1) (2 ^ 32 - 1) ∧
          (t.baro.sensor inst).score = x.score + classWeight c.1 ∧ (t.baro.sensor inst).excAt = some s.now ∧
          (x.score < 8 → 8 ≤ x.score + classWeight c.1 → t.events.status.getLsbD 3 = true))) ∧
      (z = some c → 16 ≤ x.score + classWeight c.1 → ∃ t, exec (.barometerSample inst m d w bin) s = .next t ∧
        (lcsLive s.otp.lcs = true → t.power.fatal = true ∧
          (s.power.fatal = false → t.keys.zeroized = true ∧ t.keys.slots = [])) ∧
        (lcsLive s.otp.lcs = false → t.power.fatal = s.power.fatal ∧ t.keys = s.keys ∧ (t.baro.sensor inst).score = 0))) ∧
    (∀ i, s.decayScores.baro.sensor i = { s.baro.sensor i with score := (s.baro.sensor i).score - s.scoreLag }) ∧
    (4 ≤ x.calm → 0 < x.stretch →
      exec (.stretchRelax inst) s = .next (s.setSensor inst { s.baro.sensor inst with stretch := x.stretch - 1, calm := 0 })) ∧
    (y.calm = if (s.fused inst).mt + 2 ≤ m ∧ d ≤ 20 then x.calm + 1 else 0) ∧
    (let u := if s.scoreLag = 0 then s.advanceTo s.nextUs else s
     ∃ t, exec .tamperScoreDecay s = .next t ∧ t.time = u.time ∧ t.scoreLag = 0 ∧
      ∀ i, t.baro.sensor i = { s.baro.sensor i with score := (s.baro.sensor i).score - u.scoreLag }) ∧
    (s.baro.window.isSome = true → epochSamples ≤ (x.bin_ bin).samples → ∃ t, exec (.calEpochEnd inst bin) s = .next t ∧
      let b := (t.baro.sensor inst).bin_ bin
      b.samples = 0 ∧ b.spoiled = false ∧ ((x.bin_ bin).spoiled = true → b.epochs = (x.bin_ bin).epochs ∧ b.lm = (x.bin_ bin).lm) ∧
      ((x.bin_ bin).spoiled = false → b.epochs = (x.bin_ bin).epochs + 1 ∧
        ((x.bin_ bin).epochs = 0 → b.lm = (x.bin_ bin).em ∧ b.ld = (x.bin_ bin).ed ∧ b.lg = (x.bin_ bin).eg))) ∧
    (s.baro.window = some until_ → ∃ t, exec .calWindowExpiry s = .next t ∧ t.baro.window = none ∧ t.time = (s.advanceTo until_).time) ∧
    (let u := s.advanceTo ((s.baro.regsAt / usTicks + 1) * usTicks)
     ∃ t, exec .barometerStatusRefresh s = .next t ∧ t.time = u.time ∧ t.baro.regs = u.baroRegs ∧ t.baroShown = u.baroRegs) ∧
    (input < 8 → ∃ t, exec (.tamperInput input) s = .next t ∧
      t.power.tamperCount.findD input 0 = s.power.tamperCount.findD input 0 + 1 ∧
      (s.otp.word 0x068 / 2 ^ input % 2 = 1 → lcsLive s.otp.lcs = true → t.power.fatal = true ∧
        (s.power.fatal = false → t.keys.zeroized = true ∧ t.keys.slots = [])) ∧
      (s.otp.word 0x068 / 2 ^ input % 2 = 1 → lcsLive s.otp.lcs = false → t.power.fatal = s.power.fatal ∧ t.keys = s.keys) ∧
      (s.otp.word 0x068 / 2 ^ input % 2 = 0 → t = { s with power := t.power }))

/-- Debug (R306, R308, R361, R430): a certificate's rights end when the counter passes its notAfter, with the breakpoints that
stood on HALT; the nonce ends; a breakpoint stops the cores, and the halt is complete once the engines are idle.

Metering (R221, R223, R469): at the end of an LDI's second its record is placed, or the interval goes on EXTENDED; the
oldest open batch is closed with its header and signature, and event METER is raised. A halt holds both (R430, R431).

Rows that it shows to complete: DEBUG_RIGHTS_EXPIRY, DEBUG_NONCE_EXPIRY, BREAKPOINT_HIT, HALT_DRAIN_COMPLETE,
METER_INTERVAL_TIMER, METER_BATCH_CLOSE. -/
def Obligations.DebugAndMeteringEventsTakeEffect : Prop :=
  (∀ (s : State) (id addr : Nat) (x : DebugCert),
     (s.clocked = true → s.dbg.certs.find id = some x → ∃ t, exec (.debugRightsExpiry id) s = .next t ∧
       t.dbg.certs = s.dbg.certs.del id ∧ (s.right rightHalt = true → t.right rightHalt = false → t.loom.bps = [] ∧ t.loom.halted = false)) ∧
     (s.clocked = true → s.dbg.nonce ≠ none → ∃ t, exec .debugNonceExpiry s = .next t ∧ t.dbg.nonce = none ∧
       t.dbg.certs = s.dbg.certs ∧ t.time = (s.advanceTo s.dbg.nonceUntil).time) ∧
     (s.loomUp = true → s.loom.halting = false → s.right rightHalt = true → addr ∈ s.loom.bps →
       ∃ t, exec (.breakpointHit addr) s = .next t ∧ t.loom.halting = true ∧ t.loom.haltPc = addr ∧ t.loom.bps = s.loom.bps) ∧
     (s.loomUp = true → s.loom.halting = true → s.enginesIdle = true → ∃ t, exec .haltDrainComplete s = .next t ∧
       t.loom.halted = true ∧ t.loom.halting = false ∧ t.events.status = s.events.status ||| (1#13 <<< 4))) ∧
  (∀ (s : State) (ldi : Nat) (b : MeterBatch),
     (s.clocked = true → s.inHalt = false → (s.dom ldi).state.live = true → ∃ t, exec (.meterIntervalTimer ldi) s = .next t ∧
       (t.dom ldi).meterNext = (s.dom ldi).meterNext + secTicks ∧ t.time = (s.advanceTo (s.dom ldi).meterNext).time ∧
       (t.metering.nextSeq = s.metering.nextSeq + 1 ∨ t.metering = s.metering ∧ (t.dom ldi).usage.extended = true)) ∧
     (s.loomUp = true → s.loom.halting = false → s.identityUp = true → s.drbgReady = true →
       s.metering.batches.find? (fun b => b.closed.isNone) = some b → ∃ t, exec .meterBatchClose s = .next t ∧
       (∀ x ∈ t.metering.batches, x.number = b.number → x.closed ≠ none) ∧
       t.metering.batches.map (·.records) = s.metering.batches.map (·.records) ∧ t.events.status.getLsbD 10 = true))

/-- Counters and traces (R414, R418, R419, R421, R425): an armed freeze latches its set at its time; a FREEZE of a new ID is
armed on a member, or latched at once and marked late; a segment period empties its instance's pairs; the coarse copies are
made; the power estimate moves power and energy.

Rows that it shows to complete: FREEZE_FIRE, FREEZE, TRACE_SEGMENT_PERIOD, COARSE_SNAPSHOT, POWER_ESTIMATE_UPDATE. -/
def Obligations.ProfileEventsTakeEffect : Prop :=
  ∀ (s t : State) (ldi src inst mw peer : Nat) (m : CtrlMsg) (a : ArmedFreeze), s.clocked = true →
    (s.counters.armed.find? (fun a => a.ldi == ldi) = some a → ∃ v f, exec (.freezeFire ldi) s = .next v ∧
      v.counters.sets.head? = some f ∧ f.id = a.id ∧ f.ldi = a.ldi ∧ f.late = false ∧ f.unaligned = a.unaligned ∧
      v.counters.armed = s.counters.armed.filter (fun x => x.ldi != a.ldi) ∧ v.counters.block = s.counters.block) ∧
    (s.takeMsg peer 0x0B (fun b => b.length == 24) = some (m, t) → t.ldiOfGdid (fieldAt m.body 0 4) = some ldi →
      (t.dom ldi).state.sealed = true → t.exchPassed peer ldi = true → fieldAt m.body 4 4 ∉ t.counters.seenIds →
      t.counters.armed.any (fun x => x.ldi == ldi) = false →
      let at_ := time12Of (m.body.drop 8)
      ∃ v, exec (.freeze peer) s = .next v ∧ fieldAt m.body 4 4 ∈ v.counters.seenIds ∧
        (t.time.fine < t.freezeTarget ldi at_ → v.counters.armed = t.counters.armed ++
          [{ ldi := ldi, id := fieldAt m.body 4 4, t := at_, unaligned := (t.offsetO ldi).isNone }] ∧
          v.counters.sets = t.counters.sets) ∧
        (t.freezeTarget ldi at_ ≤ t.time.fine → v.counters.armed = t.counters.armed ∧
          ∃ f, v.counters.sets.head? = some f ∧ f.id = fieldAt m.body 4 4 ∧ f.late = true)) ∧
    (let mine := s.trace.segments.filter (fun g => g.src == src && g.inst == inst)
     ∃ v, exec (.traceSegmentPeriod src inst) s = .next v ∧
      v.time = (s.advanceTo (((mine.map (·.at_)).foldl min s.now / usTicks + 1) * usTicks)).time ∧
      v.trace.segments = s.trace.segments.filter (fun g => !(g.src == src && g.inst == inst))) ∧
    (∃ v, exec .coarseSnapshot s = .next v ∧ v.counters.snapAt = v.now ∧ v.counters.block = s.counters.block ∧
      ∀ l, (v.dom l).coarse = (s.dom l).counters) ∧
    (∃ v, exec (.powerEstimateUpdate mw) s = .next v ∧ v.counters.powerAt = v.now ∧
      let e := s.counters.energyRest + mw * (v.now - s.counters.powerAt)
      v.counters.block.findD 0x28 0 = mw ∧ v.counters.energyRest = e % secTicks ∧
      v.counters.block.findD 0x29 0 = (s.counters.block.findD 0x29 0 + e / secTicks) % wrap64)

/-- Connection set-up, certificates and measurements (R207, R208, R209, R210). The fields of CAPABILITIES that the spec leaves
open are free, and codes and layouts are those of DSP0274 as the assumption log gives them.

Rows that it shows to complete: GET_VERSION, GET_CAPABILITIES, NEGOTIATE_ALGORITHMS, GET_DIGESTS, GET_CERTIFICATE, CHALLENGE,
GET_MEASUREMENTS, SPDM_UNSUPPORTED_REQUEST. -/
def Obligations.SpdmRequestsAreAnswered : Prop :=
  ∀ (s t : State) (m : SpdmCtx) (slot off len index code : Nat) (signed : Bool) (nonce : BitVec 256) (bs : List Nat),
    let x := t.spdmConn m.conn
    (SpdmTakes s (.getVersion m) m true .setup t →
      Answers (.getVersion m) s m .setup 0x04 (leBytes 2 0 ++ (leBytes 1 0 ++ leBytes 1 1 ++ leBytes 2 0x1300))
        (t.setConn m.conn { version := true, nextHandle := x.nextHandle })) ∧
    (x.version = true → SpdmTakes s (.getCapabilities m) m false .setup t →
      ∃ body, Answers (.getCapabilities m) s m .setup 0x61 body (t.setConn m.conn { x with caps := true }) ∧
        bytesAt body 6 4 = leBytes 4 spdmFlags) ∧
    (x.caps = true → SpdmTakes s (.negotiateAlgorithms m true) m false .setup t →
      Answers (.negotiateAlgorithms m true) s m .setup 0x63 (leBytes 1 4 ++ leBytes 1 0 ++ spdmAlgorithms)
        (t.setConn m.conn { x with algs := true })) ∧
    (SpdmTakes s (.getDigests m) m false .anywhere t →
      Answers (.getDigests m) s m .anywhere 0x01 (leBytes 1 0 ++ leBytes 1 1 ++ t.slotDigest) t) ∧
    (SpdmTakes s (.getCertificate m slot off len) m false .anywhere t →
      (slot = 0 → off < t.slotChain.length → let part := (t.slotChain.drop off).take len
        Answers (.getCertificate m slot off len) s m .anywhere 0x02 (leBytes 2 0 ++ (leBytes 2 part.length
          ++ leBytes 2 (t.slotChain.length - off - part.length) ++ part)) t) ∧
      (slot ≠ 0 → Answers (.getCertificate m slot off len) s m .anywhere 0x7F (leBytes 1 errUnsupported ++ leBytes 1 0x82) t)) ∧
    (t.drbgReady = true → SpdmTakes s (.challenge m 0 nonce) m false .anywhere t →
      ∃ body v, Answers (.challenge m 0 nonce) s m .anywhere 0x03 body v ∧ bytesAt body 2 48 = t.slotDigest) ∧
    (SpdmTakes s (.getMeasurements m slot index signed nonce) m false .anywhere t →
      (measurementsAsked index = some bs → t.drbgReady = true → (signed = false ∨ slot = 0) →
        ∃ body v, Answers (.getMeasurements m slot index signed nonce) s m .anywhere 0x60 body v ∧
          bytesAt body 2 1 = leBytes 1 bs.length ∧
          bytesAt body 6 (bs.flatMap t.measurementBlock).length = bs.flatMap t.measurementBlock) ∧
      (signed = true → slot ≠ 0 → Answers (.getMeasurements m slot index signed nonce) s m .anywhere 0x7F
        (leBytes 1 errUnsupported ++ leBytes 1 0xE0) t)) ∧
    (SpdmTakes s (.spdmUnsupportedRequest m code) m false .nowhere t →
      Answers (.spdmUnsupportedRequest m code) s m .nowhere 0x7F (leBytes 1 errUnsupported ++ leBytes 1 code) t)

/-- Sessions (R208, R209, R211, R212, R213, R254): KEY_EXCHANGE makes one, the encapsulated flow delivers the requester's key,
FINISH opens it or ends it; KEY_UPDATE renews its keys; a command comes in VENDOR_DEFINED_REQUEST; it ends on END_SESSION
and after 10 s without a message.

Rows that it shows to complete: KEY_EXCHANGE, FINISH, GET_ENCAPSULATED_REQUEST, DELIVER_ENCAPSULATED_RESPONSE, HEARTBEAT,
KEY_UPDATE, END_SESSION, VENDOR_DEFINED_REQUEST, SESSION_HEARTBEAT_TIMEOUT. -/
def Obligations.SessionRequestsTakeEffect : Prop :=
  ∀ (s t : State) (m : SpdmCtx) (k : KexReq) (sid std vendor : Nat) (x : Session) (body chain : Bytes) (leaf : Digest × Bytes),
    let g := if k.mutAuth then t.tenantGdid k else none
    let y := t.session sid
    (SpdmTakes s (.keyExchange m k) m false .anywhere t → m.session = none → k.slot = 0 →
      t.wrongRing m.conn (t.tenantGdid k) = false → (∀ d, g = some d → (t.ldiOfGdid d).isSome = true) →
      Config.p384Valid k.share = true → t.sessionsFull g = false → t.drbgReady = true →
      ∃ b v z, Answers (.keyExchange m k) s m .anywhere 0x64 b v ∧ bytesAt b 2 2 = leBytes 2 t.spdm.nextSession ∧
        v.spdm.sessions.find t.spdm.nextSession = some z ∧ z.conn = m.conn ∧ z.stage = .exchanged ∧ z.gdid = g ∧
        z.mutAuth = k.mutAuth) ∧
    (SpdmTakes s (.finish m sid body) m false .handshake t → t.opening m sid = some x →
      (t.finishOk x body = true →
        Answers (.finish m sid body) s m .handshake 0x65 (leBytes 2 0) ((t.noteSession m.conn).setSession sid
          ((t.noteSession m.conn).openedSession x body))) ∧
      (t.finishOk x body = false → Answers (.finish m sid body) s m .handshake 0x7F (leBytes 1 errInvalid ++ leBytes 1 0)
        ((t.noteSession m.conn).endAfter sid))) ∧
    (SpdmTakes s (.getEncapsulatedRequest m sid) m false .handshake t → t.opening m sid = some x → x.mutAuth = true →
      ∃ b, Answers (.getEncapsulatedRequest m sid) s m .handshake 0x6A b t) ∧
    (SpdmTakes s (.deliverEncapsulatedResponse m sid chain) m false .handshake t → t.opening m sid = some x → x.mutAuth = true →
      Config.leafKey chain = some leaf → t.tkdMatches x leaf.1 = true →
      ∃ v z, Answers (.deliverEncapsulatedResponse m sid chain) s m .handshake 0x6B (leBytes 1 1 ++ leBytes 1 0) v ∧
        v.spdm.sessions.find sid = some z ∧ z.leaf = some leaf) ∧
    (m.session = some sid →
      (SpdmTakes s (.heartbeat m) m false .session t → Answers (.heartbeat m) s m .session 0x68 (leBytes 2 0) t) ∧
      (SpdmTakes s (.keyUpdate m 1) m false .session t → Answers (.keyUpdate m 1) s m .session 0x69 (leBytes 1 1 ++ leBytes 1 0)
        (t.setSession sid { y with req := y.req.update })) ∧
      (SpdmTakes s (.keyUpdate m 2) m false .session t → Answers (.keyUpdate m 2) s m .session 0x69 (leBytes 1 2 ++ leBytes 1 0)
        (t.setSession sid { y with req := y.req.update, rsp := y.rsp.update })) ∧
      (SpdmTakes s (.keyUpdate m 3) m false .session t →
        Answers (.keyUpdate m 3) s m .session 0x69 (leBytes 1 3 ++ leBytes 1 0) t) ∧
      (SpdmTakes s (.endSession m) m false .session t → Answers (.endSession m) s m .session 0x6C (leBytes 2 0)
        ((t.noteSession m.conn).endAfter sid)) ∧
      (SpdmTakes s (.vendorDefinedRequest m std vendor body) m false .session t → t.isBlockCommand m std vendor = true →
        256 ≤ body.length → y.inbox = none → y.running = false → exec (.vendorDefinedRequest m std vendor body) s =
          .next ((t.setSession sid { y with inbox := some body }).drainTurns))) ∧
    (s.loomUp = true → s.spdm.sessions.find sid = some x →
      ∃ t, exec (.sessionHeartbeatTimeout sid) s = .next t ∧ t.spdm.sessions.find sid = none)

/-- Large messages and the MCTP endpoint: a control message is answered, each message leaves as packets of a transport header
and at most 1,024 B, and a message of a type that has no row is counted (R207, R253, R456).

Rows that it shows to complete: CHUNK_SEND, CHUNK_GET, SET_ENDPOINT_ID, GET_ENDPOINT_ID, GET_MCTP_VERSION_SUPPORT,
GET_MESSAGE_TYPE_SUPPORT, MCTP_VENDOR_COMMAND. -/
def Obligations.TransportsTakeEffect : Prop :=
  ∀ (s t : State) (m : SpdmCtx) (handle seq n : Nat) (chunk b : Bytes) (eid type vendor cmdSet : Nat),
    let x := t.spdmConn m.conn
    (chunk.length ≤ 65536 → SpdmTakes s (.chunkSend m handle 0 false chunk) m false .chunked t →
      Answers (.chunkSend m handle 0 false chunk) s m .chunked 0x05
        (leBytes 1 0 ++ leBytes 1 (handle % 256) ++ (leBytes 2 0 ++ []))
        (t.setConn m.conn { x with chunkIn := some (handle, 1, chunk) })) ∧
    (SpdmTakes s (.chunkSend m handle (n + 1) false chunk) m false .chunked t →
      (x.chunkIn = some (handle, n + 1, b) → b.length + chunk.length ≤ 65536 →
        Answers (.chunkSend m handle (n + 1) false chunk) s m .chunked 0x05
          (leBytes 1 0 ++ leBytes 1 (handle % 256) ++ (leBytes 2 (n + 1) ++ []))
          (t.setConn m.conn { x with chunkIn := some (handle, n + 2, b ++ chunk) })) ∧
      ((∀ c, x.chunkIn ≠ some (handle, n + 1, c)) →
        Answers (.chunkSend m handle (n + 1) false chunk) s m .chunked 0x7F (leBytes 1 errInvalid ++ leBytes 1 0)
          (t.setConn m.conn { x with chunkIn := none }))) ∧
    (SpdmTakes s (.chunkGet m handle seq) m false .chunked t → x.chunkOut = some (handle, seq, b) →
      ∃ body, Answers (.chunkGet m handle seq) s m .chunked 0x06 body
        (t.setConn m.conn { x with chunkOut := if (b.drop 1008).isEmpty then none else some (handle, seq + 1, b.drop 1008) })) ∧
    (s.mctpUp = true →
      (eid ≠ 0 → eid ≠ 0xFF → exec (.setEndpointId eid) s =
        .next (({ s with link := { s.link with eid := eid } } : State).answerCtl 0x01 0x00 (leBytes 1 0 ++ leBytes 1 eid ++ leBytes 1 0))) ∧
      (eid = 0 ∨ eid = 0xFF → exec (.setEndpointId eid) s = .next (s.answerCtl 0x01 0x02 [])) ∧
      exec .getEndpointId s = .next (s.answerCtl 0x02 0x00 (leBytes 1 s.link.eid ++ leBytes 1 0 ++ leBytes 1 0)) ∧
      exec .getMctpVersionSupport s = .next (s.answerCtl 0x04 0x00
        (leBytes 1 1 ++ (leBytes 1 0xF1 ++ leBytes 1 0xF3 ++ leBytes 1 0xFF ++ leBytes 1 0x00))) ∧
      exec .getMessageTypeSupport s = .next (s.answerCtl 0x05 0x00
        (leBytes 1 3 ++ leBytes 1 0x05 ++ leBytes 1 0x06 ++ leBytes 1 0x7E)) ∧
      ∃ ps, (s.answerCtl eid type b).out =
          s.out ++ .mgTx 0x00 (leBytes 1 0 ++ leBytes 1 eid ++ leBytes 1 type ++ b) :: ps ∧
        ∀ p ∈ ps, ∃ x, p = .mgPacket x ∧ x.length ≤ 1028) ∧
    (s.mctpSlot type vendor cmdSet b = true → s.mgmtUp = true → s.mgmtRoom = true →
      exec (.mctpVendorCommand type vendor cmdSet b) s = .next ((s.mgmtWrite b).drainTurns) ∧
      ((s.mgmtWrite b).ring 68).tail = ((s.ring 68).tail + 1) % 2 ^ 32) ∧
    (s.mctpSlot type vendor cmdSet b = false → s.takesInput = true → mctpNamed type = false →
      exec (.mctpVendorCommand type vendor cmdSet b) s = .next s.countDropped)

/-- TDISP in an open session of HOST ring 0 (R332, R333, R334): the state machine of each function, its report, and what is not
supported; elsewhere every TDISP and IDE_KM request is answered with ERROR UnsupportedRequest. Codes and layouts are those
of TDISP 1.0 as the assumption log gives them.

Rows that it shows to complete: GET_TDISP_VERSION, GET_TDISP_CAPABILITIES, LOCK_INTERFACE_REQUEST,
GET_DEVICE_INTERFACE_REPORT, GET_DEVICE_INTERFACE_STATE, START_INTERFACE_REQUEST, STOP_INTERFACE_REQUEST,
TDISP_UNSUPPORTED_REQUEST. -/
def Obligations.InterfaceRequestsTakeEffect : Prop :=
  ∀ (s t : State) (m : SpdmCtx) (func code l vendor stream keySet : Nat) (nonce : BitVec 256),
    let d := t.tdi func
    let takes := fun i => SpdmTakes s i m false .session t
    let answers := fun i body v => Answers i s m .session 0x7E body v
    let refused := tdispBody 0x7F func (leBytes 4 tdispState ++ leBytes 4 0)
    (m.conn = .host 0 → 1 ≤ func → func ≤ 63 →
      (takes (.getTdispVersion m func) →
        answers (.getTdispVersion m func) (tdispBody 0x01 func (leBytes 1 1 ++ leBytes 1 0x10)) t) ∧
      (takes (.getTdispCapabilities m func) → ∃ body, answers (.getTdispCapabilities m func) body t) ∧
      (takes (.lockInterfaceRequest m func) →
        (d.state = .unlocked → t.funcActive func = some l → t.drbgReady = true → ∃ body v x,
          answers (.lockInterfaceRequest m func) (tdispBody 0x03 func body) v ∧ v.tdi func = x ∧ x.state = .locked ∧
          x.stream = d.stream ∧ x.active = d.active ∧ x.nonce = BitVec.ofNat 256 (leNat body)) ∧
        (d.state ≠ .unlocked → answers (.lockInterfaceRequest m func) refused t)) ∧
      (takes (.getDeviceInterfaceReport m func) → d.state = .locked ∨ d.state = .run →
        answers (.getDeviceInterfaceReport m func)
          (tdispBody 0x04 func (leBytes 2 (t.tdispReport func).length ++ leBytes 2 0 ++ t.tdispReport func)) t) ∧
      (takes (.getDeviceInterfaceState m func) →
        answers (.getDeviceInterfaceState m func) (tdispBody 0x05 func (leBytes 1 d.state.code)) t) ∧
      (takes (.startInterfaceRequest m func nonce) →
        (d.state = .locked → d.nonce = nonce → d.stream ≠ none → d.active ≠ [] → t.funcLdi func = some l →
          ((t.dom l).state = .sealed_ ∨ (t.dom l).state = .running) →
          answers (.startInterfaceRequest m func nonce) (tdispBody 0x06 func []) (t.setTdi func { d with state := .run })) ∧
        (d.state ≠ .locked ∨ d.nonce ≠ nonce → answers (.startInterfaceRequest m func nonce) refused t)) ∧
      (takes (.stopInterfaceRequest m func) →
        answers (.stopInterfaceRequest m func) (tdispBody 0x07 func []) (t.tdiStop func) ∧
        (d.state = .unlocked → t.tdiStop func = t)) ∧
      (takes (.tdispUnsupportedRequest m func code) → answers (.tdispUnsupportedRequest m func code)
        (tdispBody 0x7F func (leBytes 4 tdispUnsupported ++ leBytes 4 code)) t)) ∧
    (m.conn ≠ .host 0 ∨ m.session.map (fun sid => (t.session sid).stage) ≠ some .open_ →
      ∀ i ∈ [Instr.getTdispVersion m func, .getTdispCapabilities m func, .lockInterfaceRequest m func,
          .getDeviceInterfaceReport m func, .getDeviceInterfaceState m func, .startInterfaceRequest m func nonce,
          .stopInterfaceRequest m func, .tdispUnsupportedRequest m func code, .ideKeyDeliveryVdm m vendor func stream keySet,
          .ideKmQuery m func, .keyProg m func stream keySet, .kSetGo m func stream keySet, .kSetStop m func stream keySet],
        SpdmTakes s i m false .nowhere t → Answers i s m .nowhere 0x7F (leBytes 1 errUnsupported ++ leBytes 1 0xFE) t)

/-- IDE keys (R335, R336, R337): the vendor's message takes six keys of TYPE 10 into pool slots and sends them on `KP_`; GO and
STOP of a key set go out as six records, and a STOP ends the set at once; KEY_PROG installs nothing.

The events of `KP_` (R333, R458): an acknowledgement completes the oldest record; a function-level reset unlocks a function
and, where it was locked or running, aborts its domain; a write of a locked register and an IDE failure go to ERROR, the
failure with an integrity event whose record the spec leaves open.

Rows that it shows to complete: IDE_KEY_DELIVERY_VDM, IDE_KM_QUERY, KEY_PROG, K_SET_GO, K_SET_STOP, KP_ACK, KP_FLR,
KP_LOCKED_CONFIG_WRITE, KP_IDE_INTEGRITY_FAILURE. -/
def Obligations.StreamKeysTakeEffect : Prop :=
  (∀ (s t : State) (m : SpdmCtx) (func stream keySet l : Nat),
     let d := t.tdi func
     let takes := fun i => SpdmTakes s i m false .session t
     let recs := fun (u : State) => u.link.kpOut.length + u.link.kpWait.length
     m.conn = .host 0 → 1 ≤ func → func ≤ 63 →
       (takes (.ideKeyDeliveryVdm m t.otp.integId func stream keySet) →
         t.funcActive func = some l → stream ≤ 255 → keySet ≤ 1 → t.streamFree func stream = true → t.drbgReady = true →
         (t.ideKeys l 6).1.length = 6 → ∃ v, exec (.ideKeyDeliveryVdm m t.otp.integId func stream keySet) s = .next v ∧
         (v.tdi func).stream = some stream ∧ (v.tdi func).state = d.state ∧ recs v = recs t + 6 ∧
         ∀ x ∈ (t.ideKeys l 6).1, v.keySlot x.1 = (t.ideKeys l 6).2.keySlot x.1) ∧
       (takes (.ideKmQuery m func) → ∃ body, Answers (.ideKmQuery m func) s m .session 0x7E body t) ∧
       (takes (.keyProg m func stream keySet) → ∃ body, Answers (.keyProg m func stream keySet) s m .session 0x7E body t) ∧
       (takes (.kSetGo m func stream keySet) →
         (keySet < 2 → d.stream = some stream → ∃ v, exec (.kSetGo m func stream keySet) s = .next v ∧
           (v.tdi func).active = d.active ∧ recs v = recs t + 6) ∧
         (d.stream ≠ some stream →
           Answers (.kSetGo m func stream keySet) s m .session 0x7F (leBytes 1 errInvalid ++ leBytes 1 0) t)) ∧
       (takes (.kSetStop m func stream keySet) → keySet < 2 → d.stream = some stream →
         ∃ v, exec (.kSetStop m func stream keySet) s = .next v ∧ keySet ∉ (v.tdi func).active ∧ recs v = recs t + 6)) ∧
  (∀ (s : State) (func : Nat) (r : KpRec) (rs : List KpRec),
     (s.released = true → s.link.kpOut = r :: rs →
       exec .kpAck s = .next ((({ s with link := { s.link with kpOut := rs } } : State).kpDone r).kpNext)) ∧
     (s.takesInput = true → 1 ≤ func → func ≤ 63 →
       let t := s.tdi func
       (∃ v, exec (.kpFlr func) s = .next v ∧ (v.tdi func).state = .unlocked ∧
         (t.state = .locked ∨ t.state = .run → ∀ l, s.funcLdi func = some l → (s.dom l).retiring = false →
           (s.dom l).state = .building ∨ (s.dom l).state = .sealed_ ∨ (s.dom l).state = .running → (v.dom l).state = .aborted) ∧
         (t.state = .unlocked → v = s) ∧ (t.state ≠ .unlocked → s.funcLdi func = none → (v.tdi func).stream = none)) ∧
       (t.state = .locked ∨ t.state = .run →
         exec (.kpLockedConfigWrite func) s = .next (s.setTdi func { t with state := .error }) ∧
         (s.funcLdi func = none → exec (.kpIdeIntegrityFailure func) s = .next (s.setTdi func { t with state := .error })) ∧
         (∀ l, s.funcLdi func = some l → ∃ v, exec (.kpIdeIntegrityFailure func) s = .next v ∧
           (v.tdi func).state = .error ∧ v.events.status.getLsbD 0 = true ∧ v.freeCount = s.freeCount + 1)) ∧
       (t.state = .unlocked ∨ t.state = .error → exec (.kpLockedConfigWrite func) s = .next s)))

/-- The test access port (R347, R459): an access with GO completes with its data and DONE; with GO 0 nothing starts; while
DBG_ACCESS is not available, its instruction selects BYPASS, as does every code without an instruction and INT_SCAN without
SCAN; a selected instruction shifts its data register out; the integrator's program of one of its OTP words is programmed
where the life-cycle state accepts it and has no effect elsewhere; the port's reset clears the data register. That the reset
selects IDCODE is PRESUMED from IEEE 1149.1 (log entry 20).

Rows that it shows to complete: DBG_ACCESS, TAP_RESET. -/
def Obligations.TapAccessesTakeEffect : Prop :=
  ∀ (s : State) (dr : BitVec 96) (code : BitVec 5) (addr : Nat) (bits : BitVec 32),
    (s.dbgAvailable = false → exec (.dbgAccess (.access dr)) s = .next { s with dbg := { s.dbg with tapIr := irBypass } }) ∧
    (s.dbgAvailable = true → dr.getLsbD 87 = false → exec (.dbgAccess (.access dr)) s =
      .next { s with dbg := { s.dbg with drData := dr.setWidth 64, drDone := false, tapIr := irDbgAccess } }) ∧
    (s.dbgAvailable = true → dr.getLsbD 87 = true → ∃ t, exec (.dbgAccess (.access dr)) s = .next t ∧ t.dbg.drDone = true ∧
      t.out.getLast? = some (.dbgRsp t.dbg.drData) ∧
      (dr.getLsbD 86 = true → t.dbg.drData = dr.setWidth 64) ∧
      (dr.getLsbD 86 = false → t.dbg.drData = (s.dbgRead (dr.toNat / 2 ^ 64 % 2 ^ 22)).1)) ∧
    (∃ t, exec (.dbgAccess (.select code)) s = .next t ∧
      (code = irIdcode → t.dbg.tapIr = irIdcode ∧ t.out.getLast? = some (.tapDr irIdcode (leBytes 4 s.idcode))) ∧
      (code = irExtest ∨ code = irSample → t.dbg.tapIr = code) ∧
      (code = irDbgAccess → t.dbg.tapIr = if s.dbgAvailable then irDbgAccess else irBypass) ∧
      (code = irScan → t.dbg.tapIr = if s.right rightScan then irScan else irBypass) ∧
      (code ∉ [irExtest, irIdcode, irSample, irDbgAccess, irScan] →
        t.dbg.tapIr = irBypass ∧ t.out.getLast? = some (.tapDr irBypass (leBytes 1 0)))) ∧
    (s.clocked = true → s.decoded = true →
      exec (.dbgAccess (.program addr bits)) s =
        .next (if s.otp.integratorOpen && integratorWord addr then s.otpJob [{ addr := addr, bits := bits }] else s)) ∧
    exec .tapReset s = .next { s with dbg := { s.dbg with drData := 0, drDone := false, tapIr := irIdcode } }
end

