-- ==== Sys2Proof/Laws/Command.lean ====
section
/-!
SUPPORT. What a row of the command reference does with a command that begins.
-/
namespace Sys2Proof.Machine

/-! ### A command under its entry's number -/

@[simp] theorem Cmd.named_path (c : Cmd) (j : Nat) : (c.named j).path = c.path := rfl
@[simp] theorem Cmd.named_cls (c : Cmd) (j : Nat) : (c.named j).cls = c.cls := rfl
@[simp] theorem Cmd.named_jid (c : Cmd) (j : Nat) : (c.named j).jid = j := rfl
@[simp] theorem Cmd.named_opcode (c : Cmd) (j : Nat) : (c.named j).opcode = c.opcode := rfl
@[simp] theorem Cmd.named_ctx (c : Cmd) (j : Nat) : (c.named j).ctx = c.ctx := rfl
@[simp] theorem Cmd.named_ldi (c : Cmd) (j : Nat) : (c.named j).ldi = c.ldi := rfl
@[simp] theorem Cmd.named_plen (c : Cmd) (j : Nat) : (c.named j).plen = c.plen := rfl
@[simp] theorem Cmd.named_bufOff (c : Cmd) (j : Nat) : (c.named j).bufOff = c.bufOff := rfl
@[simp] theorem Cmd.named_bufLen (c : Cmd) (j : Nat) : (c.named j).bufLen = c.bufLen := rfl
@[simp] theorem Cmd.named_rbuf (c : Cmd) (j : Nat) : (c.named j).rbuf = c.rbuf := rfl
@[simp] theorem Cmd.named_params (c : Cmd) (j : Nat) : (c.named j).params = c.params := rfl
@[simp] theorem Cmd.named_p (c : Cmd) (j off n : Nat) : (c.named j).p off n = c.p off n := rfl
@[simp] theorem Cmd.named_room (c : Cmd) (j : Nat) : (c.named j).room = c.room := rfl

/-! ### Fetch to effect -/

/-- The next command of a path, of the row's entry, is the one that the row takes. -/
theorem State.commandAt_of {s : State} {src : Src} {sp : CmdSpec} {c : Cmd} (f : s.fetches src = true)
    (w : s.waitingCmd src = some c) (o : c.opcode = sp.opcode) : s.commandAt sp src = some c := by
  unfold State.commandAt
  simp only [f, if_true, w, Option.filter_some, o, beq_self_eq_true]

/-- What the row then does. -/
theorem State.runSrc_of {s : State} {src : Src} {sp : CmdSpec} {c : Cmd} (h : s.commandAt sp src = some c) :
    s.runSrc sp src = ((s.fetched c).runCommand sp c).drainTurns := by
  unfold State.runSrc
  simp only [h, Option.isSome_some, if_true]

/-- A command that fails neither check 3 to 8 nor the start of check 9. -/
theorem State.firstFailure_none {s : State} {sp : CmdSpec} {c : Cmd} (h : s.firstFailure sp c = none) :
    s.checkFailure sp c = none ∧ s.ownFailure sp c = none := by
  unfold State.firstFailure at h
  split at h
  · cases h
  · rename_i e
    exact ⟨e, Option.map_eq_none_iff.1 h⟩

theorem State.runSrc_begins {s : State} {src : Src} {sp : CmdSpec} {c : Cmd} (h : Begins s src sp c) :
    s.runSrc sp src = ((s.checked c).runBody sp c).drainTurns := by
  rw [State.runSrc_of (State.commandAt_of h.fetches h.waiting h.opcode)]
  unfold State.runCommand State.inSequence
  simp only [h.fresh]
  obtain ⟨p, q⟩ := State.firstFailure_none h.passes
  unfold State.checked at p q ⊢
  simp only [p, q]

/-- A command whose body is done completes. -/
theorem State.runSrc_done {s : State} {src : Src} {sp : CmdSpec} {c : Cmd} {r : Reply} {v : State} (h : Begins s src sp c)
    (b : sp.body (s.begun sp c) (c.named ((s.checked c).newJid sp c)) = .done r v) :
    s.runSrc sp src = (sp.after c (v.commit ((s.checked c).newEntry sp c) r)).drainTurns := by
  unfold State.begun at b
  rw [State.runSrc_begins h]
  unfold State.runBody
  rw [b]

/-- A command whose body waits is suspended. -/
theorem State.runSrc_wait {s : State} {src : Src} {sp : CmdSpec} {c : Cmd} {w : Wait} {k : Cont} {v : State}
    (h : Begins s src sp c)
    (b : sp.body (s.begun sp c) (c.named ((s.checked c).newJid sp c)) = .wait w k v) :
    s.runSrc sp src = (sp.after c (v.suspend ((s.checked c).newJid sp c) w k)).drainTurns := by
  unfold State.begun at b
  rw [State.runSrc_begins h]
  unfold State.runBody
  rw [b]

/-- The same of the row. -/
theorem completes {i : Instr} {s : State} {src : Src} {sp : CmdSpec} {c : Cmd} {r : Reply} {v : State}
    (h : Begins s src sp c) (e : exec i s = .next (s.runSrc sp src))
    (b : sp.body (s.begun sp c) (c.named ((s.checked c).newJid sp c)) = .done r v) : Completes i s sp c r v := by
  unfold Completes
  rw [e, State.runSrc_done h b]

theorem suspends {i : Instr} {s : State} {src : Src} {sp : CmdSpec} {c : Cmd} {w : Wait} {k : Cont} {v : State}
    (h : Begins s src sp c) (e : exec i s = .next (s.runSrc sp src))
    (b : sp.body (s.begun sp c) (c.named ((s.checked c).newJid sp c)) = .wait w k v) : Suspends i s sp c w k v := by
  unfold Suspends
  rw [e, State.runSrc_wait h b]

/-- The same however its steps end. -/
theorem runsAs {i : Instr} {s : State} {src : Src} {sp : CmdSpec} {c : Cmd} {z : Res}
    (h : Begins s src sp c) (e : exec i s = .next (s.runSrc sp src))
    (b : sp.body (s.begun sp c) (c.named ((s.checked c).newJid sp c)) = z) : Runs i s sp c z := by
  cases z with
  | done r v => exact completes h e b
  | wait w k v => exact suspends h e b
  | fail st =>
    unfold Runs
    unfold State.begun at b
    rw [e, State.runSrc_begins h]
    unfold State.runBody
    rw [b]
  | refuse r =>
    unfold Runs
    unfold State.begun at b
    rw [e, State.runSrc_begins h]
    unfold State.runBody
    rw [b]

/-! ### A suspended command's next steps -/

theorem wakes_runs {t : State} {e : JEntry} (h : Wakes t e) (sup : Supply) :
    exec (.journalStepResume e.jid sup) t = .next (t.settle.resumeEntry e sup) := by
  show execJournalStepResume e.jid sup t = _
  unfold execJournalStepResume
  simp only [h.held, h.runs, h.due, Bool.and_self, nextIf, if_true]

/-- Steps that end well complete the command. -/
theorem ends {t v : State} {e : JEntry} {r : Reply} (h : Wakes t e) (o : e.overtaken = false)
    (k : ∀ d, e.cont ≠ .transition d ∧ e.cont ≠ .unlock d) (b : ∀ sup, t.settle.resume e sup = .done r v) : Ends t e r v := by
  intro sup
  rw [wakes_runs h sup]
  unfold State.resumeEntry
  split
  · rename_i d c
    exact absurd c (k d).1
  · rename_i d c
    exact absurd c (k d).2
  · rw [o, b sup]
    rfl

end Sys2Proof.Machine
end

