-- ==== Sys2Proof/Laws/Map.lean ====
section
/-!
SUPPORT. The laws of finite maps: what is found after a key is set or removed, and that the keys go on rising.
-/
namespace Sys2Proof

@[simp] theorem Map.find_nil {α : Type} (q : Nat) : Map.find ([] : Map α) q = none := rfl

/-- Keys below the first key of a map with rising keys are not held. -/
theorem Map.find_below {α : Type} : ∀ (m : Map α) (q : Nat), (∀ x ∈ m, q < x.1) → Map.find m q = none
  | [], _, _ => rfl
  | (k, v) :: m, q, h => by
    have hk : q < k := h (k, v) (by simp)
    rw [Map.find, if_neg (by omega)]
    exact Map.find_below m q (fun x hx => h x (by simp [hx]))

/-- After a key is set, it holds the value, and every other key what it held. -/
theorem Map.find_put {α : Type} (m : Map α) (k : Nat) (v : α) (q : Nat) :
    Map.find (Map.put m k v) q = if q = k then some v else Map.find m q := by
  induction m with
  | nil =>
    by_cases e : q = k
    · simp [Map.put, Map.find, e]
    · simp [Map.put, Map.find, e, Ne.symm e]
  | cons c m ih =>
    obtain ⟨k', w⟩ := c
    unfold Map.put
    by_cases lt : k < k'
    · rw [if_pos lt]
      by_cases e : q = k
      · simp [Map.find, e]
      · rw [if_neg e, Map.find, if_neg (Ne.symm e)]
    · rw [if_neg lt]
      by_cases eq : k = k'
      · rw [if_pos eq]
        by_cases e : q = k
        · simp [Map.find, e]
        · rw [if_neg e, Map.find, if_neg (Ne.symm e), Map.find, if_neg (by omega)]
      · rw [if_neg eq, Map.find]
        by_cases e : k' = q
        · rw [if_pos e, if_neg (by omega), Map.find, if_pos e]
        · rw [if_neg e, ih, Map.find, if_neg e]

@[simp] theorem Map.find_put_self {α : Type} (m : Map α) (k : Nat) (v : α) : Map.find (Map.put m k v) k = some v := by
  rw [Map.find_put, if_pos rfl]

theorem Map.find_put_other {α : Type} (m : Map α) (k : Nat) (v : α) {q : Nat} (h : q ≠ k) :
    Map.find (Map.put m k v) q = Map.find m q := by
  rw [Map.find_put, if_neg h]

/-- The same with a default. -/
theorem Map.findD_put {α : Type} (m : Map α) (k : Nat) (v : α) (q : Nat) (d : α) :
    Map.findD (Map.put m k v) q d = if q = k then v else Map.findD m q d := by
  unfold Map.findD
  rw [Map.find_put]
  split <;> rfl

@[simp] theorem Map.findD_put_self {α : Type} (m : Map α) (k : Nat) (v d : α) : Map.findD (Map.put m k v) k d = v := by
  rw [Map.findD_put, if_pos rfl]

theorem Map.findD_put_other {α : Type} (m : Map α) (k : Nat) (v : α) {q : Nat} (d : α) (h : q ≠ k) :
    Map.findD (Map.put m k v) q d = Map.findD m q d := by
  rw [Map.findD_put, if_neg h]

/-- A key removed leaves every other key. -/
theorem Map.find_del_other {α : Type} (m : Map α) {k q : Nat} (h : q ≠ k) : Map.find (Map.del m k) q = Map.find m q := by
  induction m with
  | nil => rfl
  | cons c m ih =>
    obtain ⟨k', w⟩ := c
    unfold Map.del at ih ⊢
    by_cases e : k' = k
    · rw [List.filter_cons_of_neg (by simp [e]), ih, Map.find, if_neg (by omega)]
    · rw [List.filter_cons_of_pos (by simpa using e), Map.find, Map.find, ih]

@[simp] theorem Map.find_del_self {α : Type} (m : Map α) (k : Nat) : Map.find (Map.del m k) k = none := by
  induction m with
  | nil => rfl
  | cons c m ih =>
    obtain ⟨k', w⟩ := c
    unfold Map.del at ih ⊢
    by_cases e : k' = k
    · rw [List.filter_cons_of_neg (by simp [e]), ih]
    · rw [List.filter_cons_of_pos (by simpa using e), Map.find, if_neg e, ih]

theorem Map.findD_del_other {α : Type} (m : Map α) {k q : Nat} (d : α) (h : q ≠ k) :
    Map.findD (Map.del m k) q d = Map.findD m q d := by
  unfold Map.findD
  rw [Map.find_del_other m h]

/-- Setting a key of a map with rising keys keeps them rising. -/
theorem Map.wf_put {α : Type} (k : Nat) (v : α) : ∀ (m : Map α), Map.wf m = true → Map.wf (Map.put m k v) = true
  | [], _ => rfl
  | [(k', w)], _ => by
    unfold Map.put
    split
    · simp [Map.wf]; omega
    · split
      · rfl
      · simp [Map.put, Map.wf]; omega
  | (k', w) :: (k'', w') :: m, h => by
    have h' : k' < k'' ∧ Map.wf ((k'', w') :: m) = true := by simpa [Map.wf] using h
    unfold Map.put
    split
    · rename_i lt
      simp only [Map.wf, Bool.and_eq_true, decide_eq_true_eq]
      exact ⟨lt, h'⟩
    · split
      · rename_i _ eq
        simp only [Map.wf, Bool.and_eq_true, decide_eq_true_eq]
        exact ⟨by omega, h'.2⟩
      · rename_i nlt neq
        have ih := Map.wf_put k v ((k'', w') :: m) h'.2
        unfold Map.put at ih ⊢
        split
        · rename_i lt2
          rw [if_pos lt2] at ih
          simp only [Map.wf, Bool.and_eq_true, decide_eq_true_eq] at ih ⊢
          exact ⟨by omega, ih⟩
        · rename_i nlt2
          rw [if_neg nlt2] at ih
          split
          · rename_i eq2
            rw [if_pos eq2] at ih
            cases m with
            | nil => simp only [Map.wf, Bool.and_eq_true, decide_eq_true_eq]; exact ⟨by omega, trivial⟩
            | cons c m =>
              simp only [Map.wf, Bool.and_eq_true, decide_eq_true_eq] at ih ⊢
              exact ⟨by omega, ih⟩
          · rename_i neq2
            rw [if_neg neq2] at ih
            match hm : Map.put m k v with
            | [] => rw [hm] at ih; simp only [Map.wf, Bool.and_eq_true, decide_eq_true_eq]; exact ⟨h'.1, trivial⟩
            | c :: r =>
              rw [hm] at ih
              simp only [Map.wf, Bool.and_eq_true, decide_eq_true_eq] at ih ⊢
              exact ⟨h'.1, ih⟩

end Sys2Proof
end

