-- ==== Sys2Proof/Laws/Memory.lean ====
section
/-!
SUPPORT. The laws of the mailbox memory (R245): a write keeps the canonical form, is read back, and leaves every other byte.
-/
namespace Sys2Proof.Machine

/-- Every address of the list is above a bound. -/
def Memory.above (a : Nat) (m : List Host.Cell) : Prop := ∀ x ∈ m, a < x.1

theorem Memory.wf_cons (k : Nat) (v : Byte) (m : List Host.Cell) :
    Memory.wf ((k, v) :: m) = true ↔ v ≠ memDefault ∧ Memory.above k m ∧ Memory.wf m = true := by
  induction m generalizing k v with
  | nil => simp [Memory.wf, Memory.above]
  | cons c m ih =>
    obtain ⟨k', v'⟩ := c
    have e : Memory.wf ((k, v) :: (k', v') :: m) = true ↔ v ≠ memDefault ∧ k < k' ∧ Memory.wf ((k', v') :: m) = true := by
      simp [Memory.wf, and_assoc]
    rw [e]
    constructor
    · rintro ⟨a, b, c⟩
      refine ⟨a, ?_, c⟩
      intro x hx
      rcases List.mem_cons.1 hx with rfl | hx
      · exact b
      · exact Nat.lt_trans b (((ih k' v').1 c).2.1 x hx)
    · rintro ⟨a, b, c⟩
      exact ⟨a, b (k', v') (by simp), c⟩

theorem Memory.above_write {b : Nat} {m : List Host.Cell} (h : Memory.above b m) {a : Nat} (ha : b < a) (v : Byte) :
    Memory.above b (Memory.write m a v) := by
  induction m with
  | nil =>
    intro x hx
    unfold Memory.write at hx
    split at hx <;> simp_all
  | cons c m ih =>
    obtain ⟨k, w⟩ := c
    have hk : b < k := h (k, w) (by simp)
    have hm : Memory.above b m := fun x hx => h x (by simp [hx])
    intro x hx
    unfold Memory.write at hx
    split at hx
    · split at hx
      · exact h x hx
      · rcases List.mem_cons.1 hx with rfl | hx
        · exact ha
        · exact h x hx
    · split at hx
      · split at hx
        · exact hm x hx
        · rcases List.mem_cons.1 hx with rfl | hx
          · exact ha
          · exact hm x hx
      · rcases List.mem_cons.1 hx with rfl | hx
        · exact hk
        · exact ih hm x hx

/-- A write of one byte keeps the canonical form. -/
theorem Memory.wf_write {m : List Host.Cell} (h : Memory.wf m = true) (a : Nat) (v : Byte) :
    Memory.wf (Memory.write m a v) = true := by
  induction m with
  | nil => unfold Memory.write; split <;> simp_all [Memory.wf]
  | cons c m ih =>
    obtain ⟨k, w⟩ := c
    obtain ⟨hw, hab, hm⟩ := (Memory.wf_cons k w m).1 h
    unfold Memory.write
    split
    · rename_i lt
      split
      · exact h
      · rename_i nv
        refine (Memory.wf_cons a v _).2 ⟨nv, ?_, h⟩
        intro x hx
        rcases List.mem_cons.1 hx with rfl | hx
        · exact lt
        · exact Nat.lt_trans lt (hab x hx)
    · rename_i nlt
      split
      · rename_i eq
        split
        · exact hm
        · rename_i nv
          exact (Memory.wf_cons a v m).2 ⟨nv, by rw [eq]; exact hab, hm⟩
      · rename_i ne
        exact (Memory.wf_cons k w _).2 ⟨hw, Memory.above_write hab (by omega) v, ih hm⟩

/-- A write of a string keeps the canonical form. -/
theorem Memory.wf_writeBytes (bs : Bytes) : ∀ {m : List Host.Cell} (_ : Memory.wf m = true) (a : Nat),
    Memory.wf (Memory.writeBytes m a bs) = true := by
  induction bs with
  | nil => intro m h a; exact h
  | cons b bs ih => intro m h a; exact ih (Memory.wf_write h a b) (a + 1)

theorem Memory.read_above {a : Nat} {m : List Host.Cell} (h : Memory.above a m) {i : Nat} (hi : i ≤ a) :
    Memory.read m i = memDefault := by
  induction m with
  | nil => rfl
  | cons c m ih =>
    obtain ⟨k, w⟩ := c
    have hk : a < k := h (k, w) (by simp)
    unfold Memory.read
    rw [if_neg (by omega)]
    exact ih (fun x hx => h x (by simp [hx]))

/-- A byte reads as written, and every other byte as before. -/
theorem Memory.read_write {m : List Host.Cell} (h : Memory.wf m = true) (a : Nat) (v : Byte) (i : Nat) :
    Memory.read (Memory.write m a v) i = if i = a then v else Memory.read m i := by
  induction m with
  | nil =>
    unfold Memory.write
    by_cases hv : v = memDefault
    · simp [hv, Memory.read]
    · by_cases e : i = a
      · simp [hv, Memory.read, e]
      · simp [hv, Memory.read, e, Ne.symm e]
  | cons c m ih =>
    obtain ⟨k, w⟩ := c
    obtain ⟨hw, hab, hm⟩ := (Memory.wf_cons k w m).1 h
    unfold Memory.write
    by_cases lt : a < k
    · rw [if_pos lt]
      have habove : Memory.above a ((k, w) :: m) := by
        intro x hx
        rcases List.mem_cons.1 hx with rfl | hx
        · exact lt
        · exact Nat.lt_trans lt (hab x hx)
      by_cases hv : v = memDefault
      · rw [if_pos hv]
        by_cases e : i = a
        · rw [if_pos e, hv, e]; exact Memory.read_above habove (Nat.le_refl a)
        · rw [if_neg e]
      · rw [if_neg hv]
        by_cases e : i = a
        · simp [Memory.read, e]
        · rw [if_neg e, Memory.read, if_neg (Ne.symm e)]
    · rw [if_neg lt]
      by_cases eq : a = k
      · rw [if_pos eq]
        by_cases hv : v = memDefault
        · rw [if_pos hv]
          by_cases e : i = a
          · rw [if_pos e, hv, e, eq]; exact Memory.read_above hab (Nat.le_refl k)
          · rw [if_neg e, Memory.read, if_neg (by omega)]
        · rw [if_neg hv]
          by_cases e : i = a
          · simp [Memory.read, e]
          · rw [if_neg e, Memory.read, if_neg (Ne.symm e), Memory.read, if_neg (by omega)]
      · rw [if_neg eq, Memory.read]
        by_cases e : k = i
        · rw [if_pos e, if_neg (by omega), Memory.read, if_pos e]
        · rw [if_neg e, ih hm, Memory.read, if_neg e]

/-- A string written: its bytes where it lies, every other byte as before. -/
theorem Memory.read_writeBytes (bs : Bytes) : ∀ {m : List Host.Cell} (_ : Memory.wf m = true) (a i : Nat),
    Memory.read (Memory.writeBytes m a bs) i =
      if a ≤ i ∧ i < a + bs.length then bs.getD (i - a) 0 else Memory.read m i := by
  induction bs with
  | nil => intro m h a i; rw [if_neg (by simp)]; rfl
  | cons b bs ih =>
    intro m h a i
    rw [Memory.writeBytes, ih (Memory.wf_write h a b), Memory.read_write h]
    by_cases c : a ≤ i ∧ i < a + (b :: bs).length
    · rw [if_pos c]
      simp only [List.length_cons] at c
      by_cases e : i = a
      · rw [if_neg (by omega), if_pos e, e]; simp
      · rw [if_pos (by omega)]
        obtain ⟨j, rfl⟩ : ∃ j, i = a + 1 + j := ⟨i - (a + 1), by omega⟩
        rw [show a + 1 + j - (a + 1) = j by omega, show a + 1 + j - a = j + 1 by omega]
        simp
    · rw [if_neg c]
      simp only [List.length_cons] at c
      rw [if_neg (by omega), if_neg (by omega)]

/-- What is read where a string has just been written is the string. -/
theorem Memory.readBytes_writeBytes (bs : Bytes) {m : List Host.Cell} (h : Memory.wf m = true) (a : Nat) :
    Memory.readBytes (Memory.writeBytes m a bs) a bs.length = bs := by
  have key : ∀ n (m' : List Host.Cell) (b : Nat) (t : Bytes), t.length = n → (∀ i, i < n → Memory.read m' (b + i) = t.getD i 0) →
      Memory.readBytes m' b n = t := by
    intro n
    induction n with
    | zero => intro m' b t e _; rw [List.length_eq_zero_iff.1 e]; rfl
    | succ n ih =>
      intro m' b t e hr
      match t, e with
      | x :: t, e =>
        rw [Memory.readBytes, ih m' (b + 1) t (by simpa using e)]
        · have := hr 0 (by omega); simp at this; rw [this]
        · intro i hi
          have := hr (i + 1) (by omega)
          rw [show b + (i + 1) = b + 1 + i by omega] at this
          simpa using this
  refine key bs.length _ a bs rfl ?_
  intro i hi
  rw [Memory.read_writeBytes bs h, if_pos (by omega), show a + i - a = i by omega]

/-- A mailbox that lists nothing, as after reset, is in the canonical form. -/
theorem Memory.wf_nil : Memory.wf [] = true := rfl

end Sys2Proof.Machine
end

