-- ==== Sys2Proof/Laws/Touches/Base.lean ====
section
/-!
SUPPORT. The laws of `Touches`: it composes, and each part of the state may be set when it is listed.
-/
namespace Sys2Proof.Machine

set_option linter.unusedTactic false
set_option linter.unreachableTactic false

theorem TablesTouch.refl (F : List Part) (a : Tables) : TablesTouch F a a where
  doms := Or.inr (fun _ => rfl)
  tallies := Or.inr (Or.inr rfl)
  got := Or.inr rfl
  contexts := Or.inr rfl
  fences := Or.inr ⟨rfl, rfl, rfl, rfl⟩
  arrs := Or.inr ⟨rfl, rfl, rfl⟩
  quarantine := Or.inr ⟨rfl, rfl⟩

theorem TablesTouch.trans {F : List Part} {a b c : Tables} (h : TablesTouch F a b) (k : TablesTouch F b c) :
    TablesTouch F a c where
  doms := k.doms.elim Or.inl (fun y => h.doms.elim Or.inl (fun x => Or.inr (fun l => (y l).trans (x l))))
  tallies := k.tallies.elim Or.inl (fun y => h.tallies.elim Or.inl (fun x => Or.inr
    (y.elim Or.inl (fun y => x.elim Or.inl (fun x => Or.inr (y.trans x))))))
  got := k.got.elim Or.inl (fun y => h.got.elim Or.inl (fun x => Or.inr (y.trans x)))
  contexts := k.contexts.elim Or.inl (fun y => h.contexts.elim Or.inl (fun x => Or.inr (y.trans x)))
  fences := k.fences.elim Or.inl (fun y => h.fences.elim Or.inl (fun x => Or.inr
    ⟨y.1.trans x.1, y.2.1.trans x.2.1, y.2.2.1.trans x.2.2.1, y.2.2.2.trans x.2.2.2⟩))
  arrs := k.arrs.elim Or.inl (fun y => h.arrs.elim Or.inl (fun x => Or.inr
    ⟨y.1.trans x.1, y.2.1.trans x.2.1, y.2.2.trans x.2.2⟩))
  quarantine := k.quarantine.elim Or.inl (fun y => h.quarantine.elim Or.inl (fun x => Or.inr
    ⟨y.1.trans x.1, y.2.trans x.2⟩))

theorem TablesTouch.mono {F G : List Part} {a b : Tables} (h : TablesTouch G a b) (sub : ∀ p ∈ G, p ∈ F) :
    TablesTouch F a b where
  doms := h.doms.imp (sub _) id
  tallies := h.tallies.imp (sub _) (Or.imp (sub _) id)
  got := h.got.imp (sub _) id
  contexts := h.contexts.imp (sub _) id
  fences := h.fences.imp (sub _) id
  arrs := h.arrs.imp (sub _) id
  quarantine := h.quarantine.imp (sub _) id

/-! ### Setting resource tables -/

theorem TablesTouch.set_arrs {F : List Part} {a : Tables} (x0 : Map Arrival) (x1 : List Nat) (x2 : Nat)
    (marrs : Part.arrs ∈ F) :
    TablesTouch F a { a with arrs := x0, arrFreed := x1, arrFresh := x2 } where
  doms := Or.inr (fun _ => rfl)
  tallies := Or.inr (Or.inr rfl)
  got := Or.inr rfl
  contexts := Or.inr rfl
  fences := Or.inr ⟨rfl, rfl, rfl, rfl⟩
  arrs := Or.inl marrs
  quarantine := Or.inr ⟨rfl, rfl⟩

theorem TablesTouch.set_contexts {F : List Part} {a : Tables} (x0 : Map Context)
    (mcontexts : Part.contexts ∈ F) :
    TablesTouch F a { a with contexts := x0 } where
  doms := Or.inr (fun _ => rfl)
  tallies := Or.inr (Or.inr rfl)
  got := Or.inr rfl
  contexts := Or.inl mcontexts
  fences := Or.inr ⟨rfl, rfl, rfl, rfl⟩
  arrs := Or.inr ⟨rfl, rfl, rfl⟩
  quarantine := Or.inr ⟨rfl, rfl⟩

theorem TablesTouch.set_contexts_arrs {F : List Part} {a : Tables} (x0 : Map Context) (x1 : Map Arrival) (x2 : List Nat) (x3 : Nat)
    (mcontexts : Part.contexts ∈ F) (marrs : Part.arrs ∈ F) :
    TablesTouch F a { a with contexts := x0, arrs := x1, arrFreed := x2, arrFresh := x3 } where
  doms := Or.inr (fun _ => rfl)
  tallies := Or.inr (Or.inr rfl)
  got := Or.inr rfl
  contexts := Or.inl mcontexts
  fences := Or.inr ⟨rfl, rfl, rfl, rfl⟩
  arrs := Or.inl marrs
  quarantine := Or.inr ⟨rfl, rfl⟩

theorem TablesTouch.set_doms {F : List Part} {a : Tables} (x0 : Map Domain)
    (mdoms : Part.doms ∈ F) :
    TablesTouch F a { a with domains := x0 } where
  doms := Or.inl mdoms
  tallies := Or.inl mdoms
  got := Or.inr rfl
  contexts := Or.inr rfl
  fences := Or.inr ⟨rfl, rfl, rfl, rfl⟩
  arrs := Or.inr ⟨rfl, rfl, rfl⟩
  quarantine := Or.inr ⟨rfl, rfl⟩

theorem TablesTouch.set_fences {F : List Part} {a : Tables} (x0 : Map Fence) (x1 : List Nat) (x2 : Nat) (x3 : List FenceMsg)
    (mfences : Part.fences ∈ F) :
    TablesTouch F a { a with fences := x0, fenceFreed := x1, fenceFresh := x2, fenceQ := x3 } where
  doms := Or.inr (fun _ => rfl)
  tallies := Or.inr (Or.inr rfl)
  got := Or.inr rfl
  contexts := Or.inr rfl
  fences := Or.inl mfences
  arrs := Or.inr ⟨rfl, rfl, rfl⟩
  quarantine := Or.inr ⟨rfl, rfl⟩

theorem TablesTouch.set_got {F : List Part} {a : Tables} (x0 : Map GotEntry)
    (mgot : Part.got ∈ F) :
    TablesTouch F a { a with got := x0 } where
  doms := Or.inr (fun _ => rfl)
  tallies := Or.inr (Or.inr rfl)
  got := Or.inl mgot
  contexts := Or.inr rfl
  fences := Or.inr ⟨rfl, rfl, rfl, rfl⟩
  arrs := Or.inr ⟨rfl, rfl, rfl⟩
  quarantine := Or.inr ⟨rfl, rfl⟩

theorem TablesTouch.set_quarantine {F : List Part} {a : Tables} (x0 : List Quarantined) (x1 : List Quarantined)
    (mquarantine : Part.quarantine ∈ F) :
    TablesTouch F a { a with quarantine := x0, quarWait := x1 } where
  doms := Or.inr (fun _ => rfl)
  tallies := Or.inr (Or.inr rfl)
  got := Or.inr rfl
  contexts := Or.inr rfl
  fences := Or.inr ⟨rfl, rfl, rfl, rfl⟩
  arrs := Or.inr ⟨rfl, rfl, rfl⟩
  quarantine := Or.inl mquarantine

/-- Counters or usage of one domain change. -/
theorem TablesTouch.set_tally {F : List Part} {a : Tables} (l : Nat) (d : Domain) (m : Part.tallies ∈ F)
    (e : d.core = (a.domains.findD l {}).core) : TablesTouch F a { a with domains := a.domains.put l d } where
  doms := Or.inr (fun k => by
    show (Map.findD (Map.put a.domains l d) k {}).core = _
    rw [Map.findD_put]
    split
    · rename_i h
      rw [h]
      exact e
    · rfl)
  tallies := Or.inr (Or.inl m)
  got := Or.inr rfl
  contexts := Or.inr rfl
  fences := Or.inr ⟨rfl, rfl, rfl, rfl⟩
  arrs := Or.inr ⟨rfl, rfl, rfl⟩
  quarantine := Or.inr ⟨rfl, rfl⟩

theorem Touches.refl (F : List Part) (s : State) : Touches F s s := by
  constructor <;> first | rfl | exact Or.inr rfl | exact TablesTouch.refl _ _

/-- Bits that stay set through two changes stay set through both. -/
theorem bits_trans (a b c : BitVec 32) (h : a &&& b = a) (k : b &&& c = b) : a &&& c = a := by
  rw [← h, BitVec.and_assoc, k]

theorem Touches.trans {F : List Part} {s t u : State} (h : Touches F s t) (k : Touches F t u) : Touches F s u := by
  constructor
  case build => exact k.build.trans h.build
  case pending => exact k.pending.trans h.pending
  case mailbox =>
    rcases h.mailbox with ⟨m, a⟩ | a <;> rcases k.mailbox with ⟨n, b⟩ | b
    · exact Or.inl ⟨m, fun w => b (a w)⟩
    · exact Or.inl ⟨m, fun w => by rw [b]; exact a w⟩
    · exact Or.inl ⟨n, fun w => b (by rw [a]; exact w)⟩
    · exact Or.inr (b.trans a)
  case otp =>
    rcases h.otp with ⟨m, a⟩ | a <;> rcases k.otp with ⟨n, b⟩ | b
    · exact Or.inl ⟨m, fun i => bits_trans _ _ _ (a i) (b i)⟩
    · exact Or.inl ⟨m, fun i => by rw [b]; exact a i⟩
    · exact Or.inl ⟨n, fun i => by rw [← a]; exact b i⟩
    · exact Or.inr (b.trans a)
  case entropy =>
    rcases h.entropy with ⟨m, a⟩ | a <;> rcases k.entropy with ⟨n, b⟩ | b
    · exact Or.inl ⟨m, a.trans b⟩
    · exact Or.inl ⟨m, by rw [b]; exact a⟩
    · exact Or.inl ⟨n, by rw [← a]; exact b⟩
    · exact Or.inr (b.trans a)
  case tables => exact h.tables.trans k.tables
  case weft => exact k.weft.elim Or.inl (fun b => h.weft.elim Or.inl (fun a => Or.inr (b.trans a)))
  case shuttle => exact k.shuttle.elim Or.inl (fun b => h.shuttle.elim Or.inl (fun a => Or.inr (b.trans a)))
  case batten => exact k.batten.elim Or.inl (fun b => h.batten.elim Or.inl (fun a => Or.inr (b.trans a)))
  case spindle => exact k.spindle.elim Or.inl (fun b => h.spindle.elim Or.inl (fun a => Or.inr (b.trans a)))
  case keys => exact k.keys.elim Or.inl (fun b => h.keys.elim Or.inl (fun a => Or.inr (b.trans a)))
  case spdm => exact k.spdm.elim Or.inl (fun b => h.spdm.elim Or.inl (fun a => Or.inr (b.trans a)))
  case metering => exact k.metering.elim Or.inl (fun b => h.metering.elim Or.inl (fun a => Or.inr (b.trans a)))
  case time => exact k.time.elim Or.inl (fun b => h.time.elim Or.inl (fun a => Or.inr (b.trans a)))
  case loom => exact k.loom.elim Or.inl (fun b => h.loom.elim Or.inl (fun a => Or.inr (b.trans a)))
  case log => exact k.log.elim Or.inl (fun b => h.log.elim Or.inl (fun a => Or.inr (b.trans a)))
  case counters => exact k.counters.elim Or.inl (fun b => h.counters.elim Or.inl (fun a => Or.inr (b.trans a)))
  case trace => exact k.trace.elim Or.inl (fun b => h.trace.elim Or.inl (fun a => Or.inr (b.trans a)))
  case events => exact k.events.elim Or.inl (fun b => h.events.elim Or.inl (fun a => Or.inr (b.trans a)))
  case bp => exact k.bp.elim Or.inl (fun b => h.bp.elim Or.inl (fun a => Or.inr (b.trans a)))
  case power => exact k.power.elim Or.inl (fun b => h.power.elim Or.inl (fun a => Or.inr (b.trans a)))
  case boot => exact k.boot.elim Or.inl (fun b => h.boot.elim Or.inl (fun a => Or.inr (b.trans a)))
  case dbg => exact k.dbg.elim Or.inl (fun b => h.dbg.elim Or.inl (fun a => Or.inr (b.trans a)))
  case baro => exact k.baro.elim Or.inl (fun b => h.baro.elim Or.inl (fun a => Or.inr (b.trans a)))
  case link => exact k.link.elim Or.inl (fun b => h.link.elim Or.inl (fun a => Or.inr (b.trans a)))
  case free => exact k.free.elim Or.inl (fun b => h.free.elim Or.inl (fun a => Or.inr (b.trans a)))
  case out => exact k.out.elim Or.inl (fun b => h.out.elim Or.inl (fun a => Or.inr (b.trans a)))

theorem Touches.mono {F G : List Part} {s t : State} (h : Touches G s t) (sub : ∀ p ∈ G, p ∈ F) : Touches F s t := by
  constructor
  case build => exact h.build
  case pending => exact h.pending
  case mailbox => exact h.mailbox.imp (fun x => ⟨sub _ x.1, x.2⟩) id
  case otp => exact h.otp.imp (fun x => ⟨sub _ x.1, x.2⟩) id
  case entropy => exact h.entropy.imp (fun x => ⟨sub _ x.1, x.2⟩) id
  case tables => exact h.tables.mono sub
  case weft => exact h.weft.imp (sub _) id
  case shuttle => exact h.shuttle.imp (sub _) id
  case batten => exact h.batten.imp (sub _) id
  case spindle => exact h.spindle.imp (sub _) id
  case keys => exact h.keys.imp (sub _) id
  case spdm => exact h.spdm.imp (sub _) id
  case metering => exact h.metering.imp (sub _) id
  case time => exact h.time.imp (sub _) id
  case loom => exact h.loom.imp (sub _) id
  case log => exact h.log.imp (sub _) id
  case counters => exact h.counters.imp (sub _) id
  case trace => exact h.trace.imp (sub _) id
  case events => exact h.events.imp (sub _) id
  case bp => exact h.bp.imp (sub _) id
  case power => exact h.power.imp (sub _) id
  case boot => exact h.boot.imp (sub _) id
  case dbg => exact h.dbg.imp (sub _) id
  case baro => exact h.baro.imp (sub _) id
  case link => exact h.link.imp (sub _) id
  case free => exact h.free.imp (sub _) id
  case out => exact h.out.imp (sub _) id

/-- A change followed by an operation of which the law is known. -/
theorem Touches.andThen {F G : List Part} {s t u : State} (h : Touches F s t) (k : Touches G t u) (sub : ∀ p ∈ G, p ∈ F) :
    Touches F s u := h.trans (k.mono sub)

theorem Touches.set_tables {F : List Part} {s t : State} (x0 : Tables) (h : Touches F s t) (m0 : TablesTouch F t.tables x0) :
    Touches F s { t with tables := x0 } := by
  refine h.trans ?_
  constructor
  case tables => exact m0
  all_goals first | rfl | exact Or.inr rfl | exact TablesTouch.refl _ _

theorem Touches.set_weft {F : List Part} {s t : State} (x0 : Weft) (h : Touches F s t) (m0 : Part.weft ∈ F) :
    Touches F s { t with weft := x0 } := by
  refine h.trans ?_
  constructor
  case weft => exact Or.inl m0
  all_goals first | rfl | exact Or.inr rfl | exact TablesTouch.refl _ _

theorem Touches.set_shuttle {F : List Part} {s t : State} (x0 : Shuttle) (h : Touches F s t) (m0 : Part.shuttle ∈ F) :
    Touches F s { t with shuttle := x0 } := by
  refine h.trans ?_
  constructor
  case shuttle => exact Or.inl m0
  all_goals first | rfl | exact Or.inr rfl | exact TablesTouch.refl _ _

theorem Touches.set_batten {F : List Part} {s t : State} (x0 : Batten) (h : Touches F s t) (m0 : Part.batten ∈ F) :
    Touches F s { t with batten := x0 } := by
  refine h.trans ?_
  constructor
  case batten => exact Or.inl m0
  all_goals first | rfl | exact Or.inr rfl | exact TablesTouch.refl _ _

theorem Touches.set_spindle {F : List Part} {s t : State} (x0 : Spindle) (h : Touches F s t) (m0 : Part.spindle ∈ F) :
    Touches F s { t with spindle := x0 } := by
  refine h.trans ?_
  constructor
  case spindle => exact Or.inl m0
  all_goals first | rfl | exact Or.inr rfl | exact TablesTouch.refl _ _

theorem Touches.set_keys {F : List Part} {s t : State} (x0 : Keys) (h : Touches F s t) (m0 : Part.keys ∈ F) :
    Touches F s { t with keys := x0 } := by
  refine h.trans ?_
  constructor
  case keys => exact Or.inl m0
  all_goals first | rfl | exact Or.inr rfl | exact TablesTouch.refl _ _

theorem Touches.set_entropy {F : List Part} {s t : State} (x0 : Entropy) (h : Touches F s t) (m0 : Part.entropy ∈ F) (w0 : t.entropy.draws ≤ x0.draws) :
    Touches F s { t with entropy := x0 } := by
  refine h.trans ?_
  constructor
  case entropy => exact Or.inl ⟨m0, w0⟩
  all_goals first | rfl | exact Or.inr rfl | exact TablesTouch.refl _ _

theorem Touches.set_spdm {F : List Part} {s t : State} (x0 : Spdm) (h : Touches F s t) (m0 : Part.spdm ∈ F) :
    Touches F s { t with spdm := x0 } := by
  refine h.trans ?_
  constructor
  case spdm => exact Or.inl m0
  all_goals first | rfl | exact Or.inr rfl | exact TablesTouch.refl _ _

theorem Touches.set_metering {F : List Part} {s t : State} (x0 : Metering) (h : Touches F s t) (m0 : Part.metering ∈ F) :
    Touches F s { t with metering := x0 } := by
  refine h.trans ?_
  constructor
  case metering => exact Or.inl m0
  all_goals first | rfl | exact Or.inr rfl | exact TablesTouch.refl _ _

theorem Touches.set_time {F : List Part} {s t : State} (x0 : TimeUnit) (h : Touches F s t) (m0 : Part.time ∈ F) :
    Touches F s { t with time := x0 } := by
  refine h.trans ?_
  constructor
  case time => exact Or.inl m0
  all_goals first | rfl | exact Or.inr rfl | exact TablesTouch.refl _ _

theorem Touches.set_loom {F : List Part} {s t : State} (x0 : Loom) (h : Touches F s t) (m0 : Part.loom ∈ F) :
    Touches F s { t with loom := x0 } := by
  refine h.trans ?_
  constructor
  case loom => exact Or.inl m0
  all_goals first | rfl | exact Or.inr rfl | exact TablesTouch.refl _ _

theorem Touches.set_log {F : List Part} {s t : State} (x0 : ErrorLog) (h : Touches F s t) (m0 : Part.log ∈ F) :
    Touches F s { t with log := x0 } := by
  refine h.trans ?_
  constructor
  case log => exact Or.inl m0
  all_goals first | rfl | exact Or.inr rfl | exact TablesTouch.refl _ _

theorem Touches.set_counters {F : List Part} {s t : State} (x0 : Counters) (h : Touches F s t) (m0 : Part.counters ∈ F) :
    Touches F s { t with counters := x0 } := by
  refine h.trans ?_
  constructor
  case counters => exact Or.inl m0
  all_goals first | rfl | exact Or.inr rfl | exact TablesTouch.refl _ _

theorem Touches.set_trace {F : List Part} {s t : State} (x0 : Trace) (h : Touches F s t) (m0 : Part.trace ∈ F) :
    Touches F s { t with trace := x0 } := by
  refine h.trans ?_
  constructor
  case trace => exact Or.inl m0
  all_goals first | rfl | exact Or.inr rfl | exact TablesTouch.refl _ _

theorem Touches.set_events {F : List Part} {s t : State} (x0 : Events) (h : Touches F s t) (m0 : Part.events ∈ F) :
    Touches F s { t with events := x0 } := by
  refine h.trans ?_
  constructor
  case events => exact Or.inl m0
  all_goals first | rfl | exact Or.inr rfl | exact TablesTouch.refl _ _

theorem Touches.set_bp {F : List Part} {s t : State} (x0 : Binding) (h : Touches F s t) (m0 : Part.bp ∈ F) :
    Touches F s { t with bp := x0 } := by
  refine h.trans ?_
  constructor
  case bp => exact Or.inl m0
  all_goals first | rfl | exact Or.inr rfl | exact TablesTouch.refl _ _

theorem Touches.set_mailbox {F : List Part} {s t : State} (x0 : List Host.Cell) (h : Touches F s t) (m0 : Part.mailbox ∈ F) (w : Memory.wf t.mailbox = true → Memory.wf x0 = true) :
    Touches F s { t with mailbox := x0 } := by
  refine h.trans ?_
  constructor
  case mailbox => exact Or.inl ⟨m0, w⟩
  all_goals first | rfl | exact Or.inr rfl | exact TablesTouch.refl _ _

theorem Touches.set_otp {F : List Part} {s t : State} (x0 : Otp) (h : Touches F s t) (m0 : Part.otp ∈ F) (w : ∀ a, t.otp.words.findD a 0 &&& x0.words.findD a 0 = t.otp.words.findD a 0) :
    Touches F s { t with otp := x0 } := by
  refine h.trans ?_
  constructor
  case otp => exact Or.inl ⟨m0, w⟩
  all_goals first | rfl | exact Or.inr rfl | exact TablesTouch.refl _ _

theorem Touches.set_power {F : List Part} {s t : State} (x0 : Power) (h : Touches F s t) (m0 : Part.power ∈ F) :
    Touches F s { t with power := x0 } := by
  refine h.trans ?_
  constructor
  case power => exact Or.inl m0
  all_goals first | rfl | exact Or.inr rfl | exact TablesTouch.refl _ _

theorem Touches.set_boot {F : List Part} {s t : State} (x0 : Boot) (h : Touches F s t) (m0 : Part.boot ∈ F) :
    Touches F s { t with boot := x0 } := by
  refine h.trans ?_
  constructor
  case boot => exact Or.inl m0
  all_goals first | rfl | exact Or.inr rfl | exact TablesTouch.refl _ _

theorem Touches.set_dbg {F : List Part} {s t : State} (x0 : Debug) (h : Touches F s t) (m0 : Part.dbg ∈ F) :
    Touches F s { t with dbg := x0 } := by
  refine h.trans ?_
  constructor
  case dbg => exact Or.inl m0
  all_goals first | rfl | exact Or.inr rfl | exact TablesTouch.refl _ _

theorem Touches.set_baro {F : List Part} {s t : State} (x0 : Baro) (h : Touches F s t) (m0 : Part.baro ∈ F) :
    Touches F s { t with baro := x0 } := by
  refine h.trans ?_
  constructor
  case baro => exact Or.inl m0
  all_goals first | rfl | exact Or.inr rfl | exact TablesTouch.refl _ _

theorem Touches.set_link {F : List Part} {s t : State} (x0 : HostLink) (h : Touches F s t) (m0 : Part.link ∈ F) :
    Touches F s { t with link := x0 } := by
  refine h.trans ?_
  constructor
  case link => exact Or.inl m0
  all_goals first | rfl | exact Or.inr rfl | exact TablesTouch.refl _ _

theorem Touches.set_free {F : List Part} {s t : State} (x0 : Nat) (h : Touches F s t) (m0 : Part.free ∈ F) :
    Touches F s { t with freeCount := x0 } := by
  refine h.trans ?_
  constructor
  case free => exact Or.inl m0
  all_goals first | rfl | exact Or.inr rfl | exact TablesTouch.refl _ _

theorem Touches.set_out {F : List Part} {s t : State} (x0 : List Output) (h : Touches F s t) (m0 : Part.out ∈ F) :
    Touches F s { t with out := x0 } := by
  refine h.trans ?_
  constructor
  case out => exact Or.inl m0
  all_goals first | rfl | exact Or.inr rfl | exact TablesTouch.refl _ _

theorem Touches.set_tables_counters {F : List Part} {s t : State} (x0 : Tables) (x1 : Counters) (h : Touches F s t) (m0 : TablesTouch F t.tables x0) (m1 : Part.counters ∈ F) :
    Touches F s { t with tables := x0, counters := x1 } := by
  refine h.trans ?_
  constructor
  case tables => exact m0
  case counters => exact Or.inl m1
  all_goals first | rfl | exact Or.inr rfl | exact TablesTouch.refl _ _

theorem Touches.set_shuttle_keys {F : List Part} {s t : State} (x0 : Shuttle) (x1 : Keys) (h : Touches F s t) (m0 : Part.shuttle ∈ F) (m1 : Part.keys ∈ F) :
    Touches F s { t with shuttle := x0, keys := x1 } := by
  refine h.trans ?_
  constructor
  case shuttle => exact Or.inl m0
  case keys => exact Or.inl m1
  all_goals first | rfl | exact Or.inr rfl | exact TablesTouch.refl _ _

theorem Touches.set_shuttle_time {F : List Part} {s t : State} (x0 : Shuttle) (x1 : TimeUnit) (h : Touches F s t) (m0 : Part.shuttle ∈ F) (m1 : Part.time ∈ F) :
    Touches F s { t with shuttle := x0, time := x1 } := by
  refine h.trans ?_
  constructor
  case shuttle => exact Or.inl m0
  case time => exact Or.inl m1
  all_goals first | rfl | exact Or.inr rfl | exact TablesTouch.refl _ _

theorem Touches.set_entropy_otp {F : List Part} {s t : State} (x0 : Entropy) (x1 : Otp) (h : Touches F s t) (m0 : Part.entropy ∈ F) (m1 : Part.otp ∈ F) (w0 : t.entropy.draws ≤ x0.draws) (w : ∀ a, t.otp.words.findD a 0 &&& x1.words.findD a 0 = t.otp.words.findD a 0) :
    Touches F s { t with entropy := x0, otp := x1 } := by
  refine h.trans ?_
  constructor
  case entropy => exact Or.inl ⟨m0, w0⟩
  case otp => exact Or.inl ⟨m1, w⟩
  all_goals first | rfl | exact Or.inr rfl | exact TablesTouch.refl _ _

theorem Touches.set_spdm_loom {F : List Part} {s t : State} (x0 : Spdm) (x1 : Loom) (h : Touches F s t) (m0 : Part.spdm ∈ F) (m1 : Part.loom ∈ F) :
    Touches F s { t with spdm := x0, loom := x1 } := by
  refine h.trans ?_
  constructor
  case spdm => exact Or.inl m0
  case loom => exact Or.inl m1
  all_goals first | rfl | exact Or.inr rfl | exact TablesTouch.refl _ _

theorem Touches.set_loom_counters {F : List Part} {s t : State} (x0 : Loom) (x1 : Counters) (h : Touches F s t) (m0 : Part.loom ∈ F) (m1 : Part.counters ∈ F) :
    Touches F s { t with loom := x0, counters := x1 } := by
  refine h.trans ?_
  constructor
  case loom => exact Or.inl m0
  case counters => exact Or.inl m1
  all_goals first | rfl | exact Or.inr rfl | exact TablesTouch.refl _ _

theorem Touches.set_loom_free {F : List Part} {s t : State} (x0 : Loom) (x1 : Nat) (h : Touches F s t) (m0 : Part.loom ∈ F) (m1 : Part.free ∈ F) :
    Touches F s { t with loom := x0, freeCount := x1 } := by
  refine h.trans ?_
  constructor
  case loom => exact Or.inl m0
  case free => exact Or.inl m1
  all_goals first | rfl | exact Or.inr rfl | exact TablesTouch.refl _ _

theorem Touches.set_otp_boot {F : List Part} {s t : State} (x0 : Otp) (x1 : Boot) (h : Touches F s t) (m0 : Part.otp ∈ F) (m1 : Part.boot ∈ F) (w : ∀ a, t.otp.words.findD a 0 &&& x0.words.findD a 0 = t.otp.words.findD a 0) :
    Touches F s { t with otp := x0, boot := x1 } := by
  refine h.trans ?_
  constructor
  case otp => exact Or.inl ⟨m0, w⟩
  case boot => exact Or.inl m1
  all_goals first | rfl | exact Or.inr rfl | exact TablesTouch.refl _ _

theorem Touches.set_shuttle_keys_entropy_link {F : List Part} {s t : State} (x0 : Shuttle) (x1 : Keys) (x2 : Entropy) (x3 : HostLink) (h : Touches F s t)
    (m0 : Part.shuttle ∈ F) (m1 : Part.keys ∈ F) (m2 : Part.entropy ∈ F) (m3 : Part.link ∈ F) (w0 : t.entropy.draws ≤ x2.draws) :
    Touches F s { t with shuttle := x0, keys := x1, entropy := x2, link := x3 } := by
  refine h.trans ?_
  constructor
  case shuttle => exact Or.inl m0
  case keys => exact Or.inl m1
  case entropy => exact Or.inl ⟨m2, w0⟩
  case link => exact Or.inl m3
  all_goals first | rfl | exact Or.inr rfl | exact TablesTouch.refl _ _

theorem Touches.set_spindle_power {F : List Part} {s t : State} (x0 : Spindle) (x1 : Power) (h : Touches F s t)
    (m0 : Part.spindle ∈ F) (m1 : Part.power ∈ F) :
    Touches F s { t with spindle := x0, power := x1 } := by
  refine h.trans ?_
  constructor
  case spindle => exact Or.inl m0
  case power => exact Or.inl m1
  all_goals first | rfl | exact Or.inr rfl | exact TablesTouch.refl _ _

theorem Touches.set_dbg_free {F : List Part} {s t : State} (x0 : Debug) (x1 : Nat) (h : Touches F s t)
    (m0 : Part.dbg ∈ F) (m1 : Part.free ∈ F) :
    Touches F s { t with dbg := x0, freeCount := x1 } := by
  refine h.trans ?_
  constructor
  case dbg => exact Or.inl m0
  case free => exact Or.inl m1
  all_goals first | rfl | exact Or.inr rfl | exact TablesTouch.refl _ _

theorem Touches.set_tables_shuttle_batten_spindle_time_counters {F : List Part} {s t : State} (x0 : Tables) (x1 : Shuttle) (x2 : Batten) (x3 : Spindle) (x4 : TimeUnit) (x5 : Counters) (h : Touches F s t) (m0 : TablesTouch F t.tables x0) (m1 : Part.shuttle ∈ F) (m2 : Part.batten ∈ F) (m3 : Part.spindle ∈ F) (m4 : Part.time ∈ F) (m5 : Part.counters ∈ F) :
    Touches F s { t with tables := x0, shuttle := x1, batten := x2, spindle := x3, time := x4, counters := x5 } := by
  refine h.trans ?_
  constructor
  case tables => exact m0
  case shuttle => exact Or.inl m1
  case batten => exact Or.inl m2
  case spindle => exact Or.inl m3
  case time => exact Or.inl m4
  case counters => exact Or.inl m5
  all_goals first | rfl | exact Or.inr rfl | exact TablesTouch.refl _ _

/-- The same, with the operation first. -/
theorem Touches.comp {F G : List Part} {s t u : State} (k : Touches G t u) (h : Touches F s t) (sub : ∀ p ∈ G, p ∈ F) :
    Touches F s u := h.andThen k sub

theorem Touches.foldl {α : Type} {F : List Part} {s : State} (f : State → α → State) (l : List α) :
    ∀ t : State, Touches F s t → (∀ u x, Touches F s u → Touches F s (f u x)) → Touches F s (l.foldl f t) := by
  induction l with
  | nil => intro t h _; exact h
  | cons a l ih => intro t h k; exact ih _ (k t a h) k

theorem Touches.foldl_fst {α β : Type} {F : List Part} {s : State} (f : State × β → α → State × β) (l : List α) :
    ∀ t : State × β, Touches F s t.1 → (∀ u x, Touches F s u.1 → Touches F s (f u x).1) → Touches F s (l.foldl f t).1 := by
  induction l with
  | nil => intro t h _; exact h
  | cons a l ih => intro t h k; exact ih _ (k t a h) k

theorem Touches.foldl_snd {α β : Type} {F : List Part} {s : State} (f : β × State → α → β × State) (l : List α) :
    ∀ t : β × State, Touches F s t.2 → (∀ u x, Touches F s u.2 → Touches F s (f u x).2) → Touches F s (l.foldl f t).2 := by
  induction l with
  | nil => intro t h _; exact h
  | cons a l ih => intro t h k; exact ih _ (k t a h) k

theorem Touches.ite {F : List Part} {s t u : State} {c : Prop} [Decidable c] (h : c → Touches F s t)
    (k : ¬c → Touches F s u) : Touches F s (if c then t else u) := by
  split <;> simp_all

/-! ### The other shapes of result -/

/-- A result beside a state. -/
theorem Touches.of_eq {α : Type} {F : List Part} {s u : State} {p : α × State} {a : α} (e : p = (a, u))
    (h : Touches F s p.2) : Touches F s u := by rw [e] at h; exact h

theorem Touches.of_eq' {α : Type} {F : List Part} {s u : State} {p : State × α} {a : α} (e : p = (u, a))
    (h : Touches F s p.1) : Touches F s u := by rw [e] at h; exact h

/-- A state, if there is one. -/
def OptTouches (F : List Part) (s : State) (o : Option State) : Prop := ∀ u, o = some u → Touches F s u

theorem OptTouches.get {F : List Part} {s u : State} {o : Option State} (h : OptTouches F s o) (e : o = some u) :
    Touches F s u := h u e

theorem OptTouches.none (F : List Part) (s : State) : OptTouches F s none := by intro u h; cases h

theorem OptTouches.some {F : List Part} {s t : State} (h : Touches F s t) : OptTouches F s (some t) := by
  intro u e; cases e; exact h

theorem OptTouches.ite {F : List Part} {s : State} {t u : Option State} {c : Prop} [Decidable c] (h : c → OptTouches F s t)
    (k : ¬c → OptTouches F s u) : OptTouches F s (if c then t else u) := by
  split <;> simp_all

theorem OptTouches.getD {F : List Part} {s t : State} {o : Option State} (h : OptTouches F s o) (k : Touches F s t) :
    Touches F s (o.getD t) := by
  cases o with
  | none => exact k
  | some u => exact h u rfl

theorem OptTouches.map {α : Type} {F : List Part} {s : State} {o : Option α} {f : α → State}
    (h : ∀ a, Touches F s (f a)) : OptTouches F s (o.map f) := by
  intro u e
  cases o with
  | none => cases e
  | some a => cases e; exact h a

theorem OptTouches.bind {α : Type} {F : List Part} {s : State} {o : Option α} {f : α → Option State}
    (h : ∀ a, OptTouches F s (f a)) : OptTouches F s (o.bind f) := by
  intro u e
  cases o with
  | none => cases e
  | some a => exact h a u e

/-- A result beside a state, if there is one. -/
def OptPairTouches {α : Type} (F : List Part) (s : State) (o : Option (α × State)) : Prop :=
  ∀ a u, o = some (a, u) → Touches F s u

theorem OptPairTouches.get {α : Type} {F : List Part} {s u : State} {a : α} {o : Option (α × State)}
    (h : OptPairTouches F s o) (e : o = some (a, u)) : Touches F s u := h a u e

theorem OptPairTouches.none {α : Type} (F : List Part) (s : State) : OptPairTouches F s (none : Option (α × State)) := by
  intro a u h; cases h

theorem OptPairTouches.some {α : Type} {F : List Part} {s : State} {p : α × State} (h : Touches F s p.2) :
    OptPairTouches F s (some p) := by
  intro a u e; cases e; exact h

theorem OptPairTouches.map {α β : Type} {F : List Part} {s : State} {o : Option α} {f : α → β × State}
    (h : ∀ a, Touches F s (f a).2) : OptPairTouches F s (o.map f) := by
  intro b u e
  cases o with
  | none => cases e
  | some a =>
    have := h a
    rw [show f a = (b, u) from Option.some.inj e] at this
    exact this

/-- What a command's body answers. -/
def ResTouches (F : List Part) (s : State) : Res → Prop
  | .fail _ => True
  | .refuse _ => True
  | .done _ t => Touches F s t
  | .wait _ _ t => Touches F s t

theorem ResTouches.fail (F : List Part) (s : State) (n : Nat) : ResTouches F s (.fail n) := trivial
theorem ResTouches.refuse (F : List Part) (s : State) (r : Reply) : ResTouches F s (.refuse r) := trivial
theorem ResTouches.done {F : List Part} {s t : State} {r : Reply} (h : Touches F s t) : ResTouches F s (.done r t) := h
theorem ResTouches.wait {F : List Part} {s t : State} {w : Wait} {k : Cont} (h : Touches F s t) :
    ResTouches F s (.wait w k t) := h
theorem ResTouches.ok {F : List Part} {s t : State} {r x : Bytes} (h : Touches F s t) : ResTouches F s (.ok t r x) := h

theorem ResTouches.ite {F : List Part} {s : State} {t u : Res} {c : Prop} [Decidable c] (h : c → ResTouches F s t)
    (k : ¬c → ResTouches F s u) : ResTouches F s (if c then t else u) := by
  split <;> simp_all

theorem ResTouches.mono {F G : List Part} {s : State} {r : Res} (h : ResTouches G s r) (sub : ∀ p ∈ G, p ∈ F) :
    ResTouches F s r := by
  cases r with
  | fail n => trivial
  | refuse r => trivial
  | done r t => exact Touches.mono h sub
  | wait w k t => exact Touches.mono h sub

theorem ResTouches.after {F G : List Part} {s t : State} {r : Res} (h : Touches F s t) (k : ResTouches G t r)
    (sub : ∀ p ∈ G, p ∈ F) : ResTouches F s r := by
  cases r with
  | fail n => trivial
  | refuse r => trivial
  | done r u => exact h.andThen k sub
  | wait w c u => exact h.andThen k sub

theorem OptTouches.after {F G : List Part} {s t : State} {o : Option State} (h : Touches F s t) (k : OptTouches G t o)
    (sub : ∀ p ∈ G, p ∈ F) : OptTouches F s o := fun u e => h.andThen (k u e) sub

theorem OptPairTouches.after {α : Type} {F G : List Part} {s t : State} {o : Option (α × State)} (h : Touches F s t)
    (k : OptPairTouches G t o) (sub : ∀ p ∈ G, p ∈ F) : OptPairTouches F s o := fun a u e => h.andThen (k a u e) sub

theorem OptTouches.comp {F G : List Part} {s t : State} {o : Option State} (k : OptTouches G t o) (h : Touches F s t)
    (sub : ∀ p ∈ G, p ∈ F) : OptTouches F s o := fun u e => h.andThen (k u e) sub

theorem OptPairTouches.comp {α : Type} {F G : List Part} {s t : State} {o : Option (α × State)} (k : OptPairTouches G t o) (h : Touches F s t)
    (sub : ∀ p ∈ G, p ∈ F) : OptPairTouches F s o := fun a u e => h.andThen (k a u e) sub

theorem ResTouches.comp {F G : List Part} {s t : State} {o : Res} (k : ResTouches G t o) (h : Touches F s t)
    (sub : ∀ p ∈ G, p ∈ F) : ResTouches F s o := ResTouches.after h k sub

/-- What a command answers. -/
def OutTouches (F : List Part) (s : State) (o : Host.Outcome State Fault Refusal) : Prop := ∀ t, o = .next t → Touches F s t

theorem OutTouches.next {F : List Part} {s t : State} (h : Touches F s t) : OutTouches F s (.next t) := by
  intro u e; cases e; exact h

theorem OutTouches.ite {F : List Part} {s : State} {t u : Host.Outcome State Fault Refusal} {c : Prop} [Decidable c]
    (h : c → OutTouches F s t) (k : ¬c → OutTouches F s u) : OutTouches F s (if c then t else u) := by
  split <;> simp_all

theorem OutTouches.after {F G : List Part} {s t : State} {o : Host.Outcome State Fault Refusal} (h : Touches F s t)
    (k : OutTouches G t o) (sub : ∀ p ∈ G, p ∈ F) : OutTouches F s o := fun u e => h.andThen (k u e) sub

theorem OutTouches.comp {F G : List Part} {s t : State} {o : Host.Outcome State Fault Refusal} (k : OutTouches G t o) (h : Touches F s t)
    (sub : ∀ p ∈ G, p ∈ F) : OutTouches F s o := fun u e => h.andThen (k u e) sub

theorem OutTouches.nextIf {F : List Part} {s t u : State} {g : Bool} (hs : Touches F s t) (ht : Touches F s u) :
    OutTouches F s (nextIf g t u) := by
  unfold Sys2Proof.Machine.nextIf
  refine OutTouches.next ?_
  split
  · exact ht
  · exact hs

/-- Counters or usage of one domain change. -/
theorem Touches.setDom_tally {F : List Part} {s t : State} (l : Nat) (d : Domain) (h : Touches F s t)
    (m : Part.tallies ∈ F) (e : d.core = (t.dom l).core) : Touches F s (t.setDom l d) :=
  Touches.set_tables _ h (TablesTouch.set_tally l d m e)

end Sys2Proof.Machine
end

