-- ==== Sys2Proof/Laws/Touches/Ops.lean ====
section
/-!
SUPPORT. What the operations of Machine/Ops.lean touch, one law for each.
-/
namespace Sys2Proof.Machine

set_option linter.unusedTactic false
set_option linter.unreachableTactic false

theorem State.advanceTo_touches (s : State) (t : Nat) :
    Touches [.time] s (State.advanceTo s t) := by
  unfold State.advanceTo
  repeat' first
    | with_reducible apply Touches.refl
    | with_reducible assumption
    | with_reducible intro _
    | with_reducible apply Touches.ite
    | split
    | ((with_reducible apply Touches.set_time); rotate_left; decide)
    | dsimp only

theorem State.tick_touches (s : State) :
    Touches [.time] s (State.tick s) := by
  unfold State.tick
  repeat' first
    | with_reducible apply Touches.refl
    | with_reducible assumption
    | with_reducible intro _
    | with_reducible apply Touches.ite
    | split
    | ((with_reducible apply Touches.set_time); rotate_left; decide)
    | dsimp only

theorem State.setDom_touches (s : State) (ldi : Nat) (d : Domain) :
    Touches [.doms, .tallies] s (State.setDom s ldi d) := by
  unfold State.setDom
  repeat' first
    | with_reducible apply Touches.refl
    | with_reducible assumption
    | with_reducible intro _
    | with_reducible apply Touches.ite
    | split
    | ((with_reducible apply Touches.set_tables); rotate_left; exact TablesTouch.set_doms _ (by decide))
    | dsimp only

theorem State.emit_touches (s : State) (o : Output) :
    Touches [.out] s (State.emit s o) := by
  unfold State.emit
  repeat' first
    | with_reducible apply Touches.refl
    | with_reducible assumption
    | with_reducible intro _
    | with_reducible apply Touches.ite
    | split
    | ((with_reducible apply Touches.set_out); rotate_left; decide)
    | dsimp only

theorem State.emitAll_touches (s : State) (os : List Output) :
    Touches [.out] s (State.emitAll s os) := by
  unfold State.emitAll
  repeat' first
    | with_reducible apply Touches.refl
    | with_reducible assumption
    | with_reducible intro _
    | with_reducible apply Touches.ite
    | split
    | ((with_reducible apply Touches.set_out); rotate_left; decide)
    | dsimp only

theorem State.sendMctp_touches (s : State) (type : Nat) (body : Bytes) :
    Touches [.out] s (State.sendMctp s type body) := by
  unfold State.sendMctp
  repeat' first
    | with_reducible apply Touches.refl
    | with_reducible assumption
    | with_reducible intro _
    | (with_reducible apply Touches.comp (State.emitAll_touches _ _); rotate_left; decide)
    | with_reducible apply Touches.ite
    | split
    | dsimp only

theorem State.draw_touches (s : State) :
    Touches [.entropy] s (State.draw s).2 := by
  unfold State.draw
  repeat' first
    | with_reducible apply Touches.refl
    | with_reducible assumption
    | with_reducible exact Nat.le_refl _
    | with_reducible exact Nat.le_succ _
    | with_reducible intro _
    | with_reducible exact Nat.le_succ _
    | with_reducible apply Touches.ite
    | split
    | ((with_reducible apply Touches.set_entropy); rotate_left; decide)
    | dsimp only

theorem State.reseed_touches (s : State) :
    Touches [.entropy] s (State.reseed s) := by
  unfold State.reseed
  repeat' first
    | with_reducible apply Touches.refl
    | with_reducible assumption
    | with_reducible exact Nat.le_refl _
    | with_reducible exact Nat.le_succ _
    | with_reducible intro _
    | with_reducible apply Touches.ite
    | split
    | ((with_reducible apply Touches.set_entropy); rotate_left; decide)
    | dsimp only

theorem State.bump_touches (s : State) (i : Nat) (n : Nat) :
    Touches [.counters] s (State.bump s i n) := by
  unfold State.bump
  repeat' first
    | with_reducible apply Touches.refl
    | with_reducible assumption
    | with_reducible intro _
    | with_reducible apply Touches.ite
    | split
    | ((with_reducible apply Touches.set_counters); rotate_left; decide)
    | dsimp only

theorem State.bumpDom_touches (s : State) (ldi : Nat) (j : Nat) (n : Nat) :
    Touches [.tallies] s (State.bumpDom s ldi j n) := by
  unfold State.bumpDom
  repeat' first
    | with_reducible apply Touches.refl
    | with_reducible assumption
    | with_reducible intro _
    | ((with_reducible apply Touches.setDom_tally); rotate_left; decide; rfl)
    | with_reducible apply Touches.ite
    | split
    | dsimp only

theorem State.countDropped_touches (s : State) :
    Touches [.counters] s (State.countDropped s) := by
  unfold State.countDropped
  repeat' first
    | with_reducible apply Touches.refl
    | with_reducible assumption
    | with_reducible intro _
    | with_reducible apply Touches.ite
    | split
    | ((with_reducible apply Touches.set_counters); rotate_left; decide)
    | dsimp only

theorem State.raise_touches (s : State) (i : Nat) :
    Touches [.events] s (State.raise s i) := by
  unfold State.raise
  repeat' first
    | with_reducible apply Touches.refl
    | with_reducible assumption
    | with_reducible intro _
    | with_reducible apply Touches.ite
    | split
    | ((with_reducible apply Touches.set_events); rotate_left; decide)
    | dsimp only

theorem State.raiseInteg_touches (s : State) (ldi : Nat) :
    Touches [.events] s (State.raiseInteg s ldi) := by
  unfold State.raiseInteg
  repeat' first
    | with_reducible apply Touches.refl
    | with_reducible assumption
    | with_reducible intro _
    | (with_reducible apply Touches.comp (State.raise_touches _ _); rotate_left; decide)
    | with_reducible apply Touches.ite
    | split
    | ((with_reducible apply Touches.set_events); rotate_left; decide)
    | dsimp only

theorem State.raiseAbort_touches (s : State) (ldi : Nat) :
    Touches [.events] s (State.raiseAbort s ldi) := by
  unfold State.raiseAbort
  repeat' first
    | with_reducible apply Touches.refl
    | with_reducible assumption
    | with_reducible intro _
    | (with_reducible apply Touches.comp (State.raise_touches _ _); rotate_left; decide)
    | with_reducible apply Touches.ite
    | split
    | ((with_reducible apply Touches.set_events); rotate_left; decide)
    | dsimp only

theorem State.traceWrite_touches (s : State) (r : TraceRec) :
    Touches [.counters, .trace] s (State.traceWrite s r) := by
  unfold State.traceWrite
  repeat' first
    | with_reducible apply Touches.refl
    | with_reducible assumption
    | with_reducible intro _
    | (with_reducible apply Touches.comp (State.bump_touches _ _ _); rotate_left; decide)
    | with_reducible apply Touches.ite
    | split
    | ((with_reducible apply Touches.set_trace); rotate_left; decide)
    | dsimp only

theorem State.annotCount_touches (s : State) (ldi : Nat) (command : Bool) (marker : Bool) (value : BitVec 32) (n : Nat) :
    Touches [.tallies, .counters] s (State.annotCount s ldi command marker value n) := by
  unfold State.annotCount
  repeat' first
    | with_reducible apply Touches.refl
    | with_reducible assumption
    | with_reducible intro _
    | (with_reducible apply Touches.comp (State.bumpDom_touches _ _ _ _); rotate_left; decide)
    | (with_reducible apply Touches.comp (State.bump_touches _ _ _); rotate_left; decide)
    | with_reducible apply Touches.ite
    | split
    | ((with_reducible apply Touches.set_counters); rotate_left; decide)
    | dsimp only

theorem State.segment_touches (s : State) (src : Nat) (inst : Nat) (ldi : Nat) (ctx : Nat) (annot : BitVec 32) (n : Nat) :
    Touches [.trace] s (State.segment s src inst ldi ctx annot n) := by
  unfold State.segment
  repeat' first
    | with_reducible apply Touches.refl
    | with_reducible assumption
    | with_reducible intro _
    | with_reducible apply Touches.ite
    | split
    | ((with_reducible apply Touches.set_trace); rotate_left; decide)
    | dsimp only

theorem State.meter_touches (s : State) (ldi : Nat) (weft : Nat) (shuttle : Nat) (reds : Nat) :
    Touches [.tallies] s (State.meter s ldi weft shuttle reds) := by
  unfold State.meter
  repeat' first
    | with_reducible apply Touches.refl
    | with_reducible assumption
    | with_reducible intro _
    | ((with_reducible apply Touches.setDom_tally); rotate_left; decide; rfl)
    | with_reducible apply Touches.ite
    | split
    | dsimp only

theorem State.accrue_touches (s : State) (ldi : Nat) :
    Touches [.tallies] s (State.accrue s ldi) := by
  unfold State.accrue
  repeat' first
    | with_reducible apply Touches.refl
    | with_reducible assumption
    | with_reducible intro _
    | ((with_reducible apply Touches.setDom_tally); rotate_left; decide; rfl)
    | with_reducible apply Touches.ite
    | split
    | dsimp only

theorem State.record_touches (s : State) (type : Nat) (payload : Bytes) :
    Touches [.log, .counters, .trace] s (State.record s type payload) := by
  unfold State.record
  repeat' first
    | with_reducible apply Touches.refl
    | with_reducible assumption
    | with_reducible intro _
    | (with_reducible apply Touches.comp (State.traceWrite_touches _ _); rotate_left; decide)
    | (with_reducible apply Touches.comp (State.bump_touches _ _ _); rotate_left; decide)
    | with_reducible apply Touches.ite
    | split
    | ((with_reducible apply Touches.set_log); rotate_left; decide)
    | dsimp only

theorem State.recordLimited_touches (s : State) (type : Nat) (a : Nat) (b : Nat) (period : Nat) (pay : Nat → Bytes) :
    Touches [.log, .counters, .trace] s (State.recordLimited s type a b period pay) := by
  unfold State.recordLimited
  repeat' first
    | with_reducible apply Touches.refl
    | with_reducible assumption
    | with_reducible intro _
    | (with_reducible apply Touches.comp (State.record_touches _ _ _); rotate_left; decide)
    | with_reducible apply Touches.ite
    | split
    | ((with_reducible apply Touches.set_log); rotate_left; decide)
    | dsimp only

theorem State.mboxWrite_touches (s : State) (off : Nat) (b : Bytes) :
    Touches [.mailbox] s (State.mboxWrite s off b) := by
  unfold State.mboxWrite
  repeat' first
    | with_reducible apply Touches.refl
    | with_reducible assumption
    | with_reducible intro _
    | with_reducible exact Memory.wf_writeBytes b (by assumption) off
    | with_reducible apply Touches.ite
    | split
    | ((with_reducible apply Touches.set_mailbox); rotate_left; decide)
    | dsimp only

theorem State.setSlot_touches (s : State) (i : Nat) (k : KeySlot) :
    Touches [.keys] s (State.setSlot s i k) := by
  unfold State.setSlot
  repeat' first
    | with_reducible apply Touches.refl
    | with_reducible assumption
    | with_reducible intro _
    | with_reducible apply Touches.ite
    | split
    | ((with_reducible apply Touches.set_keys); rotate_left; decide)
    | dsimp only

theorem State.clearSlot_touches (s : State) (i : Nat) :
    Touches [.keys] s (State.clearSlot s i) := by
  unfold State.clearSlot
  repeat' first
    | with_reducible apply Touches.refl
    | with_reducible assumption
    | with_reducible intro _
    | with_reducible apply Touches.ite
    | split
    | ((with_reducible apply Touches.set_keys); rotate_left; decide)
    | dsimp only

theorem State.setFixed_touches (s : State) (ldi : Nat) (k : Nat) (type : Nat) (key : Key) :
    Touches [.keys] s (State.setFixed s ldi k type key) := by
  unfold State.setFixed
  repeat' first
    | with_reducible apply Touches.refl
    | with_reducible assumption
    | with_reducible intro _
    | (with_reducible apply Touches.comp (State.setSlot_touches _ _ _); rotate_left; decide)
    | with_reducible apply Touches.ite
    | split
    | dsimp only

theorem State.installMemKeys_touches (s : State) (ldi : Nat) :
    Touches [.keys] s (State.installMemKeys s ldi) := by
  unfold State.installMemKeys
  repeat' first
    | with_reducible apply Touches.refl
    | with_reducible assumption
    | with_reducible intro _
    | (with_reducible apply Touches.comp (State.setFixed_touches _ _ _ _ _); rotate_left; decide)
    | with_reducible apply Touches.ite
    | split
    | dsimp only

end Sys2Proof.Machine
end

