-- ==== Sys2Proof/Laws/Fences.lean ====
section
/-!
SUPPORT. Laws of the fence table: a set entry reads back, what an allocation makes, and what a signal does.
-/
namespace Sys2Proof.Machine

@[simp] theorem State.fence_setFence (s : State) (i : Nat) (f : Fence) : (s.setFence i f).fence i = f :=
  Map.findD_put_self _ _ _ _

theorem State.fence_setFence_other (s : State) {i k : Nat} (f : Fence) (h : k ≠ i) : (s.setFence i f).fence k = s.fence k :=
  Map.findD_put_other _ _ _ _ h

/-- An allocation arms one fence of the LDI under its next epoch, and touches the fence tables alone. -/
theorem State.allocFence_spec {s w : State} {l p h : Nat} (e : s.allocFence l p = some (h, w)) :
    ∃ i, h = fenceHandle i (w.fence i).epoch ∧
      w.fence i = { ldi := l, producer := p, state := .armed, epoch := ((s.fence i).epoch + 1) % 16384 } ∧
      (∀ k, k ≠ i → w.fence k = s.fence k) ∧
      w = { s with tables := { s.tables with
        fences := w.tables.fences, fenceFresh := w.tables.fenceFresh, fenceFreed := w.tables.fenceFreed } } := by
  unfold State.allocFence at e
  dsimp only at e
  split at e
  · cases e
  · rename_i i fr fd hh
    simp only [Option.some.injEq, Prod.mk.injEq] at e
    obtain ⟨e1, e2⟩ := e
    subst e2
    have hf := Map.findD_put_self s.tables.fences i
      ({ ldi := l, producer := p, state := .armed, epoch := ((s.fence i).epoch + 1) % 16384 } : Fence) {}
    refine ⟨i, ?_, hf, fun k hk => Map.findD_put_other _ _ _ _ hk, rfl⟩
    refine e1.symm.trans ?_
    congr 1
    exact (congrArg Fence.epoch hf).symm

/-- An operation outside the fence table leaves every entry. -/
theorem Touches.fence {F : List Part} {s t : State} (h : Touches F s t) (d : Part.fences ∉ F) (i : Nat) :
    t.fence i = s.fence i := by
  rcases h.tables.fences with m | m
  · exact absurd m d
  · unfold State.fence
    rw [m.1]

/-- A signal writes its one entry (R47). -/
theorem State.fence_signal (s : State) (i st c : Nat) :
    (s.signal i st c).fence i = { s.fence i with state := .signalled, status := st, cause := c } := by
  unfold State.signal
  dsimp only
  refine (Touches.fence (State.traceWrite_touches _ _) (by decide) i).trans ?_
  refine (Touches.fence (State.bumpDom_touches _ _ _ _) (by decide) i).trans ?_
  exact State.fence_setFence _ _ _

theorem State.fence_signal_other (s : State) {i k : Nat} (st c : Nat) (h : k ≠ i) :
    (s.signal i st c).fence k = s.fence k := by
  unfold State.signal
  dsimp only
  refine (Touches.fence (State.traceWrite_touches _ _) (by decide) k).trans ?_
  refine (Touches.fence (State.bumpDom_touches _ _ _ _) (by decide) k).trans ?_
  exact State.fence_setFence_other _ _ h

/-- A signal is published once, after everything that was published before it (R449). -/
theorem State.out_signal (s : State) (i st c : Nat) :
    (s.signal i st c).out = s.out ++ [.bpFence (fenceHandle i (s.fence i).epoch) (s.fence i).ldi st c] := by
  unfold State.signal State.emit
  dsimp only
  congr 1
  refine ((State.traceWrite_touches _ _).out.resolve_left (by decide)).trans ?_
  exact (State.bumpDom_touches _ _ _ _).out.resolve_left (by decide)

/-- Signalling a list of entries leaves each of them SIGNALLED with the status and the cause, and published. -/
theorem State.foldl_signal (is : List Nat) (st c : Nat) (s : State) :
    (∀ o ∈ s.out, o ∈ (is.foldl (fun s i => s.signal i st c) s).out) ∧
    (∀ k, ((is.foldl (fun s i => s.signal i st c) s).fence k).ldi = (s.fence k).ldi ∧
      ((is.foldl (fun s i => s.signal i st c) s).fence k).epoch = (s.fence k).epoch) ∧
    (∀ k, k ∈ is ∨ ((s.fence k).state = .signalled ∧ (s.fence k).status = st ∧ (s.fence k).cause = c) →
      ((is.foldl (fun s i => s.signal i st c) s).fence k).state = .signalled ∧
      ((is.foldl (fun s i => s.signal i st c) s).fence k).status = st ∧
      ((is.foldl (fun s i => s.signal i st c) s).fence k).cause = c) ∧
    (∀ k ∈ is, Output.bpFence (fenceHandle k (s.fence k).epoch) (s.fence k).ldi st c ∈
      (is.foldl (fun s i => s.signal i st c) s).out) := by
  induction is generalizing s with
  | nil => exact ⟨fun o h => h, fun k => ⟨rfl, rfl⟩, fun k h => h.resolve_left (by simp), by simp⟩
  | cons i is ih =>
    obtain ⟨h1, h2, h3, h4⟩ := ih (s.signal i st c)
    have same : ∀ k, ((s.signal i st c).fence k).ldi = (s.fence k).ldi ∧
        ((s.signal i st c).fence k).epoch = (s.fence k).epoch := by
      intro k
      by_cases e : k = i
      · subst e
        rw [State.fence_signal]
        exact ⟨rfl, rfl⟩
      · rw [State.fence_signal_other s st c e]
        exact ⟨rfl, rfl⟩
    simp only [List.foldl_cons]
    refine ⟨fun o h => h1 o (by rw [State.out_signal]; exact List.mem_append_left _ h),
      fun k => ⟨(h2 k).1.trans (same k).1, (h2 k).2.trans (same k).2⟩, fun k h => h3 k ?_, fun k h => ?_⟩
    · by_cases e : k = i
      · subst e
        rw [State.fence_signal]
        exact .inr ⟨rfl, rfl, rfl⟩
      · rw [State.fence_signal_other s st c e]
        exact h.imp (fun m => (List.mem_cons.1 m).resolve_left e) id
    · rcases List.mem_cons.1 h with rfl | m
      · refine h1 _ ?_
        rw [State.out_signal]
        exact List.mem_append_right _ List.mem_cons_self
      · have := h4 k m
        rwa [(same k).1, (same k).2] at this

/-- Every ARMED fence of an LDI signals `ST_ABORTED` with the cause, and is published (R34, R53). -/
theorem State.signalAll_armed {s : State} {l i : Nat} (c : Nat) (h : i ∈ s.armedOf l) :
    ((s.signalAll l c).fence i).state = .signalled ∧ ((s.signalAll l c).fence i).status = stAborted ∧
    ((s.signalAll l c).fence i).cause = c ∧
    Output.bpFence (fenceHandle i (s.fence i).epoch) (s.fence i).ldi stAborted c ∈ (s.signalAll l c).out := by
  obtain ⟨_, _, h3, h4⟩ := State.foldl_signal (s.armedOf l) stAborted c s
  exact ⟨(h3 i (.inl h)).1, (h3 i (.inl h)).2.1, (h3 i (.inl h)).2.2, h4 i h⟩

end Sys2Proof.Machine
end

