-- ==== Sys2Proof/Laws/Secured.lean ====
section
/-!
SUPPORT. Bytes that lay out a number, and the round trip of a secured message: what a direction's keys protect, they open again
(spec/10_attestation.md R209).
-/
namespace Sys2Proof.Machine

@[simp] theorem leBytes_length (n v : Nat) : (leBytes n v).length = n := by
  induction n generalizing v with
  | zero => rfl
  | succ n ih => simp [leBytes, ih]

@[simp] theorem bvBytes_length {w : Nat} (n : Nat) (v : BitVec w) : (bvBytes n v).length = n := leBytes_length _ _

theorem leNat_leBytes (n v : Nat) : leNat (leBytes n v) = v % 256 ^ n := by
  induction n generalizing v with
  | zero => simp [leBytes, leNat, Nat.mod_one]
  | succ n ih => rw [leBytes, leNat, ih, Nat.pow_succ', Nat.mod_mul, BitVec.toNat_ofNat]

@[simp] theorem bytesAt_length (b : Bytes) (off n : Nat) : (bytesAt b off n).length = n := by
  simp only [bytesAt, List.length_append, List.length_take, List.length_replicate, List.length_drop]
  omega

@[simp] theorem gcmStream_length (k : Key) (iv : BitVec 96) (n : Nat) : (gcmStream k iv n).length = n := bytesAt_length _ _ _

@[simp] theorem xorBytes_length (a b : Bytes) : (xorBytes a b).length = min a.length b.length := by simp [xorBytes]

/-- The same bytes laid over twice leave the text. -/
theorem xorBytes_xorBytes : ∀ (a b : Bytes), a.length = b.length → xorBytes (xorBytes a b) b = a
  | [], _, _ => by simp [xorBytes]
  | x :: a, y :: b, h => by
    have ih := xorBytes_xorBytes a b (by simpa using h)
    simp only [xorBytes, List.zipWith_cons_cons, BitVec.xor_assoc, BitVec.xor_self, BitVec.xor_zero] at ih ⊢
    rw [ih]

@[simp] theorem recordHead_length (id seq len : Nat) : (recordHead id seq len).length = 8 := by simp [recordHead]

/-- A protected message is longer by its record's header, its length and its tag. -/
theorem DirKeys.protect_length (d : DirKeys) (id : Nat) (msg : Bytes) : (d.protect id msg).length = msg.length + recordOverhead := by
  simp only [DirKeys.protect, List.length_append, recordHead_length, xorBytes_length, gcmStream_length, leBytes_length, bvBytes_length,
    recordOverhead]
  omega

/-- What the keys protect opens to the same message. -/
theorem DirKeys.unprotect_protect (d : DirKeys) (id : Nat) (msg : Bytes) (h : msg.length < 65536) :
    d.unprotect id (d.protect id msg) = some msg := by
  have hl := d.protect_length id msg
  have hct : (xorBytes (leBytes 2 msg.length ++ msg) (gcmStream d.key d.nonce (leBytes 2 msg.length ++ msg).length)).length
      = msg.length + 2 := by simp; omega
  have e1 : (d.protect id msg).take 8 = recordHead id d.seq ((d.protect id msg).length - 8) := by
    rw [hl, DirKeys.protect, List.append_assoc, List.take_left' (recordHead_length _ _ _)]
    congr 1
  have e2 : ((d.protect id msg).drop 8).take ((d.protect id msg).length - 24)
      = xorBytes (leBytes 2 msg.length ++ msg) (gcmStream d.key d.nonce (leBytes 2 msg.length ++ msg).length) := by
    rw [hl, DirKeys.protect, List.append_assoc, List.drop_left' (recordHead_length _ _ _)]
    exact List.take_left' (by rw [hct]; simp [recordOverhead])
  have e3 : (d.protect id msg).drop ((d.protect id msg).length - 16) = bvBytes 16 (Config.gcmTag d.key d.nonce
      (recordHead id d.seq ((d.protect id msg).length - 8))
      (xorBytes (leBytes 2 msg.length ++ msg) (gcmStream d.key d.nonce (leBytes 2 msg.length ++ msg).length))) := by
    rw [← e1, hl]
    conv_lhs => rw [DirKeys.protect]
    rw [List.drop_left' (by rw [List.length_append, recordHead_length, hct]; simp [recordOverhead]; omega), DirKeys.protect,
      List.append_assoc, List.take_left' (recordHead_length _ _ _)]
  have e4 : recordOverhead ≤ (d.protect id msg).length := by omega
  simp only [DirKeys.unprotect, e2, e3, ← e1, tagOk, e4, hct, beq_self_eq_true, decide_true, Bool.and_self, ↓reduceIte]
  rw [show msg.length + 2 = (leBytes 2 msg.length ++ msg).length by simp [Nat.add_comm], xorBytes_xorBytes _ _ (by simp)]
  simp [fieldAt, List.drop_left' (leBytes_length 2 _), List.take_left' (leBytes_length 2 _), leNat_leBytes, Nat.mod_eq_of_lt h]

end Sys2Proof.Machine
end

