-- ==== Sys2Proof/Laws/State.lean ====
section
/-!
SUPPORT. What each update of the state leaves as it is, field by field, and what it writes.
-/
namespace Sys2Proof.Machine

/-! ### Fields that an update leaves -/

@[simp] theorem State.setDom_build (s : State) (ldi : Nat) (d : Domain) : (State.setDom s ldi d).build = s.build := rfl
@[simp] theorem State.setDom_weft (s : State) (ldi : Nat) (d : Domain) : (State.setDom s ldi d).weft = s.weft := rfl
@[simp] theorem State.setDom_shuttle (s : State) (ldi : Nat) (d : Domain) : (State.setDom s ldi d).shuttle = s.shuttle := rfl
@[simp] theorem State.setDom_batten (s : State) (ldi : Nat) (d : Domain) : (State.setDom s ldi d).batten = s.batten := rfl
@[simp] theorem State.setDom_spindle (s : State) (ldi : Nat) (d : Domain) : (State.setDom s ldi d).spindle = s.spindle := rfl
@[simp] theorem State.setDom_keys (s : State) (ldi : Nat) (d : Domain) : (State.setDom s ldi d).keys = s.keys := rfl
@[simp] theorem State.setDom_entropy (s : State) (ldi : Nat) (d : Domain) : (State.setDom s ldi d).entropy = s.entropy := rfl
@[simp] theorem State.setDom_spdm (s : State) (ldi : Nat) (d : Domain) : (State.setDom s ldi d).spdm = s.spdm := rfl
@[simp] theorem State.setDom_metering (s : State) (ldi : Nat) (d : Domain) : (State.setDom s ldi d).metering = s.metering := rfl
@[simp] theorem State.setDom_time (s : State) (ldi : Nat) (d : Domain) : (State.setDom s ldi d).time = s.time := rfl
@[simp] theorem State.setDom_loom (s : State) (ldi : Nat) (d : Domain) : (State.setDom s ldi d).loom = s.loom := rfl
@[simp] theorem State.setDom_log (s : State) (ldi : Nat) (d : Domain) : (State.setDom s ldi d).log = s.log := rfl
@[simp] theorem State.setDom_counters (s : State) (ldi : Nat) (d : Domain) : (State.setDom s ldi d).counters = s.counters := rfl
@[simp] theorem State.setDom_trace (s : State) (ldi : Nat) (d : Domain) : (State.setDom s ldi d).trace = s.trace := rfl
@[simp] theorem State.setDom_events (s : State) (ldi : Nat) (d : Domain) : (State.setDom s ldi d).events = s.events := rfl
@[simp] theorem State.setDom_bp (s : State) (ldi : Nat) (d : Domain) : (State.setDom s ldi d).bp = s.bp := rfl
@[simp] theorem State.setDom_mailbox (s : State) (ldi : Nat) (d : Domain) : (State.setDom s ldi d).mailbox = s.mailbox := rfl
@[simp] theorem State.setDom_otp (s : State) (ldi : Nat) (d : Domain) : (State.setDom s ldi d).otp = s.otp := rfl
@[simp] theorem State.setDom_power (s : State) (ldi : Nat) (d : Domain) : (State.setDom s ldi d).power = s.power := rfl
@[simp] theorem State.setDom_boot (s : State) (ldi : Nat) (d : Domain) : (State.setDom s ldi d).boot = s.boot := rfl
@[simp] theorem State.setDom_dbg (s : State) (ldi : Nat) (d : Domain) : (State.setDom s ldi d).dbg = s.dbg := rfl
@[simp] theorem State.setDom_baro (s : State) (ldi : Nat) (d : Domain) : (State.setDom s ldi d).baro = s.baro := rfl
@[simp] theorem State.setDom_link (s : State) (ldi : Nat) (d : Domain) : (State.setDom s ldi d).link = s.link := rfl
@[simp] theorem State.setDom_freeCount (s : State) (ldi : Nat) (d : Domain) : (State.setDom s ldi d).freeCount = s.freeCount := rfl
@[simp] theorem State.setDom_out (s : State) (ldi : Nat) (d : Domain) : (State.setDom s ldi d).out = s.out := rfl
@[simp] theorem State.setDom_pending (s : State) (ldi : Nat) (d : Domain) : (State.setDom s ldi d).pending = s.pending := rfl

@[simp] theorem State.emit_build (s : State) (o : Output) : (State.emit s o).build = s.build := rfl
@[simp] theorem State.emit_tables (s : State) (o : Output) : (State.emit s o).tables = s.tables := rfl
@[simp] theorem State.emit_weft (s : State) (o : Output) : (State.emit s o).weft = s.weft := rfl
@[simp] theorem State.emit_shuttle (s : State) (o : Output) : (State.emit s o).shuttle = s.shuttle := rfl
@[simp] theorem State.emit_batten (s : State) (o : Output) : (State.emit s o).batten = s.batten := rfl
@[simp] theorem State.emit_spindle (s : State) (o : Output) : (State.emit s o).spindle = s.spindle := rfl
@[simp] theorem State.emit_keys (s : State) (o : Output) : (State.emit s o).keys = s.keys := rfl
@[simp] theorem State.emit_entropy (s : State) (o : Output) : (State.emit s o).entropy = s.entropy := rfl
@[simp] theorem State.emit_spdm (s : State) (o : Output) : (State.emit s o).spdm = s.spdm := rfl
@[simp] theorem State.emit_metering (s : State) (o : Output) : (State.emit s o).metering = s.metering := rfl
@[simp] theorem State.emit_time (s : State) (o : Output) : (State.emit s o).time = s.time := rfl
@[simp] theorem State.emit_loom (s : State) (o : Output) : (State.emit s o).loom = s.loom := rfl
@[simp] theorem State.emit_log (s : State) (o : Output) : (State.emit s o).log = s.log := rfl
@[simp] theorem State.emit_counters (s : State) (o : Output) : (State.emit s o).counters = s.counters := rfl
@[simp] theorem State.emit_trace (s : State) (o : Output) : (State.emit s o).trace = s.trace := rfl
@[simp] theorem State.emit_events (s : State) (o : Output) : (State.emit s o).events = s.events := rfl
@[simp] theorem State.emit_bp (s : State) (o : Output) : (State.emit s o).bp = s.bp := rfl
@[simp] theorem State.emit_mailbox (s : State) (o : Output) : (State.emit s o).mailbox = s.mailbox := rfl
@[simp] theorem State.emit_otp (s : State) (o : Output) : (State.emit s o).otp = s.otp := rfl
@[simp] theorem State.emit_power (s : State) (o : Output) : (State.emit s o).power = s.power := rfl
@[simp] theorem State.emit_boot (s : State) (o : Output) : (State.emit s o).boot = s.boot := rfl
@[simp] theorem State.emit_dbg (s : State) (o : Output) : (State.emit s o).dbg = s.dbg := rfl
@[simp] theorem State.emit_baro (s : State) (o : Output) : (State.emit s o).baro = s.baro := rfl
@[simp] theorem State.emit_link (s : State) (o : Output) : (State.emit s o).link = s.link := rfl
@[simp] theorem State.emit_freeCount (s : State) (o : Output) : (State.emit s o).freeCount = s.freeCount := rfl
@[simp] theorem State.emit_pending (s : State) (o : Output) : (State.emit s o).pending = s.pending := rfl

@[simp] theorem State.emitAll_build (s : State) (os : List Output) : (State.emitAll s os).build = s.build := rfl
@[simp] theorem State.emitAll_tables (s : State) (os : List Output) : (State.emitAll s os).tables = s.tables := rfl
@[simp] theorem State.emitAll_weft (s : State) (os : List Output) : (State.emitAll s os).weft = s.weft := rfl
@[simp] theorem State.emitAll_shuttle (s : State) (os : List Output) : (State.emitAll s os).shuttle = s.shuttle := rfl
@[simp] theorem State.emitAll_batten (s : State) (os : List Output) : (State.emitAll s os).batten = s.batten := rfl
@[simp] theorem State.emitAll_spindle (s : State) (os : List Output) : (State.emitAll s os).spindle = s.spindle := rfl
@[simp] theorem State.emitAll_keys (s : State) (os : List Output) : (State.emitAll s os).keys = s.keys := rfl
@[simp] theorem State.emitAll_entropy (s : State) (os : List Output) : (State.emitAll s os).entropy = s.entropy := rfl
@[simp] theorem State.emitAll_spdm (s : State) (os : List Output) : (State.emitAll s os).spdm = s.spdm := rfl
@[simp] theorem State.emitAll_metering (s : State) (os : List Output) : (State.emitAll s os).metering = s.metering := rfl
@[simp] theorem State.emitAll_time (s : State) (os : List Output) : (State.emitAll s os).time = s.time := rfl
@[simp] theorem State.emitAll_loom (s : State) (os : List Output) : (State.emitAll s os).loom = s.loom := rfl
@[simp] theorem State.emitAll_log (s : State) (os : List Output) : (State.emitAll s os).log = s.log := rfl
@[simp] theorem State.emitAll_counters (s : State) (os : List Output) : (State.emitAll s os).counters = s.counters := rfl
@[simp] theorem State.emitAll_trace (s : State) (os : List Output) : (State.emitAll s os).trace = s.trace := rfl
@[simp] theorem State.emitAll_events (s : State) (os : List Output) : (State.emitAll s os).events = s.events := rfl
@[simp] theorem State.emitAll_bp (s : State) (os : List Output) : (State.emitAll s os).bp = s.bp := rfl
@[simp] theorem State.emitAll_mailbox (s : State) (os : List Output) : (State.emitAll s os).mailbox = s.mailbox := rfl
@[simp] theorem State.emitAll_otp (s : State) (os : List Output) : (State.emitAll s os).otp = s.otp := rfl
@[simp] theorem State.emitAll_power (s : State) (os : List Output) : (State.emitAll s os).power = s.power := rfl
@[simp] theorem State.emitAll_boot (s : State) (os : List Output) : (State.emitAll s os).boot = s.boot := rfl
@[simp] theorem State.emitAll_dbg (s : State) (os : List Output) : (State.emitAll s os).dbg = s.dbg := rfl
@[simp] theorem State.emitAll_baro (s : State) (os : List Output) : (State.emitAll s os).baro = s.baro := rfl
@[simp] theorem State.emitAll_link (s : State) (os : List Output) : (State.emitAll s os).link = s.link := rfl
@[simp] theorem State.emitAll_freeCount (s : State) (os : List Output) : (State.emitAll s os).freeCount = s.freeCount := rfl
@[simp] theorem State.emitAll_pending (s : State) (os : List Output) : (State.emitAll s os).pending = s.pending := rfl

@[simp] theorem State.bump_build (s : State) (i : Nat) (n : Nat) : (State.bump s i n).build = s.build := rfl
@[simp] theorem State.bump_tables (s : State) (i : Nat) (n : Nat) : (State.bump s i n).tables = s.tables := rfl
@[simp] theorem State.bump_weft (s : State) (i : Nat) (n : Nat) : (State.bump s i n).weft = s.weft := rfl
@[simp] theorem State.bump_shuttle (s : State) (i : Nat) (n : Nat) : (State.bump s i n).shuttle = s.shuttle := rfl
@[simp] theorem State.bump_batten (s : State) (i : Nat) (n : Nat) : (State.bump s i n).batten = s.batten := rfl
@[simp] theorem State.bump_spindle (s : State) (i : Nat) (n : Nat) : (State.bump s i n).spindle = s.spindle := rfl
@[simp] theorem State.bump_keys (s : State) (i : Nat) (n : Nat) : (State.bump s i n).keys = s.keys := rfl
@[simp] theorem State.bump_entropy (s : State) (i : Nat) (n : Nat) : (State.bump s i n).entropy = s.entropy := rfl
@[simp] theorem State.bump_spdm (s : State) (i : Nat) (n : Nat) : (State.bump s i n).spdm = s.spdm := rfl
@[simp] theorem State.bump_metering (s : State) (i : Nat) (n : Nat) : (State.bump s i n).metering = s.metering := rfl
@[simp] theorem State.bump_time (s : State) (i : Nat) (n : Nat) : (State.bump s i n).time = s.time := rfl
@[simp] theorem State.bump_loom (s : State) (i : Nat) (n : Nat) : (State.bump s i n).loom = s.loom := rfl
@[simp] theorem State.bump_log (s : State) (i : Nat) (n : Nat) : (State.bump s i n).log = s.log := rfl
@[simp] theorem State.bump_trace (s : State) (i : Nat) (n : Nat) : (State.bump s i n).trace = s.trace := rfl
@[simp] theorem State.bump_events (s : State) (i : Nat) (n : Nat) : (State.bump s i n).events = s.events := rfl
@[simp] theorem State.bump_bp (s : State) (i : Nat) (n : Nat) : (State.bump s i n).bp = s.bp := rfl
@[simp] theorem State.bump_mailbox (s : State) (i : Nat) (n : Nat) : (State.bump s i n).mailbox = s.mailbox := rfl
@[simp] theorem State.bump_otp (s : State) (i : Nat) (n : Nat) : (State.bump s i n).otp = s.otp := rfl
@[simp] theorem State.bump_power (s : State) (i : Nat) (n : Nat) : (State.bump s i n).power = s.power := rfl
@[simp] theorem State.bump_boot (s : State) (i : Nat) (n : Nat) : (State.bump s i n).boot = s.boot := rfl
@[simp] theorem State.bump_dbg (s : State) (i : Nat) (n : Nat) : (State.bump s i n).dbg = s.dbg := rfl
@[simp] theorem State.bump_baro (s : State) (i : Nat) (n : Nat) : (State.bump s i n).baro = s.baro := rfl
@[simp] theorem State.bump_link (s : State) (i : Nat) (n : Nat) : (State.bump s i n).link = s.link := rfl
@[simp] theorem State.bump_freeCount (s : State) (i : Nat) (n : Nat) : (State.bump s i n).freeCount = s.freeCount := rfl
@[simp] theorem State.bump_out (s : State) (i : Nat) (n : Nat) : (State.bump s i n).out = s.out := rfl
@[simp] theorem State.bump_pending (s : State) (i : Nat) (n : Nat) : (State.bump s i n).pending = s.pending := rfl

@[simp] theorem State.raise_build (s : State) (i : Nat) : (State.raise s i).build = s.build := rfl
@[simp] theorem State.raise_tables (s : State) (i : Nat) : (State.raise s i).tables = s.tables := rfl
@[simp] theorem State.raise_weft (s : State) (i : Nat) : (State.raise s i).weft = s.weft := rfl
@[simp] theorem State.raise_shuttle (s : State) (i : Nat) : (State.raise s i).shuttle = s.shuttle := rfl
@[simp] theorem State.raise_batten (s : State) (i : Nat) : (State.raise s i).batten = s.batten := rfl
@[simp] theorem State.raise_spindle (s : State) (i : Nat) : (State.raise s i).spindle = s.spindle := rfl
@[simp] theorem State.raise_keys (s : State) (i : Nat) : (State.raise s i).keys = s.keys := rfl
@[simp] theorem State.raise_entropy (s : State) (i : Nat) : (State.raise s i).entropy = s.entropy := rfl
@[simp] theorem State.raise_spdm (s : State) (i : Nat) : (State.raise s i).spdm = s.spdm := rfl
@[simp] theorem State.raise_metering (s : State) (i : Nat) : (State.raise s i).metering = s.metering := rfl
@[simp] theorem State.raise_time (s : State) (i : Nat) : (State.raise s i).time = s.time := rfl
@[simp] theorem State.raise_loom (s : State) (i : Nat) : (State.raise s i).loom = s.loom := rfl
@[simp] theorem State.raise_log (s : State) (i : Nat) : (State.raise s i).log = s.log := rfl
@[simp] theorem State.raise_counters (s : State) (i : Nat) : (State.raise s i).counters = s.counters := rfl
@[simp] theorem State.raise_trace (s : State) (i : Nat) : (State.raise s i).trace = s.trace := rfl
@[simp] theorem State.raise_bp (s : State) (i : Nat) : (State.raise s i).bp = s.bp := rfl
@[simp] theorem State.raise_mailbox (s : State) (i : Nat) : (State.raise s i).mailbox = s.mailbox := rfl
@[simp] theorem State.raise_otp (s : State) (i : Nat) : (State.raise s i).otp = s.otp := rfl
@[simp] theorem State.raise_power (s : State) (i : Nat) : (State.raise s i).power = s.power := rfl
@[simp] theorem State.raise_boot (s : State) (i : Nat) : (State.raise s i).boot = s.boot := rfl
@[simp] theorem State.raise_dbg (s : State) (i : Nat) : (State.raise s i).dbg = s.dbg := rfl
@[simp] theorem State.raise_baro (s : State) (i : Nat) : (State.raise s i).baro = s.baro := rfl
@[simp] theorem State.raise_link (s : State) (i : Nat) : (State.raise s i).link = s.link := rfl
@[simp] theorem State.raise_freeCount (s : State) (i : Nat) : (State.raise s i).freeCount = s.freeCount := rfl
@[simp] theorem State.raise_out (s : State) (i : Nat) : (State.raise s i).out = s.out := rfl
@[simp] theorem State.raise_pending (s : State) (i : Nat) : (State.raise s i).pending = s.pending := rfl

@[simp] theorem State.raiseInteg_build (s : State) (ldi : Nat) : (State.raiseInteg s ldi).build = s.build := rfl
@[simp] theorem State.raiseInteg_tables (s : State) (ldi : Nat) : (State.raiseInteg s ldi).tables = s.tables := rfl
@[simp] theorem State.raiseInteg_weft (s : State) (ldi : Nat) : (State.raiseInteg s ldi).weft = s.weft := rfl
@[simp] theorem State.raiseInteg_shuttle (s : State) (ldi : Nat) : (State.raiseInteg s ldi).shuttle = s.shuttle := rfl
@[simp] theorem State.raiseInteg_batten (s : State) (ldi : Nat) : (State.raiseInteg s ldi).batten = s.batten := rfl
@[simp] theorem State.raiseInteg_spindle (s : State) (ldi : Nat) : (State.raiseInteg s ldi).spindle = s.spindle := rfl
@[simp] theorem State.raiseInteg_keys (s : State) (ldi : Nat) : (State.raiseInteg s ldi).keys = s.keys := rfl
@[simp] theorem State.raiseInteg_entropy (s : State) (ldi : Nat) : (State.raiseInteg s ldi).entropy = s.entropy := rfl
@[simp] theorem State.raiseInteg_spdm (s : State) (ldi : Nat) : (State.raiseInteg s ldi).spdm = s.spdm := rfl
@[simp] theorem State.raiseInteg_metering (s : State) (ldi : Nat) : (State.raiseInteg s ldi).metering = s.metering := rfl
@[simp] theorem State.raiseInteg_time (s : State) (ldi : Nat) : (State.raiseInteg s ldi).time = s.time := rfl
@[simp] theorem State.raiseInteg_loom (s : State) (ldi : Nat) : (State.raiseInteg s ldi).loom = s.loom := rfl
@[simp] theorem State.raiseInteg_log (s : State) (ldi : Nat) : (State.raiseInteg s ldi).log = s.log := rfl
@[simp] theorem State.raiseInteg_counters (s : State) (ldi : Nat) : (State.raiseInteg s ldi).counters = s.counters := rfl
@[simp] theorem State.raiseInteg_trace (s : State) (ldi : Nat) : (State.raiseInteg s ldi).trace = s.trace := rfl
@[simp] theorem State.raiseInteg_bp (s : State) (ldi : Nat) : (State.raiseInteg s ldi).bp = s.bp := rfl
@[simp] theorem State.raiseInteg_mailbox (s : State) (ldi : Nat) : (State.raiseInteg s ldi).mailbox = s.mailbox := rfl
@[simp] theorem State.raiseInteg_otp (s : State) (ldi : Nat) : (State.raiseInteg s ldi).otp = s.otp := rfl
@[simp] theorem State.raiseInteg_power (s : State) (ldi : Nat) : (State.raiseInteg s ldi).power = s.power := rfl
@[simp] theorem State.raiseInteg_boot (s : State) (ldi : Nat) : (State.raiseInteg s ldi).boot = s.boot := rfl
@[simp] theorem State.raiseInteg_dbg (s : State) (ldi : Nat) : (State.raiseInteg s ldi).dbg = s.dbg := rfl
@[simp] theorem State.raiseInteg_baro (s : State) (ldi : Nat) : (State.raiseInteg s ldi).baro = s.baro := rfl
@[simp] theorem State.raiseInteg_link (s : State) (ldi : Nat) : (State.raiseInteg s ldi).link = s.link := rfl
@[simp] theorem State.raiseInteg_freeCount (s : State) (ldi : Nat) : (State.raiseInteg s ldi).freeCount = s.freeCount := rfl
@[simp] theorem State.raiseInteg_out (s : State) (ldi : Nat) : (State.raiseInteg s ldi).out = s.out := rfl
@[simp] theorem State.raiseInteg_pending (s : State) (ldi : Nat) : (State.raiseInteg s ldi).pending = s.pending := rfl

@[simp] theorem State.raiseAbort_build (s : State) (ldi : Nat) : (State.raiseAbort s ldi).build = s.build := rfl
@[simp] theorem State.raiseAbort_tables (s : State) (ldi : Nat) : (State.raiseAbort s ldi).tables = s.tables := rfl
@[simp] theorem State.raiseAbort_weft (s : State) (ldi : Nat) : (State.raiseAbort s ldi).weft = s.weft := rfl
@[simp] theorem State.raiseAbort_shuttle (s : State) (ldi : Nat) : (State.raiseAbort s ldi).shuttle = s.shuttle := rfl
@[simp] theorem State.raiseAbort_batten (s : State) (ldi : Nat) : (State.raiseAbort s ldi).batten = s.batten := rfl
@[simp] theorem State.raiseAbort_spindle (s : State) (ldi : Nat) : (State.raiseAbort s ldi).spindle = s.spindle := rfl
@[simp] theorem State.raiseAbort_keys (s : State) (ldi : Nat) : (State.raiseAbort s ldi).keys = s.keys := rfl
@[simp] theorem State.raiseAbort_entropy (s : State) (ldi : Nat) : (State.raiseAbort s ldi).entropy = s.entropy := rfl
@[simp] theorem State.raiseAbort_spdm (s : State) (ldi : Nat) : (State.raiseAbort s ldi).spdm = s.spdm := rfl
@[simp] theorem State.raiseAbort_metering (s : State) (ldi : Nat) : (State.raiseAbort s ldi).metering = s.metering := rfl
@[simp] theorem State.raiseAbort_time (s : State) (ldi : Nat) : (State.raiseAbort s ldi).time = s.time := rfl
@[simp] theorem State.raiseAbort_loom (s : State) (ldi : Nat) : (State.raiseAbort s ldi).loom = s.loom := rfl
@[simp] theorem State.raiseAbort_log (s : State) (ldi : Nat) : (State.raiseAbort s ldi).log = s.log := rfl
@[simp] theorem State.raiseAbort_counters (s : State) (ldi : Nat) : (State.raiseAbort s ldi).counters = s.counters := rfl
@[simp] theorem State.raiseAbort_trace (s : State) (ldi : Nat) : (State.raiseAbort s ldi).trace = s.trace := rfl
@[simp] theorem State.raiseAbort_bp (s : State) (ldi : Nat) : (State.raiseAbort s ldi).bp = s.bp := rfl
@[simp] theorem State.raiseAbort_mailbox (s : State) (ldi : Nat) : (State.raiseAbort s ldi).mailbox = s.mailbox := rfl
@[simp] theorem State.raiseAbort_otp (s : State) (ldi : Nat) : (State.raiseAbort s ldi).otp = s.otp := rfl
@[simp] theorem State.raiseAbort_power (s : State) (ldi : Nat) : (State.raiseAbort s ldi).power = s.power := rfl
@[simp] theorem State.raiseAbort_boot (s : State) (ldi : Nat) : (State.raiseAbort s ldi).boot = s.boot := rfl
@[simp] theorem State.raiseAbort_dbg (s : State) (ldi : Nat) : (State.raiseAbort s ldi).dbg = s.dbg := rfl
@[simp] theorem State.raiseAbort_baro (s : State) (ldi : Nat) : (State.raiseAbort s ldi).baro = s.baro := rfl
@[simp] theorem State.raiseAbort_link (s : State) (ldi : Nat) : (State.raiseAbort s ldi).link = s.link := rfl
@[simp] theorem State.raiseAbort_freeCount (s : State) (ldi : Nat) : (State.raiseAbort s ldi).freeCount = s.freeCount := rfl
@[simp] theorem State.raiseAbort_out (s : State) (ldi : Nat) : (State.raiseAbort s ldi).out = s.out := rfl
@[simp] theorem State.raiseAbort_pending (s : State) (ldi : Nat) : (State.raiseAbort s ldi).pending = s.pending := rfl

@[simp] theorem State.mboxWrite_build (s : State) (off : Nat) (b : Bytes) : (State.mboxWrite s off b).build = s.build := rfl
@[simp] theorem State.mboxWrite_tables (s : State) (off : Nat) (b : Bytes) : (State.mboxWrite s off b).tables = s.tables := rfl
@[simp] theorem State.mboxWrite_weft (s : State) (off : Nat) (b : Bytes) : (State.mboxWrite s off b).weft = s.weft := rfl
@[simp] theorem State.mboxWrite_shuttle (s : State) (off : Nat) (b : Bytes) : (State.mboxWrite s off b).shuttle = s.shuttle := rfl
@[simp] theorem State.mboxWrite_batten (s : State) (off : Nat) (b : Bytes) : (State.mboxWrite s off b).batten = s.batten := rfl
@[simp] theorem State.mboxWrite_spindle (s : State) (off : Nat) (b : Bytes) : (State.mboxWrite s off b).spindle = s.spindle := rfl
@[simp] theorem State.mboxWrite_keys (s : State) (off : Nat) (b : Bytes) : (State.mboxWrite s off b).keys = s.keys := rfl
@[simp] theorem State.mboxWrite_entropy (s : State) (off : Nat) (b : Bytes) : (State.mboxWrite s off b).entropy = s.entropy := rfl
@[simp] theorem State.mboxWrite_spdm (s : State) (off : Nat) (b : Bytes) : (State.mboxWrite s off b).spdm = s.spdm := rfl
@[simp] theorem State.mboxWrite_metering (s : State) (off : Nat) (b : Bytes) : (State.mboxWrite s off b).metering = s.metering := rfl
@[simp] theorem State.mboxWrite_time (s : State) (off : Nat) (b : Bytes) : (State.mboxWrite s off b).time = s.time := rfl
@[simp] theorem State.mboxWrite_loom (s : State) (off : Nat) (b : Bytes) : (State.mboxWrite s off b).loom = s.loom := rfl
@[simp] theorem State.mboxWrite_log (s : State) (off : Nat) (b : Bytes) : (State.mboxWrite s off b).log = s.log := rfl
@[simp] theorem State.mboxWrite_counters (s : State) (off : Nat) (b : Bytes) : (State.mboxWrite s off b).counters = s.counters := rfl
@[simp] theorem State.mboxWrite_trace (s : State) (off : Nat) (b : Bytes) : (State.mboxWrite s off b).trace = s.trace := rfl
@[simp] theorem State.mboxWrite_events (s : State) (off : Nat) (b : Bytes) : (State.mboxWrite s off b).events = s.events := rfl
@[simp] theorem State.mboxWrite_bp (s : State) (off : Nat) (b : Bytes) : (State.mboxWrite s off b).bp = s.bp := rfl
@[simp] theorem State.mboxWrite_otp (s : State) (off : Nat) (b : Bytes) : (State.mboxWrite s off b).otp = s.otp := rfl
@[simp] theorem State.mboxWrite_power (s : State) (off : Nat) (b : Bytes) : (State.mboxWrite s off b).power = s.power := rfl
@[simp] theorem State.mboxWrite_boot (s : State) (off : Nat) (b : Bytes) : (State.mboxWrite s off b).boot = s.boot := rfl
@[simp] theorem State.mboxWrite_dbg (s : State) (off : Nat) (b : Bytes) : (State.mboxWrite s off b).dbg = s.dbg := rfl
@[simp] theorem State.mboxWrite_baro (s : State) (off : Nat) (b : Bytes) : (State.mboxWrite s off b).baro = s.baro := rfl
@[simp] theorem State.mboxWrite_link (s : State) (off : Nat) (b : Bytes) : (State.mboxWrite s off b).link = s.link := rfl
@[simp] theorem State.mboxWrite_freeCount (s : State) (off : Nat) (b : Bytes) : (State.mboxWrite s off b).freeCount = s.freeCount := rfl
@[simp] theorem State.mboxWrite_out (s : State) (off : Nat) (b : Bytes) : (State.mboxWrite s off b).out = s.out := rfl
@[simp] theorem State.mboxWrite_pending (s : State) (off : Nat) (b : Bytes) : (State.mboxWrite s off b).pending = s.pending := rfl

@[simp] theorem State.setSlot_build (s : State) (i : Nat) (k : KeySlot) : (State.setSlot s i k).build = s.build := rfl
@[simp] theorem State.setSlot_tables (s : State) (i : Nat) (k : KeySlot) : (State.setSlot s i k).tables = s.tables := rfl
@[simp] theorem State.setSlot_weft (s : State) (i : Nat) (k : KeySlot) : (State.setSlot s i k).weft = s.weft := rfl
@[simp] theorem State.setSlot_shuttle (s : State) (i : Nat) (k : KeySlot) : (State.setSlot s i k).shuttle = s.shuttle := rfl
@[simp] theorem State.setSlot_batten (s : State) (i : Nat) (k : KeySlot) : (State.setSlot s i k).batten = s.batten := rfl
@[simp] theorem State.setSlot_spindle (s : State) (i : Nat) (k : KeySlot) : (State.setSlot s i k).spindle = s.spindle := rfl
@[simp] theorem State.setSlot_entropy (s : State) (i : Nat) (k : KeySlot) : (State.setSlot s i k).entropy = s.entropy := rfl
@[simp] theorem State.setSlot_spdm (s : State) (i : Nat) (k : KeySlot) : (State.setSlot s i k).spdm = s.spdm := rfl
@[simp] theorem State.setSlot_metering (s : State) (i : Nat) (k : KeySlot) : (State.setSlot s i k).metering = s.metering := rfl
@[simp] theorem State.setSlot_time (s : State) (i : Nat) (k : KeySlot) : (State.setSlot s i k).time = s.time := rfl
@[simp] theorem State.setSlot_loom (s : State) (i : Nat) (k : KeySlot) : (State.setSlot s i k).loom = s.loom := rfl
@[simp] theorem State.setSlot_log (s : State) (i : Nat) (k : KeySlot) : (State.setSlot s i k).log = s.log := rfl
@[simp] theorem State.setSlot_counters (s : State) (i : Nat) (k : KeySlot) : (State.setSlot s i k).counters = s.counters := rfl
@[simp] theorem State.setSlot_trace (s : State) (i : Nat) (k : KeySlot) : (State.setSlot s i k).trace = s.trace := rfl
@[simp] theorem State.setSlot_events (s : State) (i : Nat) (k : KeySlot) : (State.setSlot s i k).events = s.events := rfl
@[simp] theorem State.setSlot_bp (s : State) (i : Nat) (k : KeySlot) : (State.setSlot s i k).bp = s.bp := rfl
@[simp] theorem State.setSlot_mailbox (s : State) (i : Nat) (k : KeySlot) : (State.setSlot s i k).mailbox = s.mailbox := rfl
@[simp] theorem State.setSlot_otp (s : State) (i : Nat) (k : KeySlot) : (State.setSlot s i k).otp = s.otp := rfl
@[simp] theorem State.setSlot_power (s : State) (i : Nat) (k : KeySlot) : (State.setSlot s i k).power = s.power := rfl
@[simp] theorem State.setSlot_boot (s : State) (i : Nat) (k : KeySlot) : (State.setSlot s i k).boot = s.boot := rfl
@[simp] theorem State.setSlot_dbg (s : State) (i : Nat) (k : KeySlot) : (State.setSlot s i k).dbg = s.dbg := rfl
@[simp] theorem State.setSlot_baro (s : State) (i : Nat) (k : KeySlot) : (State.setSlot s i k).baro = s.baro := rfl
@[simp] theorem State.setSlot_link (s : State) (i : Nat) (k : KeySlot) : (State.setSlot s i k).link = s.link := rfl
@[simp] theorem State.setSlot_freeCount (s : State) (i : Nat) (k : KeySlot) : (State.setSlot s i k).freeCount = s.freeCount := rfl
@[simp] theorem State.setSlot_out (s : State) (i : Nat) (k : KeySlot) : (State.setSlot s i k).out = s.out := rfl
@[simp] theorem State.setSlot_pending (s : State) (i : Nat) (k : KeySlot) : (State.setSlot s i k).pending = s.pending := rfl

@[simp] theorem State.clearSlot_build (s : State) (i : Nat) : (State.clearSlot s i).build = s.build := rfl
@[simp] theorem State.clearSlot_tables (s : State) (i : Nat) : (State.clearSlot s i).tables = s.tables := rfl
@[simp] theorem State.clearSlot_weft (s : State) (i : Nat) : (State.clearSlot s i).weft = s.weft := rfl
@[simp] theorem State.clearSlot_shuttle (s : State) (i : Nat) : (State.clearSlot s i).shuttle = s.shuttle := rfl
@[simp] theorem State.clearSlot_batten (s : State) (i : Nat) : (State.clearSlot s i).batten = s.batten := rfl
@[simp] theorem State.clearSlot_spindle (s : State) (i : Nat) : (State.clearSlot s i).spindle = s.spindle := rfl
@[simp] theorem State.clearSlot_entropy (s : State) (i : Nat) : (State.clearSlot s i).entropy = s.entropy := rfl
@[simp] theorem State.clearSlot_spdm (s : State) (i : Nat) : (State.clearSlot s i).spdm = s.spdm := rfl
@[simp] theorem State.clearSlot_metering (s : State) (i : Nat) : (State.clearSlot s i).metering = s.metering := rfl
@[simp] theorem State.clearSlot_time (s : State) (i : Nat) : (State.clearSlot s i).time = s.time := rfl
@[simp] theorem State.clearSlot_loom (s : State) (i : Nat) : (State.clearSlot s i).loom = s.loom := rfl
@[simp] theorem State.clearSlot_log (s : State) (i : Nat) : (State.clearSlot s i).log = s.log := rfl
@[simp] theorem State.clearSlot_counters (s : State) (i : Nat) : (State.clearSlot s i).counters = s.counters := rfl
@[simp] theorem State.clearSlot_trace (s : State) (i : Nat) : (State.clearSlot s i).trace = s.trace := rfl
@[simp] theorem State.clearSlot_events (s : State) (i : Nat) : (State.clearSlot s i).events = s.events := rfl
@[simp] theorem State.clearSlot_bp (s : State) (i : Nat) : (State.clearSlot s i).bp = s.bp := rfl
@[simp] theorem State.clearSlot_mailbox (s : State) (i : Nat) : (State.clearSlot s i).mailbox = s.mailbox := rfl
@[simp] theorem State.clearSlot_otp (s : State) (i : Nat) : (State.clearSlot s i).otp = s.otp := rfl
@[simp] theorem State.clearSlot_power (s : State) (i : Nat) : (State.clearSlot s i).power = s.power := rfl
@[simp] theorem State.clearSlot_boot (s : State) (i : Nat) : (State.clearSlot s i).boot = s.boot := rfl
@[simp] theorem State.clearSlot_dbg (s : State) (i : Nat) : (State.clearSlot s i).dbg = s.dbg := rfl
@[simp] theorem State.clearSlot_baro (s : State) (i : Nat) : (State.clearSlot s i).baro = s.baro := rfl
@[simp] theorem State.clearSlot_link (s : State) (i : Nat) : (State.clearSlot s i).link = s.link := rfl
@[simp] theorem State.clearSlot_freeCount (s : State) (i : Nat) : (State.clearSlot s i).freeCount = s.freeCount := rfl
@[simp] theorem State.clearSlot_out (s : State) (i : Nat) : (State.clearSlot s i).out = s.out := rfl
@[simp] theorem State.clearSlot_pending (s : State) (i : Nat) : (State.clearSlot s i).pending = s.pending := rfl

@[simp] theorem State.setFence_build (s : State) (i : Nat) (f : Fence) : (State.setFence s i f).build = s.build := rfl
@[simp] theorem State.setFence_weft (s : State) (i : Nat) (f : Fence) : (State.setFence s i f).weft = s.weft := rfl
@[simp] theorem State.setFence_shuttle (s : State) (i : Nat) (f : Fence) : (State.setFence s i f).shuttle = s.shuttle := rfl
@[simp] theorem State.setFence_batten (s : State) (i : Nat) (f : Fence) : (State.setFence s i f).batten = s.batten := rfl
@[simp] theorem State.setFence_spindle (s : State) (i : Nat) (f : Fence) : (State.setFence s i f).spindle = s.spindle := rfl
@[simp] theorem State.setFence_keys (s : State) (i : Nat) (f : Fence) : (State.setFence s i f).keys = s.keys := rfl
@[simp] theorem State.setFence_entropy (s : State) (i : Nat) (f : Fence) : (State.setFence s i f).entropy = s.entropy := rfl
@[simp] theorem State.setFence_spdm (s : State) (i : Nat) (f : Fence) : (State.setFence s i f).spdm = s.spdm := rfl
@[simp] theorem State.setFence_metering (s : State) (i : Nat) (f : Fence) : (State.setFence s i f).metering = s.metering := rfl
@[simp] theorem State.setFence_time (s : State) (i : Nat) (f : Fence) : (State.setFence s i f).time = s.time := rfl
@[simp] theorem State.setFence_loom (s : State) (i : Nat) (f : Fence) : (State.setFence s i f).loom = s.loom := rfl
@[simp] theorem State.setFence_log (s : State) (i : Nat) (f : Fence) : (State.setFence s i f).log = s.log := rfl
@[simp] theorem State.setFence_counters (s : State) (i : Nat) (f : Fence) : (State.setFence s i f).counters = s.counters := rfl
@[simp] theorem State.setFence_trace (s : State) (i : Nat) (f : Fence) : (State.setFence s i f).trace = s.trace := rfl
@[simp] theorem State.setFence_events (s : State) (i : Nat) (f : Fence) : (State.setFence s i f).events = s.events := rfl
@[simp] theorem State.setFence_bp (s : State) (i : Nat) (f : Fence) : (State.setFence s i f).bp = s.bp := rfl
@[simp] theorem State.setFence_mailbox (s : State) (i : Nat) (f : Fence) : (State.setFence s i f).mailbox = s.mailbox := rfl
@[simp] theorem State.setFence_otp (s : State) (i : Nat) (f : Fence) : (State.setFence s i f).otp = s.otp := rfl
@[simp] theorem State.setFence_power (s : State) (i : Nat) (f : Fence) : (State.setFence s i f).power = s.power := rfl
@[simp] theorem State.setFence_boot (s : State) (i : Nat) (f : Fence) : (State.setFence s i f).boot = s.boot := rfl
@[simp] theorem State.setFence_dbg (s : State) (i : Nat) (f : Fence) : (State.setFence s i f).dbg = s.dbg := rfl
@[simp] theorem State.setFence_baro (s : State) (i : Nat) (f : Fence) : (State.setFence s i f).baro = s.baro := rfl
@[simp] theorem State.setFence_link (s : State) (i : Nat) (f : Fence) : (State.setFence s i f).link = s.link := rfl
@[simp] theorem State.setFence_freeCount (s : State) (i : Nat) (f : Fence) : (State.setFence s i f).freeCount = s.freeCount := rfl
@[simp] theorem State.setFence_out (s : State) (i : Nat) (f : Fence) : (State.setFence s i f).out = s.out := rfl
@[simp] theorem State.setFence_pending (s : State) (i : Nat) (f : Fence) : (State.setFence s i f).pending = s.pending := rfl

@[simp] theorem State.setLane_build (s : State) (n : Nat) (l : Lane) : (State.setLane s n l).build = s.build := rfl
@[simp] theorem State.setLane_tables (s : State) (n : Nat) (l : Lane) : (State.setLane s n l).tables = s.tables := rfl
@[simp] theorem State.setLane_shuttle (s : State) (n : Nat) (l : Lane) : (State.setLane s n l).shuttle = s.shuttle := rfl
@[simp] theorem State.setLane_batten (s : State) (n : Nat) (l : Lane) : (State.setLane s n l).batten = s.batten := rfl
@[simp] theorem State.setLane_spindle (s : State) (n : Nat) (l : Lane) : (State.setLane s n l).spindle = s.spindle := rfl
@[simp] theorem State.setLane_keys (s : State) (n : Nat) (l : Lane) : (State.setLane s n l).keys = s.keys := rfl
@[simp] theorem State.setLane_entropy (s : State) (n : Nat) (l : Lane) : (State.setLane s n l).entropy = s.entropy := rfl
@[simp] theorem State.setLane_spdm (s : State) (n : Nat) (l : Lane) : (State.setLane s n l).spdm = s.spdm := rfl
@[simp] theorem State.setLane_metering (s : State) (n : Nat) (l : Lane) : (State.setLane s n l).metering = s.metering := rfl
@[simp] theorem State.setLane_time (s : State) (n : Nat) (l : Lane) : (State.setLane s n l).time = s.time := rfl
@[simp] theorem State.setLane_loom (s : State) (n : Nat) (l : Lane) : (State.setLane s n l).loom = s.loom := rfl
@[simp] theorem State.setLane_log (s : State) (n : Nat) (l : Lane) : (State.setLane s n l).log = s.log := rfl
@[simp] theorem State.setLane_counters (s : State) (n : Nat) (l : Lane) : (State.setLane s n l).counters = s.counters := rfl
@[simp] theorem State.setLane_trace (s : State) (n : Nat) (l : Lane) : (State.setLane s n l).trace = s.trace := rfl
@[simp] theorem State.setLane_events (s : State) (n : Nat) (l : Lane) : (State.setLane s n l).events = s.events := rfl
@[simp] theorem State.setLane_bp (s : State) (n : Nat) (l : Lane) : (State.setLane s n l).bp = s.bp := rfl
@[simp] theorem State.setLane_mailbox (s : State) (n : Nat) (l : Lane) : (State.setLane s n l).mailbox = s.mailbox := rfl
@[simp] theorem State.setLane_otp (s : State) (n : Nat) (l : Lane) : (State.setLane s n l).otp = s.otp := rfl
@[simp] theorem State.setLane_power (s : State) (n : Nat) (l : Lane) : (State.setLane s n l).power = s.power := rfl
@[simp] theorem State.setLane_boot (s : State) (n : Nat) (l : Lane) : (State.setLane s n l).boot = s.boot := rfl
@[simp] theorem State.setLane_dbg (s : State) (n : Nat) (l : Lane) : (State.setLane s n l).dbg = s.dbg := rfl
@[simp] theorem State.setLane_baro (s : State) (n : Nat) (l : Lane) : (State.setLane s n l).baro = s.baro := rfl
@[simp] theorem State.setLane_link (s : State) (n : Nat) (l : Lane) : (State.setLane s n l).link = s.link := rfl
@[simp] theorem State.setLane_freeCount (s : State) (n : Nat) (l : Lane) : (State.setLane s n l).freeCount = s.freeCount := rfl
@[simp] theorem State.setLane_out (s : State) (n : Nat) (l : Lane) : (State.setLane s n l).out = s.out := rfl
@[simp] theorem State.setLane_pending (s : State) (n : Nat) (l : Lane) : (State.setLane s n l).pending = s.pending := rfl

@[simp] theorem State.setGot_build (s : State) (g : Nat) (e : GotEntry) : (State.setGot s g e).build = s.build := rfl
@[simp] theorem State.setGot_weft (s : State) (g : Nat) (e : GotEntry) : (State.setGot s g e).weft = s.weft := rfl
@[simp] theorem State.setGot_shuttle (s : State) (g : Nat) (e : GotEntry) : (State.setGot s g e).shuttle = s.shuttle := rfl
@[simp] theorem State.setGot_batten (s : State) (g : Nat) (e : GotEntry) : (State.setGot s g e).batten = s.batten := rfl
@[simp] theorem State.setGot_spindle (s : State) (g : Nat) (e : GotEntry) : (State.setGot s g e).spindle = s.spindle := rfl
@[simp] theorem State.setGot_keys (s : State) (g : Nat) (e : GotEntry) : (State.setGot s g e).keys = s.keys := rfl
@[simp] theorem State.setGot_entropy (s : State) (g : Nat) (e : GotEntry) : (State.setGot s g e).entropy = s.entropy := rfl
@[simp] theorem State.setGot_spdm (s : State) (g : Nat) (e : GotEntry) : (State.setGot s g e).spdm = s.spdm := rfl
@[simp] theorem State.setGot_metering (s : State) (g : Nat) (e : GotEntry) : (State.setGot s g e).metering = s.metering := rfl
@[simp] theorem State.setGot_time (s : State) (g : Nat) (e : GotEntry) : (State.setGot s g e).time = s.time := rfl
@[simp] theorem State.setGot_loom (s : State) (g : Nat) (e : GotEntry) : (State.setGot s g e).loom = s.loom := rfl
@[simp] theorem State.setGot_log (s : State) (g : Nat) (e : GotEntry) : (State.setGot s g e).log = s.log := rfl
@[simp] theorem State.setGot_counters (s : State) (g : Nat) (e : GotEntry) : (State.setGot s g e).counters = s.counters := rfl
@[simp] theorem State.setGot_trace (s : State) (g : Nat) (e : GotEntry) : (State.setGot s g e).trace = s.trace := rfl
@[simp] theorem State.setGot_events (s : State) (g : Nat) (e : GotEntry) : (State.setGot s g e).events = s.events := rfl
@[simp] theorem State.setGot_bp (s : State) (g : Nat) (e : GotEntry) : (State.setGot s g e).bp = s.bp := rfl
@[simp] theorem State.setGot_mailbox (s : State) (g : Nat) (e : GotEntry) : (State.setGot s g e).mailbox = s.mailbox := rfl
@[simp] theorem State.setGot_otp (s : State) (g : Nat) (e : GotEntry) : (State.setGot s g e).otp = s.otp := rfl
@[simp] theorem State.setGot_power (s : State) (g : Nat) (e : GotEntry) : (State.setGot s g e).power = s.power := rfl
@[simp] theorem State.setGot_boot (s : State) (g : Nat) (e : GotEntry) : (State.setGot s g e).boot = s.boot := rfl
@[simp] theorem State.setGot_dbg (s : State) (g : Nat) (e : GotEntry) : (State.setGot s g e).dbg = s.dbg := rfl
@[simp] theorem State.setGot_baro (s : State) (g : Nat) (e : GotEntry) : (State.setGot s g e).baro = s.baro := rfl
@[simp] theorem State.setGot_link (s : State) (g : Nat) (e : GotEntry) : (State.setGot s g e).link = s.link := rfl
@[simp] theorem State.setGot_freeCount (s : State) (g : Nat) (e : GotEntry) : (State.setGot s g e).freeCount = s.freeCount := rfl
@[simp] theorem State.setGot_out (s : State) (g : Nat) (e : GotEntry) : (State.setGot s g e).out = s.out := rfl
@[simp] theorem State.setGot_pending (s : State) (g : Nat) (e : GotEntry) : (State.setGot s g e).pending = s.pending := rfl

@[simp] theorem State.setSa_build (s : State) (peer : Nat) (a : Sa) : (State.setSa s peer a).build = s.build := rfl
@[simp] theorem State.setSa_tables (s : State) (peer : Nat) (a : Sa) : (State.setSa s peer a).tables = s.tables := rfl
@[simp] theorem State.setSa_weft (s : State) (peer : Nat) (a : Sa) : (State.setSa s peer a).weft = s.weft := rfl
@[simp] theorem State.setSa_batten (s : State) (peer : Nat) (a : Sa) : (State.setSa s peer a).batten = s.batten := rfl
@[simp] theorem State.setSa_spindle (s : State) (peer : Nat) (a : Sa) : (State.setSa s peer a).spindle = s.spindle := rfl
@[simp] theorem State.setSa_keys (s : State) (peer : Nat) (a : Sa) : (State.setSa s peer a).keys = s.keys := rfl
@[simp] theorem State.setSa_entropy (s : State) (peer : Nat) (a : Sa) : (State.setSa s peer a).entropy = s.entropy := rfl
@[simp] theorem State.setSa_spdm (s : State) (peer : Nat) (a : Sa) : (State.setSa s peer a).spdm = s.spdm := rfl
@[simp] theorem State.setSa_metering (s : State) (peer : Nat) (a : Sa) : (State.setSa s peer a).metering = s.metering := rfl
@[simp] theorem State.setSa_time (s : State) (peer : Nat) (a : Sa) : (State.setSa s peer a).time = s.time := rfl
@[simp] theorem State.setSa_loom (s : State) (peer : Nat) (a : Sa) : (State.setSa s peer a).loom = s.loom := rfl
@[simp] theorem State.setSa_log (s : State) (peer : Nat) (a : Sa) : (State.setSa s peer a).log = s.log := rfl
@[simp] theorem State.setSa_counters (s : State) (peer : Nat) (a : Sa) : (State.setSa s peer a).counters = s.counters := rfl
@[simp] theorem State.setSa_trace (s : State) (peer : Nat) (a : Sa) : (State.setSa s peer a).trace = s.trace := rfl
@[simp] theorem State.setSa_events (s : State) (peer : Nat) (a : Sa) : (State.setSa s peer a).events = s.events := rfl
@[simp] theorem State.setSa_bp (s : State) (peer : Nat) (a : Sa) : (State.setSa s peer a).bp = s.bp := rfl
@[simp] theorem State.setSa_mailbox (s : State) (peer : Nat) (a : Sa) : (State.setSa s peer a).mailbox = s.mailbox := rfl
@[simp] theorem State.setSa_otp (s : State) (peer : Nat) (a : Sa) : (State.setSa s peer a).otp = s.otp := rfl
@[simp] theorem State.setSa_power (s : State) (peer : Nat) (a : Sa) : (State.setSa s peer a).power = s.power := rfl
@[simp] theorem State.setSa_boot (s : State) (peer : Nat) (a : Sa) : (State.setSa s peer a).boot = s.boot := rfl
@[simp] theorem State.setSa_dbg (s : State) (peer : Nat) (a : Sa) : (State.setSa s peer a).dbg = s.dbg := rfl
@[simp] theorem State.setSa_baro (s : State) (peer : Nat) (a : Sa) : (State.setSa s peer a).baro = s.baro := rfl
@[simp] theorem State.setSa_link (s : State) (peer : Nat) (a : Sa) : (State.setSa s peer a).link = s.link := rfl
@[simp] theorem State.setSa_freeCount (s : State) (peer : Nat) (a : Sa) : (State.setSa s peer a).freeCount = s.freeCount := rfl
@[simp] theorem State.setSa_out (s : State) (peer : Nat) (a : Sa) : (State.setSa s peer a).out = s.out := rfl
@[simp] theorem State.setSa_pending (s : State) (peer : Nat) (a : Sa) : (State.setSa s peer a).pending = s.pending := rfl

@[simp] theorem State.setGroup_build (s : State) (k : Nat) (g : Group) : (State.setGroup s k g).build = s.build := rfl
@[simp] theorem State.setGroup_tables (s : State) (k : Nat) (g : Group) : (State.setGroup s k g).tables = s.tables := rfl
@[simp] theorem State.setGroup_weft (s : State) (k : Nat) (g : Group) : (State.setGroup s k g).weft = s.weft := rfl
@[simp] theorem State.setGroup_batten (s : State) (k : Nat) (g : Group) : (State.setGroup s k g).batten = s.batten := rfl
@[simp] theorem State.setGroup_spindle (s : State) (k : Nat) (g : Group) : (State.setGroup s k g).spindle = s.spindle := rfl
@[simp] theorem State.setGroup_keys (s : State) (k : Nat) (g : Group) : (State.setGroup s k g).keys = s.keys := rfl
@[simp] theorem State.setGroup_entropy (s : State) (k : Nat) (g : Group) : (State.setGroup s k g).entropy = s.entropy := rfl
@[simp] theorem State.setGroup_spdm (s : State) (k : Nat) (g : Group) : (State.setGroup s k g).spdm = s.spdm := rfl
@[simp] theorem State.setGroup_metering (s : State) (k : Nat) (g : Group) : (State.setGroup s k g).metering = s.metering := rfl
@[simp] theorem State.setGroup_time (s : State) (k : Nat) (g : Group) : (State.setGroup s k g).time = s.time := rfl
@[simp] theorem State.setGroup_loom (s : State) (k : Nat) (g : Group) : (State.setGroup s k g).loom = s.loom := rfl
@[simp] theorem State.setGroup_log (s : State) (k : Nat) (g : Group) : (State.setGroup s k g).log = s.log := rfl
@[simp] theorem State.setGroup_counters (s : State) (k : Nat) (g : Group) : (State.setGroup s k g).counters = s.counters := rfl
@[simp] theorem State.setGroup_trace (s : State) (k : Nat) (g : Group) : (State.setGroup s k g).trace = s.trace := rfl
@[simp] theorem State.setGroup_events (s : State) (k : Nat) (g : Group) : (State.setGroup s k g).events = s.events := rfl
@[simp] theorem State.setGroup_bp (s : State) (k : Nat) (g : Group) : (State.setGroup s k g).bp = s.bp := rfl
@[simp] theorem State.setGroup_mailbox (s : State) (k : Nat) (g : Group) : (State.setGroup s k g).mailbox = s.mailbox := rfl
@[simp] theorem State.setGroup_otp (s : State) (k : Nat) (g : Group) : (State.setGroup s k g).otp = s.otp := rfl
@[simp] theorem State.setGroup_power (s : State) (k : Nat) (g : Group) : (State.setGroup s k g).power = s.power := rfl
@[simp] theorem State.setGroup_boot (s : State) (k : Nat) (g : Group) : (State.setGroup s k g).boot = s.boot := rfl
@[simp] theorem State.setGroup_dbg (s : State) (k : Nat) (g : Group) : (State.setGroup s k g).dbg = s.dbg := rfl
@[simp] theorem State.setGroup_baro (s : State) (k : Nat) (g : Group) : (State.setGroup s k g).baro = s.baro := rfl
@[simp] theorem State.setGroup_link (s : State) (k : Nat) (g : Group) : (State.setGroup s k g).link = s.link := rfl
@[simp] theorem State.setGroup_freeCount (s : State) (k : Nat) (g : Group) : (State.setGroup s k g).freeCount = s.freeCount := rfl
@[simp] theorem State.setGroup_out (s : State) (k : Nat) (g : Group) : (State.setGroup s k g).out = s.out := rfl
@[simp] theorem State.setGroup_pending (s : State) (k : Nat) (g : Group) : (State.setGroup s k g).pending = s.pending := rfl

@[simp] theorem State.setEngine_build (s : State) (n : Nat) (e : Engine) : (State.setEngine s n e).build = s.build := rfl
@[simp] theorem State.setEngine_tables (s : State) (n : Nat) (e : Engine) : (State.setEngine s n e).tables = s.tables := rfl
@[simp] theorem State.setEngine_weft (s : State) (n : Nat) (e : Engine) : (State.setEngine s n e).weft = s.weft := rfl
@[simp] theorem State.setEngine_batten (s : State) (n : Nat) (e : Engine) : (State.setEngine s n e).batten = s.batten := rfl
@[simp] theorem State.setEngine_spindle (s : State) (n : Nat) (e : Engine) : (State.setEngine s n e).spindle = s.spindle := rfl
@[simp] theorem State.setEngine_keys (s : State) (n : Nat) (e : Engine) : (State.setEngine s n e).keys = s.keys := rfl
@[simp] theorem State.setEngine_entropy (s : State) (n : Nat) (e : Engine) : (State.setEngine s n e).entropy = s.entropy := rfl
@[simp] theorem State.setEngine_spdm (s : State) (n : Nat) (e : Engine) : (State.setEngine s n e).spdm = s.spdm := rfl
@[simp] theorem State.setEngine_metering (s : State) (n : Nat) (e : Engine) : (State.setEngine s n e).metering = s.metering := rfl
@[simp] theorem State.setEngine_time (s : State) (n : Nat) (e : Engine) : (State.setEngine s n e).time = s.time := rfl
@[simp] theorem State.setEngine_loom (s : State) (n : Nat) (e : Engine) : (State.setEngine s n e).loom = s.loom := rfl
@[simp] theorem State.setEngine_log (s : State) (n : Nat) (e : Engine) : (State.setEngine s n e).log = s.log := rfl
@[simp] theorem State.setEngine_counters (s : State) (n : Nat) (e : Engine) : (State.setEngine s n e).counters = s.counters := rfl
@[simp] theorem State.setEngine_trace (s : State) (n : Nat) (e : Engine) : (State.setEngine s n e).trace = s.trace := rfl
@[simp] theorem State.setEngine_events (s : State) (n : Nat) (e : Engine) : (State.setEngine s n e).events = s.events := rfl
@[simp] theorem State.setEngine_bp (s : State) (n : Nat) (e : Engine) : (State.setEngine s n e).bp = s.bp := rfl
@[simp] theorem State.setEngine_mailbox (s : State) (n : Nat) (e : Engine) : (State.setEngine s n e).mailbox = s.mailbox := rfl
@[simp] theorem State.setEngine_otp (s : State) (n : Nat) (e : Engine) : (State.setEngine s n e).otp = s.otp := rfl
@[simp] theorem State.setEngine_power (s : State) (n : Nat) (e : Engine) : (State.setEngine s n e).power = s.power := rfl
@[simp] theorem State.setEngine_boot (s : State) (n : Nat) (e : Engine) : (State.setEngine s n e).boot = s.boot := rfl
@[simp] theorem State.setEngine_dbg (s : State) (n : Nat) (e : Engine) : (State.setEngine s n e).dbg = s.dbg := rfl
@[simp] theorem State.setEngine_baro (s : State) (n : Nat) (e : Engine) : (State.setEngine s n e).baro = s.baro := rfl
@[simp] theorem State.setEngine_link (s : State) (n : Nat) (e : Engine) : (State.setEngine s n e).link = s.link := rfl
@[simp] theorem State.setEngine_freeCount (s : State) (n : Nat) (e : Engine) : (State.setEngine s n e).freeCount = s.freeCount := rfl
@[simp] theorem State.setEngine_out (s : State) (n : Nat) (e : Engine) : (State.setEngine s n e).out = s.out := rfl
@[simp] theorem State.setEngine_pending (s : State) (n : Nat) (e : Engine) : (State.setEngine s n e).pending = s.pending := rfl

@[simp] theorem State.setUnit_build (s : State) (u : Nat) (b : BUnit) : (State.setUnit s u b).build = s.build := rfl
@[simp] theorem State.setUnit_tables (s : State) (u : Nat) (b : BUnit) : (State.setUnit s u b).tables = s.tables := rfl
@[simp] theorem State.setUnit_weft (s : State) (u : Nat) (b : BUnit) : (State.setUnit s u b).weft = s.weft := rfl
@[simp] theorem State.setUnit_shuttle (s : State) (u : Nat) (b : BUnit) : (State.setUnit s u b).shuttle = s.shuttle := rfl
@[simp] theorem State.setUnit_spindle (s : State) (u : Nat) (b : BUnit) : (State.setUnit s u b).spindle = s.spindle := rfl
@[simp] theorem State.setUnit_keys (s : State) (u : Nat) (b : BUnit) : (State.setUnit s u b).keys = s.keys := rfl
@[simp] theorem State.setUnit_entropy (s : State) (u : Nat) (b : BUnit) : (State.setUnit s u b).entropy = s.entropy := rfl
@[simp] theorem State.setUnit_spdm (s : State) (u : Nat) (b : BUnit) : (State.setUnit s u b).spdm = s.spdm := rfl
@[simp] theorem State.setUnit_metering (s : State) (u : Nat) (b : BUnit) : (State.setUnit s u b).metering = s.metering := rfl
@[simp] theorem State.setUnit_time (s : State) (u : Nat) (b : BUnit) : (State.setUnit s u b).time = s.time := rfl
@[simp] theorem State.setUnit_loom (s : State) (u : Nat) (b : BUnit) : (State.setUnit s u b).loom = s.loom := rfl
@[simp] theorem State.setUnit_log (s : State) (u : Nat) (b : BUnit) : (State.setUnit s u b).log = s.log := rfl
@[simp] theorem State.setUnit_counters (s : State) (u : Nat) (b : BUnit) : (State.setUnit s u b).counters = s.counters := rfl
@[simp] theorem State.setUnit_trace (s : State) (u : Nat) (b : BUnit) : (State.setUnit s u b).trace = s.trace := rfl
@[simp] theorem State.setUnit_events (s : State) (u : Nat) (b : BUnit) : (State.setUnit s u b).events = s.events := rfl
@[simp] theorem State.setUnit_bp (s : State) (u : Nat) (b : BUnit) : (State.setUnit s u b).bp = s.bp := rfl
@[simp] theorem State.setUnit_mailbox (s : State) (u : Nat) (b : BUnit) : (State.setUnit s u b).mailbox = s.mailbox := rfl
@[simp] theorem State.setUnit_otp (s : State) (u : Nat) (b : BUnit) : (State.setUnit s u b).otp = s.otp := rfl
@[simp] theorem State.setUnit_power (s : State) (u : Nat) (b : BUnit) : (State.setUnit s u b).power = s.power := rfl
@[simp] theorem State.setUnit_boot (s : State) (u : Nat) (b : BUnit) : (State.setUnit s u b).boot = s.boot := rfl
@[simp] theorem State.setUnit_dbg (s : State) (u : Nat) (b : BUnit) : (State.setUnit s u b).dbg = s.dbg := rfl
@[simp] theorem State.setUnit_baro (s : State) (u : Nat) (b : BUnit) : (State.setUnit s u b).baro = s.baro := rfl
@[simp] theorem State.setUnit_link (s : State) (u : Nat) (b : BUnit) : (State.setUnit s u b).link = s.link := rfl
@[simp] theorem State.setUnit_freeCount (s : State) (u : Nat) (b : BUnit) : (State.setUnit s u b).freeCount = s.freeCount := rfl
@[simp] theorem State.setUnit_out (s : State) (u : Nat) (b : BUnit) : (State.setUnit s u b).out = s.out := rfl
@[simp] theorem State.setUnit_pending (s : State) (u : Nat) (b : BUnit) : (State.setUnit s u b).pending = s.pending := rfl

@[simp] theorem State.setWindow_build (s : State) (w : Nat) (x : RedWindow) : (State.setWindow s w x).build = s.build := rfl
@[simp] theorem State.setWindow_tables (s : State) (w : Nat) (x : RedWindow) : (State.setWindow s w x).tables = s.tables := rfl
@[simp] theorem State.setWindow_weft (s : State) (w : Nat) (x : RedWindow) : (State.setWindow s w x).weft = s.weft := rfl
@[simp] theorem State.setWindow_shuttle (s : State) (w : Nat) (x : RedWindow) : (State.setWindow s w x).shuttle = s.shuttle := rfl
@[simp] theorem State.setWindow_spindle (s : State) (w : Nat) (x : RedWindow) : (State.setWindow s w x).spindle = s.spindle := rfl
@[simp] theorem State.setWindow_keys (s : State) (w : Nat) (x : RedWindow) : (State.setWindow s w x).keys = s.keys := rfl
@[simp] theorem State.setWindow_entropy (s : State) (w : Nat) (x : RedWindow) : (State.setWindow s w x).entropy = s.entropy := rfl
@[simp] theorem State.setWindow_spdm (s : State) (w : Nat) (x : RedWindow) : (State.setWindow s w x).spdm = s.spdm := rfl
@[simp] theorem State.setWindow_metering (s : State) (w : Nat) (x : RedWindow) : (State.setWindow s w x).metering = s.metering := rfl
@[simp] theorem State.setWindow_time (s : State) (w : Nat) (x : RedWindow) : (State.setWindow s w x).time = s.time := rfl
@[simp] theorem State.setWindow_loom (s : State) (w : Nat) (x : RedWindow) : (State.setWindow s w x).loom = s.loom := rfl
@[simp] theorem State.setWindow_log (s : State) (w : Nat) (x : RedWindow) : (State.setWindow s w x).log = s.log := rfl
@[simp] theorem State.setWindow_counters (s : State) (w : Nat) (x : RedWindow) : (State.setWindow s w x).counters = s.counters := rfl
@[simp] theorem State.setWindow_trace (s : State) (w : Nat) (x : RedWindow) : (State.setWindow s w x).trace = s.trace := rfl
@[simp] theorem State.setWindow_events (s : State) (w : Nat) (x : RedWindow) : (State.setWindow s w x).events = s.events := rfl
@[simp] theorem State.setWindow_bp (s : State) (w : Nat) (x : RedWindow) : (State.setWindow s w x).bp = s.bp := rfl
@[simp] theorem State.setWindow_mailbox (s : State) (w : Nat) (x : RedWindow) : (State.setWindow s w x).mailbox = s.mailbox := rfl
@[simp] theorem State.setWindow_otp (s : State) (w : Nat) (x : RedWindow) : (State.setWindow s w x).otp = s.otp := rfl
@[simp] theorem State.setWindow_power (s : State) (w : Nat) (x : RedWindow) : (State.setWindow s w x).power = s.power := rfl
@[simp] theorem State.setWindow_boot (s : State) (w : Nat) (x : RedWindow) : (State.setWindow s w x).boot = s.boot := rfl
@[simp] theorem State.setWindow_dbg (s : State) (w : Nat) (x : RedWindow) : (State.setWindow s w x).dbg = s.dbg := rfl
@[simp] theorem State.setWindow_baro (s : State) (w : Nat) (x : RedWindow) : (State.setWindow s w x).baro = s.baro := rfl
@[simp] theorem State.setWindow_link (s : State) (w : Nat) (x : RedWindow) : (State.setWindow s w x).link = s.link := rfl
@[simp] theorem State.setWindow_freeCount (s : State) (w : Nat) (x : RedWindow) : (State.setWindow s w x).freeCount = s.freeCount := rfl
@[simp] theorem State.setWindow_out (s : State) (w : Nat) (x : RedWindow) : (State.setWindow s w x).out = s.out := rfl
@[simp] theorem State.setWindow_pending (s : State) (w : Nat) (x : RedWindow) : (State.setWindow s w x).pending = s.pending := rfl

@[simp] theorem State.setPulls_build (s : State) (port : Nat) (ps : List Pull) : (State.setPulls s port ps).build = s.build := rfl
@[simp] theorem State.setPulls_tables (s : State) (port : Nat) (ps : List Pull) : (State.setPulls s port ps).tables = s.tables := rfl
@[simp] theorem State.setPulls_weft (s : State) (port : Nat) (ps : List Pull) : (State.setPulls s port ps).weft = s.weft := rfl
@[simp] theorem State.setPulls_shuttle (s : State) (port : Nat) (ps : List Pull) : (State.setPulls s port ps).shuttle = s.shuttle := rfl
@[simp] theorem State.setPulls_batten (s : State) (port : Nat) (ps : List Pull) : (State.setPulls s port ps).batten = s.batten := rfl
@[simp] theorem State.setPulls_keys (s : State) (port : Nat) (ps : List Pull) : (State.setPulls s port ps).keys = s.keys := rfl
@[simp] theorem State.setPulls_entropy (s : State) (port : Nat) (ps : List Pull) : (State.setPulls s port ps).entropy = s.entropy := rfl
@[simp] theorem State.setPulls_spdm (s : State) (port : Nat) (ps : List Pull) : (State.setPulls s port ps).spdm = s.spdm := rfl
@[simp] theorem State.setPulls_metering (s : State) (port : Nat) (ps : List Pull) : (State.setPulls s port ps).metering = s.metering := rfl
@[simp] theorem State.setPulls_time (s : State) (port : Nat) (ps : List Pull) : (State.setPulls s port ps).time = s.time := rfl
@[simp] theorem State.setPulls_loom (s : State) (port : Nat) (ps : List Pull) : (State.setPulls s port ps).loom = s.loom := rfl
@[simp] theorem State.setPulls_log (s : State) (port : Nat) (ps : List Pull) : (State.setPulls s port ps).log = s.log := rfl
@[simp] theorem State.setPulls_counters (s : State) (port : Nat) (ps : List Pull) : (State.setPulls s port ps).counters = s.counters := rfl
@[simp] theorem State.setPulls_trace (s : State) (port : Nat) (ps : List Pull) : (State.setPulls s port ps).trace = s.trace := rfl
@[simp] theorem State.setPulls_events (s : State) (port : Nat) (ps : List Pull) : (State.setPulls s port ps).events = s.events := rfl
@[simp] theorem State.setPulls_bp (s : State) (port : Nat) (ps : List Pull) : (State.setPulls s port ps).bp = s.bp := rfl
@[simp] theorem State.setPulls_mailbox (s : State) (port : Nat) (ps : List Pull) : (State.setPulls s port ps).mailbox = s.mailbox := rfl
@[simp] theorem State.setPulls_otp (s : State) (port : Nat) (ps : List Pull) : (State.setPulls s port ps).otp = s.otp := rfl
@[simp] theorem State.setPulls_power (s : State) (port : Nat) (ps : List Pull) : (State.setPulls s port ps).power = s.power := rfl
@[simp] theorem State.setPulls_boot (s : State) (port : Nat) (ps : List Pull) : (State.setPulls s port ps).boot = s.boot := rfl
@[simp] theorem State.setPulls_dbg (s : State) (port : Nat) (ps : List Pull) : (State.setPulls s port ps).dbg = s.dbg := rfl
@[simp] theorem State.setPulls_baro (s : State) (port : Nat) (ps : List Pull) : (State.setPulls s port ps).baro = s.baro := rfl
@[simp] theorem State.setPulls_link (s : State) (port : Nat) (ps : List Pull) : (State.setPulls s port ps).link = s.link := rfl
@[simp] theorem State.setPulls_freeCount (s : State) (port : Nat) (ps : List Pull) : (State.setPulls s port ps).freeCount = s.freeCount := rfl
@[simp] theorem State.setPulls_out (s : State) (port : Nat) (ps : List Pull) : (State.setPulls s port ps).out = s.out := rfl
@[simp] theorem State.setPulls_pending (s : State) (port : Nat) (ps : List Pull) : (State.setPulls s port ps).pending = s.pending := rfl

@[simp] theorem State.setRing_build (s : State) (i : Nat) (r : Ring) : (State.setRing s i r).build = s.build := rfl
@[simp] theorem State.setRing_tables (s : State) (i : Nat) (r : Ring) : (State.setRing s i r).tables = s.tables := rfl
@[simp] theorem State.setRing_weft (s : State) (i : Nat) (r : Ring) : (State.setRing s i r).weft = s.weft := rfl
@[simp] theorem State.setRing_shuttle (s : State) (i : Nat) (r : Ring) : (State.setRing s i r).shuttle = s.shuttle := rfl
@[simp] theorem State.setRing_batten (s : State) (i : Nat) (r : Ring) : (State.setRing s i r).batten = s.batten := rfl
@[simp] theorem State.setRing_spindle (s : State) (i : Nat) (r : Ring) : (State.setRing s i r).spindle = s.spindle := rfl
@[simp] theorem State.setRing_keys (s : State) (i : Nat) (r : Ring) : (State.setRing s i r).keys = s.keys := rfl
@[simp] theorem State.setRing_entropy (s : State) (i : Nat) (r : Ring) : (State.setRing s i r).entropy = s.entropy := rfl
@[simp] theorem State.setRing_spdm (s : State) (i : Nat) (r : Ring) : (State.setRing s i r).spdm = s.spdm := rfl
@[simp] theorem State.setRing_metering (s : State) (i : Nat) (r : Ring) : (State.setRing s i r).metering = s.metering := rfl
@[simp] theorem State.setRing_time (s : State) (i : Nat) (r : Ring) : (State.setRing s i r).time = s.time := rfl
@[simp] theorem State.setRing_log (s : State) (i : Nat) (r : Ring) : (State.setRing s i r).log = s.log := rfl
@[simp] theorem State.setRing_counters (s : State) (i : Nat) (r : Ring) : (State.setRing s i r).counters = s.counters := rfl
@[simp] theorem State.setRing_trace (s : State) (i : Nat) (r : Ring) : (State.setRing s i r).trace = s.trace := rfl
@[simp] theorem State.setRing_events (s : State) (i : Nat) (r : Ring) : (State.setRing s i r).events = s.events := rfl
@[simp] theorem State.setRing_bp (s : State) (i : Nat) (r : Ring) : (State.setRing s i r).bp = s.bp := rfl
@[simp] theorem State.setRing_mailbox (s : State) (i : Nat) (r : Ring) : (State.setRing s i r).mailbox = s.mailbox := rfl
@[simp] theorem State.setRing_otp (s : State) (i : Nat) (r : Ring) : (State.setRing s i r).otp = s.otp := rfl
@[simp] theorem State.setRing_power (s : State) (i : Nat) (r : Ring) : (State.setRing s i r).power = s.power := rfl
@[simp] theorem State.setRing_boot (s : State) (i : Nat) (r : Ring) : (State.setRing s i r).boot = s.boot := rfl
@[simp] theorem State.setRing_dbg (s : State) (i : Nat) (r : Ring) : (State.setRing s i r).dbg = s.dbg := rfl
@[simp] theorem State.setRing_baro (s : State) (i : Nat) (r : Ring) : (State.setRing s i r).baro = s.baro := rfl
@[simp] theorem State.setRing_link (s : State) (i : Nat) (r : Ring) : (State.setRing s i r).link = s.link := rfl
@[simp] theorem State.setRing_freeCount (s : State) (i : Nat) (r : Ring) : (State.setRing s i r).freeCount = s.freeCount := rfl
@[simp] theorem State.setRing_out (s : State) (i : Nat) (r : Ring) : (State.setRing s i r).out = s.out := rfl
@[simp] theorem State.setRing_pending (s : State) (i : Nat) (r : Ring) : (State.setRing s i r).pending = s.pending := rfl

@[simp] theorem State.setSession_build (s : State) (sid : Nat) (x : Session) : (State.setSession s sid x).build = s.build := rfl
@[simp] theorem State.setSession_tables (s : State) (sid : Nat) (x : Session) : (State.setSession s sid x).tables = s.tables := rfl
@[simp] theorem State.setSession_weft (s : State) (sid : Nat) (x : Session) : (State.setSession s sid x).weft = s.weft := rfl
@[simp] theorem State.setSession_shuttle (s : State) (sid : Nat) (x : Session) : (State.setSession s sid x).shuttle = s.shuttle := rfl
@[simp] theorem State.setSession_batten (s : State) (sid : Nat) (x : Session) : (State.setSession s sid x).batten = s.batten := rfl
@[simp] theorem State.setSession_spindle (s : State) (sid : Nat) (x : Session) : (State.setSession s sid x).spindle = s.spindle := rfl
@[simp] theorem State.setSession_keys (s : State) (sid : Nat) (x : Session) : (State.setSession s sid x).keys = s.keys := rfl
@[simp] theorem State.setSession_entropy (s : State) (sid : Nat) (x : Session) : (State.setSession s sid x).entropy = s.entropy := rfl
@[simp] theorem State.setSession_metering (s : State) (sid : Nat) (x : Session) : (State.setSession s sid x).metering = s.metering := rfl
@[simp] theorem State.setSession_time (s : State) (sid : Nat) (x : Session) : (State.setSession s sid x).time = s.time := rfl
@[simp] theorem State.setSession_loom (s : State) (sid : Nat) (x : Session) : (State.setSession s sid x).loom = s.loom := rfl
@[simp] theorem State.setSession_log (s : State) (sid : Nat) (x : Session) : (State.setSession s sid x).log = s.log := rfl
@[simp] theorem State.setSession_counters (s : State) (sid : Nat) (x : Session) : (State.setSession s sid x).counters = s.counters := rfl
@[simp] theorem State.setSession_trace (s : State) (sid : Nat) (x : Session) : (State.setSession s sid x).trace = s.trace := rfl
@[simp] theorem State.setSession_events (s : State) (sid : Nat) (x : Session) : (State.setSession s sid x).events = s.events := rfl
@[simp] theorem State.setSession_bp (s : State) (sid : Nat) (x : Session) : (State.setSession s sid x).bp = s.bp := rfl
@[simp] theorem State.setSession_mailbox (s : State) (sid : Nat) (x : Session) : (State.setSession s sid x).mailbox = s.mailbox := rfl
@[simp] theorem State.setSession_otp (s : State) (sid : Nat) (x : Session) : (State.setSession s sid x).otp = s.otp := rfl
@[simp] theorem State.setSession_power (s : State) (sid : Nat) (x : Session) : (State.setSession s sid x).power = s.power := rfl
@[simp] theorem State.setSession_boot (s : State) (sid : Nat) (x : Session) : (State.setSession s sid x).boot = s.boot := rfl
@[simp] theorem State.setSession_dbg (s : State) (sid : Nat) (x : Session) : (State.setSession s sid x).dbg = s.dbg := rfl
@[simp] theorem State.setSession_baro (s : State) (sid : Nat) (x : Session) : (State.setSession s sid x).baro = s.baro := rfl
@[simp] theorem State.setSession_link (s : State) (sid : Nat) (x : Session) : (State.setSession s sid x).link = s.link := rfl
@[simp] theorem State.setSession_freeCount (s : State) (sid : Nat) (x : Session) : (State.setSession s sid x).freeCount = s.freeCount := rfl
@[simp] theorem State.setSession_out (s : State) (sid : Nat) (x : Session) : (State.setSession s sid x).out = s.out := rfl
@[simp] theorem State.setSession_pending (s : State) (sid : Nat) (x : Session) : (State.setSession s sid x).pending = s.pending := rfl

@[simp] theorem State.setConn_build (s : State) (c : Conn) (x : SpdmConn) : (State.setConn s c x).build = s.build := rfl
@[simp] theorem State.setConn_tables (s : State) (c : Conn) (x : SpdmConn) : (State.setConn s c x).tables = s.tables := rfl
@[simp] theorem State.setConn_weft (s : State) (c : Conn) (x : SpdmConn) : (State.setConn s c x).weft = s.weft := rfl
@[simp] theorem State.setConn_shuttle (s : State) (c : Conn) (x : SpdmConn) : (State.setConn s c x).shuttle = s.shuttle := rfl
@[simp] theorem State.setConn_batten (s : State) (c : Conn) (x : SpdmConn) : (State.setConn s c x).batten = s.batten := rfl
@[simp] theorem State.setConn_spindle (s : State) (c : Conn) (x : SpdmConn) : (State.setConn s c x).spindle = s.spindle := rfl
@[simp] theorem State.setConn_keys (s : State) (c : Conn) (x : SpdmConn) : (State.setConn s c x).keys = s.keys := rfl
@[simp] theorem State.setConn_entropy (s : State) (c : Conn) (x : SpdmConn) : (State.setConn s c x).entropy = s.entropy := rfl
@[simp] theorem State.setConn_metering (s : State) (c : Conn) (x : SpdmConn) : (State.setConn s c x).metering = s.metering := rfl
@[simp] theorem State.setConn_time (s : State) (c : Conn) (x : SpdmConn) : (State.setConn s c x).time = s.time := rfl
@[simp] theorem State.setConn_loom (s : State) (c : Conn) (x : SpdmConn) : (State.setConn s c x).loom = s.loom := rfl
@[simp] theorem State.setConn_log (s : State) (c : Conn) (x : SpdmConn) : (State.setConn s c x).log = s.log := rfl
@[simp] theorem State.setConn_counters (s : State) (c : Conn) (x : SpdmConn) : (State.setConn s c x).counters = s.counters := rfl
@[simp] theorem State.setConn_trace (s : State) (c : Conn) (x : SpdmConn) : (State.setConn s c x).trace = s.trace := rfl
@[simp] theorem State.setConn_events (s : State) (c : Conn) (x : SpdmConn) : (State.setConn s c x).events = s.events := rfl
@[simp] theorem State.setConn_bp (s : State) (c : Conn) (x : SpdmConn) : (State.setConn s c x).bp = s.bp := rfl
@[simp] theorem State.setConn_mailbox (s : State) (c : Conn) (x : SpdmConn) : (State.setConn s c x).mailbox = s.mailbox := rfl
@[simp] theorem State.setConn_otp (s : State) (c : Conn) (x : SpdmConn) : (State.setConn s c x).otp = s.otp := rfl
@[simp] theorem State.setConn_power (s : State) (c : Conn) (x : SpdmConn) : (State.setConn s c x).power = s.power := rfl
@[simp] theorem State.setConn_boot (s : State) (c : Conn) (x : SpdmConn) : (State.setConn s c x).boot = s.boot := rfl
@[simp] theorem State.setConn_dbg (s : State) (c : Conn) (x : SpdmConn) : (State.setConn s c x).dbg = s.dbg := rfl
@[simp] theorem State.setConn_baro (s : State) (c : Conn) (x : SpdmConn) : (State.setConn s c x).baro = s.baro := rfl
@[simp] theorem State.setConn_link (s : State) (c : Conn) (x : SpdmConn) : (State.setConn s c x).link = s.link := rfl
@[simp] theorem State.setConn_freeCount (s : State) (c : Conn) (x : SpdmConn) : (State.setConn s c x).freeCount = s.freeCount := rfl
@[simp] theorem State.setConn_out (s : State) (c : Conn) (x : SpdmConn) : (State.setConn s c x).out = s.out := rfl
@[simp] theorem State.setConn_pending (s : State) (c : Conn) (x : SpdmConn) : (State.setConn s c x).pending = s.pending := rfl

@[simp] theorem State.setEntry_build (s : State) (e : JEntry) : (State.setEntry s e).build = s.build := rfl
@[simp] theorem State.setEntry_tables (s : State) (e : JEntry) : (State.setEntry s e).tables = s.tables := rfl
@[simp] theorem State.setEntry_weft (s : State) (e : JEntry) : (State.setEntry s e).weft = s.weft := rfl
@[simp] theorem State.setEntry_shuttle (s : State) (e : JEntry) : (State.setEntry s e).shuttle = s.shuttle := rfl
@[simp] theorem State.setEntry_batten (s : State) (e : JEntry) : (State.setEntry s e).batten = s.batten := rfl
@[simp] theorem State.setEntry_spindle (s : State) (e : JEntry) : (State.setEntry s e).spindle = s.spindle := rfl
@[simp] theorem State.setEntry_keys (s : State) (e : JEntry) : (State.setEntry s e).keys = s.keys := rfl
@[simp] theorem State.setEntry_entropy (s : State) (e : JEntry) : (State.setEntry s e).entropy = s.entropy := rfl
@[simp] theorem State.setEntry_spdm (s : State) (e : JEntry) : (State.setEntry s e).spdm = s.spdm := rfl
@[simp] theorem State.setEntry_metering (s : State) (e : JEntry) : (State.setEntry s e).metering = s.metering := rfl
@[simp] theorem State.setEntry_time (s : State) (e : JEntry) : (State.setEntry s e).time = s.time := rfl
@[simp] theorem State.setEntry_log (s : State) (e : JEntry) : (State.setEntry s e).log = s.log := rfl
@[simp] theorem State.setEntry_counters (s : State) (e : JEntry) : (State.setEntry s e).counters = s.counters := rfl
@[simp] theorem State.setEntry_trace (s : State) (e : JEntry) : (State.setEntry s e).trace = s.trace := rfl
@[simp] theorem State.setEntry_events (s : State) (e : JEntry) : (State.setEntry s e).events = s.events := rfl
@[simp] theorem State.setEntry_bp (s : State) (e : JEntry) : (State.setEntry s e).bp = s.bp := rfl
@[simp] theorem State.setEntry_mailbox (s : State) (e : JEntry) : (State.setEntry s e).mailbox = s.mailbox := rfl
@[simp] theorem State.setEntry_otp (s : State) (e : JEntry) : (State.setEntry s e).otp = s.otp := rfl
@[simp] theorem State.setEntry_power (s : State) (e : JEntry) : (State.setEntry s e).power = s.power := rfl
@[simp] theorem State.setEntry_boot (s : State) (e : JEntry) : (State.setEntry s e).boot = s.boot := rfl
@[simp] theorem State.setEntry_dbg (s : State) (e : JEntry) : (State.setEntry s e).dbg = s.dbg := rfl
@[simp] theorem State.setEntry_baro (s : State) (e : JEntry) : (State.setEntry s e).baro = s.baro := rfl
@[simp] theorem State.setEntry_link (s : State) (e : JEntry) : (State.setEntry s e).link = s.link := rfl
@[simp] theorem State.setEntry_freeCount (s : State) (e : JEntry) : (State.setEntry s e).freeCount = s.freeCount := rfl
@[simp] theorem State.setEntry_out (s : State) (e : JEntry) : (State.setEntry s e).out = s.out := rfl
@[simp] theorem State.setEntry_pending (s : State) (e : JEntry) : (State.setEntry s e).pending = s.pending := rfl

@[simp] theorem State.suspend_build (s : State) (jid : Nat) (w : Wait) (k : Cont) : (State.suspend s jid w k).build = s.build := rfl
@[simp] theorem State.suspend_tables (s : State) (jid : Nat) (w : Wait) (k : Cont) : (State.suspend s jid w k).tables = s.tables := rfl
@[simp] theorem State.suspend_weft (s : State) (jid : Nat) (w : Wait) (k : Cont) : (State.suspend s jid w k).weft = s.weft := rfl
@[simp] theorem State.suspend_shuttle (s : State) (jid : Nat) (w : Wait) (k : Cont) : (State.suspend s jid w k).shuttle = s.shuttle := rfl
@[simp] theorem State.suspend_batten (s : State) (jid : Nat) (w : Wait) (k : Cont) : (State.suspend s jid w k).batten = s.batten := rfl
@[simp] theorem State.suspend_spindle (s : State) (jid : Nat) (w : Wait) (k : Cont) : (State.suspend s jid w k).spindle = s.spindle := rfl
@[simp] theorem State.suspend_keys (s : State) (jid : Nat) (w : Wait) (k : Cont) : (State.suspend s jid w k).keys = s.keys := rfl
@[simp] theorem State.suspend_entropy (s : State) (jid : Nat) (w : Wait) (k : Cont) : (State.suspend s jid w k).entropy = s.entropy := rfl
@[simp] theorem State.suspend_spdm (s : State) (jid : Nat) (w : Wait) (k : Cont) : (State.suspend s jid w k).spdm = s.spdm := rfl
@[simp] theorem State.suspend_metering (s : State) (jid : Nat) (w : Wait) (k : Cont) : (State.suspend s jid w k).metering = s.metering := rfl
@[simp] theorem State.suspend_time (s : State) (jid : Nat) (w : Wait) (k : Cont) : (State.suspend s jid w k).time = s.time := rfl
@[simp] theorem State.suspend_log (s : State) (jid : Nat) (w : Wait) (k : Cont) : (State.suspend s jid w k).log = s.log := rfl
@[simp] theorem State.suspend_counters (s : State) (jid : Nat) (w : Wait) (k : Cont) : (State.suspend s jid w k).counters = s.counters := rfl
@[simp] theorem State.suspend_trace (s : State) (jid : Nat) (w : Wait) (k : Cont) : (State.suspend s jid w k).trace = s.trace := rfl
@[simp] theorem State.suspend_events (s : State) (jid : Nat) (w : Wait) (k : Cont) : (State.suspend s jid w k).events = s.events := rfl
@[simp] theorem State.suspend_bp (s : State) (jid : Nat) (w : Wait) (k : Cont) : (State.suspend s jid w k).bp = s.bp := rfl
@[simp] theorem State.suspend_mailbox (s : State) (jid : Nat) (w : Wait) (k : Cont) : (State.suspend s jid w k).mailbox = s.mailbox := rfl
@[simp] theorem State.suspend_otp (s : State) (jid : Nat) (w : Wait) (k : Cont) : (State.suspend s jid w k).otp = s.otp := rfl
@[simp] theorem State.suspend_power (s : State) (jid : Nat) (w : Wait) (k : Cont) : (State.suspend s jid w k).power = s.power := rfl
@[simp] theorem State.suspend_boot (s : State) (jid : Nat) (w : Wait) (k : Cont) : (State.suspend s jid w k).boot = s.boot := rfl
@[simp] theorem State.suspend_dbg (s : State) (jid : Nat) (w : Wait) (k : Cont) : (State.suspend s jid w k).dbg = s.dbg := rfl
@[simp] theorem State.suspend_baro (s : State) (jid : Nat) (w : Wait) (k : Cont) : (State.suspend s jid w k).baro = s.baro := rfl
@[simp] theorem State.suspend_link (s : State) (jid : Nat) (w : Wait) (k : Cont) : (State.suspend s jid w k).link = s.link := rfl
@[simp] theorem State.suspend_freeCount (s : State) (jid : Nat) (w : Wait) (k : Cont) : (State.suspend s jid w k).freeCount = s.freeCount := rfl
@[simp] theorem State.suspend_out (s : State) (jid : Nat) (w : Wait) (k : Cont) : (State.suspend s jid w k).out = s.out := rfl
@[simp] theorem State.suspend_pending (s : State) (jid : Nat) (w : Wait) (k : Cont) : (State.suspend s jid w k).pending = s.pending := rfl

@[simp] theorem State.dropEntry_build (s : State) (jid : Nat) : (State.dropEntry s jid).build = s.build := rfl
@[simp] theorem State.dropEntry_tables (s : State) (jid : Nat) : (State.dropEntry s jid).tables = s.tables := rfl
@[simp] theorem State.dropEntry_weft (s : State) (jid : Nat) : (State.dropEntry s jid).weft = s.weft := rfl
@[simp] theorem State.dropEntry_shuttle (s : State) (jid : Nat) : (State.dropEntry s jid).shuttle = s.shuttle := rfl
@[simp] theorem State.dropEntry_batten (s : State) (jid : Nat) : (State.dropEntry s jid).batten = s.batten := rfl
@[simp] theorem State.dropEntry_spindle (s : State) (jid : Nat) : (State.dropEntry s jid).spindle = s.spindle := rfl
@[simp] theorem State.dropEntry_keys (s : State) (jid : Nat) : (State.dropEntry s jid).keys = s.keys := rfl
@[simp] theorem State.dropEntry_entropy (s : State) (jid : Nat) : (State.dropEntry s jid).entropy = s.entropy := rfl
@[simp] theorem State.dropEntry_spdm (s : State) (jid : Nat) : (State.dropEntry s jid).spdm = s.spdm := rfl
@[simp] theorem State.dropEntry_metering (s : State) (jid : Nat) : (State.dropEntry s jid).metering = s.metering := rfl
@[simp] theorem State.dropEntry_time (s : State) (jid : Nat) : (State.dropEntry s jid).time = s.time := rfl
@[simp] theorem State.dropEntry_log (s : State) (jid : Nat) : (State.dropEntry s jid).log = s.log := rfl
@[simp] theorem State.dropEntry_counters (s : State) (jid : Nat) : (State.dropEntry s jid).counters = s.counters := rfl
@[simp] theorem State.dropEntry_trace (s : State) (jid : Nat) : (State.dropEntry s jid).trace = s.trace := rfl
@[simp] theorem State.dropEntry_events (s : State) (jid : Nat) : (State.dropEntry s jid).events = s.events := rfl
@[simp] theorem State.dropEntry_bp (s : State) (jid : Nat) : (State.dropEntry s jid).bp = s.bp := rfl
@[simp] theorem State.dropEntry_mailbox (s : State) (jid : Nat) : (State.dropEntry s jid).mailbox = s.mailbox := rfl
@[simp] theorem State.dropEntry_otp (s : State) (jid : Nat) : (State.dropEntry s jid).otp = s.otp := rfl
@[simp] theorem State.dropEntry_power (s : State) (jid : Nat) : (State.dropEntry s jid).power = s.power := rfl
@[simp] theorem State.dropEntry_boot (s : State) (jid : Nat) : (State.dropEntry s jid).boot = s.boot := rfl
@[simp] theorem State.dropEntry_dbg (s : State) (jid : Nat) : (State.dropEntry s jid).dbg = s.dbg := rfl
@[simp] theorem State.dropEntry_baro (s : State) (jid : Nat) : (State.dropEntry s jid).baro = s.baro := rfl
@[simp] theorem State.dropEntry_link (s : State) (jid : Nat) : (State.dropEntry s jid).link = s.link := rfl
@[simp] theorem State.dropEntry_freeCount (s : State) (jid : Nat) : (State.dropEntry s jid).freeCount = s.freeCount := rfl
@[simp] theorem State.dropEntry_out (s : State) (jid : Nat) : (State.dropEntry s jid).out = s.out := rfl
@[simp] theorem State.dropEntry_pending (s : State) (jid : Nat) : (State.dropEntry s jid).pending = s.pending := rfl

@[simp] theorem State.setScan_build (s : State) (x : Scan) : (State.setScan s x).build = s.build := rfl
@[simp] theorem State.setScan_tables (s : State) (x : Scan) : (State.setScan s x).tables = s.tables := rfl
@[simp] theorem State.setScan_weft (s : State) (x : Scan) : (State.setScan s x).weft = s.weft := rfl
@[simp] theorem State.setScan_shuttle (s : State) (x : Scan) : (State.setScan s x).shuttle = s.shuttle := rfl
@[simp] theorem State.setScan_batten (s : State) (x : Scan) : (State.setScan s x).batten = s.batten := rfl
@[simp] theorem State.setScan_spindle (s : State) (x : Scan) : (State.setScan s x).spindle = s.spindle := rfl
@[simp] theorem State.setScan_keys (s : State) (x : Scan) : (State.setScan s x).keys = s.keys := rfl
@[simp] theorem State.setScan_entropy (s : State) (x : Scan) : (State.setScan s x).entropy = s.entropy := rfl
@[simp] theorem State.setScan_spdm (s : State) (x : Scan) : (State.setScan s x).spdm = s.spdm := rfl
@[simp] theorem State.setScan_metering (s : State) (x : Scan) : (State.setScan s x).metering = s.metering := rfl
@[simp] theorem State.setScan_time (s : State) (x : Scan) : (State.setScan s x).time = s.time := rfl
@[simp] theorem State.setScan_log (s : State) (x : Scan) : (State.setScan s x).log = s.log := rfl
@[simp] theorem State.setScan_counters (s : State) (x : Scan) : (State.setScan s x).counters = s.counters := rfl
@[simp] theorem State.setScan_trace (s : State) (x : Scan) : (State.setScan s x).trace = s.trace := rfl
@[simp] theorem State.setScan_events (s : State) (x : Scan) : (State.setScan s x).events = s.events := rfl
@[simp] theorem State.setScan_bp (s : State) (x : Scan) : (State.setScan s x).bp = s.bp := rfl
@[simp] theorem State.setScan_mailbox (s : State) (x : Scan) : (State.setScan s x).mailbox = s.mailbox := rfl
@[simp] theorem State.setScan_otp (s : State) (x : Scan) : (State.setScan s x).otp = s.otp := rfl
@[simp] theorem State.setScan_power (s : State) (x : Scan) : (State.setScan s x).power = s.power := rfl
@[simp] theorem State.setScan_boot (s : State) (x : Scan) : (State.setScan s x).boot = s.boot := rfl
@[simp] theorem State.setScan_dbg (s : State) (x : Scan) : (State.setScan s x).dbg = s.dbg := rfl
@[simp] theorem State.setScan_baro (s : State) (x : Scan) : (State.setScan s x).baro = s.baro := rfl
@[simp] theorem State.setScan_link (s : State) (x : Scan) : (State.setScan s x).link = s.link := rfl
@[simp] theorem State.setScan_freeCount (s : State) (x : Scan) : (State.setScan s x).freeCount = s.freeCount := rfl
@[simp] theorem State.setScan_out (s : State) (x : Scan) : (State.setScan s x).out = s.out := rfl
@[simp] theorem State.setScan_pending (s : State) (x : Scan) : (State.setScan s x).pending = s.pending := rfl

@[simp] theorem State.addScan_build (s : State) (x : Scan) : (State.addScan s x).build = s.build := rfl
@[simp] theorem State.addScan_tables (s : State) (x : Scan) : (State.addScan s x).tables = s.tables := rfl
@[simp] theorem State.addScan_weft (s : State) (x : Scan) : (State.addScan s x).weft = s.weft := rfl
@[simp] theorem State.addScan_shuttle (s : State) (x : Scan) : (State.addScan s x).shuttle = s.shuttle := rfl
@[simp] theorem State.addScan_batten (s : State) (x : Scan) : (State.addScan s x).batten = s.batten := rfl
@[simp] theorem State.addScan_spindle (s : State) (x : Scan) : (State.addScan s x).spindle = s.spindle := rfl
@[simp] theorem State.addScan_keys (s : State) (x : Scan) : (State.addScan s x).keys = s.keys := rfl
@[simp] theorem State.addScan_entropy (s : State) (x : Scan) : (State.addScan s x).entropy = s.entropy := rfl
@[simp] theorem State.addScan_spdm (s : State) (x : Scan) : (State.addScan s x).spdm = s.spdm := rfl
@[simp] theorem State.addScan_metering (s : State) (x : Scan) : (State.addScan s x).metering = s.metering := rfl
@[simp] theorem State.addScan_time (s : State) (x : Scan) : (State.addScan s x).time = s.time := rfl
@[simp] theorem State.addScan_log (s : State) (x : Scan) : (State.addScan s x).log = s.log := rfl
@[simp] theorem State.addScan_counters (s : State) (x : Scan) : (State.addScan s x).counters = s.counters := rfl
@[simp] theorem State.addScan_trace (s : State) (x : Scan) : (State.addScan s x).trace = s.trace := rfl
@[simp] theorem State.addScan_events (s : State) (x : Scan) : (State.addScan s x).events = s.events := rfl
@[simp] theorem State.addScan_bp (s : State) (x : Scan) : (State.addScan s x).bp = s.bp := rfl
@[simp] theorem State.addScan_mailbox (s : State) (x : Scan) : (State.addScan s x).mailbox = s.mailbox := rfl
@[simp] theorem State.addScan_otp (s : State) (x : Scan) : (State.addScan s x).otp = s.otp := rfl
@[simp] theorem State.addScan_power (s : State) (x : Scan) : (State.addScan s x).power = s.power := rfl
@[simp] theorem State.addScan_boot (s : State) (x : Scan) : (State.addScan s x).boot = s.boot := rfl
@[simp] theorem State.addScan_dbg (s : State) (x : Scan) : (State.addScan s x).dbg = s.dbg := rfl
@[simp] theorem State.addScan_baro (s : State) (x : Scan) : (State.addScan s x).baro = s.baro := rfl
@[simp] theorem State.addScan_link (s : State) (x : Scan) : (State.addScan s x).link = s.link := rfl
@[simp] theorem State.addScan_freeCount (s : State) (x : Scan) : (State.addScan s x).freeCount = s.freeCount := rfl
@[simp] theorem State.addScan_out (s : State) (x : Scan) : (State.addScan s x).out = s.out := rfl
@[simp] theorem State.addScan_pending (s : State) (x : Scan) : (State.addScan s x).pending = s.pending := rfl

@[simp] theorem State.setRxq_build (s : State) (q : List RxPkt) : (State.setRxq s q).build = s.build := rfl
@[simp] theorem State.setRxq_tables (s : State) (q : List RxPkt) : (State.setRxq s q).tables = s.tables := rfl
@[simp] theorem State.setRxq_weft (s : State) (q : List RxPkt) : (State.setRxq s q).weft = s.weft := rfl
@[simp] theorem State.setRxq_batten (s : State) (q : List RxPkt) : (State.setRxq s q).batten = s.batten := rfl
@[simp] theorem State.setRxq_spindle (s : State) (q : List RxPkt) : (State.setRxq s q).spindle = s.spindle := rfl
@[simp] theorem State.setRxq_keys (s : State) (q : List RxPkt) : (State.setRxq s q).keys = s.keys := rfl
@[simp] theorem State.setRxq_entropy (s : State) (q : List RxPkt) : (State.setRxq s q).entropy = s.entropy := rfl
@[simp] theorem State.setRxq_spdm (s : State) (q : List RxPkt) : (State.setRxq s q).spdm = s.spdm := rfl
@[simp] theorem State.setRxq_metering (s : State) (q : List RxPkt) : (State.setRxq s q).metering = s.metering := rfl
@[simp] theorem State.setRxq_time (s : State) (q : List RxPkt) : (State.setRxq s q).time = s.time := rfl
@[simp] theorem State.setRxq_loom (s : State) (q : List RxPkt) : (State.setRxq s q).loom = s.loom := rfl
@[simp] theorem State.setRxq_log (s : State) (q : List RxPkt) : (State.setRxq s q).log = s.log := rfl
@[simp] theorem State.setRxq_counters (s : State) (q : List RxPkt) : (State.setRxq s q).counters = s.counters := rfl
@[simp] theorem State.setRxq_trace (s : State) (q : List RxPkt) : (State.setRxq s q).trace = s.trace := rfl
@[simp] theorem State.setRxq_events (s : State) (q : List RxPkt) : (State.setRxq s q).events = s.events := rfl
@[simp] theorem State.setRxq_bp (s : State) (q : List RxPkt) : (State.setRxq s q).bp = s.bp := rfl
@[simp] theorem State.setRxq_mailbox (s : State) (q : List RxPkt) : (State.setRxq s q).mailbox = s.mailbox := rfl
@[simp] theorem State.setRxq_otp (s : State) (q : List RxPkt) : (State.setRxq s q).otp = s.otp := rfl
@[simp] theorem State.setRxq_power (s : State) (q : List RxPkt) : (State.setRxq s q).power = s.power := rfl
@[simp] theorem State.setRxq_boot (s : State) (q : List RxPkt) : (State.setRxq s q).boot = s.boot := rfl
@[simp] theorem State.setRxq_dbg (s : State) (q : List RxPkt) : (State.setRxq s q).dbg = s.dbg := rfl
@[simp] theorem State.setRxq_baro (s : State) (q : List RxPkt) : (State.setRxq s q).baro = s.baro := rfl
@[simp] theorem State.setRxq_link (s : State) (q : List RxPkt) : (State.setRxq s q).link = s.link := rfl
@[simp] theorem State.setRxq_freeCount (s : State) (q : List RxPkt) : (State.setRxq s q).freeCount = s.freeCount := rfl
@[simp] theorem State.setRxq_out (s : State) (q : List RxPkt) : (State.setRxq s q).out = s.out := rfl
@[simp] theorem State.setRxq_pending (s : State) (q : List RxPkt) : (State.setRxq s q).pending = s.pending := rfl

@[simp] theorem State.setHandshake_build (s : State) (peer : Nat) (h : Handshake) : (State.setHandshake s peer h).build = s.build := rfl
@[simp] theorem State.setHandshake_tables (s : State) (peer : Nat) (h : Handshake) : (State.setHandshake s peer h).tables = s.tables := rfl
@[simp] theorem State.setHandshake_weft (s : State) (peer : Nat) (h : Handshake) : (State.setHandshake s peer h).weft = s.weft := rfl
@[simp] theorem State.setHandshake_batten (s : State) (peer : Nat) (h : Handshake) : (State.setHandshake s peer h).batten = s.batten := rfl
@[simp] theorem State.setHandshake_spindle (s : State) (peer : Nat) (h : Handshake) : (State.setHandshake s peer h).spindle = s.spindle := rfl
@[simp] theorem State.setHandshake_keys (s : State) (peer : Nat) (h : Handshake) : (State.setHandshake s peer h).keys = s.keys := rfl
@[simp] theorem State.setHandshake_entropy (s : State) (peer : Nat) (h : Handshake) : (State.setHandshake s peer h).entropy = s.entropy := rfl
@[simp] theorem State.setHandshake_spdm (s : State) (peer : Nat) (h : Handshake) : (State.setHandshake s peer h).spdm = s.spdm := rfl
@[simp] theorem State.setHandshake_metering (s : State) (peer : Nat) (h : Handshake) : (State.setHandshake s peer h).metering = s.metering := rfl
@[simp] theorem State.setHandshake_time (s : State) (peer : Nat) (h : Handshake) : (State.setHandshake s peer h).time = s.time := rfl
@[simp] theorem State.setHandshake_loom (s : State) (peer : Nat) (h : Handshake) : (State.setHandshake s peer h).loom = s.loom := rfl
@[simp] theorem State.setHandshake_log (s : State) (peer : Nat) (h : Handshake) : (State.setHandshake s peer h).log = s.log := rfl
@[simp] theorem State.setHandshake_counters (s : State) (peer : Nat) (h : Handshake) : (State.setHandshake s peer h).counters = s.counters := rfl
@[simp] theorem State.setHandshake_trace (s : State) (peer : Nat) (h : Handshake) : (State.setHandshake s peer h).trace = s.trace := rfl
@[simp] theorem State.setHandshake_events (s : State) (peer : Nat) (h : Handshake) : (State.setHandshake s peer h).events = s.events := rfl
@[simp] theorem State.setHandshake_bp (s : State) (peer : Nat) (h : Handshake) : (State.setHandshake s peer h).bp = s.bp := rfl
@[simp] theorem State.setHandshake_mailbox (s : State) (peer : Nat) (h : Handshake) : (State.setHandshake s peer h).mailbox = s.mailbox := rfl
@[simp] theorem State.setHandshake_otp (s : State) (peer : Nat) (h : Handshake) : (State.setHandshake s peer h).otp = s.otp := rfl
@[simp] theorem State.setHandshake_power (s : State) (peer : Nat) (h : Handshake) : (State.setHandshake s peer h).power = s.power := rfl
@[simp] theorem State.setHandshake_boot (s : State) (peer : Nat) (h : Handshake) : (State.setHandshake s peer h).boot = s.boot := rfl
@[simp] theorem State.setHandshake_dbg (s : State) (peer : Nat) (h : Handshake) : (State.setHandshake s peer h).dbg = s.dbg := rfl
@[simp] theorem State.setHandshake_baro (s : State) (peer : Nat) (h : Handshake) : (State.setHandshake s peer h).baro = s.baro := rfl
@[simp] theorem State.setHandshake_link (s : State) (peer : Nat) (h : Handshake) : (State.setHandshake s peer h).link = s.link := rfl
@[simp] theorem State.setHandshake_freeCount (s : State) (peer : Nat) (h : Handshake) : (State.setHandshake s peer h).freeCount = s.freeCount := rfl
@[simp] theorem State.setHandshake_out (s : State) (peer : Nat) (h : Handshake) : (State.setHandshake s peer h).out = s.out := rfl
@[simp] theorem State.setHandshake_pending (s : State) (peer : Nat) (h : Handshake) : (State.setHandshake s peer h).pending = s.pending := rfl

@[simp] theorem State.setPhase_build (s : State) (p : ResetPhase) : (State.setPhase s p).build = s.build := rfl
@[simp] theorem State.setPhase_tables (s : State) (p : ResetPhase) : (State.setPhase s p).tables = s.tables := rfl
@[simp] theorem State.setPhase_weft (s : State) (p : ResetPhase) : (State.setPhase s p).weft = s.weft := rfl
@[simp] theorem State.setPhase_shuttle (s : State) (p : ResetPhase) : (State.setPhase s p).shuttle = s.shuttle := rfl
@[simp] theorem State.setPhase_batten (s : State) (p : ResetPhase) : (State.setPhase s p).batten = s.batten := rfl
@[simp] theorem State.setPhase_spindle (s : State) (p : ResetPhase) : (State.setPhase s p).spindle = s.spindle := rfl
@[simp] theorem State.setPhase_keys (s : State) (p : ResetPhase) : (State.setPhase s p).keys = s.keys := rfl
@[simp] theorem State.setPhase_entropy (s : State) (p : ResetPhase) : (State.setPhase s p).entropy = s.entropy := rfl
@[simp] theorem State.setPhase_spdm (s : State) (p : ResetPhase) : (State.setPhase s p).spdm = s.spdm := rfl
@[simp] theorem State.setPhase_metering (s : State) (p : ResetPhase) : (State.setPhase s p).metering = s.metering := rfl
@[simp] theorem State.setPhase_time (s : State) (p : ResetPhase) : (State.setPhase s p).time = s.time := rfl
@[simp] theorem State.setPhase_loom (s : State) (p : ResetPhase) : (State.setPhase s p).loom = s.loom := rfl
@[simp] theorem State.setPhase_log (s : State) (p : ResetPhase) : (State.setPhase s p).log = s.log := rfl
@[simp] theorem State.setPhase_counters (s : State) (p : ResetPhase) : (State.setPhase s p).counters = s.counters := rfl
@[simp] theorem State.setPhase_trace (s : State) (p : ResetPhase) : (State.setPhase s p).trace = s.trace := rfl
@[simp] theorem State.setPhase_events (s : State) (p : ResetPhase) : (State.setPhase s p).events = s.events := rfl
@[simp] theorem State.setPhase_bp (s : State) (p : ResetPhase) : (State.setPhase s p).bp = s.bp := rfl
@[simp] theorem State.setPhase_mailbox (s : State) (p : ResetPhase) : (State.setPhase s p).mailbox = s.mailbox := rfl
@[simp] theorem State.setPhase_otp (s : State) (p : ResetPhase) : (State.setPhase s p).otp = s.otp := rfl
@[simp] theorem State.setPhase_boot (s : State) (p : ResetPhase) : (State.setPhase s p).boot = s.boot := rfl
@[simp] theorem State.setPhase_dbg (s : State) (p : ResetPhase) : (State.setPhase s p).dbg = s.dbg := rfl
@[simp] theorem State.setPhase_baro (s : State) (p : ResetPhase) : (State.setPhase s p).baro = s.baro := rfl
@[simp] theorem State.setPhase_link (s : State) (p : ResetPhase) : (State.setPhase s p).link = s.link := rfl
@[simp] theorem State.setPhase_freeCount (s : State) (p : ResetPhase) : (State.setPhase s p).freeCount = s.freeCount := rfl
@[simp] theorem State.setPhase_out (s : State) (p : ResetPhase) : (State.setPhase s p).out = s.out := rfl
@[simp] theorem State.setPhase_pending (s : State) (p : ResetPhase) : (State.setPhase s p).pending = s.pending := rfl

@[simp] theorem State.setSensor_build (s : State) (inst : Nat) (x : Sensor) : (State.setSensor s inst x).build = s.build := rfl
@[simp] theorem State.setSensor_tables (s : State) (inst : Nat) (x : Sensor) : (State.setSensor s inst x).tables = s.tables := rfl
@[simp] theorem State.setSensor_weft (s : State) (inst : Nat) (x : Sensor) : (State.setSensor s inst x).weft = s.weft := rfl
@[simp] theorem State.setSensor_shuttle (s : State) (inst : Nat) (x : Sensor) : (State.setSensor s inst x).shuttle = s.shuttle := rfl
@[simp] theorem State.setSensor_batten (s : State) (inst : Nat) (x : Sensor) : (State.setSensor s inst x).batten = s.batten := rfl
@[simp] theorem State.setSensor_spindle (s : State) (inst : Nat) (x : Sensor) : (State.setSensor s inst x).spindle = s.spindle := rfl
@[simp] theorem State.setSensor_keys (s : State) (inst : Nat) (x : Sensor) : (State.setSensor s inst x).keys = s.keys := rfl
@[simp] theorem State.setSensor_entropy (s : State) (inst : Nat) (x : Sensor) : (State.setSensor s inst x).entropy = s.entropy := rfl
@[simp] theorem State.setSensor_spdm (s : State) (inst : Nat) (x : Sensor) : (State.setSensor s inst x).spdm = s.spdm := rfl
@[simp] theorem State.setSensor_metering (s : State) (inst : Nat) (x : Sensor) : (State.setSensor s inst x).metering = s.metering := rfl
@[simp] theorem State.setSensor_time (s : State) (inst : Nat) (x : Sensor) : (State.setSensor s inst x).time = s.time := rfl
@[simp] theorem State.setSensor_loom (s : State) (inst : Nat) (x : Sensor) : (State.setSensor s inst x).loom = s.loom := rfl
@[simp] theorem State.setSensor_log (s : State) (inst : Nat) (x : Sensor) : (State.setSensor s inst x).log = s.log := rfl
@[simp] theorem State.setSensor_counters (s : State) (inst : Nat) (x : Sensor) : (State.setSensor s inst x).counters = s.counters := rfl
@[simp] theorem State.setSensor_trace (s : State) (inst : Nat) (x : Sensor) : (State.setSensor s inst x).trace = s.trace := rfl
@[simp] theorem State.setSensor_events (s : State) (inst : Nat) (x : Sensor) : (State.setSensor s inst x).events = s.events := rfl
@[simp] theorem State.setSensor_bp (s : State) (inst : Nat) (x : Sensor) : (State.setSensor s inst x).bp = s.bp := rfl
@[simp] theorem State.setSensor_mailbox (s : State) (inst : Nat) (x : Sensor) : (State.setSensor s inst x).mailbox = s.mailbox := rfl
@[simp] theorem State.setSensor_otp (s : State) (inst : Nat) (x : Sensor) : (State.setSensor s inst x).otp = s.otp := rfl
@[simp] theorem State.setSensor_power (s : State) (inst : Nat) (x : Sensor) : (State.setSensor s inst x).power = s.power := rfl
@[simp] theorem State.setSensor_boot (s : State) (inst : Nat) (x : Sensor) : (State.setSensor s inst x).boot = s.boot := rfl
@[simp] theorem State.setSensor_dbg (s : State) (inst : Nat) (x : Sensor) : (State.setSensor s inst x).dbg = s.dbg := rfl
@[simp] theorem State.setSensor_link (s : State) (inst : Nat) (x : Sensor) : (State.setSensor s inst x).link = s.link := rfl
@[simp] theorem State.setSensor_freeCount (s : State) (inst : Nat) (x : Sensor) : (State.setSensor s inst x).freeCount = s.freeCount := rfl
@[simp] theorem State.setSensor_out (s : State) (inst : Nat) (x : Sensor) : (State.setSensor s inst x).out = s.out := rfl
@[simp] theorem State.setSensor_pending (s : State) (inst : Nat) (x : Sensor) : (State.setSensor s inst x).pending = s.pending := rfl

@[simp] theorem State.setTdi_build (s : State) (func : Nat) (t : Tdi) : (State.setTdi s func t).build = s.build := rfl
@[simp] theorem State.setTdi_tables (s : State) (func : Nat) (t : Tdi) : (State.setTdi s func t).tables = s.tables := rfl
@[simp] theorem State.setTdi_weft (s : State) (func : Nat) (t : Tdi) : (State.setTdi s func t).weft = s.weft := rfl
@[simp] theorem State.setTdi_shuttle (s : State) (func : Nat) (t : Tdi) : (State.setTdi s func t).shuttle = s.shuttle := rfl
@[simp] theorem State.setTdi_batten (s : State) (func : Nat) (t : Tdi) : (State.setTdi s func t).batten = s.batten := rfl
@[simp] theorem State.setTdi_spindle (s : State) (func : Nat) (t : Tdi) : (State.setTdi s func t).spindle = s.spindle := rfl
@[simp] theorem State.setTdi_keys (s : State) (func : Nat) (t : Tdi) : (State.setTdi s func t).keys = s.keys := rfl
@[simp] theorem State.setTdi_entropy (s : State) (func : Nat) (t : Tdi) : (State.setTdi s func t).entropy = s.entropy := rfl
@[simp] theorem State.setTdi_spdm (s : State) (func : Nat) (t : Tdi) : (State.setTdi s func t).spdm = s.spdm := rfl
@[simp] theorem State.setTdi_metering (s : State) (func : Nat) (t : Tdi) : (State.setTdi s func t).metering = s.metering := rfl
@[simp] theorem State.setTdi_time (s : State) (func : Nat) (t : Tdi) : (State.setTdi s func t).time = s.time := rfl
@[simp] theorem State.setTdi_loom (s : State) (func : Nat) (t : Tdi) : (State.setTdi s func t).loom = s.loom := rfl
@[simp] theorem State.setTdi_log (s : State) (func : Nat) (t : Tdi) : (State.setTdi s func t).log = s.log := rfl
@[simp] theorem State.setTdi_counters (s : State) (func : Nat) (t : Tdi) : (State.setTdi s func t).counters = s.counters := rfl
@[simp] theorem State.setTdi_trace (s : State) (func : Nat) (t : Tdi) : (State.setTdi s func t).trace = s.trace := rfl
@[simp] theorem State.setTdi_events (s : State) (func : Nat) (t : Tdi) : (State.setTdi s func t).events = s.events := rfl
@[simp] theorem State.setTdi_bp (s : State) (func : Nat) (t : Tdi) : (State.setTdi s func t).bp = s.bp := rfl
@[simp] theorem State.setTdi_mailbox (s : State) (func : Nat) (t : Tdi) : (State.setTdi s func t).mailbox = s.mailbox := rfl
@[simp] theorem State.setTdi_otp (s : State) (func : Nat) (t : Tdi) : (State.setTdi s func t).otp = s.otp := rfl
@[simp] theorem State.setTdi_power (s : State) (func : Nat) (t : Tdi) : (State.setTdi s func t).power = s.power := rfl
@[simp] theorem State.setTdi_boot (s : State) (func : Nat) (t : Tdi) : (State.setTdi s func t).boot = s.boot := rfl
@[simp] theorem State.setTdi_dbg (s : State) (func : Nat) (t : Tdi) : (State.setTdi s func t).dbg = s.dbg := rfl
@[simp] theorem State.setTdi_baro (s : State) (func : Nat) (t : Tdi) : (State.setTdi s func t).baro = s.baro := rfl
@[simp] theorem State.setTdi_freeCount (s : State) (func : Nat) (t : Tdi) : (State.setTdi s func t).freeCount = s.freeCount := rfl
@[simp] theorem State.setTdi_out (s : State) (func : Nat) (t : Tdi) : (State.setTdi s func t).out = s.out := rfl
@[simp] theorem State.setTdi_pending (s : State) (func : Nat) (t : Tdi) : (State.setTdi s func t).pending = s.pending := rfl

@[simp] theorem State.setTime_build (s : State) (t : TimeUnit) : (State.setTime s t).build = s.build := rfl
@[simp] theorem State.setTime_tables (s : State) (t : TimeUnit) : (State.setTime s t).tables = s.tables := rfl
@[simp] theorem State.setTime_weft (s : State) (t : TimeUnit) : (State.setTime s t).weft = s.weft := rfl
@[simp] theorem State.setTime_shuttle (s : State) (t : TimeUnit) : (State.setTime s t).shuttle = s.shuttle := rfl
@[simp] theorem State.setTime_batten (s : State) (t : TimeUnit) : (State.setTime s t).batten = s.batten := rfl
@[simp] theorem State.setTime_spindle (s : State) (t : TimeUnit) : (State.setTime s t).spindle = s.spindle := rfl
@[simp] theorem State.setTime_keys (s : State) (t : TimeUnit) : (State.setTime s t).keys = s.keys := rfl
@[simp] theorem State.setTime_entropy (s : State) (t : TimeUnit) : (State.setTime s t).entropy = s.entropy := rfl
@[simp] theorem State.setTime_spdm (s : State) (t : TimeUnit) : (State.setTime s t).spdm = s.spdm := rfl
@[simp] theorem State.setTime_metering (s : State) (t : TimeUnit) : (State.setTime s t).metering = s.metering := rfl
@[simp] theorem State.setTime_loom (s : State) (t : TimeUnit) : (State.setTime s t).loom = s.loom := rfl
@[simp] theorem State.setTime_log (s : State) (t : TimeUnit) : (State.setTime s t).log = s.log := rfl
@[simp] theorem State.setTime_counters (s : State) (t : TimeUnit) : (State.setTime s t).counters = s.counters := rfl
@[simp] theorem State.setTime_trace (s : State) (t : TimeUnit) : (State.setTime s t).trace = s.trace := rfl
@[simp] theorem State.setTime_events (s : State) (t : TimeUnit) : (State.setTime s t).events = s.events := rfl
@[simp] theorem State.setTime_bp (s : State) (t : TimeUnit) : (State.setTime s t).bp = s.bp := rfl
@[simp] theorem State.setTime_mailbox (s : State) (t : TimeUnit) : (State.setTime s t).mailbox = s.mailbox := rfl
@[simp] theorem State.setTime_otp (s : State) (t : TimeUnit) : (State.setTime s t).otp = s.otp := rfl
@[simp] theorem State.setTime_power (s : State) (t : TimeUnit) : (State.setTime s t).power = s.power := rfl
@[simp] theorem State.setTime_boot (s : State) (t : TimeUnit) : (State.setTime s t).boot = s.boot := rfl
@[simp] theorem State.setTime_dbg (s : State) (t : TimeUnit) : (State.setTime s t).dbg = s.dbg := rfl
@[simp] theorem State.setTime_baro (s : State) (t : TimeUnit) : (State.setTime s t).baro = s.baro := rfl
@[simp] theorem State.setTime_link (s : State) (t : TimeUnit) : (State.setTime s t).link = s.link := rfl
@[simp] theorem State.setTime_freeCount (s : State) (t : TimeUnit) : (State.setTime s t).freeCount = s.freeCount := rfl
@[simp] theorem State.setTime_out (s : State) (t : TimeUnit) : (State.setTime s t).out = s.out := rfl
@[simp] theorem State.setTime_pending (s : State) (t : TimeUnit) : (State.setTime s t).pending = s.pending := rfl

@[simp] theorem State.setOffset_build (s : State) (ldi : Nat) (o : Offset) : (State.setOffset s ldi o).build = s.build := rfl
@[simp] theorem State.setOffset_tables (s : State) (ldi : Nat) (o : Offset) : (State.setOffset s ldi o).tables = s.tables := rfl
@[simp] theorem State.setOffset_weft (s : State) (ldi : Nat) (o : Offset) : (State.setOffset s ldi o).weft = s.weft := rfl
@[simp] theorem State.setOffset_shuttle (s : State) (ldi : Nat) (o : Offset) : (State.setOffset s ldi o).shuttle = s.shuttle := rfl
@[simp] theorem State.setOffset_batten (s : State) (ldi : Nat) (o : Offset) : (State.setOffset s ldi o).batten = s.batten := rfl
@[simp] theorem State.setOffset_spindle (s : State) (ldi : Nat) (o : Offset) : (State.setOffset s ldi o).spindle = s.spindle := rfl
@[simp] theorem State.setOffset_keys (s : State) (ldi : Nat) (o : Offset) : (State.setOffset s ldi o).keys = s.keys := rfl
@[simp] theorem State.setOffset_entropy (s : State) (ldi : Nat) (o : Offset) : (State.setOffset s ldi o).entropy = s.entropy := rfl
@[simp] theorem State.setOffset_spdm (s : State) (ldi : Nat) (o : Offset) : (State.setOffset s ldi o).spdm = s.spdm := rfl
@[simp] theorem State.setOffset_metering (s : State) (ldi : Nat) (o : Offset) : (State.setOffset s ldi o).metering = s.metering := rfl
@[simp] theorem State.setOffset_loom (s : State) (ldi : Nat) (o : Offset) : (State.setOffset s ldi o).loom = s.loom := rfl
@[simp] theorem State.setOffset_log (s : State) (ldi : Nat) (o : Offset) : (State.setOffset s ldi o).log = s.log := rfl
@[simp] theorem State.setOffset_counters (s : State) (ldi : Nat) (o : Offset) : (State.setOffset s ldi o).counters = s.counters := rfl
@[simp] theorem State.setOffset_trace (s : State) (ldi : Nat) (o : Offset) : (State.setOffset s ldi o).trace = s.trace := rfl
@[simp] theorem State.setOffset_events (s : State) (ldi : Nat) (o : Offset) : (State.setOffset s ldi o).events = s.events := rfl
@[simp] theorem State.setOffset_bp (s : State) (ldi : Nat) (o : Offset) : (State.setOffset s ldi o).bp = s.bp := rfl
@[simp] theorem State.setOffset_mailbox (s : State) (ldi : Nat) (o : Offset) : (State.setOffset s ldi o).mailbox = s.mailbox := rfl
@[simp] theorem State.setOffset_otp (s : State) (ldi : Nat) (o : Offset) : (State.setOffset s ldi o).otp = s.otp := rfl
@[simp] theorem State.setOffset_power (s : State) (ldi : Nat) (o : Offset) : (State.setOffset s ldi o).power = s.power := rfl
@[simp] theorem State.setOffset_boot (s : State) (ldi : Nat) (o : Offset) : (State.setOffset s ldi o).boot = s.boot := rfl
@[simp] theorem State.setOffset_dbg (s : State) (ldi : Nat) (o : Offset) : (State.setOffset s ldi o).dbg = s.dbg := rfl
@[simp] theorem State.setOffset_baro (s : State) (ldi : Nat) (o : Offset) : (State.setOffset s ldi o).baro = s.baro := rfl
@[simp] theorem State.setOffset_link (s : State) (ldi : Nat) (o : Offset) : (State.setOffset s ldi o).link = s.link := rfl
@[simp] theorem State.setOffset_freeCount (s : State) (ldi : Nat) (o : Offset) : (State.setOffset s ldi o).freeCount = s.freeCount := rfl
@[simp] theorem State.setOffset_out (s : State) (ldi : Nat) (o : Offset) : (State.setOffset s ldi o).out = s.out := rfl
@[simp] theorem State.setOffset_pending (s : State) (ldi : Nat) (o : Offset) : (State.setOffset s ldi o).pending = s.pending := rfl

@[simp] theorem State.withPending_build (s : State) (q : List Instr) : (State.withPending s q).build = s.build := rfl
@[simp] theorem State.withPending_tables (s : State) (q : List Instr) : (State.withPending s q).tables = s.tables := rfl
@[simp] theorem State.withPending_weft (s : State) (q : List Instr) : (State.withPending s q).weft = s.weft := rfl
@[simp] theorem State.withPending_shuttle (s : State) (q : List Instr) : (State.withPending s q).shuttle = s.shuttle := rfl
@[simp] theorem State.withPending_batten (s : State) (q : List Instr) : (State.withPending s q).batten = s.batten := rfl
@[simp] theorem State.withPending_spindle (s : State) (q : List Instr) : (State.withPending s q).spindle = s.spindle := rfl
@[simp] theorem State.withPending_keys (s : State) (q : List Instr) : (State.withPending s q).keys = s.keys := rfl
@[simp] theorem State.withPending_entropy (s : State) (q : List Instr) : (State.withPending s q).entropy = s.entropy := rfl
@[simp] theorem State.withPending_spdm (s : State) (q : List Instr) : (State.withPending s q).spdm = s.spdm := rfl
@[simp] theorem State.withPending_metering (s : State) (q : List Instr) : (State.withPending s q).metering = s.metering := rfl
@[simp] theorem State.withPending_time (s : State) (q : List Instr) : (State.withPending s q).time = s.time := rfl
@[simp] theorem State.withPending_loom (s : State) (q : List Instr) : (State.withPending s q).loom = s.loom := rfl
@[simp] theorem State.withPending_log (s : State) (q : List Instr) : (State.withPending s q).log = s.log := rfl
@[simp] theorem State.withPending_counters (s : State) (q : List Instr) : (State.withPending s q).counters = s.counters := rfl
@[simp] theorem State.withPending_trace (s : State) (q : List Instr) : (State.withPending s q).trace = s.trace := rfl
@[simp] theorem State.withPending_events (s : State) (q : List Instr) : (State.withPending s q).events = s.events := rfl
@[simp] theorem State.withPending_bp (s : State) (q : List Instr) : (State.withPending s q).bp = s.bp := rfl
@[simp] theorem State.withPending_mailbox (s : State) (q : List Instr) : (State.withPending s q).mailbox = s.mailbox := rfl
@[simp] theorem State.withPending_otp (s : State) (q : List Instr) : (State.withPending s q).otp = s.otp := rfl
@[simp] theorem State.withPending_power (s : State) (q : List Instr) : (State.withPending s q).power = s.power := rfl
@[simp] theorem State.withPending_boot (s : State) (q : List Instr) : (State.withPending s q).boot = s.boot := rfl
@[simp] theorem State.withPending_dbg (s : State) (q : List Instr) : (State.withPending s q).dbg = s.dbg := rfl
@[simp] theorem State.withPending_baro (s : State) (q : List Instr) : (State.withPending s q).baro = s.baro := rfl
@[simp] theorem State.withPending_link (s : State) (q : List Instr) : (State.withPending s q).link = s.link := rfl
@[simp] theorem State.withPending_freeCount (s : State) (q : List Instr) : (State.withPending s q).freeCount = s.freeCount := rfl
@[simp] theorem State.withPending_out (s : State) (q : List Instr) : (State.withPending s q).out = s.out := rfl

@[simp] theorem State.dropKeys_build (s : State) (ldi : Nat) (p : Nat → Bool) : (State.dropKeys s ldi p).build = s.build := rfl
@[simp] theorem State.dropKeys_tables (s : State) (ldi : Nat) (p : Nat → Bool) : (State.dropKeys s ldi p).tables = s.tables := rfl
@[simp] theorem State.dropKeys_weft (s : State) (ldi : Nat) (p : Nat → Bool) : (State.dropKeys s ldi p).weft = s.weft := rfl
@[simp] theorem State.dropKeys_shuttle (s : State) (ldi : Nat) (p : Nat → Bool) : (State.dropKeys s ldi p).shuttle = s.shuttle := rfl
@[simp] theorem State.dropKeys_batten (s : State) (ldi : Nat) (p : Nat → Bool) : (State.dropKeys s ldi p).batten = s.batten := rfl
@[simp] theorem State.dropKeys_spindle (s : State) (ldi : Nat) (p : Nat → Bool) : (State.dropKeys s ldi p).spindle = s.spindle := rfl
@[simp] theorem State.dropKeys_entropy (s : State) (ldi : Nat) (p : Nat → Bool) : (State.dropKeys s ldi p).entropy = s.entropy := rfl
@[simp] theorem State.dropKeys_spdm (s : State) (ldi : Nat) (p : Nat → Bool) : (State.dropKeys s ldi p).spdm = s.spdm := rfl
@[simp] theorem State.dropKeys_metering (s : State) (ldi : Nat) (p : Nat → Bool) : (State.dropKeys s ldi p).metering = s.metering := rfl
@[simp] theorem State.dropKeys_time (s : State) (ldi : Nat) (p : Nat → Bool) : (State.dropKeys s ldi p).time = s.time := rfl
@[simp] theorem State.dropKeys_loom (s : State) (ldi : Nat) (p : Nat → Bool) : (State.dropKeys s ldi p).loom = s.loom := rfl
@[simp] theorem State.dropKeys_log (s : State) (ldi : Nat) (p : Nat → Bool) : (State.dropKeys s ldi p).log = s.log := rfl
@[simp] theorem State.dropKeys_counters (s : State) (ldi : Nat) (p : Nat → Bool) : (State.dropKeys s ldi p).counters = s.counters := rfl
@[simp] theorem State.dropKeys_trace (s : State) (ldi : Nat) (p : Nat → Bool) : (State.dropKeys s ldi p).trace = s.trace := rfl
@[simp] theorem State.dropKeys_events (s : State) (ldi : Nat) (p : Nat → Bool) : (State.dropKeys s ldi p).events = s.events := rfl
@[simp] theorem State.dropKeys_bp (s : State) (ldi : Nat) (p : Nat → Bool) : (State.dropKeys s ldi p).bp = s.bp := rfl
@[simp] theorem State.dropKeys_mailbox (s : State) (ldi : Nat) (p : Nat → Bool) : (State.dropKeys s ldi p).mailbox = s.mailbox := rfl
@[simp] theorem State.dropKeys_otp (s : State) (ldi : Nat) (p : Nat → Bool) : (State.dropKeys s ldi p).otp = s.otp := rfl
@[simp] theorem State.dropKeys_power (s : State) (ldi : Nat) (p : Nat → Bool) : (State.dropKeys s ldi p).power = s.power := rfl
@[simp] theorem State.dropKeys_boot (s : State) (ldi : Nat) (p : Nat → Bool) : (State.dropKeys s ldi p).boot = s.boot := rfl
@[simp] theorem State.dropKeys_dbg (s : State) (ldi : Nat) (p : Nat → Bool) : (State.dropKeys s ldi p).dbg = s.dbg := rfl
@[simp] theorem State.dropKeys_baro (s : State) (ldi : Nat) (p : Nat → Bool) : (State.dropKeys s ldi p).baro = s.baro := rfl
@[simp] theorem State.dropKeys_link (s : State) (ldi : Nat) (p : Nat → Bool) : (State.dropKeys s ldi p).link = s.link := rfl
@[simp] theorem State.dropKeys_freeCount (s : State) (ldi : Nat) (p : Nat → Bool) : (State.dropKeys s ldi p).freeCount = s.freeCount := rfl
@[simp] theorem State.dropKeys_out (s : State) (ldi : Nat) (p : Nat → Bool) : (State.dropKeys s ldi p).out = s.out := rfl
@[simp] theorem State.dropKeys_pending (s : State) (ldi : Nat) (p : Nat → Bool) : (State.dropKeys s ldi p).pending = s.pending := rfl

@[simp] theorem State.overtake_build (s : State) (ldi : Nat) : (State.overtake s ldi).build = s.build := rfl
@[simp] theorem State.overtake_tables (s : State) (ldi : Nat) : (State.overtake s ldi).tables = s.tables := rfl
@[simp] theorem State.overtake_weft (s : State) (ldi : Nat) : (State.overtake s ldi).weft = s.weft := rfl
@[simp] theorem State.overtake_shuttle (s : State) (ldi : Nat) : (State.overtake s ldi).shuttle = s.shuttle := rfl
@[simp] theorem State.overtake_batten (s : State) (ldi : Nat) : (State.overtake s ldi).batten = s.batten := rfl
@[simp] theorem State.overtake_spindle (s : State) (ldi : Nat) : (State.overtake s ldi).spindle = s.spindle := rfl
@[simp] theorem State.overtake_keys (s : State) (ldi : Nat) : (State.overtake s ldi).keys = s.keys := rfl
@[simp] theorem State.overtake_entropy (s : State) (ldi : Nat) : (State.overtake s ldi).entropy = s.entropy := rfl
@[simp] theorem State.overtake_spdm (s : State) (ldi : Nat) : (State.overtake s ldi).spdm = s.spdm := rfl
@[simp] theorem State.overtake_metering (s : State) (ldi : Nat) : (State.overtake s ldi).metering = s.metering := rfl
@[simp] theorem State.overtake_time (s : State) (ldi : Nat) : (State.overtake s ldi).time = s.time := rfl
@[simp] theorem State.overtake_log (s : State) (ldi : Nat) : (State.overtake s ldi).log = s.log := rfl
@[simp] theorem State.overtake_counters (s : State) (ldi : Nat) : (State.overtake s ldi).counters = s.counters := rfl
@[simp] theorem State.overtake_trace (s : State) (ldi : Nat) : (State.overtake s ldi).trace = s.trace := rfl
@[simp] theorem State.overtake_events (s : State) (ldi : Nat) : (State.overtake s ldi).events = s.events := rfl
@[simp] theorem State.overtake_bp (s : State) (ldi : Nat) : (State.overtake s ldi).bp = s.bp := rfl
@[simp] theorem State.overtake_mailbox (s : State) (ldi : Nat) : (State.overtake s ldi).mailbox = s.mailbox := rfl
@[simp] theorem State.overtake_otp (s : State) (ldi : Nat) : (State.overtake s ldi).otp = s.otp := rfl
@[simp] theorem State.overtake_power (s : State) (ldi : Nat) : (State.overtake s ldi).power = s.power := rfl
@[simp] theorem State.overtake_boot (s : State) (ldi : Nat) : (State.overtake s ldi).boot = s.boot := rfl
@[simp] theorem State.overtake_dbg (s : State) (ldi : Nat) : (State.overtake s ldi).dbg = s.dbg := rfl
@[simp] theorem State.overtake_baro (s : State) (ldi : Nat) : (State.overtake s ldi).baro = s.baro := rfl
@[simp] theorem State.overtake_link (s : State) (ldi : Nat) : (State.overtake s ldi).link = s.link := rfl
@[simp] theorem State.overtake_freeCount (s : State) (ldi : Nat) : (State.overtake s ldi).freeCount = s.freeCount := rfl
@[simp] theorem State.overtake_out (s : State) (ldi : Nat) : (State.overtake s ldi).out = s.out := rfl
@[simp] theorem State.overtake_pending (s : State) (ldi : Nat) : (State.overtake s ldi).pending = s.pending := rfl

@[simp] theorem State.openIntent_build (s : State) (lane : Nat) : (State.openIntent s lane).build = s.build := rfl
@[simp] theorem State.openIntent_tables (s : State) (lane : Nat) : (State.openIntent s lane).tables = s.tables := rfl
@[simp] theorem State.openIntent_weft (s : State) (lane : Nat) : (State.openIntent s lane).weft = s.weft := rfl
@[simp] theorem State.openIntent_shuttle (s : State) (lane : Nat) : (State.openIntent s lane).shuttle = s.shuttle := rfl
@[simp] theorem State.openIntent_batten (s : State) (lane : Nat) : (State.openIntent s lane).batten = s.batten := rfl
@[simp] theorem State.openIntent_spindle (s : State) (lane : Nat) : (State.openIntent s lane).spindle = s.spindle := rfl
@[simp] theorem State.openIntent_keys (s : State) (lane : Nat) : (State.openIntent s lane).keys = s.keys := rfl
@[simp] theorem State.openIntent_entropy (s : State) (lane : Nat) : (State.openIntent s lane).entropy = s.entropy := rfl
@[simp] theorem State.openIntent_spdm (s : State) (lane : Nat) : (State.openIntent s lane).spdm = s.spdm := rfl
@[simp] theorem State.openIntent_metering (s : State) (lane : Nat) : (State.openIntent s lane).metering = s.metering := rfl
@[simp] theorem State.openIntent_time (s : State) (lane : Nat) : (State.openIntent s lane).time = s.time := rfl
@[simp] theorem State.openIntent_log (s : State) (lane : Nat) : (State.openIntent s lane).log = s.log := rfl
@[simp] theorem State.openIntent_counters (s : State) (lane : Nat) : (State.openIntent s lane).counters = s.counters := rfl
@[simp] theorem State.openIntent_trace (s : State) (lane : Nat) : (State.openIntent s lane).trace = s.trace := rfl
@[simp] theorem State.openIntent_events (s : State) (lane : Nat) : (State.openIntent s lane).events = s.events := rfl
@[simp] theorem State.openIntent_bp (s : State) (lane : Nat) : (State.openIntent s lane).bp = s.bp := rfl
@[simp] theorem State.openIntent_mailbox (s : State) (lane : Nat) : (State.openIntent s lane).mailbox = s.mailbox := rfl
@[simp] theorem State.openIntent_otp (s : State) (lane : Nat) : (State.openIntent s lane).otp = s.otp := rfl
@[simp] theorem State.openIntent_power (s : State) (lane : Nat) : (State.openIntent s lane).power = s.power := rfl
@[simp] theorem State.openIntent_boot (s : State) (lane : Nat) : (State.openIntent s lane).boot = s.boot := rfl
@[simp] theorem State.openIntent_dbg (s : State) (lane : Nat) : (State.openIntent s lane).dbg = s.dbg := rfl
@[simp] theorem State.openIntent_baro (s : State) (lane : Nat) : (State.openIntent s lane).baro = s.baro := rfl
@[simp] theorem State.openIntent_link (s : State) (lane : Nat) : (State.openIntent s lane).link = s.link := rfl
@[simp] theorem State.openIntent_freeCount (s : State) (lane : Nat) : (State.openIntent s lane).freeCount = s.freeCount := rfl
@[simp] theorem State.openIntent_out (s : State) (lane : Nat) : (State.openIntent s lane).out = s.out := rfl
@[simp] theorem State.openIntent_pending (s : State) (lane : Nat) : (State.openIntent s lane).pending = s.pending := rfl

@[simp] theorem State.tookTurn_build (s : State) (k : Nat) : (State.tookTurn s k).build = s.build := rfl
@[simp] theorem State.tookTurn_tables (s : State) (k : Nat) : (State.tookTurn s k).tables = s.tables := rfl
@[simp] theorem State.tookTurn_weft (s : State) (k : Nat) : (State.tookTurn s k).weft = s.weft := rfl
@[simp] theorem State.tookTurn_shuttle (s : State) (k : Nat) : (State.tookTurn s k).shuttle = s.shuttle := rfl
@[simp] theorem State.tookTurn_batten (s : State) (k : Nat) : (State.tookTurn s k).batten = s.batten := rfl
@[simp] theorem State.tookTurn_spindle (s : State) (k : Nat) : (State.tookTurn s k).spindle = s.spindle := rfl
@[simp] theorem State.tookTurn_keys (s : State) (k : Nat) : (State.tookTurn s k).keys = s.keys := rfl
@[simp] theorem State.tookTurn_entropy (s : State) (k : Nat) : (State.tookTurn s k).entropy = s.entropy := rfl
@[simp] theorem State.tookTurn_spdm (s : State) (k : Nat) : (State.tookTurn s k).spdm = s.spdm := rfl
@[simp] theorem State.tookTurn_metering (s : State) (k : Nat) : (State.tookTurn s k).metering = s.metering := rfl
@[simp] theorem State.tookTurn_time (s : State) (k : Nat) : (State.tookTurn s k).time = s.time := rfl
@[simp] theorem State.tookTurn_log (s : State) (k : Nat) : (State.tookTurn s k).log = s.log := rfl
@[simp] theorem State.tookTurn_counters (s : State) (k : Nat) : (State.tookTurn s k).counters = s.counters := rfl
@[simp] theorem State.tookTurn_trace (s : State) (k : Nat) : (State.tookTurn s k).trace = s.trace := rfl
@[simp] theorem State.tookTurn_events (s : State) (k : Nat) : (State.tookTurn s k).events = s.events := rfl
@[simp] theorem State.tookTurn_bp (s : State) (k : Nat) : (State.tookTurn s k).bp = s.bp := rfl
@[simp] theorem State.tookTurn_mailbox (s : State) (k : Nat) : (State.tookTurn s k).mailbox = s.mailbox := rfl
@[simp] theorem State.tookTurn_otp (s : State) (k : Nat) : (State.tookTurn s k).otp = s.otp := rfl
@[simp] theorem State.tookTurn_power (s : State) (k : Nat) : (State.tookTurn s k).power = s.power := rfl
@[simp] theorem State.tookTurn_boot (s : State) (k : Nat) : (State.tookTurn s k).boot = s.boot := rfl
@[simp] theorem State.tookTurn_dbg (s : State) (k : Nat) : (State.tookTurn s k).dbg = s.dbg := rfl
@[simp] theorem State.tookTurn_baro (s : State) (k : Nat) : (State.tookTurn s k).baro = s.baro := rfl
@[simp] theorem State.tookTurn_link (s : State) (k : Nat) : (State.tookTurn s k).link = s.link := rfl
@[simp] theorem State.tookTurn_freeCount (s : State) (k : Nat) : (State.tookTurn s k).freeCount = s.freeCount := rfl
@[simp] theorem State.tookTurn_out (s : State) (k : Nat) : (State.tookTurn s k).out = s.out := rfl
@[simp] theorem State.tookTurn_pending (s : State) (k : Nat) : (State.tookTurn s k).pending = s.pending := rfl

@[simp] theorem State.haltNow_build (s : State) : (State.haltNow s).build = s.build := rfl
@[simp] theorem State.haltNow_tables (s : State) : (State.haltNow s).tables = s.tables := rfl
@[simp] theorem State.haltNow_weft (s : State) : (State.haltNow s).weft = s.weft := rfl
@[simp] theorem State.haltNow_shuttle (s : State) : (State.haltNow s).shuttle = s.shuttle := rfl
@[simp] theorem State.haltNow_batten (s : State) : (State.haltNow s).batten = s.batten := rfl
@[simp] theorem State.haltNow_spindle (s : State) : (State.haltNow s).spindle = s.spindle := rfl
@[simp] theorem State.haltNow_keys (s : State) : (State.haltNow s).keys = s.keys := rfl
@[simp] theorem State.haltNow_entropy (s : State) : (State.haltNow s).entropy = s.entropy := rfl
@[simp] theorem State.haltNow_spdm (s : State) : (State.haltNow s).spdm = s.spdm := rfl
@[simp] theorem State.haltNow_metering (s : State) : (State.haltNow s).metering = s.metering := rfl
@[simp] theorem State.haltNow_time (s : State) : (State.haltNow s).time = s.time := rfl
@[simp] theorem State.haltNow_log (s : State) : (State.haltNow s).log = s.log := rfl
@[simp] theorem State.haltNow_counters (s : State) : (State.haltNow s).counters = s.counters := rfl
@[simp] theorem State.haltNow_trace (s : State) : (State.haltNow s).trace = s.trace := rfl
@[simp] theorem State.haltNow_events (s : State) : (State.haltNow s).events = s.events := rfl
@[simp] theorem State.haltNow_bp (s : State) : (State.haltNow s).bp = s.bp := rfl
@[simp] theorem State.haltNow_mailbox (s : State) : (State.haltNow s).mailbox = s.mailbox := rfl
@[simp] theorem State.haltNow_otp (s : State) : (State.haltNow s).otp = s.otp := rfl
@[simp] theorem State.haltNow_power (s : State) : (State.haltNow s).power = s.power := rfl
@[simp] theorem State.haltNow_boot (s : State) : (State.haltNow s).boot = s.boot := rfl
@[simp] theorem State.haltNow_dbg (s : State) : (State.haltNow s).dbg = s.dbg := rfl
@[simp] theorem State.haltNow_baro (s : State) : (State.haltNow s).baro = s.baro := rfl
@[simp] theorem State.haltNow_link (s : State) : (State.haltNow s).link = s.link := rfl
@[simp] theorem State.haltNow_out (s : State) : (State.haltNow s).out = s.out := rfl
@[simp] theorem State.haltNow_pending (s : State) : (State.haltNow s).pending = s.pending := rfl

@[simp] theorem State.dropHandshake_build (s : State) (peer : Nat) : (State.dropHandshake s peer).build = s.build := rfl
@[simp] theorem State.dropHandshake_tables (s : State) (peer : Nat) : (State.dropHandshake s peer).tables = s.tables := rfl
@[simp] theorem State.dropHandshake_weft (s : State) (peer : Nat) : (State.dropHandshake s peer).weft = s.weft := rfl
@[simp] theorem State.dropHandshake_batten (s : State) (peer : Nat) : (State.dropHandshake s peer).batten = s.batten := rfl
@[simp] theorem State.dropHandshake_spindle (s : State) (peer : Nat) : (State.dropHandshake s peer).spindle = s.spindle := rfl
@[simp] theorem State.dropHandshake_keys (s : State) (peer : Nat) : (State.dropHandshake s peer).keys = s.keys := rfl
@[simp] theorem State.dropHandshake_entropy (s : State) (peer : Nat) : (State.dropHandshake s peer).entropy = s.entropy := rfl
@[simp] theorem State.dropHandshake_spdm (s : State) (peer : Nat) : (State.dropHandshake s peer).spdm = s.spdm := rfl
@[simp] theorem State.dropHandshake_metering (s : State) (peer : Nat) : (State.dropHandshake s peer).metering = s.metering := rfl
@[simp] theorem State.dropHandshake_time (s : State) (peer : Nat) : (State.dropHandshake s peer).time = s.time := rfl
@[simp] theorem State.dropHandshake_loom (s : State) (peer : Nat) : (State.dropHandshake s peer).loom = s.loom := rfl
@[simp] theorem State.dropHandshake_log (s : State) (peer : Nat) : (State.dropHandshake s peer).log = s.log := rfl
@[simp] theorem State.dropHandshake_counters (s : State) (peer : Nat) : (State.dropHandshake s peer).counters = s.counters := rfl
@[simp] theorem State.dropHandshake_trace (s : State) (peer : Nat) : (State.dropHandshake s peer).trace = s.trace := rfl
@[simp] theorem State.dropHandshake_events (s : State) (peer : Nat) : (State.dropHandshake s peer).events = s.events := rfl
@[simp] theorem State.dropHandshake_bp (s : State) (peer : Nat) : (State.dropHandshake s peer).bp = s.bp := rfl
@[simp] theorem State.dropHandshake_mailbox (s : State) (peer : Nat) : (State.dropHandshake s peer).mailbox = s.mailbox := rfl
@[simp] theorem State.dropHandshake_otp (s : State) (peer : Nat) : (State.dropHandshake s peer).otp = s.otp := rfl
@[simp] theorem State.dropHandshake_power (s : State) (peer : Nat) : (State.dropHandshake s peer).power = s.power := rfl
@[simp] theorem State.dropHandshake_boot (s : State) (peer : Nat) : (State.dropHandshake s peer).boot = s.boot := rfl
@[simp] theorem State.dropHandshake_dbg (s : State) (peer : Nat) : (State.dropHandshake s peer).dbg = s.dbg := rfl
@[simp] theorem State.dropHandshake_baro (s : State) (peer : Nat) : (State.dropHandshake s peer).baro = s.baro := rfl
@[simp] theorem State.dropHandshake_link (s : State) (peer : Nat) : (State.dropHandshake s peer).link = s.link := rfl
@[simp] theorem State.dropHandshake_freeCount (s : State) (peer : Nat) : (State.dropHandshake s peer).freeCount = s.freeCount := rfl
@[simp] theorem State.dropHandshake_out (s : State) (peer : Nat) : (State.dropHandshake s peer).out = s.out := rfl
@[simp] theorem State.dropHandshake_pending (s : State) (peer : Nat) : (State.dropHandshake s peer).pending = s.pending := rfl

@[simp] theorem State.rcDel_build (s : State) (p : RcEntry → Bool) : (State.rcDel s p).build = s.build := rfl
@[simp] theorem State.rcDel_tables (s : State) (p : RcEntry → Bool) : (State.rcDel s p).tables = s.tables := rfl
@[simp] theorem State.rcDel_weft (s : State) (p : RcEntry → Bool) : (State.rcDel s p).weft = s.weft := rfl
@[simp] theorem State.rcDel_batten (s : State) (p : RcEntry → Bool) : (State.rcDel s p).batten = s.batten := rfl
@[simp] theorem State.rcDel_spindle (s : State) (p : RcEntry → Bool) : (State.rcDel s p).spindle = s.spindle := rfl
@[simp] theorem State.rcDel_keys (s : State) (p : RcEntry → Bool) : (State.rcDel s p).keys = s.keys := rfl
@[simp] theorem State.rcDel_entropy (s : State) (p : RcEntry → Bool) : (State.rcDel s p).entropy = s.entropy := rfl
@[simp] theorem State.rcDel_spdm (s : State) (p : RcEntry → Bool) : (State.rcDel s p).spdm = s.spdm := rfl
@[simp] theorem State.rcDel_metering (s : State) (p : RcEntry → Bool) : (State.rcDel s p).metering = s.metering := rfl
@[simp] theorem State.rcDel_time (s : State) (p : RcEntry → Bool) : (State.rcDel s p).time = s.time := rfl
@[simp] theorem State.rcDel_loom (s : State) (p : RcEntry → Bool) : (State.rcDel s p).loom = s.loom := rfl
@[simp] theorem State.rcDel_log (s : State) (p : RcEntry → Bool) : (State.rcDel s p).log = s.log := rfl
@[simp] theorem State.rcDel_counters (s : State) (p : RcEntry → Bool) : (State.rcDel s p).counters = s.counters := rfl
@[simp] theorem State.rcDel_trace (s : State) (p : RcEntry → Bool) : (State.rcDel s p).trace = s.trace := rfl
@[simp] theorem State.rcDel_events (s : State) (p : RcEntry → Bool) : (State.rcDel s p).events = s.events := rfl
@[simp] theorem State.rcDel_bp (s : State) (p : RcEntry → Bool) : (State.rcDel s p).bp = s.bp := rfl
@[simp] theorem State.rcDel_mailbox (s : State) (p : RcEntry → Bool) : (State.rcDel s p).mailbox = s.mailbox := rfl
@[simp] theorem State.rcDel_otp (s : State) (p : RcEntry → Bool) : (State.rcDel s p).otp = s.otp := rfl
@[simp] theorem State.rcDel_power (s : State) (p : RcEntry → Bool) : (State.rcDel s p).power = s.power := rfl
@[simp] theorem State.rcDel_boot (s : State) (p : RcEntry → Bool) : (State.rcDel s p).boot = s.boot := rfl
@[simp] theorem State.rcDel_dbg (s : State) (p : RcEntry → Bool) : (State.rcDel s p).dbg = s.dbg := rfl
@[simp] theorem State.rcDel_baro (s : State) (p : RcEntry → Bool) : (State.rcDel s p).baro = s.baro := rfl
@[simp] theorem State.rcDel_link (s : State) (p : RcEntry → Bool) : (State.rcDel s p).link = s.link := rfl
@[simp] theorem State.rcDel_freeCount (s : State) (p : RcEntry → Bool) : (State.rcDel s p).freeCount = s.freeCount := rfl
@[simp] theorem State.rcDel_out (s : State) (p : RcEntry → Bool) : (State.rcDel s p).out = s.out := rfl
@[simp] theorem State.rcDel_pending (s : State) (p : RcEntry → Bool) : (State.rcDel s p).pending = s.pending := rfl

@[simp] theorem State.rcAdd_build (s : State) (e : RcEntry) : (State.rcAdd s e).build = s.build := rfl
@[simp] theorem State.rcAdd_tables (s : State) (e : RcEntry) : (State.rcAdd s e).tables = s.tables := rfl
@[simp] theorem State.rcAdd_weft (s : State) (e : RcEntry) : (State.rcAdd s e).weft = s.weft := rfl
@[simp] theorem State.rcAdd_batten (s : State) (e : RcEntry) : (State.rcAdd s e).batten = s.batten := rfl
@[simp] theorem State.rcAdd_spindle (s : State) (e : RcEntry) : (State.rcAdd s e).spindle = s.spindle := rfl
@[simp] theorem State.rcAdd_keys (s : State) (e : RcEntry) : (State.rcAdd s e).keys = s.keys := rfl
@[simp] theorem State.rcAdd_entropy (s : State) (e : RcEntry) : (State.rcAdd s e).entropy = s.entropy := rfl
@[simp] theorem State.rcAdd_spdm (s : State) (e : RcEntry) : (State.rcAdd s e).spdm = s.spdm := rfl
@[simp] theorem State.rcAdd_metering (s : State) (e : RcEntry) : (State.rcAdd s e).metering = s.metering := rfl
@[simp] theorem State.rcAdd_time (s : State) (e : RcEntry) : (State.rcAdd s e).time = s.time := rfl
@[simp] theorem State.rcAdd_loom (s : State) (e : RcEntry) : (State.rcAdd s e).loom = s.loom := rfl
@[simp] theorem State.rcAdd_log (s : State) (e : RcEntry) : (State.rcAdd s e).log = s.log := rfl
@[simp] theorem State.rcAdd_counters (s : State) (e : RcEntry) : (State.rcAdd s e).counters = s.counters := rfl
@[simp] theorem State.rcAdd_trace (s : State) (e : RcEntry) : (State.rcAdd s e).trace = s.trace := rfl
@[simp] theorem State.rcAdd_events (s : State) (e : RcEntry) : (State.rcAdd s e).events = s.events := rfl
@[simp] theorem State.rcAdd_bp (s : State) (e : RcEntry) : (State.rcAdd s e).bp = s.bp := rfl
@[simp] theorem State.rcAdd_mailbox (s : State) (e : RcEntry) : (State.rcAdd s e).mailbox = s.mailbox := rfl
@[simp] theorem State.rcAdd_otp (s : State) (e : RcEntry) : (State.rcAdd s e).otp = s.otp := rfl
@[simp] theorem State.rcAdd_power (s : State) (e : RcEntry) : (State.rcAdd s e).power = s.power := rfl
@[simp] theorem State.rcAdd_boot (s : State) (e : RcEntry) : (State.rcAdd s e).boot = s.boot := rfl
@[simp] theorem State.rcAdd_dbg (s : State) (e : RcEntry) : (State.rcAdd s e).dbg = s.dbg := rfl
@[simp] theorem State.rcAdd_baro (s : State) (e : RcEntry) : (State.rcAdd s e).baro = s.baro := rfl
@[simp] theorem State.rcAdd_link (s : State) (e : RcEntry) : (State.rcAdd s e).link = s.link := rfl
@[simp] theorem State.rcAdd_freeCount (s : State) (e : RcEntry) : (State.rcAdd s e).freeCount = s.freeCount := rfl
@[simp] theorem State.rcAdd_out (s : State) (e : RcEntry) : (State.rcAdd s e).out = s.out := rfl
@[simp] theorem State.rcAdd_pending (s : State) (e : RcEntry) : (State.rcAdd s e).pending = s.pending := rfl

@[simp] theorem State.rcSet_build (s : State) (e : RcEntry) : (State.rcSet s e).build = s.build := rfl
@[simp] theorem State.rcSet_tables (s : State) (e : RcEntry) : (State.rcSet s e).tables = s.tables := rfl
@[simp] theorem State.rcSet_weft (s : State) (e : RcEntry) : (State.rcSet s e).weft = s.weft := rfl
@[simp] theorem State.rcSet_batten (s : State) (e : RcEntry) : (State.rcSet s e).batten = s.batten := rfl
@[simp] theorem State.rcSet_spindle (s : State) (e : RcEntry) : (State.rcSet s e).spindle = s.spindle := rfl
@[simp] theorem State.rcSet_keys (s : State) (e : RcEntry) : (State.rcSet s e).keys = s.keys := rfl
@[simp] theorem State.rcSet_entropy (s : State) (e : RcEntry) : (State.rcSet s e).entropy = s.entropy := rfl
@[simp] theorem State.rcSet_spdm (s : State) (e : RcEntry) : (State.rcSet s e).spdm = s.spdm := rfl
@[simp] theorem State.rcSet_metering (s : State) (e : RcEntry) : (State.rcSet s e).metering = s.metering := rfl
@[simp] theorem State.rcSet_time (s : State) (e : RcEntry) : (State.rcSet s e).time = s.time := rfl
@[simp] theorem State.rcSet_loom (s : State) (e : RcEntry) : (State.rcSet s e).loom = s.loom := rfl
@[simp] theorem State.rcSet_log (s : State) (e : RcEntry) : (State.rcSet s e).log = s.log := rfl
@[simp] theorem State.rcSet_counters (s : State) (e : RcEntry) : (State.rcSet s e).counters = s.counters := rfl
@[simp] theorem State.rcSet_trace (s : State) (e : RcEntry) : (State.rcSet s e).trace = s.trace := rfl
@[simp] theorem State.rcSet_events (s : State) (e : RcEntry) : (State.rcSet s e).events = s.events := rfl
@[simp] theorem State.rcSet_bp (s : State) (e : RcEntry) : (State.rcSet s e).bp = s.bp := rfl
@[simp] theorem State.rcSet_mailbox (s : State) (e : RcEntry) : (State.rcSet s e).mailbox = s.mailbox := rfl
@[simp] theorem State.rcSet_otp (s : State) (e : RcEntry) : (State.rcSet s e).otp = s.otp := rfl
@[simp] theorem State.rcSet_power (s : State) (e : RcEntry) : (State.rcSet s e).power = s.power := rfl
@[simp] theorem State.rcSet_boot (s : State) (e : RcEntry) : (State.rcSet s e).boot = s.boot := rfl
@[simp] theorem State.rcSet_dbg (s : State) (e : RcEntry) : (State.rcSet s e).dbg = s.dbg := rfl
@[simp] theorem State.rcSet_baro (s : State) (e : RcEntry) : (State.rcSet s e).baro = s.baro := rfl
@[simp] theorem State.rcSet_link (s : State) (e : RcEntry) : (State.rcSet s e).link = s.link := rfl
@[simp] theorem State.rcSet_freeCount (s : State) (e : RcEntry) : (State.rcSet s e).freeCount = s.freeCount := rfl
@[simp] theorem State.rcSet_out (s : State) (e : RcEntry) : (State.rcSet s e).out = s.out := rfl
@[simp] theorem State.rcSet_pending (s : State) (e : RcEntry) : (State.rcSet s e).pending = s.pending := rfl

@[simp] theorem State.forgetAtoms_build (s : State) (ldi : Nat) : (State.forgetAtoms s ldi).build = s.build := rfl
@[simp] theorem State.forgetAtoms_tables (s : State) (ldi : Nat) : (State.forgetAtoms s ldi).tables = s.tables := rfl
@[simp] theorem State.forgetAtoms_weft (s : State) (ldi : Nat) : (State.forgetAtoms s ldi).weft = s.weft := rfl
@[simp] theorem State.forgetAtoms_batten (s : State) (ldi : Nat) : (State.forgetAtoms s ldi).batten = s.batten := rfl
@[simp] theorem State.forgetAtoms_spindle (s : State) (ldi : Nat) : (State.forgetAtoms s ldi).spindle = s.spindle := rfl
@[simp] theorem State.forgetAtoms_keys (s : State) (ldi : Nat) : (State.forgetAtoms s ldi).keys = s.keys := rfl
@[simp] theorem State.forgetAtoms_entropy (s : State) (ldi : Nat) : (State.forgetAtoms s ldi).entropy = s.entropy := rfl
@[simp] theorem State.forgetAtoms_spdm (s : State) (ldi : Nat) : (State.forgetAtoms s ldi).spdm = s.spdm := rfl
@[simp] theorem State.forgetAtoms_metering (s : State) (ldi : Nat) : (State.forgetAtoms s ldi).metering = s.metering := rfl
@[simp] theorem State.forgetAtoms_time (s : State) (ldi : Nat) : (State.forgetAtoms s ldi).time = s.time := rfl
@[simp] theorem State.forgetAtoms_loom (s : State) (ldi : Nat) : (State.forgetAtoms s ldi).loom = s.loom := rfl
@[simp] theorem State.forgetAtoms_log (s : State) (ldi : Nat) : (State.forgetAtoms s ldi).log = s.log := rfl
@[simp] theorem State.forgetAtoms_counters (s : State) (ldi : Nat) : (State.forgetAtoms s ldi).counters = s.counters := rfl
@[simp] theorem State.forgetAtoms_trace (s : State) (ldi : Nat) : (State.forgetAtoms s ldi).trace = s.trace := rfl
@[simp] theorem State.forgetAtoms_events (s : State) (ldi : Nat) : (State.forgetAtoms s ldi).events = s.events := rfl
@[simp] theorem State.forgetAtoms_bp (s : State) (ldi : Nat) : (State.forgetAtoms s ldi).bp = s.bp := rfl
@[simp] theorem State.forgetAtoms_mailbox (s : State) (ldi : Nat) : (State.forgetAtoms s ldi).mailbox = s.mailbox := rfl
@[simp] theorem State.forgetAtoms_otp (s : State) (ldi : Nat) : (State.forgetAtoms s ldi).otp = s.otp := rfl
@[simp] theorem State.forgetAtoms_power (s : State) (ldi : Nat) : (State.forgetAtoms s ldi).power = s.power := rfl
@[simp] theorem State.forgetAtoms_boot (s : State) (ldi : Nat) : (State.forgetAtoms s ldi).boot = s.boot := rfl
@[simp] theorem State.forgetAtoms_dbg (s : State) (ldi : Nat) : (State.forgetAtoms s ldi).dbg = s.dbg := rfl
@[simp] theorem State.forgetAtoms_baro (s : State) (ldi : Nat) : (State.forgetAtoms s ldi).baro = s.baro := rfl
@[simp] theorem State.forgetAtoms_link (s : State) (ldi : Nat) : (State.forgetAtoms s ldi).link = s.link := rfl
@[simp] theorem State.forgetAtoms_freeCount (s : State) (ldi : Nat) : (State.forgetAtoms s ldi).freeCount = s.freeCount := rfl
@[simp] theorem State.forgetAtoms_out (s : State) (ldi : Nat) : (State.forgetAtoms s ldi).out = s.out := rfl
@[simp] theorem State.forgetAtoms_pending (s : State) (ldi : Nat) : (State.forgetAtoms s ldi).pending = s.pending := rfl

@[simp] theorem State.dropRxq_build (s : State) (f : RxPkt → Bool) : (State.dropRxq s f).build = s.build := rfl
@[simp] theorem State.dropRxq_tables (s : State) (f : RxPkt → Bool) : (State.dropRxq s f).tables = s.tables := rfl
@[simp] theorem State.dropRxq_weft (s : State) (f : RxPkt → Bool) : (State.dropRxq s f).weft = s.weft := rfl
@[simp] theorem State.dropRxq_batten (s : State) (f : RxPkt → Bool) : (State.dropRxq s f).batten = s.batten := rfl
@[simp] theorem State.dropRxq_spindle (s : State) (f : RxPkt → Bool) : (State.dropRxq s f).spindle = s.spindle := rfl
@[simp] theorem State.dropRxq_keys (s : State) (f : RxPkt → Bool) : (State.dropRxq s f).keys = s.keys := rfl
@[simp] theorem State.dropRxq_entropy (s : State) (f : RxPkt → Bool) : (State.dropRxq s f).entropy = s.entropy := rfl
@[simp] theorem State.dropRxq_spdm (s : State) (f : RxPkt → Bool) : (State.dropRxq s f).spdm = s.spdm := rfl
@[simp] theorem State.dropRxq_metering (s : State) (f : RxPkt → Bool) : (State.dropRxq s f).metering = s.metering := rfl
@[simp] theorem State.dropRxq_time (s : State) (f : RxPkt → Bool) : (State.dropRxq s f).time = s.time := rfl
@[simp] theorem State.dropRxq_loom (s : State) (f : RxPkt → Bool) : (State.dropRxq s f).loom = s.loom := rfl
@[simp] theorem State.dropRxq_log (s : State) (f : RxPkt → Bool) : (State.dropRxq s f).log = s.log := rfl
@[simp] theorem State.dropRxq_counters (s : State) (f : RxPkt → Bool) : (State.dropRxq s f).counters = s.counters := rfl
@[simp] theorem State.dropRxq_trace (s : State) (f : RxPkt → Bool) : (State.dropRxq s f).trace = s.trace := rfl
@[simp] theorem State.dropRxq_events (s : State) (f : RxPkt → Bool) : (State.dropRxq s f).events = s.events := rfl
@[simp] theorem State.dropRxq_bp (s : State) (f : RxPkt → Bool) : (State.dropRxq s f).bp = s.bp := rfl
@[simp] theorem State.dropRxq_mailbox (s : State) (f : RxPkt → Bool) : (State.dropRxq s f).mailbox = s.mailbox := rfl
@[simp] theorem State.dropRxq_otp (s : State) (f : RxPkt → Bool) : (State.dropRxq s f).otp = s.otp := rfl
@[simp] theorem State.dropRxq_power (s : State) (f : RxPkt → Bool) : (State.dropRxq s f).power = s.power := rfl
@[simp] theorem State.dropRxq_boot (s : State) (f : RxPkt → Bool) : (State.dropRxq s f).boot = s.boot := rfl
@[simp] theorem State.dropRxq_dbg (s : State) (f : RxPkt → Bool) : (State.dropRxq s f).dbg = s.dbg := rfl
@[simp] theorem State.dropRxq_baro (s : State) (f : RxPkt → Bool) : (State.dropRxq s f).baro = s.baro := rfl
@[simp] theorem State.dropRxq_link (s : State) (f : RxPkt → Bool) : (State.dropRxq s f).link = s.link := rfl
@[simp] theorem State.dropRxq_freeCount (s : State) (f : RxPkt → Bool) : (State.dropRxq s f).freeCount = s.freeCount := rfl
@[simp] theorem State.dropRxq_out (s : State) (f : RxPkt → Bool) : (State.dropRxq s f).out = s.out := rfl
@[simp] theorem State.dropRxq_pending (s : State) (f : RxPkt → Bool) : (State.dropRxq s f).pending = s.pending := rfl

@[simp] theorem State.escalate_build (s : State) : (State.escalate s).build = s.build := rfl
@[simp] theorem State.escalate_tables (s : State) : (State.escalate s).tables = s.tables := rfl
@[simp] theorem State.escalate_weft (s : State) : (State.escalate s).weft = s.weft := rfl
@[simp] theorem State.escalate_shuttle (s : State) : (State.escalate s).shuttle = s.shuttle := rfl
@[simp] theorem State.escalate_batten (s : State) : (State.escalate s).batten = s.batten := rfl
@[simp] theorem State.escalate_spindle (s : State) : (State.escalate s).spindle = s.spindle := rfl
@[simp] theorem State.escalate_keys (s : State) : (State.escalate s).keys = s.keys := rfl
@[simp] theorem State.escalate_entropy (s : State) : (State.escalate s).entropy = s.entropy := rfl
@[simp] theorem State.escalate_spdm (s : State) : (State.escalate s).spdm = s.spdm := rfl
@[simp] theorem State.escalate_metering (s : State) : (State.escalate s).metering = s.metering := rfl
@[simp] theorem State.escalate_time (s : State) : (State.escalate s).time = s.time := rfl
@[simp] theorem State.escalate_log (s : State) : (State.escalate s).log = s.log := rfl
@[simp] theorem State.escalate_counters (s : State) : (State.escalate s).counters = s.counters := rfl
@[simp] theorem State.escalate_trace (s : State) : (State.escalate s).trace = s.trace := rfl
@[simp] theorem State.escalate_events (s : State) : (State.escalate s).events = s.events := rfl
@[simp] theorem State.escalate_bp (s : State) : (State.escalate s).bp = s.bp := rfl
@[simp] theorem State.escalate_mailbox (s : State) : (State.escalate s).mailbox = s.mailbox := rfl
@[simp] theorem State.escalate_otp (s : State) : (State.escalate s).otp = s.otp := rfl
@[simp] theorem State.escalate_power (s : State) : (State.escalate s).power = s.power := rfl
@[simp] theorem State.escalate_boot (s : State) : (State.escalate s).boot = s.boot := rfl
@[simp] theorem State.escalate_dbg (s : State) : (State.escalate s).dbg = s.dbg := rfl
@[simp] theorem State.escalate_baro (s : State) : (State.escalate s).baro = s.baro := rfl
@[simp] theorem State.escalate_link (s : State) : (State.escalate s).link = s.link := rfl
@[simp] theorem State.escalate_freeCount (s : State) : (State.escalate s).freeCount = s.freeCount := rfl
@[simp] theorem State.escalate_out (s : State) : (State.escalate s).out = s.out := rfl
@[simp] theorem State.escalate_pending (s : State) : (State.escalate s).pending = s.pending := rfl

@[simp] theorem State.post_build (s : State) (ldi handle status : Nat) (origin : FenceOrigin) : (State.post s ldi handle status origin).build = s.build := rfl
@[simp] theorem State.post_weft (s : State) (ldi handle status : Nat) (origin : FenceOrigin) : (State.post s ldi handle status origin).weft = s.weft := rfl
@[simp] theorem State.post_shuttle (s : State) (ldi handle status : Nat) (origin : FenceOrigin) : (State.post s ldi handle status origin).shuttle = s.shuttle := rfl
@[simp] theorem State.post_batten (s : State) (ldi handle status : Nat) (origin : FenceOrigin) : (State.post s ldi handle status origin).batten = s.batten := rfl
@[simp] theorem State.post_spindle (s : State) (ldi handle status : Nat) (origin : FenceOrigin) : (State.post s ldi handle status origin).spindle = s.spindle := rfl
@[simp] theorem State.post_keys (s : State) (ldi handle status : Nat) (origin : FenceOrigin) : (State.post s ldi handle status origin).keys = s.keys := rfl
@[simp] theorem State.post_entropy (s : State) (ldi handle status : Nat) (origin : FenceOrigin) : (State.post s ldi handle status origin).entropy = s.entropy := rfl
@[simp] theorem State.post_spdm (s : State) (ldi handle status : Nat) (origin : FenceOrigin) : (State.post s ldi handle status origin).spdm = s.spdm := rfl
@[simp] theorem State.post_metering (s : State) (ldi handle status : Nat) (origin : FenceOrigin) : (State.post s ldi handle status origin).metering = s.metering := rfl
@[simp] theorem State.post_time (s : State) (ldi handle status : Nat) (origin : FenceOrigin) : (State.post s ldi handle status origin).time = s.time := rfl
@[simp] theorem State.post_loom (s : State) (ldi handle status : Nat) (origin : FenceOrigin) : (State.post s ldi handle status origin).loom = s.loom := rfl
@[simp] theorem State.post_log (s : State) (ldi handle status : Nat) (origin : FenceOrigin) : (State.post s ldi handle status origin).log = s.log := rfl
@[simp] theorem State.post_counters (s : State) (ldi handle status : Nat) (origin : FenceOrigin) : (State.post s ldi handle status origin).counters = s.counters := rfl
@[simp] theorem State.post_trace (s : State) (ldi handle status : Nat) (origin : FenceOrigin) : (State.post s ldi handle status origin).trace = s.trace := rfl
@[simp] theorem State.post_events (s : State) (ldi handle status : Nat) (origin : FenceOrigin) : (State.post s ldi handle status origin).events = s.events := rfl
@[simp] theorem State.post_bp (s : State) (ldi handle status : Nat) (origin : FenceOrigin) : (State.post s ldi handle status origin).bp = s.bp := rfl
@[simp] theorem State.post_mailbox (s : State) (ldi handle status : Nat) (origin : FenceOrigin) : (State.post s ldi handle status origin).mailbox = s.mailbox := rfl
@[simp] theorem State.post_otp (s : State) (ldi handle status : Nat) (origin : FenceOrigin) : (State.post s ldi handle status origin).otp = s.otp := rfl
@[simp] theorem State.post_power (s : State) (ldi handle status : Nat) (origin : FenceOrigin) : (State.post s ldi handle status origin).power = s.power := rfl
@[simp] theorem State.post_boot (s : State) (ldi handle status : Nat) (origin : FenceOrigin) : (State.post s ldi handle status origin).boot = s.boot := rfl
@[simp] theorem State.post_dbg (s : State) (ldi handle status : Nat) (origin : FenceOrigin) : (State.post s ldi handle status origin).dbg = s.dbg := rfl
@[simp] theorem State.post_baro (s : State) (ldi handle status : Nat) (origin : FenceOrigin) : (State.post s ldi handle status origin).baro = s.baro := rfl
@[simp] theorem State.post_link (s : State) (ldi handle status : Nat) (origin : FenceOrigin) : (State.post s ldi handle status origin).link = s.link := rfl
@[simp] theorem State.post_freeCount (s : State) (ldi handle status : Nat) (origin : FenceOrigin) : (State.post s ldi handle status origin).freeCount = s.freeCount := rfl
@[simp] theorem State.post_out (s : State) (ldi handle status : Nat) (origin : FenceOrigin) : (State.post s ldi handle status origin).out = s.out := rfl
@[simp] theorem State.post_pending (s : State) (ldi handle status : Nat) (origin : FenceOrigin) : (State.post s ldi handle status origin).pending = s.pending := rfl

@[simp] theorem State.wake_build (s : State) (jid : Nat) : (State.wake s jid).build = s.build := rfl
@[simp] theorem State.wake_tables (s : State) (jid : Nat) : (State.wake s jid).tables = s.tables := rfl
@[simp] theorem State.wake_weft (s : State) (jid : Nat) : (State.wake s jid).weft = s.weft := rfl
@[simp] theorem State.wake_shuttle (s : State) (jid : Nat) : (State.wake s jid).shuttle = s.shuttle := rfl
@[simp] theorem State.wake_batten (s : State) (jid : Nat) : (State.wake s jid).batten = s.batten := rfl
@[simp] theorem State.wake_spindle (s : State) (jid : Nat) : (State.wake s jid).spindle = s.spindle := rfl
@[simp] theorem State.wake_keys (s : State) (jid : Nat) : (State.wake s jid).keys = s.keys := rfl
@[simp] theorem State.wake_entropy (s : State) (jid : Nat) : (State.wake s jid).entropy = s.entropy := rfl
@[simp] theorem State.wake_spdm (s : State) (jid : Nat) : (State.wake s jid).spdm = s.spdm := rfl
@[simp] theorem State.wake_metering (s : State) (jid : Nat) : (State.wake s jid).metering = s.metering := rfl
@[simp] theorem State.wake_time (s : State) (jid : Nat) : (State.wake s jid).time = s.time := rfl
@[simp] theorem State.wake_log (s : State) (jid : Nat) : (State.wake s jid).log = s.log := rfl
@[simp] theorem State.wake_counters (s : State) (jid : Nat) : (State.wake s jid).counters = s.counters := rfl
@[simp] theorem State.wake_trace (s : State) (jid : Nat) : (State.wake s jid).trace = s.trace := rfl
@[simp] theorem State.wake_events (s : State) (jid : Nat) : (State.wake s jid).events = s.events := rfl
@[simp] theorem State.wake_bp (s : State) (jid : Nat) : (State.wake s jid).bp = s.bp := rfl
@[simp] theorem State.wake_mailbox (s : State) (jid : Nat) : (State.wake s jid).mailbox = s.mailbox := rfl
@[simp] theorem State.wake_otp (s : State) (jid : Nat) : (State.wake s jid).otp = s.otp := rfl
@[simp] theorem State.wake_power (s : State) (jid : Nat) : (State.wake s jid).power = s.power := rfl
@[simp] theorem State.wake_boot (s : State) (jid : Nat) : (State.wake s jid).boot = s.boot := rfl
@[simp] theorem State.wake_dbg (s : State) (jid : Nat) : (State.wake s jid).dbg = s.dbg := rfl
@[simp] theorem State.wake_baro (s : State) (jid : Nat) : (State.wake s jid).baro = s.baro := rfl
@[simp] theorem State.wake_link (s : State) (jid : Nat) : (State.wake s jid).link = s.link := rfl
@[simp] theorem State.wake_freeCount (s : State) (jid : Nat) : (State.wake s jid).freeCount = s.freeCount := rfl
@[simp] theorem State.wake_out (s : State) (jid : Nat) : (State.wake s jid).out = s.out := rfl
@[simp] theorem State.wake_pending (s : State) (jid : Nat) : (State.wake s jid).pending = s.pending := rfl

@[simp] theorem State.reseed_build (s : State) : (State.reseed s).build = s.build := rfl
@[simp] theorem State.reseed_tables (s : State) : (State.reseed s).tables = s.tables := rfl
@[simp] theorem State.reseed_weft (s : State) : (State.reseed s).weft = s.weft := rfl
@[simp] theorem State.reseed_shuttle (s : State) : (State.reseed s).shuttle = s.shuttle := rfl
@[simp] theorem State.reseed_batten (s : State) : (State.reseed s).batten = s.batten := rfl
@[simp] theorem State.reseed_spindle (s : State) : (State.reseed s).spindle = s.spindle := rfl
@[simp] theorem State.reseed_keys (s : State) : (State.reseed s).keys = s.keys := rfl
@[simp] theorem State.reseed_spdm (s : State) : (State.reseed s).spdm = s.spdm := rfl
@[simp] theorem State.reseed_metering (s : State) : (State.reseed s).metering = s.metering := rfl
@[simp] theorem State.reseed_time (s : State) : (State.reseed s).time = s.time := rfl
@[simp] theorem State.reseed_loom (s : State) : (State.reseed s).loom = s.loom := rfl
@[simp] theorem State.reseed_log (s : State) : (State.reseed s).log = s.log := rfl
@[simp] theorem State.reseed_counters (s : State) : (State.reseed s).counters = s.counters := rfl
@[simp] theorem State.reseed_trace (s : State) : (State.reseed s).trace = s.trace := rfl
@[simp] theorem State.reseed_events (s : State) : (State.reseed s).events = s.events := rfl
@[simp] theorem State.reseed_bp (s : State) : (State.reseed s).bp = s.bp := rfl
@[simp] theorem State.reseed_mailbox (s : State) : (State.reseed s).mailbox = s.mailbox := rfl
@[simp] theorem State.reseed_otp (s : State) : (State.reseed s).otp = s.otp := rfl
@[simp] theorem State.reseed_power (s : State) : (State.reseed s).power = s.power := rfl
@[simp] theorem State.reseed_boot (s : State) : (State.reseed s).boot = s.boot := rfl
@[simp] theorem State.reseed_dbg (s : State) : (State.reseed s).dbg = s.dbg := rfl
@[simp] theorem State.reseed_baro (s : State) : (State.reseed s).baro = s.baro := rfl
@[simp] theorem State.reseed_link (s : State) : (State.reseed s).link = s.link := rfl
@[simp] theorem State.reseed_freeCount (s : State) : (State.reseed s).freeCount = s.freeCount := rfl
@[simp] theorem State.reseed_out (s : State) : (State.reseed s).out = s.out := rfl
@[simp] theorem State.reseed_pending (s : State) : (State.reseed s).pending = s.pending := rfl

@[simp] theorem State.countDropped_build (s : State) : (State.countDropped s).build = s.build := rfl
@[simp] theorem State.countDropped_tables (s : State) : (State.countDropped s).tables = s.tables := rfl
@[simp] theorem State.countDropped_weft (s : State) : (State.countDropped s).weft = s.weft := rfl
@[simp] theorem State.countDropped_shuttle (s : State) : (State.countDropped s).shuttle = s.shuttle := rfl
@[simp] theorem State.countDropped_batten (s : State) : (State.countDropped s).batten = s.batten := rfl
@[simp] theorem State.countDropped_spindle (s : State) : (State.countDropped s).spindle = s.spindle := rfl
@[simp] theorem State.countDropped_keys (s : State) : (State.countDropped s).keys = s.keys := rfl
@[simp] theorem State.countDropped_entropy (s : State) : (State.countDropped s).entropy = s.entropy := rfl
@[simp] theorem State.countDropped_spdm (s : State) : (State.countDropped s).spdm = s.spdm := rfl
@[simp] theorem State.countDropped_metering (s : State) : (State.countDropped s).metering = s.metering := rfl
@[simp] theorem State.countDropped_time (s : State) : (State.countDropped s).time = s.time := rfl
@[simp] theorem State.countDropped_loom (s : State) : (State.countDropped s).loom = s.loom := rfl
@[simp] theorem State.countDropped_log (s : State) : (State.countDropped s).log = s.log := rfl
@[simp] theorem State.countDropped_trace (s : State) : (State.countDropped s).trace = s.trace := rfl
@[simp] theorem State.countDropped_events (s : State) : (State.countDropped s).events = s.events := rfl
@[simp] theorem State.countDropped_bp (s : State) : (State.countDropped s).bp = s.bp := rfl
@[simp] theorem State.countDropped_mailbox (s : State) : (State.countDropped s).mailbox = s.mailbox := rfl
@[simp] theorem State.countDropped_otp (s : State) : (State.countDropped s).otp = s.otp := rfl
@[simp] theorem State.countDropped_power (s : State) : (State.countDropped s).power = s.power := rfl
@[simp] theorem State.countDropped_boot (s : State) : (State.countDropped s).boot = s.boot := rfl
@[simp] theorem State.countDropped_dbg (s : State) : (State.countDropped s).dbg = s.dbg := rfl
@[simp] theorem State.countDropped_baro (s : State) : (State.countDropped s).baro = s.baro := rfl
@[simp] theorem State.countDropped_link (s : State) : (State.countDropped s).link = s.link := rfl
@[simp] theorem State.countDropped_freeCount (s : State) : (State.countDropped s).freeCount = s.freeCount := rfl
@[simp] theorem State.countDropped_out (s : State) : (State.countDropped s).out = s.out := rfl
@[simp] theorem State.countDropped_pending (s : State) : (State.countDropped s).pending = s.pending := rfl

@[simp] theorem State.armFreeze_build (s : State) (a : ArmedFreeze) : (State.armFreeze s a).build = s.build := rfl
@[simp] theorem State.armFreeze_tables (s : State) (a : ArmedFreeze) : (State.armFreeze s a).tables = s.tables := rfl
@[simp] theorem State.armFreeze_weft (s : State) (a : ArmedFreeze) : (State.armFreeze s a).weft = s.weft := rfl
@[simp] theorem State.armFreeze_shuttle (s : State) (a : ArmedFreeze) : (State.armFreeze s a).shuttle = s.shuttle := rfl
@[simp] theorem State.armFreeze_batten (s : State) (a : ArmedFreeze) : (State.armFreeze s a).batten = s.batten := rfl
@[simp] theorem State.armFreeze_spindle (s : State) (a : ArmedFreeze) : (State.armFreeze s a).spindle = s.spindle := rfl
@[simp] theorem State.armFreeze_keys (s : State) (a : ArmedFreeze) : (State.armFreeze s a).keys = s.keys := rfl
@[simp] theorem State.armFreeze_entropy (s : State) (a : ArmedFreeze) : (State.armFreeze s a).entropy = s.entropy := rfl
@[simp] theorem State.armFreeze_spdm (s : State) (a : ArmedFreeze) : (State.armFreeze s a).spdm = s.spdm := rfl
@[simp] theorem State.armFreeze_metering (s : State) (a : ArmedFreeze) : (State.armFreeze s a).metering = s.metering := rfl
@[simp] theorem State.armFreeze_time (s : State) (a : ArmedFreeze) : (State.armFreeze s a).time = s.time := rfl
@[simp] theorem State.armFreeze_loom (s : State) (a : ArmedFreeze) : (State.armFreeze s a).loom = s.loom := rfl
@[simp] theorem State.armFreeze_log (s : State) (a : ArmedFreeze) : (State.armFreeze s a).log = s.log := rfl
@[simp] theorem State.armFreeze_trace (s : State) (a : ArmedFreeze) : (State.armFreeze s a).trace = s.trace := rfl
@[simp] theorem State.armFreeze_events (s : State) (a : ArmedFreeze) : (State.armFreeze s a).events = s.events := rfl
@[simp] theorem State.armFreeze_bp (s : State) (a : ArmedFreeze) : (State.armFreeze s a).bp = s.bp := rfl
@[simp] theorem State.armFreeze_mailbox (s : State) (a : ArmedFreeze) : (State.armFreeze s a).mailbox = s.mailbox := rfl
@[simp] theorem State.armFreeze_otp (s : State) (a : ArmedFreeze) : (State.armFreeze s a).otp = s.otp := rfl
@[simp] theorem State.armFreeze_power (s : State) (a : ArmedFreeze) : (State.armFreeze s a).power = s.power := rfl
@[simp] theorem State.armFreeze_boot (s : State) (a : ArmedFreeze) : (State.armFreeze s a).boot = s.boot := rfl
@[simp] theorem State.armFreeze_dbg (s : State) (a : ArmedFreeze) : (State.armFreeze s a).dbg = s.dbg := rfl
@[simp] theorem State.armFreeze_baro (s : State) (a : ArmedFreeze) : (State.armFreeze s a).baro = s.baro := rfl
@[simp] theorem State.armFreeze_link (s : State) (a : ArmedFreeze) : (State.armFreeze s a).link = s.link := rfl
@[simp] theorem State.armFreeze_freeCount (s : State) (a : ArmedFreeze) : (State.armFreeze s a).freeCount = s.freeCount := rfl
@[simp] theorem State.armFreeze_out (s : State) (a : ArmedFreeze) : (State.armFreeze s a).out = s.out := rfl
@[simp] theorem State.armFreeze_pending (s : State) (a : ArmedFreeze) : (State.armFreeze s a).pending = s.pending := rfl

@[simp] theorem State.countRefused_build (s : State) : (State.countRefused s).build = s.build := rfl
@[simp] theorem State.countRefused_tables (s : State) : (State.countRefused s).tables = s.tables := rfl
@[simp] theorem State.countRefused_weft (s : State) : (State.countRefused s).weft = s.weft := rfl
@[simp] theorem State.countRefused_shuttle (s : State) : (State.countRefused s).shuttle = s.shuttle := rfl
@[simp] theorem State.countRefused_batten (s : State) : (State.countRefused s).batten = s.batten := rfl
@[simp] theorem State.countRefused_spindle (s : State) : (State.countRefused s).spindle = s.spindle := rfl
@[simp] theorem State.countRefused_keys (s : State) : (State.countRefused s).keys = s.keys := rfl
@[simp] theorem State.countRefused_entropy (s : State) : (State.countRefused s).entropy = s.entropy := rfl
@[simp] theorem State.countRefused_spdm (s : State) : (State.countRefused s).spdm = s.spdm := rfl
@[simp] theorem State.countRefused_metering (s : State) : (State.countRefused s).metering = s.metering := rfl
@[simp] theorem State.countRefused_time (s : State) : (State.countRefused s).time = s.time := rfl
@[simp] theorem State.countRefused_loom (s : State) : (State.countRefused s).loom = s.loom := rfl
@[simp] theorem State.countRefused_log (s : State) : (State.countRefused s).log = s.log := rfl
@[simp] theorem State.countRefused_trace (s : State) : (State.countRefused s).trace = s.trace := rfl
@[simp] theorem State.countRefused_events (s : State) : (State.countRefused s).events = s.events := rfl
@[simp] theorem State.countRefused_bp (s : State) : (State.countRefused s).bp = s.bp := rfl
@[simp] theorem State.countRefused_mailbox (s : State) : (State.countRefused s).mailbox = s.mailbox := rfl
@[simp] theorem State.countRefused_otp (s : State) : (State.countRefused s).otp = s.otp := rfl
@[simp] theorem State.countRefused_power (s : State) : (State.countRefused s).power = s.power := rfl
@[simp] theorem State.countRefused_boot (s : State) : (State.countRefused s).boot = s.boot := rfl
@[simp] theorem State.countRefused_dbg (s : State) : (State.countRefused s).dbg = s.dbg := rfl
@[simp] theorem State.countRefused_baro (s : State) : (State.countRefused s).baro = s.baro := rfl
@[simp] theorem State.countRefused_link (s : State) : (State.countRefused s).link = s.link := rfl
@[simp] theorem State.countRefused_freeCount (s : State) : (State.countRefused s).freeCount = s.freeCount := rfl
@[simp] theorem State.countRefused_out (s : State) : (State.countRefused s).out = s.out := rfl
@[simp] theorem State.countRefused_pending (s : State) : (State.countRefused s).pending = s.pending := rfl

@[simp] theorem State.noteCause_build (s : State) (cause : Nat) (pended otpHeld squallHeld : Bool) : (State.noteCause s cause pended otpHeld squallHeld).build = s.build := rfl
@[simp] theorem State.noteCause_tables (s : State) (cause : Nat) (pended otpHeld squallHeld : Bool) : (State.noteCause s cause pended otpHeld squallHeld).tables = s.tables := rfl
@[simp] theorem State.noteCause_weft (s : State) (cause : Nat) (pended otpHeld squallHeld : Bool) : (State.noteCause s cause pended otpHeld squallHeld).weft = s.weft := rfl
@[simp] theorem State.noteCause_shuttle (s : State) (cause : Nat) (pended otpHeld squallHeld : Bool) : (State.noteCause s cause pended otpHeld squallHeld).shuttle = s.shuttle := rfl
@[simp] theorem State.noteCause_batten (s : State) (cause : Nat) (pended otpHeld squallHeld : Bool) : (State.noteCause s cause pended otpHeld squallHeld).batten = s.batten := rfl
@[simp] theorem State.noteCause_spindle (s : State) (cause : Nat) (pended otpHeld squallHeld : Bool) : (State.noteCause s cause pended otpHeld squallHeld).spindle = s.spindle := rfl
@[simp] theorem State.noteCause_keys (s : State) (cause : Nat) (pended otpHeld squallHeld : Bool) : (State.noteCause s cause pended otpHeld squallHeld).keys = s.keys := rfl
@[simp] theorem State.noteCause_entropy (s : State) (cause : Nat) (pended otpHeld squallHeld : Bool) : (State.noteCause s cause pended otpHeld squallHeld).entropy = s.entropy := rfl
@[simp] theorem State.noteCause_spdm (s : State) (cause : Nat) (pended otpHeld squallHeld : Bool) : (State.noteCause s cause pended otpHeld squallHeld).spdm = s.spdm := rfl
@[simp] theorem State.noteCause_metering (s : State) (cause : Nat) (pended otpHeld squallHeld : Bool) : (State.noteCause s cause pended otpHeld squallHeld).metering = s.metering := rfl
@[simp] theorem State.noteCause_time (s : State) (cause : Nat) (pended otpHeld squallHeld : Bool) : (State.noteCause s cause pended otpHeld squallHeld).time = s.time := rfl
@[simp] theorem State.noteCause_loom (s : State) (cause : Nat) (pended otpHeld squallHeld : Bool) : (State.noteCause s cause pended otpHeld squallHeld).loom = s.loom := rfl
@[simp] theorem State.noteCause_log (s : State) (cause : Nat) (pended otpHeld squallHeld : Bool) : (State.noteCause s cause pended otpHeld squallHeld).log = s.log := rfl
@[simp] theorem State.noteCause_counters (s : State) (cause : Nat) (pended otpHeld squallHeld : Bool) : (State.noteCause s cause pended otpHeld squallHeld).counters = s.counters := rfl
@[simp] theorem State.noteCause_trace (s : State) (cause : Nat) (pended otpHeld squallHeld : Bool) : (State.noteCause s cause pended otpHeld squallHeld).trace = s.trace := rfl
@[simp] theorem State.noteCause_events (s : State) (cause : Nat) (pended otpHeld squallHeld : Bool) : (State.noteCause s cause pended otpHeld squallHeld).events = s.events := rfl
@[simp] theorem State.noteCause_bp (s : State) (cause : Nat) (pended otpHeld squallHeld : Bool) : (State.noteCause s cause pended otpHeld squallHeld).bp = s.bp := rfl
@[simp] theorem State.noteCause_mailbox (s : State) (cause : Nat) (pended otpHeld squallHeld : Bool) : (State.noteCause s cause pended otpHeld squallHeld).mailbox = s.mailbox := rfl
@[simp] theorem State.noteCause_otp (s : State) (cause : Nat) (pended otpHeld squallHeld : Bool) : (State.noteCause s cause pended otpHeld squallHeld).otp = s.otp := rfl
@[simp] theorem State.noteCause_boot (s : State) (cause : Nat) (pended otpHeld squallHeld : Bool) : (State.noteCause s cause pended otpHeld squallHeld).boot = s.boot := rfl
@[simp] theorem State.noteCause_dbg (s : State) (cause : Nat) (pended otpHeld squallHeld : Bool) : (State.noteCause s cause pended otpHeld squallHeld).dbg = s.dbg := rfl
@[simp] theorem State.noteCause_baro (s : State) (cause : Nat) (pended otpHeld squallHeld : Bool) : (State.noteCause s cause pended otpHeld squallHeld).baro = s.baro := rfl
@[simp] theorem State.noteCause_link (s : State) (cause : Nat) (pended otpHeld squallHeld : Bool) : (State.noteCause s cause pended otpHeld squallHeld).link = s.link := rfl
@[simp] theorem State.noteCause_freeCount (s : State) (cause : Nat) (pended otpHeld squallHeld : Bool) : (State.noteCause s cause pended otpHeld squallHeld).freeCount = s.freeCount := rfl
@[simp] theorem State.noteCause_out (s : State) (cause : Nat) (pended otpHeld squallHeld : Bool) : (State.noteCause s cause pended otpHeld squallHeld).out = s.out := rfl
@[simp] theorem State.noteCause_pending (s : State) (cause : Nat) (pended otpHeld squallHeld : Bool) : (State.noteCause s cause pended otpHeld squallHeld).pending = s.pending := rfl

@[simp] theorem State.clearFirmware_build (s : State) : (State.clearFirmware s).build = s.build := rfl
@[simp] theorem State.clearFirmware_tables (s : State) : (State.clearFirmware s).tables = s.tables := rfl
@[simp] theorem State.clearFirmware_weft (s : State) : (State.clearFirmware s).weft = s.weft := rfl
@[simp] theorem State.clearFirmware_shuttle (s : State) : (State.clearFirmware s).shuttle = s.shuttle := rfl
@[simp] theorem State.clearFirmware_batten (s : State) : (State.clearFirmware s).batten = s.batten := rfl
@[simp] theorem State.clearFirmware_spindle (s : State) : (State.clearFirmware s).spindle = s.spindle := rfl
@[simp] theorem State.clearFirmware_keys (s : State) : (State.clearFirmware s).keys = s.keys := rfl
@[simp] theorem State.clearFirmware_entropy (s : State) : (State.clearFirmware s).entropy = s.entropy := rfl
@[simp] theorem State.clearFirmware_metering (s : State) : (State.clearFirmware s).metering = s.metering := rfl
@[simp] theorem State.clearFirmware_time (s : State) : (State.clearFirmware s).time = s.time := rfl
@[simp] theorem State.clearFirmware_log (s : State) : (State.clearFirmware s).log = s.log := rfl
@[simp] theorem State.clearFirmware_counters (s : State) : (State.clearFirmware s).counters = s.counters := rfl
@[simp] theorem State.clearFirmware_trace (s : State) : (State.clearFirmware s).trace = s.trace := rfl
@[simp] theorem State.clearFirmware_events (s : State) : (State.clearFirmware s).events = s.events := rfl
@[simp] theorem State.clearFirmware_bp (s : State) : (State.clearFirmware s).bp = s.bp := rfl
@[simp] theorem State.clearFirmware_mailbox (s : State) : (State.clearFirmware s).mailbox = s.mailbox := rfl
@[simp] theorem State.clearFirmware_otp (s : State) : (State.clearFirmware s).otp = s.otp := rfl
@[simp] theorem State.clearFirmware_power (s : State) : (State.clearFirmware s).power = s.power := rfl
@[simp] theorem State.clearFirmware_boot (s : State) : (State.clearFirmware s).boot = s.boot := rfl
@[simp] theorem State.clearFirmware_dbg (s : State) : (State.clearFirmware s).dbg = s.dbg := rfl
@[simp] theorem State.clearFirmware_baro (s : State) : (State.clearFirmware s).baro = s.baro := rfl
@[simp] theorem State.clearFirmware_link (s : State) : (State.clearFirmware s).link = s.link := rfl
@[simp] theorem State.clearFirmware_freeCount (s : State) : (State.clearFirmware s).freeCount = s.freeCount := rfl
@[simp] theorem State.clearFirmware_out (s : State) : (State.clearFirmware s).out = s.out := rfl
@[simp] theorem State.clearFirmware_pending (s : State) : (State.clearFirmware s).pending = s.pending := rfl

@[simp] theorem State.integ_build (s : State) (e : IntegEvent) : (State.integ s e).build = s.build := rfl
@[simp] theorem State.integ_tables (s : State) (e : IntegEvent) : (State.integ s e).tables = s.tables := rfl
@[simp] theorem State.integ_shuttle (s : State) (e : IntegEvent) : (State.integ s e).shuttle = s.shuttle := rfl
@[simp] theorem State.integ_batten (s : State) (e : IntegEvent) : (State.integ s e).batten = s.batten := rfl
@[simp] theorem State.integ_spindle (s : State) (e : IntegEvent) : (State.integ s e).spindle = s.spindle := rfl
@[simp] theorem State.integ_keys (s : State) (e : IntegEvent) : (State.integ s e).keys = s.keys := rfl
@[simp] theorem State.integ_entropy (s : State) (e : IntegEvent) : (State.integ s e).entropy = s.entropy := rfl
@[simp] theorem State.integ_spdm (s : State) (e : IntegEvent) : (State.integ s e).spdm = s.spdm := rfl
@[simp] theorem State.integ_metering (s : State) (e : IntegEvent) : (State.integ s e).metering = s.metering := rfl
@[simp] theorem State.integ_time (s : State) (e : IntegEvent) : (State.integ s e).time = s.time := rfl
@[simp] theorem State.integ_loom (s : State) (e : IntegEvent) : (State.integ s e).loom = s.loom := rfl
@[simp] theorem State.integ_log (s : State) (e : IntegEvent) : (State.integ s e).log = s.log := rfl
@[simp] theorem State.integ_counters (s : State) (e : IntegEvent) : (State.integ s e).counters = s.counters := rfl
@[simp] theorem State.integ_trace (s : State) (e : IntegEvent) : (State.integ s e).trace = s.trace := rfl
@[simp] theorem State.integ_events (s : State) (e : IntegEvent) : (State.integ s e).events = s.events := rfl
@[simp] theorem State.integ_bp (s : State) (e : IntegEvent) : (State.integ s e).bp = s.bp := rfl
@[simp] theorem State.integ_mailbox (s : State) (e : IntegEvent) : (State.integ s e).mailbox = s.mailbox := rfl
@[simp] theorem State.integ_otp (s : State) (e : IntegEvent) : (State.integ s e).otp = s.otp := rfl
@[simp] theorem State.integ_power (s : State) (e : IntegEvent) : (State.integ s e).power = s.power := rfl
@[simp] theorem State.integ_boot (s : State) (e : IntegEvent) : (State.integ s e).boot = s.boot := rfl
@[simp] theorem State.integ_dbg (s : State) (e : IntegEvent) : (State.integ s e).dbg = s.dbg := rfl
@[simp] theorem State.integ_baro (s : State) (e : IntegEvent) : (State.integ s e).baro = s.baro := rfl
@[simp] theorem State.integ_link (s : State) (e : IntegEvent) : (State.integ s e).link = s.link := rfl
@[simp] theorem State.integ_freeCount (s : State) (e : IntegEvent) : (State.integ s e).freeCount = s.freeCount := rfl
@[simp] theorem State.integ_out (s : State) (e : IntegEvent) : (State.integ s e).out = s.out := rfl
@[simp] theorem State.integ_pending (s : State) (e : IntegEvent) : (State.integ s e).pending = s.pending := rfl

@[simp] theorem State.arrAdvance_build (s : State) : (State.arrAdvance s).build = s.build := rfl
@[simp] theorem State.arrAdvance_tables (s : State) : (State.arrAdvance s).tables = s.tables := rfl
@[simp] theorem State.arrAdvance_weft (s : State) : (State.arrAdvance s).weft = s.weft := rfl
@[simp] theorem State.arrAdvance_shuttle (s : State) : (State.arrAdvance s).shuttle = s.shuttle := rfl
@[simp] theorem State.arrAdvance_batten (s : State) : (State.arrAdvance s).batten = s.batten := rfl
@[simp] theorem State.arrAdvance_spindle (s : State) : (State.arrAdvance s).spindle = s.spindle := rfl
@[simp] theorem State.arrAdvance_keys (s : State) : (State.arrAdvance s).keys = s.keys := rfl
@[simp] theorem State.arrAdvance_entropy (s : State) : (State.arrAdvance s).entropy = s.entropy := rfl
@[simp] theorem State.arrAdvance_spdm (s : State) : (State.arrAdvance s).spdm = s.spdm := rfl
@[simp] theorem State.arrAdvance_metering (s : State) : (State.arrAdvance s).metering = s.metering := rfl
@[simp] theorem State.arrAdvance_time (s : State) : (State.arrAdvance s).time = s.time := rfl
@[simp] theorem State.arrAdvance_log (s : State) : (State.arrAdvance s).log = s.log := rfl
@[simp] theorem State.arrAdvance_counters (s : State) : (State.arrAdvance s).counters = s.counters := rfl
@[simp] theorem State.arrAdvance_trace (s : State) : (State.arrAdvance s).trace = s.trace := rfl
@[simp] theorem State.arrAdvance_events (s : State) : (State.arrAdvance s).events = s.events := rfl
@[simp] theorem State.arrAdvance_bp (s : State) : (State.arrAdvance s).bp = s.bp := rfl
@[simp] theorem State.arrAdvance_mailbox (s : State) : (State.arrAdvance s).mailbox = s.mailbox := rfl
@[simp] theorem State.arrAdvance_otp (s : State) : (State.arrAdvance s).otp = s.otp := rfl
@[simp] theorem State.arrAdvance_power (s : State) : (State.arrAdvance s).power = s.power := rfl
@[simp] theorem State.arrAdvance_boot (s : State) : (State.arrAdvance s).boot = s.boot := rfl
@[simp] theorem State.arrAdvance_dbg (s : State) : (State.arrAdvance s).dbg = s.dbg := rfl
@[simp] theorem State.arrAdvance_baro (s : State) : (State.arrAdvance s).baro = s.baro := rfl
@[simp] theorem State.arrAdvance_link (s : State) : (State.arrAdvance s).link = s.link := rfl
@[simp] theorem State.arrAdvance_out (s : State) : (State.arrAdvance s).out = s.out := rfl
@[simp] theorem State.arrAdvance_pending (s : State) : (State.arrAdvance s).pending = s.pending := rfl

/-! ### What an update writes -/

@[simp] theorem State.setDom_dom (s : State) (ldi : Nat) (d : Domain) : (s.setDom ldi d).dom ldi = d := Map.findD_put_self _ _ _ _
theorem State.setDom_dom_other (s : State) (ldi : Nat) (d : Domain) {q : Nat} (hq : q ≠ ldi) : (s.setDom ldi d).dom q = s.dom q :=
  Map.findD_put_other _ _ _ _ hq
@[simp] theorem State.setFence_fence (s : State) (i : Nat) (f : Fence) : (s.setFence i f).fence i = f := Map.findD_put_self _ _ _ _
theorem State.setFence_fence_other (s : State) (i : Nat) (f : Fence) {q : Nat} (hq : q ≠ i) : (s.setFence i f).fence q = s.fence q :=
  Map.findD_put_other _ _ _ _ hq
@[simp] theorem State.setGot_got (s : State) (g : Nat) (e : GotEntry) : (s.setGot g e).got g = e := Map.findD_put_self _ _ _ _
theorem State.setGot_got_other (s : State) (g : Nat) (e : GotEntry) {q : Nat} (hq : q ≠ g) : (s.setGot g e).got q = s.got q :=
  Map.findD_put_other _ _ _ _ hq
@[simp] theorem State.setSa_sa (s : State) (peer : Nat) (a : Sa) : (s.setSa peer a).sa peer = a := Map.findD_put_self _ _ _ _
theorem State.setSa_sa_other (s : State) (peer : Nat) (a : Sa) {q : Nat} (hq : q ≠ peer) : (s.setSa peer a).sa q = s.sa q :=
  Map.findD_put_other _ _ _ _ hq
@[simp] theorem State.setLane_lane (s : State) (n : Nat) (l : Lane) : (s.setLane n l).lane n = l := Map.findD_put_self _ _ _ _
theorem State.setLane_lane_other (s : State) (n : Nat) (l : Lane) {q : Nat} (hq : q ≠ n) : (s.setLane n l).lane q = s.lane q :=
  Map.findD_put_other _ _ _ _ hq
@[simp] theorem State.setUnit_unit (s : State) (u : Nat) (b : BUnit) : (s.setUnit u b).unit u = b := Map.findD_put_self _ _ _ _
theorem State.setUnit_unit_other (s : State) (u : Nat) (b : BUnit) {q : Nat} (hq : q ≠ u) : (s.setUnit u b).unit q = s.unit q :=
  Map.findD_put_other _ _ _ _ hq
@[simp] theorem State.setEngine_engine (s : State) (n : Nat) (e : Engine) : (s.setEngine n e).engine n = e := Map.findD_put_self _ _ _ _
theorem State.setEngine_engine_other (s : State) (n : Nat) (e : Engine) {q : Nat} (hq : q ≠ n) : (s.setEngine n e).engine q = s.engine q :=
  Map.findD_put_other _ _ _ _ hq
@[simp] theorem State.setRing_ring (s : State) (i : Nat) (r : Ring) : (s.setRing i r).ring i = r := Map.findD_put_self _ _ _ _
theorem State.setRing_ring_other (s : State) (i : Nat) (r : Ring) {q : Nat} (hq : q ≠ i) : (s.setRing i r).ring q = s.ring q :=
  Map.findD_put_other _ _ _ _ hq
@[simp] theorem State.setSession_session (s : State) (sid : Nat) (x : Session) : (s.setSession sid x).session sid = x := Map.findD_put_self _ _ _ _
theorem State.setSession_session_other (s : State) (sid : Nat) (x : Session) {q : Nat} (hq : q ≠ sid) : (s.setSession sid x).session q = s.session q :=
  Map.findD_put_other _ _ _ _ hq
@[simp] theorem State.setSlot_keySlot (s : State) (i : Nat) (k : KeySlot) : (s.setSlot i k).keySlot i = k := Map.findD_put_self _ _ _ _
theorem State.setSlot_keySlot_other (s : State) (i : Nat) (k : KeySlot) {q : Nat} (hq : q ≠ i) : (s.setSlot i k).keySlot q = s.keySlot q :=
  Map.findD_put_other _ _ _ _ hq
@[simp] theorem State.setTdi_tdi (s : State) (func : Nat) (t : Tdi) : (s.setTdi func t).tdi func = t := Map.findD_put_self _ _ _ _
theorem State.setTdi_tdi_other (s : State) (func : Nat) (t : Tdi) {q : Nat} (hq : q ≠ func) : (s.setTdi func t).tdi q = s.tdi q :=
  Map.findD_put_other _ _ _ _ hq
@[simp] theorem State.setOffset_offsetOf (s : State) (ldi : Nat) (o : Offset) : (s.setOffset ldi o).offsetOf ldi = o := Map.findD_put_self _ _ _ _
theorem State.setOffset_offsetOf_other (s : State) (ldi : Nat) (o : Offset) {q : Nat} (hq : q ≠ ldi) : (s.setOffset ldi o).offsetOf q = s.offsetOf q :=
  Map.findD_put_other _ _ _ _ hq
@[simp] theorem State.setWindow_window (s : State) (w : Nat) (x : RedWindow) : (s.setWindow w x).window w = some x := Map.find_put_self _ _ _
theorem State.setWindow_window_other (s : State) (w : Nat) (x : RedWindow) {q : Nat} (hq : q ≠ w) : (s.setWindow w x).window q = s.window q :=
  Map.find_put_other _ _ _ hq
@[simp] theorem State.setGroup_group (s : State) (k : Nat) (g : Group) : (s.setGroup k g).group k = some g := Map.find_put_self _ _ _
theorem State.setGroup_group_other (s : State) (k : Nat) (g : Group) {q : Nat} (hq : q ≠ k) : (s.setGroup k g).group q = s.group q :=
  Map.find_put_other _ _ _ hq
@[simp] theorem State.setHandshake_handshake (s : State) (peer : Nat) (h : Handshake) : (s.setHandshake peer h).handshake peer = some h := Map.find_put_self _ _ _
theorem State.setHandshake_handshake_other (s : State) (peer : Nat) (h : Handshake) {q : Nat} (hq : q ≠ peer) : (s.setHandshake peer h).handshake q = s.handshake q :=
  Map.find_put_other _ _ _ hq

@[simp] theorem State.clearSlot_keySlot (s : State) (i : Nat) : (s.clearSlot i).keySlot i = {} := by
  unfold State.clearSlot State.keySlot Map.findD
  rw [Map.find_del_self]
  rfl

theorem State.clearSlot_keySlot_other (s : State) (i : Nat) {q : Nat} (hq : q ≠ i) : (s.clearSlot i).keySlot q = s.keySlot q :=
  Map.findD_del_other _ _ hq

@[simp] theorem State.setSensor_sensor (s : State) (inst : Nat) (x : Sensor) : (s.setSensor inst x).baro.sensor inst = x :=
  Map.findD_put_self _ _ _ _

@[simp] theorem State.emit_out (s : State) (o : Output) : (s.emit o).out = s.out ++ [o] := rfl
@[simp] theorem State.emitAll_out (s : State) (os : List Output) : (s.emitAll os).out = s.out ++ os := rfl
@[simp] theorem State.setTime_time (s : State) (t : TimeUnit) : (s.setTime t).time = t := rfl
@[simp] theorem State.withPending_pending (s : State) (q : List Instr) : (s.withPending q).pending = q := rfl
@[simp] theorem State.setPhase_phase (s : State) (p : ResetPhase) : (s.setPhase p).power.phase = p := rfl
@[simp] theorem State.setRxq_rxq (s : State) (q : List RxPkt) : (s.setRxq q).shuttle.rxq = q := rfl

/-- A read of the mailbox after a write finds the bytes written, and elsewhere what was there. -/
theorem State.mboxWrite_read (s : State) (off : Nat) (b : Bytes) (h : Memory.wf s.mailbox = true) (a : Nat) :
    Memory.read (s.mboxWrite off b).mailbox a =
      if off ≤ a ∧ a < off + b.length then b.getD (a - off) 0 else Memory.read s.mailbox a :=
  Memory.read_writeBytes b h off a

/-- A write of the mailbox keeps its canonical form. -/
theorem State.mboxWrite_wf (s : State) (off : Nat) (b : Bytes) (h : Memory.wf s.mailbox = true) :
    Memory.wf (s.mboxWrite off b).mailbox = true := Memory.wf_writeBytes b h off

end Sys2Proof.Machine
end

