-- ==== Sys2Proof/Laws/Touches/Engines.lean ====
section
/-!
SUPPORT. What the operations of Machine/Engines.lean touch, one law for each.
-/
namespace Sys2Proof.Machine

set_option linter.unusedTactic false
set_option linter.unreachableTactic false

theorem State.setEngine_touches (s : State) (n : Nat) (e : Engine) :
    Touches [.shuttle] s (State.setEngine s n e) := by
  unfold State.setEngine
  repeat' first
    | with_reducible apply Touches.refl
    | with_reducible assumption
    | with_reducible intro _
    | with_reducible apply Touches.ite
    | split
    | ((with_reducible apply Touches.set_shuttle); rotate_left; decide)
    | dsimp only

theorem State.bumpEngine_touches (s : State) (p : Nat) (k : Nat) (n : Nat) :
    Touches [.counters] s (State.bumpEngine s p k n) := by
  unfold State.bumpEngine
  repeat' first
    | with_reducible apply Touches.refl
    | with_reducible assumption
    | with_reducible intro _
    | (with_reducible apply Touches.comp (State.bump_touches _ _ _); rotate_left; decide)
    | with_reducible apply Touches.ite
    | split
    | dsimp only

theorem State.homeRequest_touches (s : State) (home : Nat) :
    Touches [.counters] s (State.homeRequest s home) := by
  unfold State.homeRequest
  repeat' first
    | with_reducible apply Touches.refl
    | with_reducible assumption
    | with_reducible intro _
    | (with_reducible apply Touches.comp (State.bumpEngine_touches _ _ _ _); rotate_left; decide)
    | with_reducible apply Touches.ite
    | split
    | dsimp only

theorem State.setSa_touches (s : State) (peer : Nat) (a : Sa) :
    Touches [.shuttle] s (State.setSa s peer a) := by
  unfold State.setSa
  repeat' first
    | with_reducible apply Touches.refl
    | with_reducible assumption
    | with_reducible intro _
    | with_reducible apply Touches.ite
    | split
    | ((with_reducible apply Touches.set_shuttle); rotate_left; decide)
    | dsimp only

theorem State.setGroup_touches (s : State) (k : Nat) (g : Group) :
    Touches [.shuttle] s (State.setGroup s k g) := by
  unfold State.setGroup
  repeat' first
    | with_reducible apply Touches.refl
    | with_reducible assumption
    | with_reducible intro _
    | with_reducible apply Touches.ite
    | split
    | ((with_reducible apply Touches.set_shuttle); rotate_left; decide)
    | dsimp only

theorem State.evictWindow_touches (s : State) (x : Nat × Nat × Bool) :
    Touches [.shuttle] s (State.evictWindow s x) := by
  unfold State.evictWindow
  repeat' first
    | with_reducible apply Touches.refl
    | with_reducible assumption
    | with_reducible intro _
    | (with_reducible apply Touches.comp (State.setGroup_touches _ _ _); rotate_left; decide)
    | (with_reducible apply Touches.comp (State.setSa_touches _ _ _); rotate_left; decide)
    | with_reducible apply Touches.ite
    | split
    | dsimp only

theorem State.touchWindow_touches (s : State) (home : Nat) (x : Nat × Nat × Bool) :
    Touches [.shuttle] s (State.touchWindow s home x) := by
  unfold State.touchWindow
  repeat' first
    | with_reducible apply Touches.refl
    | with_reducible assumption
    | with_reducible intro _
    | (with_reducible apply Touches.comp (State.evictWindow_touches _ _); rotate_left; decide)
    | (with_reducible apply Touches.comp (State.setEngine_touches _ _ _); rotate_left; decide)
    | with_reducible apply Touches.foldl
    | with_reducible apply Touches.ite
    | split
    | dsimp only

theorem State.noteTx_touches (s : State) (peer : Nat) (data : Bool) :
    Touches [.shuttle] s (State.noteTx s peer data) := by
  unfold State.noteTx
  repeat' first
    | with_reducible apply Touches.refl
    | with_reducible assumption
    | with_reducible intro _
    | (with_reducible apply Touches.comp (State.setSa_touches _ _ _); rotate_left; decide)
    | with_reducible apply Touches.ite
    | split
    | dsimp only

theorem State.takeCtr_touches (s : State) (peer : Nat) :
    OptPairTouches [.shuttle, .counters] s (State.takeCtr s peer) := by
  unfold State.takeCtr
  repeat' first
    | with_reducible apply Touches.refl
    | with_reducible assumption
    | with_reducible intro _
    | with_reducible apply OptPairTouches.none
    | with_reducible apply OptPairTouches.some
    | (with_reducible apply Touches.comp (State.homeRequest_touches _ _); rotate_left; decide)
    | (with_reducible apply Touches.comp (State.setSa_touches _ _ _); rotate_left; decide)
    | with_reducible apply OptPairTouches.map
    | with_reducible apply Touches.ite
    | split
    | dsimp only

theorem State.sendCtrlPart_touches (s : State) (peer : Nat) (part : Bytes) :
    Touches [.shuttle, .counters, .out] s (State.sendCtrlPart s peer part) := by
  unfold State.sendCtrlPart
  repeat' first
    | with_reducible apply Touches.refl
    | with_reducible assumption
    | with_reducible intro _
    | (with_reducible apply Touches.comp (OptPairTouches.get (State.takeCtr_touches _ _) (by assumption)); rotate_left; decide)
    | (with_reducible apply OptPairTouches.comp (State.takeCtr_touches _ _); rotate_left; decide)
    | (with_reducible apply Touches.comp (State.emit_touches _ _); rotate_left; decide)
    | with_reducible apply Touches.ite
    | split
    | dsimp only

theorem State.sendHsPart_touches (s : State) (peer : Nat) (part : Bytes) :
    Touches [.out] s (State.sendHsPart s peer part) := by
  unfold State.sendHsPart
  repeat' first
    | with_reducible apply Touches.refl
    | with_reducible assumption
    | with_reducible intro _
    | (with_reducible apply Touches.comp (State.emit_touches _ _); rotate_left; decide)
    | with_reducible apply Touches.ite
    | split
    | dsimp only

theorem State.sendCtrl_touches (s : State) (peer : Nat) (type : Nat) (body : Bytes) :
    Touches [.shuttle, .counters, .out] s (State.sendCtrl s peer type body) := by
  unfold State.sendCtrl
  repeat' first
    | with_reducible apply Touches.refl
    | with_reducible assumption
    | with_reducible intro _
    | (with_reducible apply Touches.comp (State.sendCtrlPart_touches _ _ _); rotate_left; decide)
    | (with_reducible apply Touches.comp (State.noteTx_touches _ _ _); rotate_left; decide)
    | with_reducible apply Touches.foldl
    | with_reducible apply Touches.ite
    | split
    | dsimp only

theorem State.sendHs_touches (s : State) (peer : Nat) (type : Nat) (body : Bytes) :
    Touches [.out] s (State.sendHs s peer type body) := by
  unfold State.sendHs
  repeat' first
    | with_reducible apply Touches.refl
    | with_reducible assumption
    | with_reducible intro _
    | (with_reducible apply Touches.comp (State.sendHsPart_touches _ _ _); rotate_left; decide)
    | with_reducible apply Touches.foldl
    | with_reducible apply Touches.ite
    | split
    | dsimp only

theorem State.sendPolicy_touches (s : State) (peer : Nat) (ldi : Nat) :
    Touches [.shuttle, .counters, .out] s (State.sendPolicy s peer ldi) := by
  unfold State.sendPolicy
  repeat' first
    | with_reducible apply Touches.refl
    | with_reducible assumption
    | with_reducible intro _
    | (with_reducible apply Touches.comp (State.sendCtrl_touches _ _ _ _); rotate_left; decide)
    | (with_reducible apply Touches.comp (State.setSa_touches _ _ _); rotate_left; decide)
    | with_reducible apply Touches.ite
    | split
    | dsimp only

theorem State.sendBuilt_touches (s : State) (port : Nat) (vc : Nat) (peer : Nat) (ldi : Nat) (payload : Bytes) :
    Touches [.tallies, .shuttle, .counters, .trace, .out] s (State.sendBuilt s port vc peer ldi payload) := by
  unfold State.sendBuilt
  repeat' first
    | with_reducible apply Touches.refl
    | with_reducible assumption
    | with_reducible intro _
    | (with_reducible apply Touches.comp (OptPairTouches.get (State.takeCtr_touches _ _) (by assumption)); rotate_left; decide)
    | (with_reducible apply OptPairTouches.comp (State.takeCtr_touches _ _); rotate_left; decide)
    | (with_reducible apply Touches.comp (State.bumpDom_touches _ _ _ _); rotate_left; decide)
    | (with_reducible apply Touches.comp (State.segment_touches _ _ _ _ _ _ _); rotate_left; decide)
    | (with_reducible apply Touches.comp (State.bumpEngine_touches _ _ _ _); rotate_left; decide)
    | (with_reducible apply Touches.comp (State.noteTx_touches _ _ _); rotate_left; decide)
    | (with_reducible apply Touches.comp (State.sendPolicy_touches _ _ _); rotate_left; decide)
    | (with_reducible apply Touches.comp (State.meter_touches _ _ _ _ _); rotate_left; decide)
    | (with_reducible apply Touches.comp (State.emit_touches _ _); rotate_left; decide)
    | with_reducible apply Touches.ite
    | split
    | dsimp only

theorem State.saRecord_touches (s : State) (type : Nat) (peer : Nat) (ctr : Nat) (reason : Nat) :
    Touches [.log, .counters, .trace] s (State.saRecord s type peer ctr reason) := by
  unfold State.saRecord
  repeat' first
    | with_reducible apply Touches.refl
    | with_reducible assumption
    | with_reducible intro _
    | (with_reducible apply Touches.comp (State.record_touches _ _ _); rotate_left; decide)
    | with_reducible apply Touches.ite
    | split
    | dsimp only

theorem State.dropPacket_touches (s : State) (idx : Nat) (type : Nat) (port : Nat) (src : Nat) (fdt : Nat) (ldi : Nat) (flags : Nat) (home : Nat) (ctr : Nat) :
    Touches [.log, .counters, .trace] s (State.dropPacket s idx type port src fdt ldi flags home ctr) := by
  unfold State.dropPacket
  repeat' first
    | with_reducible apply Touches.refl
    | with_reducible assumption
    | with_reducible intro _
    | (with_reducible apply Touches.comp (State.bump_touches _ _ _); rotate_left; decide)
    | (with_reducible apply Touches.comp (State.recordLimited_touches _ _ _ _ _ _); rotate_left; decide)
    | with_reducible apply Touches.ite
    | split
    | dsimp only

theorem State.dropRx_touches (s : State) (idx : Nat) (type : Nat) (p : RxPkt) :
    Touches [.log, .counters, .trace] s (State.dropRx s idx type p) := by
  unfold State.dropRx
  repeat' first
    | with_reducible apply Touches.refl
    | with_reducible assumption
    | with_reducible intro _
    | (with_reducible apply Touches.comp (State.dropPacket_touches _ _ _ _ _ _ _ _ _ _); rotate_left; decide)
    | with_reducible apply Touches.ite
    | split
    | dsimp only

theorem State.sendNack_touches (s : State) (p : RxPkt) (status : Nat) (reroute : Bool) :
    Touches [.tallies, .shuttle, .counters, .trace, .out] s (State.sendNack s p status reroute) := by
  unfold State.sendNack
  repeat' first
    | with_reducible apply Touches.refl
    | with_reducible assumption
    | with_reducible intro _
    | (with_reducible apply Touches.comp (State.sendBuilt_touches _ _ _ _ _ _); rotate_left; decide)
    | with_reducible apply Touches.ite
    | split
    | dsimp only

theorem State.rcDel_touches (s : State) (p : RcEntry → Bool) :
    Touches [.shuttle] s (State.rcDel s p) := by
  unfold State.rcDel
  repeat' first
    | with_reducible apply Touches.refl
    | with_reducible assumption
    | with_reducible intro _
    | with_reducible apply Touches.ite
    | split
    | ((with_reducible apply Touches.set_shuttle); rotate_left; decide)
    | dsimp only

theorem State.rcAdd_touches (s : State) (e : RcEntry) :
    Touches [.shuttle] s (State.rcAdd s e) := by
  unfold State.rcAdd
  repeat' first
    | with_reducible apply Touches.refl
    | with_reducible assumption
    | with_reducible intro _
    | with_reducible apply Touches.ite
    | split
    | ((with_reducible apply Touches.set_shuttle); rotate_left; decide)
    | dsimp only

theorem State.rcSet_touches (s : State) (e : RcEntry) :
    Touches [.shuttle] s (State.rcSet s e) := by
  unfold State.rcSet
  repeat' first
    | with_reducible apply Touches.refl
    | with_reducible assumption
    | with_reducible intro _
    | with_reducible apply Touches.ite
    | split
    | ((with_reducible apply Touches.set_shuttle); rotate_left; decide)
    | dsimp only

theorem State.noteAck_touches (s : State) (peer : Nat) :
    Touches [.shuttle] s (State.noteAck s peer) := by
  unfold State.noteAck
  repeat' first
    | with_reducible apply Touches.refl
    | with_reducible assumption
    | with_reducible intro _
    | (with_reducible apply Touches.comp (State.setSa_touches _ _ _); rotate_left; decide)
    | with_reducible apply Touches.ite
    | split
    | dsimp only

theorem State.lagAck_touches (s : State) (peer : Nat) :
    Touches [.shuttle] s (State.lagAck s peer) := by
  unfold State.lagAck
  repeat' first
    | with_reducible apply Touches.refl
    | with_reducible assumption
    | with_reducible intro _
    | (with_reducible apply Touches.comp (State.setSa_touches _ _ _); rotate_left; decide)
    | with_reducible apply Touches.ite
    | split
    | dsimp only

theorem State.forgetAtoms_touches (s : State) (ldi : Nat) :
    Touches [.shuttle] s (State.forgetAtoms s ldi) := by
  unfold State.forgetAtoms
  repeat' first
    | with_reducible apply Touches.refl
    | with_reducible assumption
    | with_reducible intro _
    | with_reducible apply Touches.ite
    | split
    | ((with_reducible apply Touches.set_shuttle); rotate_left; decide)
    | dsimp only

theorem State.rcEnd_touches (s : State) (ldi : Nat) :
    Touches [.shuttle] s (State.rcEnd s ldi) := by
  unfold State.rcEnd
  repeat' first
    | with_reducible apply Touches.refl
    | with_reducible assumption
    | with_reducible intro _
    | (with_reducible apply Touches.comp (State.forgetAtoms_touches _ _); rotate_left; decide)
    | (with_reducible apply Touches.comp (State.lagAck_touches _ _); rotate_left; decide)
    | (with_reducible apply Touches.comp (State.rcDel_touches _ _); rotate_left; decide)
    | with_reducible apply Touches.foldl
    | with_reducible apply Touches.ite
    | split
    | dsimp only

theorem State.takeAck_touches (s : State) (peer : Nat) (ack : Nat) :
    Touches [.shuttle] s (State.takeAck s peer ack) := by
  unfold State.takeAck
  repeat' first
    | with_reducible apply Touches.refl
    | with_reducible assumption
    | with_reducible intro _
    | (with_reducible apply Touches.comp (State.rcDel_touches _ _); rotate_left; decide)
    | (with_reducible apply Touches.comp (State.setSa_touches _ _ _); rotate_left; decide)
    | with_reducible apply Touches.ite
    | split
    | dsimp only

theorem State.sendDescriptor_touches (s : State) (port : Nat) (vc : Nat) (peer : Nat) (ldi : Nat) (aseq : Nat) (status : Nat) (aop : Nat) (result : Bytes) :
    Touches [.tallies, .shuttle, .counters, .trace, .out] s (State.sendDescriptor s port vc peer ldi aseq status aop result) := by
  unfold State.sendDescriptor
  repeat' first
    | with_reducible apply Touches.refl
    | with_reducible assumption
    | with_reducible intro _
    | (with_reducible apply Touches.comp (State.sendBuilt_touches _ _ _ _ _ _); rotate_left; decide)
    | (with_reducible apply Touches.comp (State.noteAck_touches _ _); rotate_left; decide)
    | with_reducible apply Touches.ite
    | split
    | dsimp only

theorem State.sendResponse_touches (s : State) (port : Nat) (vc : Nat) (peer : Nat) (ldi : Nat) (aseq : Nat) (status : Nat) (result : BitVec 64) :
    Touches [.tallies, .shuttle, .counters, .trace, .out] s (State.sendResponse s port vc peer ldi aseq status result) := by
  unfold State.sendResponse
  repeat' first
    | with_reducible apply Touches.refl
    | with_reducible assumption
    | with_reducible intro _
    | (with_reducible apply Touches.comp (State.sendDescriptor_touches _ _ _ _ _ _ _ _ _); rotate_left; decide)
    | with_reducible apply Touches.ite
    | split
    | dsimp only

theorem State.dropRxq_touches (s : State) (f : RxPkt → Bool) :
    Touches [.shuttle] s (State.dropRxq s f) := by
  unfold State.dropRxq
  repeat' first
    | with_reducible apply Touches.refl
    | with_reducible assumption
    | with_reducible intro _
    | with_reducible apply Touches.ite
    | split
    | ((with_reducible apply Touches.set_shuttle); rotate_left; decide)
    | dsimp only

end Sys2Proof.Machine
end

