-- ==== Sys2Proof/Laws/Touches/Fences.lean ====
section
/-!
SUPPORT. What the operations of Machine/Fences.lean touch, one law for each.
-/
namespace Sys2Proof.Machine

set_option linter.unusedTactic false
set_option linter.unreachableTactic false

theorem State.setFence_touches (s : State) (i : Nat) (f : Fence) :
    Touches [.fences] s (State.setFence s i f) := by
  unfold State.setFence
  repeat' first
    | with_reducible apply Touches.refl
    | with_reducible assumption
    | with_reducible intro _
    | with_reducible apply Touches.ite
    | split
    | ((with_reducible apply Touches.set_tables); rotate_left; exact TablesTouch.set_fences _ _ _ _ (by decide))
    | dsimp only

theorem State.signal_touches (s : State) (i : Nat) (status : Nat) (cause : Nat) :
    Touches [.tallies, .fences, .counters, .trace, .out] s (State.signal s i status cause) := by
  unfold State.signal
  repeat' first
    | with_reducible apply Touches.refl
    | with_reducible assumption
    | with_reducible intro _
    | (with_reducible apply Touches.comp (State.bumpDom_touches _ _ _ _); rotate_left; decide)
    | (with_reducible apply Touches.comp (State.traceWrite_touches _ _); rotate_left; decide)
    | (with_reducible apply Touches.comp (State.setFence_touches _ _ _); rotate_left; decide)
    | (with_reducible apply Touches.comp (State.emit_touches _ _); rotate_left; decide)
    | with_reducible apply Touches.ite
    | split
    | dsimp only

theorem State.badRef_touches (s : State) (m : FenceMsg) :
    Touches [.log, .counters, .trace] s (State.badRef s m) := by
  unfold State.badRef
  repeat' first
    | with_reducible apply Touches.refl
    | with_reducible assumption
    | with_reducible intro _
    | (with_reducible apply Touches.comp (State.bump_touches _ _ _); rotate_left; decide)
    | (with_reducible apply Touches.comp (State.recordLimited_touches _ _ _ _ _ _); rotate_left; decide)
    | with_reducible apply Touches.ite
    | split
    | dsimp only

theorem State.lateRef_touches (s : State) (m : FenceMsg) :
    Touches [.log, .counters, .trace] s (State.lateRef s m) := by
  unfold State.lateRef
  repeat' first
    | with_reducible apply Touches.refl
    | with_reducible assumption
    | with_reducible intro _
    | (with_reducible apply Touches.comp (State.bump_touches _ _ _); rotate_left; decide)
    | (with_reducible apply Touches.comp (State.recordLimited_touches _ _ _ _ _ _); rotate_left; decide)
    | with_reducible apply Touches.ite
    | split
    | dsimp only

theorem State.bindError_touches (s : State) (m : FenceMsg) (counted : Bool) :
    Touches [.tallies, .fences, .log, .counters, .trace, .out] s (State.bindError s m counted) := by
  unfold State.bindError
  repeat' first
    | with_reducible apply Touches.refl
    | with_reducible assumption
    | with_reducible intro _
    | (with_reducible apply Touches.comp (State.lateRef_touches _ _); rotate_left; decide)
    | (with_reducible apply Touches.comp (State.signal_touches _ _ _ _); rotate_left; decide)
    | with_reducible apply Touches.ite
    | split
    | dsimp only

theorem State.applyStatus_touches (s : State) (m : FenceMsg) :
    Touches [.tallies, .fences, .log, .counters, .trace, .out] s (State.applyStatus s m) := by
  unfold State.applyStatus
  repeat' first
    | with_reducible apply Touches.refl
    | with_reducible assumption
    | with_reducible intro _
    | (with_reducible apply Touches.comp (State.lateRef_touches _ _); rotate_left; decide)
    | (with_reducible apply Touches.comp (State.bindError_touches _ _ _); rotate_left; decide)
    | (with_reducible apply Touches.comp (State.badRef_touches _ _); rotate_left; decide)
    | (with_reducible apply Touches.comp (State.signal_touches _ _ _ _); rotate_left; decide)
    | with_reducible apply Touches.ite
    | split
    | dsimp only

theorem State.post_touches (s : State) (ldi : Nat) (handle : Nat) (status : Nat) (origin : FenceOrigin) :
    Touches [.fences] s (State.post s ldi handle status origin) := by
  unfold State.post
  repeat' first
    | with_reducible apply Touches.refl
    | with_reducible assumption
    | with_reducible intro _
    | with_reducible apply Touches.ite
    | split
    | ((with_reducible apply Touches.set_tables); rotate_left; exact TablesTouch.set_fences _ _ _ _ (by decide))
    | dsimp only

theorem State.settle_touches (s : State) :
    Touches [.tallies, .fences, .log, .counters, .trace, .out] s (State.settle s) := by
  unfold State.settle
  repeat' first
    | with_reducible apply Touches.refl
    | with_reducible assumption
    | with_reducible intro _
    | (with_reducible apply Touches.comp (State.applyStatus_touches _ _); rotate_left; decide)
    | with_reducible apply Touches.foldl
    | with_reducible apply Touches.ite
    | split
    | ((with_reducible apply Touches.set_tables); rotate_left; exact TablesTouch.set_fences _ _ _ _ (by decide))
    | dsimp only

theorem State.logWrite_touches (s : State) :
    Touches [.tallies, .fences, .log, .counters, .trace, .events, .out] s (State.logWrite s) := by
  unfold State.logWrite
  repeat' first
    | with_reducible apply Touches.refl
    | with_reducible assumption
    | with_reducible intro _
    | (with_reducible apply Touches.comp (State.bump_touches _ _ _); rotate_left; decide)
    | (with_reducible apply Touches.comp (State.settle_touches _); rotate_left; decide)
    | (with_reducible apply Touches.comp (State.raise_touches _ _); rotate_left; decide)
    | with_reducible apply Touches.ite
    | split
    | ((with_reducible apply Touches.set_log); rotate_left; decide)
    | dsimp only

theorem State.flushLog_touches (s : State) :
    Touches [.tallies, .fences, .log, .counters, .trace, .events, .out] s (State.flushLog s) := by
  unfold State.flushLog
  repeat' first
    | with_reducible apply Touches.refl
    | with_reducible assumption
    | with_reducible intro _
    | (with_reducible apply Touches.comp (State.logWrite_touches _); rotate_left; decide)
    | with_reducible apply Touches.foldl
    | with_reducible apply Touches.ite
    | split
    | dsimp only

theorem State.recordNow_touches (s : State) (type : Nat) (payload : Bytes) :
    Touches [.tallies, .fences, .log, .counters, .trace, .events, .out] s (State.recordNow s type payload) := by
  unfold State.recordNow
  repeat' first
    | with_reducible apply Touches.refl
    | with_reducible assumption
    | with_reducible intro _
    | (with_reducible apply Touches.comp (State.flushLog_touches _); rotate_left; decide)
    | (with_reducible apply Touches.comp (State.record_touches _ _ _); rotate_left; decide)
    | with_reducible apply Touches.ite
    | split
    | dsimp only

theorem State.signalAll_touches (s : State) (ldi : Nat) (cause : Nat) :
    Touches [.tallies, .fences, .counters, .trace, .out] s (State.signalAll s ldi cause) := by
  unfold State.signalAll
  repeat' first
    | with_reducible apply Touches.refl
    | with_reducible assumption
    | with_reducible intro _
    | (with_reducible apply Touches.comp (State.signal_touches _ _ _ _); rotate_left; decide)
    | with_reducible apply Touches.foldl
    | with_reducible apply Touches.ite
    | split
    | dsimp only

theorem State.allocFence_touches (s : State) (ldi : Nat) (producer : Nat) :
    OptPairTouches [.fences] s (State.allocFence s ldi producer) := by
  unfold State.allocFence
  repeat' first
    | with_reducible apply Touches.refl
    | with_reducible assumption
    | with_reducible intro _
    | with_reducible apply OptPairTouches.none
    | with_reducible apply OptPairTouches.some
    | with_reducible apply OptPairTouches.map
    | with_reducible apply Touches.ite
    | split
    | ((with_reducible apply Touches.set_tables); rotate_left; exact TablesTouch.set_fences _ _ _ _ (by decide))
    | dsimp only

theorem State.freeFence_touches (s : State) (i : Nat) :
    Touches [.fences] s (State.freeFence s i) := by
  unfold State.freeFence
  repeat' first
    | with_reducible apply Touches.refl
    | with_reducible assumption
    | with_reducible intro _
    | (with_reducible apply Touches.comp (State.setFence_touches _ _ _); rotate_left; decide)
    | with_reducible apply Touches.ite
    | split
    | ((with_reducible apply Touches.set_tables); rotate_left; exact TablesTouch.set_fences _ _ _ _ (by decide))
    | dsimp only

theorem State.arrive_touches (s : State) (i : Nat) (n : Nat) :
    Touches [.arrs, .out] s (State.arrive s i n) := by
  unfold State.arrive
  repeat' first
    | with_reducible apply Touches.refl
    | with_reducible assumption
    | with_reducible intro _
    | (with_reducible apply Touches.comp (State.emit_touches _ _); rotate_left; decide)
    | with_reducible apply Touches.ite
    | split
    | ((with_reducible apply Touches.set_tables); rotate_left; exact TablesTouch.set_arrs _ _ _ (by decide))
    | dsimp only

end Sys2Proof.Machine
end

