-- ==== Sys2Proof/Laws/Touches/Lanes.lean ====
section
/-!
SUPPORT. What the operations of Machine/Lanes.lean touch, one law for each.
-/
namespace Sys2Proof.Machine

set_option linter.unusedTactic false
set_option linter.unreachableTactic false

theorem State.setLane_touches (s : State) (n : Nat) (l : Lane) :
    Touches [.weft] s (State.setLane s n l) := by
  unfold State.setLane
  repeat' first
    | with_reducible apply Touches.refl
    | with_reducible assumption
    | with_reducible intro _
    | with_reducible apply Touches.ite
    | split
    | ((with_reducible apply Touches.set_weft); rotate_left; decide)
    | dsimp only

theorem State.bumpLane_touches (s : State) (n : Nat) (k : Nat) :
    Touches [.counters] s (State.bumpLane s n k) := by
  unfold State.bumpLane
  repeat' first
    | with_reducible apply Touches.refl
    | with_reducible assumption
    | with_reducible intro _
    | (with_reducible apply Touches.comp (State.bump_touches _ _ _); rotate_left; decide)
    | with_reducible apply Touches.ite
    | split
    | dsimp only

theorem State.setGot_touches (s : State) (g : Nat) (e : GotEntry) :
    Touches [.got] s (State.setGot s g e) := by
  unfold State.setGot
  repeat' first
    | with_reducible apply Touches.refl
    | with_reducible assumption
    | with_reducible intro _
    | with_reducible apply Touches.ite
    | split
    | ((with_reducible apply Touches.set_tables); rotate_left; exact TablesTouch.set_got _ (by decide))
    | dsimp only

theorem State.hpAnswer_touches (s : State) (n : Nat) (r : LineReq) (o : Output) :
    Touches [.weft, .out] s (State.hpAnswer s n r o) := by
  unfold State.hpAnswer
  repeat' first
    | with_reducible apply Touches.refl
    | with_reducible assumption
    | with_reducible intro _
    | (with_reducible apply Touches.comp (State.setLane_touches _ _ _); rotate_left; decide)
    | (with_reducible apply Touches.comp (State.emit_touches _ _); rotate_left; decide)
    | with_reducible apply Touches.ite
    | split
    | dsimp only

theorem State.answer_touches (s : State) (n : Nat) (r : LineReq) (status : Nat) (data : Line) :
    Touches [.weft, .out] s (State.answer s n r status data) := by
  unfold State.answer
  repeat' first
    | with_reducible apply Touches.refl
    | with_reducible assumption
    | with_reducible intro _
    | (with_reducible apply Touches.comp (State.hpAnswer_touches _ _ _ _); rotate_left; decide)
    | with_reducible apply Touches.ite
    | split
    | ((with_reducible apply Touches.set_weft); rotate_left; decide)
    | dsimp only

theorem State.bindLine_touches (s : State) (r : LineReq) (status : Nat) :
    Touches [.fences] s (State.bindLine s r status) := by
  unfold State.bindLine
  repeat' first
    | with_reducible apply Touches.refl
    | with_reducible assumption
    | with_reducible intro _
    | (with_reducible apply Touches.comp (State.post_touches _ _ _ _ _); rotate_left; decide)
    | with_reducible apply Touches.ite
    | split
    | dsimp only

theorem State.refuseLine_touches (s : State) (n : Nat) (r : LineReq) (status : Nat) :
    Touches [.tallies, .fences, .weft, .log, .counters, .trace, .out] s (State.refuseLine s n r status) := by
  unfold State.refuseLine
  repeat' first
    | with_reducible apply Touches.refl
    | with_reducible assumption
    | with_reducible intro _
    | (with_reducible apply Touches.comp (State.answer_touches _ _ _ _ _); rotate_left; decide)
    | (with_reducible apply Touches.comp (State.bindLine_touches _ _ _); rotate_left; decide)
    | (with_reducible apply Touches.comp (State.settle_touches _); rotate_left; decide)
    | with_reducible apply Touches.ite
    | split
    | dsimp only

theorem State.recordShared_touches (s : State) (type : Nat) (lane : Nat) (ldi : Nat) (pay : Nat → Bytes) :
    Touches [.log, .counters, .trace] s (State.recordShared s type lane ldi pay) := by
  unfold State.recordShared
  repeat' first
    | with_reducible apply Touches.refl
    | with_reducible assumption
    | with_reducible intro _
    | (with_reducible apply Touches.comp (State.record_touches _ _ _); rotate_left; decide)
    | with_reducible apply OptTouches.getD
    | with_reducible apply Touches.ite
    | split
    | ((with_reducible apply Touches.set_log); rotate_left; decide)
    | dsimp only

theorem State.laneLog_touches (s : State) (n : Nat) (type : Nat) (ldi : Nat) (pay : Nat → Bytes) :
    Touches [.log, .counters, .trace] s (State.laneLog s n type ldi pay) := by
  unfold State.laneLog
  repeat' first
    | with_reducible apply Touches.refl
    | with_reducible assumption
    | with_reducible intro _
    | (with_reducible apply Touches.comp (State.record_touches _ _ _); rotate_left; decide)
    | (with_reducible apply Touches.comp (State.recordShared_touches _ _ _ _ _); rotate_left; decide)
    | with_reducible apply Touches.ite
    | split
    | dsimp only

theorem State.weftRecord_touches (s : State) (n : Nat) (type : Nat) (r : LineReq) (flags : Nat) (fence : Nat) (status : Nat) :
    Touches [.log, .counters, .trace] s (State.weftRecord s n type r flags fence status) := by
  unfold State.weftRecord
  repeat' first
    | with_reducible apply Touches.refl
    | with_reducible assumption
    | with_reducible intro _
    | (with_reducible apply Touches.comp (State.laneLog_touches _ _ _ _ _); rotate_left; decide)
    | with_reducible apply Touches.ite
    | split
    | dsimp only

theorem State.countLine_touches (s : State) (n : Nat) (k : Nat) (r : LineReq) :
    Touches [.tallies, .counters, .trace] s (State.countLine s n k r) := by
  unfold State.countLine
  repeat' first
    | with_reducible apply Touches.refl
    | with_reducible assumption
    | with_reducible intro _
    | (with_reducible apply Touches.comp (State.bumpDom_touches _ _ _ _); rotate_left; decide)
    | (with_reducible apply Touches.comp (State.segment_touches _ _ _ _ _ _ _); rotate_left; decide)
    | (with_reducible apply Touches.comp (State.bumpLane_touches _ _ _); rotate_left; decide)
    | (with_reducible apply Touches.comp (State.annotCount_touches _ _ _ _ _ _); rotate_left; decide)
    | (with_reducible apply Touches.comp (State.meter_touches _ _ _ _ _); rotate_left; decide)
    | with_reducible apply Touches.ite
    | split
    | dsimp only

theorem State.enterWrite_touches (s : State) (n : Nat) (r : LineReq) (plain : Line) :
    Touches [.weft] s (State.enterWrite s n r plain) := by
  unfold State.enterWrite
  repeat' first
    | with_reducible apply Touches.refl
    | with_reducible assumption
    | with_reducible intro _
    | (with_reducible apply Touches.comp (State.setLane_touches _ _ _); rotate_left; decide)
    | with_reducible apply OptTouches.getD
    | with_reducible apply Touches.ite
    | split
    | dsimp only

theorem State.acceptWrite_touches (s : State) (n : Nat) (r : LineReq) (plain : Line) :
    Touches [.tallies, .arrs, .weft, .counters, .trace, .out] s (State.acceptWrite s n r plain) := by
  unfold State.acceptWrite
  repeat' first
    | with_reducible apply Touches.refl
    | with_reducible assumption
    | with_reducible intro _
    | (with_reducible apply Touches.comp (State.countLine_touches _ _ _ _); rotate_left; decide)
    | (with_reducible apply Touches.comp (State.answer_touches _ _ _ _ _); rotate_left; decide)
    | (with_reducible apply Touches.comp (State.setLane_touches _ _ _); rotate_left; decide)
    | (with_reducible apply Touches.comp (State.arrive_touches _ _ _); rotate_left; decide)
    | (with_reducible apply Touches.comp (State.enterWrite_touches _ _ _ _); rotate_left; decide)
    | with_reducible apply Touches.ite
    | split
    | dsimp only

theorem State.holdLine_touches (s : State) (n : Nat) (r : LineReq) :
    Touches [.weft] s (State.holdLine s n r) := by
  unfold State.holdLine
  repeat' first
    | with_reducible apply Touches.refl
    | with_reducible assumption
    | with_reducible intro _
    | (with_reducible apply Touches.comp (State.setLane_touches _ _ _); rotate_left; decide)
    | with_reducible apply Touches.ite
    | split
    | dsimp only

theorem State.issueGroup_touches (s : State) (n : Nat) (g : ReadGroup) :
    OptTouches [.weft, .counters, .out] s (State.issueGroup s n g) := by
  unfold State.issueGroup
  repeat' first
    | with_reducible apply Touches.refl
    | with_reducible assumption
    | with_reducible intro _
    | with_reducible apply OptTouches.none
    | with_reducible apply OptTouches.some
    | (with_reducible apply Touches.comp (State.setLane_touches _ _ _); rotate_left; decide)
    | (with_reducible apply Touches.comp (State.bumpLane_touches _ _ _); rotate_left; decide)
    | (with_reducible apply Touches.comp (State.emitAll_touches _ _); rotate_left; decide)
    | (with_reducible apply Touches.comp (State.emit_touches _ _); rotate_left; decide)
    | with_reducible apply OptTouches.map
    | with_reducible apply OptTouches.bind
    | with_reducible apply Touches.ite
    | with_reducible apply OptTouches.ite
    | split
    | dsimp only

theorem State.issueWaiting_touches (s : State) (n : Nat) :
    Touches [.weft, .counters, .out] s (State.issueWaiting s n) := by
  unfold State.issueWaiting
  repeat' first
    | with_reducible apply Touches.refl
    | with_reducible assumption
    | with_reducible intro _
    | (with_reducible apply Touches.comp (OptTouches.get (State.issueGroup_touches _ _ _) (by assumption)); rotate_left; decide)
    | (with_reducible apply OptTouches.comp (State.issueGroup_touches _ _ _); rotate_left; decide)
    | with_reducible apply Touches.foldl
    | with_reducible apply OptTouches.getD
    | with_reducible apply Touches.ite
    | split
    | dsimp only

theorem State.issueRead_touches (s : State) (n : Nat) (r : LineReq) :
    Touches [.weft, .counters, .out] s (State.issueRead s n r) := by
  unfold State.issueRead
  repeat' first
    | with_reducible apply Touches.refl
    | with_reducible assumption
    | with_reducible intro _
    | (with_reducible apply Touches.comp (State.setLane_touches _ _ _); rotate_left; decide)
    | (with_reducible apply Touches.comp (OptTouches.get (State.issueGroup_touches _ _ _) (by assumption)); rotate_left; decide)
    | (with_reducible apply OptTouches.comp (State.issueGroup_touches _ _ _); rotate_left; decide)
    | with_reducible apply OptTouches.getD
    | with_reducible apply Touches.ite
    | split
    | dsimp only

theorem State.queueRead_touches (s : State) (n : Nat) (r : LineReq) (p : Line) :
    Touches [.weft] s (State.queueRead s n r p) := by
  unfold State.queueRead
  repeat' first
    | with_reducible apply Touches.refl
    | with_reducible assumption
    | with_reducible intro _
    | (with_reducible apply Touches.comp (State.setLane_touches _ _ _); rotate_left; decide)
    | with_reducible apply Touches.ite
    | split
    | dsimp only

theorem State.countRead_touches (s : State) (n : Nat) (r : LineReq) :
    Touches [.tallies, .counters, .trace] s (State.countRead s n r) := by
  unfold State.countRead
  repeat' first
    | with_reducible apply Touches.refl
    | with_reducible assumption
    | with_reducible intro _
    | (with_reducible apply Touches.comp (State.countLine_touches _ _ _ _); rotate_left; decide)
    | with_reducible apply Touches.ite
    | split
    | dsimp only

theorem State.passRead_touches (s : State) (n : Nat) (r : LineReq) :
    Touches [.tallies, .weft, .counters, .trace, .out] s (State.passRead s n r) := by
  unfold State.passRead
  repeat' first
    | with_reducible apply Touches.refl
    | with_reducible assumption
    | with_reducible intro _
    | (with_reducible apply Touches.comp (State.answer_touches _ _ _ _ _); rotate_left; decide)
    | (with_reducible apply Touches.comp (State.queueRead_touches _ _ _ _); rotate_left; decide)
    | (with_reducible apply Touches.comp (State.issueRead_touches _ _ _); rotate_left; decide)
    | (with_reducible apply Touches.comp (State.countRead_touches _ _ _); rotate_left; decide)
    | with_reducible apply Touches.ite
    | split
    | dsimp only

theorem State.passMerge_touches (s : State) (n : Nat) (r : LineReq) :
    Touches [.tallies, .arrs, .weft, .counters, .trace, .out] s (State.passMerge s n r) := by
  unfold State.passMerge
  repeat' first
    | with_reducible apply Touches.refl
    | with_reducible assumption
    | with_reducible intro _
    | (with_reducible apply Touches.comp (State.issueRead_touches _ _ _); rotate_left; decide)
    | (with_reducible apply Touches.comp (State.acceptWrite_touches _ _ _ _); rotate_left; decide)
    | (with_reducible apply Touches.comp (State.holdLine_touches _ _ _); rotate_left; decide)
    | with_reducible apply Touches.ite
    | split
    | dsimp only

theorem State.refuseKnown_touches (s : State) (n : Nat) (r : LineReq) :
    Touches [.tallies, .fences, .weft, .log, .counters, .trace, .out] s (State.refuseKnown s n r) := by
  unfold State.refuseKnown
  repeat' first
    | with_reducible apply Touches.refl
    | with_reducible assumption
    | with_reducible intro _
    | (with_reducible apply Touches.comp (State.refuseLine_touches _ _ _ _); rotate_left; decide)
    | with_reducible apply Touches.ite
    | split
    | ((with_reducible apply Touches.set_weft); rotate_left; decide)
    | dsimp only

theorem State.passFull_touches (s : State) (n : Nat) (r : LineReq) :
    Touches [.tallies, .fences, .arrs, .weft, .log, .counters, .trace, .out] s (State.passFull s n r) := by
  unfold State.passFull
  repeat' first
    | with_reducible apply Touches.refl
    | with_reducible assumption
    | with_reducible intro _
    | (with_reducible apply Touches.comp (State.passMerge_touches _ _ _); rotate_left; decide)
    | (with_reducible apply Touches.comp (State.refuseKnown_touches _ _ _); rotate_left; decide)
    | (with_reducible apply Touches.comp (State.weftRecord_touches _ _ _ _ _ _ _); rotate_left; decide)
    | (with_reducible apply Touches.comp (State.acceptWrite_touches _ _ _ _); rotate_left; decide)
    | (with_reducible apply Touches.comp (State.holdLine_touches _ _ _); rotate_left; decide)
    | with_reducible apply Touches.ite
    | split
    | dsimp only

theorem State.passLine_touches (s : State) (n : Nat) (r : LineReq) :
    Touches [.tallies, .fences, .arrs, .weft, .log, .counters, .trace, .out] s (State.passLine s n r) := by
  unfold State.passLine
  repeat' first
    | with_reducible apply Touches.refl
    | with_reducible assumption
    | with_reducible intro _
    | (with_reducible apply Touches.comp (State.post_touches _ _ _ _ _); rotate_left; decide)
    | (with_reducible apply Touches.comp (State.passRead_touches _ _ _); rotate_left; decide)
    | (with_reducible apply Touches.comp (State.passMerge_touches _ _ _); rotate_left; decide)
    | (with_reducible apply Touches.comp (State.answer_touches _ _ _ _ _); rotate_left; decide)
    | (with_reducible apply Touches.comp (State.passFull_touches _ _ _); rotate_left; decide)
    | (with_reducible apply Touches.comp (State.settle_touches _); rotate_left; decide)
    | with_reducible apply Touches.ite
    | split
    | dsimp only

theorem State.passC2_touches (s : State) (n : Nat) (r : LineReq) :
    Touches [.tallies, .fences, .arrs, .weft, .log, .counters, .trace, .out] s (State.passC2 s n r) := by
  unfold State.passC2
  repeat' first
    | with_reducible apply Touches.refl
    | with_reducible assumption
    | with_reducible intro _
    | (with_reducible apply Touches.comp (State.passLine_touches _ _ _); rotate_left; decide)
    | (with_reducible apply Touches.comp (State.refuseLine_touches _ _ _ _); rotate_left; decide)
    | (with_reducible apply Touches.comp (State.holdLine_touches _ _ _); rotate_left; decide)
    | with_reducible apply OptTouches.getD
    | with_reducible apply Touches.ite
    | split
    | dsimp only

theorem State.releaseHeld_touches (s : State) (n : Nat) :
    Touches [.tallies, .fences, .arrs, .weft, .log, .counters, .trace, .out] s (State.releaseHeld s n) := by
  unfold State.releaseHeld
  repeat' first
    | with_reducible apply Touches.refl
    | with_reducible assumption
    | with_reducible intro _
    | (with_reducible apply Touches.comp (State.setLane_touches _ _ _); rotate_left; decide)
    | (with_reducible apply Touches.comp (State.passC2_touches _ _ _); rotate_left; decide)
    | with_reducible apply Touches.foldl
    | with_reducible apply Touches.ite
    | split
    | dsimp only

theorem State.goOn_touches (s : State) (n : Nat) :
    Touches [.tallies, .fences, .arrs, .weft, .log, .counters, .trace, .out] s (State.goOn s n) := by
  unfold State.goOn
  repeat' first
    | with_reducible apply Touches.refl
    | with_reducible assumption
    | with_reducible intro _
    | (with_reducible apply Touches.comp (State.issueWaiting_touches _ _); rotate_left; decide)
    | (with_reducible apply Touches.comp (State.releaseHeld_touches _ _); rotate_left; decide)
    | with_reducible apply Touches.ite
    | split
    | dsimp only

theorem State.lookup_touches (s : State) (n : Nat) (r : LineReq) :
    OptTouches [.tallies, .fences, .arrs, .weft, .log, .counters, .trace, .out] s (State.lookup s n r) := by
  unfold State.lookup
  repeat' first
    | with_reducible apply Touches.refl
    | with_reducible assumption
    | with_reducible intro _
    | with_reducible apply OptTouches.none
    | with_reducible apply OptTouches.some
    | (with_reducible apply Touches.comp (State.setLane_touches _ _ _); rotate_left; decide)
    | (with_reducible apply Touches.comp (State.bumpLane_touches _ _ _); rotate_left; decide)
    | (with_reducible apply Touches.comp (State.passC2_touches _ _ _); rotate_left; decide)
    | with_reducible apply OptTouches.map
    | with_reducible apply OptTouches.bind
    | with_reducible apply Touches.ite
    | with_reducible apply OptTouches.ite
    | split
    | dsimp only

theorem State.fetchDone_touches (s : State) (n : Nat) (g : Nat) :
    Touches [.tallies, .fences, .arrs, .weft, .log, .counters, .trace, .out] s (State.fetchDone s n g) := by
  unfold State.fetchDone
  repeat' first
    | with_reducible apply Touches.refl
    | with_reducible assumption
    | with_reducible intro _
    | (with_reducible apply Touches.comp (State.setLane_touches _ _ _); rotate_left; decide)
    | (with_reducible apply Touches.comp (State.passC2_touches _ _ _); rotate_left; decide)
    | with_reducible apply Touches.foldl
    | with_reducible apply Touches.ite
    | split
    | dsimp only

theorem State.submitLine_touches (s : State) (r : LineReq) :
    Touches [.tallies, .fences, .arrs, .weft, .log, .counters, .trace, .out] s (State.submitLine s r) := by
  unfold State.submitLine
  repeat' first
    | with_reducible apply Touches.refl
    | with_reducible assumption
    | with_reducible intro _
    | (with_reducible apply Touches.comp (State.answer_touches _ _ _ _ _); rotate_left; decide)
    | (with_reducible apply Touches.comp (State.bumpLane_touches _ _ _); rotate_left; decide)
    | (with_reducible apply Touches.comp (State.passC2_touches _ _ _); rotate_left; decide)
    | (with_reducible apply Touches.comp (State.fetchDone_touches _ _ _); rotate_left; decide)
    | with_reducible apply Touches.ite
    | split
    | dsimp only

theorem State.discardLane_touches (s : State) (ldi : Nat) (n : Nat) :
    Touches [.weft, .out] s (State.discardLane s ldi n) := by
  unfold State.discardLane
  repeat' first
    | with_reducible apply Touches.refl
    | with_reducible assumption
    | with_reducible intro _
    | (with_reducible apply Touches.comp (State.answer_touches _ _ _ _ _); rotate_left; decide)
    | (with_reducible apply Touches.comp (State.setLane_touches _ _ _); rotate_left; decide)
    | with_reducible apply Touches.foldl
    | with_reducible apply Touches.ite
    | split
    | dsimp only

theorem State.discardWeft_touches (s : State) (ldi : Nat) :
    Touches [.weft, .out] s (State.discardWeft s ldi) := by
  unfold State.discardWeft
  repeat' first
    | with_reducible apply Touches.refl
    | with_reducible assumption
    | with_reducible intro _
    | (with_reducible apply Touches.comp (State.discardLane_touches _ _ _); rotate_left; decide)
    | with_reducible apply Touches.foldl
    | with_reducible apply Touches.ite
    | split
    | dsimp only

theorem State.removeEntries_touches (s : State) (n : Nat) (out : List IngressEntry) :
    Touches [.weft] s (State.removeEntries s n out) := by
  unfold State.removeEntries
  repeat' first
    | with_reducible apply Touches.refl
    | with_reducible assumption
    | with_reducible intro _
    | (with_reducible apply Touches.comp (State.setLane_touches _ _ _); rotate_left; decide)
    | with_reducible apply Touches.foldl
    | with_reducible apply Touches.ite
    | split
    | dsimp only

theorem State.dropEntries_touches (s : State) (n : Nat) (p : IngressEntry → Bool) :
    Touches [.weft] s (State.dropEntries s n p) := by
  unfold State.dropEntries
  repeat' first
    | with_reducible apply Touches.refl
    | with_reducible assumption
    | with_reducible intro _
    | (with_reducible apply Touches.comp (State.removeEntries_touches _ _ _); rotate_left; decide)
    | with_reducible apply Touches.ite
    | split
    | dsimp only

theorem State.payOwed_touches (s : State) (n : Nat) (t : Nat) :
    Touches [.weft, .out] s (State.payOwed s n t) := by
  unfold State.payOwed
  repeat' first
    | with_reducible apply Touches.refl
    | with_reducible assumption
    | with_reducible intro _
    | (with_reducible apply Touches.comp (State.setLane_touches _ _ _); rotate_left; decide)
    | (with_reducible apply Touches.comp (State.emitAll_touches _ _); rotate_left; decide)
    | with_reducible apply Touches.ite
    | split
    | dsimp only

theorem State.retireLane_touches (s : State) (ldi : Nat) (n : Nat) :
    Touches [.weft, .out] s (State.retireLane s ldi n) := by
  unfold State.retireLane
  repeat' first
    | with_reducible apply Touches.refl
    | with_reducible assumption
    | with_reducible intro _
    | (with_reducible apply Touches.comp (State.payOwed_touches _ _ _); rotate_left; decide)
    | (with_reducible apply Touches.comp (State.answer_touches _ _ _ _ _); rotate_left; decide)
    | (with_reducible apply Touches.comp (State.setLane_touches _ _ _); rotate_left; decide)
    | (with_reducible apply Touches.comp (State.dropEntries_touches _ _ _); rotate_left; decide)
    | with_reducible apply Touches.foldl
    | with_reducible apply Touches.ite
    | split
    | dsimp only

theorem State.retireWeft_touches (s : State) (ldi : Nat) :
    Touches [.weft, .out] s (State.retireWeft s ldi) := by
  unfold State.retireWeft
  repeat' first
    | with_reducible apply Touches.refl
    | with_reducible assumption
    | with_reducible intro _
    | (with_reducible apply Touches.comp (State.retireLane_touches _ _ _); rotate_left; decide)
    | with_reducible apply Touches.foldl
    | with_reducible apply Touches.ite
    | split
    | ((with_reducible apply Touches.set_weft); rotate_left; decide)
    | dsimp only

end Sys2Proof.Machine
end

