-- ==== Sys2Proof/Laws/Touches/Spindle.lean ====
section
/-!
SUPPORT. What the operations of Machine/Spindle.lean touch, one law for each.
-/
namespace Sys2Proof.Machine

set_option linter.unusedTactic false
set_option linter.unreachableTactic false

theorem State.countBeat_touches (s : State) (p : Pull) :
    Touches [.tallies, .spindle, .counters, .trace] s (State.countBeat s p) := by
  unfold State.countBeat
  repeat' first
    | with_reducible apply Touches.refl
    | with_reducible assumption
    | with_reducible intro _
    | (with_reducible apply Touches.comp (State.bumpDom_touches _ _ _ _); rotate_left; decide)
    | (with_reducible apply Touches.comp (State.segment_touches _ _ _ _ _ _ _); rotate_left; decide)
    | (with_reducible apply Touches.comp (State.annotCount_touches _ _ _ _ _ _); rotate_left; decide)
    | with_reducible apply Touches.ite
    | split
    | ((with_reducible apply Touches.set_spindle); rotate_left; decide)
    | dsimp only

theorem State.sendBeat_touches (s : State) (p : Pull) (b : Nat) :
    Touches [.tallies, .spindle, .counters, .trace, .out] s (State.sendBeat s p b) := by
  unfold State.sendBeat
  repeat' first
    | with_reducible apply Touches.refl
    | with_reducible assumption
    | with_reducible intro _
    | (with_reducible apply Touches.comp (State.countBeat_touches _ _); rotate_left; decide)
    | (with_reducible apply Touches.comp (State.emit_touches _ _); rotate_left; decide)
    | with_reducible apply Touches.ite
    | split
    | dsimp only

theorem State.sendBeats_touches (s : State) (p : Pull) :
    Touches [.tallies, .spindle, .counters, .trace, .out] s (State.sendBeats s p) := by
  unfold State.sendBeats
  repeat' first
    | with_reducible apply Touches.refl
    | with_reducible assumption
    | with_reducible intro _
    | (with_reducible apply Touches.comp (State.sendBeat_touches _ _ _); rotate_left; decide)
    | with_reducible apply Touches.foldl
    | with_reducible apply Touches.ite
    | split
    | dsimp only

theorem State.drainPulls_touches (s : State) (a1 : List Pull) :
    Touches [.tallies, .spindle, .counters, .trace, .out] s (State.drainPulls s a1).1 := by
  induction a1 generalizing s with
  | nil =>
    unfold State.drainPulls
    repeat' first
      | with_reducible apply Touches.refl
      | with_reducible assumption
      | with_reducible intro _
      | (with_reducible apply Touches.comp (State.sendBeats_touches _ _); rotate_left; decide)
      | with_reducible apply Touches.ite
      | split
      | dsimp only
  | cons x xs ih =>
    unfold State.drainPulls
    repeat' first
      | with_reducible apply Touches.refl
      | with_reducible assumption
      | with_reducible intro _
      | (with_reducible apply Touches.comp (ih _); rotate_left; decide)
      | (with_reducible apply Touches.comp (Touches.of_eq' (by assumption) (ih _)); rotate_left; decide)
      | (with_reducible apply Touches.comp (State.sendBeats_touches _ _); rotate_left; decide)
      | with_reducible apply Touches.ite
      | split
      | dsimp only

theorem State.setPulls_touches (s : State) (port : Nat) (ps : List Pull) :
    Touches [.spindle] s (State.setPulls s port ps) := by
  unfold State.setPulls
  repeat' first
    | with_reducible apply Touches.refl
    | with_reducible assumption
    | with_reducible intro _
    | with_reducible apply Touches.ite
    | split
    | ((with_reducible apply Touches.set_spindle); rotate_left; decide)
    | dsimp only

theorem State.drainPort_touches (s : State) (port : Nat) :
    Touches [.tallies, .spindle, .counters, .trace, .out] s (State.drainPort s port) := by
  unfold State.drainPort
  repeat' first
    | with_reducible apply Touches.refl
    | with_reducible assumption
    | with_reducible intro _
    | (with_reducible apply Touches.comp (State.drainPulls_touches _ _); rotate_left; decide)
    | (with_reducible apply Touches.comp (Touches.of_eq' (by assumption) (State.drainPulls_touches _ _)); rotate_left; decide)
    | (with_reducible apply Touches.comp (State.setPulls_touches _ _ _); rotate_left; decide)
    | with_reducible apply Touches.ite
    | split
    | dsimp only

theorem State.refusePull_touches (s : State) (r : PullReq) (status : Nat) :
    Touches [.fences, .log, .counters, .trace] s (State.refusePull s r status) := by
  unfold State.refusePull
  repeat' first
    | with_reducible apply Touches.refl
    | with_reducible assumption
    | with_reducible intro _
    | (with_reducible apply Touches.comp (State.post_touches _ _ _ _ _); rotate_left; decide)
    | (with_reducible apply Touches.comp (State.bump_touches _ _ _); rotate_left; decide)
    | (with_reducible apply Touches.comp (State.recordLimited_touches _ _ _ _ _ _); rotate_left; decide)
    | with_reducible apply Touches.ite
    | split
    | dsimp only

theorem State.countLent_touches (s : State) (x : LentBlock) :
    Touches [.counters] s (State.countLent s x) := by
  unfold State.countLent
  repeat' first
    | with_reducible apply Touches.refl
    | with_reducible assumption
    | with_reducible intro _
    | (with_reducible apply Touches.comp (State.bump_touches _ _ _); rotate_left; decide)
    | with_reducible apply Touches.ite
    | split
    | dsimp only

theorem State.enterPull_touches (s : State) (r : PullReq) (lent : List LentBlock) :
    Touches [.fences, .spindle, .log, .counters, .trace] s (State.enterPull s r lent) := by
  unfold State.enterPull
  repeat' first
    | with_reducible apply Touches.refl
    | with_reducible assumption
    | with_reducible intro _
    | (with_reducible apply Touches.comp (State.bump_touches _ _ _); rotate_left; decide)
    | (with_reducible apply Touches.comp (State.countLent_touches _ _); rotate_left; decide)
    | (with_reducible apply Touches.comp (State.refusePull_touches _ _ _); rotate_left; decide)
    | (with_reducible apply Touches.comp (State.setPulls_touches _ _ _); rotate_left; decide)
    | with_reducible apply Touches.foldl
    | with_reducible apply Touches.ite
    | split
    | dsimp only

theorem execSpindlePull_touches (r : PullReq) (lent : List LentBlock) (s : State) :
    OutTouches [.tallies, .fences, .spindle, .log, .counters, .trace, .out] s (execSpindlePull r lent s) := by
  unfold execSpindlePull
  repeat' first
    | with_reducible apply Touches.refl
    | with_reducible assumption
    | with_reducible intro _
    | with_reducible apply OutTouches.next
    | with_reducible apply OutTouches.nextIf
    | (with_reducible apply Touches.comp (State.enterPull_touches _ _ _); rotate_left; decide)
    | (with_reducible apply Touches.comp (State.drainPort_touches _ _); rotate_left; decide)
    | with_reducible apply Touches.ite
    | with_reducible apply OutTouches.ite
    | split
    | dsimp only

theorem execSpindleReissueTimeout_touches (port : Nat) (s : State) :
    OutTouches [.tallies, .spindle, .time, .counters, .trace, .out] s (execSpindleReissueTimeout port s) := by
  unfold execSpindleReissueTimeout
  repeat' first
    | with_reducible apply Touches.refl
    | with_reducible assumption
    | with_reducible intro _
    | with_reducible apply OutTouches.next
    | with_reducible apply OutTouches.nextIf
    | (with_reducible apply Touches.comp (State.advanceTo_touches _ _); rotate_left; decide)
    | (with_reducible apply Touches.comp (State.bump_touches _ _ _); rotate_left; decide)
    | (with_reducible apply Touches.comp (State.drainPort_touches _ _); rotate_left; decide)
    | (with_reducible apply Touches.comp (State.setPulls_touches _ _ _); rotate_left; decide)
    | with_reducible apply Touches.ite
    | with_reducible apply OutTouches.ite
    | split
    | dsimp only

theorem State.abortPulls_touches (s : State) (ldi : Nat) :
    Touches [.tallies, .spindle, .counters, .trace, .out] s (State.abortPulls s ldi) := by
  unfold State.abortPulls
  repeat' first
    | with_reducible apply Touches.refl
    | with_reducible assumption
    | with_reducible intro _
    | (with_reducible apply Touches.comp (State.drainPort_touches _ _); rotate_left; decide)
    | with_reducible apply Touches.foldl
    | with_reducible apply Touches.ite
    | split
    | ((with_reducible apply Touches.set_spindle); rotate_left; decide)
    | dsimp only

end Sys2Proof.Machine
end

