-- ==== Sys2Proof/Laws/Touches/Units.lean ====
section
/-!
SUPPORT. What the operations of Machine/Units.lean touch, one law for each.
-/
namespace Sys2Proof.Machine

set_option linter.unusedTactic false
set_option linter.unreachableTactic false

theorem State.setUnit_touches (s : State) (u : Nat) (b : BUnit) :
    Touches [.batten] s (State.setUnit s u b) := by
  unfold State.setUnit
  repeat' first
    | with_reducible apply Touches.refl
    | with_reducible assumption
    | with_reducible intro _
    | with_reducible apply Touches.ite
    | split
    | ((with_reducible apply Touches.set_batten); rotate_left; decide)
    | dsimp only

theorem State.bumpUnit_touches (s : State) (u : Nat) (k : Nat) (n : Nat) :
    Touches [.counters] s (State.bumpUnit s u k n) := by
  unfold State.bumpUnit
  repeat' first
    | with_reducible apply Touches.refl
    | with_reducible assumption
    | with_reducible intro _
    | (with_reducible apply Touches.comp (State.bump_touches _ _ _); rotate_left; decide)
    | with_reducible apply Touches.ite
    | split
    | dsimp only

theorem State.entryRecord_touches (s : State) (type : Nat) (u : Nat) (e : BEntry) (fence : Nat) (status : Nat) :
    Touches [.log, .counters, .trace] s (State.entryRecord s type u e fence status) := by
  unfold State.entryRecord
  repeat' first
    | with_reducible apply Touches.refl
    | with_reducible assumption
    | with_reducible intro _
    | (with_reducible apply Touches.comp (State.recordLimited_touches _ _ _ _ _ _); rotate_left; decide)
    | (with_reducible apply Touches.comp (State.record_touches _ _ _); rotate_left; decide)
    | with_reducible apply Touches.ite
    | split
    | dsimp only

theorem State.badRequest_touches (s : State) (dli : Nat) (key : Nat) (ldi : Nat) (opfmt : Nat) (win : Nat) (src : Nat) (fence : Nat) (exact : Bool) :
    Touches [.log, .counters, .trace] s (State.badRequest s dli key ldi opfmt win src fence exact) := by
  unfold State.badRequest
  repeat' first
    | with_reducible apply Touches.refl
    | with_reducible assumption
    | with_reducible intro _
    | (with_reducible apply Touches.comp (State.recordLimited_touches _ _ _ _ _ _); rotate_left; decide)
    | with_reducible apply Touches.ite
    | split
    | dsimp only

theorem State.nondetRecord_touches (s : State) (ldi : Nat) (ctx : Nat) (kind : Nat) (fence : Nat) :
    Touches [.tallies, .log, .counters, .trace] s (State.nondetRecord s ldi ctx kind fence) := by
  unfold State.nondetRecord
  repeat' first
    | with_reducible apply Touches.refl
    | with_reducible assumption
    | with_reducible intro _
    | (with_reducible apply Touches.comp (State.bumpDom_touches _ _ _ _); rotate_left; decide)
    | (with_reducible apply Touches.comp (State.recordLimited_touches _ _ _ _ _ _); rotate_left; decide)
    | with_reducible apply Touches.ite
    | split
    | dsimp only

theorem State.setWindow_touches (s : State) (w : Nat) (x : RedWindow) :
    Touches [.batten] s (State.setWindow s w x) := by
  unfold State.setWindow
  repeat' first
    | with_reducible apply Touches.refl
    | with_reducible assumption
    | with_reducible intro _
    | with_reducible apply Touches.ite
    | split
    | ((with_reducible apply Touches.set_batten); rotate_left; decide)
    | dsimp only

theorem State.failWindow_touches (s : State) (w : Nat) (status : Nat) :
    Touches [.fences, .batten, .log, .counters, .trace] s (State.failWindow s w status) := by
  unfold State.failWindow
  repeat' first
    | with_reducible apply Touches.refl
    | with_reducible assumption
    | with_reducible intro _
    | (with_reducible apply Touches.comp (State.post_touches _ _ _ _ _); rotate_left; decide)
    | (with_reducible apply Touches.comp (State.setWindow_touches _ _ _); rotate_left; decide)
    | (with_reducible apply Touches.comp (State.record_touches _ _ _); rotate_left; decide)
    | with_reducible apply Touches.ite
    | split
    | dsimp only

theorem State.badReduce_touches (s : State) (r : RedBody) (ldi : Nat) (src : Nat) (fence : Nat) :
    Touches [.log, .counters, .trace] s (State.badReduce s r ldi src fence) := by
  unfold State.badReduce
  repeat' first
    | with_reducible apply Touches.refl
    | with_reducible assumption
    | with_reducible intro _
    | (with_reducible apply Touches.comp (State.badRequest_touches _ _ _ _ _ _ _ _ _); rotate_left; decide)
    | with_reducible apply Touches.ite
    | split
    | dsimp only

theorem State.routeAll_touches (s : State) (proto : BEntry) (ws : List (Nat × Nat × BWork)) :
    Touches [.batten] s (State.routeAll s proto ws) := by
  unfold State.routeAll
  repeat' first
    | with_reducible apply Touches.refl
    | with_reducible assumption
    | with_reducible intro _
    | (with_reducible apply Touches.comp (State.setUnit_touches _ _ _); rotate_left; decide)
    | with_reducible apply Touches.foldl
    | with_reducible apply Touches.ite
    | split
    | dsimp only

theorem State.serveUnit_touches (s : State) (u : Nat) :
    Touches [.batten] s (State.serveUnit s u) := by
  unfold State.serveUnit
  repeat' first
    | with_reducible apply Touches.refl
    | with_reducible assumption
    | with_reducible intro _
    | (with_reducible apply Touches.comp (State.setUnit_touches _ _ _); rotate_left; decide)
    | with_reducible apply Touches.ite
    | split
    | dsimp only

theorem State.finishAtomic_touches (s : State) (ldi : Nat) (peer : Nat) (aseq : Nat) (status : Nat) (executed : Bool) (result : BitVec 64) :
    Touches [.tallies, .shuttle, .counters, .trace, .out] s (State.finishAtomic s ldi peer aseq status executed result) := by
  unfold State.finishAtomic
  repeat' first
    | with_reducible apply Touches.refl
    | with_reducible assumption
    | with_reducible intro _
    | (with_reducible apply Touches.comp (State.rcSet_touches _ _); rotate_left; decide)
    | (with_reducible apply Touches.comp (State.sendResponse_touches _ _ _ _ _ _ _ _); rotate_left; decide)
    | with_reducible apply Touches.ite
    | split
    | dsimp only

theorem State.failEntry_touches (s : State) (e : BEntry) (status : Nat) :
    Touches [.tallies, .fences, .shuttle, .batten, .log, .counters, .trace, .out] s (State.failEntry s e status) := by
  unfold State.failEntry
  repeat' first
    | with_reducible apply Touches.refl
    | with_reducible assumption
    | with_reducible intro _
    | (with_reducible apply Touches.comp (State.post_touches _ _ _ _ _); rotate_left; decide)
    | (with_reducible apply Touches.comp (State.settle_touches _); rotate_left; decide)
    | (with_reducible apply Touches.comp (State.finishAtomic_touches _ _ _ _ _ _ _); rotate_left; decide)
    | (with_reducible apply Touches.comp (State.emit_touches _ _); rotate_left; decide)
    | with_reducible apply Touches.ite
    | split
    | ((with_reducible apply Touches.set_batten); rotate_left; decide)
    | dsimp only

theorem State.failOwed_touches (s : State) (p : BPending) (status : Nat) :
    Touches [.fences, .batten] s (State.failOwed s p status) := by
  unfold State.failOwed
  repeat' first
    | with_reducible apply Touches.refl
    | with_reducible assumption
    | with_reducible intro _
    | (with_reducible apply Touches.comp (State.post_touches _ _ _ _ _); rotate_left; decide)
    | with_reducible apply Touches.ite
    | split
    | ((with_reducible apply Touches.set_batten); rotate_left; decide)
    | dsimp only

theorem State.payReq_touches (s : State) (q : Nat) :
    Touches [.fences, .batten] s (State.payReq s q) := by
  unfold State.payReq
  repeat' first
    | with_reducible apply Touches.refl
    | with_reducible assumption
    | with_reducible intro _
    | (with_reducible apply Touches.comp (State.post_touches _ _ _ _ _); rotate_left; decide)
    | with_reducible apply Touches.ite
    | split
    | ((with_reducible apply Touches.set_batten); rotate_left; decide)
    | dsimp only

theorem State.discardBatten_touches (s : State) (ldi : Nat) :
    Touches [.batten, .out] s (State.discardBatten s ldi) := by
  unfold State.discardBatten
  repeat' first
    | with_reducible apply Touches.refl
    | with_reducible assumption
    | with_reducible intro _
    | (with_reducible apply Touches.comp (State.emitAll_touches _ _); rotate_left; decide)
    | with_reducible apply Touches.ite
    | split
    | ((with_reducible apply Touches.set_batten); rotate_left; decide)
    | dsimp only

end Sys2Proof.Machine
end

