-- ==== Sys2Proof/Laws/Touches/Abort.lean ====
section
/-!
SUPPORT. What the operations of Machine/Abort.lean touch, one law for each.
-/
namespace Sys2Proof.Machine

set_option linter.unusedTactic false
set_option linter.unreachableTactic false

theorem State.publish_touches (s : State) (rs : List (BitVec 128)) :
    Touches [.bp, .out] s (State.publish s rs).2 := by
  unfold State.publish
  repeat' first
    | with_reducible apply Touches.refl
    | with_reducible assumption
    | with_reducible intro _
    | (with_reducible apply Touches.comp (State.emitAll_touches _ _); rotate_left; decide)
    | with_reducible apply Touches.ite
    | split
    | ((with_reducible apply Touches.set_bp); rotate_left; decide)
    | dsimp only

theorem State.dropKeys_touches (s : State) (ldi : Nat) (p : Nat → Bool) :
    Touches [.keys] s (State.dropKeys s ldi p) := by
  unfold State.dropKeys
  repeat' first
    | with_reducible apply Touches.refl
    | with_reducible assumption
    | with_reducible intro _
    | with_reducible apply Touches.ite
    | split
    | ((with_reducible apply Touches.set_keys); rotate_left; decide)
    | dsimp only

theorem State.dropGroupKeys_touches (s : State) (ldi : Nat) :
    Touches [.shuttle] s (State.dropGroupKeys s ldi) := by
  unfold State.dropGroupKeys
  repeat' first
    | with_reducible apply Touches.refl
    | with_reducible assumption
    | with_reducible intro _
    | with_reducible apply Touches.ite
    | split
    | ((with_reducible apply Touches.set_shuttle); rotate_left; decide)
    | dsimp only

theorem State.squallRecord_touches (s : State) (ldi : Nat) (cause : Nat) (devid : Nat) (rank : Nat) (origCause : Nat) (sent : Bool) :
    Touches [.log, .counters, .trace] s (State.squallRecord s ldi cause devid rank origCause sent) := by
  unfold State.squallRecord
  repeat' first
    | with_reducible apply Touches.refl
    | with_reducible assumption
    | with_reducible intro _
    | (with_reducible apply Touches.comp (State.record_touches _ _ _); rotate_left; decide)
    | with_reducible apply Touches.ite
    | split
    | dsimp only

theorem State.sendSquall_touches (s : State) (ldi : Nat) (cause : Nat) :
    Touches [.doms, .tallies, .shuttle, .log, .counters, .trace, .out] s (State.sendSquall s ldi cause) := by
  unfold State.sendSquall
  repeat' first
    | with_reducible apply Touches.refl
    | with_reducible assumption
    | with_reducible intro _
    | (with_reducible apply Touches.comp (State.sendCtrl_touches _ _ _ _); rotate_left; decide)
    | (with_reducible apply Touches.comp (State.setDom_touches _ _ _); rotate_left; decide)
    | (with_reducible apply Touches.comp (State.squallRecord_touches _ _ _ _ _ _ _); rotate_left; decide)
    | with_reducible apply Touches.foldl
    | with_reducible apply Touches.ite
    | split
    | dsimp only

theorem State.tdiError_touches (s : State) (func : Nat) :
    Touches [.link] s (State.tdiError s func) := by
  unfold State.tdiError
  repeat' first
    | with_reducible apply Touches.refl
    | with_reducible assumption
    | with_reducible intro _
    | with_reducible apply Touches.ite
    | split
    | ((with_reducible apply Touches.set_link); rotate_left; decide)
    | dsimp only

theorem State.overtake_touches (s : State) (ldi : Nat) :
    Touches [.loom] s (State.overtake s ldi) := by
  unfold State.overtake
  repeat' first
    | with_reducible apply Touches.refl
    | with_reducible assumption
    | with_reducible intro _
    | with_reducible apply Touches.ite
    | split
    | ((with_reducible apply Touches.set_loom); rotate_left; decide)
    | dsimp only

theorem State.markAborted_touches (s : State) (ldi : Nat) :
    Touches [.doms, .tallies, .spindle, .loom, .counters, .trace, .link, .out] s (State.markAborted s ldi) := by
  unfold State.markAborted
  repeat' first
    | with_reducible apply Touches.refl
    | with_reducible assumption
    | with_reducible intro _
    | (with_reducible apply Touches.comp (State.abortPulls_touches _ _); rotate_left; decide)
    | (with_reducible apply Touches.comp (State.tdiError_touches _ _); rotate_left; decide)
    | (with_reducible apply Touches.comp (State.overtake_touches _ _); rotate_left; decide)
    | (with_reducible apply Touches.comp (State.setDom_touches _ _ _); rotate_left; decide)
    | with_reducible apply Touches.foldl
    | with_reducible apply Touches.ite
    | split
    | dsimp only

theorem State.internalEntry_touches (s : State) :
    Touches [.loom, .counters] s (State.internalEntry s) := by
  unfold State.internalEntry
  repeat' first
    | with_reducible apply Touches.refl
    | with_reducible assumption
    | with_reducible intro _
    | (with_reducible apply Touches.comp (State.bump_touches _ _ _); rotate_left; decide)
    | with_reducible apply Touches.ite
    | split
    | ((with_reducible apply Touches.set_loom); rotate_left; decide)
    | dsimp only

theorem State.openIntent_touches (s : State) (lane : Nat) :
    Touches [.loom] s (State.openIntent s lane) := by
  unfold State.openIntent
  repeat' first
    | with_reducible apply Touches.refl
    | with_reducible assumption
    | with_reducible intro _
    | with_reducible apply Touches.ite
    | split
    | ((with_reducible apply Touches.set_loom); rotate_left; decide)
    | dsimp only

theorem State.commitIntent_touches (s : State) (lane : Nat) :
    Touches [.loom, .counters] s (State.commitIntent s lane) := by
  unfold State.commitIntent
  repeat' first
    | with_reducible apply Touches.refl
    | with_reducible assumption
    | with_reducible intro _
    | (with_reducible apply Touches.comp (State.bump_touches _ _ _); rotate_left; decide)
    | with_reducible apply Touches.ite
    | split
    | ((with_reducible apply Touches.set_loom); rotate_left; decide)
    | dsimp only

theorem State.dropTargets_touches (s : State) (ldi : Nat) :
    Touches [.weft] s (State.dropTargets s ldi) := by
  unfold State.dropTargets
  repeat' first
    | with_reducible apply Touches.refl
    | with_reducible assumption
    | with_reducible intro _
    | with_reducible apply Touches.ite
    | split
    | ((with_reducible apply Touches.set_weft); rotate_left; decide)
    | dsimp only

theorem State.closeAbort_touches (s : State) (a : DueAbort) :
    Touches [.weft, .shuttle, .batten, .keys, .bp, .out] s (State.closeAbort s a) := by
  unfold State.closeAbort
  repeat' first
    | with_reducible apply Touches.refl
    | with_reducible assumption
    | with_reducible intro _
    | (with_reducible apply Touches.comp (State.dropKeys_touches _ _ _); rotate_left; decide)
    | (with_reducible apply Touches.comp (State.publish_touches _ _); rotate_left; decide)
    | (with_reducible apply Touches.comp (Touches.of_eq (by assumption) (State.publish_touches _ _)); rotate_left; decide)
    | (with_reducible apply Touches.comp (State.dropRxq_touches _ _); rotate_left; decide)
    | (with_reducible apply Touches.comp (State.dropTargets_touches _ _); rotate_left; decide)
    | (with_reducible apply Touches.comp (State.discardBatten_touches _ _); rotate_left; decide)
    | (with_reducible apply Touches.comp (State.dropGroupKeys_touches _ _); rotate_left; decide)
    | (with_reducible apply Touches.comp (State.discardWeft_touches _ _); rotate_left; decide)
    | with_reducible apply Touches.ite
    | split
    | dsimp only

theorem State.signalAbort_touches (s : State) (a : DueAbort) :
    Touches [.tallies, .fences, .loom, .counters, .trace, .out] s (State.signalAbort s a) := by
  unfold State.signalAbort
  repeat' first
    | with_reducible apply Touches.refl
    | with_reducible assumption
    | with_reducible intro _
    | (with_reducible apply Touches.comp (State.internalEntry_touches _); rotate_left; decide)
    | (with_reducible apply Touches.comp (State.signalAll_touches _ _ _); rotate_left; decide)
    | with_reducible apply Touches.ite
    | split
    | dsimp only

theorem State.restAbort_touches (s : State) (a : DueAbort) :
    Touches [.doms, .tallies, .shuttle, .log, .counters, .trace, .events, .out] s (State.restAbort s a) := by
  unfold State.restAbort
  repeat' first
    | with_reducible apply Touches.refl
    | with_reducible assumption
    | with_reducible intro _
    | (with_reducible apply Touches.comp (State.sendSquall_touches _ _ _); rotate_left; decide)
    | (with_reducible apply Touches.comp (State.rcEnd_touches _ _); rotate_left; decide)
    | (with_reducible apply Touches.comp (State.raiseAbort_touches _ _); rotate_left; decide)
    | with_reducible apply Touches.ite
    | split
    | dsimp only

theorem State.finishAbort_touches (s : State) (a : DueAbort) :
    Touches [.doms, .tallies, .fences, .weft, .shuttle, .batten, .keys, .loom, .log, .counters, .trace, .events, .bp, .out] s (State.finishAbort s a) := by
  unfold State.finishAbort
  repeat' first
    | with_reducible apply Touches.refl
    | with_reducible assumption
    | with_reducible intro _
    | (with_reducible apply Touches.comp (State.restAbort_touches _ _); rotate_left; decide)
    | (with_reducible apply Touches.comp (State.signalAbort_touches _ _); rotate_left; decide)
    | (with_reducible apply Touches.comp (State.closeAbort_touches _ _); rotate_left; decide)
    | with_reducible apply Touches.ite
    | split
    | dsimp only

theorem State.abort_touches (s : State) (ldi : Nat) (cause : Nat) (origin : Bool) :
    Touches [.doms, .tallies, .fences, .weft, .shuttle, .batten, .spindle, .keys, .loom, .log, .counters, .trace, .events, .bp, .link, .out] s (State.abort s ldi cause origin) := by
  unfold State.abort
  repeat' first
    | with_reducible apply Touches.refl
    | with_reducible assumption
    | with_reducible intro _
    | (with_reducible apply Touches.comp (State.markAborted_touches _ _); rotate_left; decide)
    | (with_reducible apply Touches.comp (State.sendSquall_touches _ _ _); rotate_left; decide)
    | (with_reducible apply Touches.comp (State.restAbort_touches _ _); rotate_left; decide)
    | (with_reducible apply Touches.comp (State.settle_touches _); rotate_left; decide)
    | (with_reducible apply Touches.comp (State.finishAbort_touches _ _); rotate_left; decide)
    | (with_reducible apply Touches.comp (State.closeAbort_touches _ _); rotate_left; decide)
    | with_reducible apply Touches.ite
    | split
    | ((with_reducible apply Touches.set_loom); rotate_left; decide)
    | dsimp only

theorem State.resumeAbort_touches (s : State) (a : DueAbort) :
    Touches [.doms, .tallies, .fences, .weft, .shuttle, .batten, .keys, .loom, .log, .counters, .trace, .events, .bp, .out] s (State.resumeAbort s a) := by
  unfold State.resumeAbort
  repeat' first
    | with_reducible apply Touches.refl
    | with_reducible assumption
    | with_reducible intro _
    | (with_reducible apply Touches.comp (State.finishAbort_touches _ _); rotate_left; decide)
    | (with_reducible apply Touches.comp (State.signalAbort_touches _ _); rotate_left; decide)
    | with_reducible apply Touches.ite
    | split
    | dsimp only

theorem State.finishAborts_touches (s : State) :
    Touches [.doms, .tallies, .fences, .weft, .shuttle, .batten, .keys, .loom, .log, .counters, .trace, .events, .bp, .out] s (State.finishAborts s) := by
  unfold State.finishAborts
  repeat' first
    | with_reducible apply Touches.refl
    | with_reducible assumption
    | with_reducible intro _
    | (with_reducible apply Touches.comp (State.resumeAbort_touches _ _); rotate_left; decide)
    | with_reducible apply Touches.foldl
    | with_reducible apply Touches.ite
    | split
    | ((with_reducible apply Touches.set_loom); rotate_left; decide)
    | dsimp only

theorem State.loseAtomic_touches (s : State) (peer : Nat) (e : RcEntry) :
    Touches [.tallies, .fences, .log, .counters, .trace, .out] s (State.loseAtomic s peer e) := by
  unfold State.loseAtomic
  repeat' first
    | with_reducible apply Touches.refl
    | with_reducible assumption
    | with_reducible intro _
    | (with_reducible apply Touches.comp (State.settle_touches _); rotate_left; decide)
    | (with_reducible apply Touches.comp (State.record_touches _ _ _); rotate_left; decide)
    | (with_reducible apply Touches.comp (State.applyStatus_touches _ _); rotate_left; decide)
    | with_reducible apply Touches.ite
    | split
    | dsimp only

theorem State.loseAtomics_touches (s : State) (peer : Nat) :
    Touches [.tallies, .fences, .shuttle, .log, .counters, .trace, .out] s (State.loseAtomics s peer) := by
  unfold State.loseAtomics
  repeat' first
    | with_reducible apply Touches.refl
    | with_reducible assumption
    | with_reducible intro _
    | (with_reducible apply Touches.comp (State.loseAtomic_touches _ _ _); rotate_left; decide)
    | (with_reducible apply Touches.comp (State.rcDel_touches _ _); rotate_left; decide)
    | with_reducible apply Touches.foldl
    | with_reducible apply Touches.ite
    | split
    | dsimp only

theorem State.quarantinePeerGone_touches (s : State) (peer : Nat) :
    Touches [.quarantine] s (State.quarantinePeerGone s peer) := by
  unfold State.quarantinePeerGone
  repeat' first
    | with_reducible apply Touches.refl
    | with_reducible assumption
    | with_reducible intro _
    | with_reducible apply Touches.ite
    | split
    | ((with_reducible apply Touches.set_tables); rotate_left; exact TablesTouch.set_quarantine _ _ (by decide))
    | dsimp only

theorem State.endMigrations_touches (s : State) (peer : Nat) :
    Touches [.doms, .tallies, .keys] s (State.endMigrations s peer) := by
  unfold State.endMigrations
  repeat' first
    | with_reducible apply Touches.refl
    | with_reducible assumption
    | with_reducible intro _
    | (with_reducible apply Touches.comp (State.dropKeys_touches _ _ _); rotate_left; decide)
    | (with_reducible apply Touches.comp (State.setDom_touches _ _ _); rotate_left; decide)
    | with_reducible apply Touches.foldl
    | with_reducible apply Touches.ite
    | split
    | dsimp only

theorem State.endSa_touches (s : State) (peer : Nat) (cause : Nat) (st : SaState) :
    Touches [.doms, .tallies, .fences, .quarantine, .weft, .shuttle, .batten, .spindle, .keys, .loom, .log, .counters, .trace, .events, .bp, .link, .out] s (State.endSa s peer cause st) := by
  unfold State.endSa
  repeat' first
    | with_reducible apply Touches.refl
    | with_reducible assumption
    | with_reducible intro _
    | (with_reducible apply Touches.comp (State.loseAtomics_touches _ _); rotate_left; decide)
    | (with_reducible apply Touches.comp (State.abort_touches _ _ _ _); rotate_left; decide)
    | (with_reducible apply Touches.comp (State.endMigrations_touches _ _); rotate_left; decide)
    | (with_reducible apply Touches.comp (State.quarantinePeerGone_touches _ _); rotate_left; decide)
    | (with_reducible apply Touches.comp (State.internalEntry_touches _); rotate_left; decide)
    | (with_reducible apply Touches.comp (State.setSa_touches _ _ _); rotate_left; decide)
    | with_reducible apply Touches.foldl
    | with_reducible apply Touches.ite
    | split
    | dsimp only

theorem State.loseSa_touches (s : State) (peer : Nat) :
    Touches [.doms, .tallies, .fences, .quarantine, .weft, .shuttle, .batten, .spindle, .keys, .loom, .log, .counters, .trace, .events, .bp, .link, .out] s (State.loseSa s peer) := by
  unfold State.loseSa
  repeat' first
    | with_reducible apply Touches.refl
    | with_reducible assumption
    | with_reducible intro _
    | (with_reducible apply Touches.comp (State.endSa_touches _ _ _ _); rotate_left; decide)
    | (with_reducible apply Touches.comp (State.saRecord_touches _ _ _ _ _); rotate_left; decide)
    | with_reducible apply Touches.ite
    | split
    | dsimp only

theorem State.endExhausted_touches (s : State) (peer : Nat) :
    Touches [.doms, .tallies, .fences, .quarantine, .weft, .shuttle, .batten, .spindle, .keys, .loom, .log, .counters, .trace, .events, .bp, .link, .out] s (State.endExhausted s peer) := by
  unfold State.endExhausted
  repeat' first
    | with_reducible apply Touches.refl
    | with_reducible assumption
    | with_reducible intro _
    | (with_reducible apply Touches.comp (State.loseSa_touches _ _); rotate_left; decide)
    | with_reducible apply Touches.ite
    | split
    | dsimp only

theorem State.endSpent_touches (s : State) :
    Touches [.doms, .tallies, .fences, .quarantine, .weft, .shuttle, .batten, .spindle, .keys, .loom, .log, .counters, .trace, .events, .bp, .link, .out] s (State.endSpent s) := by
  unfold State.endSpent
  repeat' first
    | with_reducible apply Touches.refl
    | with_reducible assumption
    | with_reducible intro _
    | (with_reducible apply Touches.comp (State.endExhausted_touches _ _); rotate_left; decide)
    | with_reducible apply Touches.foldl
    | with_reducible apply Touches.ite
    | split
    | dsimp only

theorem State.applyTail_touches (s : State) (i : Nat) (v : Nat) :
    Touches [.loom, .counters] s (State.applyTail s i v) := by
  unfold State.applyTail
  repeat' first
    | with_reducible apply Touches.refl
    | with_reducible assumption
    | with_reducible intro _
    | with_reducible apply Touches.ite
    | split
    | ((with_reducible apply Touches.set_loom_counters); rotate_left; decide; decide)
    | dsimp only

theorem State.applyHeldTails_touches (s : State) :
    Touches [.loom, .counters] s (State.applyHeldTails s) := by
  unfold State.applyHeldTails
  repeat' first
    | with_reducible apply Touches.refl
    | with_reducible assumption
    | with_reducible intro _
    | (with_reducible apply Touches.comp (State.applyTail_touches _ _ _); rotate_left; decide)
    | with_reducible apply Touches.foldl
    | with_reducible apply Touches.ite
    | split
    | dsimp only

theorem State.endHalt_touches (s : State) :
    Touches [.doms, .tallies, .fences, .weft, .shuttle, .batten, .keys, .loom, .log, .counters, .trace, .events, .bp, .out] s (State.endHalt s) := by
  unfold State.endHalt
  repeat' first
    | with_reducible apply Touches.refl
    | with_reducible assumption
    | with_reducible intro _
    | (with_reducible apply Touches.comp (State.finishAborts_touches _); rotate_left; decide)
    | (with_reducible apply Touches.comp (State.applyHeldTails_touches _); rotate_left; decide)
    | with_reducible apply Touches.ite
    | split
    | ((with_reducible apply Touches.set_loom); rotate_left; decide)
    | dsimp only

theorem State.failureEndsHalt_touches (s : State) :
    Touches [.doms, .tallies, .fences, .weft, .shuttle, .batten, .keys, .loom, .log, .counters, .trace, .events, .bp, .out] s (State.failureEndsHalt s) := by
  unfold State.failureEndsHalt
  repeat' first
    | with_reducible apply Touches.refl
    | with_reducible assumption
    | with_reducible intro _
    | (with_reducible apply Touches.comp (State.endHalt_touches _); rotate_left; decide)
    | with_reducible apply Touches.ite
    | split
    | dsimp only

end Sys2Proof.Machine
end

