-- ==== Sys2Proof/Laws/Touches/Otp.lean ====
section
/-!
SUPPORT. What the operations of Machine/Otp.lean touch, one law for each.
-/
namespace Sys2Proof.Machine

set_option linter.unusedTactic false
set_option linter.unreachableTactic false

/-- A pulse leaves every bit that is 1 (R347). -/
theorem Otp.program_keeps (o : Otp) (w : OtpWrite) (a : Nat) :
    o.words.findD a 0 &&& (o.program w).words.findD a 0 = o.words.findD a 0 := by
  unfold Otp.program
  dsimp only
  rw [Map.findD_put]
  split
  · rename_i e
    rw [e]
    ext i
    simp
    tauto
  · exact BitVec.and_self

theorem State.dropAccepted_touches (s : State) :
    Touches [.weft] s (State.dropAccepted s) := by
  unfold State.dropAccepted
  repeat' first
    | with_reducible apply Touches.refl
    | with_reducible assumption
    | with_reducible intro _
    | (with_reducible apply Touches.comp (State.dropEntries_touches _ _ _); rotate_left; decide)
    | with_reducible apply Touches.foldl
    | with_reducible apply Touches.ite
    | split
    | dsimp only

theorem State.zeroizeKeys_touches (s : State) :
    Touches [.weft, .shuttle, .keys, .entropy, .link] s (State.zeroizeKeys s) := by
  unfold State.zeroizeKeys
  repeat' first
    | with_reducible apply Touches.refl
    | with_reducible assumption
    | with_reducible exact Nat.le_refl _
    | with_reducible exact Nat.le_succ _
    | with_reducible intro _
    | (with_reducible apply Touches.comp (State.dropAccepted_touches _); rotate_left; decide)
    | with_reducible apply Touches.ite
    | split
    | ((with_reducible apply Touches.set_shuttle_keys_entropy_link); rotate_left; decide; decide; decide; decide)
    | dsimp only

theorem State.fatalTamper_touches (s : State) (inst : Nat) (mask : Nat) (baro : Bool) :
    Touches [.tallies, .fences, .weft, .shuttle, .spindle, .keys, .entropy, .log, .counters, .trace, .events, .power, .link, .out] s (State.fatalTamper s inst mask baro) := by
  unfold State.fatalTamper
  repeat' first
    | with_reducible apply Touches.refl
    | with_reducible assumption
    | with_reducible exact Nat.le_refl _
    | with_reducible exact Nat.le_succ _
    | with_reducible intro _
    | (with_reducible apply Touches.comp (State.recordNow_touches _ _ _); rotate_left; decide)
    | (with_reducible apply Touches.comp (State.zeroizeKeys_touches _); rotate_left; decide)
    | with_reducible apply Touches.ite
    | split
    | ((with_reducible apply Touches.set_spindle_power); rotate_left; decide; decide)
    | dsimp only

end Sys2Proof.Machine
end

