-- ==== Sys2Proof/Laws/Touches/Barometer.lean ====
section
/-!
SUPPORT. What the operations of Machine/Barometer.lean touch, one law for each.
-/
namespace Sys2Proof.Machine

set_option linter.unusedTactic false
set_option linter.unreachableTactic false

theorem State.setSensor_touches (s : State) (inst : Nat) (x : Sensor) :
    Touches [.baro] s (State.setSensor s inst x) := by
  unfold State.setSensor
  repeat' first
    | with_reducible apply Touches.refl
    | with_reducible assumption
    | with_reducible intro _
    | with_reducible apply Touches.ite
    | split
    | ((with_reducible apply Touches.set_baro); rotate_left; decide)
    | dsimp only

theorem State.scoreReached_touches (s : State) (inst : Nat) (bin : Nat) (cls : Nat) (sensor : Nat) (level : Nat) (thresh : Nat) (old : Nat) (score : Nat) :
    Touches [.tallies, .fences, .weft, .shuttle, .spindle, .keys, .entropy, .log, .counters, .trace, .events, .power, .baro, .link, .out] s (State.scoreReached s inst bin cls sensor level thresh old score) := by
  unfold State.scoreReached
  repeat' first
    | with_reducible apply Touches.refl
    | with_reducible assumption
    | with_reducible exact Nat.le_refl _
    | with_reducible exact Nat.le_succ _
    | with_reducible intro _
    | (with_reducible apply Touches.comp (State.record_touches _ _ _); rotate_left; decide)
    | (with_reducible apply Touches.comp (State.raise_touches _ _); rotate_left; decide)
    | (with_reducible apply Touches.comp (State.setSensor_touches _ _ _); rotate_left; decide)
    | (with_reducible apply Touches.comp (State.fatalTamper_touches _ _ _ _); rotate_left; decide)
    | with_reducible apply Touches.ite
    | split
    | dsimp only

theorem State.decayScores_touches (s : State) :
    Touches [.baro] s (State.decayScores s) := by
  unfold State.decayScores
  repeat' first
    | with_reducible apply Touches.refl
    | with_reducible assumption
    | with_reducible intro _
    | with_reducible apply Touches.ite
    | split
    | ((with_reducible apply Touches.set_baro); rotate_left; decide)
    | dsimp only

theorem State.alarm_touches (s : State) (inst : Nat) (bin : Nat) (level : Nat) (c : Nat × Nat × Nat) :
    Touches [.tallies, .fences, .weft, .shuttle, .spindle, .keys, .entropy, .log, .counters, .trace, .events, .power, .baro, .link, .out] s (State.alarm s inst bin level c) := by
  unfold State.alarm
  repeat' first
    | with_reducible apply Touches.refl
    | with_reducible assumption
    | with_reducible exact Nat.le_refl _
    | with_reducible exact Nat.le_succ _
    | with_reducible intro _
    | (with_reducible apply Touches.comp (State.traceWrite_touches _ _); rotate_left; decide)
    | (with_reducible apply Touches.comp (State.recordLimited_touches _ _ _ _ _ _); rotate_left; decide)
    | (with_reducible apply Touches.comp (State.setSensor_touches _ _ _); rotate_left; decide)
    | (with_reducible apply Touches.comp (State.scoreReached_touches _ _ _ _ _ _ _ _ _); rotate_left; decide)
    | with_reducible apply Touches.ite
    | split
    | dsimp only

theorem execBarometerSample_touches (inst : Nat) (marginTaps : Nat) (droop : Nat) (glitch : Nat) (bin : Nat) (s : State) :
    OutTouches [.tallies, .fences, .weft, .shuttle, .spindle, .keys, .entropy, .log, .counters, .trace, .events, .power, .baro, .link, .out] s (execBarometerSample inst marginTaps droop glitch bin s) := by
  unfold execBarometerSample
  repeat' first
    | with_reducible apply Touches.refl
    | with_reducible assumption
    | with_reducible exact Nat.le_refl _
    | with_reducible exact Nat.le_succ _
    | with_reducible intro _
    | with_reducible apply OutTouches.next
    | with_reducible apply OutTouches.nextIf
    | (with_reducible apply Touches.comp (State.setSensor_touches _ _ _); rotate_left; decide)
    | (with_reducible apply Touches.comp (State.alarm_touches _ _ _ _ _); rotate_left; decide)
    | (with_reducible apply Touches.comp (State.decayScores_touches _); rotate_left; decide)
    | with_reducible apply Touches.ite
    | with_reducible apply OutTouches.ite
    | split
    | dsimp only

theorem execStretchRelax_touches (inst : Nat) (s : State) :
    OutTouches [.baro] s (execStretchRelax inst s) := by
  unfold execStretchRelax
  repeat' first
    | with_reducible apply Touches.refl
    | with_reducible assumption
    | with_reducible intro _
    | with_reducible apply OutTouches.next
    | with_reducible apply OutTouches.nextIf
    | (with_reducible apply Touches.comp (State.setSensor_touches _ _ _); rotate_left; decide)
    | with_reducible apply Touches.ite
    | with_reducible apply OutTouches.ite
    | split
    | dsimp only

theorem execTamperScoreDecay_touches (s : State) :
    OutTouches [.time, .baro] s (execTamperScoreDecay s) := by
  unfold execTamperScoreDecay
  repeat' first
    | with_reducible apply Touches.refl
    | with_reducible assumption
    | with_reducible intro _
    | with_reducible apply OutTouches.next
    | with_reducible apply OutTouches.nextIf
    | (with_reducible apply Touches.comp (State.advanceTo_touches _ _); rotate_left; decide)
    | (with_reducible apply Touches.comp (State.decayScores_touches _); rotate_left; decide)
    | with_reducible apply Touches.ite
    | with_reducible apply OutTouches.ite
    | split
    | dsimp only

theorem execCalEpochEnd_touches (inst : Nat) (bin : Nat) (s : State) :
    OutTouches [.baro] s (execCalEpochEnd inst bin s) := by
  unfold execCalEpochEnd
  repeat' first
    | with_reducible apply Touches.refl
    | with_reducible assumption
    | with_reducible intro _
    | with_reducible apply OutTouches.next
    | with_reducible apply OutTouches.nextIf
    | (with_reducible apply Touches.comp (State.setSensor_touches _ _ _); rotate_left; decide)
    | with_reducible apply Touches.ite
    | with_reducible apply OutTouches.ite
    | split
    | dsimp only

theorem State.windowRecord_touches (s : State) (cls : Nat) :
    Touches [.log, .counters, .trace] s (State.windowRecord s cls) := by
  unfold State.windowRecord
  repeat' first
    | with_reducible apply Touches.refl
    | with_reducible assumption
    | with_reducible intro _
    | (with_reducible apply Touches.comp (State.record_touches _ _ _); rotate_left; decide)
    | with_reducible apply Touches.ite
    | split
    | dsimp only

theorem State.closeWindow_touches (s : State) :
    Touches [.log, .counters, .trace, .baro] s (State.closeWindow s) := by
  unfold State.closeWindow
  repeat' first
    | with_reducible apply Touches.refl
    | with_reducible assumption
    | with_reducible intro _
    | (with_reducible apply Touches.comp (State.windowRecord_touches _ _); rotate_left; decide)
    | with_reducible apply Touches.ite
    | split
    | ((with_reducible apply Touches.set_baro); rotate_left; decide)
    | dsimp only

theorem execCalWindowExpiry_touches (s : State) :
    OutTouches [.time, .log, .counters, .trace, .baro] s (execCalWindowExpiry s) := by
  unfold execCalWindowExpiry
  repeat' first
    | with_reducible apply Touches.refl
    | with_reducible assumption
    | with_reducible intro _
    | with_reducible apply OutTouches.next
    | with_reducible apply OutTouches.nextIf
    | (with_reducible apply Touches.comp (State.advanceTo_touches _ _); rotate_left; decide)
    | (with_reducible apply Touches.comp (State.closeWindow_touches _); rotate_left; decide)
    | with_reducible apply Touches.ite
    | with_reducible apply OutTouches.ite
    | split
    | dsimp only

theorem execBarometerStatusRefresh_touches (s : State) :
    OutTouches [.time, .baro] s (execBarometerStatusRefresh s) := by
  unfold execBarometerStatusRefresh
  repeat' first
    | with_reducible apply Touches.refl
    | with_reducible assumption
    | with_reducible intro _
    | with_reducible apply OutTouches.next
    | with_reducible apply OutTouches.nextIf
    | (with_reducible apply Touches.comp (State.advanceTo_touches _ _); rotate_left; decide)
    | with_reducible apply Touches.ite
    | with_reducible apply OutTouches.ite
    | split
    | ((with_reducible apply Touches.set_baro); rotate_left; decide)
    | dsimp only

theorem execTamperInput_touches (input : Nat) (s : State) :
    OutTouches [.tallies, .fences, .weft, .shuttle, .spindle, .keys, .entropy, .log, .counters, .trace, .events, .power, .link, .out] s (execTamperInput input s) := by
  unfold execTamperInput
  repeat' first
    | with_reducible apply Touches.refl
    | with_reducible assumption
    | with_reducible exact Nat.le_refl _
    | with_reducible exact Nat.le_succ _
    | with_reducible intro _
    | with_reducible apply OutTouches.next
    | with_reducible apply OutTouches.nextIf
    | (with_reducible apply Touches.comp (State.record_touches _ _ _); rotate_left; decide)
    | (with_reducible apply Touches.comp (State.fatalTamper_touches _ _ _ _); rotate_left; decide)
    | with_reducible apply Touches.ite
    | with_reducible apply OutTouches.ite
    | split
    | ((with_reducible apply Touches.set_power); rotate_left; decide)
    | dsimp only

end Sys2Proof.Machine
end

