-- ==== Sys2Proof/Laws/Touches/Delivery.lean ====
section
/-!
SUPPORT. What the operations of Machine/Delivery.lean touch, one law for each.
-/
namespace Sys2Proof.Machine

set_option linter.unusedTactic false
set_option linter.unreachableTactic false

theorem State.refuseByKind_touches (s : State) (p : RxPkt) (status : Nat) :
    Touches [.tallies, .fences, .shuttle, .counters, .trace, .out] s (State.refuseByKind s p status) := by
  unfold State.refuseByKind
  repeat' first
    | with_reducible apply Touches.refl
    | with_reducible assumption
    | with_reducible intro _
    | (with_reducible apply Touches.comp (State.post_touches _ _ _ _ _); rotate_left; decide)
    | (with_reducible apply Touches.comp (State.sendNack_touches _ _ _ _); rotate_left; decide)
    | with_reducible apply Touches.ite
    | split
    | dsimp only

theorem State.dropMap_touches (s : State) (p : RxPkt) :
    Touches [.tallies, .log, .counters, .trace] s (State.dropMap s p) := by
  unfold State.dropMap
  repeat' first
    | with_reducible apply Touches.refl
    | with_reducible assumption
    | with_reducible intro _
    | (with_reducible apply Touches.comp (State.bumpDom_touches _ _ _ _); rotate_left; decide)
    | (with_reducible apply Touches.comp (State.dropRx_touches _ _ _ _); rotate_left; decide)
    | with_reducible apply Touches.ite
    | split
    | dsimp only

theorem State.dropState_touches (s : State) (p : RxPkt) :
    Touches [.log, .counters, .trace] s (State.dropState s p) := by
  unfold State.dropState
  repeat' first
    | with_reducible apply Touches.refl
    | with_reducible assumption
    | with_reducible intro _
    | (with_reducible apply Touches.comp (State.bump_touches _ _ _); rotate_left; decide)
    | (with_reducible apply Touches.comp (State.dropRx_touches _ _ _ _); rotate_left; decide)
    | with_reducible apply Touches.ite
    | split
    | dsimp only

theorem State.countRx_touches (s : State) (p : RxPkt) :
    Touches [.tallies] s (State.countRx s p) := by
  unfold State.countRx
  repeat' first
    | with_reducible apply Touches.refl
    | with_reducible assumption
    | with_reducible intro _
    | (with_reducible apply Touches.comp (State.bumpDom_touches _ _ _ _); rotate_left; decide)
    | (with_reducible apply Touches.comp (State.meter_touches _ _ _ _ _); rotate_left; decide)
    | with_reducible apply Touches.ite
    | split
    | dsimp only

theorem State.rxRefuse_touches (s : State) (p : RxPkt) (status : Nat) :
    Touches [.fences] s (State.rxRefuse s p status) := by
  unfold State.rxRefuse
  repeat' first
    | with_reducible apply Touches.refl
    | with_reducible assumption
    | with_reducible intro _
    | (with_reducible apply Touches.comp (State.post_touches _ _ _ _ _); rotate_left; decide)
    | with_reducible apply Touches.ite
    | split
    | dsimp only

theorem State.rxRoute_touches (s : State) (p : RxPkt) (ws : List (Nat × Nat × BWork)) :
    OptTouches [.tallies, .fences, .batten] s (State.rxRoute s p ws) := by
  unfold State.rxRoute
  repeat' first
    | with_reducible apply Touches.refl
    | with_reducible assumption
    | with_reducible intro _
    | with_reducible apply OptTouches.none
    | with_reducible apply OptTouches.some
    | (with_reducible apply Touches.comp (State.countRx_touches _ _); rotate_left; decide)
    | (with_reducible apply Touches.comp (State.routeAll_touches _ _ _); rotate_left; decide)
    | (with_reducible apply Touches.comp (State.rxRefuse_touches _ _ _); rotate_left; decide)
    | with_reducible apply OptTouches.map
    | with_reducible apply OptTouches.bind
    | with_reducible apply Touches.ite
    | with_reducible apply OptTouches.ite
    | split
    | dsimp only

theorem State.rxExact_touches (s : State) (p : RxPkt) (b : RedBody) (d : Bytes) (scales : Bytes) :
    OptTouches [.tallies, .fences, .batten, .log, .counters, .trace] s (State.rxExact s p b d scales) := by
  unfold State.rxExact
  repeat' first
    | with_reducible apply Touches.refl
    | with_reducible assumption
    | with_reducible intro _
    | with_reducible apply OptTouches.none
    | with_reducible apply OptTouches.some
    | (with_reducible apply Touches.comp (State.post_touches _ _ _ _ _); rotate_left; decide)
    | (with_reducible apply Touches.comp (OptTouches.get (State.rxRoute_touches _ _ _) (by assumption)); rotate_left; decide)
    | (with_reducible apply OptTouches.comp (State.rxRoute_touches _ _ _); rotate_left; decide)
    | (with_reducible apply Touches.comp (State.badReduce_touches _ _ _ _ _); rotate_left; decide)
    | (with_reducible apply Touches.comp (State.failWindow_touches _ _ _); rotate_left; decide)
    | with_reducible apply OptTouches.map
    | with_reducible apply OptTouches.bind
    | with_reducible apply Touches.ite
    | with_reducible apply OptTouches.ite
    | split
    | dsimp only

theorem State.rxReduce_touches (s : State) (p : RxPkt) :
    OptTouches [.tallies, .fences, .batten, .log, .counters, .trace] s (State.rxReduce s p) := by
  unfold State.rxReduce
  repeat' first
    | with_reducible apply Touches.refl
    | with_reducible assumption
    | with_reducible intro _
    | with_reducible apply OptTouches.none
    | with_reducible apply OptTouches.some
    | (with_reducible apply Touches.comp (OptTouches.get (State.rxExact_touches _ _ _ _ _) (by assumption)); rotate_left; decide)
    | (with_reducible apply OptTouches.comp (State.rxExact_touches _ _ _ _ _); rotate_left; decide)
    | (with_reducible apply Touches.comp (State.rxRefuse_touches _ _ _); rotate_left; decide)
    | (with_reducible apply Touches.comp (State.nondetRecord_touches _ _ _ _ _); rotate_left; decide)
    | (with_reducible apply Touches.comp (OptTouches.get (State.rxRoute_touches _ _ _) (by assumption)); rotate_left; decide)
    | (with_reducible apply OptTouches.comp (State.rxRoute_touches _ _ _); rotate_left; decide)
    | (with_reducible apply Touches.comp (State.badReduce_touches _ _ _ _ _); rotate_left; decide)
    | with_reducible apply OptTouches.map
    | with_reducible apply OptTouches.bind
    | with_reducible apply Touches.ite
    | with_reducible apply OptTouches.ite
    | split
    | dsimp only

theorem State.rxMstore_touches (s : State) (p : RxPkt) :
    OptTouches [.tallies, .fences, .batten, .log, .counters, .trace] s (State.rxMstore s p) := by
  unfold State.rxMstore
  repeat' first
    | with_reducible apply Touches.refl
    | with_reducible assumption
    | with_reducible intro _
    | with_reducible apply OptTouches.none
    | with_reducible apply OptTouches.some
    | (with_reducible apply Touches.comp (State.badRequest_touches _ _ _ _ _ _ _ _ _); rotate_left; decide)
    | (with_reducible apply Touches.comp (State.rxRefuse_touches _ _ _); rotate_left; decide)
    | (with_reducible apply Touches.comp (OptTouches.get (State.rxRoute_touches _ _ _) (by assumption)); rotate_left; decide)
    | (with_reducible apply OptTouches.comp (State.rxRoute_touches _ _ _); rotate_left; decide)
    | with_reducible apply OptTouches.map
    | with_reducible apply OptTouches.bind
    | with_reducible apply Touches.ite
    | with_reducible apply OptTouches.ite
    | split
    | dsimp only

theorem State.toHost_touches (s : State) (p : RxPkt) :
    Touches [.tallies, .out] s (State.toHost s p) := by
  unfold State.toHost
  repeat' first
    | with_reducible apply Touches.refl
    | with_reducible assumption
    | with_reducible intro _
    | (with_reducible apply Touches.comp (State.countRx_touches _ _); rotate_left; decide)
    | (with_reducible apply Touches.comp (State.emit_touches _ _); rotate_left; decide)
    | with_reducible apply Touches.ite
    | split
    | dsimp only

theorem State.deliverRx_touches (s : State) (p : RxPkt) :
    OptTouches [.tallies, .fences, .shuttle, .batten, .log, .counters, .trace, .out] s (State.deliverRx s p) := by
  unfold State.deliverRx
  repeat' first
    | with_reducible apply Touches.refl
    | with_reducible assumption
    | with_reducible intro _
    | with_reducible apply OptTouches.none
    | with_reducible apply OptTouches.some
    | (with_reducible apply Touches.comp (State.dropMap_touches _ _); rotate_left; decide)
    | (with_reducible apply Touches.comp (State.toHost_touches _ _); rotate_left; decide)
    | (with_reducible apply Touches.comp (State.dropState_touches _ _); rotate_left; decide)
    | (with_reducible apply Touches.comp (State.refuseByKind_touches _ _ _); rotate_left; decide)
    | (with_reducible apply Touches.comp (OptTouches.get (State.rxReduce_touches _ _) (by assumption)); rotate_left; decide)
    | (with_reducible apply OptTouches.comp (State.rxReduce_touches _ _); rotate_left; decide)
    | (with_reducible apply Touches.comp (OptTouches.get (State.rxMstore_touches _ _) (by assumption)); rotate_left; decide)
    | (with_reducible apply OptTouches.comp (State.rxMstore_touches _ _); rotate_left; decide)
    | with_reducible apply OptTouches.map
    | with_reducible apply OptTouches.bind
    | with_reducible apply Touches.ite
    | with_reducible apply OptTouches.ite
    | split
    | dsimp only

theorem State.countDrained_touches (s : State) (p : RxPkt) (s0 : State) :
    Touches [.loom] s (State.countDrained s p s0) := by
  unfold State.countDrained
  repeat' first
    | with_reducible apply Touches.refl
    | with_reducible assumption
    | with_reducible intro _
    | with_reducible apply Touches.ite
    | split
    | ((with_reducible apply Touches.set_loom); rotate_left; decide)
    | dsimp only

theorem State.pumpList_touches (s : State) (blocked : List (Nat × Nat)) (a2 : List RxPkt) :
    Touches [.tallies, .fences, .shuttle, .batten, .loom, .log, .counters, .trace, .out] s (State.pumpList s blocked a2).1 := by
  induction a2 generalizing s blocked with
  | nil =>
    unfold State.pumpList
    repeat' first
      | with_reducible apply Touches.refl
      | with_reducible assumption
      | with_reducible intro _
      | (with_reducible apply Touches.comp (State.countDrained_touches _ _ _); rotate_left; decide)
      | (with_reducible apply Touches.comp (OptTouches.get (State.deliverRx_touches _ _) (by assumption)); rotate_left; decide)
      | (with_reducible apply OptTouches.comp (State.deliverRx_touches _ _); rotate_left; decide)
      | with_reducible apply Touches.ite
      | split
      | dsimp only
  | cons x xs ih =>
    unfold State.pumpList
    repeat' first
      | with_reducible apply Touches.refl
      | with_reducible assumption
      | with_reducible intro _
      | (with_reducible apply Touches.comp (ih _ _); rotate_left; decide)
      | (with_reducible apply Touches.comp (Touches.of_eq' (by assumption) (ih _ _)); rotate_left; decide)
      | (with_reducible apply Touches.comp (State.countDrained_touches _ _ _); rotate_left; decide)
      | (with_reducible apply Touches.comp (OptTouches.get (State.deliverRx_touches _ _) (by assumption)); rotate_left; decide)
      | (with_reducible apply OptTouches.comp (State.deliverRx_touches _ _); rotate_left; decide)
      | with_reducible apply Touches.ite
      | split
      | dsimp only

theorem State.setRxq_touches (s : State) (q : List RxPkt) :
    Touches [.shuttle] s (State.setRxq s q) := by
  unfold State.setRxq
  repeat' first
    | with_reducible apply Touches.refl
    | with_reducible assumption
    | with_reducible intro _
    | with_reducible apply Touches.ite
    | split
    | ((with_reducible apply Touches.set_shuttle); rotate_left; decide)
    | dsimp only

theorem State.pump_touches (s : State) :
    Touches [.tallies, .fences, .shuttle, .batten, .loom, .log, .counters, .trace, .out] s (State.pump s) := by
  unfold State.pump
  repeat' first
    | with_reducible apply Touches.refl
    | with_reducible assumption
    | with_reducible intro _
    | (with_reducible apply Touches.comp (State.setRxq_touches _ _); rotate_left; decide)
    | (with_reducible apply Touches.comp (State.pumpList_touches _ _ _); rotate_left; decide)
    | (with_reducible apply Touches.comp (Touches.of_eq' (by assumption) (State.pumpList_touches _ _ _)); rotate_left; decide)
    | with_reducible apply Touches.ite
    | split
    | dsimp only

theorem State.takeRx_touches (s : State) (f : RxPkt → Bool) :
    OptPairTouches [.shuttle, .loom] s (State.takeRx s f) := by
  unfold State.takeRx
  repeat' first
    | with_reducible apply Touches.refl
    | with_reducible assumption
    | with_reducible intro _
    | with_reducible apply OptPairTouches.none
    | with_reducible apply OptPairTouches.some
    | (with_reducible apply Touches.comp (State.countDrained_touches _ _ _); rotate_left; decide)
    | (with_reducible apply Touches.comp (State.setRxq_touches _ _); rotate_left; decide)
    | with_reducible apply OptPairTouches.map
    | with_reducible apply Touches.ite
    | split
    | dsimp only

theorem State.onRx_touches {F : List Part} {s0 s : State} {p : RxPkt} {k : State → RxPkt → State} (h : Touches F s0 s)
    (sub : ∀ p ∈ ([.doms, .tallies, .fences, .quarantine, .weft, .shuttle, .batten, .spindle, .keys, .loom, .log, .counters, .trace, .events, .bp, .link, .out] : List Part), p ∈ F) (hk : Touches F s0 (k s p)) : Touches F s0 (State.onRx s p k) := by
  unfold State.onRx
  have hd : Touches F s0 (if (s.dom p.ldi).retiring then s else if (s.dom p.ldi).state == .aborted then s.dropState p else k s p) :=
    Touches.ite (fun _ => h) (fun _ => Touches.ite
      (fun _ => h.andThen (State.dropState_touches _ _) (fun p q => sub p (by revert q; revert p; decide))) (fun _ => hk))
  exact (hd.andThen (State.pump_touches _) (fun p q => sub p (by revert q; revert p; decide))).andThen
    (State.endExhausted_touches _ _) (fun p q => sub p (by revert q; revert p; decide))

theorem State.setHandshake_touches (s : State) (peer : Nat) (h : Handshake) :
    Touches [.shuttle] s (State.setHandshake s peer h) := by
  unfold State.setHandshake
  repeat' first
    | with_reducible apply Touches.refl
    | with_reducible assumption
    | with_reducible intro _
    | with_reducible apply Touches.ite
    | split
    | ((with_reducible apply Touches.set_shuttle); rotate_left; decide)
    | dsimp only

theorem State.dropHandshake_touches (s : State) (peer : Nat) :
    Touches [.shuttle] s (State.dropHandshake s peer) := by
  unfold State.dropHandshake
  repeat' first
    | with_reducible apply Touches.refl
    | with_reducible assumption
    | with_reducible intro _
    | with_reducible apply Touches.ite
    | split
    | ((with_reducible apply Touches.set_shuttle); rotate_left; decide)
    | dsimp only

theorem State.notePending_touches (s : State) (peer : Nat) (own : Bool) :
    Touches [.shuttle] s (State.notePending s peer own) := by
  unfold State.notePending
  repeat' first
    | with_reducible apply Touches.refl
    | with_reducible assumption
    | with_reducible intro _
    | (with_reducible apply Touches.comp (State.setSa_touches _ _ _); rotate_left; decide)
    | with_reducible apply Touches.ite
    | split
    | dsimp only

theorem State.startHandshake_touches (s : State) (peer : Nat) (lazily : Bool) :
    Touches [.shuttle, .entropy, .out] s (State.startHandshake s peer lazily) := by
  unfold State.startHandshake
  repeat' first
    | with_reducible apply Touches.refl
    | with_reducible assumption
    | with_reducible exact Nat.le_refl _
    | with_reducible exact Nat.le_succ _
    | with_reducible intro _
    | (with_reducible apply Touches.comp (State.draw_touches _); rotate_left; decide)
    | (with_reducible apply Touches.comp (Touches.of_eq (by assumption) (State.draw_touches _)); rotate_left; decide)
    | (with_reducible apply Touches.comp (State.notePending_touches _ _ _); rotate_left; decide)
    | (with_reducible apply Touches.comp (State.sendHs_touches _ _ _ _); rotate_left; decide)
    | (with_reducible apply Touches.comp (State.setHandshake_touches _ _ _); rotate_left; decide)
    | with_reducible apply Touches.ite
    | split
    | dsimp only

theorem State.becomeValid_touches (s : State) (peer : Nat) (keys : SaKeys) (epoch : Nat) (peerId : Bytes) (lazily : Bool) (done : Option Bytes) :
    Touches [.shuttle, .loom, .counters, .events, .out] s (State.becomeValid s peer keys epoch peerId lazily done) := by
  unfold State.becomeValid
  repeat' first
    | with_reducible apply Touches.refl
    | with_reducible assumption
    | with_reducible intro _
    | (with_reducible apply Touches.comp (State.sendCtrl_touches _ _ _ _); rotate_left; decide)
    | (with_reducible apply Touches.comp (State.touchWindow_touches _ _ _); rotate_left; decide)
    | (with_reducible apply Touches.comp (State.dropHandshake_touches _ _); rotate_left; decide)
    | (with_reducible apply Touches.comp (State.raise_touches _ _); rotate_left; decide)
    | (with_reducible apply Touches.comp (State.internalEntry_touches _); rotate_left; decide)
    | (with_reducible apply Touches.comp (State.sendPolicy_touches _ _ _); rotate_left; decide)
    | (with_reducible apply Touches.comp (State.setSa_touches _ _ _); rotate_left; decide)
    | (with_reducible apply Touches.comp (State.emit_touches _ _); rotate_left; decide)
    | with_reducible apply Touches.foldl
    | with_reducible apply Touches.ite
    | split
    | dsimp only

end Sys2Proof.Machine
end

