-- ==== Sys2Proof/Laws/Touches/Weft.lean ====
section
/-!
SUPPORT. What the operations of Machine/Weft.lean touch, one law for each.
-/
namespace Sys2Proof.Machine

set_option linter.unusedTactic false
set_option linter.unreachableTactic false

theorem State.hpTake_touches (s : State) (r : HpReq) (op : LineOp) :
    Touches [.tallies, .fences, .arrs, .weft, .log, .counters, .trace, .out] s (State.hpTake s r op) := by
  unfold State.hpTake
  repeat' first
    | with_reducible apply Touches.refl
    | with_reducible assumption
    | with_reducible intro _
    | (with_reducible apply Touches.comp (State.weftRecord_touches _ _ _ _ _ _ _); rotate_left; decide)
    | (with_reducible apply Touches.comp (State.refuseLine_touches _ _ _ _); rotate_left; decide)
    | (with_reducible apply Touches.comp (OptTouches.get (State.lookup_touches _ _ _) (by assumption)); rotate_left; decide)
    | (with_reducible apply OptTouches.comp (State.lookup_touches _ _ _); rotate_left; decide)
    | with_reducible apply OptTouches.getD
    | with_reducible apply Touches.ite
    | split
    | dsimp only

theorem execHpRead_touches (r : HpReq) (s : State) :
    OutTouches [.tallies, .fences, .arrs, .weft, .log, .counters, .trace, .out] s (execHpRead r s) := by
  unfold execHpRead
  repeat' first
    | with_reducible apply Touches.refl
    | with_reducible assumption
    | with_reducible intro _
    | with_reducible apply OutTouches.next
    | with_reducible apply OutTouches.nextIf
    | (with_reducible apply Touches.comp (State.hpTake_touches _ _ _); rotate_left; decide)
    | with_reducible apply Touches.ite
    | with_reducible apply OutTouches.ite
    | split
    | dsimp only

theorem execHpFullWrite_touches (r : HpReq) (s : State) :
    OutTouches [.tallies, .fences, .arrs, .weft, .log, .counters, .trace, .out] s (execHpFullWrite r s) := by
  unfold execHpFullWrite
  repeat' first
    | with_reducible apply Touches.refl
    | with_reducible assumption
    | with_reducible intro _
    | with_reducible apply OutTouches.next
    | with_reducible apply OutTouches.nextIf
    | (with_reducible apply Touches.comp (State.hpTake_touches _ _ _); rotate_left; decide)
    | with_reducible apply Touches.ite
    | with_reducible apply OutTouches.ite
    | split
    | dsimp only

theorem execHpByteMaskedWrite_touches (r : HpReq) (s : State) :
    OutTouches [.tallies, .fences, .arrs, .weft, .log, .counters, .trace, .out] s (execHpByteMaskedWrite r s) := by
  unfold execHpByteMaskedWrite
  repeat' first
    | with_reducible apply Touches.refl
    | with_reducible assumption
    | with_reducible intro _
    | with_reducible apply OutTouches.next
    | with_reducible apply OutTouches.nextIf
    | (with_reducible apply Touches.comp (State.hpTake_touches _ _ _); rotate_left; decide)
    | with_reducible apply Touches.ite
    | with_reducible apply OutTouches.ite
    | split
    | dsimp only

theorem execGotFetchComplete_touches (lane : Nat) (granule : Nat) (s : State) :
    OutTouches [.tallies, .fences, .arrs, .weft, .log, .counters, .trace, .out] s (execGotFetchComplete lane granule s) := by
  unfold execGotFetchComplete
  repeat' first
    | with_reducible apply Touches.refl
    | with_reducible assumption
    | with_reducible intro _
    | with_reducible apply OutTouches.next
    | with_reducible apply OutTouches.nextIf
    | (with_reducible apply Touches.comp (State.fetchDone_touches _ _ _); rotate_left; decide)
    | with_reducible apply Touches.ite
    | with_reducible apply OutTouches.ite
    | split
    | dsimp only

theorem State.integ_touches (s : State) (e : IntegEvent) :
    Touches [.weft] s (State.integ s e) := by
  unfold State.integ
  repeat' first
    | with_reducible apply Touches.refl
    | with_reducible assumption
    | with_reducible intro _
    | with_reducible apply Touches.ite
    | split
    | ((with_reducible apply Touches.set_weft); rotate_left; decide)
    | dsimp only

theorem State.lineFails_touches (s : State) (n : Nat) (r : LineReq) (ue : Bool) (ab : Bool) :
    Touches [.tallies, .fences, .weft, .log, .counters, .trace, .out] s (State.lineFails s n r ue ab) := by
  unfold State.lineFails
  repeat' first
    | with_reducible apply Touches.refl
    | with_reducible assumption
    | with_reducible intro _
    | (with_reducible apply Touches.comp (State.post_touches _ _ _ _ _); rotate_left; decide)
    | (with_reducible apply Touches.comp (State.answer_touches _ _ _ _ _); rotate_left; decide)
    | (with_reducible apply Touches.comp (State.bindLine_touches _ _ _); rotate_left; decide)
    | (with_reducible apply Touches.comp (State.setLane_touches _ _ _); rotate_left; decide)
    | (with_reducible apply Touches.comp (State.bumpLane_touches _ _ _); rotate_left; decide)
    | (with_reducible apply Touches.comp (State.settle_touches _); rotate_left; decide)
    | (with_reducible apply Touches.comp (State.integ_touches _ _); rotate_left; decide)
    | with_reducible apply Touches.ite
    | split
    | dsimp only

theorem State.lineVerifies_touches (s : State) (n : Nat) (r : LineReq) (plain : Line) (ab : Bool) :
    Touches [.tallies, .arrs, .weft, .counters, .trace, .out] s (State.lineVerifies s n r plain ab) := by
  unfold State.lineVerifies
  repeat' first
    | with_reducible apply Touches.refl
    | with_reducible assumption
    | with_reducible intro _
    | (with_reducible apply Touches.comp (State.answer_touches _ _ _ _ _); rotate_left; decide)
    | (with_reducible apply Touches.comp (State.setLane_touches _ _ _); rotate_left; decide)
    | (with_reducible apply Touches.comp (State.acceptWrite_touches _ _ _ _); rotate_left; decide)
    | (with_reducible apply Touches.comp (State.countRead_touches _ _ _); rotate_left; decide)
    | with_reducible apply Touches.ite
    | split
    | dsimp only

theorem State.groupResult_touches (s : State) (n : Nat) (g : ReadGroup) :
    Touches [.tallies, .fences, .arrs, .weft, .log, .counters, .trace, .out] s (State.groupResult s n g) := by
  unfold State.groupResult
  repeat' first
    | with_reducible apply Touches.refl
    | with_reducible assumption
    | with_reducible intro _
    | (with_reducible apply Touches.comp (State.lineFails_touches _ _ _ _ _); rotate_left; decide)
    | (with_reducible apply Touches.comp (State.answer_touches _ _ _ _ _); rotate_left; decide)
    | (with_reducible apply Touches.comp (State.lineVerifies_touches _ _ _ _ _); rotate_left; decide)
    | (with_reducible apply Touches.comp (State.countRead_touches _ _ _); rotate_left; decide)
    | with_reducible apply OptTouches.getD
    | with_reducible apply Touches.ite
    | split
    | dsimp only

theorem State.finishGroup_touches (s : State) (n : Nat) (g : ReadGroup) :
    Touches [.tallies, .fences, .arrs, .weft, .log, .counters, .trace, .out] s (State.finishGroup s n g) := by
  unfold State.finishGroup
  repeat' first
    | with_reducible apply Touches.refl
    | with_reducible assumption
    | with_reducible intro _
    | (with_reducible apply Touches.comp (State.payOwed_touches _ _ _); rotate_left; decide)
    | (with_reducible apply Touches.comp (State.setLane_touches _ _ _); rotate_left; decide)
    | (with_reducible apply Touches.comp (State.groupResult_touches _ _ _); rotate_left; decide)
    | with_reducible apply Touches.ite
    | split
    | dsimp only

theorem State.finishLane_touches (s : State) (n : Nat) :
    Touches [.tallies, .fences, .arrs, .weft, .log, .counters, .trace, .out] s (State.finishLane s n) := by
  unfold State.finishLane
  repeat' first
    | with_reducible apply Touches.refl
    | with_reducible assumption
    | with_reducible intro _
    | (with_reducible apply Touches.comp (State.goOn_touches _ _); rotate_left; decide)
    | (with_reducible apply Touches.comp (State.finishGroup_touches _ _ _); rotate_left; decide)
    | with_reducible apply Touches.foldl
    | with_reducible apply Touches.ite
    | split
    | dsimp only

theorem execMpReadReturn_touches (lane : Nat) (tag : Nat) (data : Line) (ecc : Nat) (s : State) :
    OutTouches [.tallies, .fences, .arrs, .weft, .log, .counters, .trace, .out] s (execMpReadReturn lane tag data ecc s) := by
  unfold execMpReadReturn
  repeat' first
    | with_reducible apply Touches.refl
    | with_reducible assumption
    | with_reducible intro _
    | with_reducible apply OutTouches.next
    | with_reducible apply OutTouches.nextIf
    | (with_reducible apply Touches.comp (State.finishLane_touches _ _); rotate_left; decide)
    | (with_reducible apply Touches.comp (State.setLane_touches _ _ _); rotate_left; decide)
    | with_reducible apply Touches.ite
    | with_reducible apply OutTouches.ite
    | split
    | ((with_reducible apply Touches.set_counters); rotate_left; decide)
    | dsimp only

theorem State.entryFails_touches (s : State) (n : Nat) (e : IngressEntry) :
    Touches [.fences, .weft, .counters] s (State.entryFails s n e) := by
  unfold State.entryFails
  repeat' first
    | with_reducible apply Touches.refl
    | with_reducible assumption
    | with_reducible intro _
    | (with_reducible apply Touches.comp (State.post_touches _ _ _ _ _); rotate_left; decide)
    | (with_reducible apply Touches.comp (State.bump_touches _ _ _); rotate_left; decide)
    | (with_reducible apply Touches.comp (State.integ_touches _ _); rotate_left; decide)
    | with_reducible apply Touches.ite
    | split
    | dsimp only

theorem State.badEntries_touches (s : State) (n : Nat) (ids : List Nat) :
    Touches [.fences, .weft, .counters] s (State.badEntries s n ids) := by
  unfold State.badEntries
  repeat' first
    | with_reducible apply Touches.refl
    | with_reducible assumption
    | with_reducible intro _
    | (with_reducible apply Touches.comp (State.entryFails_touches _ _ _); rotate_left; decide)
    | (with_reducible apply Touches.comp (State.removeEntries_touches _ _ _); rotate_left; decide)
    | with_reducible apply Touches.foldl
    | with_reducible apply Touches.ite
    | split
    | dsimp only

theorem State.closeGroup_touches (s : State) (n : Nat) :
    OptTouches [.weft, .counters, .out] s (State.closeGroup s n) := by
  unfold State.closeGroup
  repeat' first
    | with_reducible apply Touches.refl
    | with_reducible assumption
    | with_reducible intro _
    | with_reducible apply OptTouches.none
    | with_reducible apply OptTouches.some
    | (with_reducible apply Touches.comp (State.setLane_touches _ _ _); rotate_left; decide)
    | (with_reducible apply Touches.comp (State.bumpLane_touches _ _ _); rotate_left; decide)
    | (with_reducible apply Touches.comp (State.emitAll_touches _ _); rotate_left; decide)
    | with_reducible apply Touches.foldl
    | with_reducible apply OptTouches.map
    | with_reducible apply OptTouches.bind
    | with_reducible apply Touches.ite
    | with_reducible apply OptTouches.ite
    | split
    | dsimp only

theorem execWriteGroupClose_touches (lane : Nat) (bad : List Nat) (s : State) :
    OutTouches [.tallies, .fences, .arrs, .weft, .log, .counters, .trace, .out] s (execWriteGroupClose lane bad s) := by
  unfold execWriteGroupClose
  repeat' first
    | with_reducible apply Touches.refl
    | with_reducible assumption
    | with_reducible intro _
    | with_reducible apply OutTouches.next
    | with_reducible apply OutTouches.nextIf
    | (with_reducible apply Touches.comp (State.goOn_touches _ _); rotate_left; decide)
    | (with_reducible apply Touches.comp (OptTouches.get (State.closeGroup_touches _ _) (by assumption)); rotate_left; decide)
    | (with_reducible apply OptTouches.comp (State.closeGroup_touches _ _); rotate_left; decide)
    | (with_reducible apply Touches.comp (State.badEntries_touches _ _ _); rotate_left; decide)
    | with_reducible apply OptTouches.getD
    | with_reducible apply Touches.ite
    | with_reducible apply OutTouches.ite
    | split
    | dsimp only

theorem execMpWriteAck_touches (lane : Nat) (tag : Nat) (s : State) :
    OutTouches [.tallies, .fences, .arrs, .weft, .log, .counters, .trace, .out] s (execMpWriteAck lane tag s) := by
  unfold execMpWriteAck
  repeat' first
    | with_reducible apply Touches.refl
    | with_reducible assumption
    | with_reducible intro _
    | with_reducible apply OutTouches.next
    | with_reducible apply OutTouches.nextIf
    | (with_reducible apply Touches.comp (State.setLane_touches _ _ _); rotate_left; decide)
    | (with_reducible apply Touches.comp (State.goOn_touches _ _); rotate_left; decide)
    | with_reducible apply Touches.ite
    | with_reducible apply OutTouches.ite
    | split
    | dsimp only

theorem State.scrubLines_touches (s : State) (q : ScrubItem) (a2 : Nat) (a3 : Nat) :
    Touches [.tallies, .fences, .arrs, .weft, .log, .counters, .trace, .out] s (State.scrubLines s q a2 a3).1 := by
  induction a2 generalizing s q a3 with
  | zero =>
    unfold State.scrubLines
    repeat' first
      | with_reducible apply Touches.refl
      | with_reducible assumption
      | with_reducible intro _
      | (with_reducible apply Touches.comp (State.submitLine_touches _ _); rotate_left; decide)
      | with_reducible apply Touches.ite
      | split
      | dsimp only
  | succ n ih =>
    unfold State.scrubLines
    repeat' first
      | with_reducible apply Touches.refl
      | with_reducible assumption
      | with_reducible intro _
      | (with_reducible apply Touches.comp (ih _ _ _); rotate_left; decide)
      | (with_reducible apply Touches.comp (Touches.of_eq' (by assumption) (ih _ _ _)); rotate_left; decide)
      | (with_reducible apply Touches.comp (State.submitLine_touches _ _); rotate_left; decide)
      | with_reducible apply Touches.ite
      | split
      | dsimp only

theorem State.scrubEnd_touches (s : State) (q : ScrubItem) :
    Touches [.tallies, .got] s (State.scrubEnd s q) := by
  unfold State.scrubEnd
  repeat' first
    | with_reducible apply Touches.refl
    | with_reducible assumption
    | with_reducible intro _
    | (with_reducible apply Touches.comp (State.accrue_touches _ _); rotate_left; decide)
    | (with_reducible apply Touches.comp (State.setGot_touches _ _ _); rotate_left; decide)
    | with_reducible apply Touches.ite
    | split
    | dsimp only

theorem execScrubGranuleDone_touches (s : State) :
    OutTouches [.tallies, .got, .fences, .arrs, .weft, .log, .counters, .trace, .out] s (execScrubGranuleDone s) := by
  unfold execScrubGranuleDone
  repeat' first
    | with_reducible apply Touches.refl
    | with_reducible assumption
    | with_reducible intro _
    | with_reducible apply OutTouches.next
    | with_reducible apply OutTouches.nextIf
    | (with_reducible apply Touches.comp (State.scrubLines_touches _ _ _ _); rotate_left; decide)
    | (with_reducible apply Touches.comp (Touches.of_eq' (by assumption) (State.scrubLines_touches _ _ _ _)); rotate_left; decide)
    | (with_reducible apply Touches.comp (State.scrubEnd_touches _ _); rotate_left; decide)
    | with_reducible apply Touches.ite
    | with_reducible apply OutTouches.ite
    | split
    | ((with_reducible apply Touches.set_weft); rotate_left; decide)
    | dsimp only

end Sys2Proof.Machine
end

