-- ==== Sys2Proof/Laws/Touches/Batten.lean ====
section
/-!
SUPPORT. What the operations of Machine/Batten.lean touch, one law for each.
-/
namespace Sys2Proof.Machine

set_option linter.unusedTactic false
set_option linter.unreachableTactic false

theorem State.baRefuse_touches (s : State) (r : BaReq) (status : Nat) :
    Touches [.tallies, .fences, .log, .counters, .trace, .out] s (State.baRefuse s r status) := by
  unfold State.baRefuse
  repeat' first
    | with_reducible apply Touches.refl
    | with_reducible assumption
    | with_reducible intro _
    | (with_reducible apply Touches.comp (State.post_touches _ _ _ _ _); rotate_left; decide)
    | (with_reducible apply Touches.comp (State.settle_touches _); rotate_left; decide)
    | (with_reducible apply Touches.comp (State.emit_touches _ _); rotate_left; decide)
    | with_reducible apply Touches.ite
    | split
    | dsimp only

theorem State.baQueue_touches (s : State) (r : BaReq) (left : Nat) (ws : List (Nat × Nat × BWork)) :
    Touches [.batten] s (State.baQueue s r left ws) := by
  unfold State.baQueue
  repeat' first
    | with_reducible apply Touches.refl
    | with_reducible assumption
    | with_reducible intro _
    | (with_reducible apply Touches.comp (State.routeAll_touches _ _ _); rotate_left; decide)
    | with_reducible apply Touches.ite
    | split
    | ((with_reducible apply Touches.set_batten); rotate_left; decide)
    | dsimp only

theorem State.baChecks_touches (s : State) (r : BaReq) (nondet : Bool) (ws : List (Nat × Nat × BWork)) :
    OptTouches [.tallies, .fences, .log, .counters, .trace, .out] s (State.baChecks s r nondet ws) := by
  unfold State.baChecks
  repeat' first
    | with_reducible apply Touches.refl
    | with_reducible assumption
    | with_reducible intro _
    | with_reducible apply OptTouches.none
    | with_reducible apply OptTouches.some
    | (with_reducible apply Touches.comp (State.baRefuse_touches _ _ _); rotate_left; decide)
    | (with_reducible apply Touches.comp (State.nondetRecord_touches _ _ _ _ _); rotate_left; decide)
    | with_reducible apply OptTouches.map
    | with_reducible apply OptTouches.bind
    | with_reducible apply Touches.ite
    | with_reducible apply OptTouches.ite
    | split
    | dsimp only

theorem State.baAccept_touches (s : State) (r : BaReq) (nondet : Bool) (left : Nat) (respond : Bool) (ws : List (Nat × Nat × BWork)) :
    Touches [.tallies, .fences, .batten, .log, .counters, .trace, .out] s (State.baAccept s r nondet left respond ws) := by
  unfold State.baAccept
  repeat' first
    | with_reducible apply Touches.refl
    | with_reducible assumption
    | with_reducible intro _
    | (with_reducible apply Touches.comp (OptTouches.get (State.baChecks_touches _ _ _ _) (by assumption)); rotate_left; decide)
    | (with_reducible apply OptTouches.comp (State.baChecks_touches _ _ _ _); rotate_left; decide)
    | (with_reducible apply Touches.comp (State.baQueue_touches _ _ _ _); rotate_left; decide)
    | (with_reducible apply Touches.comp (State.emit_touches _ _); rotate_left; decide)
    | with_reducible apply Touches.ite
    | split
    | dsimp only

theorem State.baExact_touches (s : State) (r : BaReq) (b : RedBody) (d : Bytes) (scales : Bytes) :
    Touches [.tallies, .fences, .batten, .log, .counters, .trace, .out] s (State.baExact s r b d scales) := by
  unfold State.baExact
  repeat' first
    | with_reducible apply Touches.refl
    | with_reducible assumption
    | with_reducible intro _
    | (with_reducible apply Touches.comp (State.baAccept_touches _ _ _ _ _ _); rotate_left; decide)
    | (with_reducible apply Touches.comp (State.baRefuse_touches _ _ _); rotate_left; decide)
    | (with_reducible apply Touches.comp (State.badReduce_touches _ _ _ _ _); rotate_left; decide)
    | (with_reducible apply Touches.comp (State.failWindow_touches _ _ _); rotate_left; decide)
    | with_reducible apply Touches.ite
    | split
    | dsimp only

theorem State.baReduceAt_touches (s : State) (r : BaReq) :
    Touches [.tallies, .fences, .batten, .log, .counters, .trace, .out] s (State.baReduceAt s r) := by
  unfold State.baReduceAt
  repeat' first
    | with_reducible apply Touches.refl
    | with_reducible assumption
    | with_reducible intro _
    | (with_reducible apply Touches.comp (State.baExact_touches _ _ _ _ _); rotate_left; decide)
    | (with_reducible apply Touches.comp (State.baAccept_touches _ _ _ _ _ _); rotate_left; decide)
    | (with_reducible apply Touches.comp (State.baRefuse_touches _ _ _); rotate_left; decide)
    | (with_reducible apply Touches.comp (State.badReduce_touches _ _ _ _ _); rotate_left; decide)
    | with_reducible apply Touches.ite
    | split
    | dsimp only

theorem execBaReduce_touches (r : BaReq) (s : State) :
    OutTouches [.tallies, .fences, .batten, .log, .counters, .trace, .out] s (execBaReduce r s) := by
  unfold execBaReduce
  repeat' first
    | with_reducible apply Touches.refl
    | with_reducible assumption
    | with_reducible intro _
    | with_reducible apply OutTouches.next
    | with_reducible apply OutTouches.nextIf
    | (with_reducible apply Touches.comp (State.badRequest_touches _ _ _ _ _ _ _ _ _); rotate_left; decide)
    | (with_reducible apply Touches.comp (State.baRefuse_touches _ _ _); rotate_left; decide)
    | (with_reducible apply Touches.comp (State.baReduceAt_touches _ _); rotate_left; decide)
    | with_reducible apply Touches.ite
    | with_reducible apply OutTouches.ite
    | split
    | dsimp only

theorem execBaMstore_touches (r : BaReq) (s : State) :
    OutTouches [.tallies, .fences, .batten, .log, .counters, .trace, .out] s (execBaMstore r s) := by
  unfold execBaMstore
  repeat' first
    | with_reducible apply Touches.refl
    | with_reducible assumption
    | with_reducible intro _
    | with_reducible apply OutTouches.next
    | with_reducible apply OutTouches.nextIf
    | (with_reducible apply Touches.comp (State.badRequest_touches _ _ _ _ _ _ _ _ _); rotate_left; decide)
    | (with_reducible apply Touches.comp (State.baAccept_touches _ _ _ _ _ _); rotate_left; decide)
    | (with_reducible apply Touches.comp (State.baRefuse_touches _ _ _); rotate_left; decide)
    | with_reducible apply Touches.ite
    | with_reducible apply OutTouches.ite
    | split
    | dsimp only

theorem execBaAtomic_touches (r : BaReq) (s : State) :
    OutTouches [.tallies, .fences, .batten, .log, .counters, .trace, .out] s (execBaAtomic r s) := by
  unfold execBaAtomic
  repeat' first
    | with_reducible apply Touches.refl
    | with_reducible assumption
    | with_reducible intro _
    | with_reducible apply OutTouches.next
    | with_reducible apply OutTouches.nextIf
    | (with_reducible apply Touches.comp (State.badRequest_touches _ _ _ _ _ _ _ _ _); rotate_left; decide)
    | (with_reducible apply Touches.comp (State.baAccept_touches _ _ _ _ _ _); rotate_left; decide)
    | (with_reducible apply Touches.comp (State.baRefuse_touches _ _ _); rotate_left; decide)
    | with_reducible apply Touches.ite
    | with_reducible apply OutTouches.ite
    | split
    | dsimp only

theorem State.changeLine_touches (s : State) (u : Nat) (e : BEntry) (dli : Nat) (data : Line) (arr : Nat) (atomic : Bool) :
    Touches [.batten, .counters] s (State.changeLine s u e dli data arr atomic) := by
  unfold State.changeLine
  repeat' first
    | with_reducible apply Touches.refl
    | with_reducible assumption
    | with_reducible intro _
    | (with_reducible apply Touches.comp (State.bumpUnit_touches _ _ _ _); rotate_left; decide)
    | (with_reducible apply Touches.comp (State.setUnit_touches _ _ _); rotate_left; decide)
    | with_reducible apply OptTouches.getD
    | with_reducible apply Touches.ite
    | split
    | dsimp only

theorem State.countBatten_touches (s : State) (u : Nat) (k : Nat) (lines : Nat) (e : BEntry) (reduction : Bool) :
    Touches [.tallies, .counters, .trace] s (State.countBatten s u k lines e reduction) := by
  unfold State.countBatten
  repeat' first
    | with_reducible apply Touches.refl
    | with_reducible assumption
    | with_reducible intro _
    | (with_reducible apply Touches.comp (State.bumpDom_touches _ _ _ _); rotate_left; decide)
    | (with_reducible apply Touches.comp (State.segment_touches _ _ _ _ _ _ _); rotate_left; decide)
    | (with_reducible apply Touches.comp (State.bumpUnit_touches _ _ _ _); rotate_left; decide)
    | (with_reducible apply Touches.comp (State.annotCount_touches _ _ _ _ _ _); rotate_left; decide)
    | (with_reducible apply Touches.comp (State.meter_touches _ _ _ _ _); rotate_left; decide)
    | with_reducible apply Touches.ite
    | split
    | dsimp only

theorem State.applyMx_touches (s : State) (u : Nat) (e : BEntry) (fmt : Nat) (gbase : Nat) (scales : Bytes) (a6 : List Line) (a7 : Nat) (a8 : Nat) :
    Touches [.batten, .counters] s (State.applyMx s u e fmt gbase scales a6 a7 a8) := by
  induction a6 generalizing s u e fmt gbase scales a7 a8 with
  | nil =>
    unfold State.applyMx
    repeat' first
      | with_reducible apply Touches.refl
      | with_reducible assumption
      | with_reducible intro _
      | (with_reducible apply Touches.comp (State.changeLine_touches _ _ _ _ _ _ _); rotate_left; decide)
      | (with_reducible apply Touches.comp (State.setUnit_touches _ _ _); rotate_left; decide)
      | with_reducible apply OptTouches.getD
      | with_reducible apply Touches.ite
      | split
      | dsimp only
  | cons x xs ih =>
    unfold State.applyMx
    repeat' first
      | with_reducible apply Touches.refl
      | with_reducible assumption
      | with_reducible intro _
      | (with_reducible apply Touches.comp (ih _ _ _ _ _ _ _ _); rotate_left; decide)
      | (with_reducible apply Touches.comp (State.changeLine_touches _ _ _ _ _ _ _); rotate_left; decide)
      | (with_reducible apply Touches.comp (State.setUnit_touches _ _ _); rotate_left; decide)
      | with_reducible apply OptTouches.getD
      | with_reducible apply Touches.ite
      | split
      | dsimp only

theorem State.applyEntry_touches (s : State) (u : Nat) (e : BEntry) :
    Touches [.tallies, .batten, .counters, .trace] s (State.applyEntry s u e).1 := by
  unfold State.applyEntry
  repeat' first
    | with_reducible apply Touches.refl
    | with_reducible assumption
    | with_reducible intro _
    | (with_reducible apply Touches.comp (State.bumpDom_touches _ _ _ _); rotate_left; decide)
    | (with_reducible apply Touches.comp (State.segment_touches _ _ _ _ _ _ _); rotate_left; decide)
    | (with_reducible apply Touches.comp (State.bumpUnit_touches _ _ _ _); rotate_left; decide)
    | (with_reducible apply Touches.comp (State.changeLine_touches _ _ _ _ _ _ _); rotate_left; decide)
    | (with_reducible apply Touches.comp (State.countBatten_touches _ _ _ _ _ _); rotate_left; decide)
    | (with_reducible apply Touches.comp (State.setUnit_touches _ _ _); rotate_left; decide)
    | (with_reducible apply Touches.comp (State.annotCount_touches _ _ _ _ _ _); rotate_left; decide)
    | (with_reducible apply Touches.comp (State.applyMx_touches _ _ _ _ _ _ _ _ _); rotate_left; decide)
    | with_reducible apply Touches.ite
    | split
    | dsimp only

theorem State.issueFills_touches (s : State) (u : Nat) (e : BEntry) (ls : List Nat) :
    Touches [.tallies, .fences, .arrs, .weft, .batten, .log, .counters, .trace, .out] s (State.issueFills s u e ls) := by
  unfold State.issueFills
  repeat' first
    | with_reducible apply Touches.refl
    | with_reducible assumption
    | with_reducible intro _
    | (with_reducible apply Touches.comp (State.bumpUnit_touches _ _ _ _); rotate_left; decide)
    | (with_reducible apply Touches.comp (State.setUnit_touches _ _ _); rotate_left; decide)
    | (with_reducible apply Touches.comp (State.submitLine_touches _ _); rotate_left; decide)
    | with_reducible apply Touches.foldl
    | with_reducible apply Touches.ite
    | split
    | dsimp only

theorem State.applyNext_touches (s : State) (u : Nat) :
    Touches [.tallies, .fences, .arrs, .weft, .batten, .log, .counters, .trace, .out] s (State.applyNext s u) := by
  unfold State.applyNext
  repeat' first
    | with_reducible apply Touches.refl
    | with_reducible assumption
    | with_reducible intro _
    | (with_reducible apply Touches.comp (State.setUnit_touches _ _ _); rotate_left; decide)
    | (with_reducible apply Touches.comp (State.issueFills_touches _ _ _ _); rotate_left; decide)
    | (with_reducible apply Touches.comp (State.applyEntry_touches _ _ _); rotate_left; decide)
    | (with_reducible apply Touches.comp (Touches.of_eq' (by assumption) (State.applyEntry_touches _ _ _)); rotate_left; decide)
    | with_reducible apply Touches.ite
    | split
    | dsimp only

theorem State.failLine_touches (s : State) (u : Nat) (l : WLine) (status : Nat) :
    Touches [.tallies, .fences, .shuttle, .batten, .log, .counters, .trace, .out] s (State.failLine s u l status) := by
  unfold State.failLine
  repeat' first
    | with_reducible apply Touches.refl
    | with_reducible assumption
    | with_reducible intro _
    | (with_reducible apply Touches.comp (State.failEntry_touches _ _ _); rotate_left; decide)
    | (with_reducible apply Touches.comp (State.failOwed_touches _ _ _); rotate_left; decide)
    | (with_reducible apply Touches.comp (State.setUnit_touches _ _ _); rotate_left; decide)
    | with_reducible apply Touches.foldl
    | with_reducible apply Touches.ite
    | split
    | dsimp only

theorem State.lineRecord_touches (s : State) (u : Nat) (type : Nat) (l : WLine) (status : Nat) :
    Touches [.log, .counters, .trace] s (State.lineRecord s u type l status) := by
  unfold State.lineRecord
  repeat' first
    | with_reducible apply Touches.refl
    | with_reducible assumption
    | with_reducible intro _
    | (with_reducible apply Touches.comp (State.record_touches _ _ _); rotate_left; decide)
    | with_reducible apply OptTouches.getD
    | with_reducible apply Touches.ite
    | split
    | dsimp only

theorem State.badLine_touches (s : State) (u : Nat) (dli : Nat) (both : Bool) :
    Touches [.tallies, .fences, .weft, .shuttle, .batten, .log, .counters, .trace, .out] s (State.badLine s u dli both) := by
  unfold State.badLine
  repeat' first
    | with_reducible apply Touches.refl
    | with_reducible assumption
    | with_reducible intro _
    | (with_reducible apply Touches.comp (State.bump_touches _ _ _); rotate_left; decide)
    | (with_reducible apply Touches.comp (State.setUnit_touches _ _ _); rotate_left; decide)
    | (with_reducible apply Touches.comp (State.failLine_touches _ _ _ _); rotate_left; decide)
    | (with_reducible apply Touches.comp (State.lineRecord_touches _ _ _ _ _); rotate_left; decide)
    | (with_reducible apply Touches.comp (State.integ_touches _ _); rotate_left; decide)
    | with_reducible apply Touches.ite
    | split
    | dsimp only

theorem execBattenEntryApply_touches (unit : Nat) (bad : List (Nat × Bool)) (s : State) :
    OutTouches [.tallies, .fences, .arrs, .weft, .shuttle, .batten, .log, .counters, .trace, .out] s (execBattenEntryApply unit bad s) := by
  unfold execBattenEntryApply
  repeat' first
    | with_reducible apply Touches.refl
    | with_reducible assumption
    | with_reducible intro _
    | with_reducible apply OutTouches.next
    | with_reducible apply OutTouches.nextIf
    | (with_reducible apply Touches.comp (State.badLine_touches _ _ _ _); rotate_left; decide)
    | (with_reducible apply Touches.comp (State.applyNext_touches _ _); rotate_left; decide)
    | (with_reducible apply Touches.comp (State.serveUnit_touches _ _); rotate_left; decide)
    | with_reducible apply Touches.foldl
    | with_reducible apply Touches.ite
    | with_reducible apply OutTouches.ite
    | split
    | dsimp only

theorem State.takeDone_touches (s : State) (p : LaneDone → Bool) :
    OptPairTouches [.weft] s (State.takeDone s p) := by
  unfold State.takeDone
  repeat' first
    | with_reducible apply Touches.refl
    | with_reducible assumption
    | with_reducible intro _
    | with_reducible apply OptPairTouches.none
    | with_reducible apply OptPairTouches.some
    | with_reducible apply OptPairTouches.map
    | with_reducible apply Touches.ite
    | split
    | ((with_reducible apply Touches.set_weft); rotate_left; decide)
    | dsimp only

theorem State.failFill_touches (s : State) (u : Nat) (dli : Nat) (ldi : Nat) (status : Nat) :
    Touches [.tallies, .fences, .shuttle, .batten, .log, .counters, .trace, .out] s (State.failFill s u dli ldi status) := by
  unfold State.failFill
  repeat' first
    | with_reducible apply Touches.refl
    | with_reducible assumption
    | with_reducible intro _
    | (with_reducible apply Touches.comp (State.entryRecord_touches _ _ _ _ _ _); rotate_left; decide)
    | (with_reducible apply Touches.comp (State.failEntry_touches _ _ _); rotate_left; decide)
    | (with_reducible apply Touches.comp (State.setUnit_touches _ _ _); rotate_left; decide)
    | with_reducible apply Touches.foldl
    | with_reducible apply Touches.ite
    | split
    | dsimp only

theorem execBattenFillReturn_touches (unit : Nat) (s : State) :
    OutTouches [.tallies, .fences, .weft, .shuttle, .batten, .loom, .log, .counters, .trace, .out] s (execBattenFillReturn unit s) := by
  unfold execBattenFillReturn
  repeat' first
    | with_reducible apply Touches.refl
    | with_reducible assumption
    | with_reducible intro _
    | with_reducible apply OutTouches.next
    | with_reducible apply OutTouches.nextIf
    | (with_reducible apply Touches.comp (State.pump_touches _); rotate_left; decide)
    | (with_reducible apply Touches.comp (State.failFill_touches _ _ _ _ _); rotate_left; decide)
    | (with_reducible apply Touches.comp (State.setUnit_touches _ _ _); rotate_left; decide)
    | (with_reducible apply Touches.comp (OptPairTouches.get (State.takeDone_touches _ _) (by assumption)); rotate_left; decide)
    | (with_reducible apply OptPairTouches.comp (State.takeDone_touches _ _); rotate_left; decide)
    | with_reducible apply Touches.ite
    | with_reducible apply OutTouches.ite
    | split
    | dsimp only

theorem State.retireEntry_touches (s : State) (u : Nat) (e : BEntry) :
    Touches [.tallies, .shuttle, .batten, .counters, .trace, .out] s (State.retireEntry s u e) := by
  unfold State.retireEntry
  repeat' first
    | with_reducible apply Touches.refl
    | with_reducible assumption
    | with_reducible intro _
    | (with_reducible apply Touches.comp (State.setUnit_touches _ _ _); rotate_left; decide)
    | (with_reducible apply Touches.comp (State.finishAtomic_touches _ _ _ _ _ _ _); rotate_left; decide)
    | (with_reducible apply Touches.comp (State.emit_touches _ _); rotate_left; decide)
    | with_reducible apply Touches.ite
    | split
    | dsimp only

theorem execMirrorAck_touches (unit : Nat) (s : State) :
    OutTouches [.tallies, .fences, .shuttle, .batten, .loom, .log, .counters, .trace, .out] s (execMirrorAck unit s) := by
  unfold execMirrorAck
  repeat' first
    | with_reducible apply Touches.refl
    | with_reducible assumption
    | with_reducible intro _
    | with_reducible apply OutTouches.next
    | with_reducible apply OutTouches.nextIf
    | (with_reducible apply Touches.comp (State.pump_touches _); rotate_left; decide)
    | (with_reducible apply Touches.comp (State.retireEntry_touches _ _ _); rotate_left; decide)
    | with_reducible apply Touches.ite
    | with_reducible apply OutTouches.ite
    | split
    | dsimp only

theorem State.writeBack_touches (s : State) (u : Nat) (dli : Nat) :
    Touches [.tallies, .fences, .arrs, .weft, .batten, .log, .counters, .trace, .out] s (State.writeBack s u dli) := by
  unfold State.writeBack
  repeat' first
    | with_reducible apply Touches.refl
    | with_reducible assumption
    | with_reducible intro _
    | (with_reducible apply Touches.comp (State.bumpUnit_touches _ _ _ _); rotate_left; decide)
    | (with_reducible apply Touches.comp (State.setUnit_touches _ _ _); rotate_left; decide)
    | (with_reducible apply Touches.comp (State.submitLine_touches _ _); rotate_left; decide)
    | with_reducible apply Touches.ite
    | split
    | dsimp only

theorem execBattenWriteback_touches (unit : Nat) (dli : Nat) (s : State) :
    OutTouches [.tallies, .fences, .arrs, .weft, .batten, .time, .log, .counters, .trace, .out] s (execBattenWriteback unit dli s) := by
  unfold execBattenWriteback
  repeat' first
    | with_reducible apply Touches.refl
    | with_reducible assumption
    | with_reducible intro _
    | with_reducible apply OutTouches.next
    | with_reducible apply OutTouches.nextIf
    | (with_reducible apply Touches.comp (State.advanceTo_touches _ _); rotate_left; decide)
    | (with_reducible apply Touches.comp (State.writeBack_touches _ _ _); rotate_left; decide)
    | with_reducible apply Touches.ite
    | with_reducible apply OutTouches.ite
    | split
    | dsimp only

theorem State.payLine_touches (s : State) (p : BPending) :
    Touches [.fences, .arrs, .batten, .out] s (State.payLine s p) := by
  unfold State.payLine
  repeat' first
    | with_reducible apply Touches.refl
    | with_reducible assumption
    | with_reducible intro _
    | (with_reducible apply Touches.comp (State.payReq_touches _ _); rotate_left; decide)
    | (with_reducible apply Touches.comp (State.arrive_touches _ _ _); rotate_left; decide)
    | with_reducible apply Touches.ite
    | split
    | dsimp only

theorem State.cleanLine_touches (s : State) (u : Nat) (l : WLine) :
    Touches [.fences, .arrs, .batten, .out] s (State.cleanLine s u l) := by
  unfold State.cleanLine
  repeat' first
    | with_reducible apply Touches.refl
    | with_reducible assumption
    | with_reducible intro _
    | (with_reducible apply Touches.comp (State.setUnit_touches _ _ _); rotate_left; decide)
    | (with_reducible apply Touches.comp (State.payLine_touches _ _); rotate_left; decide)
    | with_reducible apply Touches.foldl
    | with_reducible apply Touches.ite
    | split
    | dsimp only

theorem State.loseLine_touches (s : State) (u : Nat) (l : WLine) (status : Nat) :
    Touches [.tallies, .fences, .shuttle, .batten, .log, .counters, .trace, .out] s (State.loseLine s u l status) := by
  unfold State.loseLine
  repeat' first
    | with_reducible apply Touches.refl
    | with_reducible assumption
    | with_reducible intro _
    | (with_reducible apply Touches.comp (State.failLine_touches _ _ _ _); rotate_left; decide)
    | (with_reducible apply Touches.comp (State.lineRecord_touches _ _ _ _ _); rotate_left; decide)
    | with_reducible apply Touches.ite
    | split
    | dsimp only

theorem execBattenWritebackAccepted_touches (unit : Nat) (dli : Nat) (s : State) :
    OutTouches [.tallies, .fences, .arrs, .weft, .shuttle, .batten, .log, .counters, .trace, .out] s (execBattenWritebackAccepted unit dli s) := by
  unfold execBattenWritebackAccepted
  repeat' first
    | with_reducible apply Touches.refl
    | with_reducible assumption
    | with_reducible intro _
    | with_reducible apply OutTouches.next
    | with_reducible apply OutTouches.nextIf
    | (with_reducible apply Touches.comp (State.cleanLine_touches _ _ _); rotate_left; decide)
    | (with_reducible apply Touches.comp (State.loseLine_touches _ _ _ _); rotate_left; decide)
    | (with_reducible apply Touches.comp (OptPairTouches.get (State.takeDone_touches _ _) (by assumption)); rotate_left; decide)
    | (with_reducible apply OptPairTouches.comp (State.takeDone_touches _ _); rotate_left; decide)
    | with_reducible apply Touches.ite
    | with_reducible apply OutTouches.ite
    | split
    | dsimp only

theorem State.writeWindowLine_touches (s : State) (win : Nat) (x : RedWindow) (dli : Nat) (data : Line) :
    Touches [.tallies, .fences, .arrs, .weft, .log, .counters, .trace, .out] s (State.writeWindowLine s win x dli data) := by
  unfold State.writeWindowLine
  repeat' first
    | with_reducible apply Touches.refl
    | with_reducible assumption
    | with_reducible intro _
    | (with_reducible apply Touches.comp (State.submitLine_touches _ _); rotate_left; decide)
    | with_reducible apply Touches.ite
    | split
    | dsimp only

theorem State.contribute_touches (s : State) (u : Nat) (e : BEntry) (win : Nat) (w : Nat) (lines : List Line) (scales : Bytes) (x : RedWindow) :
    Touches [.tallies, .fences, .arrs, .weft, .batten, .log, .counters, .trace, .out] s (State.contribute s u e win w lines scales x) := by
  unfold State.contribute
  repeat' first
    | with_reducible apply Touches.refl
    | with_reducible assumption
    | with_reducible intro _
    | (with_reducible apply Touches.comp (State.payReq_touches _ _); rotate_left; decide)
    | (with_reducible apply Touches.comp (State.setWindow_touches _ _ _); rotate_left; decide)
    | (with_reducible apply Touches.comp (State.countBatten_touches _ _ _ _ _ _); rotate_left; decide)
    | (with_reducible apply Touches.comp (State.writeWindowLine_touches _ _ _ _ _); rotate_left; decide)
    | with_reducible apply Touches.foldl
    | with_reducible apply Touches.ite
    | split
    | dsimp only

theorem State.refuseContrib_touches (s : State) (u : Nat) (e : BEntry) (excess : Bool) (win : Nat) :
    Touches [.fences, .batten, .log, .counters, .trace] s (State.refuseContrib s u e excess win) := by
  unfold State.refuseContrib
  repeat' first
    | with_reducible apply Touches.refl
    | with_reducible assumption
    | with_reducible intro _
    | (with_reducible apply Touches.comp (State.post_touches _ _ _ _ _); rotate_left; decide)
    | (with_reducible apply Touches.comp (State.entryRecord_touches _ _ _ _ _ _); rotate_left; decide)
    | (with_reducible apply Touches.comp (State.failWindow_touches _ _ _); rotate_left; decide)
    | with_reducible apply OptTouches.getD
    | with_reducible apply Touches.ite
    | split
    | ((with_reducible apply Touches.set_batten); rotate_left; decide)
    | dsimp only

theorem State.badAccLine_touches (s : State) (u : Nat) (e : BEntry) (win : Nat) (x : RedWindow) :
    Touches [.fences, .batten, .log, .counters, .trace] s (State.badAccLine s u e win x) := by
  unfold State.badAccLine
  repeat' first
    | with_reducible apply Touches.refl
    | with_reducible assumption
    | with_reducible intro _
    | (with_reducible apply Touches.comp (State.post_touches _ _ _ _ _); rotate_left; decide)
    | (with_reducible apply Touches.comp (State.bump_touches _ _ _); rotate_left; decide)
    | (with_reducible apply Touches.comp (State.entryRecord_touches _ _ _ _ _ _); rotate_left; decide)
    | (with_reducible apply Touches.comp (State.failWindow_touches _ _ _); rotate_left; decide)
    | with_reducible apply Touches.ite
    | split
    | ((with_reducible apply Touches.set_batten); rotate_left; decide)
    | dsimp only

theorem State.takeContrib_touches (s : State) (u : Nat) (e : BEntry) (bad : Bool) :
    Touches [.tallies, .fences, .arrs, .weft, .batten, .log, .counters, .trace, .out] s (State.takeContrib s u e bad) := by
  unfold State.takeContrib
  repeat' first
    | with_reducible apply Touches.refl
    | with_reducible assumption
    | with_reducible intro _
    | (with_reducible apply Touches.comp (State.badAccLine_touches _ _ _ _ _); rotate_left; decide)
    | (with_reducible apply Touches.comp (State.setUnit_touches _ _ _); rotate_left; decide)
    | (with_reducible apply Touches.comp (State.refuseContrib_touches _ _ _ _ _); rotate_left; decide)
    | (with_reducible apply Touches.comp (State.contribute_touches _ _ _ _ _ _ _ _); rotate_left; decide)
    | with_reducible apply Touches.ite
    | split
    | dsimp only

theorem execWindowContribution_touches (unit : Nat) (bad : Bool) (s : State) :
    OutTouches [.tallies, .fences, .arrs, .weft, .shuttle, .batten, .loom, .log, .counters, .trace, .out] s (execWindowContribution unit bad s) := by
  unfold execWindowContribution
  repeat' first
    | with_reducible apply Touches.refl
    | with_reducible assumption
    | with_reducible intro _
    | with_reducible apply OutTouches.next
    | with_reducible apply OutTouches.nextIf
    | (with_reducible apply Touches.comp (State.pump_touches _); rotate_left; decide)
    | (with_reducible apply Touches.comp (State.serveUnit_touches _ _); rotate_left; decide)
    | (with_reducible apply Touches.comp (State.takeContrib_touches _ _ _ _); rotate_left; decide)
    | with_reducible apply Touches.ite
    | with_reducible apply OutTouches.ite
    | split
    | dsimp only

theorem State.tryComplete_touches (s : State) (win : Nat) (x : RedWindow) :
    Touches [.fences, .batten] s (State.tryComplete s win x) := by
  unfold State.tryComplete
  repeat' first
    | with_reducible apply Touches.refl
    | with_reducible assumption
    | with_reducible intro _
    | (with_reducible apply Touches.comp (State.post_touches _ _ _ _ _); rotate_left; decide)
    | (with_reducible apply Touches.comp (State.setWindow_touches _ _ _); rotate_left; decide)
    | with_reducible apply Touches.ite
    | split
    | dsimp only

theorem State.windowAccepted_touches (s : State) (win : Nat) (dli : Nat) (x : RedWindow) :
    Touches [.tallies, .fences, .arrs, .weft, .batten, .log, .counters, .trace, .out] s (State.windowAccepted s win dli x) := by
  unfold State.windowAccepted
  repeat' first
    | with_reducible apply Touches.refl
    | with_reducible assumption
    | with_reducible intro _
    | (with_reducible apply Touches.comp (State.arrive_touches _ _ _); rotate_left; decide)
    | (with_reducible apply Touches.comp (State.writeWindowLine_touches _ _ _ _ _); rotate_left; decide)
    | (with_reducible apply Touches.comp (State.tryComplete_touches _ _ _); rotate_left; decide)
    | with_reducible apply Touches.ite
    | split
    | dsimp only

theorem execWindowLineAccepted_touches (dli : Nat) (s : State) :
    OutTouches [.tallies, .fences, .arrs, .weft, .batten, .log, .counters, .trace, .out] s (execWindowLineAccepted dli s) := by
  unfold execWindowLineAccepted
  repeat' first
    | with_reducible apply Touches.refl
    | with_reducible assumption
    | with_reducible intro _
    | with_reducible apply OutTouches.next
    | with_reducible apply OutTouches.nextIf
    | (with_reducible apply Touches.comp (State.windowAccepted_touches _ _ _ _); rotate_left; decide)
    | (with_reducible apply Touches.comp (OptPairTouches.get (State.takeDone_touches _ _) (by assumption)); rotate_left; decide)
    | (with_reducible apply OptPairTouches.comp (State.takeDone_touches _ _); rotate_left; decide)
    | (with_reducible apply Touches.comp (State.failWindow_touches _ _ _); rotate_left; decide)
    | with_reducible apply Touches.ite
    | with_reducible apply OutTouches.ite
    | split
    | dsimp only

end Sys2Proof.Machine
end

