-- ==== Sys2Proof/Laws/Touches/Binding.lean ====
section
/-!
SUPPORT. What the operations of Machine/Binding.lean touch, one law for each.
-/
namespace Sys2Proof.Machine

set_option linter.unusedTactic false
set_option linter.unreachableTactic false

theorem execFenceSignal_touches (s : State) :
    OutTouches [.tallies, .fences, .log, .counters, .trace, .out] s (execFenceSignal s) := by
  unfold execFenceSignal
  repeat' first
    | with_reducible apply Touches.refl
    | with_reducible assumption
    | with_reducible intro _
    | with_reducible apply OutTouches.next
    | with_reducible apply OutTouches.nextIf
    | (with_reducible apply Touches.comp (State.applyStatus_touches _ _); rotate_left; decide)
    | with_reducible apply Touches.ite
    | with_reducible apply OutTouches.ite
    | split
    | ((with_reducible apply Touches.set_tables); rotate_left; exact TablesTouch.set_fences _ _ _ _ (by decide))
    | dsimp only

theorem State.takeBpAck_touches (s : State) (seq : Nat) :
    Touches [.counters, .bp] s (State.takeBpAck s seq) := by
  unfold State.takeBpAck
  repeat' first
    | with_reducible apply Touches.refl
    | with_reducible assumption
    | with_reducible intro _
    | (with_reducible apply Touches.comp (State.countDropped_touches _); rotate_left; decide)
    | with_reducible apply Touches.ite
    | split
    | ((with_reducible apply Touches.set_bp); rotate_left; decide)
    | dsimp only

theorem execBpAck_touches (seq : Nat) (s : State) :
    OutTouches [.counters, .bp] s (execBpAck seq s) := by
  unfold execBpAck
  repeat' first
    | with_reducible apply Touches.refl
    | with_reducible assumption
    | with_reducible intro _
    | with_reducible apply OutTouches.next
    | with_reducible apply OutTouches.nextIf
    | (with_reducible apply Touches.comp (State.takeBpAck_touches _ _); rotate_left; decide)
    | with_reducible apply Touches.ite
    | with_reducible apply OutTouches.ite
    | split
    | dsimp only

theorem execBpInPresent_touches (type : Nat) (kind : Nat) (first : Nat) (count : Nat) (s : State) :
    OutTouches [.counters, .bp] s (execBpInPresent type kind first count s) := by
  unfold execBpInPresent
  repeat' first
    | with_reducible apply Touches.refl
    | with_reducible assumption
    | with_reducible intro _
    | with_reducible apply OutTouches.next
    | with_reducible apply OutTouches.nextIf
    | (with_reducible apply Touches.comp (State.countDropped_touches _); rotate_left; decide)
    | with_reducible apply Touches.ite
    | with_reducible apply OutTouches.ite
    | split
    | ((with_reducible apply Touches.set_bp); rotate_left; decide)
    | dsimp only

theorem execBpInReport_touches (ldi : Nat) (handle : Nat) (ctx : Nat) (status : Nat) (s : State) :
    OutTouches [.tallies, .fences, .log, .counters, .trace, .out] s (execBpInReport ldi handle ctx status s) := by
  unfold execBpInReport
  repeat' first
    | with_reducible apply Touches.refl
    | with_reducible assumption
    | with_reducible intro _
    | with_reducible apply OutTouches.next
    | with_reducible apply OutTouches.nextIf
    | (with_reducible apply Touches.comp (State.settle_touches _); rotate_left; decide)
    | (with_reducible apply Touches.comp (State.badRef_touches _ _); rotate_left; decide)
    | (with_reducible apply Touches.comp (State.signal_touches _ _ _ _); rotate_left; decide)
    | with_reducible apply Touches.ite
    | with_reducible apply OutTouches.ite
    | split
    | dsimp only

theorem execBpInNeighbour_touches (ldi : Nat) (pos : Nat) (devid : Nat) (s : State) :
    OutTouches [.doms, .tallies, .fences, .quarantine, .weft, .shuttle, .batten, .spindle, .keys, .loom, .log, .counters, .trace, .events, .bp, .link, .out] s (execBpInNeighbour ldi pos devid s) := by
  unfold execBpInNeighbour
  repeat' first
    | with_reducible apply Touches.refl
    | with_reducible assumption
    | with_reducible intro _
    | with_reducible apply OutTouches.next
    | with_reducible apply OutTouches.nextIf
    | (with_reducible apply Touches.comp (State.endExhausted_touches _ _); rotate_left; decide)
    | (with_reducible apply Touches.comp (State.setDom_touches _ _ _); rotate_left; decide)
    | (with_reducible apply Touches.comp (State.sendPolicy_touches _ _ _); rotate_left; decide)
    | with_reducible apply Touches.ite
    | with_reducible apply OutTouches.ite
    | split
    | dsimp only

theorem execHcpResetAssert_touches (s : State) :
    OutTouches [.boot] s (execHcpResetAssert s) := by
  unfold execHcpResetAssert
  repeat' first
    | with_reducible apply Touches.refl
    | with_reducible assumption
    | with_reducible intro _
    | with_reducible apply OutTouches.next
    | with_reducible apply OutTouches.nextIf
    | with_reducible apply Touches.ite
    | with_reducible apply OutTouches.ite
    | split
    | ((with_reducible apply Touches.set_boot); rotate_left; decide)
    | dsimp only

theorem execHcpImageStream_touches (image : Bytes) (s : State) :
    OutTouches [.boot] s (execHcpImageStream image s) := by
  unfold execHcpImageStream
  repeat' first
    | with_reducible apply Touches.refl
    | with_reducible assumption
    | with_reducible intro _
    | with_reducible apply OutTouches.next
    | with_reducible apply OutTouches.nextIf
    | with_reducible apply Touches.ite
    | with_reducible apply OutTouches.ite
    | split
    | ((with_reducible apply Touches.set_boot); rotate_left; decide)
    | dsimp only

end Sys2Proof.Machine
end

