-- ==== Sys2Proof/Laws/Touches/Command.lean ====
section
/-!
SUPPORT. What the operations of Machine/Command.lean touch, one law for each.
-/
namespace Sys2Proof.Machine

set_option linter.unusedTactic false
set_option linter.unreachableTactic false

theorem Res.ok_touches (s : State) (result : Bytes) (ext : Bytes) :
    ResTouches [] s (Res.ok s result ext) := by
  unfold Res.ok
  repeat' first
    | with_reducible apply Touches.refl
    | with_reducible assumption
    | with_reducible intro _
    | with_reducible apply ResTouches.fail
    | with_reducible apply ResTouches.refuse
    | with_reducible apply ResTouches.ok
    | with_reducible apply ResTouches.done
    | with_reducible apply ResTouches.wait
    | with_reducible apply Touches.ite
    | with_reducible apply ResTouches.ite
    | split
    | dsimp only

theorem State.setRing_touches (s : State) (i : Nat) (r : Ring) :
    Touches [.loom] s (State.setRing s i r) := by
  unfold State.setRing
  repeat' first
    | with_reducible apply Touches.refl
    | with_reducible assumption
    | with_reducible intro _
    | with_reducible apply Touches.ite
    | split
    | ((with_reducible apply Touches.set_loom); rotate_left; decide)
    | dsimp only

theorem State.setSession_touches (s : State) (sid : Nat) (x : Session) :
    Touches [.spdm] s (State.setSession s sid x) := by
  unfold State.setSession
  repeat' first
    | with_reducible apply Touches.refl
    | with_reducible assumption
    | with_reducible intro _
    | with_reducible apply Touches.ite
    | split
    | ((with_reducible apply Touches.set_spdm); rotate_left; decide)
    | dsimp only

theorem State.setConn_touches (s : State) (c : Conn) (x : SpdmConn) :
    Touches [.spdm] s (State.setConn s c x) := by
  unfold State.setConn
  repeat' first
    | with_reducible apply Touches.refl
    | with_reducible assumption
    | with_reducible intro _
    | with_reducible apply Touches.ite
    | split
    | ((with_reducible apply Touches.set_spdm); rotate_left; decide)
    | dsimp only

theorem State.fitSpdm_touches (s : State) (c : Conn) (code : Nat) (body : Bytes) :
    Touches [.spdm] s (State.fitSpdm s c code body).2 := by
  unfold State.fitSpdm
  repeat' first
    | with_reducible apply Touches.refl
    | with_reducible assumption
    | with_reducible intro _
    | (with_reducible apply Touches.comp (State.setConn_touches _ _ _); rotate_left; decide)
    | with_reducible apply Touches.ite
    | split
    | dsimp only

theorem State.protect_touches (s : State) (sid : Nat) (msg : Bytes) :
    Touches [.spdm] s (State.protect s sid msg).2 := by
  unfold State.protect
  repeat' first
    | with_reducible apply Touches.refl
    | with_reducible assumption
    | with_reducible intro _
    | (with_reducible apply Touches.comp (State.setSession_touches _ _ _); rotate_left; decide)
    | with_reducible apply Touches.ite
    | split
    | ((with_reducible apply Touches.set_spdm); rotate_left; decide)
    | dsimp only

theorem State.wireSpdm_touches (s : State) (session : Option Nat) (code : Nat) (body : Bytes) :
    Touches [.spdm] s (State.wireSpdm s session code body).2 := by
  unfold State.wireSpdm
  repeat' first
    | with_reducible apply Touches.refl
    | with_reducible assumption
    | with_reducible intro _
    | (with_reducible apply Touches.comp (State.protect_touches _ _ _); rotate_left; decide)
    | (with_reducible apply Touches.comp (Touches.of_eq (by assumption) (State.protect_touches _ _ _)); rotate_left; decide)
    | with_reducible apply Touches.ite
    | split
    | dsimp only

theorem State.carry_touches (s : State) (c : Conn) (type : Nat) (body : Bytes) :
    Touches [.out] s (State.carry s c type body) := by
  unfold State.carry
  repeat' first
    | with_reducible apply Touches.refl
    | with_reducible assumption
    | with_reducible intro _
    | (with_reducible apply Touches.comp (State.emitAll_touches _ _); rotate_left; decide)
    | with_reducible apply Touches.ite
    | split
    | dsimp only

theorem State.sendSpdm_touches (s : State) (c : Conn) (session : Option Nat) (code : Nat) (body : Bytes) :
    Touches [.spdm, .loom, .out] s (State.sendSpdm s c session code body) := by
  unfold State.sendSpdm
  repeat' first
    | with_reducible apply Touches.refl
    | with_reducible assumption
    | with_reducible intro _
    | (with_reducible apply Touches.comp (State.carry_touches _ _ _ _); rotate_left; decide)
    | (with_reducible apply Touches.comp (State.protect_touches _ _ _); rotate_left; decide)
    | (with_reducible apply Touches.comp (Touches.of_eq (by assumption) (State.protect_touches _ _ _)); rotate_left; decide)
    | (with_reducible apply Touches.comp (State.fitSpdm_touches _ _ _ _); rotate_left; decide)
    | (with_reducible apply Touches.comp (Touches.of_eq (by assumption) (State.fitSpdm_touches _ _ _ _)); rotate_left; decide)
    | (with_reducible apply Touches.comp (State.wireSpdm_touches _ _ _ _); rotate_left; decide)
    | (with_reducible apply Touches.comp (Touches.of_eq (by assumption) (State.wireSpdm_touches _ _ _ _)); rotate_left; decide)
    | (with_reducible apply Touches.comp (State.emit_touches _ _); rotate_left; decide)
    | with_reducible apply Touches.ite
    | split
    | ((with_reducible apply Touches.set_loom); rotate_left; decide)
    | dsimp only

theorem State.endSession_touches (s : State) (sid : Nat) :
    Touches [.spdm, .loom, .out] s (State.endSession s sid) := by
  unfold State.endSession
  repeat' first
    | with_reducible apply Touches.refl
    | with_reducible assumption
    | with_reducible intro _
    | (with_reducible apply Touches.comp (State.sendSpdm_touches _ _ _ _ _); rotate_left; decide)
    | with_reducible apply Touches.ite
    | split
    | ((with_reducible apply Touches.set_spdm); rotate_left; decide)
    | dsimp only

theorem State.traceCmd_touches (s : State) (e : JEntry) (event : Nat) (status : Nat) (jid : Nat) :
    Touches [.counters, .trace] s (State.traceCmd s e event status jid) := by
  unfold State.traceCmd
  repeat' first
    | with_reducible apply Touches.refl
    | with_reducible assumption
    | with_reducible intro _
    | (with_reducible apply Touches.comp (State.traceWrite_touches _ _); rotate_left; decide)
    | with_reducible apply Touches.ite
    | split
    | dsimp only

theorem State.deliver_touches (s : State) (e : JEntry) (reply : Bytes) (ext : Bytes) :
    Touches [.shuttle, .spdm, .loom, .counters, .mailbox, .out] s (State.deliver s e reply ext) := by
  unfold State.deliver
  repeat' first
    | with_reducible apply Touches.refl
    | with_reducible assumption
    | with_reducible intro _
    | (with_reducible apply Touches.comp (State.sendCtrl_touches _ _ _ _); rotate_left; decide)
    | (with_reducible apply Touches.comp (State.sendMctp_touches _ _ _); rotate_left; decide)
    | (with_reducible apply Touches.comp (State.setSession_touches _ _ _); rotate_left; decide)
    | (with_reducible apply Touches.comp (State.sendSpdm_touches _ _ _ _ _); rotate_left; decide)
    | (with_reducible apply Touches.comp (State.mboxWrite_touches _ _ _); rotate_left; decide)
    | (with_reducible apply Touches.comp (State.setRing_touches _ _ _); rotate_left; decide)
    | with_reducible apply Touches.ite
    | split
    | dsimp only

theorem State.logReply_touches (s : State) (e : JEntry) (reply : Bytes) :
    Touches [.spdm, .loom] s (State.logReply s e reply) := by
  unfold State.logReply
  repeat' first
    | with_reducible apply Touches.refl
    | with_reducible assumption
    | with_reducible intro _
    | (with_reducible apply Touches.comp (State.setSession_touches _ _ _); rotate_left; decide)
    | (with_reducible apply Touches.comp (State.setRing_touches _ _ _); rotate_left; decide)
    | with_reducible apply Touches.ite
    | split
    | dsimp only

theorem State.reply_touches (s : State) (e : JEntry) (jid : Nat) (r : Reply) (logged : Bool) :
    Touches [.tallies, .fences, .shuttle, .spdm, .loom, .log, .counters, .trace, .mailbox, .out] s (State.reply s e jid r logged) := by
  unfold State.reply
  repeat' first
    | with_reducible apply Touches.refl
    | with_reducible assumption
    | with_reducible intro _
    | (with_reducible apply Touches.comp (State.bump_touches _ _ _); rotate_left; decide)
    | (with_reducible apply Touches.comp (State.logReply_touches _ _ _); rotate_left; decide)
    | (with_reducible apply Touches.comp (State.settle_touches _); rotate_left; decide)
    | (with_reducible apply Touches.comp (State.traceCmd_touches _ _ _ _ _); rotate_left; decide)
    | (with_reducible apply Touches.comp (State.deliver_touches _ _ _ _); rotate_left; decide)
    | with_reducible apply Touches.ite
    | split
    | dsimp only

theorem State.accepted_touches (s : State) (c : Cmd) :
    Touches [.tallies, .counters] s (State.accepted s c) := by
  unfold State.accepted
  repeat' first
    | with_reducible apply Touches.refl
    | with_reducible assumption
    | with_reducible intro _
    | (with_reducible apply Touches.comp (State.bumpDom_touches _ _ _ _); rotate_left; decide)
    | (with_reducible apply Touches.comp (State.bump_touches _ _ _); rotate_left; decide)
    | (with_reducible apply Touches.comp (State.annotCount_touches _ _ _ _ _ _); rotate_left; decide)
    | with_reducible apply Touches.ite
    | split
    | dsimp only

theorem State.inSequence_touches {F : List Part} {s0 s : State} {c : Cmd} {k : State → State} (h : Touches F s0 s)
    (sub : ∀ p ∈ ([.tallies, .fences, .shuttle, .spdm, .loom, .log, .counters, .trace, .mailbox, .out] : List Part), p ∈ F) (hk : ∀ t, Touches F s0 t → Touches F s0 (k t)) :
    Touches F s0 (State.inSequence s c k) := by
  unfold State.inSequence
  split
  · exact (h.andThen (State.bump_touches _ _ _) (fun p q => sub p (by revert q; revert p; decide))).andThen
      (State.deliver_touches _ _ _ _) (fun p q => sub p (by revert q; revert p; decide))
  · exact h.andThen (State.reply_touches _ _ _ _ _) (fun p q => sub p (by revert q; revert p; decide))
  · exact hk _ (h.andThen (State.accepted_touches _ _) (fun p q => sub p (by revert q; revert p; decide)))

theorem State.setEntry_touches (s : State) (e : JEntry) :
    Touches [.loom] s (State.setEntry s e) := by
  unfold State.setEntry
  repeat' first
    | with_reducible apply Touches.refl
    | with_reducible assumption
    | with_reducible intro _
    | with_reducible apply Touches.ite
    | split
    | ((with_reducible apply Touches.set_loom); rotate_left; decide)
    | dsimp only

theorem State.dropEntry_touches (s : State) (jid : Nat) :
    Touches [.loom] s (State.dropEntry s jid) := by
  unfold State.dropEntry
  repeat' first
    | with_reducible apply Touches.refl
    | with_reducible assumption
    | with_reducible intro _
    | with_reducible apply Touches.ite
    | split
    | ((with_reducible apply Touches.set_loom); rotate_left; decide)
    | dsimp only

theorem State.suspend_touches (s : State) (jid : Nat) (w : Wait) (k : Cont) :
    Touches [.loom] s (State.suspend s jid w k) := by
  unfold State.suspend
  repeat' first
    | with_reducible apply Touches.refl
    | with_reducible assumption
    | with_reducible intro _
    | with_reducible apply Touches.ite
    | split
    | ((with_reducible apply Touches.set_loom); rotate_left; decide)
    | dsimp only

theorem State.commit_touches (s : State) (e : JEntry) (r : Reply) :
    Touches [.tallies, .fences, .shuttle, .spdm, .loom, .log, .counters, .trace, .mailbox, .out] s (State.commit s e r) := by
  unfold State.commit
  repeat' first
    | with_reducible apply Touches.refl
    | with_reducible assumption
    | with_reducible intro _
    | (with_reducible apply Touches.comp (State.bump_touches _ _ _); rotate_left; decide)
    | (with_reducible apply Touches.comp (State.reply_touches _ _ _ _ _); rotate_left; decide)
    | (with_reducible apply Touches.comp (State.dropEntry_touches _ _); rotate_left; decide)
    | with_reducible apply Touches.ite
    | split
    | ((with_reducible apply Touches.set_loom); rotate_left; decide)
    | dsimp only

theorem State.enter_touches (s : State) (sp : CmdSpec) (c : Cmd) :
    Touches [.loom] s (State.enter s sp c) := by
  unfold State.enter
  repeat' first
    | with_reducible apply Touches.refl
    | with_reducible assumption
    | with_reducible intro _
    | with_reducible apply Touches.ite
    | split
    | ((with_reducible apply Touches.set_loom); rotate_left; decide)
    | dsimp only

theorem State.failNamed_touches (s : State) (sp : CmdSpec) (c : Cmd) (st : Nat) :
    Touches [.tallies, .fences, .log, .counters, .trace, .out] s (State.failNamed s sp c st) := by
  unfold State.failNamed
  repeat' first
    | with_reducible apply Touches.refl
    | with_reducible assumption
    | with_reducible intro _
    | (with_reducible apply Touches.comp (State.applyStatus_touches _ _); rotate_left; decide)
    | with_reducible apply Touches.ite
    | split
    | dsimp only

theorem State.failWith_touches (s : State) (sp : CmdSpec) (c : Cmd) (st : Nat) :
    Touches [.tallies, .fences, .shuttle, .spdm, .loom, .log, .counters, .trace, .mailbox, .out] s (State.failWith s sp c st) := by
  unfold State.failWith
  repeat' first
    | with_reducible apply Touches.refl
    | with_reducible assumption
    | with_reducible intro _
    | (with_reducible apply Touches.comp (State.reply_touches _ _ _ _ _); rotate_left; decide)
    | (with_reducible apply Touches.comp (State.failNamed_touches _ _ _ _); rotate_left; decide)
    | with_reducible apply Touches.ite
    | split
    | dsimp only

theorem State.refuseWith_touches (s : State) (sp : CmdSpec) (c : Cmd) (r : Reply) :
    Touches [.tallies, .fences, .shuttle, .spdm, .loom, .log, .counters, .trace, .mailbox, .out] s (State.refuseWith s sp c r) := by
  unfold State.refuseWith
  repeat' first
    | with_reducible apply Touches.refl
    | with_reducible assumption
    | with_reducible intro _
    | (with_reducible apply Touches.comp (State.reply_touches _ _ _ _ _); rotate_left; decide)
    | (with_reducible apply Touches.comp (State.failNamed_touches _ _ _ _); rotate_left; decide)
    | with_reducible apply Touches.ite
    | split
    | dsimp only

theorem State.runBody_touches {F : List Part} {s0 s : State} {sp : CmdSpec} {c : Cmd} (h : Touches F s0 s)
    (sub : ∀ p ∈ ([.tallies, .fences, .shuttle, .spdm, .loom, .log, .counters, .trace, .mailbox, .out] : List Part), p ∈ F) (hb : ∀ t c, ResTouches F t (sp.body t c))
    (ha : ∀ c t, Touches F t (sp.after c t)) : Touches F s0 (State.runBody s sp c) := by
  unfold State.runBody
  generalize hx : sp.body _ _ = x
  have hr : ResTouches F s0 x := by
    rw [← hx]
    exact ResTouches.after (h.andThen (State.enter_touches s sp c) (fun p q => sub p (by revert q; revert p; decide)))
      (hb _ _) (fun p q => q)
  cases x with
  | fail st => exact h.andThen (State.failWith_touches _ _ _ _) (fun p q => sub p (by revert q; revert p; decide))
  | refuse r => exact h.andThen (State.reply_touches _ _ _ _ _) (fun p q => sub p (by revert q; revert p; decide))
  | done r t =>
    exact (Touches.andThen hr (State.commit_touches _ _ _) (fun p q => sub p (by revert q; revert p; decide))).andThen
      (ha _ _) (fun p q => q)
  | wait w k t =>
    exact (Touches.andThen hr (State.suspend_touches _ _ _ _) (fun p q => sub p (by revert q; revert p; decide))).andThen
      (ha _ _) (fun p q => q)

theorem endSpentAfter_touches (a0 : Cmd) (s : State) :
    Touches [.doms, .tallies, .fences, .quarantine, .weft, .shuttle, .batten, .spindle, .keys, .loom, .log, .counters, .trace, .events, .bp, .link, .out] s (endSpentAfter a0 s) := by
  unfold endSpentAfter
  repeat' first
    | with_reducible apply Touches.refl
    | with_reducible assumption
    | with_reducible intro _
    | (with_reducible apply Touches.comp (State.endSpent_touches _); rotate_left; decide)
    | with_reducible apply Touches.ite
    | split
    | dsimp only

theorem State.runCommand_touches {F : List Part} {s0 s : State} {sp : CmdSpec} {c : Cmd} (h : Touches F s0 s)
    (sub : ∀ p ∈ ([.tallies, .fences, .shuttle, .spdm, .loom, .log, .counters, .trace, .mailbox, .out] : List Part), p ∈ F) (hb : ∀ t c, ResTouches F t (sp.body t c))
    (ha : ∀ c t, Touches F t (sp.after c t)) : Touches F s0 (State.runCommand s sp c) := by
  unfold State.runCommand
  refine State.inSequence_touches
    (h.andThen (State.settle_touches _) (fun p q => sub p (by revert q; revert p; decide)))
    (fun p q => sub p (by revert q; revert p; decide)) (fun t ht => ?_)
  split
  · exact ht.andThen (State.refuseWith_touches _ _ _ _) (fun p q => sub p (by revert q; revert p; decide))
  · split
    · exact ht.andThen (State.failWith_touches _ _ _ _) (fun p q => sub p (by revert q; revert p; decide))
    · exact State.runBody_touches ht (fun p q => sub p (by revert q; revert p; decide)) hb ha

theorem State.tookTurn_touches (s : State) (k : Nat) :
    Touches [.loom] s (State.tookTurn s k) := by
  unfold State.tookTurn
  repeat' first
    | with_reducible apply Touches.refl
    | with_reducible assumption
    | with_reducible intro _
    | with_reducible apply Touches.ite
    | split
    | ((with_reducible apply Touches.set_loom); rotate_left; decide)
    | dsimp only

theorem State.fetched_touches (s : State) (c : Cmd) :
    Touches [.spdm, .loom, .counters, .trace] s (State.fetched s c) := by
  unfold State.fetched
  repeat' first
    | with_reducible apply Touches.refl
    | with_reducible assumption
    | with_reducible intro _
    | (with_reducible apply Touches.comp (State.setSession_touches _ _ _); rotate_left; decide)
    | (with_reducible apply Touches.comp (State.traceCmd_touches _ _ _ _ _); rotate_left; decide)
    | (with_reducible apply Touches.comp (State.setRing_touches _ _ _); rotate_left; decide)
    | (with_reducible apply Touches.comp (State.tookTurn_touches _ _); rotate_left; decide)
    | with_reducible apply Touches.ite
    | split
    | ((with_reducible apply Touches.set_loom); rotate_left; decide)
    | dsimp only

theorem State.drain_touches (s : State) (a1 : Nat) :
    Touches [.tallies, .fences, .shuttle, .spdm, .loom, .log, .counters, .trace, .mailbox, .out] s (State.drain s a1) := by
  induction a1 generalizing s with
  | zero =>
    unfold State.drain
    repeat' first
      | with_reducible apply Touches.refl
      | with_reducible assumption
      | with_reducible intro _
      | (with_reducible apply Touches.comp (State.reply_touches _ _ _ _ _); rotate_left; decide)
      | (with_reducible apply Touches.comp (State.fetched_touches _ _); rotate_left; decide)
      | (with_reducible apply Touches.comp (State.settle_touches _); rotate_left; decide)
      | (with_reducible apply State.inSequence_touches; rotate_left; decide)
      | with_reducible apply Touches.ite
      | split
      | dsimp only
  | succ n ih =>
    unfold State.drain
    repeat' first
      | with_reducible apply Touches.refl
      | with_reducible assumption
      | with_reducible intro _
      | (with_reducible apply Touches.comp (ih _); rotate_left; decide)
      | (with_reducible apply Touches.comp (State.reply_touches _ _ _ _ _); rotate_left; decide)
      | (with_reducible apply Touches.comp (State.fetched_touches _ _); rotate_left; decide)
      | (with_reducible apply Touches.comp (State.settle_touches _); rotate_left; decide)
      | (with_reducible apply State.inSequence_touches; rotate_left; decide)
      | with_reducible apply Touches.ite
      | split
      | dsimp only

theorem State.drainTurns_touches (s : State) :
    Touches [.tallies, .fences, .shuttle, .spdm, .loom, .log, .counters, .trace, .mailbox, .out] s (State.drainTurns s) := by
  unfold State.drainTurns
  repeat' first
    | with_reducible apply Touches.refl
    | with_reducible assumption
    | with_reducible intro _
    | (with_reducible apply Touches.comp (State.drain_touches _ _); rotate_left; decide)
    | with_reducible apply Touches.ite
    | split
    | dsimp only

theorem State.runSrc_touches {F : List Part} {s0 s : State} {sp : CmdSpec} {src : Src} (h : Touches F s0 s)
    (sub : ∀ p ∈ ([.tallies, .fences, .shuttle, .spdm, .loom, .log, .counters, .trace, .mailbox, .out] : List Part), p ∈ F) (hb : ∀ t c, ResTouches F t (sp.body t c))
    (ha : ∀ c t, Touches F t (sp.after c t)) : Touches F s0 (State.runSrc s sp src) := by
  have hd : Touches F s0 (if (s.commandAt sp src).isSome then s else s.drainTurns) :=
    Touches.ite (fun _ => h) (fun _ => h.andThen (State.drainTurns_touches _) (fun p q => sub p (by revert q; revert p; decide)))
  unfold State.runSrc
  dsimp only
  split
  · refine Touches.andThen ?_ (State.drainTurns_touches _) (fun p q => sub p (by revert q; revert p; decide))
    refine State.runCommand_touches ?_ (fun p q => sub p (by revert q; revert p; decide)) hb ha
    exact hd.andThen (State.fetched_touches _ _) (fun p q => sub p (by revert q; revert p; decide))
  · exact hd

end Sys2Proof.Machine
end

