-- ==== Sys2Proof/Laws/Touches/Reports.lean ====
section
/-!
SUPPORT. What the operations of Machine/Reports.lean touch, one law for each.
-/
namespace Sys2Proof.Machine

set_option linter.unusedTactic false
set_option linter.unreachableTactic false

theorem State.hybridSign_touches (s : State) (seeds : Bytes) (msg : Bytes) :
    Touches [.entropy] s (State.hybridSign s seeds msg).2 := by
  unfold State.hybridSign
  repeat' first
    | with_reducible apply Touches.refl
    | with_reducible assumption
    | with_reducible exact Nat.le_refl _
    | with_reducible exact Nat.le_succ _
    | with_reducible intro _
    | (with_reducible apply Touches.comp (State.draw_touches _); rotate_left; decide)
    | (with_reducible apply Touches.comp (Touches.of_eq (by assumption) (State.draw_touches _)); rotate_left; decide)
    | with_reducible apply Touches.ite
    | split
    | dsimp only

theorem State.placeRecord_touches (s : State) (gdid : Nat) (ldi : Nat) (body : Bytes) :
    OptTouches [.metering] s (State.placeRecord s gdid ldi body) := by
  unfold State.placeRecord
  repeat' first
    | with_reducible apply Touches.refl
    | with_reducible assumption
    | with_reducible intro _
    | with_reducible apply OptTouches.none
    | with_reducible apply OptTouches.some
    | with_reducible apply OptTouches.map
    | with_reducible apply OptTouches.bind
    | with_reducible apply Touches.ite
    | with_reducible apply OptTouches.ite
    | split
    | ((with_reducible apply Touches.set_metering); rotate_left; decide)
    | dsimp only

theorem State.putRecord_touches (s : State) (kind : Nat) (ldi : Nat) (d : Domain) (u : Usage) :
    OptTouches [.metering] s (State.putRecord s kind ldi d u) := by
  unfold State.putRecord
  repeat' first
    | with_reducible apply Touches.refl
    | with_reducible assumption
    | with_reducible intro _
    | with_reducible apply OptTouches.none
    | with_reducible apply OptTouches.some
    | (with_reducible apply Touches.comp (OptTouches.get (State.placeRecord_touches _ _ _ _) (by assumption)); rotate_left; decide)
    | (with_reducible apply OptTouches.comp (State.placeRecord_touches _ _ _ _); rotate_left; decide)
    | with_reducible apply OptTouches.map
    | with_reducible apply OptTouches.bind
    | with_reducible apply Touches.ite
    | with_reducible apply OptTouches.ite
    | split
    | dsimp only

theorem State.meterRecord_touches (s : State) (ldi kind : Nat) :
    Touches [.tallies, .metering] s (State.meterRecord s ldi kind) := by
  unfold State.meterRecord
  have h : Touches [.tallies, .metering] s (s.accrue ldi) := (State.accrue_touches _ _).mono (by decide)
  revert h
  generalize s.accrue ldi = a
  intro h
  dsimp only
  split
  · rename_i t e
    have e2 : ∃ m, t = { a with metering := m } := by
      unfold State.putRecord State.placeRecord at e
      rw [Option.map_eq_some_iff] at e
      obtain ⟨b, _, e⟩ := e
      exact ⟨_, e.symm⟩
    obtain ⟨m, rfl⟩ := e2
    exact Touches.setDom_tally _ _ (Touches.set_metering _ h (by decide)) (by decide) rfl
  · exact Touches.setDom_tally _ _ h (by decide) rfl

theorem State.finalRecord_touches (s : State) (ldi : Nat) :
    Touches [.tallies, .metering] s (State.finalRecord s ldi) := by
  unfold State.finalRecord
  repeat' first
    | with_reducible apply Touches.refl
    | with_reducible assumption
    | with_reducible intro _
    | (with_reducible apply Touches.comp (State.accrue_touches _ _); rotate_left; decide)
    | (with_reducible apply Touches.comp (OptTouches.get (State.putRecord_touches _ _ _ _ _) (by assumption)); rotate_left; decide)
    | (with_reducible apply OptTouches.comp (State.putRecord_touches _ _ _ _ _); rotate_left; decide)
    | with_reducible apply Touches.ite
    | split
    | ((with_reducible apply Touches.set_metering); rotate_left; decide)
    | dsimp only

theorem State.placeHeld_touches (s : State) :
    Touches [.metering] s (State.placeHeld s) := by
  unfold State.placeHeld
  repeat' first
    | with_reducible apply Touches.refl
    | with_reducible assumption
    | with_reducible intro _
    | (with_reducible apply Touches.comp (OptTouches.get (State.placeRecord_touches _ _ _ _) (by assumption)); rotate_left; decide)
    | (with_reducible apply OptTouches.comp (State.placeRecord_touches _ _ _ _); rotate_left; decide)
    | with_reducible apply Touches.foldl
    | with_reducible apply Touches.ite
    | split
    | ((with_reducible apply Touches.set_metering); rotate_left; decide)
    | dsimp only

theorem State.epochRecord_touches (s : State) :
    Touches [.metering] s (State.epochRecord s) := by
  unfold State.epochRecord
  repeat' first
    | with_reducible apply Touches.refl
    | with_reducible assumption
    | with_reducible intro _
    | (with_reducible apply Touches.comp (OptTouches.get (State.putRecord_touches _ _ _ _ _) (by assumption)); rotate_left; decide)
    | (with_reducible apply OptTouches.comp (State.putRecord_touches _ _ _ _ _); rotate_left; decide)
    | with_reducible apply OptTouches.getD
    | with_reducible apply Touches.ite
    | split
    | dsimp only

theorem State.closeBatch_touches (s : State) (b : MeterBatch) :
    Touches [.entropy, .metering, .events] s (State.closeBatch s b) := by
  unfold State.closeBatch
  repeat' first
    | with_reducible apply Touches.refl
    | with_reducible assumption
    | with_reducible exact Nat.le_refl _
    | with_reducible exact Nat.le_succ _
    | with_reducible intro _
    | (with_reducible apply Touches.comp (State.raise_touches _ _); rotate_left; decide)
    | (with_reducible apply Touches.comp (State.hybridSign_touches _ _ _); rotate_left; decide)
    | (with_reducible apply Touches.comp (Touches.of_eq (by assumption) (State.hybridSign_touches _ _ _)); rotate_left; decide)
    | with_reducible apply Touches.ite
    | split
    | ((with_reducible apply Touches.set_metering); rotate_left; decide)
    | dsimp only

theorem execMeterIntervalTimer_touches (ldi : Nat) (s : State) :
    OutTouches [.tallies, .metering, .time] s (execMeterIntervalTimer ldi s) := by
  unfold execMeterIntervalTimer
  repeat' first
    | with_reducible apply Touches.refl
    | with_reducible assumption
    | with_reducible intro _
    | with_reducible apply OutTouches.next
    | with_reducible apply OutTouches.nextIf
    | ((with_reducible apply Touches.setDom_tally); rotate_left; decide; rfl)
    | (with_reducible apply Touches.comp (State.advanceTo_touches _ _); rotate_left; decide)
    | (with_reducible apply Touches.comp (State.meterRecord_touches _ _ _); rotate_left; decide)
    | with_reducible apply Touches.ite
    | with_reducible apply OutTouches.ite
    | split
    | dsimp only

theorem execMeterBatchClose_touches (s : State) :
    OutTouches [.entropy, .metering, .time, .events] s (execMeterBatchClose s) := by
  unfold execMeterBatchClose
  repeat' first
    | with_reducible apply Touches.refl
    | with_reducible assumption
    | with_reducible exact Nat.le_refl _
    | with_reducible exact Nat.le_succ _
    | with_reducible intro _
    | with_reducible apply OutTouches.next
    | with_reducible apply OutTouches.nextIf
    | (with_reducible apply Touches.comp (State.advanceTo_touches _ _); rotate_left; decide)
    | (with_reducible apply Touches.comp (State.closeBatch_touches _ _); rotate_left; decide)
    | with_reducible apply Touches.ite
    | with_reducible apply OutTouches.ite
    | split
    | dsimp only

end Sys2Proof.Machine
end

