-- ==== Sys2Proof/Laws/Touches/Identity.lean ====
section
/-!
SUPPORT. What the operations of Machine/Identity.lean touch, one law for each.
-/
namespace Sys2Proof.Machine

set_option linter.unusedTactic false
set_option linter.unreachableTactic false

theorem State.otpPump_touches (s : State) :
    Touches [.otp, .out] s (State.otpPump s) := by
  unfold State.otpPump
  repeat' first
    | with_reducible apply Touches.refl
    | with_reducible assumption
    | (exact BitVec.and_self)
    | (exact Otp.program_keeps _ _ _)
    | with_reducible intro _
    | (with_reducible apply Touches.comp (State.emit_touches _ _); rotate_left; decide)
    | with_reducible apply Touches.ite
    | split
    | ((with_reducible apply Touches.set_otp); rotate_left; decide)
    | dsimp only

theorem State.otpJob_touches (s : State) (ws : List OtpWrite) :
    Touches [.otp, .out] s (State.otpJob s ws) := by
  unfold State.otpJob
  repeat' first
    | with_reducible apply Touches.refl
    | with_reducible assumption
    | (exact BitVec.and_self)
    | (exact Otp.program_keeps _ _ _)
    | with_reducible intro _
    | (with_reducible apply Touches.comp (State.otpPump_touches _); rotate_left; decide)
    | with_reducible apply Touches.ite
    | split
    | ((with_reducible apply Touches.set_otp); rotate_left; decide)
    | dsimp only

theorem State.deriveIdentity_touches (s : State) :
    Touches [.keys] s (State.deriveIdentity s) := by
  unfold State.deriveIdentity
  repeat' first
    | with_reducible apply Touches.refl
    | with_reducible assumption
    | with_reducible intro _
    | with_reducible apply Touches.ite
    | split
    | ((with_reducible apply Touches.set_keys); rotate_left; decide)
    | dsimp only

theorem State.issueAlias_touches (s : State) :
    Touches [.keys, .entropy] s (State.issueAlias s) := by
  unfold State.issueAlias
  repeat' first
    | with_reducible apply Touches.refl
    | with_reducible assumption
    | with_reducible exact Nat.le_refl _
    | with_reducible exact Nat.le_succ _
    | with_reducible intro _
    | (with_reducible apply Touches.comp (State.draw_touches _); rotate_left; decide)
    | (with_reducible apply Touches.comp (Touches.of_eq (by assumption) (State.draw_touches _)); rotate_left; decide)
    | with_reducible apply Touches.ite
    | split
    | ((with_reducible apply Touches.set_keys); rotate_left; decide)
    | dsimp only

theorem State.issueLink_touches (s : State) :
    Touches [.keys, .entropy] s (State.issueLink s) := by
  unfold State.issueLink
  repeat' first
    | with_reducible apply Touches.refl
    | with_reducible assumption
    | with_reducible exact Nat.le_refl _
    | with_reducible exact Nat.le_succ _
    | with_reducible intro _
    | (with_reducible apply Touches.comp (State.draw_touches _); rotate_left; decide)
    | (with_reducible apply Touches.comp (Touches.of_eq (by assumption) (State.draw_touches _)); rotate_left; decide)
    | with_reducible apply Touches.ite
    | split
    | ((with_reducible apply Touches.set_keys); rotate_left; decide)
    | dsimp only

theorem State.issueCerts_touches (s : State) :
    Touches [.keys, .entropy] s (State.issueCerts s) := by
  unfold State.issueCerts
  repeat' first
    | with_reducible apply Touches.refl
    | with_reducible assumption
    | with_reducible exact Nat.le_refl _
    | with_reducible exact Nat.le_succ _
    | with_reducible intro _
    | (with_reducible apply Touches.comp (State.issueLink_touches _); rotate_left; decide)
    | (with_reducible apply Touches.comp (State.issueAlias_touches _); rotate_left; decide)
    | with_reducible apply Touches.ite
    | split
    | dsimp only

theorem State.rejectRecord_touches (s : State) (reason : Nat) :
    Touches [.log, .counters, .trace] s (State.rejectRecord s reason) := by
  unfold State.rejectRecord
  repeat' first
    | with_reducible apply Touches.refl
    | with_reducible assumption
    | with_reducible intro _
    | (with_reducible apply Touches.comp (State.record_touches _ _ _); rotate_left; decide)
    | with_reducible apply Touches.ite
    | split
    | dsimp only

theorem State.takeBundle_touches (s : State) (bundle : Bytes) :
    Touches [.keys, .entropy, .log, .counters, .trace] s (State.takeBundle s bundle) := by
  unfold State.takeBundle
  repeat' first
    | with_reducible apply Touches.refl
    | with_reducible assumption
    | with_reducible exact Nat.le_refl _
    | with_reducible exact Nat.le_succ _
    | with_reducible intro _
    | (with_reducible apply Touches.comp (State.rejectRecord_touches _ _); rotate_left; decide)
    | (with_reducible apply Touches.comp (State.issueCerts_touches _); rotate_left; decide)
    | with_reducible apply Touches.ite
    | split
    | ((with_reducible apply Touches.set_keys); rotate_left; decide)
    | dsimp only

theorem State.generateRoot_touches (s : State) :
    Touches [.keys, .entropy, .metering] s (State.generateRoot s) := by
  unfold State.generateRoot
  repeat' first
    | with_reducible apply Touches.refl
    | with_reducible assumption
    | with_reducible exact Nat.le_refl _
    | with_reducible exact Nat.le_succ _
    | with_reducible intro _
    | (with_reducible apply Touches.comp (State.reseed_touches _); rotate_left; decide)
    | (with_reducible apply Touches.comp (State.epochRecord_touches _); rotate_left; decide)
    | (with_reducible apply Touches.comp (State.draw_touches _); rotate_left; decide)
    | (with_reducible apply Touches.comp (Touches.of_eq (by assumption) (State.draw_touches _)); rotate_left; decide)
    | (with_reducible apply Touches.comp (State.setSlot_touches _ _ _); rotate_left; decide)
    | (with_reducible apply Touches.comp (State.issueCerts_touches _); rotate_left; decide)
    | with_reducible apply Touches.ite
    | split
    | ((with_reducible apply Touches.set_keys); rotate_left; decide)
    | dsimp only

theorem State.tryRoot_touches (s : State) :
    Touches [.keys, .entropy, .metering] s (State.tryRoot s) := by
  unfold State.tryRoot
  repeat' first
    | with_reducible apply Touches.refl
    | with_reducible assumption
    | with_reducible exact Nat.le_refl _
    | with_reducible exact Nat.le_succ _
    | with_reducible intro _
    | (with_reducible apply Touches.comp (State.generateRoot_touches _); rotate_left; decide)
    | with_reducible apply Touches.ite
    | split
    | dsimp only

theorem State.startFirmware_touches (s : State) (seq : Nat) (bundle : Bytes) :
    Touches [.keys, .entropy, .metering, .log, .counters, .trace, .boot] s (State.startFirmware s seq bundle) := by
  unfold State.startFirmware
  repeat' first
    | with_reducible apply Touches.refl
    | with_reducible assumption
    | with_reducible exact Nat.le_refl _
    | with_reducible exact Nat.le_succ _
    | with_reducible intro _
    | (with_reducible apply Touches.comp (State.takeBundle_touches _ _); rotate_left; decide)
    | (with_reducible apply Touches.comp (State.deriveIdentity_touches _); rotate_left; decide)
    | (with_reducible apply Touches.comp (State.tryRoot_touches _); rotate_left; decide)
    | with_reducible apply Touches.ite
    | split
    | ((with_reducible apply Touches.set_boot); rotate_left; decide)
    | dsimp only

end Sys2Proof.Machine
end

