-- ==== Sys2Proof/Laws/Touches/Debug.lean ====
section
/-!
SUPPORT. What the operations of Machine/Debug.lean touch, one law for each.
-/
namespace Sys2Proof.Machine

set_option linter.unusedTactic false
set_option linter.unreachableTactic false

theorem State.advanceCounter_touches (s : State) (target : Nat) :
    Touches [.time] s (State.advanceCounter s target) := by
  unfold State.advanceCounter
  repeat' first
    | with_reducible apply Touches.refl
    | with_reducible assumption
    | with_reducible intro _
    | with_reducible apply Touches.ite
    | split
    | ((with_reducible apply Touches.set_time); rotate_left; decide)
    | dsimp only

theorem State.setCerts_touches (s : State) (m : Map DebugCert) :
    Touches [.doms, .tallies, .fences, .weft, .shuttle, .batten, .keys, .loom, .log, .counters, .trace, .events, .bp, .dbg, .out] s (State.setCerts s m) := by
  unfold State.setCerts
  repeat' first
    | with_reducible apply Touches.refl
    | with_reducible assumption
    | with_reducible intro _
    | (with_reducible apply Touches.comp (State.failureEndsHalt_touches _); rotate_left; decide)
    | with_reducible apply Touches.ite
    | split
    | ((with_reducible apply Touches.set_tables); rotate_left; exact TablesTouch.set_doms _ (by decide))
    | ((with_reducible apply Touches.set_loom); rotate_left; decide)
    | ((with_reducible apply Touches.set_dbg); rotate_left; decide)
    | dsimp only

theorem State.endRights_touches (s : State) :
    Touches [.doms, .tallies, .fences, .weft, .shuttle, .batten, .keys, .loom, .log, .counters, .trace, .events, .bp, .dbg, .out] s (State.endRights s) := by
  unfold State.endRights
  repeat' first
    | with_reducible apply Touches.refl
    | with_reducible assumption
    | with_reducible intro _
    | (with_reducible apply Touches.comp (State.setCerts_touches _ _); rotate_left; decide)
    | with_reducible apply Touches.ite
    | split
    | dsimp only

theorem State.grantCert_touches (s : State) (f : DebugFields) :
    Touches [.doms, .tallies, .fences, .weft, .shuttle, .batten, .keys, .loom, .log, .counters, .trace, .events, .bp, .dbg, .out] s (State.grantCert s f) := by
  unfold State.grantCert
  repeat' first
    | with_reducible apply Touches.refl
    | with_reducible assumption
    | with_reducible intro _
    | (with_reducible apply Touches.comp (State.setCerts_touches _ _); rotate_left; decide)
    | with_reducible apply OptTouches.getD
    | with_reducible apply Touches.ite
    | split
    | ((with_reducible apply Touches.set_dbg); rotate_left; decide)
    | dsimp only

theorem certPresentBody_touches (s : State) (c : Cmd) :
    ResTouches [.doms, .tallies, .fences, .weft, .shuttle, .batten, .keys, .entropy, .loom, .log, .counters, .trace, .events, .bp, .dbg, .out] s (certPresentBody s c) := by
  unfold certPresentBody
  repeat' first
    | with_reducible apply Touches.refl
    | with_reducible assumption
    | with_reducible exact Nat.le_refl _
    | with_reducible exact Nat.le_succ _
    | with_reducible intro _
    | with_reducible apply ResTouches.fail
    | with_reducible apply ResTouches.refuse
    | with_reducible apply ResTouches.ok
    | with_reducible apply ResTouches.done
    | with_reducible apply ResTouches.wait
    | (with_reducible apply Touches.comp (State.grantCert_touches _ _); rotate_left; decide)
    | (with_reducible apply Touches.comp (State.draw_touches _); rotate_left; decide)
    | (with_reducible apply Touches.comp (Touches.of_eq (by assumption) (State.draw_touches _)); rotate_left; decide)
    | (with_reducible apply ResTouches.comp (Res.ok_touches _ _ _); rotate_left; decide)
    | with_reducible apply Touches.ite
    | with_reducible apply ResTouches.ite
    | split
    | ((with_reducible apply Touches.set_dbg); rotate_left; decide)
    | dsimp only

theorem dbgCertPresentSpec_touches (t : State) (c : Cmd) :
    ResTouches [.doms, .tallies, .fences, .quarantine, .weft, .shuttle, .batten, .spindle, .keys, .entropy, .loom, .log, .counters, .trace, .events, .bp, .dbg, .link, .out] t (dbgCertPresentSpec.body t c) := by
  unfold dbgCertPresentSpec
  dsimp only
  repeat' first
    | with_reducible apply Touches.refl
    | with_reducible assumption
    | intro _
    | with_reducible apply ResTouches.fail
    | with_reducible apply ResTouches.refuse
    | with_reducible apply ResTouches.ok
    | with_reducible apply ResTouches.done
    | with_reducible apply ResTouches.wait
    | (with_reducible apply Touches.comp (endSpentAfter_touches _ _); rotate_left; decide)
    | (with_reducible apply ResTouches.comp (certPresentBody_touches _ _); rotate_left; decide)
    | with_reducible apply Touches.ite
    | with_reducible apply ResTouches.ite
    | split
    | dsimp only

theorem execDbgCertPresent_touches (src : Src) (s : State) :
    OutTouches [.doms, .tallies, .fences, .quarantine, .weft, .shuttle, .batten, .spindle, .keys, .entropy, .spdm, .loom, .log, .counters, .trace, .events, .bp, .mailbox, .dbg, .link, .out] s (execDbgCertPresent src s) := by
  unfold execDbgCertPresent
  repeat' first
    | with_reducible apply Touches.refl
    | with_reducible assumption
    | with_reducible exact Nat.le_refl _
    | with_reducible exact Nat.le_succ _
    | with_reducible intro _
    | with_reducible apply OutTouches.next
    | with_reducible apply OutTouches.nextIf
    | (with_reducible apply State.runSrc_touches; rotate_left; decide)
    | ((with_reducible show Touches _ _ (CmdSpec.after _ _ _)); exact (State.endSpent_touches _).mono (by decide))
    | (with_reducible apply ResTouches.mono (dbgCertPresentSpec_touches _ _); decide)
    | with_reducible apply Touches.ite
    | with_reducible apply OutTouches.ite
    | split
    | dsimp only

theorem revokeBody_touches (s : State) (c : Cmd) :
    ResTouches [.doms, .tallies, .fences, .weft, .shuttle, .batten, .keys, .loom, .log, .counters, .trace, .events, .bp, .dbg, .out] s (revokeBody s c) := by
  unfold revokeBody
  repeat' first
    | with_reducible apply Touches.refl
    | with_reducible assumption
    | with_reducible intro _
    | with_reducible apply ResTouches.fail
    | with_reducible apply ResTouches.refuse
    | with_reducible apply ResTouches.ok
    | with_reducible apply ResTouches.done
    | with_reducible apply ResTouches.wait
    | (with_reducible apply Touches.comp (State.endRights_touches _); rotate_left; decide)
    | (with_reducible apply ResTouches.comp (Res.ok_touches _ _ _); rotate_left; decide)
    | (with_reducible apply Touches.comp (State.setCerts_touches _ _); rotate_left; decide)
    | with_reducible apply Touches.ite
    | with_reducible apply ResTouches.ite
    | split
    | dsimp only

theorem dbgRevokeSpec_touches (t : State) (c : Cmd) :
    ResTouches [.doms, .tallies, .fences, .quarantine, .weft, .shuttle, .batten, .spindle, .keys, .loom, .log, .counters, .trace, .events, .bp, .dbg, .link, .out] t (dbgRevokeSpec.body t c) := by
  unfold dbgRevokeSpec
  dsimp only
  repeat' first
    | with_reducible apply Touches.refl
    | with_reducible assumption
    | intro _
    | with_reducible apply ResTouches.fail
    | with_reducible apply ResTouches.refuse
    | with_reducible apply ResTouches.ok
    | with_reducible apply ResTouches.done
    | with_reducible apply ResTouches.wait
    | (with_reducible apply ResTouches.comp (revokeBody_touches _ _); rotate_left; decide)
    | (with_reducible apply Touches.comp (endSpentAfter_touches _ _); rotate_left; decide)
    | with_reducible apply Touches.ite
    | with_reducible apply ResTouches.ite
    | split
    | dsimp only

theorem execDbgRevoke_touches (src : Src) (s : State) :
    OutTouches [.doms, .tallies, .fences, .quarantine, .weft, .shuttle, .batten, .spindle, .keys, .spdm, .loom, .log, .counters, .trace, .events, .bp, .mailbox, .dbg, .link, .out] s (execDbgRevoke src s) := by
  unfold execDbgRevoke
  repeat' first
    | with_reducible apply Touches.refl
    | with_reducible assumption
    | with_reducible intro _
    | with_reducible apply OutTouches.next
    | with_reducible apply OutTouches.nextIf
    | (with_reducible apply State.runSrc_touches; rotate_left; decide)
    | ((with_reducible show Touches _ _ (CmdSpec.after _ _ _)); exact (State.endSpent_touches _).mono (by decide))
    | (with_reducible apply ResTouches.mono (dbgRevokeSpec_touches _ _); decide)
    | with_reducible apply Touches.ite
    | with_reducible apply OutTouches.ite
    | split
    | dsimp only

theorem execDebugRightsExpiry_touches (cert : Nat) (s : State) :
    OutTouches [.doms, .tallies, .fences, .weft, .shuttle, .batten, .keys, .time, .loom, .log, .counters, .trace, .events, .bp, .dbg, .out] s (execDebugRightsExpiry cert s) := by
  unfold execDebugRightsExpiry
  repeat' first
    | with_reducible apply Touches.refl
    | with_reducible assumption
    | with_reducible intro _
    | with_reducible apply OutTouches.next
    | with_reducible apply OutTouches.nextIf
    | (with_reducible apply Touches.comp (State.advanceCounter_touches _ _); rotate_left; decide)
    | (with_reducible apply Touches.comp (State.setCerts_touches _ _); rotate_left; decide)
    | with_reducible apply Touches.ite
    | with_reducible apply OutTouches.ite
    | split
    | dsimp only

theorem execDebugNonceExpiry_touches (s : State) :
    OutTouches [.time, .dbg] s (execDebugNonceExpiry s) := by
  unfold execDebugNonceExpiry
  repeat' first
    | with_reducible apply Touches.refl
    | with_reducible assumption
    | with_reducible intro _
    | with_reducible apply OutTouches.next
    | with_reducible apply OutTouches.nextIf
    | (with_reducible apply Touches.comp (State.advanceTo_touches _ _); rotate_left; decide)
    | with_reducible apply Touches.ite
    | with_reducible apply OutTouches.ite
    | split
    | ((with_reducible apply Touches.set_dbg); rotate_left; decide)
    | dsimp only

theorem State.haltNow_touches (s : State) :
    Touches [.loom, .free] s (State.haltNow s) := by
  unfold State.haltNow
  repeat' first
    | with_reducible apply Touches.refl
    | with_reducible assumption
    | with_reducible intro _
    | with_reducible apply Touches.ite
    | split
    | ((with_reducible apply Touches.set_loom_free); rotate_left; decide; decide)
    | dsimp only

theorem haltBody_touches (s : State) (c : Cmd) :
    ResTouches [.loom, .free] s (haltBody s c) := by
  unfold haltBody
  repeat' first
    | with_reducible apply Touches.refl
    | with_reducible assumption
    | with_reducible intro _
    | with_reducible apply ResTouches.fail
    | with_reducible apply ResTouches.refuse
    | with_reducible apply ResTouches.ok
    | with_reducible apply ResTouches.done
    | with_reducible apply ResTouches.wait
    | (with_reducible apply ResTouches.comp (Res.ok_touches _ _ _); rotate_left; decide)
    | (with_reducible apply Touches.comp (State.haltNow_touches _); rotate_left; decide)
    | with_reducible apply Touches.ite
    | with_reducible apply ResTouches.ite
    | split
    | ((with_reducible apply Touches.set_loom); rotate_left; decide)
    | dsimp only

theorem dbgHaltSpec_touches (t : State) (c : Cmd) :
    ResTouches [.loom, .free] t (dbgHaltSpec.body t c) := by
  unfold dbgHaltSpec
  dsimp only
  repeat' first
    | with_reducible apply Touches.refl
    | with_reducible assumption
    | intro _
    | with_reducible apply ResTouches.fail
    | with_reducible apply ResTouches.refuse
    | with_reducible apply ResTouches.ok
    | with_reducible apply ResTouches.done
    | with_reducible apply ResTouches.wait
    | (with_reducible apply ResTouches.comp (haltBody_touches _ _); rotate_left; decide)
    | with_reducible apply Touches.ite
    | with_reducible apply ResTouches.ite
    | split
    | dsimp only

theorem execDbgHalt_touches (src : Src) (s : State) :
    OutTouches [.tallies, .fences, .shuttle, .spdm, .loom, .log, .counters, .trace, .mailbox, .free, .out] s (execDbgHalt src s) := by
  unfold execDbgHalt
  repeat' first
    | with_reducible apply Touches.refl
    | with_reducible assumption
    | with_reducible intro _
    | with_reducible apply OutTouches.next
    | with_reducible apply OutTouches.nextIf
    | (with_reducible apply State.runSrc_touches; rotate_left; decide)
    | ((with_reducible show Touches _ _ (CmdSpec.after _ _ _)); exact Touches.refl _ _)
    | (with_reducible apply ResTouches.mono (dbgHaltSpec_touches _ _); decide)
    | with_reducible apply Touches.ite
    | with_reducible apply OutTouches.ite
    | split
    | dsimp only

theorem execBreakpointHit_touches (addr : Nat) (s : State) :
    OutTouches [.loom, .free] s (execBreakpointHit addr s) := by
  unfold execBreakpointHit
  repeat' first
    | with_reducible apply Touches.refl
    | with_reducible assumption
    | with_reducible intro _
    | with_reducible apply OutTouches.next
    | with_reducible apply OutTouches.nextIf
    | with_reducible apply Touches.ite
    | with_reducible apply OutTouches.ite
    | split
    | ((with_reducible apply Touches.set_loom_free); rotate_left; decide; decide)
    | dsimp only

theorem execHaltDrainComplete_touches (s : State) :
    OutTouches [.loom, .events] s (execHaltDrainComplete s) := by
  unfold execHaltDrainComplete
  repeat' first
    | with_reducible apply Touches.refl
    | with_reducible assumption
    | with_reducible intro _
    | with_reducible apply OutTouches.next
    | with_reducible apply OutTouches.nextIf
    | (with_reducible apply Touches.comp (State.raise_touches _ _); rotate_left; decide)
    | with_reducible apply Touches.ite
    | with_reducible apply OutTouches.ite
    | split
    | ((with_reducible apply Touches.set_loom); rotate_left; decide)
    | dsimp only

theorem resumeBody_touches (s : State) (a1 : Cmd) :
    ResTouches [.doms, .tallies, .fences, .weft, .shuttle, .batten, .keys, .loom, .log, .counters, .trace, .events, .bp, .out] s (resumeBody s a1) := by
  unfold resumeBody
  repeat' first
    | with_reducible apply Touches.refl
    | with_reducible assumption
    | with_reducible intro _
    | with_reducible apply ResTouches.fail
    | with_reducible apply ResTouches.refuse
    | with_reducible apply ResTouches.ok
    | with_reducible apply ResTouches.done
    | with_reducible apply ResTouches.wait
    | (with_reducible apply Touches.comp (State.failureEndsHalt_touches _); rotate_left; decide)
    | (with_reducible apply ResTouches.comp (Res.ok_touches _ _ _); rotate_left; decide)
    | with_reducible apply Touches.ite
    | with_reducible apply ResTouches.ite
    | split
    | ((with_reducible apply Touches.set_loom); rotate_left; decide)
    | dsimp only

theorem dbgResumeSpec_touches (t : State) (c : Cmd) :
    ResTouches [.doms, .tallies, .fences, .quarantine, .weft, .shuttle, .batten, .spindle, .keys, .loom, .log, .counters, .trace, .events, .bp, .link, .out] t (dbgResumeSpec.body t c) := by
  unfold dbgResumeSpec
  dsimp only
  repeat' first
    | with_reducible apply Touches.refl
    | with_reducible assumption
    | intro _
    | with_reducible apply ResTouches.fail
    | with_reducible apply ResTouches.refuse
    | with_reducible apply ResTouches.ok
    | with_reducible apply ResTouches.done
    | with_reducible apply ResTouches.wait
    | (with_reducible apply ResTouches.comp (resumeBody_touches _ _); rotate_left; decide)
    | (with_reducible apply Touches.comp (endSpentAfter_touches _ _); rotate_left; decide)
    | with_reducible apply Touches.ite
    | with_reducible apply ResTouches.ite
    | split
    | dsimp only

theorem State.resumeHalted_touches (s : State) (src : Src) :
    Touches [.doms, .tallies, .fences, .quarantine, .weft, .shuttle, .batten, .spindle, .keys, .spdm, .loom, .log, .counters, .trace, .events, .bp, .mailbox, .link, .out] s (State.resumeHalted s src) := by
  unfold State.resumeHalted
  repeat' first
    | with_reducible apply Touches.refl
    | with_reducible assumption
    | with_reducible intro _
    | (with_reducible apply State.runCommand_touches; rotate_left; decide)
    | (with_reducible apply Touches.comp (State.fetched_touches _ _); rotate_left; decide)
    | (with_reducible apply State.runSrc_touches; rotate_left; decide)
    | ((with_reducible show Touches _ _ (CmdSpec.after _ _ _)); exact (State.endSpent_touches _).mono (by decide))
    | (with_reducible apply ResTouches.mono (dbgResumeSpec_touches _ _); decide)
    | (with_reducible apply Touches.comp (State.drainTurns_touches _); rotate_left; decide)
    | with_reducible apply Touches.ite
    | split
    | dsimp only

theorem execDbgResume_touches (src : Src) (s : State) :
    OutTouches [.doms, .tallies, .fences, .quarantine, .weft, .shuttle, .batten, .spindle, .keys, .spdm, .loom, .log, .counters, .trace, .events, .bp, .mailbox, .link, .out] s (execDbgResume src s) := by
  unfold execDbgResume
  repeat' first
    | with_reducible apply Touches.refl
    | with_reducible assumption
    | with_reducible intro _
    | with_reducible apply OutTouches.next
    | with_reducible apply OutTouches.nextIf
    | (with_reducible apply State.runSrc_touches; rotate_left; decide)
    | ((with_reducible show Touches _ _ (CmdSpec.after _ _ _)); exact (State.endSpent_touches _).mono (by decide))
    | (with_reducible apply ResTouches.mono (dbgResumeSpec_touches _ _); decide)
    | (with_reducible apply Touches.comp (State.resumeHalted_touches _ _); rotate_left; decide)
    | with_reducible apply Touches.ite
    | with_reducible apply OutTouches.ite
    | split
    | dsimp only

end Sys2Proof.Machine
end

