-- ==== Sys2Proof/Laws/Touches/Faults.lean ====
section
/-!
SUPPORT. What the operations of Machine/Faults.lean touch, one law for each.
-/
namespace Sys2Proof.Machine

set_option linter.unusedTactic false
set_option linter.unreachableTactic false

theorem State.setPhase_touches (s : State) (p : ResetPhase) :
    Touches [.power] s (State.setPhase s p) := by
  unfold State.setPhase
  repeat' first
    | with_reducible apply Touches.refl
    | with_reducible assumption
    | with_reducible intro _
    | with_reducible apply Touches.ite
    | split
    | ((with_reducible apply Touches.set_power); rotate_left; decide)
    | dsimp only

theorem State.enterRestart_touches (s : State) (level : ResetLevel) :
    Touches [.loom] s (State.enterRestart s level) := by
  unfold State.enterRestart
  repeat' first
    | with_reducible apply Touches.refl
    | with_reducible assumption
    | with_reducible intro _
    | with_reducible apply Touches.ite
    | split
    | ((with_reducible apply Touches.set_loom); rotate_left; decide)
    | dsimp only

theorem State.assertReset_touches (s : State) (level : ResetLevel) (cause : Nat) (pended : Bool) (otpHeld : Bool) (squallHeld : Bool) :
    Touches [.power] s (State.assertReset s level cause pended otpHeld squallHeld) := by
  unfold State.assertReset
  repeat' first
    | with_reducible apply Touches.refl
    | with_reducible assumption
    | with_reducible intro _
    | (with_reducible apply Touches.comp (State.setPhase_touches _ _); rotate_left; decide)
    | with_reducible apply Touches.ite
    | split
    | dsimp only

theorem State.beginReset_touches (s : State) (level : ResetLevel) (cause : Nat) (pended : Bool) :
    Touches [.loom, .power] s (State.beginReset s level cause pended) := by
  unfold State.beginReset
  repeat' first
    | with_reducible apply Touches.refl
    | with_reducible assumption
    | with_reducible intro _
    | (with_reducible apply Touches.comp (State.assertReset_touches _ _ _ _ _ _); rotate_left; decide)
    | (with_reducible apply Touches.comp (State.setPhase_touches _ _); rotate_left; decide)
    | (with_reducible apply Touches.comp (State.enterRestart_touches _ _); rotate_left; decide)
    | with_reducible apply Touches.ite
    | split
    | ((with_reducible apply Touches.set_power); rotate_left; decide)
    | dsimp only

theorem State.endHold_touches (s : State) (left : Nat) :
    Touches [.doms, .tallies, .fences, .quarantine, .weft, .shuttle, .batten, .spindle, .keys, .loom, .log, .counters, .trace, .events, .bp, .power, .link, .out] s (State.endHold s left) := by
  unfold State.endHold
  repeat' first
    | with_reducible apply Touches.refl
    | with_reducible assumption
    | with_reducible intro _
    | (with_reducible apply Touches.comp (State.endSpent_touches _); rotate_left; decide)
    | (with_reducible apply Touches.comp (State.sendSquall_touches _ _ _); rotate_left; decide)
    | with_reducible apply Touches.foldl
    | with_reducible apply Touches.ite
    | split
    | ((with_reducible apply Touches.set_power); rotate_left; decide)
    | dsimp only

theorem State.requestReset_touches (s : State) (level : ResetLevel) (cause : Nat) :
    Touches [.loom, .power] s (State.requestReset s level cause) := by
  unfold State.requestReset
  repeat' first
    | with_reducible apply Touches.refl
    | with_reducible assumption
    | with_reducible intro _
    | (with_reducible apply Touches.comp (State.beginReset_touches _ _ _ _); rotate_left; decide)
    | (with_reducible apply Touches.comp (State.setPhase_touches _ _); rotate_left; decide)
    | with_reducible apply Touches.ite
    | split
    | dsimp only

theorem State.integStep_touches (s : State) (e : IntegEvent) :
    Touches [.doms, .tallies, .fences, .quarantine, .weft, .shuttle, .batten, .spindle, .keys, .loom, .log, .counters, .trace, .events, .bp, .link, .out] s (State.integStep s e) := by
  unfold State.integStep
  repeat' first
    | with_reducible apply Touches.refl
    | with_reducible assumption
    | with_reducible intro _
    | (with_reducible apply Touches.comp (State.bumpDom_touches _ _ _ _); rotate_left; decide)
    | (with_reducible apply Touches.comp (State.endSpent_touches _); rotate_left; decide)
    | (with_reducible apply Touches.comp (State.raiseInteg_touches _ _); rotate_left; decide)
    | (with_reducible apply Touches.comp (State.abort_touches _ _ _ _); rotate_left; decide)
    | (with_reducible apply Touches.comp (State.settle_touches _); rotate_left; decide)
    | (with_reducible apply Touches.comp (State.laneLog_touches _ _ _ _ _); rotate_left; decide)
    | with_reducible apply Touches.ite
    | split
    | dsimp only

theorem State.drainInteg_touches (s : State) :
    Touches [.doms, .tallies, .fences, .quarantine, .weft, .shuttle, .batten, .spindle, .keys, .loom, .log, .counters, .trace, .events, .bp, .link, .out] s (State.drainInteg s) := by
  unfold State.drainInteg
  repeat' first
    | with_reducible apply Touches.refl
    | with_reducible assumption
    | with_reducible intro _
    | (with_reducible apply Touches.comp (State.integStep_touches _ _); rotate_left; decide)
    | with_reducible apply Touches.foldl
    | with_reducible apply Touches.ite
    | split
    | ((with_reducible apply Touches.set_weft); rotate_left; decide)
    | dsimp only

theorem execDomainIntegrityEvent_touches (s : State) :
    OutTouches [.doms, .tallies, .fences, .quarantine, .weft, .shuttle, .batten, .spindle, .keys, .loom, .log, .counters, .trace, .events, .bp, .link, .out] s (execDomainIntegrityEvent s) := by
  unfold execDomainIntegrityEvent
  repeat' first
    | with_reducible apply Touches.refl
    | with_reducible assumption
    | with_reducible intro _
    | with_reducible apply OutTouches.next
    | with_reducible apply OutTouches.nextIf
    | (with_reducible apply Touches.comp (State.integStep_touches _ _); rotate_left; decide)
    | with_reducible apply Touches.ite
    | with_reducible apply OutTouches.ite
    | split
    | ((with_reducible apply Touches.set_weft); rotate_left; decide)
    | dsimp only

theorem State.laneRecord_touches (s : State) (n : Nat) (type : Nat) :
    Touches [.log, .counters, .trace, .events] s (State.laneRecord s n type) := by
  unfold State.laneRecord
  repeat' first
    | with_reducible apply Touches.refl
    | with_reducible assumption
    | with_reducible intro _
    | (with_reducible apply Touches.comp (State.record_touches _ _ _); rotate_left; decide)
    | (with_reducible apply Touches.comp (State.raise_touches _ _); rotate_left; decide)
    | with_reducible apply Touches.ite
    | split
    | dsimp only

theorem State.abortAll_touches (s : State) (ls : List Nat) :
    Touches [.doms, .tallies, .fences, .quarantine, .weft, .shuttle, .batten, .spindle, .keys, .loom, .log, .counters, .trace, .events, .bp, .link, .out] s (State.abortAll s ls) := by
  unfold State.abortAll
  repeat' first
    | with_reducible apply Touches.refl
    | with_reducible assumption
    | with_reducible intro _
    | (with_reducible apply Touches.comp (State.endSpent_touches _); rotate_left; decide)
    | (with_reducible apply Touches.comp (State.abort_touches _ _ _ _); rotate_left; decide)
    | with_reducible apply Touches.foldl
    | with_reducible apply Touches.ite
    | split
    | dsimp only

theorem State.bindLost_touches (s : State) (r : LineReq) (status : Nat) :
    Touches [.fences] s (State.bindLost s r status) := by
  unfold State.bindLost
  repeat' first
    | with_reducible apply Touches.refl
    | with_reducible assumption
    | with_reducible intro _
    | (with_reducible apply Touches.comp (State.post_touches _ _ _ _ _); rotate_left; decide)
    | (with_reducible apply Touches.comp (State.bindLine_touches _ _ _); rotate_left; decide)
    | with_reducible apply Touches.ite
    | split
    | dsimp only

theorem State.killLane_touches (s : State) (n : Nat) :
    Touches [.doms, .tallies, .fences, .quarantine, .weft, .shuttle, .batten, .spindle, .keys, .loom, .log, .counters, .trace, .events, .bp, .link, .out] s (State.killLane s n) := by
  unfold State.killLane
  repeat' first
    | with_reducible apply Touches.refl
    | with_reducible assumption
    | with_reducible intro _
    | (with_reducible apply Touches.comp (State.setLane_touches _ _ _); rotate_left; decide)
    | (with_reducible apply Touches.comp (State.laneRecord_touches _ _ _); rotate_left; decide)
    | (with_reducible apply Touches.comp (State.abortAll_touches _ _); rotate_left; decide)
    | (with_reducible apply Touches.comp (State.settle_touches _); rotate_left; decide)
    | (with_reducible apply Touches.comp (State.refuseLine_touches _ _ _ _); rotate_left; decide)
    | (with_reducible apply Touches.comp (State.emit_touches _ _); rotate_left; decide)
    | (with_reducible apply Touches.comp (State.bindLost_touches _ _ _); rotate_left; decide)
    | with_reducible apply Touches.foldl
    | with_reducible apply Touches.ite
    | split
    | dsimp only

theorem State.checkAgain_touches (s : State) (n : Nat) (g : ReadGroup) :
    Touches [.tallies, .fences, .weft, .log, .counters, .trace, .out] s (State.checkAgain s n g) := by
  unfold State.checkAgain
  repeat' first
    | with_reducible apply Touches.refl
    | with_reducible assumption
    | with_reducible intro _
    | (with_reducible apply Touches.comp (State.payOwed_touches _ _ _); rotate_left; decide)
    | (with_reducible apply Touches.comp (State.setLane_touches _ _ _); rotate_left; decide)
    | (with_reducible apply Touches.comp (State.refuseLine_touches _ _ _ _); rotate_left; decide)
    | with_reducible apply Touches.ite
    | split
    | dsimp only

theorem State.reissue_touches (s : State) (n : Nat) :
    Touches [.weft, .counters, .out] s (State.reissue s n) := by
  unfold State.reissue
  repeat' first
    | with_reducible apply Touches.refl
    | with_reducible assumption
    | with_reducible intro _
    | (with_reducible apply Touches.comp (OptTouches.get (State.closeGroup_touches _ _) (by assumption)); rotate_left; decide)
    | (with_reducible apply OptTouches.comp (State.closeGroup_touches _ _); rotate_left; decide)
    | with_reducible apply Touches.foldl
    | with_reducible apply OptTouches.getD
    | with_reducible apply Touches.ite
    | split
    | dsimp only

theorem State.spareLane_touches (s : State) (n : Nat) (k : Nat) :
    Touches [.tallies, .fences, .arrs, .weft, .loom, .log, .counters, .trace, .events, .out] s (State.spareLane s n k) := by
  unfold State.spareLane
  repeat' first
    | with_reducible apply Touches.refl
    | with_reducible assumption
    | with_reducible intro _
    | (with_reducible apply Touches.comp (State.bump_touches _ _ _); rotate_left; decide)
    | (with_reducible apply Touches.comp (State.commitIntent_touches _ _); rotate_left; decide)
    | (with_reducible apply Touches.comp (State.setLane_touches _ _ _); rotate_left; decide)
    | (with_reducible apply Touches.comp (State.goOn_touches _ _); rotate_left; decide)
    | (with_reducible apply Touches.comp (State.laneRecord_touches _ _ _); rotate_left; decide)
    | (with_reducible apply Touches.comp (State.checkAgain_touches _ _ _); rotate_left; decide)
    | (with_reducible apply Touches.comp (State.reissue_touches _ _); rotate_left; decide)
    | with_reducible apply Touches.foldl
    | with_reducible apply Touches.ite
    | split
    | ((with_reducible apply Touches.set_weft); rotate_left; decide)
    | dsimp only

theorem State.failLane_touches (s : State) (n : Nat) :
    Touches [.doms, .tallies, .fences, .quarantine, .weft, .shuttle, .batten, .spindle, .keys, .loom, .log, .counters, .trace, .events, .bp, .link, .out] s (State.failLane s n) := by
  unfold State.failLane
  repeat' first
    | with_reducible apply Touches.refl
    | with_reducible assumption
    | with_reducible intro _
    | (with_reducible apply Touches.comp (State.setLane_touches _ _ _); rotate_left; decide)
    | (with_reducible apply Touches.comp (State.killLane_touches _ _); rotate_left; decide)
    | (with_reducible apply Touches.comp (State.failureEndsHalt_touches _); rotate_left; decide)
    | (with_reducible apply Touches.comp (State.openIntent_touches _ _); rotate_left; decide)
    | with_reducible apply Touches.ite
    | split
    | dsimp only

theorem execLaneFailed_touches (lane : Nat) (s : State) :
    OutTouches [.doms, .tallies, .fences, .quarantine, .weft, .shuttle, .batten, .spindle, .keys, .loom, .log, .counters, .trace, .events, .bp, .link, .out] s (execLaneFailed lane s) := by
  unfold execLaneFailed
  repeat' first
    | with_reducible apply Touches.refl
    | with_reducible assumption
    | with_reducible intro _
    | with_reducible apply OutTouches.next
    | with_reducible apply OutTouches.nextIf
    | (with_reducible apply Touches.comp (State.failLane_touches _ _); rotate_left; decide)
    | with_reducible apply Touches.ite
    | with_reducible apply OutTouches.ite
    | split
    | dsimp only

theorem execMpFlushAck_touches (lane : Nat) (bad : List Nat) (s : State) :
    OutTouches [.doms, .tallies, .fences, .arrs, .quarantine, .weft, .shuttle, .batten, .spindle, .keys, .loom, .log, .counters, .trace, .events, .bp, .link, .out] s (execMpFlushAck lane bad s) := by
  unfold execMpFlushAck
  repeat' first
    | with_reducible apply Touches.refl
    | with_reducible assumption
    | with_reducible intro _
    | with_reducible apply OutTouches.next
    | with_reducible apply OutTouches.nextIf
    | (with_reducible apply Touches.comp (State.spareLane_touches _ _ _); rotate_left; decide)
    | (with_reducible apply Touches.comp (State.commitIntent_touches _ _); rotate_left; decide)
    | (with_reducible apply Touches.comp (State.killLane_touches _ _); rotate_left; decide)
    | (with_reducible apply Touches.comp (State.entryFails_touches _ _ _); rotate_left; decide)
    | with_reducible apply Touches.foldl
    | with_reducible apply Touches.ite
    | with_reducible apply OutTouches.ite
    | split
    | dsimp only

theorem State.engineRecord_touches (s : State) (n : Nat) (type : Nat) :
    Touches [.log, .counters, .trace, .events] s (State.engineRecord s n type) := by
  unfold State.engineRecord
  repeat' first
    | with_reducible apply Touches.refl
    | with_reducible assumption
    | with_reducible intro _
    | (with_reducible apply Touches.comp (State.record_touches _ _ _); rotate_left; decide)
    | (with_reducible apply Touches.comp (State.raise_touches _ _); rotate_left; decide)
    | with_reducible apply Touches.ite
    | split
    | dsimp only

theorem State.moveHome_touches (s : State) (n : Nat) (win : Window → Window) (ctr : Nat → Nat) :
    Touches [.shuttle] s (State.moveHome s n win ctr) := by
  unfold State.moveHome
  repeat' first
    | with_reducible apply Touches.refl
    | with_reducible assumption
    | with_reducible intro _
    | with_reducible apply Touches.ite
    | split
    | ((with_reducible apply Touches.set_shuttle); rotate_left; decide)
    | dsimp only

theorem State.rebuildHome_touches (s : State) (n : Nat) :
    Touches [.shuttle] s (State.rebuildHome s n) := by
  unfold State.rebuildHome
  repeat' first
    | with_reducible apply Touches.refl
    | with_reducible assumption
    | with_reducible intro _
    | (with_reducible apply Touches.comp (State.moveHome_touches _ _ _ _); rotate_left; decide)
    | with_reducible apply Touches.ite
    | split
    | dsimp only

theorem State.failRx_touches (s : State) (p : RxPkt) :
    Touches [.fences] s (State.failRx s p) := by
  unfold State.failRx
  repeat' first
    | with_reducible apply Touches.refl
    | with_reducible assumption
    | with_reducible intro _
    | (with_reducible apply Touches.comp (State.post_touches _ _ _ _ _); rotate_left; decide)
    | with_reducible apply Touches.ite
    | split
    | dsimp only

theorem State.closePort_touches (s : State) (n : Nat) :
    Touches [.bp, .out] s (State.closePort s n) := by
  unfold State.closePort
  repeat' first
    | with_reducible apply Touches.refl
    | with_reducible assumption
    | with_reducible intro _
    | (with_reducible apply Touches.comp (State.publish_touches _ _); rotate_left; decide)
    | (with_reducible apply Touches.comp (Touches.of_eq (by assumption) (State.publish_touches _ _)); rotate_left; decide)
    | with_reducible apply Touches.ite
    | split
    | dsimp only

theorem State.killEngine_touches (s : State) (n : Nat) :
    Touches [.doms, .tallies, .fences, .quarantine, .weft, .shuttle, .batten, .spindle, .keys, .loom, .log, .counters, .trace, .events, .bp, .link, .out] s (State.killEngine s n) := by
  unfold State.killEngine
  repeat' first
    | with_reducible apply Touches.refl
    | with_reducible assumption
    | with_reducible intro _
    | (with_reducible apply Touches.comp (State.rebuildHome_touches _ _); rotate_left; decide)
    | (with_reducible apply Touches.comp (State.abortAll_touches _ _); rotate_left; decide)
    | (with_reducible apply Touches.comp (State.failRx_touches _ _); rotate_left; decide)
    | (with_reducible apply Touches.comp (State.setEngine_touches _ _ _); rotate_left; decide)
    | (with_reducible apply Touches.comp (State.dropRxq_touches _ _); rotate_left; decide)
    | (with_reducible apply Touches.comp (State.closePort_touches _ _); rotate_left; decide)
    | (with_reducible apply Touches.comp (State.engineRecord_touches _ _ _); rotate_left; decide)
    | with_reducible apply Touches.foldl
    | with_reducible apply Touches.ite
    | split
    | dsimp only

theorem State.spareEngine_touches (s : State) (n : Nat) (k : Nat) (unsent : Nat) :
    Touches [.shuttle, .loom, .log, .counters, .trace, .events, .out] s (State.spareEngine s n k unsent) := by
  unfold State.spareEngine
  repeat' first
    | with_reducible apply Touches.refl
    | with_reducible assumption
    | with_reducible intro _
    | (with_reducible apply Touches.comp (State.bump_touches _ _ _); rotate_left; decide)
    | (with_reducible apply Touches.comp (State.moveHome_touches _ _ _ _); rotate_left; decide)
    | (with_reducible apply Touches.comp (State.setEngine_touches _ _ _); rotate_left; decide)
    | (with_reducible apply Touches.comp (State.internalEntry_touches _); rotate_left; decide)
    | (with_reducible apply Touches.comp (State.engineRecord_touches _ _ _); rotate_left; decide)
    | (with_reducible apply Touches.comp (State.emitAll_touches _ _); rotate_left; decide)
    | with_reducible apply Touches.ite
    | split
    | ((with_reducible apply Touches.set_shuttle); rotate_left; decide)
    | dsimp only

theorem State.failEngine_touches (s : State) (n : Nat) (loss : EngineLoss) :
    Touches [.doms, .tallies, .fences, .quarantine, .weft, .shuttle, .batten, .spindle, .keys, .loom, .log, .counters, .trace, .events, .bp, .link, .out] s (State.failEngine s n loss) := by
  unfold State.failEngine
  repeat' first
    | with_reducible apply Touches.refl
    | with_reducible assumption
    | with_reducible intro _
    | (with_reducible apply Touches.comp (State.spareEngine_touches _ _ _ _); rotate_left; decide)
    | (with_reducible apply Touches.comp (State.bump_touches _ _ _); rotate_left; decide)
    | (with_reducible apply Touches.comp (State.failureEndsHalt_touches _); rotate_left; decide)
    | (with_reducible apply Touches.comp (State.killEngine_touches _ _); rotate_left; decide)
    | with_reducible apply Touches.ite
    | split
    | dsimp only

theorem execEngineFailed_touches (engine : Nat) (loss : EngineLoss) (s : State) :
    OutTouches [.doms, .tallies, .fences, .quarantine, .weft, .shuttle, .batten, .spindle, .keys, .loom, .log, .counters, .trace, .events, .bp, .link, .out] s (execEngineFailed engine loss s) := by
  unfold execEngineFailed
  repeat' first
    | with_reducible apply Touches.refl
    | with_reducible assumption
    | with_reducible intro _
    | with_reducible apply OutTouches.next
    | with_reducible apply OutTouches.nextIf
    | (with_reducible apply Touches.comp (State.failEngine_touches _ _ _); rotate_left; decide)
    | with_reducible apply Touches.ite
    | with_reducible apply OutTouches.ite
    | split
    | dsimp only

theorem State.unitRecord_touches (s : State) (u : Nat) (type : Nat) :
    Touches [.log, .counters, .trace, .events] s (State.unitRecord s u type) := by
  unfold State.unitRecord
  repeat' first
    | with_reducible apply Touches.refl
    | with_reducible assumption
    | with_reducible intro _
    | (with_reducible apply Touches.comp (State.record_touches _ _ _); rotate_left; decide)
    | (with_reducible apply Touches.comp (State.raise_touches _ _); rotate_left; decide)
    | with_reducible apply Touches.ite
    | split
    | dsimp only

theorem State.killUnit_touches (s : State) (u : Nat) :
    Touches [.doms, .tallies, .fences, .quarantine, .weft, .shuttle, .batten, .spindle, .keys, .loom, .log, .counters, .trace, .events, .bp, .link, .out] s (State.killUnit s u) := by
  unfold State.killUnit
  repeat' first
    | with_reducible apply Touches.refl
    | with_reducible assumption
    | with_reducible intro _
    | (with_reducible apply Touches.comp (State.abortAll_touches _ _); rotate_left; decide)
    | (with_reducible apply Touches.comp (State.failEntry_touches _ _ _); rotate_left; decide)
    | (with_reducible apply Touches.comp (State.settle_touches _); rotate_left; decide)
    | (with_reducible apply Touches.comp (State.failOwed_touches _ _ _); rotate_left; decide)
    | (with_reducible apply Touches.comp (State.setUnit_touches _ _ _); rotate_left; decide)
    | (with_reducible apply Touches.comp (State.unitRecord_touches _ _ _); rotate_left; decide)
    | (with_reducible apply Touches.comp (State.failWindow_touches _ _ _); rotate_left; decide)
    | with_reducible apply Touches.foldl
    | with_reducible apply Touches.ite
    | split
    | dsimp only

theorem State.dropFills_touches (s : State) (u : Nat) :
    Touches [.tallies, .fences, .arrs, .weft, .log, .counters, .trace, .out] s (State.dropFills s u) := by
  unfold State.dropFills
  repeat' first
    | with_reducible apply Touches.refl
    | with_reducible assumption
    | with_reducible intro _
    | (with_reducible apply Touches.comp (State.goOn_touches _ _); rotate_left; decide)
    | with_reducible apply Touches.foldl
    | with_reducible apply Touches.ite
    | split
    | ((with_reducible apply Touches.set_weft); rotate_left; decide)
    | dsimp only

theorem State.spareUnit_touches (s : State) (u : Nat) :
    Touches [.tallies, .fences, .arrs, .weft, .batten, .loom, .log, .counters, .trace, .events, .out] s (State.spareUnit s u) := by
  unfold State.spareUnit
  repeat' first
    | with_reducible apply Touches.refl
    | with_reducible assumption
    | with_reducible intro _
    | (with_reducible apply Touches.comp (State.bump_touches _ _ _); rotate_left; decide)
    | (with_reducible apply Touches.comp (State.bumpUnit_touches _ _ _ _); rotate_left; decide)
    | (with_reducible apply Touches.comp (State.setUnit_touches _ _ _); rotate_left; decide)
    | (with_reducible apply Touches.comp (State.internalEntry_touches _); rotate_left; decide)
    | (with_reducible apply Touches.comp (State.unitRecord_touches _ _ _); rotate_left; decide)
    | (with_reducible apply Touches.comp (State.dropFills_touches _ _); rotate_left; decide)
    | with_reducible apply Touches.ite
    | split
    | ((with_reducible apply Touches.set_batten); rotate_left; decide)
    | dsimp only

theorem State.failUnit_touches (s : State) (u : Nat) (lost : Bool) :
    Touches [.doms, .tallies, .fences, .arrs, .quarantine, .weft, .shuttle, .batten, .spindle, .keys, .loom, .log, .counters, .trace, .events, .bp, .link, .out] s (State.failUnit s u lost) := by
  unfold State.failUnit
  repeat' first
    | with_reducible apply Touches.refl
    | with_reducible assumption
    | with_reducible intro _
    | (with_reducible apply Touches.comp (State.bump_touches _ _ _); rotate_left; decide)
    | (with_reducible apply Touches.comp (State.spareUnit_touches _ _); rotate_left; decide)
    | (with_reducible apply Touches.comp (State.failureEndsHalt_touches _); rotate_left; decide)
    | (with_reducible apply Touches.comp (State.killUnit_touches _ _); rotate_left; decide)
    | with_reducible apply Touches.ite
    | split
    | dsimp only

theorem execUnitFailed_touches (unit : Nat) (lost : Bool) (s : State) :
    OutTouches [.doms, .tallies, .fences, .arrs, .quarantine, .weft, .shuttle, .batten, .spindle, .keys, .loom, .log, .counters, .trace, .events, .bp, .link, .out] s (execUnitFailed unit lost s) := by
  unfold execUnitFailed
  repeat' first
    | with_reducible apply Touches.refl
    | with_reducible assumption
    | with_reducible intro _
    | with_reducible apply OutTouches.next
    | with_reducible apply OutTouches.nextIf
    | (with_reducible apply Touches.comp (State.pump_touches _); rotate_left; decide)
    | (with_reducible apply Touches.comp (State.failUnit_touches _ _ _); rotate_left; decide)
    | with_reducible apply Touches.ite
    | with_reducible apply OutTouches.ite
    | split
    | dsimp only

theorem execCrossingFault_touches (inst : Nat) (toHost : Bool) (s : State) :
    OutTouches [.doms, .tallies, .fences, .arrs, .quarantine, .weft, .shuttle, .batten, .spindle, .keys, .loom, .log, .counters, .trace, .events, .bp, .power, .link, .free, .out] s (execCrossingFault inst toHost s) := by
  unfold execCrossingFault
  repeat' first
    | with_reducible apply Touches.refl
    | with_reducible assumption
    | with_reducible intro _
    | with_reducible apply OutTouches.next
    | with_reducible apply OutTouches.nextIf
    | (with_reducible apply Touches.comp (State.pump_touches _); rotate_left; decide)
    | (with_reducible apply Touches.comp (State.record_touches _ _ _); rotate_left; decide)
    | (with_reducible apply Touches.comp (State.failUnit_touches _ _ _); rotate_left; decide)
    | (with_reducible apply Touches.comp (State.failEngine_touches _ _ _); rotate_left; decide)
    | (with_reducible apply Touches.comp (State.failLane_touches _ _); rotate_left; decide)
    | with_reducible apply Touches.ite
    | with_reducible apply OutTouches.ite
    | split
    | ((with_reducible apply Touches.set_free); rotate_left; decide)
    | ((with_reducible apply Touches.set_power); rotate_left; decide)
    | dsimp only

theorem execErrorLogWrite_touches (s : State) :
    OutTouches [.tallies, .fences, .log, .counters, .trace, .events, .out] s (execErrorLogWrite s) := by
  unfold execErrorLogWrite
  repeat' first
    | with_reducible apply Touches.refl
    | with_reducible assumption
    | with_reducible intro _
    | with_reducible apply OutTouches.next
    | with_reducible apply OutTouches.nextIf
    | (with_reducible apply Touches.comp (State.logWrite_touches _); rotate_left; decide)
    | with_reducible apply Touches.ite
    | with_reducible apply OutTouches.ite
    | split
    | dsimp only

theorem State.markDump_touches (s : State) :
    Touches [.loom] s (State.markDump s) := by
  unfold State.markDump
  repeat' first
    | with_reducible apply Touches.refl
    | with_reducible assumption
    | with_reducible intro _
    | with_reducible apply Touches.ite
    | split
    | ((with_reducible apply Touches.set_loom); rotate_left; decide)
    | dsimp only

theorem State.expire_touches (s : State) (type : Nat) (cause : Nat) :
    Touches [.tallies, .fences, .loom, .log, .counters, .trace, .events, .power, .out] s (State.expire s type cause) := by
  unfold State.expire
  repeat' first
    | with_reducible apply Touches.refl
    | with_reducible assumption
    | with_reducible intro _
    | (with_reducible apply Touches.comp (State.requestReset_touches _ _ _); rotate_left; decide)
    | (with_reducible apply Touches.comp (State.recordNow_touches _ _ _); rotate_left; decide)
    | (with_reducible apply Touches.comp (State.markDump_touches _); rotate_left; decide)
    | with_reducible apply Touches.ite
    | split
    | ((with_reducible apply Touches.set_loom); rotate_left; decide)
    | dsimp only

theorem execWatchdogExpiry_touches (s : State) :
    OutTouches [.tallies, .fences, .time, .loom, .log, .counters, .trace, .events, .power, .out] s (execWatchdogExpiry s) := by
  unfold execWatchdogExpiry
  repeat' first
    | with_reducible apply Touches.refl
    | with_reducible assumption
    | with_reducible intro _
    | with_reducible apply OutTouches.next
    | with_reducible apply OutTouches.nextIf
    | (with_reducible apply Touches.comp (State.advanceTo_touches _ _); rotate_left; decide)
    | (with_reducible apply Touches.comp (State.expire_touches _ _ _); rotate_left; decide)
    | with_reducible apply OptTouches.getD
    | with_reducible apply Touches.ite
    | with_reducible apply OutTouches.ite
    | split
    | dsimp only

theorem execLockstepMismatch_touches (s : State) :
    OutTouches [.tallies, .fences, .loom, .log, .counters, .trace, .events, .power, .out] s (execLockstepMismatch s) := by
  unfold execLockstepMismatch
  repeat' first
    | with_reducible apply Touches.refl
    | with_reducible assumption
    | with_reducible intro _
    | with_reducible apply OutTouches.next
    | with_reducible apply OutTouches.nextIf
    | (with_reducible apply Touches.comp (State.expire_touches _ _ _); rotate_left; decide)
    | with_reducible apply Touches.ite
    | with_reducible apply OutTouches.ite
    | split
    | dsimp only

theorem State.escalate_touches (s : State) :
    Touches [.loom] s (State.escalate s) := by
  unfold State.escalate
  repeat' first
    | with_reducible apply Touches.refl
    | with_reducible assumption
    | with_reducible intro _
    | with_reducible apply OptTouches.getD
    | with_reducible apply Touches.ite
    | split
    | ((with_reducible apply Touches.set_loom); rotate_left; decide)
    | dsimp only

theorem State.dropWindow_touches (s : State) (word : Nat) :
    Touches [.shuttle] s (State.dropWindow s word) := by
  unfold State.dropWindow
  repeat' first
    | with_reducible apply Touches.refl
    | with_reducible assumption
    | with_reducible intro _
    | (with_reducible apply Touches.comp (State.evictWindow_touches _ _); rotate_left; decide)
    | with_reducible apply Touches.ite
    | split
    | dsimp only

theorem State.loseMeter_touches (s : State) (word : Nat) :
    Touches [.metering, .log, .counters, .trace] s (State.loseMeter s word) := by
  unfold State.loseMeter
  repeat' first
    | with_reducible apply Touches.refl
    | with_reducible assumption
    | with_reducible intro _
    | (with_reducible apply Touches.comp (State.record_touches _ _ _); rotate_left; decide)
    | with_reducible apply Touches.ite
    | split
    | ((with_reducible apply Touches.set_metering); rotate_left; decide)
    | dsimp only

theorem State.discardWord_touches (s : State) (word : Nat) :
    Touches [.doms, .tallies, .loom, .log, .counters, .trace] s (State.discardWord s word) := by
  unfold State.discardWord
  repeat' first
    | with_reducible apply Touches.refl
    | with_reducible assumption
    | with_reducible intro _
    | (with_reducible apply Touches.comp (State.setDom_touches _ _ _); rotate_left; decide)
    | with_reducible apply Touches.ite
    | split
    | ((with_reducible apply Touches.set_loom); rotate_left; decide)
    | ((with_reducible apply Touches.set_log); rotate_left; decide)
    | ((with_reducible apply Touches.set_counters); rotate_left; decide)
    | ((with_reducible apply Touches.set_trace); rotate_left; decide)
    | dsimp only

theorem State.storeError_touches (s : State) (store : Nat) (word : Nat) :
    Touches [.doms, .tallies, .fences, .quarantine, .weft, .shuttle, .batten, .spindle, .keys, .metering, .loom, .log, .counters, .trace, .events, .bp, .power, .boot, .link, .out] s (State.storeError s store word) := by
  unfold State.storeError
  repeat' first
    | with_reducible apply Touches.refl
    | with_reducible assumption
    | with_reducible intro _
    | (with_reducible apply Touches.comp (State.bump_touches _ _ _); rotate_left; decide)
    | (with_reducible apply Touches.comp (State.expire_touches _ _ _); rotate_left; decide)
    | (with_reducible apply Touches.comp (State.discardWord_touches _ _); rotate_left; decide)
    | (with_reducible apply Touches.comp (State.loseMeter_touches _ _); rotate_left; decide)
    | (with_reducible apply Touches.comp (State.escalate_touches _); rotate_left; decide)
    | (with_reducible apply Touches.comp (State.loseSa_touches _ _); rotate_left; decide)
    | (with_reducible apply Touches.comp (State.record_touches _ _ _); rotate_left; decide)
    | (with_reducible apply Touches.comp (State.dropWindow_touches _ _); rotate_left; decide)
    | with_reducible apply Touches.ite
    | split
    | ((with_reducible apply Touches.set_boot); rotate_left; decide)
    | dsimp only

theorem State.laneArrayRecord_touches (s : State) (n : Nat) (dli : Nat) :
    Touches [.log, .counters, .trace] s (State.laneArrayRecord s n dli) := by
  unfold State.laneArrayRecord
  repeat' first
    | with_reducible apply Touches.refl
    | with_reducible assumption
    | with_reducible intro _
    | (with_reducible apply Touches.comp (State.bump_touches _ _ _); rotate_left; decide)
    | (with_reducible apply Touches.comp (State.record_touches _ _ _); rotate_left; decide)
    | with_reducible apply Touches.ite
    | split
    | dsimp only

theorem State.badGotEntry_touches (s : State) (n : Nat) (g : Nat) :
    Touches [.weft, .log, .counters, .trace] s (State.badGotEntry s n g) := by
  unfold State.badGotEntry
  repeat' first
    | with_reducible apply Touches.refl
    | with_reducible assumption
    | with_reducible intro _
    | (with_reducible apply Touches.comp (State.setLane_touches _ _ _); rotate_left; decide)
    | (with_reducible apply Touches.comp (State.laneArrayRecord_touches _ _ _); rotate_left; decide)
    | with_reducible apply Touches.ite
    | split
    | dsimp only

theorem State.badTagField_touches (s : State) (n : Nat) (psel : Nat) (field : Nat) :
    Touches [.weft, .log, .counters, .trace, .out] s (State.badTagField s n psel field) := by
  unfold State.badTagField
  repeat' first
    | with_reducible apply Touches.refl
    | with_reducible assumption
    | with_reducible intro _
    | (with_reducible apply Touches.comp (State.setLane_touches _ _ _); rotate_left; decide)
    | (with_reducible apply Touches.comp (State.laneArrayRecord_touches _ _ _); rotate_left; decide)
    | (with_reducible apply Touches.comp (OptTouches.get (State.closeGroup_touches _ _) (by assumption)); rotate_left; decide)
    | (with_reducible apply OptTouches.comp (State.closeGroup_touches _ _); rotate_left; decide)
    | with_reducible apply OptTouches.getD
    | with_reducible apply Touches.ite
    | split
    | dsimp only

theorem State.arrayError_touches (s : State) (store : Nat) (word : Nat) :
    Touches [.weft, .log, .counters, .trace, .out] s (State.arrayError s store word) := by
  unfold State.arrayError
  repeat' first
    | with_reducible apply Touches.refl
    | with_reducible assumption
    | with_reducible intro _
    | (with_reducible apply Touches.comp (State.badGotEntry_touches _ _ _); rotate_left; decide)
    | (with_reducible apply Touches.comp (State.badTagField_touches _ _ _ _); rotate_left; decide)
    | with_reducible apply Touches.ite
    | split
    | dsimp only

theorem execStoreUe_touches (store : Nat) (word : Nat) (single : Bool) (s : State) :
    OutTouches [.doms, .tallies, .fences, .quarantine, .weft, .shuttle, .batten, .spindle, .keys, .metering, .loom, .log, .counters, .trace, .events, .bp, .power, .boot, .link, .out] s (execStoreUe store word single s) := by
  unfold execStoreUe
  repeat' first
    | with_reducible apply Touches.refl
    | with_reducible assumption
    | with_reducible intro _
    | with_reducible apply OutTouches.next
    | with_reducible apply OutTouches.nextIf
    | (with_reducible apply Touches.comp (State.bump_touches _ _ _); rotate_left; decide)
    | (with_reducible apply Touches.comp (State.arrayError_touches _ _ _); rotate_left; decide)
    | (with_reducible apply Touches.comp (State.storeError_touches _ _ _); rotate_left; decide)
    | with_reducible apply Touches.ite
    | with_reducible apply OutTouches.ite
    | split
    | dsimp only

end Sys2Proof.Machine
end

