-- ==== Sys2Proof/Laws/Touches/Lifecycle.lean ====
section
/-!
SUPPORT. What the operations of Machine/Lifecycle.lean touch, one law for each.
-/
namespace Sys2Proof.Machine

set_option linter.unusedTactic false
set_option linter.unreachableTactic false

theorem State.startIfDue_touches (s : State) :
    Touches [.keys, .entropy, .metering, .log, .counters, .trace, .boot] s (State.startIfDue s) := by
  unfold State.startIfDue
  repeat' first
    | with_reducible apply Touches.refl
    | with_reducible assumption
    | with_reducible exact Nat.le_refl _
    | with_reducible exact Nat.le_succ _
    | with_reducible intro _
    | (with_reducible apply Touches.comp (State.startFirmware_touches _ _ _); rotate_left; decide)
    | with_reducible apply Touches.ite
    | split
    | ((with_reducible apply Touches.set_boot); rotate_left; decide)
    | dsimp only

theorem execFuRsp_touches (_rdata : BitVec 32) (s : State) :
    OutTouches [.keys, .entropy, .metering, .log, .counters, .trace, .otp, .boot, .out] s (execFuRsp _rdata s) := by
  unfold execFuRsp
  repeat' first
    | with_reducible apply Touches.refl
    | with_reducible assumption
    | (exact BitVec.and_self)
    | (exact Otp.program_keeps _ _ _)
    | with_reducible exact Nat.le_refl _
    | with_reducible exact Nat.le_succ _
    | with_reducible intro _
    | with_reducible apply OutTouches.next
    | with_reducible apply OutTouches.nextIf
    | (with_reducible apply Touches.comp (State.startIfDue_touches _); rotate_left; decide)
    | (with_reducible apply Touches.comp (State.otpPump_touches _); rotate_left; decide)
    | with_reducible apply Touches.ite
    | with_reducible apply OutTouches.ite
    | split
    | ((with_reducible apply Touches.set_otp); rotate_left; decide)
    | dsimp only

theorem lcsQueryBody_touches (s : State) (a1 : Cmd) :
    ResTouches [] s (lcsQueryBody s a1) := by
  unfold lcsQueryBody
  repeat' first
    | with_reducible apply Touches.refl
    | with_reducible assumption
    | with_reducible intro _
    | with_reducible apply ResTouches.fail
    | with_reducible apply ResTouches.refuse
    | with_reducible apply ResTouches.ok
    | with_reducible apply ResTouches.done
    | with_reducible apply ResTouches.wait
    | (with_reducible apply ResTouches.comp (Res.ok_touches _ _ _); rotate_left; decide)
    | with_reducible apply Touches.ite
    | with_reducible apply ResTouches.ite
    | split
    | dsimp only

theorem lcsQuerySpec_touches (t : State) (c : Cmd) :
    ResTouches [] t (lcsQuerySpec.body t c) := by
  unfold lcsQuerySpec
  dsimp only
  repeat' first
    | with_reducible apply Touches.refl
    | with_reducible assumption
    | intro _
    | with_reducible apply ResTouches.fail
    | with_reducible apply ResTouches.refuse
    | with_reducible apply ResTouches.ok
    | with_reducible apply ResTouches.done
    | with_reducible apply ResTouches.wait
    | (with_reducible apply ResTouches.comp (lcsQueryBody_touches _ _); rotate_left; decide)
    | with_reducible apply Touches.ite
    | with_reducible apply ResTouches.ite
    | split
    | dsimp only

theorem execLcsQuery_touches (src : Src) (s : State) :
    OutTouches [.tallies, .fences, .shuttle, .spdm, .loom, .log, .counters, .trace, .mailbox, .out] s (execLcsQuery src s) := by
  unfold execLcsQuery
  repeat' first
    | with_reducible apply Touches.refl
    | with_reducible assumption
    | with_reducible intro _
    | with_reducible apply OutTouches.next
    | with_reducible apply OutTouches.nextIf
    | (with_reducible apply State.runSrc_touches; rotate_left; decide)
    | ((with_reducible show Touches _ _ (CmdSpec.after _ _ _)); exact Touches.refl _ _)
    | (with_reducible apply ResTouches.mono (lcsQuerySpec_touches _ _); decide)
    | with_reducible apply Touches.ite
    | with_reducible apply OutTouches.ite
    | split
    | dsimp only

theorem State.lcsPayload_touches (s : State) (dest : Nat) (auth : Bytes) :
    Touches [.entropy] s (State.lcsPayload s dest auth).2 := by
  unfold State.lcsPayload
  repeat' first
    | with_reducible apply Touches.refl
    | with_reducible assumption
    | with_reducible exact Nat.le_refl _
    | with_reducible exact Nat.le_succ _
    | with_reducible intro _
    | (with_reducible apply Touches.comp (State.reseed_touches _); rotate_left; decide)
    | (with_reducible apply Touches.comp (State.draw_touches _); rotate_left; decide)
    | (with_reducible apply Touches.comp (Touches.of_eq (by assumption) (State.draw_touches _)); rotate_left; decide)
    | with_reducible apply OptTouches.getD
    | with_reducible apply Touches.ite
    | split
    | dsimp only

theorem State.abortEvery_touches (s : State) :
    Touches [.doms, .tallies, .fences, .weft, .shuttle, .batten, .spindle, .keys, .loom, .log, .counters, .trace, .events, .bp, .link, .out] s (State.abortEvery s) := by
  unfold State.abortEvery
  repeat' first
    | with_reducible apply Touches.refl
    | with_reducible assumption
    | with_reducible intro _
    | (with_reducible apply Touches.comp (State.abort_touches _ _ _ _); rotate_left; decide)
    | with_reducible apply Touches.foldl
    | with_reducible apply Touches.ite
    | split
    | dsimp only

theorem State.beginTransition_touches (s : State) (dest : Nat) (slot : Nat) (pay : List OtpWrite) :
    Touches [.doms, .tallies, .fences, .weft, .shuttle, .batten, .spindle, .keys, .loom, .log, .counters, .trace, .events, .bp, .otp, .link, .out] s (State.beginTransition s dest slot pay) := by
  unfold State.beginTransition
  repeat' first
    | with_reducible apply Touches.refl
    | with_reducible assumption
    | (exact BitVec.and_self)
    | (exact Otp.program_keeps _ _ _)
    | with_reducible intro _
    | (with_reducible apply Touches.comp (State.otpJob_touches _ _); rotate_left; decide)
    | (with_reducible apply Touches.comp (State.abortEvery_touches _); rotate_left; decide)
    | with_reducible apply Touches.ite
    | split
    | dsimp only

theorem transitionBody_touches (s : State) (c : Cmd) :
    ResTouches [.doms, .tallies, .fences, .weft, .shuttle, .batten, .spindle, .keys, .entropy, .loom, .log, .counters, .trace, .events, .bp, .otp, .link, .out] s (transitionBody s c) := by
  unfold transitionBody
  repeat' first
    | with_reducible apply Touches.refl
    | with_reducible assumption
    | (exact BitVec.and_self)
    | (exact Otp.program_keeps _ _ _)
    | with_reducible exact Nat.le_refl _
    | with_reducible exact Nat.le_succ _
    | with_reducible intro _
    | with_reducible apply ResTouches.fail
    | with_reducible apply ResTouches.refuse
    | with_reducible apply ResTouches.ok
    | with_reducible apply ResTouches.done
    | with_reducible apply ResTouches.wait
    | (with_reducible apply Touches.comp (State.lcsPayload_touches _ _ _); rotate_left; decide)
    | (with_reducible apply Touches.comp (Touches.of_eq (by assumption) (State.lcsPayload_touches _ _ _)); rotate_left; decide)
    | (with_reducible apply Touches.comp (State.beginTransition_touches _ _ _ _); rotate_left; decide)
    | with_reducible apply OptTouches.getD
    | with_reducible apply Touches.ite
    | with_reducible apply ResTouches.ite
    | split
    | dsimp only

theorem lcsTransitionSpec_touches (t : State) (c : Cmd) :
    ResTouches [.doms, .tallies, .fences, .quarantine, .weft, .shuttle, .batten, .spindle, .keys, .entropy, .loom, .log, .counters, .trace, .events, .bp, .otp, .link, .out] t (lcsTransitionSpec.body t c) := by
  unfold lcsTransitionSpec
  dsimp only
  repeat' first
    | with_reducible apply Touches.refl
    | with_reducible assumption
    | exact BitVec.and_self
    | intro _
    | with_reducible apply ResTouches.fail
    | with_reducible apply ResTouches.refuse
    | with_reducible apply ResTouches.ok
    | with_reducible apply ResTouches.done
    | with_reducible apply ResTouches.wait
    | (with_reducible apply ResTouches.comp (transitionBody_touches _ _); rotate_left; decide)
    | (with_reducible apply Touches.comp (endSpentAfter_touches _ _); rotate_left; decide)
    | with_reducible apply Touches.ite
    | with_reducible apply ResTouches.ite
    | split
    | dsimp only

theorem State.runRaw_touches (s : State) (src : Src) :
    Touches [.doms, .tallies, .fences, .quarantine, .weft, .shuttle, .batten, .spindle, .keys, .entropy, .spdm, .loom, .log, .counters, .trace, .events, .bp, .mailbox, .otp, .link, .out] s (State.runRaw s src) := by
  unfold State.runRaw
  repeat' first
    | with_reducible apply Touches.refl
    | with_reducible assumption
    | (exact BitVec.and_self)
    | (exact Otp.program_keeps _ _ _)
    | with_reducible exact Nat.le_refl _
    | with_reducible exact Nat.le_succ _
    | with_reducible intro _
    | (with_reducible apply State.runCommand_touches; rotate_left; decide)
    | (with_reducible apply Touches.comp (State.fetched_touches _ _); rotate_left; decide)
    | (with_reducible apply State.runSrc_touches; rotate_left; decide)
    | ((with_reducible show Touches _ _ (CmdSpec.after _ _ _)); exact (State.endSpent_touches _).mono (by decide))
    | (with_reducible apply ResTouches.mono (lcsTransitionSpec_touches _ _); decide)
    | with_reducible apply Touches.ite
    | split
    | dsimp only

theorem execLcsTransition_touches (src : Src) (s : State) :
    OutTouches [.doms, .tallies, .fences, .quarantine, .weft, .shuttle, .batten, .spindle, .keys, .entropy, .spdm, .loom, .log, .counters, .trace, .events, .bp, .mailbox, .otp, .link, .out] s (execLcsTransition src s) := by
  unfold execLcsTransition
  repeat' first
    | with_reducible apply Touches.refl
    | with_reducible assumption
    | (exact BitVec.and_self)
    | (exact Otp.program_keeps _ _ _)
    | with_reducible exact Nat.le_refl _
    | with_reducible exact Nat.le_succ _
    | with_reducible intro _
    | with_reducible apply OutTouches.next
    | with_reducible apply OutTouches.nextIf
    | (with_reducible apply Touches.comp (State.runRaw_touches _ _); rotate_left; decide)
    | (with_reducible apply State.runSrc_touches; rotate_left; decide)
    | ((with_reducible show Touches _ _ (CmdSpec.after _ _ _)); exact (State.endSpent_touches _).mono (by decide))
    | (with_reducible apply ResTouches.mono (lcsTransitionSpec_touches _ _); decide)
    | with_reducible apply Touches.ite
    | with_reducible apply OutTouches.ite
    | split
    | dsimp only

theorem State.endTransition_touches (s : State) (e : JEntry) (dest : Nat) (result : Bytes) :
    Touches [.doms, .tallies, .fences, .weft, .shuttle, .batten, .keys, .spdm, .loom, .log, .counters, .trace, .events, .bp, .mailbox, .otp, .dbg, .out] s (State.endTransition s e dest result) := by
  unfold State.endTransition
  repeat' first
    | with_reducible apply Touches.refl
    | with_reducible assumption
    | (exact BitVec.and_self)
    | (exact Otp.program_keeps _ _ _)
    | with_reducible intro _
    | (with_reducible apply Touches.comp (State.otpJob_touches _ _); rotate_left; decide)
    | (with_reducible apply Touches.comp (State.endRights_touches _); rotate_left; decide)
    | (with_reducible apply Touches.comp (State.commit_touches _ _ _); rotate_left; decide)
    | with_reducible apply Touches.ite
    | split
    | ((with_reducible apply Touches.set_otp); rotate_left; decide)
    | dsimp only

theorem execLcsTransitionResetTimer_touches (s : State) :
    OutTouches [.time, .loom, .otp, .power] s (execLcsTransitionResetTimer s) := by
  unfold execLcsTransitionResetTimer
  repeat' first
    | with_reducible apply Touches.refl
    | with_reducible assumption
    | (exact BitVec.and_self)
    | (exact Otp.program_keeps _ _ _)
    | with_reducible intro _
    | with_reducible apply OutTouches.next
    | with_reducible apply OutTouches.nextIf
    | (with_reducible apply Touches.comp (State.advanceTo_touches _ _); rotate_left; decide)
    | (with_reducible apply Touches.comp (State.requestReset_touches _ _ _); rotate_left; decide)
    | with_reducible apply Touches.ite
    | with_reducible apply OutTouches.ite
    | split
    | ((with_reducible apply Touches.set_otp); rotate_left; decide)
    | dsimp only

theorem unlockBody_touches (s : State) (c : Cmd) :
    ResTouches [.doms, .tallies, .fences, .weft, .shuttle, .batten, .spindle, .keys, .loom, .log, .counters, .trace, .events, .bp, .otp, .link, .out] s (unlockBody s c) := by
  unfold unlockBody
  repeat' first
    | with_reducible apply Touches.refl
    | with_reducible assumption
    | (exact BitVec.and_self)
    | (exact Otp.program_keeps _ _ _)
    | with_reducible intro _
    | with_reducible apply ResTouches.fail
    | with_reducible apply ResTouches.refuse
    | with_reducible apply ResTouches.ok
    | with_reducible apply ResTouches.done
    | with_reducible apply ResTouches.wait
    | (with_reducible apply Touches.comp (State.beginTransition_touches _ _ _ _); rotate_left; decide)
    | with_reducible apply Touches.ite
    | with_reducible apply ResTouches.ite
    | split
    | ((with_reducible apply Touches.set_otp); rotate_left; decide)
    | dsimp only

theorem lcsTokenUnlockSpec_touches (t : State) (c : Cmd) :
    ResTouches [.doms, .tallies, .fences, .quarantine, .weft, .shuttle, .batten, .spindle, .keys, .loom, .log, .counters, .trace, .events, .bp, .otp, .link, .out] t (lcsTokenUnlockSpec.body t c) := by
  unfold lcsTokenUnlockSpec
  dsimp only
  repeat' first
    | with_reducible apply Touches.refl
    | with_reducible assumption
    | exact BitVec.and_self
    | intro _
    | with_reducible apply ResTouches.fail
    | with_reducible apply ResTouches.refuse
    | with_reducible apply ResTouches.ok
    | with_reducible apply ResTouches.done
    | with_reducible apply ResTouches.wait
    | (with_reducible apply ResTouches.comp (unlockBody_touches _ _); rotate_left; decide)
    | (with_reducible apply Touches.comp (endSpentAfter_touches _ _); rotate_left; decide)
    | with_reducible apply Touches.ite
    | with_reducible apply ResTouches.ite
    | split
    | dsimp only

theorem execLcsTokenUnlock_touches (src : Src) (s : State) :
    OutTouches [.doms, .tallies, .fences, .quarantine, .weft, .shuttle, .batten, .spindle, .keys, .spdm, .loom, .log, .counters, .trace, .events, .bp, .mailbox, .otp, .link, .out] s (execLcsTokenUnlock src s) := by
  unfold execLcsTokenUnlock
  repeat' first
    | with_reducible apply Touches.refl
    | with_reducible assumption
    | (exact BitVec.and_self)
    | (exact Otp.program_keeps _ _ _)
    | with_reducible intro _
    | with_reducible apply OutTouches.next
    | with_reducible apply OutTouches.nextIf
    | (with_reducible apply State.runSrc_touches; rotate_left; decide)
    | ((with_reducible show Touches _ _ (CmdSpec.after _ _ _)); exact (State.endSpent_touches _).mono (by decide))
    | (with_reducible apply ResTouches.mono (lcsTokenUnlockSpec_touches _ _); decide)
    | with_reducible apply Touches.ite
    | with_reducible apply OutTouches.ite
    | split
    | dsimp only

theorem State.loseEverySa_touches (s : State) :
    Touches [.doms, .tallies, .fences, .quarantine, .weft, .shuttle, .batten, .spindle, .keys, .loom, .log, .counters, .trace, .events, .bp, .link, .out] s (State.loseEverySa s) := by
  unfold State.loseEverySa
  repeat' first
    | with_reducible apply Touches.refl
    | with_reducible assumption
    | with_reducible intro _
    | (with_reducible apply Touches.comp (State.loseSa_touches _ _); rotate_left; decide)
    | with_reducible apply Touches.foldl
    | with_reducible apply Touches.ite
    | split
    | dsimp only

theorem zeroizeBody_touches (s : State) (c : Cmd) :
    ResTouches [.doms, .tallies, .fences, .quarantine, .weft, .shuttle, .batten, .spindle, .keys, .entropy, .loom, .log, .counters, .trace, .events, .bp, .otp, .link, .out] s (zeroizeBody s c) := by
  unfold zeroizeBody
  repeat' first
    | with_reducible apply Touches.refl
    | with_reducible assumption
    | (exact BitVec.and_self)
    | (exact Otp.program_keeps _ _ _)
    | with_reducible exact Nat.le_refl _
    | with_reducible exact Nat.le_succ _
    | with_reducible intro _
    | with_reducible apply ResTouches.fail
    | with_reducible apply ResTouches.refuse
    | with_reducible apply ResTouches.ok
    | with_reducible apply ResTouches.done
    | with_reducible apply ResTouches.wait
    | (with_reducible apply Touches.comp (State.abortEvery_touches _); rotate_left; decide)
    | (with_reducible apply Touches.comp (State.loseEverySa_touches _); rotate_left; decide)
    | (with_reducible apply Touches.comp (State.zeroizeKeys_touches _); rotate_left; decide)
    | with_reducible apply Touches.ite
    | with_reducible apply ResTouches.ite
    | split
    | ((with_reducible apply Touches.set_entropy_otp); rotate_left; decide; decide)
    | dsimp only

theorem lcsZeroizeSpec_touches (t : State) (c : Cmd) :
    ResTouches [.doms, .tallies, .fences, .quarantine, .weft, .shuttle, .batten, .spindle, .keys, .entropy, .loom, .log, .counters, .trace, .events, .bp, .otp, .link, .out] t (lcsZeroizeSpec.body t c) := by
  unfold lcsZeroizeSpec
  dsimp only
  repeat' first
    | with_reducible apply Touches.refl
    | with_reducible assumption
    | exact BitVec.and_self
    | intro _
    | with_reducible apply ResTouches.fail
    | with_reducible apply ResTouches.refuse
    | with_reducible apply ResTouches.ok
    | with_reducible apply ResTouches.done
    | with_reducible apply ResTouches.wait
    | (with_reducible apply ResTouches.comp (zeroizeBody_touches _ _); rotate_left; decide)
    | (with_reducible apply Touches.comp (endSpentAfter_touches _ _); rotate_left; decide)
    | with_reducible apply Touches.ite
    | with_reducible apply ResTouches.ite
    | split
    | dsimp only

theorem execLcsZeroize_touches (src : Src) (s : State) :
    OutTouches [.doms, .tallies, .fences, .quarantine, .weft, .shuttle, .batten, .spindle, .keys, .entropy, .spdm, .loom, .log, .counters, .trace, .events, .bp, .mailbox, .otp, .link, .out] s (execLcsZeroize src s) := by
  unfold execLcsZeroize
  repeat' first
    | with_reducible apply Touches.refl
    | with_reducible assumption
    | (exact BitVec.and_self)
    | (exact Otp.program_keeps _ _ _)
    | with_reducible exact Nat.le_refl _
    | with_reducible exact Nat.le_succ _
    | with_reducible intro _
    | with_reducible apply OutTouches.next
    | with_reducible apply OutTouches.nextIf
    | (with_reducible apply State.runSrc_touches; rotate_left; decide)
    | ((with_reducible show Touches _ _ (CmdSpec.after _ _ _)); exact (State.endSpent_touches _).mono (by decide))
    | (with_reducible apply ResTouches.mono (lcsZeroizeSpec_touches _ _); decide)
    | with_reducible apply Touches.ite
    | with_reducible apply OutTouches.ite
    | split
    | dsimp only

end Sys2Proof.Machine
end

