-- ==== Sys2Proof/Laws/Touches/Registers.lean ====
section
/-!
SUPPORT. What the operations of Machine/Registers.lean touch, one law for each.
-/
namespace Sys2Proof.Machine

set_option linter.unusedTactic false
set_option linter.unreachableTactic false

theorem State.answerOn_touches (s : State) (p : RegPath) (v : BitVec 64) :
    Touches [.out] s (State.answerOn s p v) := by
  unfold State.answerOn
  repeat' first
    | with_reducible apply Touches.refl
    | with_reducible assumption
    | with_reducible intro _
    | (with_reducible apply Touches.comp (State.emit_touches _ _); rotate_left; decide)
    | with_reducible apply Touches.ite
    | split
    | dsimp only

theorem State.answered_touches (s : State) (w : RegWrite) :
    Touches [.out] s (State.answered s w) := by
  unfold State.answered
  repeat' first
    | with_reducible apply Touches.refl
    | with_reducible assumption
    | with_reducible intro _
    | (with_reducible apply Touches.comp (State.answerOn_touches _ _ _); rotate_left; decide)
    | with_reducible apply Touches.ite
    | split
    | dsimp only

theorem State.countRefused_touches (s : State) :
    Touches [.counters] s (State.countRefused s) := by
  unfold State.countRefused
  repeat' first
    | with_reducible apply Touches.refl
    | with_reducible assumption
    | with_reducible intro _
    | with_reducible apply Touches.ite
    | split
    | ((with_reducible apply Touches.set_counters); rotate_left; decide)
    | dsimp only

theorem State.tailWrite_touches (s : State) (w : RegWrite) (i : Nat) :
    Touches [.tallies, .fences, .shuttle, .spdm, .loom, .log, .counters, .trace, .mailbox, .out] s (State.tailWrite s w i) := by
  unfold State.tailWrite
  repeat' first
    | with_reducible apply Touches.refl
    | with_reducible assumption
    | with_reducible intro _
    | (with_reducible apply Touches.comp (State.countRefused_touches _); rotate_left; decide)
    | (with_reducible apply Touches.comp (State.setRing_touches _ _ _); rotate_left; decide)
    | (with_reducible apply Touches.comp (State.applyTail_touches _ _ _); rotate_left; decide)
    | (with_reducible apply Touches.comp (State.drainTurns_touches _); rotate_left; decide)
    | with_reducible apply Touches.ite
    | split
    | dsimp only

theorem execRingTailWrite_touches (w : RegWrite) (s : State) :
    OutTouches [.tallies, .fences, .shuttle, .spdm, .loom, .log, .counters, .trace, .mailbox, .out] s (execRingTailWrite w s) := by
  unfold execRingTailWrite
  repeat' first
    | with_reducible apply Touches.refl
    | with_reducible assumption
    | with_reducible intro _
    | with_reducible apply OutTouches.next
    | with_reducible apply OutTouches.nextIf
    | (with_reducible apply Touches.comp (State.tailWrite_touches _ _ _); rotate_left; decide)
    | (with_reducible apply Touches.comp (State.answered_touches _ _); rotate_left; decide)
    | with_reducible apply Touches.ite
    | with_reducible apply OutTouches.ite
    | split
    | dsimp only

theorem State.evtWrite_touches (s : State) (w : RegWrite) (i : Nat) :
    Touches [.loom, .counters] s (State.evtWrite s w i) := by
  unfold State.evtWrite
  repeat' first
    | with_reducible apply Touches.refl
    | with_reducible assumption
    | with_reducible intro _
    | (with_reducible apply Touches.comp (State.countRefused_touches _); rotate_left; decide)
    | (with_reducible apply Touches.comp (State.setRing_touches _ _ _); rotate_left; decide)
    | with_reducible apply Touches.ite
    | split
    | dsimp only

theorem execRingEvtClear_touches (w : RegWrite) (s : State) :
    OutTouches [.loom, .counters, .out] s (execRingEvtClear w s) := by
  unfold execRingEvtClear
  repeat' first
    | with_reducible apply Touches.refl
    | with_reducible assumption
    | with_reducible intro _
    | with_reducible apply OutTouches.next
    | with_reducible apply OutTouches.nextIf
    | (with_reducible apply Touches.comp (State.answered_touches _ _); rotate_left; decide)
    | (with_reducible apply Touches.comp (State.evtWrite_touches _ _ _); rotate_left; decide)
    | with_reducible apply Touches.ite
    | with_reducible apply OutTouches.ite
    | split
    | dsimp only

theorem State.evStatusWrite_touches (s : State) (w : RegWrite) :
    Touches [.events] s (State.evStatusWrite s w) := by
  unfold State.evStatusWrite
  repeat' first
    | with_reducible apply Touches.refl
    | with_reducible assumption
    | with_reducible intro _
    | with_reducible apply Touches.ite
    | split
    | ((with_reducible apply Touches.set_events); rotate_left; decide)
    | dsimp only

theorem execEvStatusClear_touches (w : RegWrite) (s : State) :
    OutTouches [.events, .out] s (execEvStatusClear w s) := by
  unfold execEvStatusClear
  repeat' first
    | with_reducible apply Touches.refl
    | with_reducible assumption
    | with_reducible intro _
    | with_reducible apply OutTouches.next
    | with_reducible apply OutTouches.nextIf
    | (with_reducible apply Touches.comp (State.evStatusWrite_touches _ _); rotate_left; decide)
    | (with_reducible apply Touches.comp (State.answered_touches _ _); rotate_left; decide)
    | with_reducible apply Touches.ite
    | with_reducible apply OutTouches.ite
    | split
    | dsimp only

theorem State.evMapWrite_touches (s : State) (w : RegWrite) (abort : Bool) (k : Nat) :
    Touches [.events] s (State.evMapWrite s w abort k) := by
  unfold State.evMapWrite
  repeat' first
    | with_reducible apply Touches.refl
    | with_reducible assumption
    | with_reducible intro _
    | with_reducible apply Touches.ite
    | split
    | ((with_reducible apply Touches.set_events); rotate_left; decide)
    | dsimp only

theorem execEvMapClear_touches (w : RegWrite) (s : State) :
    OutTouches [.events, .out] s (execEvMapClear w s) := by
  unfold execEvMapClear
  repeat' first
    | with_reducible apply Touches.refl
    | with_reducible assumption
    | with_reducible intro _
    | with_reducible apply OutTouches.next
    | with_reducible apply OutTouches.nextIf
    | (with_reducible apply Touches.comp (State.answered_touches _ _); rotate_left; decide)
    | (with_reducible apply Touches.comp (State.evMapWrite_touches _ _ _ _); rotate_left; decide)
    | with_reducible apply Touches.ite
    | with_reducible apply OutTouches.ite
    | split
    | dsimp only

theorem State.evEnableWrite_touches (s : State) (w : RegWrite) :
    Touches [.events] s (State.evEnableWrite s w) := by
  unfold State.evEnableWrite
  repeat' first
    | with_reducible apply Touches.refl
    | with_reducible assumption
    | with_reducible intro _
    | with_reducible apply Touches.ite
    | split
    | ((with_reducible apply Touches.set_events); rotate_left; decide)
    | dsimp only

theorem execEvEnableWrite_touches (w : RegWrite) (s : State) :
    OutTouches [.events, .out] s (execEvEnableWrite w s) := by
  unfold execEvEnableWrite
  repeat' first
    | with_reducible apply Touches.refl
    | with_reducible assumption
    | with_reducible intro _
    | with_reducible apply OutTouches.next
    | with_reducible apply OutTouches.nextIf
    | (with_reducible apply Touches.comp (State.answered_touches _ _); rotate_left; decide)
    | (with_reducible apply Touches.comp (State.evEnableWrite_touches _ _); rotate_left; decide)
    | with_reducible apply Touches.ite
    | with_reducible apply OutTouches.ite
    | split
    | dsimp only

theorem State.devidWrite_touches (s : State) (w : RegWrite) :
    Touches [.counters, .boot] s (State.devidWrite s w) := by
  unfold State.devidWrite
  repeat' first
    | with_reducible apply Touches.refl
    | with_reducible assumption
    | with_reducible intro _
    | (with_reducible apply Touches.comp (State.countRefused_touches _); rotate_left; decide)
    | with_reducible apply Touches.ite
    | split
    | ((with_reducible apply Touches.set_boot); rotate_left; decide)
    | dsimp only

theorem State.clockWrite_touches (s : State) (w : RegWrite) :
    Touches [.power] s (State.clockWrite s w) := by
  unfold State.clockWrite
  repeat' first
    | with_reducible apply Touches.refl
    | with_reducible assumption
    | with_reducible intro _
    | with_reducible apply Touches.ite
    | split
    | ((with_reducible apply Touches.set_power); rotate_left; decide)
    | dsimp only

theorem execClockStatusClear_touches (w : RegWrite) (s : State) :
    OutTouches [.power, .out] s (execClockStatusClear w s) := by
  unfold execClockStatusClear
  repeat' first
    | with_reducible apply Touches.refl
    | with_reducible assumption
    | with_reducible intro _
    | with_reducible apply OutTouches.next
    | with_reducible apply OutTouches.nextIf
    | (with_reducible apply Touches.comp (State.clockWrite_touches _ _); rotate_left; decide)
    | (with_reducible apply Touches.comp (State.answered_touches _ _); rotate_left; decide)
    | with_reducible apply Touches.ite
    | with_reducible apply OutTouches.ite
    | split
    | dsimp only

theorem State.snapWrite_touches (s : State) (w : RegWrite) :
    Touches [.time] s (State.snapWrite s w) := by
  unfold State.snapWrite
  repeat' first
    | with_reducible apply Touches.refl
    | with_reducible assumption
    | with_reducible intro _
    | with_reducible apply Touches.ite
    | split
    | ((with_reducible apply Touches.set_time); rotate_left; decide)
    | dsimp only

theorem execTimSnapCapture_touches (w : RegWrite) (s : State) :
    OutTouches [.time, .out] s (execTimSnapCapture w s) := by
  unfold execTimSnapCapture
  repeat' first
    | with_reducible apply Touches.refl
    | with_reducible assumption
    | with_reducible intro _
    | with_reducible apply OutTouches.next
    | with_reducible apply OutTouches.nextIf
    | (with_reducible apply Touches.comp (State.answered_touches _ _); rotate_left; decide)
    | (with_reducible apply Touches.comp (State.snapWrite_touches _ _); rotate_left; decide)
    | with_reducible apply Touches.ite
    | with_reducible apply OutTouches.ite
    | split
    | dsimp only

theorem State.coreRegWrite_touches (s : State) (w : RegWrite) (off : Nat) :
    Touches [.loom, .counters] s (State.coreRegWrite s w off) := by
  unfold State.coreRegWrite
  repeat' first
    | with_reducible apply Touches.refl
    | with_reducible assumption
    | with_reducible intro _
    | (with_reducible apply Touches.comp (State.countRefused_touches _); rotate_left; decide)
    | with_reducible apply Touches.ite
    | split
    | ((with_reducible apply Touches.set_loom); rotate_left; decide)
    | dsimp only

theorem execDbgCoreRegWrite_touches (w : RegWrite) (s : State) :
    OutTouches [.loom, .counters, .out] s (execDbgCoreRegWrite w s) := by
  unfold execDbgCoreRegWrite
  repeat' first
    | with_reducible apply Touches.refl
    | with_reducible assumption
    | with_reducible intro _
    | with_reducible apply OutTouches.next
    | with_reducible apply OutTouches.nextIf
    | (with_reducible apply Touches.comp (State.answered_touches _ _); rotate_left; decide)
    | (with_reducible apply Touches.comp (State.coreRegWrite_touches _ _ _); rotate_left; decide)
    | with_reducible apply Touches.ite
    | with_reducible apply OutTouches.ite
    | split
    | dsimp only

theorem State.arrSelWrite_touches (s : State) (w : RegWrite) :
    Touches [.loom, .counters] s (State.arrSelWrite s w) := by
  unfold State.arrSelWrite
  repeat' first
    | with_reducible apply Touches.refl
    | with_reducible assumption
    | with_reducible intro _
    | (with_reducible apply Touches.comp (State.countRefused_touches _); rotate_left; decide)
    | with_reducible apply Touches.ite
    | split
    | ((with_reducible apply Touches.set_loom); rotate_left; decide)
    | dsimp only

theorem State.arrAdvance_touches (s : State) :
    Touches [.loom, .free] s (State.arrAdvance s) := by
  unfold State.arrAdvance
  repeat' first
    | with_reducible apply Touches.refl
    | with_reducible assumption
    | with_reducible intro _
    | with_reducible apply Touches.ite
    | split
    | ((with_reducible apply Touches.set_loom_free); rotate_left; decide; decide)
    | dsimp only

theorem State.arrRead_touches (s : State) :
    Touches [.loom, .counters, .free] s (State.arrRead s).2 := by
  unfold State.arrRead
  repeat' first
    | with_reducible apply Touches.refl
    | with_reducible assumption
    | with_reducible intro _
    | (with_reducible apply Touches.comp (State.countRefused_touches _); rotate_left; decide)
    | (with_reducible apply Touches.comp (State.arrAdvance_touches _); rotate_left; decide)
    | with_reducible apply Touches.ite
    | split
    | dsimp only

theorem State.mailboxWrite_touches (s : State) (w : RegWrite) (off : Nat) :
    Touches [.mailbox] s (State.mailboxWrite s w off) := by
  unfold State.mailboxWrite
  repeat' first
    | with_reducible apply Touches.refl
    | with_reducible assumption
    | with_reducible intro _
    | (with_reducible apply Touches.comp (State.mboxWrite_touches _ _ _); rotate_left; decide)
    | with_reducible apply Touches.foldl
    | with_reducible apply Touches.ite
    | split
    | dsimp only

theorem State.otherWrite_touches (s : State) (w : RegWrite) :
    Touches [.loom, .counters, .mailbox] s (State.otherWrite s w) := by
  unfold State.otherWrite
  repeat' first
    | with_reducible apply Touches.refl
    | with_reducible assumption
    | with_reducible intro _
    | (with_reducible apply Touches.comp (State.arrSelWrite_touches _ _); rotate_left; decide)
    | (with_reducible apply Touches.comp (State.countRefused_touches _); rotate_left; decide)
    | (with_reducible apply Touches.comp (State.mailboxWrite_touches _ _ _); rotate_left; decide)
    | with_reducible apply Touches.ite
    | split
    | dsimp only

theorem execRegisterWrite_touches (w : RegWrite) (s : State) :
    OutTouches [.loom, .counters, .mailbox, .out] s (execRegisterWrite w s) := by
  unfold execRegisterWrite
  repeat' first
    | with_reducible apply Touches.refl
    | with_reducible assumption
    | with_reducible intro _
    | with_reducible apply OutTouches.next
    | with_reducible apply OutTouches.nextIf
    | (with_reducible apply Touches.comp (State.answered_touches _ _); rotate_left; decide)
    | (with_reducible apply Touches.comp (State.otherWrite_touches _ _); rotate_left; decide)
    | with_reducible apply OptTouches.getD
    | with_reducible apply Touches.ite
    | with_reducible apply OutTouches.ite
    | split
    | dsimp only

theorem State.regRead_touches (s : State) (a : Nat) :
    Touches [.loom, .counters, .free] s (State.regRead s a).2 := by
  unfold State.regRead
  repeat' first
    | with_reducible apply Touches.refl
    | with_reducible assumption
    | with_reducible intro _
    | (with_reducible apply Touches.comp (State.countRefused_touches _); rotate_left; decide)
    | (with_reducible apply Touches.comp (State.arrRead_touches _); rotate_left; decide)
    | (with_reducible apply Touches.comp (Touches.of_eq (by assumption) (State.arrRead_touches _)); rotate_left; decide)
    | with_reducible apply Touches.ite
    | split
    | dsimp only

theorem State.busRead_touches (s : State) (path : RegPath) (addr : Nat) :
    Touches [.loom, .counters, .free] s (State.busRead s path addr).2 := by
  unfold State.busRead
  repeat' first
    | with_reducible apply Touches.refl
    | with_reducible assumption
    | with_reducible intro _
    | (with_reducible apply Touches.comp (State.countRefused_touches _); rotate_left; decide)
    | (with_reducible apply Touches.comp (State.regRead_touches _ _); rotate_left; decide)
    | (with_reducible apply Touches.comp (Touches.of_eq (by assumption) (State.regRead_touches _ _)); rotate_left; decide)
    | with_reducible apply Touches.ite
    | split
    | dsimp only

theorem execDbgArrDataRead_touches (path : RegPath) (addr : Nat) (s : State) :
    OutTouches [.loom, .counters, .free, .out] s (execDbgArrDataRead path addr s) := by
  unfold execDbgArrDataRead
  repeat' first
    | with_reducible apply Touches.refl
    | with_reducible assumption
    | with_reducible intro _
    | with_reducible apply OutTouches.next
    | with_reducible apply OutTouches.nextIf
    | (with_reducible apply Touches.comp (State.answerOn_touches _ _ _); rotate_left; decide)
    | (with_reducible apply Touches.comp (State.busRead_touches _ _ _); rotate_left; decide)
    | (with_reducible apply Touches.comp (Touches.of_eq (by assumption) (State.busRead_touches _ _ _)); rotate_left; decide)
    | with_reducible apply Touches.ite
    | with_reducible apply OutTouches.ite
    | split
    | dsimp only

end Sys2Proof.Machine
end

