-- ==== Sys2Proof/Laws/Touches/Boot.lean ====
section
/-!
SUPPORT. What the operations of Machine/Boot.lean touch, one law for each.
-/
namespace Sys2Proof.Machine

set_option linter.unusedTactic false
set_option linter.unreachableTactic false

theorem execBootRomStart_touches (s : State) :
    OutTouches [.keys, .entropy, .metering, .log, .counters, .trace, .otp, .boot, .out] s (execBootRomStart s) := by
  unfold execBootRomStart
  repeat' first
    | with_reducible apply Touches.refl
    | with_reducible assumption
    | (exact BitVec.and_self)
    | (exact Otp.program_keeps _ _ _)
    | with_reducible exact Nat.le_refl _
    | with_reducible exact Nat.le_succ _
    | with_reducible intro _
    | with_reducible apply OutTouches.next
    | with_reducible apply OutTouches.nextIf
    | (with_reducible apply Touches.comp (State.otpJob_touches _ _); rotate_left; decide)
    | (with_reducible apply Touches.comp (State.startIfDue_touches _); rotate_left; decide)
    | with_reducible apply Touches.ite
    | with_reducible apply OutTouches.ite
    | split
    | ((with_reducible apply Touches.set_otp_boot); rotate_left; decide; decide)
    | dsimp only

theorem State.acceptImage_touches (s : State) (b : BootRead) :
    Touches [.keys, .entropy, .metering, .log, .counters, .trace, .otp, .boot, .out] s (State.acceptImage s b) := by
  unfold State.acceptImage
  repeat' first
    | with_reducible apply Touches.refl
    | with_reducible assumption
    | (exact BitVec.and_self)
    | (exact Otp.program_keeps _ _ _)
    | with_reducible exact Nat.le_refl _
    | with_reducible exact Nat.le_succ _
    | with_reducible intro _
    | (with_reducible apply Touches.comp (State.otpJob_touches _ _); rotate_left; decide)
    | (with_reducible apply Touches.comp (State.startIfDue_touches _); rotate_left; decide)
    | with_reducible apply Touches.ite
    | split
    | ((with_reducible apply Touches.set_boot); rotate_left; decide)
    | dsimp only

theorem State.romPoll_touches (s : State) (rejected : Option Nat) (b : BootRead) :
    Touches [.keys, .entropy, .metering, .log, .counters, .trace, .otp, .boot, .out] s (State.romPoll s rejected b) := by
  unfold State.romPoll
  repeat' first
    | with_reducible apply Touches.refl
    | with_reducible assumption
    | (exact BitVec.and_self)
    | (exact Otp.program_keeps _ _ _)
    | with_reducible exact Nat.le_refl _
    | with_reducible exact Nat.le_succ _
    | with_reducible intro _
    | (with_reducible apply Touches.comp (State.rejectRecord_touches _ _); rotate_left; decide)
    | (with_reducible apply Touches.comp (State.acceptImage_touches _ _); rotate_left; decide)
    | (with_reducible apply Touches.comp (State.emitAll_touches _ _); rotate_left; decide)
    | (with_reducible apply Touches.comp (State.emit_touches _ _); rotate_left; decide)
    | with_reducible apply Touches.ite
    | split
    | ((with_reducible apply Touches.set_boot); rotate_left; decide)
    | dsimp only

theorem State.bundlePoll_touches (s : State) (seq : Nat) (b : BootRead) :
    Touches [.keys, .entropy, .log, .counters, .trace, .boot, .out] s (State.bundlePoll s seq b) := by
  unfold State.bundlePoll
  repeat' first
    | with_reducible apply Touches.refl
    | with_reducible assumption
    | with_reducible exact Nat.le_refl _
    | with_reducible exact Nat.le_succ _
    | with_reducible intro _
    | (with_reducible apply Touches.comp (State.takeBundle_touches _ _); rotate_left; decide)
    | (with_reducible apply Touches.comp (State.rejectRecord_touches _ _); rotate_left; decide)
    | (with_reducible apply Touches.comp (State.emitAll_touches _ _); rotate_left; decide)
    | (with_reducible apply Touches.comp (State.emit_touches _ _); rotate_left; decide)
    | with_reducible apply Touches.ite
    | split
    | ((with_reducible apply Touches.set_boot); rotate_left; decide)
    | dsimp only

theorem execBootDescriptorPoll_touches (b : BootRead) (s : State) :
    OutTouches [.keys, .entropy, .metering, .log, .counters, .trace, .otp, .boot, .out] s (execBootDescriptorPoll b s) := by
  unfold execBootDescriptorPoll
  repeat' first
    | with_reducible apply Touches.refl
    | with_reducible assumption
    | (exact BitVec.and_self)
    | (exact Otp.program_keeps _ _ _)
    | with_reducible exact Nat.le_refl _
    | with_reducible exact Nat.le_succ _
    | with_reducible intro _
    | with_reducible apply OutTouches.next
    | with_reducible apply OutTouches.nextIf
    | (with_reducible apply Touches.comp (State.romPoll_touches _ _ _); rotate_left; decide)
    | (with_reducible apply Touches.comp (State.bundlePoll_touches _ _ _); rotate_left; decide)
    | with_reducible apply Touches.ite
    | with_reducible apply OutTouches.ite
    | split
    | dsimp only

theorem execPortsOpen_touches (s : State) :
    OutTouches [.tallies, .fences, .shuttle, .spdm, .loom, .log, .counters, .trace, .mailbox, .out] s (execPortsOpen s) := by
  unfold execPortsOpen
  repeat' first
    | with_reducible apply Touches.refl
    | with_reducible assumption
    | with_reducible intro _
    | with_reducible apply OutTouches.next
    | with_reducible apply OutTouches.nextIf
    | (with_reducible apply Touches.comp (State.drainTurns_touches _); rotate_left; decide)
    | (with_reducible apply Touches.comp (State.applyHeldTails_touches _); rotate_left; decide)
    | with_reducible apply Touches.ite
    | with_reducible apply OutTouches.ite
    | split
    | ((with_reducible apply Touches.set_loom); rotate_left; decide)
    | dsimp only

theorem execCtcDevidWrite_touches (w : RegWrite) (s : State) :
    OutTouches [.keys, .entropy, .metering, .counters, .boot, .out] s (execCtcDevidWrite w s) := by
  unfold execCtcDevidWrite
  repeat' first
    | with_reducible apply Touches.refl
    | with_reducible assumption
    | with_reducible exact Nat.le_refl _
    | with_reducible exact Nat.le_succ _
    | with_reducible intro _
    | with_reducible apply OutTouches.next
    | with_reducible apply OutTouches.nextIf
    | (with_reducible apply Touches.comp (State.answered_touches _ _); rotate_left; decide)
    | (with_reducible apply Touches.comp (State.devidWrite_touches _ _); rotate_left; decide)
    | (with_reducible apply Touches.comp (State.tryRoot_touches _); rotate_left; decide)
    | with_reducible apply Touches.ite
    | with_reducible apply OutTouches.ite
    | split
    | dsimp only

theorem execPowerWarn_touches (s : State) :
    OutTouches [.events, .power] s (execPowerWarn s) := by
  unfold execPowerWarn
  repeat' first
    | with_reducible apply Touches.refl
    | with_reducible assumption
    | with_reducible intro _
    | with_reducible apply OutTouches.next
    | with_reducible apply OutTouches.nextIf
    | (with_reducible apply Touches.comp (State.raise_touches _ _); rotate_left; decide)
    | with_reducible apply Touches.ite
    | with_reducible apply OutTouches.ite
    | split
    | ((with_reducible apply Touches.set_power); rotate_left; decide)
    | dsimp only

theorem execPowerHoldClear_touches (s : State) :
    OutTouches [.time, .otp, .power, .out] s (execPowerHoldClear s) := by
  unfold execPowerHoldClear
  repeat' first
    | with_reducible apply Touches.refl
    | with_reducible assumption
    | (exact BitVec.and_self)
    | (exact Otp.program_keeps _ _ _)
    | with_reducible intro _
    | with_reducible apply OutTouches.next
    | with_reducible apply OutTouches.nextIf
    | (with_reducible apply Touches.comp (State.advanceTo_touches _ _); rotate_left; decide)
    | (with_reducible apply Touches.comp (State.otpPump_touches _); rotate_left; decide)
    | with_reducible apply Touches.ite
    | with_reducible apply OutTouches.ite
    | split
    | ((with_reducible apply Touches.set_power); rotate_left; decide)
    | dsimp only

theorem State.entropyFailure_touches (s : State) :
    Touches [.entropy, .events] s (State.entropyFailure s) := by
  unfold State.entropyFailure
  repeat' first
    | with_reducible apply Touches.refl
    | with_reducible assumption
    | with_reducible exact Nat.le_refl _
    | with_reducible exact Nat.le_succ _
    | with_reducible intro _
    | (with_reducible apply Touches.comp (State.raise_touches _ _); rotate_left; decide)
    | with_reducible apply Touches.ite
    | split
    | ((with_reducible apply Touches.set_entropy); rotate_left; decide)
    | dsimp only

theorem execEntropyTestFail_touches (raw : List Bool) (s : State) :
    OutTouches [.entropy, .events] s (execEntropyTestFail raw s) := by
  unfold execEntropyTestFail
  repeat' first
    | with_reducible apply Touches.refl
    | with_reducible assumption
    | with_reducible exact Nat.le_refl _
    | with_reducible exact Nat.le_succ _
    | with_reducible intro _
    | with_reducible apply OutTouches.next
    | with_reducible apply OutTouches.nextIf
    | (with_reducible apply Touches.comp (State.entropyFailure_touches _); rotate_left; decide)
    | with_reducible apply Touches.ite
    | with_reducible apply OutTouches.ite
    | split
    | dsimp only

theorem execDrbgReseed_touches (s : State) :
    OutTouches [.entropy, .time] s (execDrbgReseed s) := by
  unfold execDrbgReseed
  have h1 : Touches [.entropy, .time] s
      (if s.entropy.requests < 65536 then s.advanceTo (s.entropy.reseededAt + secTicks) else s) :=
    Touches.ite (fun _ => (State.advanceTo_touches _ _).mono (by decide)) (fun _ => Touches.refl _ _)
  revert h1
  generalize (if s.entropy.requests < 65536 then s.advanceTo (s.entropy.reseededAt + secTicks) else s) = s1
  intro h1
  exact OutTouches.nextIf (Touches.refl _ _) (Touches.set_entropy _ h1 (by decide) (Nat.le_refl _))

theorem State.entropyPass_touches (s : State) :
    Touches [.keys, .entropy, .metering] s (State.entropyPass s) := by
  unfold State.entropyPass
  repeat' first
    | with_reducible apply Touches.refl
    | with_reducible assumption
    | with_reducible exact Nat.le_refl _
    | with_reducible exact Nat.le_succ _
    | with_reducible intro _
    | (with_reducible apply Touches.comp (State.reseed_touches _); rotate_left; decide)
    | (with_reducible apply Touches.comp (State.issueCerts_touches _); rotate_left; decide)
    | (with_reducible apply Touches.comp (State.tryRoot_touches _); rotate_left; decide)
    | with_reducible apply Touches.ite
    | split
    | ((with_reducible apply Touches.set_entropy); rotate_left; decide)
    | dsimp only

theorem State.startupFail_touches (s : State) :
    Touches [.entropy, .events] s (State.startupFail s) := by
  unfold State.startupFail
  repeat' first
    | with_reducible apply Touches.refl
    | with_reducible assumption
    | with_reducible exact Nat.le_refl _
    | with_reducible exact Nat.le_succ _
    | with_reducible intro _
    | (with_reducible apply Touches.comp (State.entropyFailure_touches _); rotate_left; decide)
    | (with_reducible apply Touches.comp (State.raise_touches _ _); rotate_left; decide)
    | with_reducible apply Touches.ite
    | split
    | ((with_reducible apply Touches.set_entropy); rotate_left; decide)
    | dsimp only

theorem execEntropyStartupTestDone_touches (raw : List Bool) (s : State) :
    OutTouches [.keys, .entropy, .metering, .events] s (execEntropyStartupTestDone raw s) := by
  unfold execEntropyStartupTestDone
  repeat' first
    | with_reducible apply Touches.refl
    | with_reducible assumption
    | with_reducible exact Nat.le_refl _
    | with_reducible exact Nat.le_succ _
    | with_reducible intro _
    | with_reducible apply OutTouches.next
    | with_reducible apply OutTouches.nextIf
    | (with_reducible apply Touches.comp (State.startupFail_touches _); rotate_left; decide)
    | (with_reducible apply Touches.comp (State.entropyPass_touches _); rotate_left; decide)
    | with_reducible apply Touches.ite
    | with_reducible apply OutTouches.ite
    | split
    | dsimp only

end Sys2Proof.Machine
end

