-- ==== Sys2Proof/Laws/Touches/Shuttle.lean ====
section
/-!
SUPPORT. What the operations of Machine/Shuttle.lean touch, one law for each.
-/
namespace Sys2Proof.Machine

set_option linter.unusedTactic false
set_option linter.unreachableTactic false

theorem State.countTx_touches (s : State) (p : EgressPkt) :
    Touches [.tallies, .counters, .trace] s (State.countTx s p) := by
  unfold State.countTx
  repeat' first
    | with_reducible apply Touches.refl
    | with_reducible assumption
    | with_reducible intro _
    | (with_reducible apply Touches.comp (State.bumpDom_touches _ _ _ _); rotate_left; decide)
    | (with_reducible apply Touches.comp (State.segment_touches _ _ _ _ _ _ _); rotate_left; decide)
    | (with_reducible apply Touches.comp (State.bumpEngine_touches _ _ _ _); rotate_left; decide)
    | (with_reducible apply Touches.comp (State.annotCount_touches _ _ _ _ _ _); rotate_left; decide)
    | (with_reducible apply Touches.comp (State.meter_touches _ _ _ _ _); rotate_left; decide)
    | with_reducible apply Touches.ite
    | split
    | dsimp only

theorem State.stampAtomic_touches (s : State) (p : EgressPkt) :
    Touches [.shuttle] s (State.stampAtomic s p).2 := by
  unfold State.stampAtomic
  repeat' first
    | with_reducible apply Touches.refl
    | with_reducible assumption
    | with_reducible intro _
    | (with_reducible apply Touches.comp (State.rcAdd_touches _ _); rotate_left; decide)
    | (with_reducible apply Touches.comp (State.noteAck_touches _ _); rotate_left; decide)
    | (with_reducible apply Touches.comp (State.setSa_touches _ _ _); rotate_left; decide)
    | with_reducible apply Touches.ite
    | split
    | dsimp only

theorem State.sendUnicast_touches (s : State) (p : EgressPkt) :
    Touches [.shuttle, .counters, .out] s (State.sendUnicast s p) := by
  unfold State.sendUnicast
  repeat' first
    | with_reducible apply Touches.refl
    | with_reducible assumption
    | with_reducible intro _
    | (with_reducible apply Touches.comp (OptPairTouches.get (State.takeCtr_touches _ _) (by assumption)); rotate_left; decide)
    | (with_reducible apply OptPairTouches.comp (State.takeCtr_touches _ _); rotate_left; decide)
    | (with_reducible apply Touches.comp (State.stampAtomic_touches _ _); rotate_left; decide)
    | (with_reducible apply Touches.comp (Touches.of_eq (by assumption) (State.stampAtomic_touches _ _)); rotate_left; decide)
    | (with_reducible apply Touches.comp (State.noteTx_touches _ _ _); rotate_left; decide)
    | (with_reducible apply Touches.comp (State.emit_touches _ _); rotate_left; decide)
    | with_reducible apply Touches.ite
    | split
    | dsimp only

theorem State.sendPolicies_touches (s : State) (ldi : Nat) :
    Touches [.shuttle, .counters, .out] s (State.sendPolicies s ldi) := by
  unfold State.sendPolicies
  repeat' first
    | with_reducible apply Touches.refl
    | with_reducible assumption
    | with_reducible intro _
    | (with_reducible apply Touches.comp (State.sendPolicy_touches _ _ _); rotate_left; decide)
    | with_reducible apply Touches.foldl
    | with_reducible apply Touches.ite
    | split
    | dsimp only

theorem State.sendMulticast_touches (s : State) (p : EgressPkt) :
    Touches [.shuttle, .counters, .out] s (State.sendMulticast s p) := by
  unfold State.sendMulticast
  repeat' first
    | with_reducible apply Touches.refl
    | with_reducible assumption
    | with_reducible intro _
    | (with_reducible apply Touches.comp (State.homeRequest_touches _ _); rotate_left; decide)
    | (with_reducible apply Touches.comp (State.setGroup_touches _ _ _); rotate_left; decide)
    | (with_reducible apply Touches.comp (State.sendPolicies_touches _ _); rotate_left; decide)
    | (with_reducible apply Touches.comp (State.emit_touches _ _); rotate_left; decide)
    | with_reducible apply Touches.ite
    | split
    | dsimp only

theorem State.returnNeedSa_touches (s : State) (p : EgressPkt) :
    Touches [.shuttle, .entropy, .out] s (State.returnNeedSa s p) := by
  unfold State.returnNeedSa
  repeat' first
    | with_reducible apply Touches.refl
    | with_reducible assumption
    | with_reducible exact Nat.le_refl _
    | with_reducible exact Nat.le_succ _
    | with_reducible intro _
    | (with_reducible apply Touches.comp (State.startHandshake_touches _ _ _); rotate_left; decide)
    | (with_reducible apply Touches.comp (State.emit_touches _ _); rotate_left; decide)
    | with_reducible apply Touches.ite
    | split
    | dsimp only

theorem State.sendCounted_touches (s : State) (p : EgressPkt) :
    Touches [.tallies, .shuttle, .counters, .trace, .out] s (State.sendCounted s p) := by
  unfold State.sendCounted
  repeat' first
    | with_reducible apply Touches.refl
    | with_reducible assumption
    | with_reducible intro _
    | (with_reducible apply Touches.comp (State.sendMulticast_touches _ _); rotate_left; decide)
    | (with_reducible apply Touches.comp (State.sendUnicast_touches _ _); rotate_left; decide)
    | (with_reducible apply Touches.comp (State.countTx_touches _ _); rotate_left; decide)
    | (with_reducible apply Touches.comp (State.emit_touches _ _); rotate_left; decide)
    | with_reducible apply Touches.ite
    | split
    | dsimp only

theorem State.sendChecked_touches (s : State) (p : EgressPkt) :
    Touches [.doms, .tallies, .fences, .quarantine, .weft, .shuttle, .batten, .spindle, .keys, .entropy, .loom, .log, .counters, .trace, .events, .bp, .link, .out] s (State.sendChecked s p) := by
  unfold State.sendChecked
  repeat' first
    | with_reducible apply Touches.refl
    | with_reducible assumption
    | with_reducible exact Nat.le_refl _
    | with_reducible exact Nat.le_succ _
    | with_reducible intro _
    | (with_reducible apply Touches.comp (State.endExhausted_touches _ _); rotate_left; decide)
    | (with_reducible apply Touches.comp (State.returnNeedSa_touches _ _); rotate_left; decide)
    | (with_reducible apply Touches.comp (State.sendCounted_touches _ _); rotate_left; decide)
    | (with_reducible apply Touches.comp (State.sendPolicy_touches _ _ _); rotate_left; decide)
    | with_reducible apply Touches.ite
    | split
    | dsimp only

theorem State.refuseEgress_touches (s : State) (p : EgressPkt) (status : Nat) :
    Touches [.tallies, .fences, .log, .counters, .trace, .out] s (State.refuseEgress s p status) := by
  unfold State.refuseEgress
  repeat' first
    | with_reducible apply Touches.refl
    | with_reducible assumption
    | with_reducible intro _
    | (with_reducible apply Touches.comp (State.post_touches _ _ _ _ _); rotate_left; decide)
    | (with_reducible apply Touches.comp (State.settle_touches _); rotate_left; decide)
    | (with_reducible apply Touches.comp (State.emit_touches _ _); rotate_left; decide)
    | with_reducible apply Touches.ite
    | split
    | dsimp only

theorem State.egressBad_touches (s : State) (p : EgressPkt) :
    Touches [.log, .counters, .trace] s (State.egressBad s p) := by
  unfold State.egressBad
  repeat' first
    | with_reducible apply Touches.refl
    | with_reducible assumption
    | with_reducible intro _
    | (with_reducible apply Touches.comp (State.badRequest_touches _ _ _ _ _ _ _ _ _); rotate_left; decide)
    | with_reducible apply Touches.ite
    | split
    | dsimp only

theorem State.egress_touches (s : State) (p : EgressPkt) :
    Touches [.doms, .tallies, .fences, .quarantine, .weft, .shuttle, .batten, .spindle, .keys, .entropy, .loom, .log, .counters, .trace, .events, .bp, .link, .out] s (State.egress s p) := by
  unfold State.egress
  repeat' first
    | with_reducible apply Touches.refl
    | with_reducible assumption
    | with_reducible exact Nat.le_refl _
    | with_reducible exact Nat.le_succ _
    | with_reducible intro _
    | (with_reducible apply Touches.comp (State.returnNeedSa_touches _ _); rotate_left; decide)
    | (with_reducible apply Touches.comp (State.sendChecked_touches _ _); rotate_left; decide)
    | (with_reducible apply Touches.comp (State.egressBad_touches _ _); rotate_left; decide)
    | (with_reducible apply Touches.comp (State.nondetRecord_touches _ _ _ _ _); rotate_left; decide)
    | (with_reducible apply Touches.comp (State.refuseEgress_touches _ _ _); rotate_left; decide)
    | (with_reducible apply Touches.comp (State.emit_touches _ _); rotate_left; decide)
    | with_reducible apply Touches.ite
    | split
    | dsimp only

theorem execFpEgressPacket_touches (p : EgressPkt) (s : State) :
    OutTouches [.doms, .tallies, .fences, .quarantine, .weft, .shuttle, .batten, .spindle, .keys, .entropy, .loom, .log, .counters, .trace, .events, .bp, .link, .out] s (execFpEgressPacket p s) := by
  unfold execFpEgressPacket
  repeat' first
    | with_reducible apply Touches.refl
    | with_reducible assumption
    | with_reducible exact Nat.le_refl _
    | with_reducible exact Nat.le_succ _
    | with_reducible intro _
    | with_reducible apply OutTouches.next
    | with_reducible apply OutTouches.nextIf
    | (with_reducible apply Touches.comp (State.endSpent_touches _); rotate_left; decide)
    | (with_reducible apply Touches.comp (State.egress_touches _ _); rotate_left; decide)
    | with_reducible apply Touches.ite
    | with_reducible apply OutTouches.ite
    | split
    | dsimp only

theorem State.ingressDrop_touches (s : State) (p : IngressPkt) (h : Header) (idx : Nat) (type : Nat) (ldi : Nat) (ctr : Nat) :
    Touches [.log, .counters, .trace] s (State.ingressDrop s p h idx type ldi ctr) := by
  unfold State.ingressDrop
  repeat' first
    | with_reducible apply Touches.refl
    | with_reducible assumption
    | with_reducible intro _
    | (with_reducible apply Touches.comp (State.dropPacket_touches _ _ _ _ _ _ _ _ _ _); rotate_left; decide)
    | with_reducible apply Touches.ite
    | split
    | dsimp only

theorem State.dropTag_touches (s : State) (p : IngressPkt) (h : Header) (ldi : Nat) (ctr : Nat) :
    Touches [.log, .counters, .trace, .events] s (State.dropTag s p h ldi ctr) := by
  unfold State.dropTag
  repeat' first
    | with_reducible apply Touches.refl
    | with_reducible assumption
    | with_reducible intro _
    | (with_reducible apply Touches.comp (State.ingressDrop_touches _ _ _ _ _ _ _); rotate_left; decide)
    | (with_reducible apply Touches.comp (State.bumpEngine_touches _ _ _ _); rotate_left; decide)
    | (with_reducible apply Touches.comp (State.raise_touches _ _); rotate_left; decide)
    | with_reducible apply Touches.ite
    | split
    | dsimp only

theorem State.noteRx_touches (s : State) (peer : Nat) (data : Bool) :
    Touches [.shuttle] s (State.noteRx s peer data) := by
  unfold State.noteRx
  repeat' first
    | with_reducible apply Touches.refl
    | with_reducible assumption
    | with_reducible intro _
    | (with_reducible apply Touches.comp (State.setSa_touches _ _ _); rotate_left; decide)
    | with_reducible apply Touches.ite
    | split
    | dsimp only

theorem State.fragment_touches (s : State) (p : IngressPkt) (peer : Nat) (part : Bytes) :
    Touches [.shuttle, .counters] s (State.fragment s p peer part) := by
  unfold State.fragment
  repeat' first
    | with_reducible apply Touches.refl
    | with_reducible assumption
    | with_reducible intro _
    | (with_reducible apply Touches.comp (State.countDropped_touches _); rotate_left; decide)
    | with_reducible apply OptTouches.getD
    | with_reducible apply Touches.ite
    | split
    | ((with_reducible apply Touches.set_shuttle); rotate_left; decide)
    | dsimp only

theorem State.ingressCtrl_touches (s : State) (p : IngressPkt) (h : Header) :
    Touches [.shuttle, .log, .counters, .trace, .events] s (State.ingressCtrl s p h) := by
  unfold State.ingressCtrl
  repeat' first
    | with_reducible apply Touches.refl
    | with_reducible assumption
    | with_reducible intro _
    | (with_reducible apply Touches.comp (State.fragment_touches _ _ _ _); rotate_left; decide)
    | (with_reducible apply Touches.comp (State.ingressDrop_touches _ _ _ _ _ _ _); rotate_left; decide)
    | (with_reducible apply Touches.comp (State.homeRequest_touches _ _); rotate_left; decide)
    | (with_reducible apply Touches.comp (State.touchWindow_touches _ _ _); rotate_left; decide)
    | (with_reducible apply Touches.comp (State.dropTag_touches _ _ _ _ _); rotate_left; decide)
    | (with_reducible apply Touches.comp (State.countDropped_touches _); rotate_left; decide)
    | (with_reducible apply Touches.comp (State.setSa_touches _ _ _); rotate_left; decide)
    | (with_reducible apply Touches.comp (State.noteRx_touches _ _ _); rotate_left; decide)
    | with_reducible apply Touches.ite
    | split
    | dsimp only

theorem State.ingressHs_touches (s : State) (p : IngressPkt) (h : Header) :
    Touches [.shuttle, .log, .counters, .trace] s (State.ingressHs s p h) := by
  unfold State.ingressHs
  repeat' first
    | with_reducible apply Touches.refl
    | with_reducible assumption
    | with_reducible intro _
    | (with_reducible apply Touches.comp (State.fragment_touches _ _ _ _); rotate_left; decide)
    | (with_reducible apply Touches.comp (State.ingressDrop_touches _ _ _ _ _ _ _); rotate_left; decide)
    | (with_reducible apply Touches.comp (State.countDropped_touches _); rotate_left; decide)
    | with_reducible apply Touches.ite
    | split
    | dsimp only

theorem State.holdWindow_touches (s : State) (p : IngressPkt) (h : Header) (ldi : Nat) :
    Touches [.shuttle, .counters] s (State.holdWindow s p h ldi) := by
  unfold State.holdWindow
  repeat' first
    | with_reducible apply Touches.refl
    | with_reducible assumption
    | with_reducible intro _
    | (with_reducible apply Touches.comp (State.homeRequest_touches _ _); rotate_left; decide)
    | (with_reducible apply Touches.comp (State.touchWindow_touches _ _ _); rotate_left; decide)
    | with_reducible apply Touches.ite
    | split
    | dsimp only

theorem State.confirmRx_touches (s : State) (p : IngressPkt) (h : Header) (ldi : Nat) (w : Window) (c : Nat) :
    Touches [.shuttle] s (State.confirmRx s p h ldi w c) := by
  unfold State.confirmRx
  repeat' first
    | with_reducible apply Touches.refl
    | with_reducible assumption
    | with_reducible intro _
    | (with_reducible apply Touches.comp (State.setGroup_touches _ _ _); rotate_left; decide)
    | (with_reducible apply Touches.comp (State.touchWindow_touches _ _ _); rotate_left; decide)
    | (with_reducible apply Touches.comp (State.setSa_touches _ _ _); rotate_left; decide)
    | (with_reducible apply Touches.comp (State.noteRx_touches _ _ _); rotate_left; decide)
    | with_reducible apply Touches.ite
    | split
    | dsimp only

theorem State.acceptRx_touches (s : State) (p : IngressPkt) (h : Header) (ldi : Nat) (c : Nat) (payload : Bytes) :
    Touches [.tallies, .fences, .shuttle, .batten, .loom, .log, .counters, .trace, .out] s (State.acceptRx s p h ldi c payload) := by
  unfold State.acceptRx
  repeat' first
    | with_reducible apply Touches.refl
    | with_reducible assumption
    | with_reducible intro _
    | (with_reducible apply Touches.comp (State.pump_touches _); rotate_left; decide)
    | (with_reducible apply Touches.comp (State.segment_touches _ _ _ _ _ _ _); rotate_left; decide)
    | (with_reducible apply Touches.comp (State.setRxq_touches _ _); rotate_left; decide)
    | (with_reducible apply Touches.comp (State.bumpEngine_touches _ _ _ _); rotate_left; decide)
    | (with_reducible apply Touches.comp (State.dropRx_touches _ _ _ _); rotate_left; decide)
    | with_reducible apply Touches.ite
    | split
    | dsimp only

theorem State.ingressData_touches (s : State) (p : IngressPkt) (h : Header) :
    Touches [.tallies, .fences, .shuttle, .batten, .loom, .log, .counters, .trace, .events, .out] s (State.ingressData s p h) := by
  unfold State.ingressData
  repeat' first
    | with_reducible apply Touches.refl
    | with_reducible assumption
    | with_reducible intro _
    | (with_reducible apply Touches.comp (State.ingressDrop_touches _ _ _ _ _ _ _); rotate_left; decide)
    | (with_reducible apply Touches.comp (State.holdWindow_touches _ _ _ _); rotate_left; decide)
    | (with_reducible apply Touches.comp (State.dropTag_touches _ _ _ _ _); rotate_left; decide)
    | (with_reducible apply Touches.comp (State.confirmRx_touches _ _ _ _ _ _); rotate_left; decide)
    | (with_reducible apply Touches.comp (State.acceptRx_touches _ _ _ _ _ _); rotate_left; decide)
    | with_reducible apply OptTouches.getD
    | with_reducible apply Touches.ite
    | split
    | dsimp only

theorem State.ingress_touches (s : State) (p : IngressPkt) :
    Touches [.tallies, .fences, .shuttle, .batten, .loom, .log, .counters, .trace, .events, .out] s (State.ingress s p) := by
  unfold State.ingress
  repeat' first
    | with_reducible apply Touches.refl
    | with_reducible assumption
    | with_reducible intro _
    | (with_reducible apply Touches.comp (State.ingressDrop_touches _ _ _ _ _ _ _); rotate_left; decide)
    | (with_reducible apply Touches.comp (State.ingressHs_touches _ _ _); rotate_left; decide)
    | (with_reducible apply Touches.comp (State.ingressData_touches _ _ _); rotate_left; decide)
    | (with_reducible apply Touches.comp (State.ingressCtrl_touches _ _ _); rotate_left; decide)
    | with_reducible apply OptTouches.getD
    | with_reducible apply Touches.ite
    | split
    | dsimp only

theorem execFpIngressPacket_touches (p : IngressPkt) (s : State) :
    OutTouches [.doms, .tallies, .fences, .quarantine, .weft, .shuttle, .batten, .spindle, .keys, .loom, .log, .counters, .trace, .events, .bp, .link, .out] s (execFpIngressPacket p s) := by
  unfold execFpIngressPacket
  repeat' first
    | with_reducible apply Touches.refl
    | with_reducible assumption
    | with_reducible intro _
    | with_reducible apply OutTouches.next
    | with_reducible apply OutTouches.nextIf
    | (with_reducible apply Touches.comp (State.endExhausted_touches _ _); rotate_left; decide)
    | (with_reducible apply Touches.comp (State.ingress_touches _ _); rotate_left; decide)
    | with_reducible apply Touches.ite
    | with_reducible apply OutTouches.ite
    | split
    | dsimp only

theorem State.takeNack_touches (s : State) (p : RxPkt) :
    Touches [.tallies, .fences, .log, .counters, .trace, .out] s (State.takeNack s p) := by
  unfold State.takeNack
  repeat' first
    | with_reducible apply Touches.refl
    | with_reducible assumption
    | with_reducible intro _
    | (with_reducible apply Touches.comp (State.post_touches _ _ _ _ _); rotate_left; decide)
    | (with_reducible apply Touches.comp (State.toHost_touches _ _); rotate_left; decide)
    | (with_reducible apply Touches.comp (State.badRef_touches _ _); rotate_left; decide)
    | with_reducible apply Touches.ite
    | split
    | dsimp only

theorem execNackReceived_touches (s : State) :
    OutTouches [.doms, .tallies, .fences, .quarantine, .weft, .shuttle, .batten, .spindle, .keys, .loom, .log, .counters, .trace, .events, .bp, .link, .out] s (execNackReceived s) := by
  unfold execNackReceived
  repeat' first
    | with_reducible apply Touches.refl
    | with_reducible assumption
    | with_reducible intro _
    | with_reducible apply OutTouches.next
    | with_reducible apply OutTouches.nextIf
    | (with_reducible apply State.onRx_touches; rotate_left; decide)
    | (with_reducible apply Touches.comp (OptPairTouches.get (State.takeRx_touches _ _) (by assumption)); rotate_left; decide)
    | (with_reducible apply OptPairTouches.comp (State.takeRx_touches _ _); rotate_left; decide)
    | (with_reducible apply Touches.comp (State.takeNack_touches _ _); rotate_left; decide)
    | with_reducible apply Touches.ite
    | with_reducible apply OutTouches.ite
    | split
    | dsimp only

theorem State.refuseAtomic_touches (s : State) (p : RxPkt) (status : Nat) :
    Touches [.tallies, .shuttle, .counters, .trace, .out] s (State.refuseAtomic s p status) := by
  unfold State.refuseAtomic
  repeat' first
    | with_reducible apply Touches.refl
    | with_reducible assumption
    | with_reducible intro _
    | (with_reducible apply Touches.comp (State.bumpDom_touches _ _ _ _); rotate_left; decide)
    | (with_reducible apply Touches.comp (State.sendResponse_touches _ _ _ _ _ _ _ _); rotate_left; decide)
    | with_reducible apply Touches.ite
    | split
    | dsimp only

theorem State.answerCached_touches (s : State) (e : RcEntry) :
    Touches [.tallies, .shuttle, .counters, .trace, .out] s (State.answerCached s e) := by
  unfold State.answerCached
  repeat' first
    | with_reducible apply Touches.refl
    | with_reducible assumption
    | with_reducible intro _
    | (with_reducible apply Touches.comp (State.sendResponse_touches _ _ _ _ _ _ _ _); rotate_left; decide)
    | with_reducible apply Touches.ite
    | split
    | dsimp only

theorem State.runAtomic_touches (s : State) (p : RxPkt) :
    OptTouches [.tallies, .shuttle, .batten, .log, .counters, .trace, .out] s (State.runAtomic s p) := by
  unfold State.runAtomic
  repeat' first
    | with_reducible apply Touches.refl
    | with_reducible assumption
    | with_reducible intro _
    | with_reducible apply OptTouches.none
    | with_reducible apply OptTouches.some
    | (with_reducible apply Touches.comp (State.countRx_touches _ _); rotate_left; decide)
    | (with_reducible apply Touches.comp (State.routeAll_touches _ _ _); rotate_left; decide)
    | (with_reducible apply Touches.comp (State.badRequest_touches _ _ _ _ _ _ _ _ _); rotate_left; decide)
    | (with_reducible apply Touches.comp (State.rcAdd_touches _ _); rotate_left; decide)
    | (with_reducible apply Touches.comp (State.finishAtomic_touches _ _ _ _ _ _ _); rotate_left; decide)
    | with_reducible apply OptTouches.map
    | with_reducible apply OptTouches.bind
    | with_reducible apply Touches.ite
    | with_reducible apply OptTouches.ite
    | split
    | dsimp only

theorem State.requestTable_touches (s : State) (p : RxPkt) :
    OptTouches [.tallies, .shuttle, .batten, .log, .counters, .trace, .out] s (State.requestTable s p) := by
  unfold State.requestTable
  repeat' first
    | with_reducible apply Touches.refl
    | with_reducible assumption
    | with_reducible intro _
    | with_reducible apply OptTouches.none
    | with_reducible apply OptTouches.some
    | (with_reducible apply Touches.comp (OptTouches.get (State.runAtomic_touches _ _) (by assumption)); rotate_left; decide)
    | (with_reducible apply OptTouches.comp (State.runAtomic_touches _ _); rotate_left; decide)
    | (with_reducible apply Touches.comp (State.dropMap_touches _ _); rotate_left; decide)
    | (with_reducible apply Touches.comp (State.refuseAtomic_touches _ _ _); rotate_left; decide)
    | (with_reducible apply Touches.comp (State.dropState_touches _ _); rotate_left; decide)
    | (with_reducible apply Touches.comp (State.nondetRecord_touches _ _ _ _ _); rotate_left; decide)
    | (with_reducible apply Touches.comp (State.answerCached_touches _ _); rotate_left; decide)
    | (with_reducible apply Touches.comp (State.countDropped_touches _); rotate_left; decide)
    | with_reducible apply OptTouches.map
    | with_reducible apply OptTouches.bind
    | with_reducible apply Touches.ite
    | with_reducible apply OptTouches.ite
    | split
    | dsimp only

theorem State.takeRequest_touches (s : State) (p : RxPkt) :
    OptTouches [.tallies, .shuttle, .batten, .log, .counters, .trace, .out] s (State.takeRequest s p) := by
  unfold State.takeRequest
  repeat' first
    | with_reducible apply Touches.refl
    | with_reducible assumption
    | with_reducible intro _
    | with_reducible apply OptTouches.none
    | with_reducible apply OptTouches.some
    | (with_reducible apply Touches.comp (State.takeAck_touches _ _ _); rotate_left; decide)
    | (with_reducible apply Touches.comp (OptTouches.get (State.requestTable_touches _ _) (by assumption)); rotate_left; decide)
    | (with_reducible apply OptTouches.comp (State.requestTable_touches _ _); rotate_left; decide)
    | with_reducible apply OptTouches.map
    | with_reducible apply OptTouches.bind
    | with_reducible apply Touches.ite
    | with_reducible apply OptTouches.ite
    | split
    | dsimp only

theorem execAtomicRequestReceived_touches (s : State) :
    OutTouches [.doms, .tallies, .fences, .quarantine, .weft, .shuttle, .batten, .spindle, .keys, .loom, .log, .counters, .trace, .events, .bp, .link, .out] s (execAtomicRequestReceived s) := by
  unfold execAtomicRequestReceived
  split
  · rename_i p t e
    have ht : Touches [.doms, .tallies, .fences, .quarantine, .weft, .shuttle, .batten, .spindle, .keys, .loom, .log, .counters, .trace, .events, .bp, .link, .out] s t := ((State.takeRx_touches _ _).get e).mono (by decide)
    refine OutTouches.nextIf (Touches.refl _ _) (State.onRx_touches ht (by decide) ?_)
    exact OptTouches.getD (OptTouches.comp (State.takeRequest_touches _ _) ht (by decide)) ht
  · exact OutTouches.next (Touches.refl _ _)

theorem State.meetEntry_touches (s : State) (p : RxPkt) :
    Touches [.tallies, .fences, .shuttle, .counters, .out] s (State.meetEntry s p) := by
  unfold State.meetEntry
  repeat' first
    | with_reducible apply Touches.refl
    | with_reducible assumption
    | with_reducible intro _
    | (with_reducible apply Touches.comp (State.post_touches _ _ _ _ _); rotate_left; decide)
    | (with_reducible apply Touches.comp (State.toHost_touches _ _); rotate_left; decide)
    | (with_reducible apply Touches.comp (State.countDropped_touches _); rotate_left; decide)
    | (with_reducible apply Touches.comp (State.lagAck_touches _ _); rotate_left; decide)
    | (with_reducible apply Touches.comp (State.rcDel_touches _ _); rotate_left; decide)
    | (with_reducible apply Touches.comp (State.setSa_touches _ _ _); rotate_left; decide)
    | with_reducible apply Touches.ite
    | split
    | dsimp only

theorem State.takeResponse_touches (s : State) (p : RxPkt) :
    Touches [.tallies, .fences, .shuttle, .counters, .out] s (State.takeResponse s p) := by
  unfold State.takeResponse
  repeat' first
    | with_reducible apply Touches.refl
    | with_reducible assumption
    | with_reducible intro _
    | (with_reducible apply Touches.comp (State.takeAck_touches _ _ _); rotate_left; decide)
    | (with_reducible apply Touches.comp (State.meetEntry_touches _ _); rotate_left; decide)
    | with_reducible apply Touches.ite
    | split
    | dsimp only

theorem execAtomicResponseReceived_touches (s : State) :
    OutTouches [.doms, .tallies, .fences, .quarantine, .weft, .shuttle, .batten, .spindle, .keys, .loom, .log, .counters, .trace, .events, .bp, .link, .out] s (execAtomicResponseReceived s) := by
  unfold execAtomicResponseReceived
  repeat' first
    | with_reducible apply Touches.refl
    | with_reducible assumption
    | with_reducible intro _
    | with_reducible apply OutTouches.next
    | with_reducible apply OutTouches.nextIf
    | (with_reducible apply State.onRx_touches; rotate_left; decide)
    | (with_reducible apply Touches.comp (State.takeResponse_touches _ _); rotate_left; decide)
    | (with_reducible apply Touches.comp (OptPairTouches.get (State.takeRx_touches _ _) (by assumption)); rotate_left; decide)
    | (with_reducible apply OptPairTouches.comp (State.takeRx_touches _ _); rotate_left; decide)
    | with_reducible apply Touches.ite
    | with_reducible apply OutTouches.ite
    | split
    | dsimp only

theorem State.answerQuery_touches (s : State) (p : RxPkt) :
    Touches [.tallies, .shuttle, .counters, .trace, .out] s (State.answerQuery s p) := by
  unfold State.answerQuery
  repeat' first
    | with_reducible apply Touches.refl
    | with_reducible assumption
    | with_reducible intro _
    | (with_reducible apply Touches.comp (State.bumpDom_touches _ _ _ _); rotate_left; decide)
    | (with_reducible apply Touches.comp (State.rcAdd_touches _ _); rotate_left; decide)
    | (with_reducible apply Touches.comp (State.answerCached_touches _ _); rotate_left; decide)
    | with_reducible apply Touches.ite
    | split
    | dsimp only

theorem State.takeQuery_touches (s : State) (p : RxPkt) :
    Touches [.tallies, .shuttle, .counters, .trace, .out] s (State.takeQuery s p) := by
  unfold State.takeQuery
  repeat' first
    | with_reducible apply Touches.refl
    | with_reducible assumption
    | with_reducible intro _
    | (with_reducible apply Touches.comp (State.takeAck_touches _ _ _); rotate_left; decide)
    | (with_reducible apply Touches.comp (State.answerQuery_touches _ _); rotate_left; decide)
    | with_reducible apply Touches.ite
    | split
    | dsimp only

theorem execAtomicQueryReceived_touches (s : State) :
    OutTouches [.doms, .tallies, .fences, .quarantine, .weft, .shuttle, .batten, .spindle, .keys, .loom, .log, .counters, .trace, .events, .bp, .link, .out] s (execAtomicQueryReceived s) := by
  unfold execAtomicQueryReceived
  repeat' first
    | with_reducible apply Touches.refl
    | with_reducible assumption
    | with_reducible intro _
    | with_reducible apply OutTouches.next
    | with_reducible apply OutTouches.nextIf
    | (with_reducible apply State.onRx_touches; rotate_left; decide)
    | (with_reducible apply Touches.comp (State.takeQuery_touches _ _); rotate_left; decide)
    | (with_reducible apply Touches.comp (OptPairTouches.get (State.takeRx_touches _ _) (by assumption)); rotate_left; decide)
    | (with_reducible apply OptPairTouches.comp (State.takeRx_touches _ _); rotate_left; decide)
    | with_reducible apply Touches.ite
    | with_reducible apply OutTouches.ite
    | split
    | dsimp only

theorem execAckOnlyReceived_touches (s : State) :
    OutTouches [.doms, .tallies, .fences, .quarantine, .weft, .shuttle, .batten, .spindle, .keys, .loom, .log, .counters, .trace, .events, .bp, .link, .out] s (execAckOnlyReceived s) := by
  unfold execAckOnlyReceived
  repeat' first
    | with_reducible apply Touches.refl
    | with_reducible assumption
    | with_reducible intro _
    | with_reducible apply OutTouches.next
    | with_reducible apply OutTouches.nextIf
    | (with_reducible apply Touches.comp (State.takeAck_touches _ _ _); rotate_left; decide)
    | (with_reducible apply State.onRx_touches; rotate_left; decide)
    | (with_reducible apply Touches.comp (OptPairTouches.get (State.takeRx_touches _ _) (by assumption)); rotate_left; decide)
    | (with_reducible apply OptPairTouches.comp (State.takeRx_touches _ _); rotate_left; decide)
    | with_reducible apply Touches.ite
    | with_reducible apply OutTouches.ite
    | split
    | dsimp only

theorem State.sendQuery_touches (s : State) (e : RcEntry) :
    Touches [.tallies, .shuttle, .counters, .trace, .out] s (State.sendQuery s e) := by
  unfold State.sendQuery
  repeat' first
    | with_reducible apply Touches.refl
    | with_reducible assumption
    | with_reducible intro _
    | (with_reducible apply Touches.comp (State.rcSet_touches _ _); rotate_left; decide)
    | (with_reducible apply Touches.comp (State.sendDescriptor_touches _ _ _ _ _ _ _ _ _); rotate_left; decide)
    | with_reducible apply Touches.ite
    | split
    | dsimp only

theorem execAtomicDueExpiry_touches (peer : Nat) (aseq : Nat) (s : State) :
    OutTouches [.doms, .tallies, .fences, .quarantine, .weft, .shuttle, .batten, .spindle, .keys, .time, .loom, .log, .counters, .trace, .events, .bp, .link, .out] s (execAtomicDueExpiry peer aseq s) := by
  unfold execAtomicDueExpiry
  repeat' first
    | with_reducible apply Touches.refl
    | with_reducible assumption
    | with_reducible intro _
    | with_reducible apply OutTouches.next
    | with_reducible apply OutTouches.nextIf
    | (with_reducible apply Touches.comp (State.advanceTo_touches _ _); rotate_left; decide)
    | (with_reducible apply Touches.comp (State.endExhausted_touches _ _); rotate_left; decide)
    | (with_reducible apply Touches.comp (State.sendQuery_touches _ _); rotate_left; decide)
    | with_reducible apply Touches.ite
    | with_reducible apply OutTouches.ite
    | split
    | dsimp only

theorem execAckOnlyTimer_touches (peer : Nat) (s : State) :
    OutTouches [.doms, .tallies, .fences, .quarantine, .weft, .shuttle, .batten, .spindle, .keys, .time, .loom, .log, .counters, .trace, .events, .bp, .link, .out] s (execAckOnlyTimer peer s) := by
  unfold execAckOnlyTimer
  repeat' first
    | with_reducible apply Touches.refl
    | with_reducible assumption
    | with_reducible intro _
    | with_reducible apply OutTouches.next
    | with_reducible apply OutTouches.nextIf
    | (with_reducible apply Touches.comp (State.advanceTo_touches _ _); rotate_left; decide)
    | (with_reducible apply Touches.comp (State.endExhausted_touches _ _); rotate_left; decide)
    | (with_reducible apply Touches.comp (State.sendDescriptor_touches _ _ _ _ _ _ _ _ _); rotate_left; decide)
    | with_reducible apply Touches.ite
    | with_reducible apply OutTouches.ite
    | split
    | dsimp only

end Sys2Proof.Machine
end

