-- ==== Sys2Proof/Laws/Touches/Composition.lean ====
section
/-!
SUPPORT. What the operations of Machine/Composition.lean touch, one law for each.
-/
namespace Sys2Proof.Machine

set_option linter.unusedTactic false
set_option linter.unreachableTactic false

theorem State.changeSlices_touches (s : State) (ldi : Nat) (new : List Slice) (rs : List (BitVec 128)) :
    ResTouches [.doms, .tallies, .bp, .out] s (State.changeSlices s ldi new rs) := by
  unfold State.changeSlices
  repeat' first
    | with_reducible apply Touches.refl
    | with_reducible assumption
    | with_reducible intro _
    | with_reducible apply ResTouches.fail
    | with_reducible apply ResTouches.refuse
    | with_reducible apply ResTouches.ok
    | with_reducible apply ResTouches.done
    | with_reducible apply ResTouches.wait
    | (with_reducible apply Touches.comp (State.accrue_touches _ _); rotate_left; decide)
    | (with_reducible apply Touches.comp (State.publish_touches _ _); rotate_left; decide)
    | (with_reducible apply Touches.comp (Touches.of_eq (by assumption) (State.publish_touches _ _)); rotate_left; decide)
    | (with_reducible apply Touches.comp (State.setDom_touches _ _ _); rotate_left; decide)
    | with_reducible apply Touches.ite
    | with_reducible apply ResTouches.ite
    | split
    | dsimp only

theorem bindBody_touches (s : State) (c : Cmd) :
    ResTouches [.doms, .tallies, .bp, .out] s (bindBody s c) := by
  unfold bindBody
  repeat' first
    | with_reducible apply Touches.refl
    | with_reducible assumption
    | with_reducible intro _
    | with_reducible apply ResTouches.fail
    | with_reducible apply ResTouches.refuse
    | with_reducible apply ResTouches.ok
    | with_reducible apply ResTouches.done
    | with_reducible apply ResTouches.wait
    | (with_reducible apply ResTouches.comp (State.changeSlices_touches _ _ _ _); rotate_left; decide)
    | with_reducible apply Touches.ite
    | with_reducible apply ResTouches.ite
    | split
    | dsimp only

theorem cmpBindSliceSpec_touches (t : State) (c : Cmd) :
    ResTouches [.doms, .tallies, .bp, .out] t (cmpBindSliceSpec.body t c) := by
  unfold cmpBindSliceSpec
  dsimp only
  repeat' first
    | with_reducible apply Touches.refl
    | with_reducible assumption
    | intro _
    | with_reducible apply ResTouches.fail
    | with_reducible apply ResTouches.refuse
    | with_reducible apply ResTouches.ok
    | with_reducible apply ResTouches.done
    | with_reducible apply ResTouches.wait
    | (with_reducible apply ResTouches.comp (bindBody_touches _ _); rotate_left; decide)
    | with_reducible apply Touches.ite
    | with_reducible apply ResTouches.ite
    | split
    | dsimp only

theorem execCmpBindSlice_touches (src : Src) (s : State) :
    OutTouches [.doms, .tallies, .fences, .shuttle, .spdm, .loom, .log, .counters, .trace, .bp, .mailbox, .out] s (execCmpBindSlice src s) := by
  unfold execCmpBindSlice
  repeat' first
    | with_reducible apply Touches.refl
    | with_reducible assumption
    | with_reducible intro _
    | with_reducible apply OutTouches.next
    | with_reducible apply OutTouches.nextIf
    | (with_reducible apply State.runSrc_touches; rotate_left; decide)
    | ((with_reducible show Touches _ _ (CmdSpec.after _ _ _)); exact Touches.refl _ _)
    | (with_reducible apply ResTouches.mono (cmpBindSliceSpec_touches _ _); decide)
    | with_reducible apply Touches.ite
    | with_reducible apply OutTouches.ite
    | split
    | dsimp only

theorem unbindBody_touches (s : State) (c : Cmd) :
    ResTouches [.doms, .tallies, .bp, .out] s (unbindBody s c) := by
  unfold unbindBody
  repeat' first
    | with_reducible apply Touches.refl
    | with_reducible assumption
    | with_reducible intro _
    | with_reducible apply ResTouches.fail
    | with_reducible apply ResTouches.refuse
    | with_reducible apply ResTouches.ok
    | with_reducible apply ResTouches.done
    | with_reducible apply ResTouches.wait
    | (with_reducible apply ResTouches.comp (State.changeSlices_touches _ _ _ _); rotate_left; decide)
    | with_reducible apply Touches.ite
    | with_reducible apply ResTouches.ite
    | split
    | dsimp only

theorem cmpUnbindSliceSpec_touches (t : State) (c : Cmd) :
    ResTouches [.doms, .tallies, .bp, .out] t (cmpUnbindSliceSpec.body t c) := by
  unfold cmpUnbindSliceSpec
  dsimp only
  repeat' first
    | with_reducible apply Touches.refl
    | with_reducible assumption
    | intro _
    | with_reducible apply ResTouches.fail
    | with_reducible apply ResTouches.refuse
    | with_reducible apply ResTouches.ok
    | with_reducible apply ResTouches.done
    | with_reducible apply ResTouches.wait
    | (with_reducible apply ResTouches.comp (unbindBody_touches _ _); rotate_left; decide)
    | with_reducible apply Touches.ite
    | with_reducible apply ResTouches.ite
    | split
    | dsimp only

theorem execCmpUnbindSlice_touches (src : Src) (s : State) :
    OutTouches [.doms, .tallies, .fences, .shuttle, .spdm, .loom, .log, .counters, .trace, .bp, .mailbox, .out] s (execCmpUnbindSlice src s) := by
  unfold execCmpUnbindSlice
  repeat' first
    | with_reducible apply Touches.refl
    | with_reducible assumption
    | with_reducible intro _
    | with_reducible apply OutTouches.next
    | with_reducible apply OutTouches.nextIf
    | (with_reducible apply State.runSrc_touches; rotate_left; decide)
    | ((with_reducible show Touches _ _ (CmdSpec.after _ _ _)); exact Touches.refl _ _)
    | (with_reducible apply ResTouches.mono (cmpUnbindSliceSpec_touches _ _); decide)
    | with_reducible apply Touches.ite
    | with_reducible apply OutTouches.ite
    | split
    | dsimp only

theorem prepareBody_touches (s : State) (c : Cmd) :
    ResTouches [.doms, .tallies, .bp, .out] s (prepareBody s c) := by
  unfold prepareBody
  extract_lets d na nr adds rems st s1 d1 d2 t
  refine ResTouches.ite (fun _ => ResTouches.fail _ _ _) (fun _ => ?_)
  refine ResTouches.ite (fun _ => ResTouches.fail _ _ _) (fun _ => ?_)
  refine ResTouches.ite (fun _ => ResTouches.fail _ _ _) (fun _ => ?_)
  refine ResTouches.wait (Touches.comp (State.publish_touches _ _) ?_ (by decide))
  refine Touches.comp (State.setDom_touches _ _ _) ?_ (by decide)
  exact Touches.comp (State.accrue_touches _ _) (Touches.refl _ _) (by decide)

theorem cmpRebindPrepareSpec_touches (t : State) (c : Cmd) :
    ResTouches [.doms, .tallies, .bp, .out] t (cmpRebindPrepareSpec.body t c) := by
  unfold cmpRebindPrepareSpec
  dsimp only
  repeat' first
    | with_reducible apply Touches.refl
    | with_reducible assumption
    | intro _
    | with_reducible apply ResTouches.fail
    | with_reducible apply ResTouches.refuse
    | with_reducible apply ResTouches.ok
    | with_reducible apply ResTouches.done
    | with_reducible apply ResTouches.wait
    | (with_reducible apply ResTouches.comp (prepareBody_touches _ _); rotate_left; decide)
    | with_reducible apply Touches.ite
    | with_reducible apply ResTouches.ite
    | split
    | dsimp only

theorem execCmpRebindPrepare_touches (src : Src) (s : State) :
    OutTouches [.doms, .tallies, .fences, .shuttle, .spdm, .loom, .log, .counters, .trace, .bp, .mailbox, .out] s (execCmpRebindPrepare src s) := by
  unfold execCmpRebindPrepare
  repeat' first
    | with_reducible apply Touches.refl
    | with_reducible assumption
    | with_reducible intro _
    | with_reducible apply OutTouches.next
    | with_reducible apply OutTouches.nextIf
    | (with_reducible apply State.runSrc_touches; rotate_left; decide)
    | ((with_reducible show Touches _ _ (CmdSpec.after _ _ _)); exact Touches.refl _ _)
    | (with_reducible apply ResTouches.mono (cmpRebindPrepareSpec_touches _ _); decide)
    | with_reducible apply Touches.ite
    | with_reducible apply OutTouches.ite
    | split
    | dsimp only

theorem State.closeMap_touches (s : State) (ldi : Nat) :
    Touches [.doms, .tallies] s (State.closeMap s ldi) := by
  unfold State.closeMap
  repeat' first
    | with_reducible apply Touches.refl
    | with_reducible assumption
    | with_reducible intro _
    | (with_reducible apply Touches.comp (State.accrue_touches _ _); rotate_left; decide)
    | (with_reducible apply Touches.comp (State.setDom_touches _ _ _); rotate_left; decide)
    | with_reducible apply Touches.ite
    | split
    | dsimp only

theorem State.closeRebind_touches (s : State) (ldi : Nat) (drained : Nat) (squashed : Nat) :
    ResTouches [.doms, .tallies, .bp, .out] s (State.closeRebind s ldi drained squashed) := by
  unfold State.closeRebind
  repeat' first
    | with_reducible apply Touches.refl
    | with_reducible assumption
    | with_reducible intro _
    | with_reducible apply ResTouches.fail
    | with_reducible apply ResTouches.refuse
    | with_reducible apply ResTouches.ok
    | with_reducible apply ResTouches.done
    | with_reducible apply ResTouches.wait
    | (with_reducible apply Touches.comp (State.closeMap_touches _ _); rotate_left; decide)
    | (with_reducible apply Touches.comp (State.publish_touches _ _); rotate_left; decide)
    | (with_reducible apply Touches.comp (Touches.of_eq (by assumption) (State.publish_touches _ _)); rotate_left; decide)
    | with_reducible apply Touches.ite
    | with_reducible apply ResTouches.ite
    | split
    | dsimp only

theorem commitBody_touches (s : State) (c : Cmd) :
    ResTouches [.doms, .tallies, .bp, .out] s (commitBody s c) := by
  unfold commitBody
  repeat' first
    | with_reducible apply Touches.refl
    | with_reducible assumption
    | with_reducible intro _
    | with_reducible apply ResTouches.fail
    | with_reducible apply ResTouches.refuse
    | with_reducible apply ResTouches.ok
    | with_reducible apply ResTouches.done
    | with_reducible apply ResTouches.wait
    | (with_reducible apply ResTouches.comp (State.closeRebind_touches _ _ _ _); rotate_left; decide)
    | with_reducible apply Touches.ite
    | with_reducible apply ResTouches.ite
    | split
    | dsimp only

theorem cmpRebindCommitSpec_touches (t : State) (c : Cmd) :
    ResTouches [.doms, .tallies, .bp, .out] t (cmpRebindCommitSpec.body t c) := by
  unfold cmpRebindCommitSpec
  dsimp only
  repeat' first
    | with_reducible apply Touches.refl
    | with_reducible assumption
    | intro _
    | with_reducible apply ResTouches.fail
    | with_reducible apply ResTouches.refuse
    | with_reducible apply ResTouches.ok
    | with_reducible apply ResTouches.done
    | with_reducible apply ResTouches.wait
    | (with_reducible apply ResTouches.comp (commitBody_touches _ _); rotate_left; decide)
    | with_reducible apply Touches.ite
    | with_reducible apply ResTouches.ite
    | split
    | dsimp only

theorem execCmpRebindCommit_touches (src : Src) (s : State) :
    OutTouches [.doms, .tallies, .fences, .shuttle, .spdm, .loom, .log, .counters, .trace, .bp, .mailbox, .out] s (execCmpRebindCommit src s) := by
  unfold execCmpRebindCommit
  repeat' first
    | with_reducible apply Touches.refl
    | with_reducible assumption
    | with_reducible intro _
    | with_reducible apply OutTouches.next
    | with_reducible apply OutTouches.nextIf
    | (with_reducible apply State.runSrc_touches; rotate_left; decide)
    | ((with_reducible show Touches _ _ (CmdSpec.after _ _ _)); exact Touches.refl _ _)
    | (with_reducible apply ResTouches.mono (cmpRebindCommitSpec_touches _ _); decide)
    | with_reducible apply Touches.ite
    | with_reducible apply OutTouches.ite
    | split
    | dsimp only

theorem State.squash_touches (s : State) (ldi : Nat) :
    Touches [.doms, .tallies, .fences, .shuttle, .batten, .loom, .log, .counters, .trace, .out] s (State.squash s ldi) := by
  unfold State.squash
  repeat' first
    | with_reducible apply Touches.refl
    | with_reducible assumption
    | with_reducible intro _
    | (with_reducible apply Touches.comp (State.takeAck_touches _ _ _); rotate_left; decide)
    | (with_reducible apply Touches.comp (State.pump_touches _); rotate_left; decide)
    | (with_reducible apply Touches.comp (State.dropMap_touches _ _); rotate_left; decide)
    | (with_reducible apply Touches.comp (State.dropRxq_touches _ _); rotate_left; decide)
    | (with_reducible apply Touches.comp (State.setDom_touches _ _ _); rotate_left; decide)
    | (with_reducible apply Touches.comp (State.refuseByKind_touches _ _ _); rotate_left; decide)
    | (with_reducible apply Touches.comp (OptTouches.get (State.requestTable_touches _ _) (by assumption)); rotate_left; decide)
    | (with_reducible apply OptTouches.comp (State.requestTable_touches _ _); rotate_left; decide)
    | with_reducible apply Touches.foldl
    | with_reducible apply OptTouches.getD
    | with_reducible apply Touches.ite
    | split
    | dsimp only

theorem execRebindSquashTimeout_touches (ldi : Nat) (s : State) :
    OutTouches [.doms, .tallies, .fences, .shuttle, .batten, .time, .loom, .log, .counters, .trace, .bp, .out] s (execRebindSquashTimeout ldi s) := by
  unfold execRebindSquashTimeout
  split
  · rename_i e n d _
    refine OutTouches.nextIf (Touches.refl _ _) ?_
    have h1 : Touches [.doms, .tallies, .fences, .shuttle, .batten, .time, .loom, .log, .counters, .trace, .bp, .out] s (s.advanceTo d) := (State.advanceTo_touches _ _).mono (by decide)
    have h2 : ResTouches [.doms, .tallies, .fences, .shuttle, .batten, .time, .loom, .log, .counters, .trace, .bp, .out] s (((s.advanceTo d).squash ldi).closeRebind ldi n (s.tally ldi)) := by
      refine ResTouches.comp (State.closeRebind_touches _ _ _ _) ?_ (by decide)
      exact Touches.comp (State.squash_touches _ _) h1 (by decide)
    revert h2
    generalize ((s.advanceTo d).squash ldi).closeRebind ldi n (s.tally ldi) = r
    intro h2
    cases r with
    | wait w k t => exact Touches.comp (State.suspend_touches _ _ _ _) h2 (by decide)
    | fail _ => exact h1
    | refuse _ => exact h1
    | done _ _ => exact h1
  · exact OutTouches.next (Touches.refl _ _)

theorem windowOpenBody_touches (s : State) (c : Cmd) :
    ResTouches [.batten] s (windowOpenBody s c) := by
  unfold windowOpenBody
  repeat' first
    | with_reducible apply Touches.refl
    | with_reducible assumption
    | with_reducible intro _
    | with_reducible apply ResTouches.fail
    | with_reducible apply ResTouches.refuse
    | with_reducible apply ResTouches.ok
    | with_reducible apply ResTouches.done
    | with_reducible apply ResTouches.wait
    | (with_reducible apply Touches.comp (State.setWindow_touches _ _ _); rotate_left; decide)
    | (with_reducible apply ResTouches.comp (Res.ok_touches _ _ _); rotate_left; decide)
    | with_reducible apply Touches.foldl
    | with_reducible apply Touches.ite
    | with_reducible apply ResTouches.ite
    | split
    | ((with_reducible apply Touches.set_batten); rotate_left; decide)
    | dsimp only

theorem redWindowOpenSpec_touches (t : State) (c : Cmd) :
    ResTouches [.batten] t (redWindowOpenSpec.body t c) := by
  unfold redWindowOpenSpec
  dsimp only
  repeat' first
    | with_reducible apply Touches.refl
    | with_reducible assumption
    | intro _
    | with_reducible apply ResTouches.fail
    | with_reducible apply ResTouches.refuse
    | with_reducible apply ResTouches.ok
    | with_reducible apply ResTouches.done
    | with_reducible apply ResTouches.wait
    | (with_reducible apply ResTouches.comp (windowOpenBody_touches _ _); rotate_left; decide)
    | with_reducible apply Touches.ite
    | with_reducible apply ResTouches.ite
    | split
    | dsimp only

theorem execRedWindowOpen_touches (src : Src) (s : State) :
    OutTouches [.tallies, .fences, .shuttle, .batten, .spdm, .loom, .log, .counters, .trace, .mailbox, .out] s (execRedWindowOpen src s) := by
  unfold execRedWindowOpen
  repeat' first
    | with_reducible apply Touches.refl
    | with_reducible assumption
    | with_reducible intro _
    | with_reducible apply OutTouches.next
    | with_reducible apply OutTouches.nextIf
    | (with_reducible apply State.runSrc_touches; rotate_left; decide)
    | ((with_reducible show Touches _ _ (CmdSpec.after _ _ _)); exact Touches.refl _ _)
    | (with_reducible apply ResTouches.mono (redWindowOpenSpec_touches _ _); decide)
    | with_reducible apply Touches.ite
    | with_reducible apply OutTouches.ite
    | split
    | dsimp only

theorem windowCloseBody_touches (s : State) (c : Cmd) :
    ResTouches [.fences, .batten, .log, .counters, .trace] s (windowCloseBody s c) := by
  unfold windowCloseBody
  repeat' first
    | with_reducible apply Touches.refl
    | with_reducible assumption
    | with_reducible intro _
    | with_reducible apply ResTouches.fail
    | with_reducible apply ResTouches.refuse
    | with_reducible apply ResTouches.ok
    | with_reducible apply ResTouches.done
    | with_reducible apply ResTouches.wait
    | (with_reducible apply ResTouches.comp (Res.ok_touches _ _ _); rotate_left; decide)
    | (with_reducible apply Touches.comp (State.failWindow_touches _ _ _); rotate_left; decide)
    | with_reducible apply Touches.ite
    | with_reducible apply ResTouches.ite
    | split
    | ((with_reducible apply Touches.set_batten); rotate_left; decide)
    | dsimp only

theorem redWindowCloseSpec_touches (t : State) (c : Cmd) :
    ResTouches [.fences, .batten, .log, .counters, .trace] t (redWindowCloseSpec.body t c) := by
  unfold redWindowCloseSpec
  dsimp only
  repeat' first
    | with_reducible apply Touches.refl
    | with_reducible assumption
    | intro _
    | with_reducible apply ResTouches.fail
    | with_reducible apply ResTouches.refuse
    | with_reducible apply ResTouches.ok
    | with_reducible apply ResTouches.done
    | with_reducible apply ResTouches.wait
    | (with_reducible apply ResTouches.comp (windowCloseBody_touches _ _); rotate_left; decide)
    | with_reducible apply Touches.ite
    | with_reducible apply ResTouches.ite
    | split
    | dsimp only

theorem execRedWindowClose_touches (src : Src) (s : State) :
    OutTouches [.tallies, .fences, .shuttle, .batten, .spdm, .loom, .log, .counters, .trace, .mailbox, .out] s (execRedWindowClose src s) := by
  unfold execRedWindowClose
  repeat' first
    | with_reducible apply Touches.refl
    | with_reducible assumption
    | with_reducible intro _
    | with_reducible apply OutTouches.next
    | with_reducible apply OutTouches.nextIf
    | (with_reducible apply State.runSrc_touches; rotate_left; decide)
    | ((with_reducible show Touches _ _ (CmdSpec.after _ _ _)); exact Touches.refl _ _)
    | (with_reducible apply ResTouches.mono (redWindowCloseSpec_touches _ _); decide)
    | with_reducible apply Touches.ite
    | with_reducible apply OutTouches.ite
    | split
    | dsimp only

theorem windowQueryBody_touches (s : State) (c : Cmd) :
    ResTouches [] s (windowQueryBody s c) := by
  unfold windowQueryBody
  repeat' first
    | with_reducible apply Touches.refl
    | with_reducible assumption
    | with_reducible intro _
    | with_reducible apply ResTouches.fail
    | with_reducible apply ResTouches.refuse
    | with_reducible apply ResTouches.ok
    | with_reducible apply ResTouches.done
    | with_reducible apply ResTouches.wait
    | (with_reducible apply ResTouches.comp (Res.ok_touches _ _ _); rotate_left; decide)
    | with_reducible apply Touches.ite
    | with_reducible apply ResTouches.ite
    | split
    | dsimp only

theorem redWindowQuerySpec_touches (t : State) (c : Cmd) :
    ResTouches [] t (redWindowQuerySpec.body t c) := by
  unfold redWindowQuerySpec
  dsimp only
  repeat' first
    | with_reducible apply Touches.refl
    | with_reducible assumption
    | intro _
    | with_reducible apply ResTouches.fail
    | with_reducible apply ResTouches.refuse
    | with_reducible apply ResTouches.ok
    | with_reducible apply ResTouches.done
    | with_reducible apply ResTouches.wait
    | (with_reducible apply ResTouches.comp (windowQueryBody_touches _ _); rotate_left; decide)
    | with_reducible apply Touches.ite
    | with_reducible apply ResTouches.ite
    | split
    | dsimp only

theorem execRedWindowQuery_touches (src : Src) (s : State) :
    OutTouches [.tallies, .fences, .shuttle, .spdm, .loom, .log, .counters, .trace, .mailbox, .out] s (execRedWindowQuery src s) := by
  unfold execRedWindowQuery
  repeat' first
    | with_reducible apply Touches.refl
    | with_reducible assumption
    | with_reducible intro _
    | with_reducible apply OutTouches.next
    | with_reducible apply OutTouches.nextIf
    | (with_reducible apply State.runSrc_touches; rotate_left; decide)
    | ((with_reducible show Touches _ _ (CmdSpec.after _ _ _)); exact Touches.refl _ _)
    | (with_reducible apply ResTouches.mono (redWindowQuerySpec_touches _ _); decide)
    | with_reducible apply Touches.ite
    | with_reducible apply OutTouches.ite
    | split
    | dsimp only

theorem State.allocArr_touches (s : State) (ldi : Nat) (fence : Nat) :
    OptPairTouches [.arrs] s (State.allocArr s ldi fence) := by
  unfold State.allocArr
  repeat' first
    | with_reducible apply Touches.refl
    | with_reducible assumption
    | with_reducible intro _
    | with_reducible apply OptPairTouches.none
    | with_reducible apply OptPairTouches.some
    | with_reducible apply OptPairTouches.map
    | with_reducible apply Touches.ite
    | split
    | ((with_reducible apply Touches.set_tables); rotate_left; exact TablesTouch.set_arrs _ _ _ (by decide))
    | dsimp only

theorem arrAllocBody_touches (s : State) (c : Cmd) :
    ResTouches [.arrs] s (arrAllocBody s c) := by
  unfold arrAllocBody
  repeat' first
    | with_reducible apply Touches.refl
    | with_reducible assumption
    | with_reducible intro _
    | with_reducible apply ResTouches.fail
    | with_reducible apply ResTouches.refuse
    | with_reducible apply ResTouches.ok
    | with_reducible apply ResTouches.done
    | with_reducible apply ResTouches.wait
    | (with_reducible apply Touches.comp (OptPairTouches.get (State.allocArr_touches _ _ _) (by assumption)); rotate_left; decide)
    | (with_reducible apply OptPairTouches.comp (State.allocArr_touches _ _ _); rotate_left; decide)
    | (with_reducible apply ResTouches.comp (Res.ok_touches _ _ _); rotate_left; decide)
    | with_reducible apply Touches.ite
    | with_reducible apply ResTouches.ite
    | split
    | dsimp only

theorem arrAllocSpec_touches (t : State) (c : Cmd) :
    ResTouches [.arrs] t (arrAllocSpec.body t c) := by
  unfold arrAllocSpec
  dsimp only
  repeat' first
    | with_reducible apply Touches.refl
    | with_reducible assumption
    | intro _
    | with_reducible apply ResTouches.fail
    | with_reducible apply ResTouches.refuse
    | with_reducible apply ResTouches.ok
    | with_reducible apply ResTouches.done
    | with_reducible apply ResTouches.wait
    | (with_reducible apply ResTouches.comp (arrAllocBody_touches _ _); rotate_left; decide)
    | with_reducible apply Touches.ite
    | with_reducible apply ResTouches.ite
    | split
    | dsimp only

theorem execArrAlloc_touches (src : Src) (s : State) :
    OutTouches [.tallies, .fences, .arrs, .shuttle, .spdm, .loom, .log, .counters, .trace, .mailbox, .out] s (execArrAlloc src s) := by
  unfold execArrAlloc
  repeat' first
    | with_reducible apply Touches.refl
    | with_reducible assumption
    | with_reducible intro _
    | with_reducible apply OutTouches.next
    | with_reducible apply OutTouches.nextIf
    | (with_reducible apply State.runSrc_touches; rotate_left; decide)
    | ((with_reducible show Touches _ _ (CmdSpec.after _ _ _)); exact Touches.refl _ _)
    | (with_reducible apply ResTouches.mono (arrAllocSpec_touches _ _); decide)
    | with_reducible apply Touches.ite
    | with_reducible apply OutTouches.ite
    | split
    | dsimp only

theorem arrFreeBody_touches (s : State) (c : Cmd) :
    ResTouches [.arrs] s (arrFreeBody s c) := by
  unfold arrFreeBody
  repeat' first
    | with_reducible apply Touches.refl
    | with_reducible assumption
    | with_reducible intro _
    | with_reducible apply ResTouches.fail
    | with_reducible apply ResTouches.refuse
    | with_reducible apply ResTouches.ok
    | with_reducible apply ResTouches.done
    | with_reducible apply ResTouches.wait
    | (with_reducible apply ResTouches.comp (Res.ok_touches _ _ _); rotate_left; decide)
    | with_reducible apply Touches.ite
    | with_reducible apply ResTouches.ite
    | split
    | ((with_reducible apply Touches.set_tables); rotate_left; exact TablesTouch.set_arrs _ _ _ (by decide))
    | dsimp only

theorem arrFreeSpec_touches (t : State) (c : Cmd) :
    ResTouches [.arrs] t (arrFreeSpec.body t c) := by
  unfold arrFreeSpec
  dsimp only
  repeat' first
    | with_reducible apply Touches.refl
    | with_reducible assumption
    | intro _
    | with_reducible apply ResTouches.fail
    | with_reducible apply ResTouches.refuse
    | with_reducible apply ResTouches.ok
    | with_reducible apply ResTouches.done
    | with_reducible apply ResTouches.wait
    | (with_reducible apply ResTouches.comp (arrFreeBody_touches _ _); rotate_left; decide)
    | with_reducible apply Touches.ite
    | with_reducible apply ResTouches.ite
    | split
    | dsimp only

theorem execArrFree_touches (src : Src) (s : State) :
    OutTouches [.tallies, .fences, .arrs, .shuttle, .spdm, .loom, .log, .counters, .trace, .mailbox, .out] s (execArrFree src s) := by
  unfold execArrFree
  repeat' first
    | with_reducible apply Touches.refl
    | with_reducible assumption
    | with_reducible intro _
    | with_reducible apply OutTouches.next
    | with_reducible apply OutTouches.nextIf
    | (with_reducible apply State.runSrc_touches; rotate_left; decide)
    | ((with_reducible show Touches _ _ (CmdSpec.after _ _ _)); exact Touches.refl _ _)
    | (with_reducible apply ResTouches.mono (arrFreeSpec_touches _ _); decide)
    | with_reducible apply Touches.ite
    | with_reducible apply OutTouches.ite
    | split
    | dsimp only

theorem fenCreateBody_touches (s : State) (c : Cmd) :
    ResTouches [.fences] s (fenCreateBody s c) := by
  unfold fenCreateBody
  repeat' first
    | with_reducible apply Touches.refl
    | with_reducible assumption
    | with_reducible intro _
    | with_reducible apply ResTouches.fail
    | with_reducible apply ResTouches.refuse
    | with_reducible apply ResTouches.ok
    | with_reducible apply ResTouches.done
    | with_reducible apply ResTouches.wait
    | (with_reducible apply Touches.comp (OptPairTouches.get (State.allocFence_touches _ _ _) (by assumption)); rotate_left; decide)
    | (with_reducible apply OptPairTouches.comp (State.allocFence_touches _ _ _); rotate_left; decide)
    | (with_reducible apply ResTouches.comp (Res.ok_touches _ _ _); rotate_left; decide)
    | with_reducible apply Touches.ite
    | with_reducible apply ResTouches.ite
    | split
    | dsimp only

theorem fenCreateSpec_touches (t : State) (c : Cmd) :
    ResTouches [.fences] t (fenCreateSpec.body t c) := by
  unfold fenCreateSpec
  dsimp only
  repeat' first
    | with_reducible apply Touches.refl
    | with_reducible assumption
    | intro _
    | with_reducible apply ResTouches.fail
    | with_reducible apply ResTouches.refuse
    | with_reducible apply ResTouches.ok
    | with_reducible apply ResTouches.done
    | with_reducible apply ResTouches.wait
    | (with_reducible apply ResTouches.comp (fenCreateBody_touches _ _); rotate_left; decide)
    | with_reducible apply Touches.ite
    | with_reducible apply ResTouches.ite
    | split
    | dsimp only

theorem execFenCreate_touches (src : Src) (s : State) :
    OutTouches [.tallies, .fences, .shuttle, .spdm, .loom, .log, .counters, .trace, .mailbox, .out] s (execFenCreate src s) := by
  unfold execFenCreate
  repeat' first
    | with_reducible apply Touches.refl
    | with_reducible assumption
    | with_reducible intro _
    | with_reducible apply OutTouches.next
    | with_reducible apply OutTouches.nextIf
    | (with_reducible apply State.runSrc_touches; rotate_left; decide)
    | ((with_reducible show Touches _ _ (CmdSpec.after _ _ _)); exact Touches.refl _ _)
    | (with_reducible apply ResTouches.mono (fenCreateSpec_touches _ _); decide)
    | with_reducible apply Touches.ite
    | with_reducible apply OutTouches.ite
    | split
    | dsimp only

theorem registerBody_touches (s : State) (c : Cmd) :
    ResTouches [.fences, .bp, .out] s (registerBody s c) := by
  unfold registerBody
  repeat' first
    | with_reducible apply Touches.refl
    | with_reducible assumption
    | with_reducible intro _
    | with_reducible apply ResTouches.fail
    | with_reducible apply ResTouches.refuse
    | with_reducible apply ResTouches.ok
    | with_reducible apply ResTouches.done
    | with_reducible apply ResTouches.wait
    | (with_reducible apply Touches.comp (State.setFence_touches _ _ _); rotate_left; decide)
    | (with_reducible apply Touches.comp (State.publish_touches _ _); rotate_left; decide)
    | (with_reducible apply Touches.comp (Touches.of_eq (by assumption) (State.publish_touches _ _)); rotate_left; decide)
    | with_reducible apply Touches.ite
    | with_reducible apply ResTouches.ite
    | split
    | dsimp only

theorem fenRegisterProducerSpec_touches (t : State) (c : Cmd) :
    ResTouches [.fences, .bp, .out] t (fenRegisterProducerSpec.body t c) := by
  unfold fenRegisterProducerSpec
  dsimp only
  repeat' first
    | with_reducible apply Touches.refl
    | with_reducible assumption
    | intro _
    | with_reducible apply ResTouches.fail
    | with_reducible apply ResTouches.refuse
    | with_reducible apply ResTouches.ok
    | with_reducible apply ResTouches.done
    | with_reducible apply ResTouches.wait
    | (with_reducible apply ResTouches.comp (registerBody_touches _ _); rotate_left; decide)
    | with_reducible apply Touches.ite
    | with_reducible apply ResTouches.ite
    | split
    | dsimp only

theorem execFenRegisterProducer_touches (src : Src) (s : State) :
    OutTouches [.tallies, .fences, .shuttle, .spdm, .loom, .log, .counters, .trace, .bp, .mailbox, .out] s (execFenRegisterProducer src s) := by
  unfold execFenRegisterProducer
  repeat' first
    | with_reducible apply Touches.refl
    | with_reducible assumption
    | with_reducible intro _
    | with_reducible apply OutTouches.next
    | with_reducible apply OutTouches.nextIf
    | (with_reducible apply State.runSrc_touches; rotate_left; decide)
    | ((with_reducible show Touches _ _ (CmdSpec.after _ _ _)); exact Touches.refl _ _)
    | (with_reducible apply ResTouches.mono (fenRegisterProducerSpec_touches _ _); decide)
    | with_reducible apply Touches.ite
    | with_reducible apply OutTouches.ite
    | split
    | dsimp only

theorem fenDestroyBody_touches (s : State) (c : Cmd) :
    ResTouches [.fences] s (fenDestroyBody s c) := by
  unfold fenDestroyBody
  repeat' first
    | with_reducible apply Touches.refl
    | with_reducible assumption
    | with_reducible intro _
    | with_reducible apply ResTouches.fail
    | with_reducible apply ResTouches.refuse
    | with_reducible apply ResTouches.ok
    | with_reducible apply ResTouches.done
    | with_reducible apply ResTouches.wait
    | (with_reducible apply Touches.comp (State.freeFence_touches _ _); rotate_left; decide)
    | (with_reducible apply ResTouches.comp (Res.ok_touches _ _ _); rotate_left; decide)
    | with_reducible apply Touches.ite
    | with_reducible apply ResTouches.ite
    | split
    | dsimp only

theorem fenDestroySpec_touches (t : State) (c : Cmd) :
    ResTouches [.fences] t (fenDestroySpec.body t c) := by
  unfold fenDestroySpec
  dsimp only
  repeat' first
    | with_reducible apply Touches.refl
    | with_reducible assumption
    | intro _
    | with_reducible apply ResTouches.fail
    | with_reducible apply ResTouches.refuse
    | with_reducible apply ResTouches.ok
    | with_reducible apply ResTouches.done
    | with_reducible apply ResTouches.wait
    | (with_reducible apply ResTouches.comp (fenDestroyBody_touches _ _); rotate_left; decide)
    | with_reducible apply Touches.ite
    | with_reducible apply ResTouches.ite
    | split
    | dsimp only

theorem execFenDestroy_touches (src : Src) (s : State) :
    OutTouches [.tallies, .fences, .shuttle, .spdm, .loom, .log, .counters, .trace, .mailbox, .out] s (execFenDestroy src s) := by
  unfold execFenDestroy
  repeat' first
    | with_reducible apply Touches.refl
    | with_reducible assumption
    | with_reducible intro _
    | with_reducible apply OutTouches.next
    | with_reducible apply OutTouches.nextIf
    | (with_reducible apply State.runSrc_touches; rotate_left; decide)
    | ((with_reducible show Touches _ _ (CmdSpec.after _ _ _)); exact Touches.refl _ _)
    | (with_reducible apply ResTouches.mono (fenDestroySpec_touches _ _); decide)
    | with_reducible apply Touches.ite
    | with_reducible apply OutTouches.ite
    | split
    | dsimp only

end Sys2Proof.Machine
end

