-- ==== Sys2Proof/Laws/Touches/Tdi.lean ====
section
/-!
SUPPORT. What the operations of Machine/Tdi.lean touch, one law for each.
-/
namespace Sys2Proof.Machine

set_option linter.unusedTactic false
set_option linter.unreachableTactic false

theorem State.kpSend_touches (s : State) (r : KpRec) :
    Touches [.link, .out] s (State.kpSend s r) := by
  unfold State.kpSend
  repeat' first
    | with_reducible apply Touches.refl
    | with_reducible assumption
    | with_reducible intro _
    | (with_reducible apply Touches.comp (State.emit_touches _ _); rotate_left; decide)
    | with_reducible apply Touches.ite
    | split
    | ((with_reducible apply Touches.set_link); rotate_left; decide)
    | dsimp only

theorem State.setTdi_touches (s : State) (func : Nat) (t : Tdi) :
    Touches [.link] s (State.setTdi s func t) := by
  unfold State.setTdi
  repeat' first
    | with_reducible apply Touches.refl
    | with_reducible assumption
    | with_reducible intro _
    | with_reducible apply Touches.ite
    | split
    | ((with_reducible apply Touches.set_link); rotate_left; decide)
    | dsimp only

theorem State.forgetInstalls_touches (s : State) (func : Nat) :
    Touches [.keys, .link] s (State.forgetInstalls s func) := by
  unfold State.forgetInstalls
  repeat' first
    | with_reducible apply Touches.refl
    | with_reducible assumption
    | with_reducible intro _
    | (with_reducible apply Touches.comp (State.clearSlot_touches _ _); rotate_left; decide)
    | with_reducible apply Touches.foldl
    | with_reducible apply Touches.ite
    | split
    | ((with_reducible apply Touches.set_link); rotate_left; decide)
    | dsimp only

theorem State.invalidate_touches (s : State) (func : Nat) :
    Touches [.keys, .link, .out] s (State.invalidate s func) := by
  unfold State.invalidate
  repeat' first
    | with_reducible apply Touches.refl
    | with_reducible assumption
    | with_reducible intro _
    | (with_reducible apply Touches.comp (State.kpSend_touches _ _); rotate_left; decide)
    | (with_reducible apply Touches.comp (State.setTdi_touches _ _ _); rotate_left; decide)
    | (with_reducible apply Touches.comp (State.forgetInstalls_touches _ _); rotate_left; decide)
    | with_reducible apply Touches.ite
    | split
    | dsimp only

theorem State.tdiUnlock_touches (s : State) (func : Nat) :
    Touches [.keys, .link, .out] s (State.tdiUnlock s func) := by
  unfold State.tdiUnlock
  repeat' first
    | with_reducible apply Touches.refl
    | with_reducible assumption
    | with_reducible intro _
    | (with_reducible apply Touches.comp (State.setTdi_touches _ _ _); rotate_left; decide)
    | (with_reducible apply Touches.comp (State.invalidate_touches _ _); rotate_left; decide)
    | with_reducible apply Touches.ite
    | split
    | dsimp only

theorem State.tdiAbort_touches (s : State) (func : Nat) :
    Touches [.doms, .tallies, .fences, .quarantine, .weft, .shuttle, .batten, .spindle, .keys, .loom, .log, .counters, .trace, .events, .bp, .link, .out] s (State.tdiAbort s func) := by
  unfold State.tdiAbort
  repeat' first
    | with_reducible apply Touches.refl
    | with_reducible assumption
    | with_reducible intro _
    | (with_reducible apply Touches.comp (State.endSpent_touches _); rotate_left; decide)
    | (with_reducible apply Touches.comp (State.abort_touches _ _ _ _); rotate_left; decide)
    | (with_reducible apply Touches.comp (State.internalEntry_touches _); rotate_left; decide)
    | with_reducible apply Touches.ite
    | split
    | dsimp only

theorem State.tdiStop_touches (s : State) (func : Nat) :
    Touches [.doms, .tallies, .fences, .quarantine, .weft, .shuttle, .batten, .spindle, .keys, .loom, .log, .counters, .trace, .events, .bp, .link, .out] s (State.tdiStop s func) := by
  unfold State.tdiStop
  repeat' first
    | with_reducible apply Touches.refl
    | with_reducible assumption
    | with_reducible intro _
    | (with_reducible apply Touches.comp (State.tdiUnlock_touches _ _); rotate_left; decide)
    | (with_reducible apply Touches.comp (State.tdiAbort_touches _ _); rotate_left; decide)
    | with_reducible apply Touches.ite
    | split
    | dsimp only

end Sys2Proof.Machine
end

