-- ==== Sys2Proof/Laws/Touches/Domains.lean ====
section
/-!
SUPPORT. What the operations of Machine/Domains.lean touch, one law for each.
-/
namespace Sys2Proof.Machine

set_option linter.unusedTactic false
set_option linter.unreachableTactic false

theorem createBody_touches (s : State) (c : Cmd) :
    ResTouches [.doms, .tallies, .fences, .keys, .bp, .otp, .out] s (createBody s c) := by
  unfold createBody
  repeat' first
    | with_reducible apply Touches.refl
    | with_reducible assumption
    | (exact BitVec.and_self)
    | (exact Otp.program_keeps _ _ _)
    | with_reducible intro _
    | with_reducible apply ResTouches.fail
    | with_reducible apply ResTouches.refuse
    | with_reducible apply ResTouches.ok
    | with_reducible apply ResTouches.done
    | with_reducible apply ResTouches.wait
    | (with_reducible apply Touches.comp (OptPairTouches.get (State.allocFence_touches _ _ _) (by assumption)); rotate_left; decide)
    | (with_reducible apply OptPairTouches.comp (State.allocFence_touches _ _ _); rotate_left; decide)
    | (with_reducible apply Touches.comp (State.installMemKeys_touches _ _); rotate_left; decide)
    | (with_reducible apply Touches.comp (State.publish_touches _ _); rotate_left; decide)
    | (with_reducible apply Touches.comp (Touches.of_eq (by assumption) (State.publish_touches _ _)); rotate_left; decide)
    | (with_reducible apply Touches.comp (State.setDom_touches _ _ _); rotate_left; decide)
    | (with_reducible apply ResTouches.comp (Res.ok_touches _ _ _); rotate_left; decide)
    | with_reducible apply Touches.ite
    | with_reducible apply ResTouches.ite
    | split
    | ((with_reducible apply Touches.set_otp); rotate_left; decide)
    | dsimp only

theorem domCreateSpec_touches (t : State) (c : Cmd) :
    ResTouches [.doms, .tallies, .fences, .keys, .bp, .otp, .out] t (domCreateSpec.body t c) := by
  unfold domCreateSpec
  dsimp only
  repeat' first
    | with_reducible apply Touches.refl
    | with_reducible assumption
    | exact BitVec.and_self
    | intro _
    | with_reducible apply ResTouches.fail
    | with_reducible apply ResTouches.refuse
    | with_reducible apply ResTouches.ok
    | with_reducible apply ResTouches.done
    | with_reducible apply ResTouches.wait
    | (with_reducible apply ResTouches.comp (createBody_touches _ _); rotate_left; decide)
    | with_reducible apply Touches.ite
    | with_reducible apply ResTouches.ite
    | split
    | dsimp only

theorem execDomCreate_touches (src : Src) (s : State) :
    OutTouches [.doms, .tallies, .fences, .shuttle, .keys, .spdm, .loom, .log, .counters, .trace, .bp, .mailbox, .otp, .out] s (execDomCreate src s) := by
  unfold execDomCreate
  repeat' first
    | with_reducible apply Touches.refl
    | with_reducible assumption
    | (exact BitVec.and_self)
    | (exact Otp.program_keeps _ _ _)
    | with_reducible intro _
    | with_reducible apply OutTouches.next
    | with_reducible apply OutTouches.nextIf
    | (with_reducible apply State.runSrc_touches; rotate_left; decide)
    | ((with_reducible show Touches _ _ (CmdSpec.after _ _ _)); exact Touches.refl _ _)
    | (with_reducible apply ResTouches.mono (domCreateSpec_touches _ _); decide)
    | with_reducible apply Touches.ite
    | with_reducible apply OutTouches.ite
    | split
    | dsimp only

theorem setPolicyBody_touches (s : State) (c : Cmd) :
    ResTouches [.doms, .tallies] s (setPolicyBody s c) := by
  unfold setPolicyBody
  repeat' first
    | with_reducible apply Touches.refl
    | with_reducible assumption
    | with_reducible intro _
    | with_reducible apply ResTouches.fail
    | with_reducible apply ResTouches.refuse
    | with_reducible apply ResTouches.ok
    | with_reducible apply ResTouches.done
    | with_reducible apply ResTouches.wait
    | (with_reducible apply Touches.comp (State.setDom_touches _ _ _); rotate_left; decide)
    | (with_reducible apply ResTouches.comp (Res.ok_touches _ _ _); rotate_left; decide)
    | with_reducible apply Touches.ite
    | with_reducible apply ResTouches.ite
    | split
    | dsimp only

theorem domSetPolicySpec_touches (t : State) (c : Cmd) :
    ResTouches [.doms, .tallies] t (domSetPolicySpec.body t c) := by
  unfold domSetPolicySpec
  dsimp only
  repeat' first
    | with_reducible apply Touches.refl
    | with_reducible assumption
    | intro _
    | with_reducible apply ResTouches.fail
    | with_reducible apply ResTouches.refuse
    | with_reducible apply ResTouches.ok
    | with_reducible apply ResTouches.done
    | with_reducible apply ResTouches.wait
    | (with_reducible apply ResTouches.comp (setPolicyBody_touches _ _); rotate_left; decide)
    | with_reducible apply Touches.ite
    | with_reducible apply ResTouches.ite
    | split
    | dsimp only

theorem execDomSetPolicy_touches (src : Src) (s : State) :
    OutTouches [.doms, .tallies, .fences, .shuttle, .spdm, .loom, .log, .counters, .trace, .mailbox, .out] s (execDomSetPolicy src s) := by
  unfold execDomSetPolicy
  repeat' first
    | with_reducible apply Touches.refl
    | with_reducible assumption
    | with_reducible intro _
    | with_reducible apply OutTouches.next
    | with_reducible apply OutTouches.nextIf
    | (with_reducible apply State.runSrc_touches; rotate_left; decide)
    | ((with_reducible show Touches _ _ (CmdSpec.after _ _ _)); exact Touches.refl _ _)
    | (with_reducible apply ResTouches.mono (domSetPolicySpec_touches _ _); decide)
    | with_reducible apply Touches.ite
    | with_reducible apply OutTouches.ite
    | split
    | dsimp only

theorem addContextBody_touches (s : State) (c : Cmd) :
    ResTouches [.contexts, .loom, .bp, .out] s (addContextBody s c) := by
  unfold addContextBody
  extract_lets n qs
  refine ResTouches.ite (fun _ => ResTouches.fail _ _ _) (fun _ => ?_)
  refine ResTouches.ite (fun _ => ResTouches.fail _ _ _) (fun _ => ?_)
  refine ResTouches.ite (fun _ => ResTouches.fail _ _ _) (fun _ => ?_)
  generalize s.freeContext = a
  generalize s.freeCslot c.ldi = b
  cases a with
  | none => exact ResTouches.fail _ _ _
  | some i =>
    cases b with
    | none => exact ResTouches.fail _ _ _
    | some k =>
      dsimp -zeta only
      extract_lets x t e
      have ht : Touches [.contexts, .loom, .bp, .out] s t.2 :=
        Touches.comp (State.publish_touches _ _)
          (Touches.set_tables _ (Touches.refl _ _) (TablesTouch.set_contexts _ (by decide))) (by decide)
      refine ResTouches.wait ?_
      generalize e = o
      cases o with
      | none => exact ht
      | some y => exact Touches.comp (State.setEntry_touches _ _) ht (by decide)

theorem domAddContextSpec_touches (t : State) (c : Cmd) :
    ResTouches [.contexts, .loom, .bp, .out] t (domAddContextSpec.body t c) := by
  unfold domAddContextSpec
  dsimp only
  repeat' first
    | with_reducible apply Touches.refl
    | with_reducible assumption
    | intro _
    | with_reducible apply ResTouches.fail
    | with_reducible apply ResTouches.refuse
    | with_reducible apply ResTouches.ok
    | with_reducible apply ResTouches.done
    | with_reducible apply ResTouches.wait
    | (with_reducible apply ResTouches.comp (addContextBody_touches _ _); rotate_left; decide)
    | with_reducible apply Touches.ite
    | with_reducible apply ResTouches.ite
    | split
    | dsimp only

theorem execDomAddContext_touches (src : Src) (s : State) :
    OutTouches [.tallies, .contexts, .fences, .shuttle, .spdm, .loom, .log, .counters, .trace, .bp, .mailbox, .out] s (execDomAddContext src s) := by
  unfold execDomAddContext
  repeat' first
    | with_reducible apply Touches.refl
    | with_reducible assumption
    | with_reducible intro _
    | with_reducible apply OutTouches.next
    | with_reducible apply OutTouches.nextIf
    | (with_reducible apply State.runSrc_touches; rotate_left; decide)
    | ((with_reducible show Touches _ _ (CmdSpec.after _ _ _)); exact Touches.refl _ _)
    | (with_reducible apply ResTouches.mono (domAddContextSpec_touches _ _); decide)
    | with_reducible apply Touches.ite
    | with_reducible apply OutTouches.ite
    | split
    | dsimp only

theorem releaseContextBody_touches (s : State) (c : Cmd) :
    ResTouches [.contexts, .bp, .out] s (releaseContextBody s c) := by
  unfold releaseContextBody
  repeat' first
    | with_reducible apply Touches.refl
    | with_reducible assumption
    | with_reducible intro _
    | with_reducible apply ResTouches.fail
    | with_reducible apply ResTouches.refuse
    | with_reducible apply ResTouches.ok
    | with_reducible apply ResTouches.done
    | with_reducible apply ResTouches.wait
    | (with_reducible apply Touches.comp (State.publish_touches _ _); rotate_left; decide)
    | (with_reducible apply Touches.comp (Touches.of_eq (by assumption) (State.publish_touches _ _)); rotate_left; decide)
    | with_reducible apply Touches.ite
    | with_reducible apply ResTouches.ite
    | split
    | ((with_reducible apply Touches.set_tables); rotate_left; exact TablesTouch.set_contexts _ (by decide))
    | dsimp only

theorem domReleaseContextSpec_touches (t : State) (c : Cmd) :
    ResTouches [.contexts, .bp, .out] t (domReleaseContextSpec.body t c) := by
  unfold domReleaseContextSpec
  dsimp only
  repeat' first
    | with_reducible apply Touches.refl
    | with_reducible assumption
    | intro _
    | with_reducible apply ResTouches.fail
    | with_reducible apply ResTouches.refuse
    | with_reducible apply ResTouches.ok
    | with_reducible apply ResTouches.done
    | with_reducible apply ResTouches.wait
    | (with_reducible apply ResTouches.comp (releaseContextBody_touches _ _); rotate_left; decide)
    | with_reducible apply Touches.ite
    | with_reducible apply ResTouches.ite
    | split
    | dsimp only

theorem execDomReleaseContext_touches (src : Src) (s : State) :
    OutTouches [.tallies, .contexts, .fences, .shuttle, .spdm, .loom, .log, .counters, .trace, .bp, .mailbox, .out] s (execDomReleaseContext src s) := by
  unfold execDomReleaseContext
  repeat' first
    | with_reducible apply Touches.refl
    | with_reducible assumption
    | with_reducible intro _
    | with_reducible apply OutTouches.next
    | with_reducible apply OutTouches.nextIf
    | (with_reducible apply State.runSrc_touches; rotate_left; decide)
    | ((with_reducible show Touches _ _ (CmdSpec.after _ _ _)); exact Touches.refl _ _)
    | (with_reducible apply ResTouches.mono (domReleaseContextSpec_touches _ _); decide)
    | with_reducible apply Touches.ite
    | with_reducible apply OutTouches.ite
    | split
    | dsimp only

theorem State.goneFence_touches (s : State) (ldi : Nat) (ctx : Nat) (handle : Nat) (o : FenceOrigin) :
    Touches [.fences] s (State.goneFence s ldi ctx handle o) := by
  unfold State.goneFence
  repeat' first
    | with_reducible apply Touches.refl
    | with_reducible assumption
    | with_reducible intro _
    | (with_reducible apply Touches.comp (State.post_touches _ _ _ _ _); rotate_left; decide)
    | with_reducible apply Touches.ite
    | split
    | dsimp only

theorem State.cancelLane_touches (s : State) (ldi : Nat) (ctx : Nat) (k : Nat) (n : Nat) :
    Touches [.tallies, .fences, .weft, .log, .counters, .trace, .out] s (State.cancelLane s ldi ctx k n).1 := by
  unfold State.cancelLane
  repeat' first
    | with_reducible apply Touches.refl
    | with_reducible assumption
    | with_reducible intro _
    | (with_reducible apply Touches.comp (State.answer_touches _ _ _ _ _); rotate_left; decide)
    | (with_reducible apply Touches.comp (State.setLane_touches _ _ _); rotate_left; decide)
    | (with_reducible apply Touches.comp (State.settle_touches _); rotate_left; decide)
    | (with_reducible apply Touches.comp (State.goneFence_touches _ _ _ _ _); rotate_left; decide)
    | with_reducible apply Touches.foldl
    | with_reducible apply Touches.foldl_fst
    | with_reducible apply Touches.foldl_snd
    | with_reducible apply Touches.ite
    | split
    | dsimp only

theorem State.cancelBatten_touches (s : State) (ldi : Nat) (ctx : Nat) (k : Nat) :
    Touches [.tallies, .fences, .batten, .log, .counters, .trace, .out] s (State.cancelBatten s ldi ctx k).1 := by
  unfold State.cancelBatten
  repeat' first
    | with_reducible apply Touches.refl
    | with_reducible assumption
    | with_reducible intro _
    | (with_reducible apply Touches.comp (State.settle_touches _); rotate_left; decide)
    | (with_reducible apply Touches.comp (State.goneFence_touches _ _ _ _ _); rotate_left; decide)
    | (with_reducible apply Touches.comp (State.emit_touches _ _); rotate_left; decide)
    | with_reducible apply Touches.foldl
    | with_reducible apply Touches.foldl_fst
    | with_reducible apply Touches.foldl_snd
    | with_reducible apply Touches.ite
    | split
    | ((with_reducible apply Touches.set_batten); rotate_left; decide)
    | dsimp only

theorem State.scrubGranules_touches (s : State) (ldi : Nat) (gs : List Nat) (toOwned : Bool) (jid : Option Nat) :
    Touches [.tallies, .got, .weft] s (State.scrubGranules s ldi gs toOwned jid) := by
  unfold State.scrubGranules
  repeat' first
    | with_reducible apply Touches.refl
    | with_reducible assumption
    | with_reducible intro _
    | (with_reducible apply Touches.comp (State.accrue_touches _ _); rotate_left; decide)
    | (with_reducible apply Touches.comp (State.setGot_touches _ _ _); rotate_left; decide)
    | with_reducible apply Touches.foldl
    | with_reducible apply Touches.ite
    | split
    | ((with_reducible apply Touches.set_weft); rotate_left; decide)
    | dsimp only

theorem State.finishRelease_touches (s : State) (ldi : Nat) (ctx : Nat) :
    Touches [.tallies, .got, .contexts, .fences, .weft, .batten, .log, .counters, .trace, .out] s (State.finishRelease s ldi ctx).1 := by
  unfold State.finishRelease
  repeat' first
    | with_reducible apply Touches.refl
    | with_reducible assumption
    | with_reducible intro _
    | (with_reducible apply Touches.comp (State.scrubGranules_touches _ _ _ _ _); rotate_left; decide)
    | (with_reducible apply Touches.comp (State.cancelLane_touches _ _ _ _ _); rotate_left; decide)
    | (with_reducible apply Touches.comp (Touches.of_eq' (by assumption) (State.cancelLane_touches _ _ _ _ _)); rotate_left; decide)
    | (with_reducible apply Touches.comp (State.settle_touches _); rotate_left; decide)
    | (with_reducible apply Touches.comp (State.signal_touches _ _ _ _); rotate_left; decide)
    | (with_reducible apply Touches.comp (State.cancelBatten_touches _ _ _ _); rotate_left; decide)
    | (with_reducible apply Touches.comp (Touches.of_eq' (by assumption) (State.cancelBatten_touches _ _ _ _)); rotate_left; decide)
    | with_reducible apply Touches.foldl
    | with_reducible apply Touches.foldl_fst
    | with_reducible apply Touches.foldl_snd
    | with_reducible apply Touches.ite
    | split
    | ((with_reducible apply Touches.set_tables); rotate_left; exact TablesTouch.set_contexts _ (by decide))
    | dsimp only

theorem State.startRunning_touches (s : State) (ldi : Nat) :
    Touches [.doms, .tallies, .shuttle, .time] s (State.startRunning s ldi) := by
  unfold State.startRunning
  repeat' first
    | with_reducible apply Touches.refl
    | with_reducible assumption
    | with_reducible intro _
    | (with_reducible apply Touches.comp (State.setDom_touches _ _ _); rotate_left; decide)
    | with_reducible apply Touches.ite
    | split
    | ((with_reducible apply Touches.set_shuttle_time); rotate_left; decide; decide)
    | dsimp only

theorem sealBuilding_touches (s : State) (c : Cmd) :
    ResTouches [.doms, .tallies, .shuttle, .keys, .entropy, .time, .counters, .bp, .out] s (sealBuilding s c) := by
  unfold sealBuilding
  repeat' first
    | with_reducible apply Touches.refl
    | with_reducible assumption
    | with_reducible exact Nat.le_refl _
    | with_reducible exact Nat.le_succ _
    | with_reducible intro _
    | with_reducible apply ResTouches.fail
    | with_reducible apply ResTouches.refuse
    | with_reducible apply ResTouches.ok
    | with_reducible apply ResTouches.done
    | with_reducible apply ResTouches.wait
    | (with_reducible apply Touches.comp (State.draw_touches _); rotate_left; decide)
    | (with_reducible apply Touches.comp (Touches.of_eq (by assumption) (State.draw_touches _)); rotate_left; decide)
    | (with_reducible apply Touches.comp (State.setFixed_touches _ _ _ _ _); rotate_left; decide)
    | (with_reducible apply Touches.comp (State.publish_touches _ _); rotate_left; decide)
    | (with_reducible apply Touches.comp (Touches.of_eq (by assumption) (State.publish_touches _ _)); rotate_left; decide)
    | (with_reducible apply Touches.comp (State.setDom_touches _ _ _); rotate_left; decide)
    | (with_reducible apply ResTouches.comp (Res.ok_touches _ _ _); rotate_left; decide)
    | (with_reducible apply Touches.comp (State.sendPolicy_touches _ _ _); rotate_left; decide)
    | (with_reducible apply Touches.comp (State.startRunning_touches _ _); rotate_left; decide)
    | with_reducible apply Touches.foldl
    | with_reducible apply Touches.ite
    | with_reducible apply ResTouches.ite
    | split
    | dsimp only

theorem sealBody_touches (s : State) (c : Cmd) :
    ResTouches [.doms, .tallies, .shuttle, .keys, .entropy, .time, .counters, .bp, .out] s (sealBody s c) := by
  unfold sealBody
  repeat' first
    | with_reducible apply Touches.refl
    | with_reducible assumption
    | with_reducible exact Nat.le_refl _
    | with_reducible exact Nat.le_succ _
    | with_reducible intro _
    | with_reducible apply ResTouches.fail
    | with_reducible apply ResTouches.refuse
    | with_reducible apply ResTouches.ok
    | with_reducible apply ResTouches.done
    | with_reducible apply ResTouches.wait
    | (with_reducible apply ResTouches.comp (sealBuilding_touches _ _); rotate_left; decide)
    | (with_reducible apply Touches.comp (State.publish_touches _ _); rotate_left; decide)
    | (with_reducible apply Touches.comp (Touches.of_eq (by assumption) (State.publish_touches _ _)); rotate_left; decide)
    | (with_reducible apply ResTouches.comp (Res.ok_touches _ _ _); rotate_left; decide)
    | (with_reducible apply Touches.comp (State.startRunning_touches _ _); rotate_left; decide)
    | with_reducible apply Touches.ite
    | with_reducible apply ResTouches.ite
    | split
    | dsimp only

theorem domSealSpec_touches (t : State) (c : Cmd) :
    ResTouches [.doms, .tallies, .fences, .quarantine, .weft, .shuttle, .batten, .spindle, .keys, .entropy, .time, .loom, .log, .counters, .trace, .events, .bp, .link, .out] t (domSealSpec.body t c) := by
  unfold domSealSpec
  dsimp only
  repeat' first
    | with_reducible apply Touches.refl
    | with_reducible assumption
    | intro _
    | with_reducible apply ResTouches.fail
    | with_reducible apply ResTouches.refuse
    | with_reducible apply ResTouches.ok
    | with_reducible apply ResTouches.done
    | with_reducible apply ResTouches.wait
    | (with_reducible apply ResTouches.comp (sealBody_touches _ _); rotate_left; decide)
    | (with_reducible apply Touches.comp (endSpentAfter_touches _ _); rotate_left; decide)
    | with_reducible apply Touches.ite
    | with_reducible apply ResTouches.ite
    | split
    | dsimp only

theorem execDomSeal_touches (src : Src) (s : State) :
    OutTouches [.doms, .tallies, .fences, .quarantine, .weft, .shuttle, .batten, .spindle, .keys, .entropy, .spdm, .time, .loom, .log, .counters, .trace, .events, .bp, .mailbox, .link, .out] s (execDomSeal src s) := by
  unfold execDomSeal
  repeat' first
    | with_reducible apply Touches.refl
    | with_reducible assumption
    | with_reducible exact Nat.le_refl _
    | with_reducible exact Nat.le_succ _
    | with_reducible intro _
    | with_reducible apply OutTouches.next
    | with_reducible apply OutTouches.nextIf
    | (with_reducible apply State.runSrc_touches; rotate_left; decide)
    | ((with_reducible show Touches _ _ (CmdSpec.after _ _ _)); exact (State.endSpent_touches _).mono (by decide))
    | (with_reducible apply ResTouches.mono (domSealSpec_touches _ _); decide)
    | with_reducible apply Touches.ite
    | with_reducible apply OutTouches.ite
    | split
    | dsimp only

theorem quiesceBody_touches (s : State) (c : Cmd) :
    ResTouches [.doms, .tallies, .bp, .out] s (quiesceBody s c) := by
  unfold quiesceBody
  repeat' first
    | with_reducible apply Touches.refl
    | with_reducible assumption
    | with_reducible intro _
    | with_reducible apply ResTouches.fail
    | with_reducible apply ResTouches.refuse
    | with_reducible apply ResTouches.ok
    | with_reducible apply ResTouches.done
    | with_reducible apply ResTouches.wait
    | (with_reducible apply Touches.comp (State.publish_touches _ _); rotate_left; decide)
    | (with_reducible apply Touches.comp (Touches.of_eq (by assumption) (State.publish_touches _ _)); rotate_left; decide)
    | (with_reducible apply Touches.comp (State.setDom_touches _ _ _); rotate_left; decide)
    | (with_reducible apply ResTouches.comp (Res.ok_touches _ _ _); rotate_left; decide)
    | with_reducible apply Touches.ite
    | with_reducible apply ResTouches.ite
    | split
    | dsimp only

theorem domQuiesceSpec_touches (t : State) (c : Cmd) :
    ResTouches [.doms, .tallies, .bp, .out] t (domQuiesceSpec.body t c) := by
  unfold domQuiesceSpec
  dsimp only
  repeat' first
    | with_reducible apply Touches.refl
    | with_reducible assumption
    | intro _
    | with_reducible apply ResTouches.fail
    | with_reducible apply ResTouches.refuse
    | with_reducible apply ResTouches.ok
    | with_reducible apply ResTouches.done
    | with_reducible apply ResTouches.wait
    | (with_reducible apply ResTouches.comp (quiesceBody_touches _ _); rotate_left; decide)
    | with_reducible apply Touches.ite
    | with_reducible apply ResTouches.ite
    | split
    | dsimp only

theorem execDomQuiesce_touches (src : Src) (s : State) :
    OutTouches [.doms, .tallies, .fences, .shuttle, .spdm, .loom, .log, .counters, .trace, .bp, .mailbox, .out] s (execDomQuiesce src s) := by
  unfold execDomQuiesce
  repeat' first
    | with_reducible apply Touches.refl
    | with_reducible assumption
    | with_reducible intro _
    | with_reducible apply OutTouches.next
    | with_reducible apply OutTouches.nextIf
    | (with_reducible apply State.runSrc_touches; rotate_left; decide)
    | ((with_reducible show Touches _ _ (CmdSpec.after _ _ _)); exact Touches.refl _ _)
    | (with_reducible apply ResTouches.mono (domQuiesceSpec_touches _ _); decide)
    | with_reducible apply Touches.ite
    | with_reducible apply OutTouches.ite
    | split
    | dsimp only

theorem abortBody_touches (s : State) (c : Cmd) :
    ResTouches [.doms, .tallies, .fences, .weft, .shuttle, .batten, .spindle, .keys, .loom, .log, .counters, .trace, .events, .bp, .link, .out] s (abortBody s c) := by
  unfold abortBody
  repeat' first
    | with_reducible apply Touches.refl
    | with_reducible assumption
    | with_reducible intro _
    | with_reducible apply ResTouches.fail
    | with_reducible apply ResTouches.refuse
    | with_reducible apply ResTouches.ok
    | with_reducible apply ResTouches.done
    | with_reducible apply ResTouches.wait
    | (with_reducible apply Touches.comp (State.abort_touches _ _ _ _); rotate_left; decide)
    | (with_reducible apply ResTouches.comp (Res.ok_touches _ _ _); rotate_left; decide)
    | with_reducible apply Touches.ite
    | with_reducible apply ResTouches.ite
    | split
    | dsimp only

theorem domAbortSpec_touches (t : State) (c : Cmd) :
    ResTouches [.doms, .tallies, .fences, .quarantine, .weft, .shuttle, .batten, .spindle, .keys, .loom, .log, .counters, .trace, .events, .bp, .link, .out] t (domAbortSpec.body t c) := by
  unfold domAbortSpec
  dsimp only
  repeat' first
    | with_reducible apply Touches.refl
    | with_reducible assumption
    | intro _
    | with_reducible apply ResTouches.fail
    | with_reducible apply ResTouches.refuse
    | with_reducible apply ResTouches.ok
    | with_reducible apply ResTouches.done
    | with_reducible apply ResTouches.wait
    | (with_reducible apply Touches.comp (endSpentAfter_touches _ _); rotate_left; decide)
    | (with_reducible apply ResTouches.comp (abortBody_touches _ _); rotate_left; decide)
    | with_reducible apply Touches.ite
    | with_reducible apply ResTouches.ite
    | split
    | dsimp only

theorem execDomAbort_touches (src : Src) (s : State) :
    OutTouches [.doms, .tallies, .fences, .quarantine, .weft, .shuttle, .batten, .spindle, .keys, .spdm, .loom, .log, .counters, .trace, .events, .bp, .mailbox, .link, .out] s (execDomAbort src s) := by
  unfold execDomAbort
  repeat' first
    | with_reducible apply Touches.refl
    | with_reducible assumption
    | with_reducible intro _
    | with_reducible apply OutTouches.next
    | with_reducible apply OutTouches.nextIf
    | (with_reducible apply State.runSrc_touches; rotate_left; decide)
    | ((with_reducible show Touches _ _ (CmdSpec.after _ _ _)); exact (State.endSpent_touches _).mono (by decide))
    | (with_reducible apply ResTouches.mono (domAbortSpec_touches _ _); decide)
    | with_reducible apply Touches.ite
    | with_reducible apply OutTouches.ite
    | split
    | dsimp only

theorem retireBody_touches (s : State) (c : Cmd) :
    ResTouches [.doms, .tallies, .fences, .weft, .shuttle, .batten, .spindle, .keys, .log, .counters, .trace, .out] s (retireBody s c) := by
  unfold retireBody
  repeat' first
    | with_reducible apply Touches.refl
    | with_reducible assumption
    | with_reducible intro _
    | with_reducible apply ResTouches.fail
    | with_reducible apply ResTouches.refuse
    | with_reducible apply ResTouches.ok
    | with_reducible apply ResTouches.done
    | with_reducible apply ResTouches.wait
    | (with_reducible apply Touches.comp (State.retireWeft_touches _ _); rotate_left; decide)
    | (with_reducible apply Touches.comp (State.dropKeys_touches _ _ _); rotate_left; decide)
    | (with_reducible apply Touches.comp (State.abortPulls_touches _ _); rotate_left; decide)
    | (with_reducible apply Touches.comp (State.accrue_touches _ _); rotate_left; decide)
    | (with_reducible apply Touches.comp (State.rcEnd_touches _ _); rotate_left; decide)
    | (with_reducible apply Touches.comp (State.settle_touches _); rotate_left; decide)
    | (with_reducible apply Touches.comp (State.dropRxq_touches _ _); rotate_left; decide)
    | (with_reducible apply Touches.comp (State.setDom_touches _ _ _); rotate_left; decide)
    | (with_reducible apply Touches.comp (State.signalAll_touches _ _ _); rotate_left; decide)
    | (with_reducible apply Touches.comp (State.discardBatten_touches _ _); rotate_left; decide)
    | (with_reducible apply Touches.comp (State.dropGroupKeys_touches _ _); rotate_left; decide)
    | with_reducible apply Touches.ite
    | with_reducible apply ResTouches.ite
    | split
    | dsimp only

theorem domRetireSpec_touches (t : State) (c : Cmd) :
    ResTouches [.doms, .tallies, .fences, .weft, .shuttle, .batten, .spindle, .keys, .log, .counters, .trace, .out] t (domRetireSpec.body t c) := by
  unfold domRetireSpec
  dsimp only
  repeat' first
    | with_reducible apply Touches.refl
    | with_reducible assumption
    | intro _
    | with_reducible apply ResTouches.fail
    | with_reducible apply ResTouches.refuse
    | with_reducible apply ResTouches.ok
    | with_reducible apply ResTouches.done
    | with_reducible apply ResTouches.wait
    | (with_reducible apply ResTouches.comp (retireBody_touches _ _); rotate_left; decide)
    | with_reducible apply Touches.ite
    | with_reducible apply ResTouches.ite
    | split
    | dsimp only

theorem execDomRetire_touches (src : Src) (s : State) :
    OutTouches [.doms, .tallies, .fences, .weft, .shuttle, .batten, .spindle, .keys, .spdm, .loom, .log, .counters, .trace, .mailbox, .out] s (execDomRetire src s) := by
  unfold execDomRetire
  repeat' first
    | with_reducible apply Touches.refl
    | with_reducible assumption
    | with_reducible intro _
    | with_reducible apply OutTouches.next
    | with_reducible apply OutTouches.nextIf
    | (with_reducible apply State.runSrc_touches; rotate_left; decide)
    | ((with_reducible show Touches _ _ (CmdSpec.after _ _ _)); exact Touches.refl _ _)
    | (with_reducible apply ResTouches.mono (domRetireSpec_touches _ _); decide)
    | with_reducible apply Touches.ite
    | with_reducible apply OutTouches.ite
    | split
    | dsimp only

theorem State.retirePublish_touches (s : State) (ldi : Nat) :
    Touches [.bp, .out] s (State.retirePublish s ldi).2 := by
  unfold State.retirePublish
  repeat' first
    | with_reducible apply Touches.refl
    | with_reducible assumption
    | with_reducible intro _
    | (with_reducible apply Touches.comp (State.publish_touches _ _); rotate_left; decide)
    | (with_reducible apply Touches.comp (Touches.of_eq (by assumption) (State.publish_touches _ _)); rotate_left; decide)
    | with_reducible apply Touches.ite
    | split
    | dsimp only

theorem State.freeTables_touches (s : State) (ldi : Nat) :
    Touches [.contexts, .fences, .arrs, .shuttle, .batten, .spindle, .spdm, .time, .loom, .counters, .out] s (State.freeTables s ldi) := by
  unfold State.freeTables
  repeat' first
    | with_reducible apply Touches.refl
    | with_reducible assumption
    | with_reducible intro _
    | (with_reducible apply Touches.comp (State.freeFence_touches _ _); rotate_left; decide)
    | (with_reducible apply Touches.comp (State.endSession_touches _ _); rotate_left; decide)
    | with_reducible apply Touches.foldl
    | with_reducible apply Touches.ite
    | split
    | ((with_reducible apply Touches.set_tables_shuttle_batten_spindle_time_counters); rotate_left; exact TablesTouch.set_contexts_arrs _ _ _ _ (by decide) (by decide); decide; decide; decide; decide; decide)
    | dsimp only

theorem State.reportRetired_touches (s : State) (ldi : Nat) :
    Touches [.quarantine, .shuttle, .counters, .out] s (State.reportRetired s ldi) := by
  unfold State.reportRetired
  repeat' first
    | with_reducible apply Touches.refl
    | with_reducible assumption
    | with_reducible intro _
    | (with_reducible apply Touches.comp (State.sendCtrl_touches _ _ _ _); rotate_left; decide)
    | with_reducible apply Touches.foldl
    | with_reducible apply Touches.ite
    | split
    | ((with_reducible apply Touches.set_tables); rotate_left; exact TablesTouch.set_quarantine _ _ (by decide))
    | ((with_reducible apply Touches.set_shuttle); rotate_left; decide)
    | dsimp only

theorem State.finishRetire_touches (s : State) (ldi : Nat) :
    Touches [.doms, .tallies, .contexts, .fences, .arrs, .quarantine, .weft, .shuttle, .batten, .spindle, .keys, .spdm, .metering, .time, .loom, .log, .counters, .trace, .events, .bp, .link, .out] s (State.finishRetire s ldi) := by
  unfold State.finishRetire
  repeat' first
    | with_reducible apply Touches.refl
    | with_reducible assumption
    | with_reducible intro _
    | (with_reducible apply Touches.comp (State.freeTables_touches _ _); rotate_left; decide)
    | (with_reducible apply Touches.comp (State.drainInteg_touches _); rotate_left; decide)
    | (with_reducible apply Touches.comp (State.dropKeys_touches _ _ _); rotate_left; decide)
    | (with_reducible apply Touches.comp (State.tdiUnlock_touches _ _); rotate_left; decide)
    | (with_reducible apply Touches.comp (State.reportRetired_touches _ _); rotate_left; decide)
    | (with_reducible apply Touches.comp (State.finalRecord_touches _ _); rotate_left; decide)
    | (with_reducible apply Touches.comp (State.forgetInstalls_touches _ _); rotate_left; decide)
    | (with_reducible apply Touches.comp (State.setRing_touches _ _ _); rotate_left; decide)
    | (with_reducible apply Touches.comp (State.setDom_touches _ _ _); rotate_left; decide)
    | with_reducible apply Touches.foldl
    | with_reducible apply Touches.ite
    | split
    | dsimp only

theorem queryBody_touches (s : State) (c : Cmd) :
    ResTouches [] s (queryBody s c) := by
  unfold queryBody
  repeat' first
    | with_reducible apply Touches.refl
    | with_reducible assumption
    | with_reducible intro _
    | with_reducible apply ResTouches.fail
    | with_reducible apply ResTouches.refuse
    | with_reducible apply ResTouches.ok
    | with_reducible apply ResTouches.done
    | with_reducible apply ResTouches.wait
    | (with_reducible apply ResTouches.comp (Res.ok_touches _ _ _); rotate_left; decide)
    | with_reducible apply Touches.ite
    | with_reducible apply ResTouches.ite
    | split
    | dsimp only

theorem domQuerySpec_touches (t : State) (c : Cmd) :
    ResTouches [] t (domQuerySpec.body t c) := by
  unfold domQuerySpec
  dsimp only
  repeat' first
    | with_reducible apply Touches.refl
    | with_reducible assumption
    | intro _
    | with_reducible apply ResTouches.fail
    | with_reducible apply ResTouches.refuse
    | with_reducible apply ResTouches.ok
    | with_reducible apply ResTouches.done
    | with_reducible apply ResTouches.wait
    | (with_reducible apply ResTouches.comp (queryBody_touches _ _); rotate_left; decide)
    | with_reducible apply Touches.ite
    | with_reducible apply ResTouches.ite
    | split
    | dsimp only

theorem execDomQuery_touches (src : Src) (s : State) :
    OutTouches [.tallies, .fences, .shuttle, .spdm, .loom, .log, .counters, .trace, .mailbox, .out] s (execDomQuery src s) := by
  unfold execDomQuery
  repeat' first
    | with_reducible apply Touches.refl
    | with_reducible assumption
    | with_reducible intro _
    | with_reducible apply OutTouches.next
    | with_reducible apply OutTouches.nextIf
    | (with_reducible apply State.runSrc_touches; rotate_left; decide)
    | ((with_reducible show Touches _ _ (CmdSpec.after _ _ _)); exact Touches.refl _ _)
    | (with_reducible apply ResTouches.mono (domQuerySpec_touches _ _); decide)
    | with_reducible apply Touches.ite
    | with_reducible apply OutTouches.ite
    | split
    | dsimp only

end Sys2Proof.Machine
end

