-- ==== Sys2Proof/Laws/Touches/Links.lean ====
section
/-!
SUPPORT. What the operations of Machine/Links.lean touch, one law for each.
-/
namespace Sys2Proof.Machine

set_option linter.unusedTactic false
set_option linter.unreachableTactic false

theorem State.takeMsg_touches (s : State) (peer : Nat) (type : Nat) (f : Bytes → Bool) :
    OptPairTouches [.shuttle] s (State.takeMsg s peer type f) := by
  unfold State.takeMsg
  repeat' first
    | with_reducible apply Touches.refl
    | with_reducible assumption
    | with_reducible intro _
    | with_reducible apply OptPairTouches.none
    | with_reducible apply OptPairTouches.some
    | with_reducible apply OptPairTouches.map
    | with_reducible apply Touches.ite
    | split
    | ((with_reducible apply Touches.set_shuttle); rotate_left; decide)
    | dsimp only

theorem State.onMsg_touches {F : List Part} {s : State} {g : Bool} {peer type : Nat} {f : Bytes → Bool}
    {k : State → CtrlMsg → State} (sub : ∀ p ∈ ([.shuttle] : List Part), p ∈ F)
    (hk : ∀ t m, Touches F s t → Touches F s (k t m)) : OutTouches F s (State.onMsg s g peer type f k) := by
  unfold State.onMsg
  split
  · rename_i m t e
    refine OutTouches.nextIf (Touches.refl _ _) (hk _ _ ?_)
    exact ((State.takeMsg_touches s peer type f).get e).mono sub
  · exact OutTouches.next (Touches.refl _ _)

theorem State.failHandshake_touches (s : State) (peer : Nat) (check : Nat) :
    Touches [.shuttle, .loom, .log, .counters, .trace] s (State.failHandshake s peer check) := by
  unfold State.failHandshake
  repeat' first
    | with_reducible apply Touches.refl
    | with_reducible assumption
    | with_reducible intro _
    | (with_reducible apply Touches.comp (State.dropHandshake_touches _ _); rotate_left; decide)
    | (with_reducible apply Touches.comp (State.internalEntry_touches _); rotate_left; decide)
    | (with_reducible apply Touches.comp (State.setSa_touches _ _ _); rotate_left; decide)
    | (with_reducible apply Touches.comp (State.saRecord_touches _ _ _ _ _); rotate_left; decide)
    | with_reducible apply Touches.ite
    | split
    | dsimp only

theorem State.replaceSa_touches (s : State) (peer : Nat) (keys : SaKeys) (evidence : Bytes) (chain : Bytes) (lazily : Bool) (done : Option Bytes) :
    Touches [.doms, .tallies, .fences, .quarantine, .weft, .shuttle, .batten, .spindle, .keys, .loom, .log, .counters, .trace, .events, .bp, .link, .out] s (State.replaceSa s peer keys evidence chain lazily done) := by
  unfold State.replaceSa
  repeat' first
    | with_reducible apply Touches.refl
    | with_reducible assumption
    | with_reducible intro _
    | (with_reducible apply Touches.comp (State.endSa_touches _ _ _ _); rotate_left; decide)
    | (with_reducible apply Touches.comp (State.setSa_touches _ _ _); rotate_left; decide)
    | (with_reducible apply Touches.comp (State.saRecord_touches _ _ _ _ _); rotate_left; decide)
    | (with_reducible apply Touches.comp (State.becomeValid_touches _ _ _ _ _ _ _); rotate_left; decide)
    | with_reducible apply Touches.ite
    | split
    | dsimp only

theorem State.needChain_touches (s : State) (peer : Nat) (digest : Bytes) :
    Touches [.out] s (State.needChain s peer digest) := by
  unfold State.needChain
  repeat' first
    | with_reducible apply Touches.refl
    | with_reducible assumption
    | with_reducible intro _
    | (with_reducible apply Touches.comp (State.sendHs_touches _ _ _ _); rotate_left; decide)
    | with_reducible apply Touches.ite
    | split
    | dsimp only

theorem State.answerInit_touches (s : State) (peer : Nat) (init : Bytes) :
    Touches [.shuttle, .entropy, .out] s (State.answerInit s peer init) := by
  unfold State.answerInit
  repeat' first
    | with_reducible apply Touches.refl
    | with_reducible assumption
    | with_reducible exact Nat.le_refl _
    | with_reducible exact Nat.le_succ _
    | with_reducible intro _
    | (with_reducible apply Touches.comp (State.draw_touches _); rotate_left; decide)
    | (with_reducible apply Touches.comp (Touches.of_eq (by assumption) (State.draw_touches _)); rotate_left; decide)
    | (with_reducible apply Touches.comp (State.notePending_touches _ _ _); rotate_left; decide)
    | (with_reducible apply Touches.comp (State.sendHs_touches _ _ _ _); rotate_left; decide)
    | (with_reducible apply Touches.comp (State.setHandshake_touches _ _ _); rotate_left; decide)
    | (with_reducible apply Touches.comp (State.needChain_touches _ _ _); rotate_left; decide)
    | (with_reducible apply Touches.comp (State.hybridSign_touches _ _ _); rotate_left; decide)
    | (with_reducible apply Touches.comp (Touches.of_eq (by assumption) (State.hybridSign_touches _ _ _)); rotate_left; decide)
    | with_reducible apply Touches.ite
    | split
    | dsimp only

theorem execSaInit_touches (peer : Nat) (s : State) :
    OutTouches [.shuttle, .entropy, .out] s (execSaInit peer s) := by
  unfold execSaInit
  repeat' first
    | with_reducible apply Touches.refl
    | with_reducible assumption
    | with_reducible exact Nat.le_refl _
    | with_reducible exact Nat.le_succ _
    | with_reducible intro _
    | with_reducible apply OutTouches.next
    | with_reducible apply OutTouches.nextIf
    | (with_reducible apply Touches.comp (State.answerInit_touches _ _ _); rotate_left; decide)
    | (with_reducible apply State.onMsg_touches; decide)
    | with_reducible apply Touches.ite
    | with_reducible apply OutTouches.ite
    | split
    | dsimp only

theorem State.verifyResp_touches (s : State) (peer : Nat) (h : Handshake) (chain : Bytes) :
    Touches [.shuttle, .entropy, .loom, .log, .counters, .trace, .out] s (State.verifyResp s peer h chain) := by
  unfold State.verifyResp
  repeat' first
    | with_reducible apply Touches.refl
    | with_reducible assumption
    | with_reducible exact Nat.le_refl _
    | with_reducible exact Nat.le_succ _
    | with_reducible intro _
    | (with_reducible apply Touches.comp (State.sendHs_touches _ _ _ _); rotate_left; decide)
    | (with_reducible apply Touches.comp (State.setHandshake_touches _ _ _); rotate_left; decide)
    | (with_reducible apply Touches.comp (State.failHandshake_touches _ _ _); rotate_left; decide)
    | (with_reducible apply Touches.comp (State.hybridSign_touches _ _ _); rotate_left; decide)
    | (with_reducible apply Touches.comp (Touches.of_eq (by assumption) (State.hybridSign_touches _ _ _)); rotate_left; decide)
    | with_reducible apply Touches.ite
    | split
    | dsimp only

theorem State.verifyFin_touches (s : State) (peer : Nat) (h : Handshake) (chain : Bytes) :
    Touches [.doms, .tallies, .fences, .quarantine, .weft, .shuttle, .batten, .spindle, .keys, .loom, .log, .counters, .trace, .events, .bp, .link, .out] s (State.verifyFin s peer h chain) := by
  unfold State.verifyFin
  repeat' first
    | with_reducible apply Touches.refl
    | with_reducible assumption
    | with_reducible intro _
    | (with_reducible apply Touches.comp (State.replaceSa_touches _ _ _ _ _ _ _); rotate_left; decide)
    | (with_reducible apply Touches.comp (State.failHandshake_touches _ _ _); rotate_left; decide)
    | with_reducible apply Touches.ite
    | split
    | dsimp only

theorem State.whenChain_touches {F : List Part} {s0 s : State} {peer : Nat} {x : Handshake} {digest : Bytes}
    {k : State → Bytes → State} (h : Touches F s0 s) (sub : ∀ p ∈ ([.shuttle, .out] : List Part), p ∈ F)
    (hk : ∀ c, Touches F s0 (k s c)) : Touches F s0 (State.whenChain s peer x digest k) := by
  unfold State.whenChain
  split
  · exact hk _
  · refine Touches.andThen ?_ (State.sendHs_touches _ _ _ _) (fun p q => sub p (by revert q; revert p; decide))
    exact h.andThen (State.setHandshake_touches _ _ _) (fun p q => sub p (by revert q; revert p; decide))

theorem execSaResp_touches (peer : Nat) (s : State) :
    OutTouches [.shuttle, .entropy, .loom, .log, .counters, .trace, .out] s (execSaResp peer s) := by
  unfold execSaResp
  repeat' first
    | with_reducible apply Touches.refl
    | with_reducible assumption
    | with_reducible exact Nat.le_refl _
    | with_reducible exact Nat.le_succ _
    | with_reducible intro _
    | with_reducible apply OutTouches.next
    | with_reducible apply OutTouches.nextIf
    | (with_reducible apply Touches.comp (State.verifyResp_touches _ _ _ _); rotate_left; decide)
    | (with_reducible apply State.whenChain_touches; rotate_left; decide)
    | (with_reducible apply State.onMsg_touches; decide)
    | with_reducible apply Touches.ite
    | with_reducible apply OutTouches.ite
    | split
    | dsimp only

theorem execSaFin_touches (peer : Nat) (s : State) :
    OutTouches [.doms, .tallies, .fences, .quarantine, .weft, .shuttle, .batten, .spindle, .keys, .loom, .log, .counters, .trace, .events, .bp, .link, .out] s (execSaFin peer s) := by
  unfold execSaFin
  repeat' first
    | with_reducible apply Touches.refl
    | with_reducible assumption
    | with_reducible intro _
    | with_reducible apply OutTouches.next
    | with_reducible apply OutTouches.nextIf
    | (with_reducible apply State.whenChain_touches; rotate_left; decide)
    | (with_reducible apply Touches.comp (State.verifyFin_touches _ _ _ _); rotate_left; decide)
    | (with_reducible apply State.onMsg_touches; decide)
    | with_reducible apply Touches.ite
    | with_reducible apply OutTouches.ite
    | split
    | dsimp only

theorem execSaDone_touches (peer : Nat) (s : State) :
    OutTouches [.doms, .tallies, .fences, .quarantine, .weft, .shuttle, .batten, .spindle, .keys, .loom, .log, .counters, .trace, .events, .bp, .link, .out] s (execSaDone peer s) := by
  unfold execSaDone
  repeat' first
    | with_reducible apply Touches.refl
    | with_reducible assumption
    | with_reducible intro _
    | with_reducible apply OutTouches.next
    | with_reducible apply OutTouches.nextIf
    | (with_reducible apply Touches.comp (State.replaceSa_touches _ _ _ _ _ _ _); rotate_left; decide)
    | (with_reducible apply Touches.comp (State.failHandshake_touches _ _ _); rotate_left; decide)
    | (with_reducible apply State.onMsg_touches; decide)
    | with_reducible apply Touches.ite
    | with_reducible apply OutTouches.ite
    | split
    | dsimp only

theorem execChainGet_touches (peer : Nat) (s : State) :
    OutTouches [.shuttle, .out] s (execChainGet peer s) := by
  unfold execChainGet
  repeat' first
    | with_reducible apply Touches.refl
    | with_reducible assumption
    | with_reducible intro _
    | with_reducible apply OutTouches.next
    | with_reducible apply OutTouches.nextIf
    | (with_reducible apply Touches.comp (State.sendHs_touches _ _ _ _); rotate_left; decide)
    | (with_reducible apply State.onMsg_touches; decide)
    | with_reducible apply Touches.ite
    | with_reducible apply OutTouches.ite
    | split
    | dsimp only

theorem execChain_touches (peer : Nat) (s : State) :
    OutTouches [.doms, .tallies, .fences, .quarantine, .weft, .shuttle, .batten, .spindle, .keys, .entropy, .loom, .log, .counters, .trace, .events, .bp, .link, .out] s (execChain peer s) := by
  unfold execChain
  repeat' first
    | with_reducible apply Touches.refl
    | with_reducible assumption
    | with_reducible exact Nat.le_refl _
    | with_reducible exact Nat.le_succ _
    | with_reducible intro _
    | with_reducible apply OutTouches.next
    | with_reducible apply OutTouches.nextIf
    | (with_reducible apply Touches.comp (State.verifyResp_touches _ _ _ _); rotate_left; decide)
    | (with_reducible apply Touches.comp (State.verifyFin_touches _ _ _ _); rotate_left; decide)
    | (with_reducible apply State.onMsg_touches; decide)
    | with_reducible apply Touches.ite
    | with_reducible apply OutTouches.ite
    | split
    | ((with_reducible apply Touches.set_shuttle); rotate_left; decide)
    | dsimp only

theorem execKeepalive_touches (peer : Nat) (s : State) :
    OutTouches [.shuttle] s (execKeepalive peer s) := by
  unfold execKeepalive
  repeat' first
    | with_reducible apply Touches.refl
    | with_reducible assumption
    | with_reducible intro _
    | with_reducible apply OutTouches.next
    | with_reducible apply OutTouches.nextIf
    | (with_reducible apply State.onMsg_touches; decide)
    | with_reducible apply Touches.ite
    | with_reducible apply OutTouches.ite
    | split
    | dsimp only

theorem execKeepaliveTimer_touches (peer : Nat) (s : State) :
    OutTouches [.doms, .tallies, .fences, .quarantine, .weft, .shuttle, .batten, .spindle, .keys, .time, .loom, .log, .counters, .trace, .events, .bp, .link, .out] s (execKeepaliveTimer peer s) := by
  unfold execKeepaliveTimer
  repeat' first
    | with_reducible apply Touches.refl
    | with_reducible assumption
    | with_reducible intro _
    | with_reducible apply OutTouches.next
    | with_reducible apply OutTouches.nextIf
    | (with_reducible apply Touches.comp (State.advanceTo_touches _ _); rotate_left; decide)
    | (with_reducible apply Touches.comp (State.sendCtrl_touches _ _ _ _); rotate_left; decide)
    | (with_reducible apply Touches.comp (State.endExhausted_touches _ _); rotate_left; decide)
    | (with_reducible apply Touches.comp (State.bumpEngine_touches _ _ _ _); rotate_left; decide)
    | with_reducible apply Touches.ite
    | with_reducible apply OutTouches.ite
    | split
    | dsimp only

theorem execSaLossTimeout_touches (peer : Nat) (s : State) :
    OutTouches [.doms, .tallies, .fences, .quarantine, .weft, .shuttle, .batten, .spindle, .keys, .time, .loom, .log, .counters, .trace, .events, .bp, .link, .out] s (execSaLossTimeout peer s) := by
  unfold execSaLossTimeout
  repeat' first
    | with_reducible apply Touches.refl
    | with_reducible assumption
    | with_reducible intro _
    | with_reducible apply OutTouches.next
    | with_reducible apply OutTouches.nextIf
    | (with_reducible apply Touches.comp (State.advanceTo_touches _ _); rotate_left; decide)
    | (with_reducible apply Touches.comp (State.loseSa_touches _ _); rotate_left; decide)
    | with_reducible apply Touches.ite
    | with_reducible apply OutTouches.ite
    | split
    | dsimp only

theorem execSaFailedExpiry_touches (peer : Nat) (s : State) :
    OutTouches [.shuttle, .time, .loom, .counters] s (execSaFailedExpiry peer s) := by
  unfold execSaFailedExpiry
  repeat' first
    | with_reducible apply Touches.refl
    | with_reducible assumption
    | with_reducible intro _
    | with_reducible apply OutTouches.next
    | with_reducible apply OutTouches.nextIf
    | (with_reducible apply Touches.comp (State.advanceTo_touches _ _); rotate_left; decide)
    | (with_reducible apply Touches.comp (State.internalEntry_touches _); rotate_left; decide)
    | (with_reducible apply Touches.comp (State.setSa_touches _ _ _); rotate_left; decide)
    | with_reducible apply Touches.ite
    | with_reducible apply OutTouches.ite
    | split
    | dsimp only

theorem State.installGroupKey_touches (s : State) (ldi : Nat) (gid : Nat) (g : Group) (key : Key) (salt : Nat) :
    Touches [.shuttle, .keys, .loom, .counters] s (State.installGroupKey s ldi gid g key salt) := by
  unfold State.installGroupKey
  repeat' first
    | with_reducible apply Touches.refl
    | with_reducible assumption
    | with_reducible intro _
    | (with_reducible apply Touches.comp (State.setGroup_touches _ _ _); rotate_left; decide)
    | (with_reducible apply Touches.comp (State.setSlot_touches _ _ _); rotate_left; decide)
    | (with_reducible apply Touches.comp (State.internalEntry_touches _); rotate_left; decide)
    | with_reducible apply Touches.ite
    | split
    | dsimp only

theorem execGroupKey_touches (peer : Nat) (s : State) :
    OutTouches [.shuttle, .keys, .loom, .counters] s (execGroupKey peer s) := by
  unfold execGroupKey
  repeat' first
    | with_reducible apply Touches.refl
    | with_reducible assumption
    | with_reducible intro _
    | with_reducible apply OutTouches.next
    | with_reducible apply OutTouches.nextIf
    | (with_reducible apply Touches.comp (State.installGroupKey_touches _ _ _ _ _ _); rotate_left; decide)
    | (with_reducible apply State.onMsg_touches; decide)
    | with_reducible apply Touches.ite
    | with_reducible apply OutTouches.ite
    | split
    | ((with_reducible apply Touches.set_shuttle); rotate_left; decide)
    | dsimp only

theorem execGroupKeyHoldExpiry_touches (s : State) :
    OutTouches [.shuttle, .time] s (execGroupKeyHoldExpiry s) := by
  unfold execGroupKeyHoldExpiry
  repeat' first
    | with_reducible apply Touches.refl
    | with_reducible assumption
    | with_reducible intro _
    | with_reducible apply OutTouches.next
    | with_reducible apply OutTouches.nextIf
    | (with_reducible apply Touches.comp (State.advanceTo_touches _ _); rotate_left; decide)
    | with_reducible apply Touches.ite
    | with_reducible apply OutTouches.ite
    | split
    | ((with_reducible apply Touches.set_shuttle); rotate_left; decide)
    | dsimp only

theorem State.takePolicy_touches (s : State) (peer : Nat) (ldi : Nat) (word : BitVec 32) :
    Touches [.doms, .tallies, .fences, .weft, .shuttle, .batten, .spindle, .keys, .loom, .log, .counters, .trace, .events, .bp, .link, .out] s (State.takePolicy s peer ldi word) := by
  unfold State.takePolicy
  repeat' first
    | with_reducible apply Touches.refl
    | with_reducible assumption
    | with_reducible intro _
    | (with_reducible apply Touches.comp (State.abort_touches _ _ _ _); rotate_left; decide)
    | (with_reducible apply Touches.comp (State.internalEntry_touches _); rotate_left; decide)
    | (with_reducible apply Touches.comp (State.sendPolicy_touches _ _ _); rotate_left; decide)
    | (with_reducible apply Touches.comp (State.setSa_touches _ _ _); rotate_left; decide)
    | with_reducible apply Touches.ite
    | split
    | dsimp only

theorem State.takeMigPolicy_touches (s : State) (peer : Nat) (gdid : Nat) (word : BitVec 32) (ns : Bytes) :
    Touches [.doms, .tallies, .shuttle, .keys, .entropy, .loom, .counters, .out] s (State.takeMigPolicy s peer gdid word ns) := by
  unfold State.takeMigPolicy
  repeat' first
    | with_reducible apply Touches.refl
    | with_reducible assumption
    | with_reducible exact Nat.le_refl _
    | with_reducible exact Nat.le_succ _
    | with_reducible intro _
    | (with_reducible apply Touches.comp (State.sendCtrl_touches _ _ _ _); rotate_left; decide)
    | (with_reducible apply Touches.comp (State.draw_touches _); rotate_left; decide)
    | (with_reducible apply Touches.comp (Touches.of_eq (by assumption) (State.draw_touches _)); rotate_left; decide)
    | (with_reducible apply Touches.comp (State.setSlot_touches _ _ _); rotate_left; decide)
    | (with_reducible apply Touches.comp (State.setDom_touches _ _ _); rotate_left; decide)
    | (with_reducible apply Touches.comp (State.internalEntry_touches _); rotate_left; decide)
    | with_reducible apply Touches.ite
    | split
    | dsimp only

theorem State.wake_touches (s : State) (jid : Nat) :
    Touches [.loom] s (State.wake s jid) := by
  unfold State.wake
  repeat' first
    | with_reducible apply Touches.refl
    | with_reducible assumption
    | with_reducible intro _
    | with_reducible apply Touches.ite
    | split
    | ((with_reducible apply Touches.set_loom); rotate_left; decide)
    | dsimp only

theorem State.takeMigAnswer_touches (s : State) (peer : Nat) (gdid : Nat) (accept : Bool) (nd : Bytes) :
    Touches [.doms, .tallies, .keys, .loom] s (State.takeMigAnswer s peer gdid accept nd) := by
  unfold State.takeMigAnswer
  repeat' first
    | with_reducible apply Touches.refl
    | with_reducible assumption
    | with_reducible intro _
    | (with_reducible apply Touches.comp (State.wake_touches _ _); rotate_left; decide)
    | (with_reducible apply Touches.comp (State.setSlot_touches _ _ _); rotate_left; decide)
    | (with_reducible apply Touches.comp (State.setDom_touches _ _ _); rotate_left; decide)
    | with_reducible apply Touches.ite
    | split
    | dsimp only

theorem execPolicy_touches (peer : Nat) (s : State) :
    OutTouches [.doms, .tallies, .fences, .quarantine, .weft, .shuttle, .batten, .spindle, .keys, .entropy, .loom, .log, .counters, .trace, .events, .bp, .link, .out] s (execPolicy peer s) := by
  unfold execPolicy
  repeat' first
    | with_reducible apply Touches.refl
    | with_reducible assumption
    | with_reducible exact Nat.le_refl _
    | with_reducible exact Nat.le_succ _
    | with_reducible intro _
    | with_reducible apply OutTouches.next
    | with_reducible apply OutTouches.nextIf
    | (with_reducible apply Touches.comp (State.endExhausted_touches _ _); rotate_left; decide)
    | (with_reducible apply Touches.comp (State.takeMigAnswer_touches _ _ _ _ _); rotate_left; decide)
    | (with_reducible apply State.onMsg_touches; decide)
    | (with_reducible apply Touches.comp (State.takePolicy_touches _ _ _ _); rotate_left; decide)
    | (with_reducible apply Touches.comp (State.takeMigPolicy_touches _ _ _ _ _); rotate_left; decide)
    | (with_reducible apply Touches.comp (State.countDropped_touches _); rotate_left; decide)
    | with_reducible apply Touches.ite
    | with_reducible apply OutTouches.ite
    | split
    | dsimp only

theorem execRetired_touches (peer : Nat) (s : State) :
    OutTouches [.quarantine, .shuttle, .loom, .counters] s (execRetired peer s) := by
  unfold execRetired
  repeat' first
    | with_reducible apply Touches.refl
    | with_reducible assumption
    | with_reducible intro _
    | with_reducible apply OutTouches.next
    | with_reducible apply OutTouches.nextIf
    | (with_reducible apply State.onMsg_touches; decide)
    | (with_reducible apply Touches.comp (State.internalEntry_touches _); rotate_left; decide)
    | (with_reducible apply Touches.comp (State.countDropped_touches _); rotate_left; decide)
    | (with_reducible apply Touches.comp (State.setSa_touches _ _ _); rotate_left; decide)
    | with_reducible apply Touches.ite
    | with_reducible apply OutTouches.ite
    | split
    | ((with_reducible apply Touches.set_tables); rotate_left; exact TablesTouch.set_quarantine _ _ (by decide))
    | dsimp only

theorem State.admitQuarantine_touches (s : State) :
    Touches [.quarantine] s (State.admitQuarantine s) := by
  unfold State.admitQuarantine
  repeat' first
    | with_reducible apply Touches.refl
    | with_reducible assumption
    | with_reducible intro _
    | with_reducible apply Touches.ite
    | split
    | ((with_reducible apply Touches.set_tables); rotate_left; exact TablesTouch.set_quarantine _ _ (by decide))
    | dsimp only

theorem execFdtQuarantineExpiry_touches (fdt : Nat) (s : State) :
    OutTouches [.quarantine, .time, .loom, .counters] s (execFdtQuarantineExpiry fdt s) := by
  unfold execFdtQuarantineExpiry
  repeat' first
    | with_reducible apply Touches.refl
    | with_reducible assumption
    | with_reducible intro _
    | with_reducible apply OutTouches.next
    | with_reducible apply OutTouches.nextIf
    | (with_reducible apply Touches.comp (State.advanceTo_touches _ _); rotate_left; decide)
    | (with_reducible apply Touches.comp (State.admitQuarantine_touches _); rotate_left; decide)
    | (with_reducible apply Touches.comp (State.internalEntry_touches _); rotate_left; decide)
    | with_reducible apply Touches.ite
    | with_reducible apply OutTouches.ite
    | split
    | ((with_reducible apply Touches.set_tables); rotate_left; exact TablesTouch.set_quarantine _ _ (by decide))
    | dsimp only

theorem State.forwardSquall_touches (s : State) (peer : Nat) (ldi : Nat) (b : Bytes) :
    Touches [.shuttle, .counters, .out] s (State.forwardSquall s peer ldi b) := by
  unfold State.forwardSquall
  repeat' first
    | with_reducible apply Touches.refl
    | with_reducible assumption
    | with_reducible intro _
    | (with_reducible apply Touches.comp (State.sendCtrl_touches _ _ _ _); rotate_left; decide)
    | with_reducible apply Touches.foldl
    | with_reducible apply Touches.ite
    | split
    | dsimp only

theorem State.takeSquall_touches (s : State) (peer : Nat) (ldi : Nat) (b : Bytes) :
    Touches [.doms, .tallies, .fences, .weft, .shuttle, .batten, .spindle, .keys, .loom, .log, .counters, .trace, .events, .bp, .link, .out] s (State.takeSquall s peer ldi b) := by
  unfold State.takeSquall
  repeat' first
    | with_reducible apply Touches.refl
    | with_reducible assumption
    | with_reducible intro _
    | (with_reducible apply Touches.comp (State.abort_touches _ _ _ _); rotate_left; decide)
    | (with_reducible apply Touches.comp (State.setDom_touches _ _ _); rotate_left; decide)
    | (with_reducible apply Touches.comp (State.forwardSquall_touches _ _ _ _); rotate_left; decide)
    | (with_reducible apply Touches.comp (State.squallRecord_touches _ _ _ _ _ _ _); rotate_left; decide)
    | with_reducible apply Touches.ite
    | split
    | dsimp only

theorem execSquall_touches (peer : Nat) (s : State) :
    OutTouches [.doms, .tallies, .fences, .quarantine, .weft, .shuttle, .batten, .spindle, .keys, .loom, .log, .counters, .trace, .events, .bp, .link, .out] s (execSquall peer s) := by
  unfold execSquall
  repeat' first
    | with_reducible apply Touches.refl
    | with_reducible assumption
    | with_reducible intro _
    | with_reducible apply OutTouches.next
    | with_reducible apply OutTouches.nextIf
    | (with_reducible apply Touches.comp (State.endSpent_touches _); rotate_left; decide)
    | (with_reducible apply Touches.comp (State.takeSquall_touches _ _ _ _); rotate_left; decide)
    | (with_reducible apply State.onMsg_touches; decide)
    | (with_reducible apply Touches.comp (State.countDropped_touches _); rotate_left; decide)
    | with_reducible apply Touches.ite
    | with_reducible apply OutTouches.ite
    | split
    | dsimp only

end Sys2Proof.Machine
end

