-- ==== Sys2Proof/Laws/Touches/Maintenance.lean ====
section
/-!
SUPPORT. What the operations of Machine/Maintenance.lean touch, one law for each.
-/
namespace Sys2Proof.Machine

set_option linter.unusedTactic false
set_option linter.unreachableTactic false

theorem streamOpenBody_touches (s : State) (c : Cmd) :
    ResTouches [.doms, .tallies, .spindle, .keys] s (streamOpenBody s c) := by
  unfold streamOpenBody
  repeat' first
    | with_reducible apply Touches.refl
    | with_reducible assumption
    | with_reducible intro _
    | with_reducible apply ResTouches.fail
    | with_reducible apply ResTouches.refuse
    | with_reducible apply ResTouches.ok
    | with_reducible apply ResTouches.done
    | with_reducible apply ResTouches.wait
    | (with_reducible apply Touches.comp (State.setFixed_touches _ _ _ _ _); rotate_left; decide)
    | (with_reducible apply Touches.comp (State.setDom_touches _ _ _); rotate_left; decide)
    | (with_reducible apply ResTouches.comp (Res.ok_touches _ _ _); rotate_left; decide)
    | with_reducible apply Touches.ite
    | with_reducible apply ResTouches.ite
    | split
    | ((with_reducible apply Touches.set_spindle); rotate_left; decide)
    | dsimp only

theorem spnStreamOpenSpec_touches (t : State) (c : Cmd) :
    ResTouches [.doms, .tallies, .spindle, .keys] t (spnStreamOpenSpec.body t c) := by
  unfold spnStreamOpenSpec
  dsimp only
  repeat' first
    | with_reducible apply Touches.refl
    | with_reducible assumption
    | intro _
    | with_reducible apply ResTouches.fail
    | with_reducible apply ResTouches.refuse
    | with_reducible apply ResTouches.ok
    | with_reducible apply ResTouches.done
    | with_reducible apply ResTouches.wait
    | (with_reducible apply ResTouches.comp (streamOpenBody_touches _ _); rotate_left; decide)
    | with_reducible apply Touches.ite
    | with_reducible apply ResTouches.ite
    | split
    | dsimp only

theorem execSpnStreamOpen_touches (src : Src) (s : State) :
    OutTouches [.doms, .tallies, .fences, .shuttle, .spindle, .keys, .spdm, .loom, .log, .counters, .trace, .mailbox, .out] s (execSpnStreamOpen src s) := by
  unfold execSpnStreamOpen
  repeat' first
    | with_reducible apply Touches.refl
    | with_reducible assumption
    | with_reducible intro _
    | with_reducible apply OutTouches.next
    | with_reducible apply OutTouches.nextIf
    | (with_reducible apply State.runSrc_touches; rotate_left; decide)
    | ((with_reducible show Touches _ _ (CmdSpec.after _ _ _)); exact Touches.refl _ _)
    | (with_reducible apply ResTouches.mono (spnStreamOpenSpec_touches _ _); decide)
    | with_reducible apply Touches.ite
    | with_reducible apply OutTouches.ite
    | split
    | dsimp only

theorem State.endJob_touches (s : State) (ldi : Nat) :
    Touches [.doms, .tallies, .keys] s (State.endJob s ldi) := by
  unfold State.endJob
  repeat' first
    | with_reducible apply Touches.refl
    | with_reducible assumption
    | with_reducible intro _
    | (with_reducible apply Touches.comp (State.clearSlot_touches _ _); rotate_left; decide)
    | (with_reducible apply Touches.comp (State.setDom_touches _ _ _); rotate_left; decide)
    | with_reducible apply Touches.ite
    | split
    | dsimp only

theorem streamCloseBody_touches (s : State) (c : Cmd) :
    ResTouches [.doms, .tallies, .spindle, .keys] s (streamCloseBody s c) := by
  unfold streamCloseBody
  repeat' first
    | with_reducible apply Touches.refl
    | with_reducible assumption
    | with_reducible intro _
    | with_reducible apply ResTouches.fail
    | with_reducible apply ResTouches.refuse
    | with_reducible apply ResTouches.ok
    | with_reducible apply ResTouches.done
    | with_reducible apply ResTouches.wait
    | (with_reducible apply ResTouches.comp (Res.ok_touches _ _ _); rotate_left; decide)
    | (with_reducible apply Touches.comp (State.endJob_touches _ _); rotate_left; decide)
    | with_reducible apply Touches.ite
    | with_reducible apply ResTouches.ite
    | split
    | ((with_reducible apply Touches.set_spindle); rotate_left; decide)
    | dsimp only

theorem spnStreamCloseSpec_touches (t : State) (c : Cmd) :
    ResTouches [.doms, .tallies, .spindle, .keys] t (spnStreamCloseSpec.body t c) := by
  unfold spnStreamCloseSpec
  dsimp only
  repeat' first
    | with_reducible apply Touches.refl
    | with_reducible assumption
    | intro _
    | with_reducible apply ResTouches.fail
    | with_reducible apply ResTouches.refuse
    | with_reducible apply ResTouches.ok
    | with_reducible apply ResTouches.done
    | with_reducible apply ResTouches.wait
    | (with_reducible apply ResTouches.comp (streamCloseBody_touches _ _); rotate_left; decide)
    | with_reducible apply Touches.ite
    | with_reducible apply ResTouches.ite
    | split
    | dsimp only

theorem execSpnStreamClose_touches (src : Src) (s : State) :
    OutTouches [.doms, .tallies, .fences, .shuttle, .spindle, .keys, .spdm, .loom, .log, .counters, .trace, .mailbox, .out] s (execSpnStreamClose src s) := by
  unfold execSpnStreamClose
  repeat' first
    | with_reducible apply Touches.refl
    | with_reducible assumption
    | with_reducible intro _
    | with_reducible apply OutTouches.next
    | with_reducible apply OutTouches.nextIf
    | (with_reducible apply State.runSrc_touches; rotate_left; decide)
    | ((with_reducible show Touches _ _ (CmdSpec.after _ _ _)); exact Touches.refl _ _)
    | (with_reducible apply ResTouches.mono (spnStreamCloseSpec_touches _ _); decide)
    | with_reducible apply Touches.ite
    | with_reducible apply OutTouches.ite
    | split
    | dsimp only

theorem sensorStatusBody_touches (s : State) (c : Cmd) :
    ResTouches [] s (sensorStatusBody s c) := by
  unfold sensorStatusBody
  repeat' first
    | with_reducible apply Touches.refl
    | with_reducible assumption
    | with_reducible intro _
    | with_reducible apply ResTouches.fail
    | with_reducible apply ResTouches.refuse
    | with_reducible apply ResTouches.ok
    | with_reducible apply ResTouches.done
    | with_reducible apply ResTouches.wait
    | (with_reducible apply ResTouches.comp (Res.ok_touches _ _ _); rotate_left; decide)
    | with_reducible apply OptTouches.getD
    | with_reducible apply Touches.ite
    | with_reducible apply ResTouches.ite
    | split
    | dsimp only

theorem snsStatusSpec_touches (t : State) (c : Cmd) :
    ResTouches [] t (snsStatusSpec.body t c) := by
  unfold snsStatusSpec
  dsimp only
  repeat' first
    | with_reducible apply Touches.refl
    | with_reducible assumption
    | intro _
    | with_reducible apply ResTouches.fail
    | with_reducible apply ResTouches.refuse
    | with_reducible apply ResTouches.ok
    | with_reducible apply ResTouches.done
    | with_reducible apply ResTouches.wait
    | (with_reducible apply ResTouches.comp (sensorStatusBody_touches _ _); rotate_left; decide)
    | with_reducible apply Touches.ite
    | with_reducible apply ResTouches.ite
    | split
    | dsimp only

theorem execSnsStatus_touches (src : Src) (s : State) :
    OutTouches [.tallies, .fences, .shuttle, .spdm, .loom, .log, .counters, .trace, .mailbox, .out] s (execSnsStatus src s) := by
  unfold execSnsStatus
  repeat' first
    | with_reducible apply Touches.refl
    | with_reducible assumption
    | with_reducible intro _
    | with_reducible apply OutTouches.next
    | with_reducible apply OutTouches.nextIf
    | (with_reducible apply State.runSrc_touches; rotate_left; decide)
    | ((with_reducible show Touches _ _ (CmdSpec.after _ _ _)); exact Touches.refl _ _)
    | (with_reducible apply ResTouches.mono (snsStatusSpec_touches _ _); decide)
    | with_reducible apply Touches.ite
    | with_reducible apply OutTouches.ite
    | split
    | dsimp only

theorem State.openWindow_touches (s : State) (ms : Nat) :
    Touches [.log, .counters, .trace, .baro] s (State.openWindow s ms) := by
  unfold State.openWindow
  repeat' first
    | with_reducible apply Touches.refl
    | with_reducible assumption
    | with_reducible intro _
    | (with_reducible apply Touches.comp (State.windowRecord_touches _ _); rotate_left; decide)
    | with_reducible apply Touches.ite
    | split
    | ((with_reducible apply Touches.set_baro); rotate_left; decide)
    | dsimp only

theorem calWindowBody_touches (s : State) (c : Cmd) :
    ResTouches [.log, .counters, .trace, .baro] s (calWindowBody s c) := by
  unfold calWindowBody
  repeat' first
    | with_reducible apply Touches.refl
    | with_reducible assumption
    | with_reducible intro _
    | with_reducible apply ResTouches.fail
    | with_reducible apply ResTouches.refuse
    | with_reducible apply ResTouches.ok
    | with_reducible apply ResTouches.done
    | with_reducible apply ResTouches.wait
    | (with_reducible apply Touches.comp (State.closeWindow_touches _); rotate_left; decide)
    | (with_reducible apply Touches.comp (State.openWindow_touches _ _); rotate_left; decide)
    | (with_reducible apply ResTouches.comp (Res.ok_touches _ _ _); rotate_left; decide)
    | with_reducible apply Touches.ite
    | with_reducible apply ResTouches.ite
    | split
    | dsimp only

theorem snsCalWindowSpec_touches (t : State) (c : Cmd) :
    ResTouches [.log, .counters, .trace, .baro] t (snsCalWindowSpec.body t c) := by
  unfold snsCalWindowSpec
  dsimp only
  repeat' first
    | with_reducible apply Touches.refl
    | with_reducible assumption
    | intro _
    | with_reducible apply ResTouches.fail
    | with_reducible apply ResTouches.refuse
    | with_reducible apply ResTouches.ok
    | with_reducible apply ResTouches.done
    | with_reducible apply ResTouches.wait
    | (with_reducible apply ResTouches.comp (calWindowBody_touches _ _); rotate_left; decide)
    | with_reducible apply Touches.ite
    | with_reducible apply ResTouches.ite
    | split
    | dsimp only

theorem execSnsCalWindow_touches (src : Src) (s : State) :
    OutTouches [.tallies, .fences, .shuttle, .spdm, .loom, .log, .counters, .trace, .mailbox, .baro, .out] s (execSnsCalWindow src s) := by
  unfold execSnsCalWindow
  repeat' first
    | with_reducible apply Touches.refl
    | with_reducible assumption
    | with_reducible intro _
    | with_reducible apply OutTouches.next
    | with_reducible apply OutTouches.nextIf
    | (with_reducible apply State.runSrc_touches; rotate_left; decide)
    | ((with_reducible show Touches _ _ (CmdSpec.after _ _ _)); exact Touches.refl _ _)
    | (with_reducible apply ResTouches.mono (snsCalWindowSpec_touches _ _); decide)
    | with_reducible apply Touches.ite
    | with_reducible apply OutTouches.ite
    | split
    | dsimp only

theorem logReadBody_touches (s : State) (c : Cmd) :
    ResTouches [] s (logReadBody s c) := by
  unfold logReadBody
  repeat' first
    | with_reducible apply Touches.refl
    | with_reducible assumption
    | with_reducible intro _
    | with_reducible apply ResTouches.fail
    | with_reducible apply ResTouches.refuse
    | with_reducible apply ResTouches.ok
    | with_reducible apply ResTouches.done
    | with_reducible apply ResTouches.wait
    | (with_reducible apply ResTouches.comp (Res.ok_touches _ _ _); rotate_left; decide)
    | with_reducible apply OptTouches.getD
    | with_reducible apply Touches.ite
    | with_reducible apply ResTouches.ite
    | split
    | dsimp only

theorem rcvLogReadSpec_touches (t : State) (c : Cmd) :
    ResTouches [] t (rcvLogReadSpec.body t c) := by
  unfold rcvLogReadSpec
  dsimp only
  repeat' first
    | with_reducible apply Touches.refl
    | with_reducible assumption
    | intro _
    | with_reducible apply ResTouches.fail
    | with_reducible apply ResTouches.refuse
    | with_reducible apply ResTouches.ok
    | with_reducible apply ResTouches.done
    | with_reducible apply ResTouches.wait
    | (with_reducible apply ResTouches.comp (logReadBody_touches _ _); rotate_left; decide)
    | with_reducible apply Touches.ite
    | with_reducible apply ResTouches.ite
    | split
    | dsimp only

theorem execRcvLogRead_touches (src : Src) (s : State) :
    OutTouches [.tallies, .fences, .shuttle, .spdm, .loom, .log, .counters, .trace, .mailbox, .out] s (execRcvLogRead src s) := by
  unfold execRcvLogRead
  repeat' first
    | with_reducible apply Touches.refl
    | with_reducible assumption
    | with_reducible intro _
    | with_reducible apply OutTouches.next
    | with_reducible apply OutTouches.nextIf
    | (with_reducible apply State.runSrc_touches; rotate_left; decide)
    | ((with_reducible show Touches _ _ (CmdSpec.after _ _ _)); exact Touches.refl _ _)
    | (with_reducible apply ResTouches.mono (rcvLogReadSpec_touches _ _); decide)
    | with_reducible apply Touches.ite
    | with_reducible apply OutTouches.ite
    | split
    | dsimp only

theorem logClearBody_touches (s : State) (c : Cmd) :
    ResTouches [.log] s (logClearBody s c) := by
  unfold logClearBody
  repeat' first
    | with_reducible apply Touches.refl
    | with_reducible assumption
    | with_reducible intro _
    | with_reducible apply ResTouches.fail
    | with_reducible apply ResTouches.refuse
    | with_reducible apply ResTouches.ok
    | with_reducible apply ResTouches.done
    | with_reducible apply ResTouches.wait
    | (with_reducible apply ResTouches.comp (Res.ok_touches _ _ _); rotate_left; decide)
    | with_reducible apply Touches.ite
    | with_reducible apply ResTouches.ite
    | split
    | ((with_reducible apply Touches.set_log); rotate_left; decide)
    | dsimp only

theorem rcvLogClearSpec_touches (t : State) (c : Cmd) :
    ResTouches [.log] t (rcvLogClearSpec.body t c) := by
  unfold rcvLogClearSpec
  dsimp only
  repeat' first
    | with_reducible apply Touches.refl
    | with_reducible assumption
    | intro _
    | with_reducible apply ResTouches.fail
    | with_reducible apply ResTouches.refuse
    | with_reducible apply ResTouches.ok
    | with_reducible apply ResTouches.done
    | with_reducible apply ResTouches.wait
    | (with_reducible apply ResTouches.comp (logClearBody_touches _ _); rotate_left; decide)
    | with_reducible apply Touches.ite
    | with_reducible apply ResTouches.ite
    | split
    | dsimp only

theorem execRcvLogClear_touches (src : Src) (s : State) :
    OutTouches [.tallies, .fences, .shuttle, .spdm, .loom, .log, .counters, .trace, .mailbox, .out] s (execRcvLogClear src s) := by
  unfold execRcvLogClear
  repeat' first
    | with_reducible apply Touches.refl
    | with_reducible assumption
    | with_reducible intro _
    | with_reducible apply OutTouches.next
    | with_reducible apply OutTouches.nextIf
    | (with_reducible apply State.runSrc_touches; rotate_left; decide)
    | ((with_reducible show Touches _ _ (CmdSpec.after _ _ _)); exact Touches.refl _ _)
    | (with_reducible apply ResTouches.mono (rcvLogClearSpec_touches _ _); decide)
    | with_reducible apply Touches.ite
    | with_reducible apply OutTouches.ite
    | split
    | dsimp only

theorem dumpReadBody_touches (s : State) (c : Cmd) :
    ResTouches [.loom] s (dumpReadBody s c) := by
  unfold dumpReadBody
  repeat' first
    | with_reducible apply Touches.refl
    | with_reducible assumption
    | with_reducible intro _
    | with_reducible apply ResTouches.fail
    | with_reducible apply ResTouches.refuse
    | with_reducible apply ResTouches.ok
    | with_reducible apply ResTouches.done
    | with_reducible apply ResTouches.wait
    | (with_reducible apply ResTouches.comp (Res.ok_touches _ _ _); rotate_left; decide)
    | with_reducible apply Touches.ite
    | with_reducible apply ResTouches.ite
    | split
    | ((with_reducible apply Touches.set_loom); rotate_left; decide)
    | dsimp only

theorem rcvDumpReadSpec_touches (t : State) (c : Cmd) :
    ResTouches [.loom] t (rcvDumpReadSpec.body t c) := by
  unfold rcvDumpReadSpec
  dsimp only
  repeat' first
    | with_reducible apply Touches.refl
    | with_reducible assumption
    | intro _
    | with_reducible apply ResTouches.fail
    | with_reducible apply ResTouches.refuse
    | with_reducible apply ResTouches.ok
    | with_reducible apply ResTouches.done
    | with_reducible apply ResTouches.wait
    | (with_reducible apply ResTouches.comp (dumpReadBody_touches _ _); rotate_left; decide)
    | with_reducible apply Touches.ite
    | with_reducible apply ResTouches.ite
    | split
    | dsimp only

theorem execRcvDumpRead_touches (src : Src) (s : State) :
    OutTouches [.tallies, .fences, .shuttle, .spdm, .loom, .log, .counters, .trace, .mailbox, .out] s (execRcvDumpRead src s) := by
  unfold execRcvDumpRead
  repeat' first
    | with_reducible apply Touches.refl
    | with_reducible assumption
    | with_reducible intro _
    | with_reducible apply OutTouches.next
    | with_reducible apply OutTouches.nextIf
    | (with_reducible apply State.runSrc_touches; rotate_left; decide)
    | ((with_reducible show Touches _ _ (CmdSpec.after _ _ _)); exact Touches.refl _ _)
    | (with_reducible apply ResTouches.mono (rcvDumpReadSpec_touches _ _); decide)
    | with_reducible apply Touches.ite
    | with_reducible apply OutTouches.ite
    | split
    | dsimp only

end Sys2Proof.Machine
end

