-- ==== Sys2Proof/Laws/Touches/Memory.lean ====
section
/-!
SUPPORT. What the operations of Machine/Memory.lean touch, one law for each.
-/
namespace Sys2Proof.Machine

set_option linter.unusedTactic false
set_option linter.unreachableTactic false

/-- An answer that was taken with its state, and a change after it. -/
theorem OptPairTouches.thenState {α : Type} {F : List Part} {s : State} {o : Option (α × State)} {f : α × State → State}
    (h : OptPairTouches F s o) (k : ∀ y : α × State, Touches F s y.2 → Touches F s (f y)) : OptTouches F s (o.map f) := by
  intro u e
  cases o with
  | none => cases e
  | some y => cases e; exact k y (h y.1 y.2 rfl)

theorem State.hold_touches (s : State) (ldi : Nat) (cslot : Nat) (g : Nat) (jid : Nat) :
    Touches [.tallies, .got, .weft] s (State.hold s ldi cslot g jid) := by
  unfold State.hold
  repeat' first
    | with_reducible apply Touches.refl
    | with_reducible assumption
    | with_reducible intro _
    | (with_reducible apply Touches.comp (State.accrue_touches _ _); rotate_left; decide)
    | (with_reducible apply Touches.comp (State.setGot_touches _ _ _); rotate_left; decide)
    | with_reducible apply Touches.ite
    | split
    | ((with_reducible apply Touches.set_weft); rotate_left; decide)
    | dsimp only

theorem State.stepAssign_touches (s : State) (jid : Nat) (ldi : Nat) (cslot : Nat) (done : Nat) (a5 : List Nat) :
    ResTouches [.tallies, .got, .weft] s (State.stepAssign s jid ldi cslot done a5) := by
  unfold State.stepAssign
  repeat' first
    | with_reducible apply Touches.refl
    | with_reducible assumption
    | with_reducible intro _
    | with_reducible apply ResTouches.fail
    | with_reducible apply ResTouches.refuse
    | with_reducible apply ResTouches.ok
    | with_reducible apply ResTouches.done
    | with_reducible apply ResTouches.wait
    | (with_reducible apply ResTouches.comp (Res.ok_touches _ _ _); rotate_left; decide)
    | (with_reducible apply Touches.comp (State.hold_touches _ _ _ _ _); rotate_left; decide)
    | with_reducible apply Touches.ite
    | with_reducible apply ResTouches.ite
    | split
    | dsimp only

theorem assignBody_touches (s : State) (c : Cmd) :
    ResTouches [.tallies, .got, .weft] s (assignBody s c) := by
  unfold assignBody
  repeat' first
    | with_reducible apply Touches.refl
    | with_reducible assumption
    | with_reducible intro _
    | with_reducible apply ResTouches.fail
    | with_reducible apply ResTouches.refuse
    | with_reducible apply ResTouches.ok
    | with_reducible apply ResTouches.done
    | with_reducible apply ResTouches.wait
    | (with_reducible apply ResTouches.comp (State.stepAssign_touches _ _ _ _ _ _); rotate_left; decide)
    | with_reducible apply Touches.ite
    | with_reducible apply ResTouches.ite
    | split
    | dsimp only

theorem memAssignSpec_touches (t : State) (c : Cmd) :
    ResTouches [.tallies, .got, .weft] t (memAssignSpec.body t c) := by
  unfold memAssignSpec
  dsimp only
  repeat' first
    | with_reducible apply Touches.refl
    | with_reducible assumption
    | intro _
    | with_reducible apply ResTouches.fail
    | with_reducible apply ResTouches.refuse
    | with_reducible apply ResTouches.ok
    | with_reducible apply ResTouches.done
    | with_reducible apply ResTouches.wait
    | (with_reducible apply ResTouches.comp (assignBody_touches _ _); rotate_left; decide)
    | with_reducible apply Touches.ite
    | with_reducible apply ResTouches.ite
    | split
    | dsimp only

theorem execMemAssign_touches (src : Src) (s : State) :
    OutTouches [.tallies, .got, .fences, .weft, .shuttle, .spdm, .loom, .log, .counters, .trace, .mailbox, .out] s (execMemAssign src s) := by
  unfold execMemAssign
  repeat' first
    | with_reducible apply Touches.refl
    | with_reducible assumption
    | with_reducible intro _
    | with_reducible apply OutTouches.next
    | with_reducible apply OutTouches.nextIf
    | (with_reducible apply State.runSrc_touches; rotate_left; decide)
    | ((with_reducible show Touches _ _ (CmdSpec.after _ _ _)); exact Touches.refl _ _)
    | (with_reducible apply ResTouches.mono (memAssignSpec_touches _ _); decide)
    | with_reducible apply Touches.ite
    | with_reducible apply OutTouches.ite
    | split
    | dsimp only

theorem State.releaseList_touches (s : State) (ldi : Nat) (done : Nat) (a3 : List Nat) :
    ResTouches [.tallies, .got, .weft] s (State.releaseList s ldi done a3) := by
  induction a3 generalizing s ldi done with
  | nil =>
    unfold State.releaseList
    repeat' first
      | with_reducible apply Touches.refl
      | with_reducible assumption
      | with_reducible intro _
      | with_reducible apply ResTouches.fail
      | with_reducible apply ResTouches.refuse
      | with_reducible apply ResTouches.ok
      | with_reducible apply ResTouches.done
      | with_reducible apply ResTouches.wait
      | (with_reducible apply Touches.comp (State.scrubGranules_touches _ _ _ _ _); rotate_left; decide)
      | (with_reducible apply ResTouches.comp (Res.ok_touches _ _ _); rotate_left; decide)
      | with_reducible apply Touches.ite
      | with_reducible apply ResTouches.ite
      | split
      | dsimp only
  | cons x xs ih =>
    unfold State.releaseList
    repeat' first
      | with_reducible apply Touches.refl
      | with_reducible assumption
      | with_reducible intro _
      | (with_reducible apply ResTouches.comp (ih _ _ _); rotate_left; decide)
      | with_reducible apply ResTouches.fail
      | with_reducible apply ResTouches.refuse
      | with_reducible apply ResTouches.ok
      | with_reducible apply ResTouches.done
      | with_reducible apply ResTouches.wait
      | (with_reducible apply Touches.comp (State.scrubGranules_touches _ _ _ _ _); rotate_left; decide)
      | (with_reducible apply ResTouches.comp (Res.ok_touches _ _ _); rotate_left; decide)
      | with_reducible apply Touches.ite
      | with_reducible apply ResTouches.ite
      | split
      | dsimp only

theorem releaseBody_touches (s : State) (c : Cmd) :
    ResTouches [.tallies, .got, .weft] s (releaseBody s c) := by
  unfold releaseBody
  repeat' first
    | with_reducible apply Touches.refl
    | with_reducible assumption
    | with_reducible intro _
    | with_reducible apply ResTouches.fail
    | with_reducible apply ResTouches.refuse
    | with_reducible apply ResTouches.ok
    | with_reducible apply ResTouches.done
    | with_reducible apply ResTouches.wait
    | (with_reducible apply ResTouches.comp (State.releaseList_touches _ _ _ _); rotate_left; decide)
    | with_reducible apply Touches.ite
    | with_reducible apply ResTouches.ite
    | split
    | dsimp only

theorem memReleaseSpec_touches (t : State) (c : Cmd) :
    ResTouches [.tallies, .got, .weft] t (memReleaseSpec.body t c) := by
  unfold memReleaseSpec
  dsimp only
  repeat' first
    | with_reducible apply Touches.refl
    | with_reducible assumption
    | intro _
    | with_reducible apply ResTouches.fail
    | with_reducible apply ResTouches.refuse
    | with_reducible apply ResTouches.ok
    | with_reducible apply ResTouches.done
    | with_reducible apply ResTouches.wait
    | (with_reducible apply ResTouches.comp (releaseBody_touches _ _); rotate_left; decide)
    | with_reducible apply Touches.ite
    | with_reducible apply ResTouches.ite
    | split
    | dsimp only

theorem execMemRelease_touches (src : Src) (s : State) :
    OutTouches [.tallies, .got, .fences, .weft, .shuttle, .spdm, .loom, .log, .counters, .trace, .mailbox, .out] s (execMemRelease src s) := by
  unfold execMemRelease
  repeat' first
    | with_reducible apply Touches.refl
    | with_reducible assumption
    | with_reducible intro _
    | with_reducible apply OutTouches.next
    | with_reducible apply OutTouches.nextIf
    | (with_reducible apply State.runSrc_touches; rotate_left; decide)
    | ((with_reducible show Touches _ _ (CmdSpec.after _ _ _)); exact Touches.refl _ _)
    | (with_reducible apply ResTouches.mono (memReleaseSpec_touches _ _); decide)
    | with_reducible apply Touches.ite
    | with_reducible apply OutTouches.ite
    | split
    | dsimp only

theorem memQueryBody_touches (s : State) (c : Cmd) :
    ResTouches [] s (memQueryBody s c) := by
  unfold memQueryBody
  repeat' first
    | with_reducible apply Touches.refl
    | with_reducible assumption
    | with_reducible intro _
    | with_reducible apply ResTouches.fail
    | with_reducible apply ResTouches.refuse
    | with_reducible apply ResTouches.ok
    | with_reducible apply ResTouches.done
    | with_reducible apply ResTouches.wait
    | (with_reducible apply ResTouches.comp (Res.ok_touches _ _ _); rotate_left; decide)
    | with_reducible apply Touches.ite
    | with_reducible apply ResTouches.ite
    | split
    | dsimp only

theorem memQuerySpec_touches (t : State) (c : Cmd) :
    ResTouches [] t (memQuerySpec.body t c) := by
  unfold memQuerySpec
  dsimp only
  repeat' first
    | with_reducible apply Touches.refl
    | with_reducible assumption
    | intro _
    | with_reducible apply ResTouches.fail
    | with_reducible apply ResTouches.refuse
    | with_reducible apply ResTouches.ok
    | with_reducible apply ResTouches.done
    | with_reducible apply ResTouches.wait
    | (with_reducible apply ResTouches.comp (memQueryBody_touches _ _); rotate_left; decide)
    | with_reducible apply Touches.ite
    | with_reducible apply ResTouches.ite
    | split
    | dsimp only

theorem execMemQuery_touches (src : Src) (s : State) :
    OutTouches [.tallies, .fences, .shuttle, .spdm, .loom, .log, .counters, .trace, .mailbox, .out] s (execMemQuery src s) := by
  unfold execMemQuery
  repeat' first
    | with_reducible apply Touches.refl
    | with_reducible assumption
    | with_reducible intro _
    | with_reducible apply OutTouches.next
    | with_reducible apply OutTouches.nextIf
    | (with_reducible apply State.runSrc_touches; rotate_left; decide)
    | ((with_reducible show Touches _ _ (CmdSpec.after _ _ _)); exact Touches.refl _ _)
    | (with_reducible apply ResTouches.mono (memQuerySpec_touches _ _); decide)
    | with_reducible apply Touches.ite
    | with_reducible apply OutTouches.ite
    | split
    | dsimp only

theorem State.setScan_touches (s : State) (x : Scan) :
    Touches [.loom] s (State.setScan s x) := by
  unfold State.setScan
  repeat' first
    | with_reducible apply Touches.refl
    | with_reducible assumption
    | with_reducible intro _
    | with_reducible apply Touches.ite
    | split
    | ((with_reducible apply Touches.set_loom); rotate_left; decide)
    | dsimp only

theorem State.takeAnswer_touches (s : State) (src : LineSrc) :
    OptPairTouches [.weft] s (State.takeAnswer s src) := by
  unfold State.takeAnswer
  repeat' first
    | with_reducible apply Touches.refl
    | with_reducible assumption
    | with_reducible intro _
    | with_reducible apply OptPairTouches.none
    | with_reducible apply OptPairTouches.some
    | with_reducible apply OptPairTouches.map
    | with_reducible apply Touches.ite
    | split
    | ((with_reducible apply Touches.set_weft); rotate_left; decide)
    | dsimp only

theorem State.scanSend_touches (s : State) (x : Scan) (line : Line) :
    Touches [.tallies, .fences, .arrs, .weft, .loom, .log, .counters, .trace, .out] s (State.scanSend s x line) := by
  unfold State.scanSend
  repeat' first
    | with_reducible apply Touches.refl
    | with_reducible assumption
    | with_reducible intro _
    | (with_reducible apply Touches.comp (State.setScan_touches _ _); rotate_left; decide)
    | (with_reducible apply Touches.comp (State.submitLine_touches _ _); rotate_left; decide)
    | with_reducible apply Touches.ite
    | split
    | dsimp only

theorem State.scanTurn_touches (s : State) (jid : Nat) (line : State → Scan → Option Line) :
    OptTouches [.tallies, .fences, .arrs, .weft, .loom, .log, .counters, .trace, .out] s (State.scanTurn s jid line) := by
  unfold State.scanTurn
  repeat' first
    | with_reducible apply Touches.refl
    | with_reducible assumption
    | with_reducible intro _
    | (with_reducible apply OptPairTouches.thenState)
    | (with_reducible apply OptPairTouches.comp (State.takeAnswer_touches _ _); rotate_left; decide)
    | with_reducible apply OptTouches.none
    | with_reducible apply OptTouches.some
    | (with_reducible apply Touches.comp (State.setScan_touches _ _); rotate_left; decide)
    | (with_reducible apply Touches.comp (State.scanSend_touches _ _ _); rotate_left; decide)
    | (with_reducible apply Touches.comp (OptPairTouches.get (State.takeAnswer_touches _ _) (by assumption)); rotate_left; decide)
    | (with_reducible apply OptPairTouches.comp (State.takeAnswer_touches _ _); rotate_left; decide)
    | with_reducible apply OptTouches.map
    | with_reducible apply OptTouches.bind
    | with_reducible apply Touches.ite
    | with_reducible apply OptTouches.ite
    | split
    | dsimp only

theorem State.scanTurns_touches (s : State) (jid : Nat) (line : State → Scan → Option Line) (a3 : Nat) :
    Touches [.tallies, .fences, .arrs, .weft, .loom, .log, .counters, .trace, .out] s (State.scanTurns s jid line a3) := by
  induction a3 generalizing s jid line with
  | zero =>
    unfold State.scanTurns
    repeat' first
      | with_reducible apply Touches.refl
      | with_reducible assumption
      | with_reducible intro _
      | (with_reducible apply Touches.comp (OptTouches.get (State.scanTurn_touches _ _ _) (by assumption)); rotate_left; decide)
      | (with_reducible apply OptTouches.comp (State.scanTurn_touches _ _ _); rotate_left; decide)
      | with_reducible apply Touches.ite
      | split
      | dsimp only
  | succ n ih =>
    unfold State.scanTurns
    repeat' first
      | with_reducible apply Touches.refl
      | with_reducible assumption
      | with_reducible intro _
      | (with_reducible apply Touches.comp (ih _ _ _); rotate_left; decide)
      | (with_reducible apply Touches.comp (OptTouches.get (State.scanTurn_touches _ _ _) (by assumption)); rotate_left; decide)
      | (with_reducible apply OptTouches.comp (State.scanTurn_touches _ _ _); rotate_left; decide)
      | with_reducible apply Touches.ite
      | split
      | dsimp only

theorem State.runScan_touches (s : State) (jid : Nat) (line : State → Scan → Option Line) :
    Touches [.tallies, .fences, .arrs, .weft, .loom, .log, .counters, .trace, .out] s (State.runScan s jid line) := by
  unfold State.runScan
  repeat' first
    | with_reducible apply Touches.refl
    | with_reducible assumption
    | with_reducible intro _
    | (with_reducible apply Touches.comp (State.scanTurns_touches _ _ _ _); rotate_left; decide)
    | with_reducible apply Touches.ite
    | split
    | dsimp only

theorem State.beginFinger_touches (s : State) (x : Scan) :
    Touches [.keys] s (State.beginFinger s x) := by
  unfold State.beginFinger
  repeat' first
    | with_reducible apply Touches.refl
    | with_reducible assumption
    | with_reducible intro _
    | (with_reducible apply Touches.comp (State.setSlot_touches _ _ _); rotate_left; decide)
    | with_reducible apply Touches.ite
    | split
    | dsimp only

theorem State.fingerSend_touches (s : State) (x : Scan) (n : Nat) :
    Touches [.tallies, .fences, .arrs, .weft, .keys, .loom, .log, .counters, .trace, .out] s (State.fingerSend s x n) := by
  unfold State.fingerSend
  repeat' first
    | with_reducible apply Touches.refl
    | with_reducible assumption
    | with_reducible intro _
    | (with_reducible apply Touches.comp (State.setScan_touches _ _); rotate_left; decide)
    | (with_reducible apply Touches.comp (State.beginFinger_touches _ _); rotate_left; decide)
    | (with_reducible apply Touches.comp (State.submitLine_touches _ _); rotate_left; decide)
    | with_reducible apply Touches.ite
    | split
    | dsimp only

theorem State.fingerTurn_touches (s : State) (jid : Nat) :
    OptTouches [.tallies, .fences, .arrs, .weft, .keys, .loom, .log, .counters, .trace, .out] s (State.fingerTurn s jid) := by
  unfold State.fingerTurn
  repeat' first
    | with_reducible apply Touches.refl
    | with_reducible assumption
    | with_reducible intro _
    | with_reducible apply OptTouches.none
    | with_reducible apply OptTouches.some
    | (with_reducible apply Touches.comp (State.setScan_touches _ _); rotate_left; decide)
    | (with_reducible apply Touches.comp (State.fingerSend_touches _ _ _); rotate_left; decide)
    | (with_reducible apply Touches.comp (OptPairTouches.get (State.takeAnswer_touches _ _) (by assumption)); rotate_left; decide)
    | (with_reducible apply OptPairTouches.comp (State.takeAnswer_touches _ _); rotate_left; decide)
    | with_reducible apply OptTouches.map
    | with_reducible apply OptTouches.bind
    | with_reducible apply Touches.ite
    | with_reducible apply OptTouches.ite
    | split
    | dsimp only

theorem State.fingerTurns_touches (s : State) (jid : Nat) (a2 : Nat) :
    Touches [.tallies, .fences, .arrs, .weft, .keys, .loom, .log, .counters, .trace, .out] s (State.fingerTurns s jid a2) := by
  induction a2 generalizing s jid with
  | zero =>
    unfold State.fingerTurns
    repeat' first
      | with_reducible apply Touches.refl
      | with_reducible assumption
      | with_reducible intro _
      | (with_reducible apply Touches.comp (OptTouches.get (State.fingerTurn_touches _ _) (by assumption)); rotate_left; decide)
      | (with_reducible apply OptTouches.comp (State.fingerTurn_touches _ _); rotate_left; decide)
      | with_reducible apply Touches.ite
      | split
      | dsimp only
  | succ n ih =>
    unfold State.fingerTurns
    repeat' first
      | with_reducible apply Touches.refl
      | with_reducible assumption
      | with_reducible intro _
      | (with_reducible apply Touches.comp (ih _ _); rotate_left; decide)
      | (with_reducible apply Touches.comp (OptTouches.get (State.fingerTurn_touches _ _) (by assumption)); rotate_left; decide)
      | (with_reducible apply OptTouches.comp (State.fingerTurn_touches _ _); rotate_left; decide)
      | with_reducible apply Touches.ite
      | split
      | dsimp only

theorem State.runFinger_touches (s : State) (jid : Nat) :
    Touches [.tallies, .fences, .arrs, .weft, .keys, .loom, .log, .counters, .trace, .out] s (State.runFinger s jid) := by
  unfold State.runFinger
  repeat' first
    | with_reducible apply Touches.refl
    | with_reducible assumption
    | with_reducible intro _
    | (with_reducible apply Touches.comp (State.fingerTurns_touches _ _ _); rotate_left; decide)
    | with_reducible apply Touches.ite
    | split
    | dsimp only

theorem State.endScan_touches (s : State) (x : Scan) :
    Touches [.keys, .loom] s (State.endScan s x) := by
  unfold State.endScan
  repeat' first
    | with_reducible apply Touches.refl
    | with_reducible assumption
    | with_reducible intro _
    | (with_reducible apply Touches.comp (State.clearSlot_touches _ _); rotate_left; decide)
    | with_reducible apply Touches.ite
    | split
    | ((with_reducible apply Touches.set_loom); rotate_left; decide)
    | dsimp only

theorem State.bindScan_touches (s : State) (x : Scan) :
    Touches [.fences] s (State.bindScan s x) := by
  unfold State.bindScan
  repeat' first
    | with_reducible apply Touches.refl
    | with_reducible assumption
    | with_reducible intro _
    | (with_reducible apply Touches.comp (State.post_touches _ _ _ _ _); rotate_left; decide)
    | with_reducible apply Touches.ite
    | split
    | dsimp only

theorem State.stepScan_touches (s : State) (jid : Nat) :
    ResTouches [.doms, .tallies, .fences, .arrs, .quarantine, .weft, .shuttle, .batten, .spindle, .keys, .loom, .log, .counters, .trace, .events, .bp, .link, .out] s (State.stepScan s jid) := by
  unfold State.stepScan
  repeat' first
    | with_reducible apply Touches.refl
    | with_reducible assumption
    | with_reducible intro _
    | with_reducible apply ResTouches.fail
    | with_reducible apply ResTouches.refuse
    | with_reducible apply ResTouches.ok
    | with_reducible apply ResTouches.done
    | with_reducible apply ResTouches.wait
    | (with_reducible apply Touches.comp (State.drainInteg_touches _); rotate_left; decide)
    | (with_reducible apply Touches.comp (State.runFinger_touches _ _); rotate_left; decide)
    | (with_reducible apply Touches.comp (State.bindScan_touches _ _); rotate_left; decide)
    | (with_reducible apply Touches.comp (State.endScan_touches _ _); rotate_left; decide)
    | (with_reducible apply Touches.comp (State.runScan_touches _ _ _); rotate_left; decide)
    | with_reducible apply Touches.ite
    | with_reducible apply ResTouches.ite
    | split
    | dsimp only

theorem State.addScan_touches (s : State) (x : Scan) :
    Touches [.loom] s (State.addScan s x) := by
  unfold State.addScan
  repeat' first
    | with_reducible apply Touches.refl
    | with_reducible assumption
    | with_reducible intro _
    | with_reducible apply Touches.ite
    | split
    | ((with_reducible apply Touches.set_loom); rotate_left; decide)
    | dsimp only

theorem scrubBody_touches (s : State) (c : Cmd) :
    ResTouches [.doms, .tallies, .fences, .arrs, .quarantine, .weft, .shuttle, .batten, .spindle, .keys, .loom, .log, .counters, .trace, .events, .bp, .link, .out] s (scrubBody s c) := by
  unfold scrubBody
  repeat' first
    | with_reducible apply Touches.refl
    | with_reducible assumption
    | with_reducible intro _
    | with_reducible apply ResTouches.fail
    | with_reducible apply ResTouches.refuse
    | with_reducible apply ResTouches.ok
    | with_reducible apply ResTouches.done
    | with_reducible apply ResTouches.wait
    | (with_reducible apply Touches.comp (State.addScan_touches _ _); rotate_left; decide)
    | (with_reducible apply ResTouches.comp (State.stepScan_touches _ _); rotate_left; decide)
    | with_reducible apply Touches.ite
    | with_reducible apply ResTouches.ite
    | split
    | dsimp only

theorem memScrubSpec_touches (t : State) (c : Cmd) :
    ResTouches [.doms, .tallies, .fences, .arrs, .quarantine, .weft, .shuttle, .batten, .spindle, .keys, .loom, .log, .counters, .trace, .events, .bp, .link, .out] t (memScrubSpec.body t c) := by
  unfold memScrubSpec
  dsimp only
  repeat' first
    | with_reducible apply Touches.refl
    | with_reducible assumption
    | intro _
    | with_reducible apply ResTouches.fail
    | with_reducible apply ResTouches.refuse
    | with_reducible apply ResTouches.ok
    | with_reducible apply ResTouches.done
    | with_reducible apply ResTouches.wait
    | (with_reducible apply ResTouches.comp (scrubBody_touches _ _); rotate_left; decide)
    | (with_reducible apply Touches.comp (endSpentAfter_touches _ _); rotate_left; decide)
    | with_reducible apply Touches.ite
    | with_reducible apply ResTouches.ite
    | split
    | dsimp only

theorem execMemScrub_touches (src : Src) (s : State) :
    OutTouches [.doms, .tallies, .fences, .arrs, .quarantine, .weft, .shuttle, .batten, .spindle, .keys, .spdm, .loom, .log, .counters, .trace, .events, .bp, .mailbox, .link, .out] s (execMemScrub src s) := by
  unfold execMemScrub
  repeat' first
    | with_reducible apply Touches.refl
    | with_reducible assumption
    | with_reducible intro _
    | with_reducible apply OutTouches.next
    | with_reducible apply OutTouches.nextIf
    | (with_reducible apply State.runSrc_touches; rotate_left; decide)
    | ((with_reducible show Touches _ _ (CmdSpec.after _ _ _)); exact (State.endSpent_touches _).mono (by decide))
    | (with_reducible apply ResTouches.mono (memScrubSpec_touches _ _); decide)
    | with_reducible apply Touches.ite
    | with_reducible apply OutTouches.ite
    | split
    | dsimp only

theorem regionBody_touches (kind : ScanKind) (o : Nat) (s : State) (c : Cmd) :
    ResTouches [.doms, .tallies, .fences, .arrs, .quarantine, .weft, .shuttle, .batten, .spindle, .keys, .loom, .log, .counters, .trace, .events, .bp, .link, .out] s (regionBody kind o s c) := by
  unfold regionBody
  repeat' first
    | with_reducible apply Touches.refl
    | with_reducible assumption
    | with_reducible intro _
    | with_reducible apply ResTouches.fail
    | with_reducible apply ResTouches.refuse
    | with_reducible apply ResTouches.ok
    | with_reducible apply ResTouches.done
    | with_reducible apply ResTouches.wait
    | (with_reducible apply Touches.comp (State.addScan_touches _ _); rotate_left; decide)
    | (with_reducible apply ResTouches.comp (State.stepScan_touches _ _); rotate_left; decide)
    | with_reducible apply Touches.ite
    | with_reducible apply ResTouches.ite
    | split
    | dsimp only

theorem memFingerprintSpec_touches (t : State) (c : Cmd) :
    ResTouches [.doms, .tallies, .fences, .arrs, .quarantine, .weft, .shuttle, .batten, .spindle, .keys, .loom, .log, .counters, .trace, .events, .bp, .link, .out] t (memFingerprintSpec.body t c) := by
  unfold memFingerprintSpec
  dsimp only
  repeat' first
    | with_reducible apply Touches.refl
    | with_reducible assumption
    | intro _
    | with_reducible apply ResTouches.fail
    | with_reducible apply ResTouches.refuse
    | with_reducible apply ResTouches.ok
    | with_reducible apply ResTouches.done
    | with_reducible apply ResTouches.wait
    | (with_reducible apply Touches.comp (endSpentAfter_touches _ _); rotate_left; decide)
    | (with_reducible apply ResTouches.comp (regionBody_touches _ _ _ _); rotate_left; decide)
    | with_reducible apply Touches.ite
    | with_reducible apply ResTouches.ite
    | split
    | dsimp only

theorem execMemFingerprint_touches (src : Src) (s : State) :
    OutTouches [.doms, .tallies, .fences, .arrs, .quarantine, .weft, .shuttle, .batten, .spindle, .keys, .spdm, .loom, .log, .counters, .trace, .events, .bp, .mailbox, .link, .out] s (execMemFingerprint src s) := by
  unfold execMemFingerprint
  repeat' first
    | with_reducible apply Touches.refl
    | with_reducible assumption
    | with_reducible intro _
    | with_reducible apply OutTouches.next
    | with_reducible apply OutTouches.nextIf
    | (with_reducible apply State.runSrc_touches; rotate_left; decide)
    | ((with_reducible show Touches _ _ (CmdSpec.after _ _ _)); exact (State.endSpent_touches _).mono (by decide))
    | (with_reducible apply ResTouches.mono (memFingerprintSpec_touches _ _); decide)
    | with_reducible apply Touches.ite
    | with_reducible apply OutTouches.ite
    | split
    | dsimp only

theorem memDigestSpec_touches (t : State) (c : Cmd) :
    ResTouches [.doms, .tallies, .fences, .arrs, .quarantine, .weft, .shuttle, .batten, .spindle, .keys, .loom, .log, .counters, .trace, .events, .bp, .link, .out] t (memDigestSpec.body t c) := by
  unfold memDigestSpec
  dsimp only
  repeat' first
    | with_reducible apply Touches.refl
    | with_reducible assumption
    | intro _
    | with_reducible apply ResTouches.fail
    | with_reducible apply ResTouches.refuse
    | with_reducible apply ResTouches.ok
    | with_reducible apply ResTouches.done
    | with_reducible apply ResTouches.wait
    | (with_reducible apply Touches.comp (endSpentAfter_touches _ _); rotate_left; decide)
    | (with_reducible apply ResTouches.comp (regionBody_touches _ _ _ _); rotate_left; decide)
    | with_reducible apply Touches.ite
    | with_reducible apply ResTouches.ite
    | split
    | dsimp only

theorem execMemDigest_touches (src : Src) (s : State) :
    OutTouches [.doms, .tallies, .fences, .arrs, .quarantine, .weft, .shuttle, .batten, .spindle, .keys, .spdm, .loom, .log, .counters, .trace, .events, .bp, .mailbox, .link, .out] s (execMemDigest src s) := by
  unfold execMemDigest
  repeat' first
    | with_reducible apply Touches.refl
    | with_reducible assumption
    | with_reducible intro _
    | with_reducible apply OutTouches.next
    | with_reducible apply OutTouches.nextIf
    | (with_reducible apply State.runSrc_touches; rotate_left; decide)
    | ((with_reducible show Touches _ _ (CmdSpec.after _ _ _)); exact (State.endSpent_touches _).mono (by decide))
    | (with_reducible apply ResTouches.mono (memDigestSpec_touches _ _); decide)
    | with_reducible apply Touches.ite
    | with_reducible apply OutTouches.ite
    | split
    | dsimp only

theorem State.dmaRead_touches (s : State) (jid : Nat) (p : Path) (addr : Nat) (len : Nat) :
    Touches [.out] s (State.dmaRead s jid p addr len) := by
  unfold State.dmaRead
  repeat' first
    | with_reducible apply Touches.refl
    | with_reducible assumption
    | with_reducible intro _
    | (with_reducible apply Touches.comp (State.emit_touches _ _); rotate_left; decide)
    | with_reducible apply Touches.ite
    | split
    | dsimp only

theorem importBody_touches (s : State) (c : Cmd) :
    ResTouches [.keys, .out] s (importBody s c) := by
  unfold importBody
  repeat' first
    | with_reducible apply Touches.refl
    | with_reducible assumption
    | with_reducible intro _
    | with_reducible apply ResTouches.fail
    | with_reducible apply ResTouches.refuse
    | with_reducible apply ResTouches.ok
    | with_reducible apply ResTouches.done
    | with_reducible apply ResTouches.wait
    | (with_reducible apply Touches.comp (State.setSlot_touches _ _ _); rotate_left; decide)
    | (with_reducible apply Touches.comp (State.dmaRead_touches _ _ _ _ _); rotate_left; decide)
    | with_reducible apply Touches.ite
    | with_reducible apply ResTouches.ite
    | split
    | dsimp only

theorem memImportBlobSpec_touches (t : State) (c : Cmd) :
    ResTouches [.keys, .out] t (memImportBlobSpec.body t c) := by
  unfold memImportBlobSpec
  dsimp only
  repeat' first
    | with_reducible apply Touches.refl
    | with_reducible assumption
    | intro _
    | with_reducible apply ResTouches.fail
    | with_reducible apply ResTouches.refuse
    | with_reducible apply ResTouches.ok
    | with_reducible apply ResTouches.done
    | with_reducible apply ResTouches.wait
    | (with_reducible apply ResTouches.comp (importBody_touches _ _); rotate_left; decide)
    | with_reducible apply Touches.ite
    | with_reducible apply ResTouches.ite
    | split
    | dsimp only

theorem execMemImportBlob_touches (src : Src) (s : State) :
    OutTouches [.tallies, .fences, .shuttle, .keys, .spdm, .loom, .log, .counters, .trace, .mailbox, .out] s (execMemImportBlob src s) := by
  unfold execMemImportBlob
  repeat' first
    | with_reducible apply Touches.refl
    | with_reducible assumption
    | with_reducible intro _
    | with_reducible apply OutTouches.next
    | with_reducible apply OutTouches.nextIf
    | (with_reducible apply State.runSrc_touches; rotate_left; decide)
    | ((with_reducible show Touches _ _ (CmdSpec.after _ _ _)); exact Touches.refl _ _)
    | (with_reducible apply ResTouches.mono (memImportBlobSpec_touches _ _); decide)
    | with_reducible apply Touches.ite
    | with_reducible apply OutTouches.ite
    | split
    | dsimp only

theorem State.holdAll_touches (s : State) (gs : List Nat) :
    Touches [.got] s (State.holdAll s gs) := by
  unfold State.holdAll
  repeat' first
    | with_reducible apply Touches.refl
    | with_reducible assumption
    | with_reducible intro _
    | (with_reducible apply Touches.comp (State.setGot_touches _ _ _); rotate_left; decide)
    | with_reducible apply Touches.foldl
    | with_reducible apply Touches.ite
    | split
    | dsimp only

theorem State.ownAll_touches (s : State) (gs : List Nat) :
    Touches [.got] s (State.ownAll s gs) := by
  unfold State.ownAll
  repeat' first
    | with_reducible apply Touches.refl
    | with_reducible assumption
    | with_reducible intro _
    | (with_reducible apply Touches.comp (State.setGot_touches _ _ _); rotate_left; decide)
    | with_reducible apply Touches.foldl
    | with_reducible apply Touches.ite
    | split
    | dsimp only

theorem State.freeBusy_touches (s : State) (slot : Nat) :
    Touches [.keys] s (State.freeBusy s slot) := by
  unfold State.freeBusy
  repeat' first
    | with_reducible apply Touches.refl
    | with_reducible assumption
    | with_reducible intro _
    | (with_reducible apply Touches.comp (State.setSlot_touches _ _ _); rotate_left; decide)
    | with_reducible apply Touches.ite
    | split
    | dsimp only

theorem State.zeroTarget_touches (s : State) (jid : Nat) (ldi : Nat) (gs : List Nat) (lines : Nat) (index : Nat) (part : Bool) :
    ResTouches [.weft] s (State.zeroTarget s jid ldi gs lines index part) := by
  unfold State.zeroTarget
  repeat' first
    | with_reducible apply Touches.refl
    | with_reducible assumption
    | with_reducible intro _
    | with_reducible apply ResTouches.fail
    | with_reducible apply ResTouches.refuse
    | with_reducible apply ResTouches.ok
    | with_reducible apply ResTouches.done
    | with_reducible apply ResTouches.wait
    | with_reducible apply Touches.ite
    | with_reducible apply ResTouches.ite
    | split
    | ((with_reducible apply Touches.set_weft); rotate_left; decide)
    | dsimp only

theorem State.stepBlob_touches (s : State) (e : JEntry) (ldi : Nat) (slot : Nat) (src : Nat) (blobLen : Nat) (got : Bytes) (err : Bool) (x : Scan) :
    ResTouches [.got, .fences, .weft, .keys, .loom] s (State.stepBlob s e ldi slot src blobLen got err x) := by
  unfold State.stepBlob
  repeat' first
    | with_reducible apply Touches.refl
    | with_reducible assumption
    | with_reducible intro _
    | with_reducible apply ResTouches.fail
    | with_reducible apply ResTouches.refuse
    | with_reducible apply ResTouches.ok
    | with_reducible apply ResTouches.done
    | with_reducible apply ResTouches.wait
    | (with_reducible apply ResTouches.comp (State.zeroTarget_touches _ _ _ _ _ _ _); rotate_left; decide)
    | (with_reducible apply Touches.comp (State.bindScan_touches _ _); rotate_left; decide)
    | (with_reducible apply Touches.comp (State.ownAll_touches _ _); rotate_left; decide)
    | (with_reducible apply Touches.comp (State.endScan_touches _ _); rotate_left; decide)
    | (with_reducible apply ResTouches.comp (Res.ok_touches _ _ _); rotate_left; decide)
    | (with_reducible apply Touches.comp (State.freeBusy_touches _ _); rotate_left; decide)
    | with_reducible apply Touches.ite
    | with_reducible apply ResTouches.ite
    | split
    | dsimp only

theorem State.stepImport_touches (s : State) (e : JEntry) (ldi : Nat) (slot : Nat) (src : Nat) (blobLen : Nat) (got : Bytes) (sup : Supply) :
    ResTouches [.tallies, .got, .fences, .arrs, .weft, .keys, .loom, .log, .counters, .trace, .out] s (State.stepImport s e ldi slot src blobLen got sup) := by
  unfold State.stepImport
  repeat' first
    | with_reducible apply Touches.refl
    | with_reducible assumption
    | with_reducible intro _
    | with_reducible apply ResTouches.fail
    | with_reducible apply ResTouches.refuse
    | with_reducible apply ResTouches.ok
    | with_reducible apply ResTouches.done
    | with_reducible apply ResTouches.wait
    | (with_reducible apply Touches.comp (State.addScan_touches _ _); rotate_left; decide)
    | (with_reducible apply Touches.comp (State.setEntry_touches _ _); rotate_left; decide)
    | (with_reducible apply Touches.comp (State.holdAll_touches _ _); rotate_left; decide)
    | (with_reducible apply Touches.comp (State.runScan_touches _ _ _); rotate_left; decide)
    | (with_reducible apply ResTouches.comp (State.stepBlob_touches _ _ _ _ _ _ _ _ _); rotate_left; decide)
    | (with_reducible apply Touches.comp (State.freeBusy_touches _ _); rotate_left; decide)
    | (with_reducible apply Touches.comp (State.dmaRead_touches _ _ _ _ _); rotate_left; decide)
    | with_reducible apply OptTouches.getD
    | with_reducible apply Touches.ite
    | with_reducible apply ResTouches.ite
    | split
    | dsimp only

theorem State.stepZeroing_touches (s : State) (jid : Nat) (ldi : Nat) (lines : Nat) (index : Nat) (part : Bool) :
    ResTouches [] s (State.stepZeroing s jid ldi lines index part) := by
  unfold State.stepZeroing
  repeat' first
    | with_reducible apply Touches.refl
    | with_reducible assumption
    | with_reducible intro _
    | with_reducible apply ResTouches.fail
    | with_reducible apply ResTouches.refuse
    | with_reducible apply ResTouches.ok
    | with_reducible apply ResTouches.done
    | with_reducible apply ResTouches.wait
    | with_reducible apply Touches.ite
    | with_reducible apply ResTouches.ite
    | split
    | dsimp only

end Sys2Proof.Machine
end

