-- ==== Sys2Proof/Laws/Touches/Migration.lean ====
section
/-!
SUPPORT. What the operations of Machine/Migration.lean touch, one law for each.
-/
namespace Sys2Proof.Machine

set_option linter.unusedTactic false
set_option linter.unreachableTactic false

theorem migFreezeBody_touches (s : State) (c : Cmd) :
    ResTouches [] s (migFreezeBody s c) := by
  unfold migFreezeBody
  repeat' first
    | with_reducible apply Touches.refl
    | with_reducible assumption
    | with_reducible intro _
    | with_reducible apply ResTouches.fail
    | with_reducible apply ResTouches.refuse
    | with_reducible apply ResTouches.ok
    | with_reducible apply ResTouches.done
    | with_reducible apply ResTouches.wait
    | with_reducible apply Touches.ite
    | with_reducible apply ResTouches.ite
    | split
    | dsimp only

theorem migFreezeSpec_touches (t : State) (c : Cmd) :
    ResTouches [] t (migFreezeSpec.body t c) := by
  unfold migFreezeSpec
  dsimp only
  repeat' first
    | with_reducible apply Touches.refl
    | with_reducible assumption
    | intro _
    | with_reducible apply ResTouches.fail
    | with_reducible apply ResTouches.refuse
    | with_reducible apply ResTouches.ok
    | with_reducible apply ResTouches.done
    | with_reducible apply ResTouches.wait
    | (with_reducible apply ResTouches.comp (migFreezeBody_touches _ _); rotate_left; decide)
    | with_reducible apply Touches.ite
    | with_reducible apply ResTouches.ite
    | split
    | dsimp only

theorem execMigFreeze_touches (src : Src) (s : State) :
    OutTouches [.tallies, .fences, .shuttle, .spdm, .loom, .log, .counters, .trace, .mailbox, .out] s (execMigFreeze src s) := by
  unfold execMigFreeze
  repeat' first
    | with_reducible apply Touches.refl
    | with_reducible assumption
    | with_reducible intro _
    | with_reducible apply OutTouches.next
    | with_reducible apply OutTouches.nextIf
    | (with_reducible apply State.runSrc_touches; rotate_left; decide)
    | ((with_reducible show Touches _ _ (CmdSpec.after _ _ _)); exact Touches.refl _ _)
    | (with_reducible apply ResTouches.mono (migFreezeSpec_touches _ _); decide)
    | with_reducible apply Touches.ite
    | with_reducible apply OutTouches.ite
    | split
    | dsimp only

theorem State.stepFreezeDrain_touches (s : State) (e : JEntry) (ldi : Nat) (dest : Nat) (epoch : Nat) :
    ResTouches [.shuttle, .keys, .entropy, .loom, .counters, .out] s (State.stepFreezeDrain s e ldi dest epoch) := by
  unfold State.stepFreezeDrain
  repeat' first
    | with_reducible apply Touches.refl
    | with_reducible assumption
    | with_reducible exact Nat.le_refl _
    | with_reducible exact Nat.le_succ _
    | with_reducible intro _
    | with_reducible apply ResTouches.fail
    | with_reducible apply ResTouches.refuse
    | with_reducible apply ResTouches.ok
    | with_reducible apply ResTouches.done
    | with_reducible apply ResTouches.wait
    | (with_reducible apply Touches.comp (State.sendCtrl_touches _ _ _ _); rotate_left; decide)
    | (with_reducible apply Touches.comp (State.draw_touches _); rotate_left; decide)
    | (with_reducible apply Touches.comp (Touches.of_eq (by assumption) (State.draw_touches _)); rotate_left; decide)
    | (with_reducible apply Touches.comp (State.setEntry_touches _ _); rotate_left; decide)
    | (with_reducible apply Touches.comp (State.setSlot_touches _ _ _); rotate_left; decide)
    | with_reducible apply Touches.ite
    | with_reducible apply ResTouches.ite
    | split
    | dsimp only

theorem State.stepFreezePolicy_touches (s : State) (ldi : Nat) (dest : Nat) (slot : Nat) :
    ResTouches [.doms, .tallies, .keys] s (State.stepFreezePolicy s ldi dest slot) := by
  unfold State.stepFreezePolicy
  repeat' first
    | with_reducible apply Touches.refl
    | with_reducible assumption
    | with_reducible intro _
    | with_reducible apply ResTouches.fail
    | with_reducible apply ResTouches.refuse
    | with_reducible apply ResTouches.ok
    | with_reducible apply ResTouches.done
    | with_reducible apply ResTouches.wait
    | (with_reducible apply Touches.comp (State.clearSlot_touches _ _); rotate_left; decide)
    | (with_reducible apply Touches.comp (State.setDom_touches _ _ _); rotate_left; decide)
    | (with_reducible apply ResTouches.comp (Res.ok_touches _ _ _); rotate_left; decide)
    | with_reducible apply Touches.ite
    | with_reducible apply ResTouches.ite
    | split
    | dsimp only

theorem execMigFreezeAnswerTimeout_touches (ldi : Nat) (s : State) :
    OutTouches [.doms, .tallies, .fences, .quarantine, .weft, .shuttle, .batten, .spindle, .keys, .spdm, .time, .loom, .log, .counters, .trace, .events, .bp, .mailbox, .link, .out] s (execMigFreezeAnswerTimeout ldi s) := by
  unfold execMigFreezeAnswerTimeout
  repeat' first
    | with_reducible apply Touches.refl
    | with_reducible assumption
    | with_reducible intro _
    | with_reducible apply OutTouches.next
    | with_reducible apply OutTouches.nextIf
    | (with_reducible apply Touches.comp (State.advanceTo_touches _ _); rotate_left; decide)
    | (with_reducible apply Touches.comp (State.endSpent_touches _); rotate_left; decide)
    | (with_reducible apply Touches.comp (State.clearSlot_touches _ _); rotate_left; decide)
    | (with_reducible apply Touches.comp (State.drainTurns_touches _); rotate_left; decide)
    | (with_reducible apply Touches.comp (State.commit_touches _ _ _); rotate_left; decide)
    | with_reducible apply Touches.ite
    | with_reducible apply OutTouches.ite
    | split
    | dsimp only

theorem State.writePart_touches (s : State) (jid : Nat) (path : Path) (ldi : Nat) (m : Migration) (kind : Nat) (count : Nat) (first : Nat) (dst : Nat) (plain : Bytes) :
    ResTouches [.out] s (State.writePart s jid path ldi m kind count first dst plain) := by
  unfold State.writePart
  repeat' first
    | with_reducible apply Touches.refl
    | with_reducible assumption
    | with_reducible intro _
    | with_reducible apply ResTouches.fail
    | with_reducible apply ResTouches.refuse
    | with_reducible apply ResTouches.ok
    | with_reducible apply ResTouches.done
    | with_reducible apply ResTouches.wait
    | (with_reducible apply Touches.comp (State.emit_touches _ _); rotate_left; decide)
    | with_reducible apply Touches.ite
    | with_reducible apply ResTouches.ite
    | split
    | dsimp only

theorem State.stepExportWrite_touches (s : State) (ldi : Nat) (kind : Nat) (result : Bytes) (err : Bool) :
    ResTouches [.doms, .tallies] s (State.stepExportWrite s ldi kind result err) := by
  unfold State.stepExportWrite
  repeat' first
    | with_reducible apply Touches.refl
    | with_reducible assumption
    | with_reducible intro _
    | with_reducible apply ResTouches.fail
    | with_reducible apply ResTouches.refuse
    | with_reducible apply ResTouches.ok
    | with_reducible apply ResTouches.done
    | with_reducible apply ResTouches.wait
    | (with_reducible apply Touches.comp (State.setDom_touches _ _ _); rotate_left; decide)
    | (with_reducible apply ResTouches.comp (Res.ok_touches _ _ _); rotate_left; decide)
    | with_reducible apply Touches.ite
    | with_reducible apply ResTouches.ite
    | split
    | dsimp only

theorem migExportBody_touches (s : State) (c : Cmd) :
    ResTouches [.loom, .out] s (migExportBody s c) := by
  unfold migExportBody
  repeat' first
    | with_reducible apply Touches.refl
    | with_reducible assumption
    | with_reducible intro _
    | with_reducible apply ResTouches.fail
    | with_reducible apply ResTouches.refuse
    | with_reducible apply ResTouches.ok
    | with_reducible apply ResTouches.done
    | with_reducible apply ResTouches.wait
    | (with_reducible apply Touches.comp (State.addScan_touches _ _); rotate_left; decide)
    | (with_reducible apply ResTouches.comp (State.writePart_touches _ _ _ _ _ _ _ _ _ _); rotate_left; decide)
    | with_reducible apply Touches.ite
    | with_reducible apply ResTouches.ite
    | split
    | dsimp only

theorem migExportSpec_touches (t : State) (c : Cmd) :
    ResTouches [.loom, .out] t (migExportSpec.body t c) := by
  unfold migExportSpec
  dsimp only
  repeat' first
    | with_reducible apply Touches.refl
    | with_reducible assumption
    | intro _
    | with_reducible apply ResTouches.fail
    | with_reducible apply ResTouches.refuse
    | with_reducible apply ResTouches.ok
    | with_reducible apply ResTouches.done
    | with_reducible apply ResTouches.wait
    | (with_reducible apply ResTouches.comp (migExportBody_touches _ _); rotate_left; decide)
    | with_reducible apply Touches.ite
    | with_reducible apply ResTouches.ite
    | split
    | dsimp only

theorem execMigExport_touches (src : Src) (s : State) :
    OutTouches [.tallies, .fences, .shuttle, .spdm, .loom, .log, .counters, .trace, .mailbox, .out] s (execMigExport src s) := by
  unfold execMigExport
  repeat' first
    | with_reducible apply Touches.refl
    | with_reducible assumption
    | with_reducible intro _
    | with_reducible apply OutTouches.next
    | with_reducible apply OutTouches.nextIf
    | (with_reducible apply State.runSrc_touches; rotate_left; decide)
    | ((with_reducible show Touches _ _ (CmdSpec.after _ _ _)); exact Touches.refl _ _)
    | (with_reducible apply ResTouches.mono (migExportSpec_touches _ _); decide)
    | with_reducible apply Touches.ite
    | with_reducible apply OutTouches.ite
    | split
    | dsimp only

theorem State.stepExport_touches (s : State) (e : JEntry) (ldi : Nat) (first : Nat) (n : Nat) (dst : Nat) (index : Nat) (slot : Nat) :
    ResTouches [.doms, .tallies, .fences, .arrs, .quarantine, .weft, .shuttle, .batten, .spindle, .keys, .loom, .log, .counters, .trace, .events, .bp, .link, .out] s (State.stepExport s e ldi first n dst index slot) := by
  unfold State.stepExport
  repeat' first
    | with_reducible apply Touches.refl
    | with_reducible assumption
    | with_reducible intro _
    | with_reducible apply ResTouches.fail
    | with_reducible apply ResTouches.refuse
    | with_reducible apply ResTouches.ok
    | with_reducible apply ResTouches.done
    | with_reducible apply ResTouches.wait
    | (with_reducible apply Touches.comp (State.drainInteg_touches _); rotate_left; decide)
    | (with_reducible apply Touches.comp (State.bindScan_touches _ _); rotate_left; decide)
    | (with_reducible apply Touches.comp (State.endScan_touches _ _); rotate_left; decide)
    | (with_reducible apply ResTouches.comp (State.writePart_touches _ _ _ _ _ _ _ _ _ _); rotate_left; decide)
    | (with_reducible apply Touches.comp (State.runScan_touches _ _ _); rotate_left; decide)
    | with_reducible apply Touches.ite
    | with_reducible apply ResTouches.ite
    | split
    | dsimp only

theorem migImportBody_touches (s : State) (c : Cmd) :
    ResTouches [.out] s (migImportBody s c) := by
  unfold migImportBody
  repeat' first
    | with_reducible apply Touches.refl
    | with_reducible assumption
    | with_reducible intro _
    | with_reducible apply ResTouches.fail
    | with_reducible apply ResTouches.refuse
    | with_reducible apply ResTouches.ok
    | with_reducible apply ResTouches.done
    | with_reducible apply ResTouches.wait
    | (with_reducible apply Touches.comp (State.dmaRead_touches _ _ _ _ _); rotate_left; decide)
    | with_reducible apply Touches.ite
    | with_reducible apply ResTouches.ite
    | split
    | dsimp only

theorem migImportSpec_touches (t : State) (c : Cmd) :
    ResTouches [.out] t (migImportSpec.body t c) := by
  unfold migImportSpec
  dsimp only
  repeat' first
    | with_reducible apply Touches.refl
    | with_reducible assumption
    | intro _
    | with_reducible apply ResTouches.fail
    | with_reducible apply ResTouches.refuse
    | with_reducible apply ResTouches.ok
    | with_reducible apply ResTouches.done
    | with_reducible apply ResTouches.wait
    | (with_reducible apply ResTouches.comp (migImportBody_touches _ _); rotate_left; decide)
    | with_reducible apply Touches.ite
    | with_reducible apply ResTouches.ite
    | split
    | dsimp only

theorem execMigImport_touches (src : Src) (s : State) :
    OutTouches [.tallies, .fences, .shuttle, .spdm, .loom, .log, .counters, .trace, .mailbox, .out] s (execMigImport src s) := by
  unfold execMigImport
  repeat' first
    | with_reducible apply Touches.refl
    | with_reducible assumption
    | with_reducible intro _
    | with_reducible apply OutTouches.next
    | with_reducible apply OutTouches.nextIf
    | (with_reducible apply State.runSrc_touches; rotate_left; decide)
    | ((with_reducible show Touches _ _ (CmdSpec.after _ _ _)); exact Touches.refl _ _)
    | (with_reducible apply ResTouches.mono (migImportSpec_touches _ _); decide)
    | with_reducible apply Touches.ite
    | with_reducible apply OutTouches.ite
    | split
    | dsimp only

theorem State.takeState_touches (s : State) (ldi : Nat) (m : Migration) (got : Bytes) :
    ResTouches [.doms, .tallies] s (State.takeState s ldi m got) := by
  unfold State.takeState
  repeat' first
    | with_reducible apply Touches.refl
    | with_reducible assumption
    | with_reducible intro _
    | with_reducible apply ResTouches.fail
    | with_reducible apply ResTouches.refuse
    | with_reducible apply ResTouches.ok
    | with_reducible apply ResTouches.done
    | with_reducible apply ResTouches.wait
    | (with_reducible apply Touches.comp (State.setDom_touches _ _ _); rotate_left; decide)
    | (with_reducible apply ResTouches.comp (Res.ok_touches _ _ _); rotate_left; decide)
    | with_reducible apply Touches.ite
    | with_reducible apply ResTouches.ite
    | split
    | dsimp only

theorem State.stepPart_touches (s : State) (e : JEntry) (ldi : Nat) (src : Nat) (len : Nat) (got : Bytes) (err : Bool) (m : Migration) (x : Scan) :
    ResTouches [.doms, .tallies, .got, .fences, .weft, .keys, .loom] s (State.stepPart s e ldi src len got err m x) := by
  unfold State.stepPart
  repeat' first
    | with_reducible apply Touches.refl
    | with_reducible assumption
    | with_reducible intro _
    | with_reducible apply ResTouches.fail
    | with_reducible apply ResTouches.refuse
    | with_reducible apply ResTouches.ok
    | with_reducible apply ResTouches.done
    | with_reducible apply ResTouches.wait
    | (with_reducible apply ResTouches.comp (State.zeroTarget_touches _ _ _ _ _ _ _); rotate_left; decide)
    | (with_reducible apply Touches.comp (State.bindScan_touches _ _); rotate_left; decide)
    | (with_reducible apply Touches.comp (State.ownAll_touches _ _); rotate_left; decide)
    | (with_reducible apply Touches.comp (State.endScan_touches _ _); rotate_left; decide)
    | (with_reducible apply Touches.comp (State.setDom_touches _ _ _); rotate_left; decide)
    | (with_reducible apply ResTouches.comp (Res.ok_touches _ _ _); rotate_left; decide)
    | with_reducible apply Touches.ite
    | with_reducible apply ResTouches.ite
    | split
    | dsimp only

theorem State.openPart_touches (s : State) (e : JEntry) (ldi : Nat) (src : Nat) (len : Nat) (got : Bytes) (m : Migration) :
    ResTouches [.got, .loom, .out] s (State.openPart s e ldi src len got m) := by
  unfold State.openPart
  repeat' first
    | with_reducible apply Touches.refl
    | with_reducible assumption
    | with_reducible intro _
    | with_reducible apply ResTouches.fail
    | with_reducible apply ResTouches.refuse
    | with_reducible apply ResTouches.ok
    | with_reducible apply ResTouches.done
    | with_reducible apply ResTouches.wait
    | (with_reducible apply Touches.comp (State.addScan_touches _ _); rotate_left; decide)
    | (with_reducible apply Touches.comp (State.setEntry_touches _ _); rotate_left; decide)
    | (with_reducible apply Touches.comp (State.holdAll_touches _ _); rotate_left; decide)
    | (with_reducible apply Touches.comp (State.dmaRead_touches _ _ _ _ _); rotate_left; decide)
    | with_reducible apply Touches.ite
    | with_reducible apply ResTouches.ite
    | split
    | dsimp only

theorem State.endPart_touches (s : State) (e : JEntry) (ldi : Nat) (src : Nat) (len : Nat) (got : Bytes) (x0 : Scan) :
    ResTouches [.weft, .keys, .loom] s (State.endPart s e ldi src len got x0) := by
  unfold State.endPart
  repeat' first
    | with_reducible apply Touches.refl
    | with_reducible assumption
    | with_reducible intro _
    | with_reducible apply ResTouches.fail
    | with_reducible apply ResTouches.refuse
    | with_reducible apply ResTouches.ok
    | with_reducible apply ResTouches.done
    | with_reducible apply ResTouches.wait
    | (with_reducible apply ResTouches.comp (State.zeroTarget_touches _ _ _ _ _ _ _); rotate_left; decide)
    | (with_reducible apply Touches.comp (State.endScan_touches _ _); rotate_left; decide)
    | with_reducible apply OptTouches.getD
    | with_reducible apply Touches.ite
    | with_reducible apply ResTouches.ite
    | split
    | dsimp only

theorem State.stepMigImport_touches (s : State) (e : JEntry) (ldi : Nat) (src : Nat) (len : Nat) (got : Bytes) (sup : Supply) :
    ResTouches [.doms, .tallies, .got, .fences, .arrs, .weft, .keys, .loom, .log, .counters, .trace, .out] s (State.stepMigImport s e ldi src len got sup) := by
  unfold State.stepMigImport
  repeat' first
    | with_reducible apply Touches.refl
    | with_reducible assumption
    | with_reducible intro _
    | with_reducible apply ResTouches.fail
    | with_reducible apply ResTouches.refuse
    | with_reducible apply ResTouches.ok
    | with_reducible apply ResTouches.done
    | with_reducible apply ResTouches.wait
    | (with_reducible apply ResTouches.comp (State.takeState_touches _ _ _ _); rotate_left; decide)
    | (with_reducible apply ResTouches.comp (State.endPart_touches _ _ _ _ _ _ _); rotate_left; decide)
    | (with_reducible apply ResTouches.comp (State.openPart_touches _ _ _ _ _ _ _); rotate_left; decide)
    | (with_reducible apply Touches.comp (State.runScan_touches _ _ _); rotate_left; decide)
    | (with_reducible apply ResTouches.comp (State.stepPart_touches _ _ _ _ _ _ _ _ _); rotate_left; decide)
    | with_reducible apply OptTouches.getD
    | with_reducible apply Touches.ite
    | with_reducible apply ResTouches.ite
    | split
    | dsimp only

theorem State.applyFence_touches (s : State) (ldi : Nat) (x : Nat × Nat × Nat × Nat × Nat × Nat) :
    Touches [.fences, .out] s (State.applyFence s ldi x) := by
  unfold State.applyFence
  repeat' first
    | with_reducible apply Touches.refl
    | with_reducible assumption
    | with_reducible intro _
    | (with_reducible apply Touches.comp (State.setFence_touches _ _ _); rotate_left; decide)
    | (with_reducible apply Touches.comp (State.emit_touches _ _); rotate_left; decide)
    | with_reducible apply OptTouches.getD
    | with_reducible apply Touches.ite
    | split
    | ((with_reducible apply Touches.set_tables); rotate_left; exact TablesTouch.set_fences _ _ _ _ (by decide))
    | dsimp only

theorem State.applyArr_touches (s : State) (ldi : Nat) (x : Nat × Nat × Nat) :
    Touches [.arrs, .out] s (State.applyArr s ldi x) := by
  unfold State.applyArr
  repeat' first
    | with_reducible apply Touches.refl
    | with_reducible assumption
    | with_reducible intro _
    | (with_reducible apply Touches.comp (State.emit_touches _ _); rotate_left; decide)
    | with_reducible apply Touches.ite
    | split
    | ((with_reducible apply Touches.set_tables); rotate_left; exact TablesTouch.set_arrs _ _ _ (by decide))
    | dsimp only

theorem State.applyState_touches (s : State) (ldi : Nat) (m : MigState) :
    Touches [.doms, .tallies, .fences, .arrs, .spindle, .keys, .out] s (State.applyState s ldi m) := by
  unfold State.applyState
  repeat' first
    | with_reducible apply Touches.refl
    | with_reducible assumption
    | with_reducible intro _
    | (with_reducible apply Touches.comp (State.setFixed_touches _ _ _ _ _); rotate_left; decide)
    | (with_reducible apply Touches.comp (State.applyFence_touches _ _ _); rotate_left; decide)
    | (with_reducible apply Touches.comp (State.setDom_touches _ _ _); rotate_left; decide)
    | (with_reducible apply Touches.comp (State.applyArr_touches _ _ _); rotate_left; decide)
    | with_reducible apply Touches.foldl
    | with_reducible apply Touches.ite
    | split
    | ((with_reducible apply Touches.set_spindle); rotate_left; decide)
    | dsimp only

theorem State.endMigration_touches (s : State) (ldi : Nat) :
    Touches [.doms, .tallies, .keys] s (State.endMigration s ldi) := by
  unfold State.endMigration
  repeat' first
    | with_reducible apply Touches.refl
    | with_reducible assumption
    | with_reducible intro _
    | (with_reducible apply Touches.comp (State.dropKeys_touches _ _ _); rotate_left; decide)
    | (with_reducible apply Touches.comp (State.setDom_touches _ _ _); rotate_left; decide)
    | with_reducible apply Touches.ite
    | split
    | dsimp only

theorem migThawBody_touches (s : State) (c : Cmd) :
    ResTouches [.doms, .tallies, .fences, .arrs, .spindle, .keys, .out] s (migThawBody s c) := by
  unfold migThawBody
  repeat' first
    | with_reducible apply Touches.refl
    | with_reducible assumption
    | with_reducible intro _
    | with_reducible apply ResTouches.fail
    | with_reducible apply ResTouches.refuse
    | with_reducible apply ResTouches.ok
    | with_reducible apply ResTouches.done
    | with_reducible apply ResTouches.wait
    | (with_reducible apply Touches.comp (State.applyState_touches _ _ _); rotate_left; decide)
    | (with_reducible apply Touches.comp (State.endMigration_touches _ _); rotate_left; decide)
    | (with_reducible apply ResTouches.comp (Res.ok_touches _ _ _); rotate_left; decide)
    | with_reducible apply Touches.ite
    | with_reducible apply ResTouches.ite
    | split
    | dsimp only

theorem migThawSpec_touches (t : State) (c : Cmd) :
    ResTouches [.doms, .tallies, .fences, .arrs, .spindle, .keys, .out] t (migThawSpec.body t c) := by
  unfold migThawSpec
  dsimp only
  repeat' first
    | with_reducible apply Touches.refl
    | with_reducible assumption
    | intro _
    | with_reducible apply ResTouches.fail
    | with_reducible apply ResTouches.refuse
    | with_reducible apply ResTouches.ok
    | with_reducible apply ResTouches.done
    | with_reducible apply ResTouches.wait
    | (with_reducible apply ResTouches.comp (migThawBody_touches _ _); rotate_left; decide)
    | with_reducible apply Touches.ite
    | with_reducible apply ResTouches.ite
    | split
    | dsimp only

theorem execMigThaw_touches (src : Src) (s : State) :
    OutTouches [.doms, .tallies, .fences, .arrs, .shuttle, .spindle, .keys, .spdm, .loom, .log, .counters, .trace, .mailbox, .out] s (execMigThaw src s) := by
  unfold execMigThaw
  repeat' first
    | with_reducible apply Touches.refl
    | with_reducible assumption
    | with_reducible intro _
    | with_reducible apply OutTouches.next
    | with_reducible apply OutTouches.nextIf
    | (with_reducible apply State.runSrc_touches; rotate_left; decide)
    | ((with_reducible show Touches _ _ (CmdSpec.after _ _ _)); exact Touches.refl _ _)
    | (with_reducible apply ResTouches.mono (migThawSpec_touches _ _); decide)
    | with_reducible apply Touches.ite
    | with_reducible apply OutTouches.ite
    | split
    | dsimp only

end Sys2Proof.Machine
end

