-- ==== Sys2Proof/Laws/Touches/Profile.lean ====
section
/-!
SUPPORT. What the operations of Machine/Profile.lean touch, one law for each.
-/
namespace Sys2Proof.Machine

set_option linter.unusedTactic false
set_option linter.unreachableTactic false

theorem prfReadBody_touches (s : State) (c : Cmd) :
    ResTouches [] s (prfReadBody s c) := by
  unfold prfReadBody
  repeat' first
    | with_reducible apply Touches.refl
    | with_reducible assumption
    | with_reducible intro _
    | with_reducible apply ResTouches.fail
    | with_reducible apply ResTouches.refuse
    | with_reducible apply ResTouches.ok
    | with_reducible apply ResTouches.done
    | with_reducible apply ResTouches.wait
    | (with_reducible apply ResTouches.comp (Res.ok_touches _ _ _); rotate_left; decide)
    | with_reducible apply Touches.ite
    | with_reducible apply ResTouches.ite
    | split
    | dsimp only

theorem prfReadSpec_touches (t : State) (c : Cmd) :
    ResTouches [] t (prfReadSpec.body t c) := by
  unfold prfReadSpec
  dsimp only
  repeat' first
    | with_reducible apply Touches.refl
    | with_reducible assumption
    | intro _
    | with_reducible apply ResTouches.fail
    | with_reducible apply ResTouches.refuse
    | with_reducible apply ResTouches.ok
    | with_reducible apply ResTouches.done
    | with_reducible apply ResTouches.wait
    | (with_reducible apply ResTouches.comp (prfReadBody_touches _ _); rotate_left; decide)
    | with_reducible apply Touches.ite
    | with_reducible apply ResTouches.ite
    | split
    | dsimp only

theorem execPrfRead_touches (src : Src) (s : State) :
    OutTouches [.tallies, .fences, .shuttle, .spdm, .loom, .log, .counters, .trace, .mailbox, .out] s (execPrfRead src s) := by
  unfold execPrfRead
  repeat' first
    | with_reducible apply Touches.refl
    | with_reducible assumption
    | with_reducible intro _
    | with_reducible apply OutTouches.next
    | with_reducible apply OutTouches.nextIf
    | (with_reducible apply State.runSrc_touches; rotate_left; decide)
    | ((with_reducible show Touches _ _ (CmdSpec.after _ _ _)); exact Touches.refl _ _)
    | (with_reducible apply ResTouches.mono (prfReadSpec_touches _ _); decide)
    | with_reducible apply Touches.ite
    | with_reducible apply OutTouches.ite
    | split
    | dsimp only

theorem State.latch_touches (s : State) (a : ArmedFreeze) (late : Bool) :
    Touches [.counters] s (State.latch s a late) := by
  unfold State.latch
  repeat' first
    | with_reducible apply Touches.refl
    | with_reducible assumption
    | with_reducible intro _
    | with_reducible apply Touches.ite
    | split
    | ((with_reducible apply Touches.set_counters); rotate_left; decide)
    | dsimp only

theorem State.armFreeze_touches (s : State) (a : ArmedFreeze) :
    Touches [.counters] s (State.armFreeze s a) := by
  unfold State.armFreeze
  repeat' first
    | with_reducible apply Touches.refl
    | with_reducible assumption
    | with_reducible intro _
    | with_reducible apply Touches.ite
    | split
    | ((with_reducible apply Touches.set_counters); rotate_left; decide)
    | dsimp only

theorem freezeAtBody_touches (s : State) (c : Cmd) :
    ResTouches [.counters] s (freezeAtBody s c) := by
  unfold freezeAtBody
  repeat' first
    | with_reducible apply Touches.refl
    | with_reducible assumption
    | with_reducible intro _
    | with_reducible apply ResTouches.fail
    | with_reducible apply ResTouches.refuse
    | with_reducible apply ResTouches.ok
    | with_reducible apply ResTouches.done
    | with_reducible apply ResTouches.wait
    | (with_reducible apply ResTouches.comp (Res.ok_touches _ _ _); rotate_left; decide)
    | (with_reducible apply Touches.comp (State.armFreeze_touches _ _); rotate_left; decide)
    | with_reducible apply Touches.ite
    | with_reducible apply ResTouches.ite
    | split
    | ((with_reducible apply Touches.set_counters); rotate_left; decide)
    | dsimp only

theorem sendFreeze_touches (c : Cmd) (s : State) :
    Touches [.doms, .tallies, .fences, .quarantine, .weft, .shuttle, .batten, .spindle, .keys, .loom, .log, .counters, .trace, .events, .bp, .link, .out] s (sendFreeze c s) := by
  unfold sendFreeze
  repeat' first
    | with_reducible apply Touches.refl
    | with_reducible assumption
    | with_reducible intro _
    | (with_reducible apply Touches.comp (State.sendCtrl_touches _ _ _ _); rotate_left; decide)
    | (with_reducible apply Touches.comp (State.endSpent_touches _); rotate_left; decide)
    | with_reducible apply Touches.foldl
    | with_reducible apply Touches.ite
    | split
    | dsimp only

theorem prfFreezeAtSpec_touches (t : State) (c : Cmd) :
    ResTouches [.doms, .tallies, .fences, .quarantine, .weft, .shuttle, .batten, .spindle, .keys, .loom, .log, .counters, .trace, .events, .bp, .link, .out] t (prfFreezeAtSpec.body t c) := by
  unfold prfFreezeAtSpec
  dsimp only
  repeat' first
    | with_reducible apply Touches.refl
    | with_reducible assumption
    | intro _
    | with_reducible apply ResTouches.fail
    | with_reducible apply ResTouches.refuse
    | with_reducible apply ResTouches.ok
    | with_reducible apply ResTouches.done
    | with_reducible apply ResTouches.wait
    | (with_reducible apply ResTouches.comp (freezeAtBody_touches _ _); rotate_left; decide)
    | (with_reducible apply Touches.comp (sendFreeze_touches _ _); rotate_left; decide)
    | with_reducible apply Touches.ite
    | with_reducible apply ResTouches.ite
    | split
    | dsimp only

theorem execPrfFreezeAt_touches (src : Src) (s : State) :
    OutTouches [.doms, .tallies, .fences, .quarantine, .weft, .shuttle, .batten, .spindle, .keys, .spdm, .loom, .log, .counters, .trace, .events, .bp, .mailbox, .link, .out] s (execPrfFreezeAt src s) := by
  unfold execPrfFreezeAt
  repeat' first
    | with_reducible apply Touches.refl
    | with_reducible assumption
    | with_reducible intro _
    | with_reducible apply OutTouches.next
    | with_reducible apply OutTouches.nextIf
    | (with_reducible apply State.runSrc_touches; rotate_left; decide)
    | ((with_reducible show Touches _ _ (CmdSpec.after _ _ _)); exact (sendFreeze_touches _ _).mono (by decide))
    | (with_reducible apply ResTouches.mono (prfFreezeAtSpec_touches _ _); decide)
    | with_reducible apply Touches.ite
    | with_reducible apply OutTouches.ite
    | split
    | dsimp only

theorem execFreezeFire_touches (ldi : Nat) (s : State) :
    OutTouches [.time, .counters] s (execFreezeFire ldi s) := by
  unfold execFreezeFire
  repeat' first
    | with_reducible apply Touches.refl
    | with_reducible assumption
    | with_reducible intro _
    | with_reducible apply OutTouches.next
    | with_reducible apply OutTouches.nextIf
    | (with_reducible apply Touches.comp (State.advanceCounter_touches _ _); rotate_left; decide)
    | (with_reducible apply Touches.comp (State.latch_touches _ _ _); rotate_left; decide)
    | with_reducible apply Touches.ite
    | with_reducible apply OutTouches.ite
    | split
    | dsimp only

theorem State.takeFreeze_touches (s : State) (peer : Nat) (ldi : Nat) (b : Bytes) :
    Touches [.shuttle, .counters, .out] s (State.takeFreeze s peer ldi b) := by
  unfold State.takeFreeze
  repeat' first
    | with_reducible apply Touches.refl
    | with_reducible assumption
    | with_reducible intro _
    | (with_reducible apply Touches.comp (State.sendCtrl_touches _ _ _ _); rotate_left; decide)
    | (with_reducible apply Touches.comp (State.latch_touches _ _ _); rotate_left; decide)
    | (with_reducible apply Touches.comp (State.armFreeze_touches _ _); rotate_left; decide)
    | with_reducible apply Touches.foldl
    | with_reducible apply Touches.ite
    | split
    | ((with_reducible apply Touches.set_counters); rotate_left; decide)
    | dsimp only

theorem execFreeze_touches (peer : Nat) (s : State) :
    OutTouches [.doms, .tallies, .fences, .quarantine, .weft, .shuttle, .batten, .spindle, .keys, .loom, .log, .counters, .trace, .events, .bp, .link, .out] s (execFreeze peer s) := by
  unfold execFreeze
  repeat' first
    | with_reducible apply Touches.refl
    | with_reducible assumption
    | with_reducible intro _
    | with_reducible apply OutTouches.next
    | with_reducible apply OutTouches.nextIf
    | (with_reducible apply Touches.comp (State.endSpent_touches _); rotate_left; decide)
    | (with_reducible apply State.onMsg_touches; decide)
    | (with_reducible apply Touches.comp (State.takeFreeze_touches _ _ _ _); rotate_left; decide)
    | with_reducible apply Touches.ite
    | with_reducible apply OutTouches.ite
    | split
    | dsimp only

theorem consentBody_touches (s : State) (c : Cmd) :
    ResTouches [.doms, .tallies] s (consentBody s c) := by
  unfold consentBody
  repeat' first
    | with_reducible apply Touches.refl
    | with_reducible assumption
    | with_reducible intro _
    | with_reducible apply ResTouches.fail
    | with_reducible apply ResTouches.refuse
    | with_reducible apply ResTouches.ok
    | with_reducible apply ResTouches.done
    | with_reducible apply ResTouches.wait
    | (with_reducible apply Touches.comp (State.setDom_touches _ _ _); rotate_left; decide)
    | (with_reducible apply ResTouches.comp (Res.ok_touches _ _ _); rotate_left; decide)
    | with_reducible apply Touches.ite
    | with_reducible apply ResTouches.ite
    | split
    | dsimp only

theorem traceConfigBody_touches (s : State) (c : Cmd) :
    ResTouches [.doms, .tallies, .trace] s (traceConfigBody s c) := by
  unfold traceConfigBody
  repeat' first
    | with_reducible apply Touches.refl
    | with_reducible assumption
    | with_reducible intro _
    | with_reducible apply ResTouches.fail
    | with_reducible apply ResTouches.refuse
    | with_reducible apply ResTouches.ok
    | with_reducible apply ResTouches.done
    | with_reducible apply ResTouches.wait
    | (with_reducible apply ResTouches.comp (consentBody_touches _ _); rotate_left; decide)
    | (with_reducible apply ResTouches.comp (Res.ok_touches _ _ _); rotate_left; decide)
    | with_reducible apply Touches.ite
    | with_reducible apply ResTouches.ite
    | split
    | ((with_reducible apply Touches.set_trace); rotate_left; decide)
    | dsimp only

theorem trcConfigSpec_touches (t : State) (c : Cmd) :
    ResTouches [.doms, .tallies, .trace] t (trcConfigSpec.body t c) := by
  unfold trcConfigSpec
  dsimp only
  repeat' first
    | with_reducible apply Touches.refl
    | with_reducible assumption
    | intro _
    | with_reducible apply ResTouches.fail
    | with_reducible apply ResTouches.refuse
    | with_reducible apply ResTouches.ok
    | with_reducible apply ResTouches.done
    | with_reducible apply ResTouches.wait
    | (with_reducible apply ResTouches.comp (traceConfigBody_touches _ _); rotate_left; decide)
    | with_reducible apply Touches.ite
    | with_reducible apply ResTouches.ite
    | split
    | dsimp only

theorem execTrcConfig_touches (src : Src) (s : State) :
    OutTouches [.doms, .tallies, .fences, .shuttle, .spdm, .loom, .log, .counters, .trace, .mailbox, .out] s (execTrcConfig src s) := by
  unfold execTrcConfig
  repeat' first
    | with_reducible apply Touches.refl
    | with_reducible assumption
    | with_reducible intro _
    | with_reducible apply OutTouches.next
    | with_reducible apply OutTouches.nextIf
    | (with_reducible apply State.runSrc_touches; rotate_left; decide)
    | ((with_reducible show Touches _ _ (CmdSpec.after _ _ _)); exact Touches.refl _ _)
    | (with_reducible apply ResTouches.mono (trcConfigSpec_touches _ _); decide)
    | with_reducible apply Touches.ite
    | with_reducible apply OutTouches.ite
    | split
    | dsimp only

theorem traceMarkBody_touches (s : State) (c : Cmd) :
    ResTouches [.counters, .trace] s (traceMarkBody s c) := by
  unfold traceMarkBody
  repeat' first
    | with_reducible apply Touches.refl
    | with_reducible assumption
    | with_reducible intro _
    | with_reducible apply ResTouches.fail
    | with_reducible apply ResTouches.refuse
    | with_reducible apply ResTouches.ok
    | with_reducible apply ResTouches.done
    | with_reducible apply ResTouches.wait
    | (with_reducible apply Touches.comp (State.traceWrite_touches _ _); rotate_left; decide)
    | (with_reducible apply ResTouches.comp (Res.ok_touches _ _ _); rotate_left; decide)
    | with_reducible apply Touches.ite
    | with_reducible apply ResTouches.ite
    | split
    | dsimp only

theorem trcMarkSpec_touches (t : State) (c : Cmd) :
    ResTouches [.counters, .trace] t (trcMarkSpec.body t c) := by
  unfold trcMarkSpec
  dsimp only
  repeat' first
    | with_reducible apply Touches.refl
    | with_reducible assumption
    | intro _
    | with_reducible apply ResTouches.fail
    | with_reducible apply ResTouches.refuse
    | with_reducible apply ResTouches.ok
    | with_reducible apply ResTouches.done
    | with_reducible apply ResTouches.wait
    | (with_reducible apply ResTouches.comp (traceMarkBody_touches _ _); rotate_left; decide)
    | with_reducible apply Touches.ite
    | with_reducible apply ResTouches.ite
    | split
    | dsimp only

theorem execTrcMark_touches (src : Src) (s : State) :
    OutTouches [.tallies, .fences, .shuttle, .spdm, .loom, .log, .counters, .trace, .mailbox, .out] s (execTrcMark src s) := by
  unfold execTrcMark
  repeat' first
    | with_reducible apply Touches.refl
    | with_reducible assumption
    | with_reducible intro _
    | with_reducible apply OutTouches.next
    | with_reducible apply OutTouches.nextIf
    | (with_reducible apply State.runSrc_touches; rotate_left; decide)
    | ((with_reducible show Touches _ _ (CmdSpec.after _ _ _)); exact Touches.refl _ _)
    | (with_reducible apply ResTouches.mono (trcMarkSpec_touches _ _); decide)
    | with_reducible apply Touches.ite
    | with_reducible apply OutTouches.ite
    | split
    | dsimp only

theorem traceReadBody_touches (s : State) (c : Cmd) :
    ResTouches [] s (traceReadBody s c) := by
  unfold traceReadBody
  repeat' first
    | with_reducible apply Touches.refl
    | with_reducible assumption
    | with_reducible intro _
    | with_reducible apply ResTouches.fail
    | with_reducible apply ResTouches.refuse
    | with_reducible apply ResTouches.ok
    | with_reducible apply ResTouches.done
    | with_reducible apply ResTouches.wait
    | (with_reducible apply ResTouches.comp (Res.ok_touches _ _ _); rotate_left; decide)
    | with_reducible apply OptTouches.getD
    | with_reducible apply Touches.ite
    | with_reducible apply ResTouches.ite
    | split
    | dsimp only

theorem trcReadSpec_touches (t : State) (c : Cmd) :
    ResTouches [] t (trcReadSpec.body t c) := by
  unfold trcReadSpec
  dsimp only
  repeat' first
    | with_reducible apply Touches.refl
    | with_reducible assumption
    | intro _
    | with_reducible apply ResTouches.fail
    | with_reducible apply ResTouches.refuse
    | with_reducible apply ResTouches.ok
    | with_reducible apply ResTouches.done
    | with_reducible apply ResTouches.wait
    | (with_reducible apply ResTouches.comp (traceReadBody_touches _ _); rotate_left; decide)
    | with_reducible apply Touches.ite
    | with_reducible apply ResTouches.ite
    | split
    | dsimp only

theorem execTrcRead_touches (src : Src) (s : State) :
    OutTouches [.tallies, .fences, .shuttle, .spdm, .loom, .log, .counters, .trace, .mailbox, .out] s (execTrcRead src s) := by
  unfold execTrcRead
  repeat' first
    | with_reducible apply Touches.refl
    | with_reducible assumption
    | with_reducible intro _
    | with_reducible apply OutTouches.next
    | with_reducible apply OutTouches.nextIf
    | (with_reducible apply State.runSrc_touches; rotate_left; decide)
    | ((with_reducible show Touches _ _ (CmdSpec.after _ _ _)); exact Touches.refl _ _)
    | (with_reducible apply ResTouches.mono (trcReadSpec_touches _ _); decide)
    | with_reducible apply Touches.ite
    | with_reducible apply OutTouches.ite
    | split
    | dsimp only

theorem State.writeSegment_touches (s : State) (src : Nat) (all : List Segment) (ldi : Nat) :
    Touches [.counters, .trace] s (State.writeSegment s src all ldi) := by
  unfold State.writeSegment
  repeat' first
    | with_reducible apply Touches.refl
    | with_reducible assumption
    | with_reducible intro _
    | (with_reducible apply Touches.comp (State.traceWrite_touches _ _); rotate_left; decide)
    | with_reducible apply Touches.ite
    | split
    | dsimp only

theorem execTraceSegmentPeriod_touches (src : Nat) (inst : Nat) (s : State) :
    OutTouches [.time, .counters, .trace] s (execTraceSegmentPeriod src inst s) := by
  unfold execTraceSegmentPeriod
  repeat' first
    | with_reducible apply Touches.refl
    | with_reducible assumption
    | with_reducible intro _
    | with_reducible apply OutTouches.next
    | with_reducible apply OutTouches.nextIf
    | (with_reducible apply Touches.comp (State.advanceTo_touches _ _); rotate_left; decide)
    | (with_reducible apply Touches.comp (State.bump_touches _ _ _); rotate_left; decide)
    | (with_reducible apply Touches.comp (State.writeSegment_touches _ _ _ _); rotate_left; decide)
    | with_reducible apply Touches.foldl
    | with_reducible apply Touches.ite
    | with_reducible apply OutTouches.ite
    | split
    | ((with_reducible apply Touches.set_trace); rotate_left; decide)
    | dsimp only

/-- Copying counters leaves each record's core. -/
theorem Map.core_coarse (m : Map Domain) (l : Nat) :
    (Map.findD (m.map (fun (x : Nat × Domain) => (x.1, { x.2 with coarse := x.2.counters }))) l {}).core =
      (Map.findD m l {}).core := by
  induction m with
  | nil => rfl
  | cons x xs ih =>
    obtain ⟨k, d⟩ := x
    by_cases h : k = l
    · simp only [List.map_cons, Map.findD, Map.find, h, if_true]
      rfl
    · simp only [List.map_cons, Map.findD, Map.find, h, if_false]
      exact ih

/-- Counters of all domains change. -/
theorem TablesTouch.set_tallies {F : List Part} {a : Tables} (x : Map Domain) (m : Part.tallies ∈ F)
    (e : ∀ l, (x.findD l {}).core = (a.domains.findD l {}).core) : TablesTouch F a { a with domains := x } where
  doms := Or.inr e
  tallies := Or.inr (Or.inl m)
  got := Or.inr rfl
  contexts := Or.inr rfl
  fences := Or.inr ⟨rfl, rfl, rfl, rfl⟩
  arrs := Or.inr ⟨rfl, rfl, rfl⟩
  quarantine := Or.inr ⟨rfl, rfl⟩

theorem execCoarseSnapshot_touches (s : State) :
    OutTouches [.tallies, .time, .counters] s (execCoarseSnapshot s) := by
  have key : ∀ (a : State) (k : Counters) (doms : Map Domain), Touches [.tallies, .time, .counters] s a →
      (∀ l, (doms.findD l {}).core = (a.tables.domains.findD l {}).core) →
      OutTouches [.tallies, .time, .counters] s (nextIf s.clocked s { a with counters := k, tables := { a.tables with domains := doms } }) :=
    fun a k doms h e => OutTouches.nextIf (Touches.refl _ _)
      (Touches.set_tables_counters _ _ h (TablesTouch.set_tallies doms (by decide) e) (by decide))
  exact key _ _ _ ((State.advanceTo_touches _ _).mono (by decide)) (Map.core_coarse _)

theorem execPowerEstimateUpdate_touches (milliwatt : Nat) (s : State) :
    OutTouches [.time, .counters] s (execPowerEstimateUpdate milliwatt s) := by
  unfold execPowerEstimateUpdate
  repeat' first
    | with_reducible apply Touches.refl
    | with_reducible assumption
    | with_reducible intro _
    | with_reducible apply OutTouches.next
    | with_reducible apply OutTouches.nextIf
    | (with_reducible apply Touches.comp (State.advanceTo_touches _ _); rotate_left; decide)
    | with_reducible apply Touches.ite
    | with_reducible apply OutTouches.ite
    | split
    | ((with_reducible apply Touches.set_counters); rotate_left; decide)
    | dsimp only

end Sys2Proof.Machine
end

