-- ==== Sys2Proof/Laws/Touches/Spdm.lean ====
section
/-!
SUPPORT. What the operations of Machine/Spdm.lean touch, one law for each.
-/
namespace Sys2Proof.Machine

set_option linter.unusedTactic false
set_option linter.unreachableTactic false

theorem State.takeSpdm_touches (s : State) (i : Instr) (m : SpdmCtx) :
    OptTouches [.spdm] s (State.takeSpdm s i m) := by
  unfold State.takeSpdm
  repeat' first
    | with_reducible apply Touches.refl
    | with_reducible assumption
    | with_reducible intro _
    | with_reducible apply OptTouches.none
    | with_reducible apply OptTouches.some
    | (with_reducible apply Touches.comp (State.setSession_touches _ _ _); rotate_left; decide)
    | with_reducible apply OptTouches.map
    | with_reducible apply OptTouches.bind
    | with_reducible apply Touches.ite
    | with_reducible apply OptTouches.ite
    | split
    | dsimp only

theorem State.addTranscript_touches (s : State) (c : Conn) (b : Bytes) :
    Touches [.spdm] s (State.addTranscript s c b) := by
  unfold State.addTranscript
  repeat' first
    | with_reducible apply Touches.refl
    | with_reducible assumption
    | with_reducible intro _
    | (with_reducible apply Touches.comp (State.setConn_touches _ _ _); rotate_left; decide)
    | with_reducible apply Touches.ite
    | split
    | dsimp only

theorem State.addSetup_touches (s : State) (c : Conn) (b : Bytes) :
    Touches [.spdm] s (State.addSetup s c b) := by
  unfold State.addSetup
  repeat' first
    | with_reducible apply Touches.refl
    | with_reducible assumption
    | with_reducible intro _
    | (with_reducible apply Touches.comp (State.setConn_touches _ _ _); rotate_left; decide)
    | with_reducible apply Touches.ite
    | split
    | dsimp only

theorem State.answerSpdm_touches {F : List Part} {s0 s : State} {i : Instr} {m : SpdmCtx} {v : Bool} {p : Place}
    {f : State → Resp × State} (h : Touches F s0 s) (sub : ∀ p ∈ ([.spdm] : List Part), p ∈ F)
    (hf : ∀ t, Touches F s0 t → Touches F s0 (f t).2) : Touches F s0 (State.answerSpdm s i m v p f).2 := by
  have ha : ∀ c b, Touches F s0 ((f s).2.addTranscript c b) := fun c b =>
    (hf s h).andThen (State.addTranscript_touches _ _ _) (fun p q => sub p (by revert q; revert p; decide))
  unfold State.answerSpdm
  split
  · exact h
  · split
    · exact h
    · split
      · exact h
      · split
        · exact h
        · dsimp only
          split
          · split
            · exact hf _ h
            · dsimp only
              split
              · exact (ha _ _).andThen (State.addSetup_touches _ _ _) (fun p q => sub p (by revert q; revert p; decide))
              · exact ha _ _
          · exact hf _ h

theorem State.giveAnswer_touches (s : State) (m : SpdmCtx) (a : Resp) :
    Touches [.spdm, .loom, .out] s (State.giveAnswer s m a) := by
  unfold State.giveAnswer
  repeat' first
    | with_reducible apply Touches.refl
    | with_reducible assumption
    | with_reducible intro _
    | (with_reducible apply Touches.comp (State.sendSpdm_touches _ _ _ _ _); rotate_left; decide)
    | with_reducible apply Touches.ite
    | split
    | dsimp only

theorem State.spdmRow_touches {F : List Part} {s : State} {i : Instr} {m : SpdmCtx} {f : State → Resp × State}
    (sub : ∀ p ∈ ([.spdm, .loom, .out] : List Part), p ∈ F) (hf : ∀ t, Touches F s t → Touches F s (f t).2) :
    OutTouches F s (State.spdmRow s i m f) := by
  unfold State.spdmRow
  refine OutTouches.nextIf (Touches.refl _ _) ?_
  split
  · rename_i t e
    exact (hf _ (((State.takeSpdm_touches s i m).get e).mono (fun p q => sub p (by revert q; revert p; decide)))).andThen (State.giveAnswer_touches _ _ _)
      (fun p q => sub p (by revert q; revert p; decide))
  · exact Touches.refl _ _

theorem respVersion_touches (m : SpdmCtx) (s : State) :
    Touches [.spdm] s (respVersion m s).2 := by
  unfold respVersion
  repeat' first
    | with_reducible apply Touches.refl
    | with_reducible assumption
    | with_reducible intro _
    | (with_reducible apply Touches.comp (State.setConn_touches _ _ _); rotate_left; decide)
    | (with_reducible apply State.answerSpdm_touches; rotate_left; decide)
    | with_reducible apply Touches.ite
    | split
    | dsimp only

theorem execGetVersion_touches (m : SpdmCtx) (s : State) :
    OutTouches [.spdm, .loom, .out] s (execGetVersion m s) := by
  unfold execGetVersion
  repeat' first
    | with_reducible apply Touches.refl
    | with_reducible assumption
    | with_reducible intro _
    | with_reducible apply OutTouches.next
    | with_reducible apply OutTouches.nextIf
    | (with_reducible apply Touches.comp (respVersion_touches _ _); rotate_left; decide)
    | (with_reducible apply Touches.comp (Touches.of_eq (by assumption) (respVersion_touches _ _)); rotate_left; decide)
    | (with_reducible apply State.spdmRow_touches; decide)
    | with_reducible apply Touches.ite
    | with_reducible apply OutTouches.ite
    | split
    | dsimp only

theorem respCapabilities_touches (m : SpdmCtx) (s : State) :
    Touches [.spdm] s (respCapabilities m s).2 := by
  unfold respCapabilities
  repeat' first
    | with_reducible apply Touches.refl
    | with_reducible assumption
    | with_reducible intro _
    | (with_reducible apply Touches.comp (State.setConn_touches _ _ _); rotate_left; decide)
    | (with_reducible apply State.answerSpdm_touches; rotate_left; decide)
    | with_reducible apply Touches.ite
    | split
    | dsimp only

theorem execGetCapabilities_touches (m : SpdmCtx) (s : State) :
    OutTouches [.spdm, .loom, .out] s (execGetCapabilities m s) := by
  unfold execGetCapabilities
  repeat' first
    | with_reducible apply Touches.refl
    | with_reducible assumption
    | with_reducible intro _
    | with_reducible apply OutTouches.next
    | with_reducible apply OutTouches.nextIf
    | (with_reducible apply Touches.comp (respCapabilities_touches _ _); rotate_left; decide)
    | (with_reducible apply Touches.comp (Touches.of_eq (by assumption) (respCapabilities_touches _ _)); rotate_left; decide)
    | (with_reducible apply State.spdmRow_touches; decide)
    | with_reducible apply Touches.ite
    | with_reducible apply OutTouches.ite
    | split
    | dsimp only

theorem respAlgorithms_touches (m : SpdmCtx) (offered : Bool) (s : State) :
    Touches [.spdm] s (respAlgorithms m offered s).2 := by
  unfold respAlgorithms
  repeat' first
    | with_reducible apply Touches.refl
    | with_reducible assumption
    | with_reducible intro _
    | (with_reducible apply Touches.comp (State.setConn_touches _ _ _); rotate_left; decide)
    | (with_reducible apply State.answerSpdm_touches; rotate_left; decide)
    | with_reducible apply Touches.ite
    | split
    | dsimp only

theorem execNegotiateAlgorithms_touches (m : SpdmCtx) (offered : Bool) (s : State) :
    OutTouches [.spdm, .loom, .out] s (execNegotiateAlgorithms m offered s) := by
  unfold execNegotiateAlgorithms
  repeat' first
    | with_reducible apply Touches.refl
    | with_reducible assumption
    | with_reducible intro _
    | with_reducible apply OutTouches.next
    | with_reducible apply OutTouches.nextIf
    | (with_reducible apply Touches.comp (respAlgorithms_touches _ _ _); rotate_left; decide)
    | (with_reducible apply Touches.comp (Touches.of_eq (by assumption) (respAlgorithms_touches _ _ _)); rotate_left; decide)
    | (with_reducible apply State.spdmRow_touches; decide)
    | with_reducible apply Touches.ite
    | with_reducible apply OutTouches.ite
    | split
    | dsimp only

theorem respDigests_touches (m : SpdmCtx) (s : State) :
    Touches [.spdm] s (respDigests m s).2 := by
  unfold respDigests
  repeat' first
    | with_reducible apply Touches.refl
    | with_reducible assumption
    | with_reducible intro _
    | (with_reducible apply State.answerSpdm_touches; rotate_left; decide)
    | with_reducible apply OptTouches.getD
    | with_reducible apply Touches.ite
    | split
    | dsimp only

theorem execGetDigests_touches (m : SpdmCtx) (s : State) :
    OutTouches [.spdm, .loom, .out] s (execGetDigests m s) := by
  unfold execGetDigests
  repeat' first
    | with_reducible apply Touches.refl
    | with_reducible assumption
    | with_reducible intro _
    | with_reducible apply OutTouches.next
    | with_reducible apply OutTouches.nextIf
    | (with_reducible apply Touches.comp (respDigests_touches _ _); rotate_left; decide)
    | (with_reducible apply Touches.comp (Touches.of_eq (by assumption) (respDigests_touches _ _)); rotate_left; decide)
    | (with_reducible apply State.spdmRow_touches; decide)
    | with_reducible apply OptTouches.getD
    | with_reducible apply Touches.ite
    | with_reducible apply OutTouches.ite
    | split
    | dsimp only

theorem respCertificate_touches (m : SpdmCtx) (slot : Nat) (offset : Nat) (len : Nat) (s : State) :
    Touches [.spdm] s (respCertificate m slot offset len s).2 := by
  unfold respCertificate
  repeat' first
    | with_reducible apply Touches.refl
    | with_reducible assumption
    | with_reducible intro _
    | (with_reducible apply State.answerSpdm_touches; rotate_left; decide)
    | with_reducible apply Touches.ite
    | split
    | dsimp only

theorem execGetCertificate_touches (m : SpdmCtx) (slot : Nat) (offset : Nat) (len : Nat) (s : State) :
    OutTouches [.spdm, .loom, .out] s (execGetCertificate m slot offset len s) := by
  unfold execGetCertificate
  repeat' first
    | with_reducible apply Touches.refl
    | with_reducible assumption
    | with_reducible intro _
    | with_reducible apply OutTouches.next
    | with_reducible apply OutTouches.nextIf
    | (with_reducible apply Touches.comp (respCertificate_touches _ _ _ _ _); rotate_left; decide)
    | (with_reducible apply Touches.comp (Touches.of_eq (by assumption) (respCertificate_touches _ _ _ _ _)); rotate_left; decide)
    | (with_reducible apply State.spdmRow_touches; decide)
    | with_reducible apply Touches.ite
    | with_reducible apply OutTouches.ite
    | split
    | dsimp only

theorem State.ecdsaSpdm_touches (s : State) (msg : Bytes) :
    Touches [.entropy] s (State.ecdsaSpdm s msg).2 := by
  unfold State.ecdsaSpdm
  repeat' first
    | with_reducible apply Touches.refl
    | with_reducible assumption
    | with_reducible exact Nat.le_refl _
    | with_reducible exact Nat.le_succ _
    | with_reducible intro _
    | (with_reducible apply Touches.comp (State.draw_touches _); rotate_left; decide)
    | (with_reducible apply Touches.comp (Touches.of_eq (by assumption) (State.draw_touches _)); rotate_left; decide)
    | with_reducible apply Touches.ite
    | split
    | dsimp only

theorem State.signSpdm_touches (s : State) (i : Instr) (c : Conn) (body : Bytes) :
    Touches [.entropy] s (State.signSpdm s i c body).2 := by
  unfold State.signSpdm
  repeat' first
    | with_reducible apply Touches.refl
    | with_reducible assumption
    | with_reducible exact Nat.le_refl _
    | with_reducible exact Nat.le_succ _
    | with_reducible intro _
    | (with_reducible apply Touches.comp (State.ecdsaSpdm_touches _ _); rotate_left; decide)
    | (with_reducible apply Touches.comp (Touches.of_eq (by assumption) (State.ecdsaSpdm_touches _ _)); rotate_left; decide)
    | with_reducible apply Touches.ite
    | split
    | dsimp only

theorem State.signedResp_touches (s : State) (i : Instr) (c : Conn) (code : Nat) (p1 : Nat) (p2 : Nat) (rest : Bytes) :
    Touches [.entropy] s (State.signedResp s i c code p1 p2 rest).2 := by
  unfold State.signedResp
  repeat' first
    | with_reducible apply Touches.refl
    | with_reducible assumption
    | with_reducible exact Nat.le_refl _
    | with_reducible exact Nat.le_succ _
    | with_reducible intro _
    | (with_reducible apply Touches.comp (State.signSpdm_touches _ _ _ _); rotate_left; decide)
    | (with_reducible apply Touches.comp (Touches.of_eq (by assumption) (State.signSpdm_touches _ _ _ _)); rotate_left; decide)
    | with_reducible apply Touches.ite
    | split
    | dsimp only

theorem respChallenge_touches (m : SpdmCtx) (slot : Nat) (nonce : BitVec 256) (s : State) :
    Touches [.entropy, .spdm] s (respChallenge m slot nonce s).2 := by
  unfold respChallenge
  repeat' first
    | with_reducible apply Touches.refl
    | with_reducible assumption
    | with_reducible exact Nat.le_refl _
    | with_reducible exact Nat.le_succ _
    | with_reducible intro _
    | (with_reducible apply Touches.comp (State.draw_touches _); rotate_left; decide)
    | (with_reducible apply Touches.comp (Touches.of_eq (by assumption) (State.draw_touches _)); rotate_left; decide)
    | (with_reducible apply State.answerSpdm_touches; rotate_left; decide)
    | (with_reducible apply Touches.comp (State.signedResp_touches _ _ _ _ _ _ _); rotate_left; decide)
    | (with_reducible apply Touches.comp (Touches.of_eq (by assumption) (State.signedResp_touches _ _ _ _ _ _ _)); rotate_left; decide)
    | with_reducible apply Touches.ite
    | split
    | dsimp only

theorem execChallenge_touches (m : SpdmCtx) (slot : Nat) (nonce : BitVec 256) (s : State) :
    OutTouches [.entropy, .spdm, .loom, .out] s (execChallenge m slot nonce s) := by
  unfold execChallenge
  repeat' first
    | with_reducible apply Touches.refl
    | with_reducible assumption
    | with_reducible exact Nat.le_refl _
    | with_reducible exact Nat.le_succ _
    | with_reducible intro _
    | with_reducible apply OutTouches.next
    | with_reducible apply OutTouches.nextIf
    | (with_reducible apply Touches.comp (respChallenge_touches _ _ _ _); rotate_left; decide)
    | (with_reducible apply Touches.comp (Touches.of_eq (by assumption) (respChallenge_touches _ _ _ _)); rotate_left; decide)
    | (with_reducible apply State.spdmRow_touches; decide)
    | with_reducible apply Touches.ite
    | with_reducible apply OutTouches.ite
    | split
    | dsimp only

theorem respMeasurements_touches (m : SpdmCtx) (slot : Nat) (index : Nat) (signed : Bool) (nonce : BitVec 256) (s : State) :
    Touches [.entropy, .spdm] s (respMeasurements m slot index signed nonce s).2 := by
  unfold respMeasurements
  repeat' first
    | with_reducible apply Touches.refl
    | with_reducible assumption
    | with_reducible exact Nat.le_refl _
    | with_reducible exact Nat.le_succ _
    | with_reducible intro _
    | (with_reducible apply Touches.comp (State.draw_touches _); rotate_left; decide)
    | (with_reducible apply Touches.comp (Touches.of_eq (by assumption) (State.draw_touches _)); rotate_left; decide)
    | (with_reducible apply State.answerSpdm_touches; rotate_left; decide)
    | (with_reducible apply Touches.comp (State.signedResp_touches _ _ _ _ _ _ _); rotate_left; decide)
    | (with_reducible apply Touches.comp (Touches.of_eq (by assumption) (State.signedResp_touches _ _ _ _ _ _ _)); rotate_left; decide)
    | with_reducible apply Touches.ite
    | split
    | dsimp only

theorem execGetMeasurements_touches (m : SpdmCtx) (slot : Nat) (index : Nat) (signed : Bool) (nonce : BitVec 256) (s : State) :
    OutTouches [.entropy, .spdm, .loom, .out] s (execGetMeasurements m slot index signed nonce s) := by
  unfold execGetMeasurements
  repeat' first
    | with_reducible apply Touches.refl
    | with_reducible assumption
    | with_reducible exact Nat.le_refl _
    | with_reducible exact Nat.le_succ _
    | with_reducible intro _
    | with_reducible apply OutTouches.next
    | with_reducible apply OutTouches.nextIf
    | (with_reducible apply Touches.comp (respMeasurements_touches _ _ _ _ _ _); rotate_left; decide)
    | (with_reducible apply Touches.comp (Touches.of_eq (by assumption) (respMeasurements_touches _ _ _ _ _ _)); rotate_left; decide)
    | (with_reducible apply State.spdmRow_touches; decide)
    | with_reducible apply Touches.ite
    | with_reducible apply OutTouches.ite
    | split
    | dsimp only

theorem State.openSession_touches (s : State) (i : Instr) (m : SpdmCtx) (k : KexReq) (g : Option Nat) :
    Touches [.entropy, .spdm] s (State.openSession s i m k g).2 := by
  unfold State.openSession
  repeat' first
    | with_reducible apply Touches.refl
    | with_reducible assumption
    | with_reducible exact Nat.le_refl _
    | with_reducible exact Nat.le_succ _
    | with_reducible intro _
    | (with_reducible apply Touches.comp (State.draw_touches _); rotate_left; decide)
    | (with_reducible apply Touches.comp (Touches.of_eq (by assumption) (State.draw_touches _)); rotate_left; decide)
    | (with_reducible apply Touches.comp (State.ecdsaSpdm_touches _ _); rotate_left; decide)
    | (with_reducible apply Touches.comp (Touches.of_eq (by assumption) (State.ecdsaSpdm_touches _ _)); rotate_left; decide)
    | with_reducible apply Touches.ite
    | split
    | ((with_reducible apply Touches.set_spdm); rotate_left; decide)
    | dsimp only

theorem State.noteSession_touches (s : State) (c : Conn) :
    Touches [.loom, .counters] s (State.noteSession s c) := by
  unfold State.noteSession
  repeat' first
    | with_reducible apply Touches.refl
    | with_reducible assumption
    | with_reducible intro _
    | (with_reducible apply Touches.comp (State.internalEntry_touches _); rotate_left; decide)
    | with_reducible apply Touches.ite
    | split
    | dsimp only

theorem respKeyExchange_touches (m : SpdmCtx) (k : KexReq) (s : State) :
    Touches [.entropy, .spdm, .loom, .counters] s (respKeyExchange m k s).2 := by
  unfold respKeyExchange
  repeat' first
    | with_reducible apply Touches.refl
    | with_reducible assumption
    | with_reducible exact Nat.le_refl _
    | with_reducible exact Nat.le_succ _
    | with_reducible intro _
    | (with_reducible apply Touches.comp (State.noteSession_touches _ _); rotate_left; decide)
    | (with_reducible apply Touches.comp (State.openSession_touches _ _ _ _ _); rotate_left; decide)
    | (with_reducible apply Touches.comp (Touches.of_eq (by assumption) (State.openSession_touches _ _ _ _ _)); rotate_left; decide)
    | (with_reducible apply State.answerSpdm_touches; rotate_left; decide)
    | with_reducible apply Touches.ite
    | split
    | dsimp only

theorem execKeyExchange_touches (m : SpdmCtx) (k : KexReq) (s : State) :
    OutTouches [.entropy, .spdm, .loom, .counters, .out] s (execKeyExchange m k s) := by
  unfold execKeyExchange
  repeat' first
    | with_reducible apply Touches.refl
    | with_reducible assumption
    | with_reducible exact Nat.le_refl _
    | with_reducible exact Nat.le_succ _
    | with_reducible intro _
    | with_reducible apply OutTouches.next
    | with_reducible apply OutTouches.nextIf
    | (with_reducible apply Touches.comp (respKeyExchange_touches _ _ _); rotate_left; decide)
    | (with_reducible apply Touches.comp (Touches.of_eq (by assumption) (respKeyExchange_touches _ _ _)); rotate_left; decide)
    | (with_reducible apply State.spdmRow_touches; decide)
    | with_reducible apply Touches.ite
    | with_reducible apply OutTouches.ite
    | split
    | dsimp only

theorem State.endAfter_touches (s : State) (sid : Nat) :
    Touches [.spdm] s (State.endAfter s sid) := by
  unfold State.endAfter
  repeat' first
    | with_reducible apply Touches.refl
    | with_reducible assumption
    | with_reducible intro _
    | (with_reducible apply Touches.comp (State.setSession_touches _ _ _); rotate_left; decide)
    | with_reducible apply Touches.ite
    | split
    | dsimp only

theorem respFinish_touches (m : SpdmCtx) (sid : Nat) (proof : Bytes) (s : State) :
    Touches [.spdm, .loom, .counters] s (respFinish m sid proof s).2 := by
  unfold respFinish
  repeat' first
    | with_reducible apply Touches.refl
    | with_reducible assumption
    | with_reducible intro _
    | (with_reducible apply Touches.comp (State.noteSession_touches _ _); rotate_left; decide)
    | (with_reducible apply Touches.comp (State.setSession_touches _ _ _); rotate_left; decide)
    | (with_reducible apply State.answerSpdm_touches; rotate_left; decide)
    | (with_reducible apply Touches.comp (State.endAfter_touches _ _); rotate_left; decide)
    | with_reducible apply Touches.ite
    | split
    | dsimp only

theorem execFinish_touches (m : SpdmCtx) (sid : Nat) (proof : Bytes) (s : State) :
    OutTouches [.spdm, .loom, .counters, .out] s (execFinish m sid proof s) := by
  unfold execFinish
  repeat' first
    | with_reducible apply Touches.refl
    | with_reducible assumption
    | with_reducible intro _
    | with_reducible apply OutTouches.next
    | with_reducible apply OutTouches.nextIf
    | (with_reducible apply Touches.comp (respFinish_touches _ _ _ _); rotate_left; decide)
    | (with_reducible apply Touches.comp (Touches.of_eq (by assumption) (respFinish_touches _ _ _ _)); rotate_left; decide)
    | (with_reducible apply State.spdmRow_touches; decide)
    | with_reducible apply Touches.ite
    | with_reducible apply OutTouches.ite
    | split
    | dsimp only

theorem respEncapRequest_touches (m : SpdmCtx) (sid : Nat) (s : State) :
    Touches [.spdm] s (respEncapRequest m sid s).2 := by
  unfold respEncapRequest
  repeat' first
    | with_reducible apply Touches.refl
    | with_reducible assumption
    | with_reducible intro _
    | (with_reducible apply State.answerSpdm_touches; rotate_left; decide)
    | with_reducible apply Touches.ite
    | split
    | dsimp only

theorem execGetEncapsulatedRequest_touches (m : SpdmCtx) (sid : Nat) (s : State) :
    OutTouches [.spdm, .loom, .out] s (execGetEncapsulatedRequest m sid s) := by
  unfold execGetEncapsulatedRequest
  repeat' first
    | with_reducible apply Touches.refl
    | with_reducible assumption
    | with_reducible intro _
    | with_reducible apply OutTouches.next
    | with_reducible apply OutTouches.nextIf
    | (with_reducible apply Touches.comp (respEncapRequest_touches _ _ _); rotate_left; decide)
    | (with_reducible apply Touches.comp (Touches.of_eq (by assumption) (respEncapRequest_touches _ _ _)); rotate_left; decide)
    | (with_reducible apply State.spdmRow_touches; decide)
    | with_reducible apply Touches.ite
    | with_reducible apply OutTouches.ite
    | split
    | dsimp only

theorem respDeliver_touches (m : SpdmCtx) (sid : Nat) (chain : Bytes) (s : State) :
    Touches [.spdm, .loom, .counters] s (respDeliver m sid chain s).2 := by
  unfold respDeliver
  repeat' first
    | with_reducible apply Touches.refl
    | with_reducible assumption
    | with_reducible intro _
    | (with_reducible apply Touches.comp (State.noteSession_touches _ _); rotate_left; decide)
    | (with_reducible apply Touches.comp (State.setSession_touches _ _ _); rotate_left; decide)
    | (with_reducible apply State.answerSpdm_touches; rotate_left; decide)
    | (with_reducible apply Touches.comp (State.endAfter_touches _ _); rotate_left; decide)
    | with_reducible apply Touches.ite
    | split
    | dsimp only

theorem execDeliverEncapsulatedResponse_touches (m : SpdmCtx) (sid : Nat) (chain : Bytes) (s : State) :
    OutTouches [.spdm, .loom, .counters, .out] s (execDeliverEncapsulatedResponse m sid chain s) := by
  unfold execDeliverEncapsulatedResponse
  repeat' first
    | with_reducible apply Touches.refl
    | with_reducible assumption
    | with_reducible intro _
    | with_reducible apply OutTouches.next
    | with_reducible apply OutTouches.nextIf
    | (with_reducible apply Touches.comp (respDeliver_touches _ _ _ _); rotate_left; decide)
    | (with_reducible apply Touches.comp (Touches.of_eq (by assumption) (respDeliver_touches _ _ _ _)); rotate_left; decide)
    | (with_reducible apply State.spdmRow_touches; decide)
    | with_reducible apply Touches.ite
    | with_reducible apply OutTouches.ite
    | split
    | dsimp only

theorem respHeartbeat_touches (m : SpdmCtx) (s : State) :
    Touches [.spdm] s (respHeartbeat m s).2 := by
  unfold respHeartbeat
  repeat' first
    | with_reducible apply Touches.refl
    | with_reducible assumption
    | with_reducible intro _
    | (with_reducible apply State.answerSpdm_touches; rotate_left; decide)
    | with_reducible apply Touches.ite
    | split
    | dsimp only

theorem execHeartbeat_touches (m : SpdmCtx) (s : State) :
    OutTouches [.spdm, .loom, .out] s (execHeartbeat m s) := by
  unfold execHeartbeat
  repeat' first
    | with_reducible apply Touches.refl
    | with_reducible assumption
    | with_reducible intro _
    | with_reducible apply OutTouches.next
    | with_reducible apply OutTouches.nextIf
    | (with_reducible apply Touches.comp (respHeartbeat_touches _ _); rotate_left; decide)
    | (with_reducible apply Touches.comp (Touches.of_eq (by assumption) (respHeartbeat_touches _ _)); rotate_left; decide)
    | (with_reducible apply State.spdmRow_touches; decide)
    | with_reducible apply Touches.ite
    | with_reducible apply OutTouches.ite
    | split
    | dsimp only

theorem respKeyUpdate_touches (m : SpdmCtx) (op : Nat) (s : State) :
    Touches [.spdm] s (respKeyUpdate m op s).2 := by
  unfold respKeyUpdate
  repeat' first
    | with_reducible apply Touches.refl
    | with_reducible assumption
    | with_reducible intro _
    | (with_reducible apply Touches.comp (State.setSession_touches _ _ _); rotate_left; decide)
    | (with_reducible apply State.answerSpdm_touches; rotate_left; decide)
    | with_reducible apply OptTouches.getD
    | with_reducible apply Touches.ite
    | split
    | dsimp only

theorem execKeyUpdate_touches (m : SpdmCtx) (op : Nat) (s : State) :
    OutTouches [.spdm, .loom, .out] s (execKeyUpdate m op s) := by
  unfold execKeyUpdate
  repeat' first
    | with_reducible apply Touches.refl
    | with_reducible assumption
    | with_reducible intro _
    | with_reducible apply OutTouches.next
    | with_reducible apply OutTouches.nextIf
    | (with_reducible apply Touches.comp (respKeyUpdate_touches _ _ _); rotate_left; decide)
    | (with_reducible apply Touches.comp (Touches.of_eq (by assumption) (respKeyUpdate_touches _ _ _)); rotate_left; decide)
    | (with_reducible apply State.spdmRow_touches; decide)
    | with_reducible apply Touches.ite
    | with_reducible apply OutTouches.ite
    | split
    | dsimp only

theorem respEndSession_touches (m : SpdmCtx) (s : State) :
    Touches [.spdm, .loom, .counters] s (respEndSession m s).2 := by
  unfold respEndSession
  repeat' first
    | with_reducible apply Touches.refl
    | with_reducible assumption
    | with_reducible intro _
    | (with_reducible apply Touches.comp (State.noteSession_touches _ _); rotate_left; decide)
    | (with_reducible apply State.answerSpdm_touches; rotate_left; decide)
    | (with_reducible apply Touches.comp (State.endAfter_touches _ _); rotate_left; decide)
    | with_reducible apply OptTouches.getD
    | with_reducible apply Touches.ite
    | split
    | dsimp only

theorem execEndSession_touches (m : SpdmCtx) (s : State) :
    OutTouches [.spdm, .loom, .counters, .out] s (execEndSession m s) := by
  unfold execEndSession
  repeat' first
    | with_reducible apply Touches.refl
    | with_reducible assumption
    | with_reducible intro _
    | with_reducible apply OutTouches.next
    | with_reducible apply OutTouches.nextIf
    | (with_reducible apply Touches.comp (respEndSession_touches _ _); rotate_left; decide)
    | (with_reducible apply Touches.comp (Touches.of_eq (by assumption) (respEndSession_touches _ _)); rotate_left; decide)
    | (with_reducible apply State.spdmRow_touches; decide)
    | with_reducible apply Touches.ite
    | with_reducible apply OutTouches.ite
    | split
    | dsimp only

theorem execSessionHeartbeatTimeout_touches (sid : Nat) (s : State) :
    OutTouches [.spdm, .time, .loom, .counters, .out] s (execSessionHeartbeatTimeout sid s) := by
  unfold execSessionHeartbeatTimeout
  repeat' first
    | with_reducible apply Touches.refl
    | with_reducible assumption
    | with_reducible intro _
    | with_reducible apply OutTouches.next
    | with_reducible apply OutTouches.nextIf
    | (with_reducible apply Touches.comp (State.advanceTo_touches _ _); rotate_left; decide)
    | (with_reducible apply Touches.comp (State.internalEntry_touches _); rotate_left; decide)
    | (with_reducible apply Touches.comp (State.endSession_touches _ _); rotate_left; decide)
    | with_reducible apply Touches.ite
    | with_reducible apply OutTouches.ite
    | split
    | dsimp only

theorem respVendor_touches (m : SpdmCtx) (std : Nat) (vendor : Nat) (body : Bytes) (s : State) :
    Touches [.spdm] s (respVendor m std vendor body s).2 := by
  unfold respVendor
  repeat' first
    | with_reducible apply Touches.refl
    | with_reducible assumption
    | with_reducible intro _
    | (with_reducible apply Touches.comp (State.setSession_touches _ _ _); rotate_left; decide)
    | (with_reducible apply State.answerSpdm_touches; rotate_left; decide)
    | with_reducible apply OptTouches.getD
    | with_reducible apply Touches.ite
    | split
    | dsimp only

theorem execVendorDefinedRequest_touches (m : SpdmCtx) (std : Nat) (vendor : Nat) (body : Bytes) (s : State) :
    OutTouches [.tallies, .fences, .shuttle, .spdm, .loom, .log, .counters, .trace, .mailbox, .out] s (execVendorDefinedRequest m std vendor body s) := by
  unfold execVendorDefinedRequest
  repeat' first
    | with_reducible apply Touches.refl
    | with_reducible assumption
    | with_reducible intro _
    | with_reducible apply OutTouches.next
    | with_reducible apply OutTouches.nextIf
    | (with_reducible apply Touches.comp (respVendor_touches _ _ _ _ _); rotate_left; decide)
    | (with_reducible apply Touches.comp (Touches.of_eq (by assumption) (respVendor_touches _ _ _ _ _)); rotate_left; decide)
    | (with_reducible apply Touches.comp (OptTouches.get (State.takeSpdm_touches _ _ _) (by assumption)); rotate_left; decide)
    | (with_reducible apply OptTouches.comp (State.takeSpdm_touches _ _ _); rotate_left; decide)
    | (with_reducible apply Touches.comp (State.giveAnswer_touches _ _ _); rotate_left; decide)
    | (with_reducible apply Touches.comp (State.drainTurns_touches _); rotate_left; decide)
    | with_reducible apply Touches.ite
    | with_reducible apply OutTouches.ite
    | split
    | dsimp only

theorem respUnsupported_touches (m : SpdmCtx) (code : Nat) (s : State) :
    Touches [.spdm] s (respUnsupported m code s).2 := by
  unfold respUnsupported
  repeat' first
    | with_reducible apply Touches.refl
    | with_reducible assumption
    | with_reducible intro _
    | (with_reducible apply State.answerSpdm_touches; rotate_left; decide)
    | with_reducible apply Touches.ite
    | split
    | dsimp only

theorem execSpdmUnsupportedRequest_touches (m : SpdmCtx) (code : Nat) (s : State) :
    OutTouches [.spdm, .loom, .out] s (execSpdmUnsupportedRequest m code s) := by
  unfold execSpdmUnsupportedRequest
  repeat' first
    | with_reducible apply Touches.refl
    | with_reducible assumption
    | with_reducible intro _
    | with_reducible apply OutTouches.next
    | with_reducible apply OutTouches.nextIf
    | (with_reducible apply Touches.comp (respUnsupported_touches _ _ _); rotate_left; decide)
    | (with_reducible apply Touches.comp (Touches.of_eq (by assumption) (respUnsupported_touches _ _ _)); rotate_left; decide)
    | (with_reducible apply State.spdmRow_touches; decide)
    | with_reducible apply Touches.ite
    | with_reducible apply OutTouches.ite
    | split
    | dsimp only

end Sys2Proof.Machine
end

