-- ==== Sys2Proof/Laws/Touches/Tdisp.lean ====
section
/-!
SUPPORT. What the operations of Machine/Tdisp.lean touch, one law for each.
-/
namespace Sys2Proof.Machine

set_option linter.unusedTactic false
set_option linter.unreachableTactic false

theorem State.pciAnswer_touches {F : List Part} {s0 s : State} {i : Instr} {m : SpdmCtx}
    {f : State → Resp × State} (h : Touches F s0 s) (sub : ∀ p ∈ ([.spdm] : List Part), p ∈ F)
    (hf : ∀ t, Touches F s0 t → Touches F s0 (f t).2) : Touches F s0 (State.pciAnswer s i m f).2 := by
  unfold State.pciAnswer
  split
  · exact State.answerSpdm_touches h (fun p q => sub p (by revert q; revert p; decide)) hf
  · exact State.answerSpdm_touches h (fun p q => sub p (by revert q; revert p; decide)) (fun t ht => ht)

theorem State.tdispAnswer_touches {F : List Part} {s0 s : State} {i : Instr} {m : SpdmCtx} {func : Nat}
    {f : State → Resp × State} (h : Touches F s0 s) (sub : ∀ p ∈ ([.spdm] : List Part), p ∈ F)
    (hf : ∀ t, Touches F s0 t → Touches F s0 (f t).2) : Touches F s0 (State.tdispAnswer s i m func f).2 := by
  unfold State.tdispAnswer
  refine State.pciAnswer_touches h (fun p q => sub p (by revert q; revert p; decide)) (fun t ht => ?_)
  split
  · exact ht
  · exact hf _ ht

theorem respTdispVersion_touches (m : SpdmCtx) (func : Nat) (s : State) :
    Touches [.spdm] s (respTdispVersion m func s).2 := by
  unfold respTdispVersion
  repeat' first
    | with_reducible apply Touches.refl
    | with_reducible assumption
    | with_reducible intro _
    | (with_reducible apply State.tdispAnswer_touches; rotate_left; decide)
    | with_reducible apply Touches.ite
    | split
    | dsimp only

theorem execGetTdispVersion_touches (m : SpdmCtx) (func : Nat) (s : State) :
    OutTouches [.spdm, .loom, .out] s (execGetTdispVersion m func s) := by
  unfold execGetTdispVersion
  repeat' first
    | with_reducible apply Touches.refl
    | with_reducible assumption
    | with_reducible intro _
    | with_reducible apply OutTouches.next
    | with_reducible apply OutTouches.nextIf
    | (with_reducible apply Touches.comp (respTdispVersion_touches _ _ _); rotate_left; decide)
    | (with_reducible apply Touches.comp (Touches.of_eq (by assumption) (respTdispVersion_touches _ _ _)); rotate_left; decide)
    | (with_reducible apply State.spdmRow_touches; decide)
    | with_reducible apply Touches.ite
    | with_reducible apply OutTouches.ite
    | split
    | dsimp only

theorem respTdispCapabilities_touches (m : SpdmCtx) (func : Nat) (s : State) :
    Touches [.spdm] s (respTdispCapabilities m func s).2 := by
  unfold respTdispCapabilities
  repeat' first
    | with_reducible apply Touches.refl
    | with_reducible assumption
    | with_reducible intro _
    | (with_reducible apply State.tdispAnswer_touches; rotate_left; decide)
    | with_reducible apply Touches.ite
    | split
    | dsimp only

theorem execGetTdispCapabilities_touches (m : SpdmCtx) (func : Nat) (s : State) :
    OutTouches [.spdm, .loom, .out] s (execGetTdispCapabilities m func s) := by
  unfold execGetTdispCapabilities
  repeat' first
    | with_reducible apply Touches.refl
    | with_reducible assumption
    | with_reducible intro _
    | with_reducible apply OutTouches.next
    | with_reducible apply OutTouches.nextIf
    | (with_reducible apply Touches.comp (respTdispCapabilities_touches _ _ _); rotate_left; decide)
    | (with_reducible apply Touches.comp (Touches.of_eq (by assumption) (respTdispCapabilities_touches _ _ _)); rotate_left; decide)
    | (with_reducible apply State.spdmRow_touches; decide)
    | with_reducible apply Touches.ite
    | with_reducible apply OutTouches.ite
    | split
    | dsimp only

theorem respLock_touches (m : SpdmCtx) (func : Nat) (s : State) :
    Touches [.entropy, .spdm, .link] s (respLock m func s).2 := by
  unfold respLock
  repeat' first
    | with_reducible apply Touches.refl
    | with_reducible assumption
    | with_reducible exact Nat.le_refl _
    | with_reducible exact Nat.le_succ _
    | with_reducible intro _
    | (with_reducible apply Touches.comp (State.draw_touches _); rotate_left; decide)
    | (with_reducible apply Touches.comp (Touches.of_eq (by assumption) (State.draw_touches _)); rotate_left; decide)
    | (with_reducible apply Touches.comp (State.setTdi_touches _ _ _); rotate_left; decide)
    | (with_reducible apply State.tdispAnswer_touches; rotate_left; decide)
    | with_reducible apply Touches.ite
    | split
    | dsimp only

theorem execLockInterfaceRequest_touches (m : SpdmCtx) (func : Nat) (s : State) :
    OutTouches [.entropy, .spdm, .loom, .link, .out] s (execLockInterfaceRequest m func s) := by
  unfold execLockInterfaceRequest
  repeat' first
    | with_reducible apply Touches.refl
    | with_reducible assumption
    | with_reducible exact Nat.le_refl _
    | with_reducible exact Nat.le_succ _
    | with_reducible intro _
    | with_reducible apply OutTouches.next
    | with_reducible apply OutTouches.nextIf
    | (with_reducible apply Touches.comp (respLock_touches _ _ _); rotate_left; decide)
    | (with_reducible apply Touches.comp (Touches.of_eq (by assumption) (respLock_touches _ _ _)); rotate_left; decide)
    | (with_reducible apply State.spdmRow_touches; decide)
    | with_reducible apply Touches.ite
    | with_reducible apply OutTouches.ite
    | split
    | dsimp only

theorem respReport_touches (m : SpdmCtx) (func : Nat) (s : State) :
    Touches [.spdm] s (respReport m func s).2 := by
  unfold respReport
  repeat' first
    | with_reducible apply Touches.refl
    | with_reducible assumption
    | with_reducible intro _
    | (with_reducible apply State.tdispAnswer_touches; rotate_left; decide)
    | with_reducible apply OptTouches.getD
    | with_reducible apply Touches.ite
    | split
    | dsimp only

theorem execGetDeviceInterfaceReport_touches (m : SpdmCtx) (func : Nat) (s : State) :
    OutTouches [.spdm, .loom, .out] s (execGetDeviceInterfaceReport m func s) := by
  unfold execGetDeviceInterfaceReport
  repeat' first
    | with_reducible apply Touches.refl
    | with_reducible assumption
    | with_reducible intro _
    | with_reducible apply OutTouches.next
    | with_reducible apply OutTouches.nextIf
    | (with_reducible apply Touches.comp (respReport_touches _ _ _); rotate_left; decide)
    | (with_reducible apply Touches.comp (Touches.of_eq (by assumption) (respReport_touches _ _ _)); rotate_left; decide)
    | (with_reducible apply State.spdmRow_touches; decide)
    | with_reducible apply OptTouches.getD
    | with_reducible apply Touches.ite
    | with_reducible apply OutTouches.ite
    | split
    | dsimp only

theorem respState_touches (m : SpdmCtx) (func : Nat) (s : State) :
    Touches [.spdm] s (respState m func s).2 := by
  unfold respState
  repeat' first
    | with_reducible apply Touches.refl
    | with_reducible assumption
    | with_reducible intro _
    | (with_reducible apply State.tdispAnswer_touches; rotate_left; decide)
    | with_reducible apply OptTouches.getD
    | with_reducible apply Touches.ite
    | split
    | dsimp only

theorem execGetDeviceInterfaceState_touches (m : SpdmCtx) (func : Nat) (s : State) :
    OutTouches [.spdm, .loom, .out] s (execGetDeviceInterfaceState m func s) := by
  unfold execGetDeviceInterfaceState
  repeat' first
    | with_reducible apply Touches.refl
    | with_reducible assumption
    | with_reducible intro _
    | with_reducible apply OutTouches.next
    | with_reducible apply OutTouches.nextIf
    | (with_reducible apply State.spdmRow_touches; decide)
    | (with_reducible apply Touches.comp (respState_touches _ _ _); rotate_left; decide)
    | (with_reducible apply Touches.comp (Touches.of_eq (by assumption) (respState_touches _ _ _)); rotate_left; decide)
    | with_reducible apply OptTouches.getD
    | with_reducible apply Touches.ite
    | with_reducible apply OutTouches.ite
    | split
    | dsimp only

theorem respStart_touches (m : SpdmCtx) (func : Nat) (nonce : BitVec 256) (s : State) :
    Touches [.spdm, .link] s (respStart m func nonce s).2 := by
  unfold respStart
  repeat' first
    | with_reducible apply Touches.refl
    | with_reducible assumption
    | with_reducible intro _
    | (with_reducible apply Touches.comp (State.setTdi_touches _ _ _); rotate_left; decide)
    | (with_reducible apply State.tdispAnswer_touches; rotate_left; decide)
    | with_reducible apply Touches.ite
    | split
    | dsimp only

theorem execStartInterfaceRequest_touches (m : SpdmCtx) (func : Nat) (nonce : BitVec 256) (s : State) :
    OutTouches [.spdm, .loom, .link, .out] s (execStartInterfaceRequest m func nonce s) := by
  unfold execStartInterfaceRequest
  repeat' first
    | with_reducible apply Touches.refl
    | with_reducible assumption
    | with_reducible intro _
    | with_reducible apply OutTouches.next
    | with_reducible apply OutTouches.nextIf
    | (with_reducible apply Touches.comp (respStart_touches _ _ _ _); rotate_left; decide)
    | (with_reducible apply Touches.comp (Touches.of_eq (by assumption) (respStart_touches _ _ _ _)); rotate_left; decide)
    | (with_reducible apply State.spdmRow_touches; decide)
    | with_reducible apply Touches.ite
    | with_reducible apply OutTouches.ite
    | split
    | dsimp only

theorem respStop_touches (m : SpdmCtx) (func : Nat) (s : State) :
    Touches [.doms, .tallies, .fences, .quarantine, .weft, .shuttle, .batten, .spindle, .keys, .spdm, .loom, .log, .counters, .trace, .events, .bp, .link, .out] s (respStop m func s).2 := by
  unfold respStop
  repeat' first
    | with_reducible apply Touches.refl
    | with_reducible assumption
    | with_reducible intro _
    | (with_reducible apply State.tdispAnswer_touches; rotate_left; decide)
    | (with_reducible apply Touches.comp (State.tdiStop_touches _ _); rotate_left; decide)
    | with_reducible apply Touches.ite
    | split
    | dsimp only

theorem execStopInterfaceRequest_touches (m : SpdmCtx) (func : Nat) (s : State) :
    OutTouches [.doms, .tallies, .fences, .quarantine, .weft, .shuttle, .batten, .spindle, .keys, .spdm, .loom, .log, .counters, .trace, .events, .bp, .link, .out] s (execStopInterfaceRequest m func s) := by
  unfold execStopInterfaceRequest
  repeat' first
    | with_reducible apply Touches.refl
    | with_reducible assumption
    | with_reducible intro _
    | with_reducible apply OutTouches.next
    | with_reducible apply OutTouches.nextIf
    | (with_reducible apply Touches.comp (respStop_touches _ _ _); rotate_left; decide)
    | (with_reducible apply Touches.comp (Touches.of_eq (by assumption) (respStop_touches _ _ _)); rotate_left; decide)
    | (with_reducible apply State.spdmRow_touches; decide)
    | with_reducible apply Touches.ite
    | with_reducible apply OutTouches.ite
    | split
    | dsimp only

theorem respTdispUnsupported_touches (m : SpdmCtx) (func : Nat) (code : Nat) (s : State) :
    Touches [.spdm] s (respTdispUnsupported m func code s).2 := by
  unfold respTdispUnsupported
  repeat' first
    | with_reducible apply Touches.refl
    | with_reducible assumption
    | with_reducible intro _
    | (with_reducible apply State.pciAnswer_touches; rotate_left; decide)
    | with_reducible apply Touches.ite
    | split
    | dsimp only

theorem execTdispUnsupportedRequest_touches (m : SpdmCtx) (func : Nat) (code : Nat) (s : State) :
    OutTouches [.spdm, .loom, .out] s (execTdispUnsupportedRequest m func code s) := by
  unfold execTdispUnsupportedRequest
  repeat' first
    | with_reducible apply Touches.refl
    | with_reducible assumption
    | with_reducible intro _
    | with_reducible apply OutTouches.next
    | with_reducible apply OutTouches.nextIf
    | (with_reducible apply Touches.comp (respTdispUnsupported_touches _ _ _ _); rotate_left; decide)
    | (with_reducible apply Touches.comp (Touches.of_eq (by assumption) (respTdispUnsupported_touches _ _ _ _)); rotate_left; decide)
    | (with_reducible apply State.spdmRow_touches; decide)
    | with_reducible apply Touches.ite
    | with_reducible apply OutTouches.ite
    | split
    | dsimp only

theorem State.ideKeys_touches (s : State) (ldi : Nat) (a2 : Nat) :
    Touches [.keys, .entropy] s (State.ideKeys s ldi a2).2 := by
  induction a2 generalizing s ldi with
  | zero =>
    unfold State.ideKeys
    repeat' first
      | with_reducible apply Touches.refl
      | with_reducible assumption
      | with_reducible exact Nat.le_refl _
      | with_reducible exact Nat.le_succ _
      | with_reducible intro _
      | (with_reducible apply Touches.comp (State.draw_touches _); rotate_left; decide)
      | (with_reducible apply Touches.comp (Touches.of_eq (by assumption) (State.draw_touches _)); rotate_left; decide)
      | (with_reducible apply Touches.comp (State.setSlot_touches _ _ _); rotate_left; decide)
      | with_reducible apply Touches.ite
      | split
      | dsimp only
  | succ n ih =>
    unfold State.ideKeys
    repeat' first
      | with_reducible apply Touches.refl
      | with_reducible assumption
      | with_reducible exact Nat.le_refl _
      | (with_reducible apply Touches.comp (ih _ _); rotate_left; decide)
      | (with_reducible apply Touches.comp (Touches.of_eq (by assumption) (ih _ _)); rotate_left; decide)
      | with_reducible exact Nat.le_succ _
      | with_reducible intro _
      | (with_reducible apply Touches.comp (State.draw_touches _); rotate_left; decide)
      | (with_reducible apply Touches.comp (Touches.of_eq (by assumption) (State.draw_touches _)); rotate_left; decide)
      | (with_reducible apply Touches.comp (State.setSlot_touches _ _ _); rotate_left; decide)
      | with_reducible apply Touches.ite
      | split
      | dsimp only

theorem State.sendInstalls_touches (s : State) (func : Nat) (stream : Nat) (keySet : Nat) (answer : Conn × Option Nat × Bytes) (ks : List (Nat × Key)) :
    Touches [.link, .out] s (State.sendInstalls s func stream keySet answer ks) := by
  unfold State.sendInstalls
  repeat' first
    | with_reducible apply Touches.refl
    | with_reducible assumption
    | with_reducible intro _
    | (with_reducible apply Touches.comp (State.kpSend_touches _ _); rotate_left; decide)
    | with_reducible apply Touches.foldl
    | with_reducible apply Touches.ite
    | split
    | dsimp only

theorem respIdeKeys_touches (m : SpdmCtx) (vendor : Nat) (func : Nat) (stream : Nat) (keySet : Nat) (s : State) :
    Touches [.keys, .entropy, .spdm, .link, .out] s (respIdeKeys m vendor func stream keySet s).2 := by
  unfold respIdeKeys
  repeat' first
    | with_reducible apply Touches.refl
    | with_reducible assumption
    | with_reducible exact Nat.le_refl _
    | with_reducible exact Nat.le_succ _
    | with_reducible intro _
    | (with_reducible apply Touches.comp (State.setTdi_touches _ _ _); rotate_left; decide)
    | (with_reducible apply State.tdispAnswer_touches; rotate_left; decide)
    | (with_reducible apply Touches.comp (State.sendInstalls_touches _ _ _ _ _ _); rotate_left; decide)
    | (with_reducible apply Touches.comp (State.ideKeys_touches _ _ _); rotate_left; decide)
    | (with_reducible apply Touches.comp (Touches.of_eq (by assumption) (State.ideKeys_touches _ _ _)); rotate_left; decide)
    | with_reducible apply Touches.ite
    | split
    | dsimp only

theorem execIdeKeyDeliveryVdm_touches (m : SpdmCtx) (vendor : Nat) (func : Nat) (stream : Nat) (keySet : Nat) (s : State) :
    OutTouches [.keys, .entropy, .spdm, .loom, .link, .out] s (execIdeKeyDeliveryVdm m vendor func stream keySet s) := by
  unfold execIdeKeyDeliveryVdm
  repeat' first
    | with_reducible apply Touches.refl
    | with_reducible assumption
    | with_reducible exact Nat.le_refl _
    | with_reducible exact Nat.le_succ _
    | with_reducible intro _
    | with_reducible apply OutTouches.next
    | with_reducible apply OutTouches.nextIf
    | (with_reducible apply Touches.comp (respIdeKeys_touches _ _ _ _ _ _); rotate_left; decide)
    | (with_reducible apply Touches.comp (Touches.of_eq (by assumption) (respIdeKeys_touches _ _ _ _ _ _)); rotate_left; decide)
    | (with_reducible apply State.spdmRow_touches; decide)
    | with_reducible apply Touches.ite
    | with_reducible apply OutTouches.ite
    | split
    | dsimp only

theorem respIdeQuery_touches (m : SpdmCtx) (func : Nat) (s : State) :
    Touches [.spdm] s (respIdeQuery m func s).2 := by
  unfold respIdeQuery
  repeat' first
    | with_reducible apply Touches.refl
    | with_reducible assumption
    | with_reducible intro _
    | (with_reducible apply State.pciAnswer_touches; rotate_left; decide)
    | with_reducible apply Touches.ite
    | split
    | dsimp only

theorem execIdeKmQuery_touches (m : SpdmCtx) (func : Nat) (s : State) :
    OutTouches [.spdm, .loom, .out] s (execIdeKmQuery m func s) := by
  unfold execIdeKmQuery
  repeat' first
    | with_reducible apply Touches.refl
    | with_reducible assumption
    | with_reducible intro _
    | with_reducible apply OutTouches.next
    | with_reducible apply OutTouches.nextIf
    | (with_reducible apply Touches.comp (respIdeQuery_touches _ _ _); rotate_left; decide)
    | (with_reducible apply Touches.comp (Touches.of_eq (by assumption) (respIdeQuery_touches _ _ _)); rotate_left; decide)
    | (with_reducible apply State.spdmRow_touches; decide)
    | with_reducible apply Touches.ite
    | with_reducible apply OutTouches.ite
    | split
    | dsimp only

theorem respKeyProg_touches (m : SpdmCtx) (func : Nat) (stream : Nat) (keySet : Nat) (s : State) :
    Touches [.spdm] s (respKeyProg m func stream keySet s).2 := by
  unfold respKeyProg
  repeat' first
    | with_reducible apply Touches.refl
    | with_reducible assumption
    | with_reducible intro _
    | (with_reducible apply State.pciAnswer_touches; rotate_left; decide)
    | with_reducible apply Touches.ite
    | split
    | dsimp only

theorem execKeyProg_touches (m : SpdmCtx) (func : Nat) (stream : Nat) (keySet : Nat) (s : State) :
    OutTouches [.spdm, .loom, .out] s (execKeyProg m func stream keySet s) := by
  unfold execKeyProg
  repeat' first
    | with_reducible apply Touches.refl
    | with_reducible assumption
    | with_reducible intro _
    | with_reducible apply OutTouches.next
    | with_reducible apply OutTouches.nextIf
    | (with_reducible apply Touches.comp (respKeyProg_touches _ _ _ _ _); rotate_left; decide)
    | (with_reducible apply Touches.comp (Touches.of_eq (by assumption) (respKeyProg_touches _ _ _ _ _)); rotate_left; decide)
    | (with_reducible apply State.spdmRow_touches; decide)
    | with_reducible apply Touches.ite
    | with_reducible apply OutTouches.ite
    | split
    | dsimp only

theorem State.sendGoStop_touches (s : State) (m : SpdmCtx) (func : Nat) (stream : Nat) (keySet : Nat) (go : Bool) :
    Touches [.link, .out] s (State.sendGoStop s m func stream keySet go) := by
  unfold State.sendGoStop
  repeat' first
    | with_reducible apply Touches.refl
    | with_reducible assumption
    | with_reducible intro _
    | (with_reducible apply Touches.comp (State.kpSend_touches _ _); rotate_left; decide)
    | with_reducible apply Touches.foldl
    | with_reducible apply Touches.ite
    | split
    | dsimp only

theorem State.endGo_touches (s : State) (func : Nat) (keySet : Nat) :
    Touches [.link] s (State.endGo s func keySet) := by
  unfold State.endGo
  repeat' first
    | with_reducible apply Touches.refl
    | with_reducible assumption
    | with_reducible intro _
    | with_reducible apply Touches.ite
    | split
    | ((with_reducible apply Touches.set_link); rotate_left; decide)
    | dsimp only

theorem State.goStop_touches (s : State) (m : SpdmCtx) (func : Nat) (stream : Nat) (keySet : Nat) (go : Bool) :
    Touches [.link, .out] s (State.goStop s m func stream keySet go).2 := by
  unfold State.goStop
  repeat' first
    | with_reducible apply Touches.refl
    | with_reducible assumption
    | with_reducible intro _
    | (with_reducible apply Touches.comp (State.setTdi_touches _ _ _); rotate_left; decide)
    | (with_reducible apply Touches.comp (State.sendGoStop_touches _ _ _ _ _ _); rotate_left; decide)
    | (with_reducible apply Touches.comp (State.endGo_touches _ _ _); rotate_left; decide)
    | with_reducible apply Touches.ite
    | split
    | dsimp only

theorem respGo_touches (m : SpdmCtx) (func : Nat) (stream : Nat) (keySet : Nat) (s : State) :
    Touches [.spdm, .link, .out] s (respGo m func stream keySet s).2 := by
  unfold respGo
  repeat' first
    | with_reducible apply Touches.refl
    | with_reducible assumption
    | with_reducible intro _
    | (with_reducible apply State.pciAnswer_touches; rotate_left; decide)
    | (with_reducible apply Touches.comp (State.goStop_touches _ _ _ _ _ _); rotate_left; decide)
    | (with_reducible apply Touches.comp (Touches.of_eq (by assumption) (State.goStop_touches _ _ _ _ _ _)); rotate_left; decide)
    | with_reducible apply Touches.ite
    | split
    | dsimp only

theorem execKSetGo_touches (m : SpdmCtx) (func : Nat) (stream : Nat) (keySet : Nat) (s : State) :
    OutTouches [.spdm, .loom, .link, .out] s (execKSetGo m func stream keySet s) := by
  unfold execKSetGo
  repeat' first
    | with_reducible apply Touches.refl
    | with_reducible assumption
    | with_reducible intro _
    | with_reducible apply OutTouches.next
    | with_reducible apply OutTouches.nextIf
    | (with_reducible apply Touches.comp (respGo_touches _ _ _ _ _); rotate_left; decide)
    | (with_reducible apply Touches.comp (Touches.of_eq (by assumption) (respGo_touches _ _ _ _ _)); rotate_left; decide)
    | (with_reducible apply State.spdmRow_touches; decide)
    | with_reducible apply Touches.ite
    | with_reducible apply OutTouches.ite
    | split
    | dsimp only

theorem respKStop_touches (m : SpdmCtx) (func : Nat) (stream : Nat) (keySet : Nat) (s : State) :
    Touches [.spdm, .link, .out] s (respKStop m func stream keySet s).2 := by
  unfold respKStop
  repeat' first
    | with_reducible apply Touches.refl
    | with_reducible assumption
    | with_reducible intro _
    | (with_reducible apply State.pciAnswer_touches; rotate_left; decide)
    | (with_reducible apply Touches.comp (State.goStop_touches _ _ _ _ _ _); rotate_left; decide)
    | (with_reducible apply Touches.comp (Touches.of_eq (by assumption) (State.goStop_touches _ _ _ _ _ _)); rotate_left; decide)
    | with_reducible apply Touches.ite
    | split
    | dsimp only

theorem execKSetStop_touches (m : SpdmCtx) (func : Nat) (stream : Nat) (keySet : Nat) (s : State) :
    OutTouches [.spdm, .loom, .link, .out] s (execKSetStop m func stream keySet s) := by
  unfold execKSetStop
  repeat' first
    | with_reducible apply Touches.refl
    | with_reducible assumption
    | with_reducible intro _
    | with_reducible apply OutTouches.next
    | with_reducible apply OutTouches.nextIf
    | (with_reducible apply Touches.comp (respKStop_touches _ _ _ _ _); rotate_left; decide)
    | (with_reducible apply Touches.comp (Touches.of_eq (by assumption) (respKStop_touches _ _ _ _ _)); rotate_left; decide)
    | (with_reducible apply State.spdmRow_touches; decide)
    | with_reducible apply Touches.ite
    | with_reducible apply OutTouches.ite
    | split
    | dsimp only

theorem State.lateAnswer_touches (s : State) (c : Conn) (session : Option Nat) (body : Bytes) :
    Touches [.spdm, .loom, .out] s (State.lateAnswer s c session body) := by
  unfold State.lateAnswer
  repeat' first
    | with_reducible apply Touches.refl
    | with_reducible assumption
    | with_reducible intro _
    | (with_reducible apply Touches.comp (State.sendSpdm_touches _ _ _ _ _); rotate_left; decide)
    | with_reducible apply OptTouches.getD
    | with_reducible apply Touches.ite
    | split
    | dsimp only

theorem State.lateError_touches (s : State) (c : Conn) (session : Option Nat) :
    Touches [.spdm, .loom, .out] s (State.lateError s c session) := by
  unfold State.lateError
  repeat' first
    | with_reducible apply Touches.refl
    | with_reducible assumption
    | with_reducible intro _
    | (with_reducible apply Touches.comp (State.sendSpdm_touches _ _ _ _ _); rotate_left; decide)
    | with_reducible apply OptTouches.getD
    | with_reducible apply Touches.ite
    | split
    | dsimp only

theorem State.kpDone_touches (s : State) (r : KpRec) :
    Touches [.keys, .spdm, .loom, .link, .out] s (State.kpDone s r) := by
  unfold State.kpDone
  repeat' first
    | with_reducible apply Touches.refl
    | with_reducible assumption
    | with_reducible intro _
    | (with_reducible apply Touches.comp (State.setTdi_touches _ _ _); rotate_left; decide)
    | (with_reducible apply Touches.comp (State.lateError_touches _ _ _); rotate_left; decide)
    | (with_reducible apply Touches.comp (State.clearSlot_touches _ _); rotate_left; decide)
    | (with_reducible apply Touches.comp (State.lateAnswer_touches _ _ _ _); rotate_left; decide)
    | with_reducible apply Touches.ite
    | split
    | dsimp only

theorem State.kpNextOf_touches (s : State) (a1 : List KpRec) :
    Touches [.keys, .spdm, .loom, .link, .out] s (State.kpNextOf s a1) := by
  induction a1 generalizing s with
  | nil =>
    unfold State.kpNextOf
    repeat' first
      | with_reducible apply Touches.refl
      | with_reducible assumption
      | with_reducible intro _
      | (with_reducible apply Touches.comp (State.kpSend_touches _ _); rotate_left; decide)
      | (with_reducible apply Touches.comp (State.kpDone_touches _ _); rotate_left; decide)
      | with_reducible apply Touches.ite
      | split
      | ((with_reducible apply Touches.set_link); rotate_left; decide)
      | dsimp only
  | cons x xs ih =>
    unfold State.kpNextOf
    repeat' first
      | with_reducible apply Touches.refl
      | with_reducible assumption
      | with_reducible intro _
      | (with_reducible apply Touches.comp (ih _); rotate_left; decide)
      | (with_reducible apply Touches.comp (State.kpSend_touches _ _); rotate_left; decide)
      | (with_reducible apply Touches.comp (State.kpDone_touches _ _); rotate_left; decide)
      | with_reducible apply Touches.ite
      | split
      | ((with_reducible apply Touches.set_link); rotate_left; decide)
      | dsimp only

theorem State.kpNext_touches (s : State) :
    Touches [.keys, .spdm, .loom, .link, .out] s (State.kpNext s) := by
  unfold State.kpNext
  repeat' first
    | with_reducible apply Touches.refl
    | with_reducible assumption
    | with_reducible intro _
    | (with_reducible apply Touches.comp (State.kpNextOf_touches _ _); rotate_left; decide)
    | with_reducible apply Touches.ite
    | split
    | dsimp only

theorem execKpAck_touches (s : State) :
    OutTouches [.keys, .spdm, .loom, .link, .out] s (execKpAck s) := by
  unfold execKpAck
  repeat' first
    | with_reducible apply Touches.refl
    | with_reducible assumption
    | with_reducible intro _
    | with_reducible apply OutTouches.next
    | with_reducible apply OutTouches.nextIf
    | (with_reducible apply Touches.comp (State.kpDone_touches _ _); rotate_left; decide)
    | (with_reducible apply Touches.comp (State.kpNext_touches _); rotate_left; decide)
    | with_reducible apply Touches.ite
    | with_reducible apply OutTouches.ite
    | split
    | ((with_reducible apply Touches.set_link); rotate_left; decide)
    | dsimp only

theorem execKpFlr_touches (func : Nat) (s : State) :
    OutTouches [.doms, .tallies, .fences, .quarantine, .weft, .shuttle, .batten, .spindle, .keys, .loom, .log, .counters, .trace, .events, .bp, .link, .out] s (execKpFlr func s) := by
  unfold execKpFlr
  repeat' first
    | with_reducible apply Touches.refl
    | with_reducible assumption
    | with_reducible intro _
    | with_reducible apply OutTouches.next
    | with_reducible apply OutTouches.nextIf
    | (with_reducible apply Touches.comp (State.tdiStop_touches _ _); rotate_left; decide)
    | with_reducible apply Touches.ite
    | with_reducible apply OutTouches.ite
    | split
    | dsimp only

theorem execKpLockedConfigWrite_touches (func : Nat) (s : State) :
    OutTouches [.link] s (execKpLockedConfigWrite func s) := by
  unfold execKpLockedConfigWrite
  repeat' first
    | with_reducible apply Touches.refl
    | with_reducible assumption
    | with_reducible intro _
    | with_reducible apply OutTouches.next
    | with_reducible apply OutTouches.nextIf
    | (with_reducible apply Touches.comp (State.tdiError_touches _ _); rotate_left; decide)
    | with_reducible apply Touches.ite
    | with_reducible apply OutTouches.ite
    | split
    | dsimp only

theorem State.ideIntegrity_touches (s : State) (ldi : Nat) :
    Touches [.doms, .tallies, .fences, .quarantine, .weft, .shuttle, .batten, .spindle, .keys, .loom, .log, .counters, .trace, .events, .bp, .link, .free, .out] s (State.ideIntegrity s ldi) := by
  unfold State.ideIntegrity
  repeat' first
    | with_reducible apply Touches.refl
    | with_reducible assumption
    | with_reducible intro _
    | (with_reducible apply Touches.comp (State.bumpDom_touches _ _ _ _); rotate_left; decide)
    | (with_reducible apply Touches.comp (State.endSpent_touches _); rotate_left; decide)
    | (with_reducible apply Touches.comp (State.raiseInteg_touches _ _); rotate_left; decide)
    | (with_reducible apply Touches.comp (State.abort_touches _ _ _ _); rotate_left; decide)
    | (with_reducible apply Touches.comp (State.record_touches _ _ _); rotate_left; decide)
    | with_reducible apply Touches.ite
    | split
    | ((with_reducible apply Touches.set_free); rotate_left; decide)
    | dsimp only

theorem execKpIdeIntegrityFailure_touches (func : Nat) (s : State) :
    OutTouches [.doms, .tallies, .fences, .quarantine, .weft, .shuttle, .batten, .spindle, .keys, .loom, .log, .counters, .trace, .events, .bp, .link, .free, .out] s (execKpIdeIntegrityFailure func s) := by
  unfold execKpIdeIntegrityFailure
  repeat' first
    | with_reducible apply Touches.refl
    | with_reducible assumption
    | with_reducible intro _
    | with_reducible apply OutTouches.next
    | with_reducible apply OutTouches.nextIf
    | (with_reducible apply Touches.comp (State.tdiError_touches _ _); rotate_left; decide)
    | (with_reducible apply Touches.comp (State.ideIntegrity_touches _ _); rotate_left; decide)
    | with_reducible apply Touches.ite
    | with_reducible apply OutTouches.ite
    | split
    | dsimp only

end Sys2Proof.Machine
end

