-- ==== Sys2Proof/Laws/Touches/Responder.lean ====
section
/-!
SUPPORT. What the operations of Machine/Responder.lean touch, one law for each.
-/
namespace Sys2Proof.Machine

set_option linter.unusedTactic false
set_option linter.unreachableTactic false

theorem respond_touches (i : Instr) (s : State) :
    Touches [.doms, .tallies, .fences, .quarantine, .weft, .shuttle, .batten, .spindle, .keys, .entropy, .spdm, .loom, .log, .counters, .trace, .events, .bp, .link, .out] s (respond i s).2 := by
  unfold respond
  repeat' first
    | with_reducible apply Touches.refl
    | with_reducible assumption
    | with_reducible exact Nat.le_refl _
    | with_reducible exact Nat.le_succ _
    | with_reducible intro _
    | (with_reducible apply Touches.comp (respFinish_touches _ _ _ _); rotate_left; decide)
    | (with_reducible apply Touches.comp (Touches.of_eq (by assumption) (respFinish_touches _ _ _ _)); rotate_left; decide)
    | (with_reducible apply Touches.comp (respTdispVersion_touches _ _ _); rotate_left; decide)
    | (with_reducible apply Touches.comp (Touches.of_eq (by assumption) (respTdispVersion_touches _ _ _)); rotate_left; decide)
    | (with_reducible apply Touches.comp (respVersion_touches _ _); rotate_left; decide)
    | (with_reducible apply Touches.comp (Touches.of_eq (by assumption) (respVersion_touches _ _)); rotate_left; decide)
    | (with_reducible apply Touches.comp (respVendor_touches _ _ _ _ _); rotate_left; decide)
    | (with_reducible apply Touches.comp (Touches.of_eq (by assumption) (respVendor_touches _ _ _ _ _)); rotate_left; decide)
    | (with_reducible apply Touches.comp (respDeliver_touches _ _ _ _); rotate_left; decide)
    | (with_reducible apply Touches.comp (Touches.of_eq (by assumption) (respDeliver_touches _ _ _ _)); rotate_left; decide)
    | (with_reducible apply Touches.comp (respKeyProg_touches _ _ _ _ _); rotate_left; decide)
    | (with_reducible apply Touches.comp (Touches.of_eq (by assumption) (respKeyProg_touches _ _ _ _ _)); rotate_left; decide)
    | (with_reducible apply Touches.comp (respUnsupported_touches _ _ _); rotate_left; decide)
    | (with_reducible apply Touches.comp (Touches.of_eq (by assumption) (respUnsupported_touches _ _ _)); rotate_left; decide)
    | (with_reducible apply Touches.comp (respStop_touches _ _ _); rotate_left; decide)
    | (with_reducible apply Touches.comp (Touches.of_eq (by assumption) (respStop_touches _ _ _)); rotate_left; decide)
    | (with_reducible apply Touches.comp (respHeartbeat_touches _ _); rotate_left; decide)
    | (with_reducible apply Touches.comp (Touches.of_eq (by assumption) (respHeartbeat_touches _ _)); rotate_left; decide)
    | (with_reducible apply Touches.comp (respIdeKeys_touches _ _ _ _ _ _); rotate_left; decide)
    | (with_reducible apply Touches.comp (Touches.of_eq (by assumption) (respIdeKeys_touches _ _ _ _ _ _)); rotate_left; decide)
    | (with_reducible apply Touches.comp (respCapabilities_touches _ _); rotate_left; decide)
    | (with_reducible apply Touches.comp (Touches.of_eq (by assumption) (respCapabilities_touches _ _)); rotate_left; decide)
    | (with_reducible apply Touches.comp (respStart_touches _ _ _ _); rotate_left; decide)
    | (with_reducible apply Touches.comp (Touches.of_eq (by assumption) (respStart_touches _ _ _ _)); rotate_left; decide)
    | (with_reducible apply Touches.comp (respReport_touches _ _ _); rotate_left; decide)
    | (with_reducible apply Touches.comp (Touches.of_eq (by assumption) (respReport_touches _ _ _)); rotate_left; decide)
    | (with_reducible apply Touches.comp (respEncapRequest_touches _ _ _); rotate_left; decide)
    | (with_reducible apply Touches.comp (Touches.of_eq (by assumption) (respEncapRequest_touches _ _ _)); rotate_left; decide)
    | (with_reducible apply Touches.comp (respEndSession_touches _ _); rotate_left; decide)
    | (with_reducible apply Touches.comp (Touches.of_eq (by assumption) (respEndSession_touches _ _)); rotate_left; decide)
    | (with_reducible apply Touches.comp (respKeyExchange_touches _ _ _); rotate_left; decide)
    | (with_reducible apply Touches.comp (Touches.of_eq (by assumption) (respKeyExchange_touches _ _ _)); rotate_left; decide)
    | (with_reducible apply Touches.comp (respTdispUnsupported_touches _ _ _ _); rotate_left; decide)
    | (with_reducible apply Touches.comp (Touches.of_eq (by assumption) (respTdispUnsupported_touches _ _ _ _)); rotate_left; decide)
    | (with_reducible apply Touches.comp (respDigests_touches _ _); rotate_left; decide)
    | (with_reducible apply Touches.comp (Touches.of_eq (by assumption) (respDigests_touches _ _)); rotate_left; decide)
    | (with_reducible apply Touches.comp (respChallenge_touches _ _ _ _); rotate_left; decide)
    | (with_reducible apply Touches.comp (Touches.of_eq (by assumption) (respChallenge_touches _ _ _ _)); rotate_left; decide)
    | (with_reducible apply Touches.comp (respCertificate_touches _ _ _ _ _); rotate_left; decide)
    | (with_reducible apply Touches.comp (Touches.of_eq (by assumption) (respCertificate_touches _ _ _ _ _)); rotate_left; decide)
    | (with_reducible apply Touches.comp (respAlgorithms_touches _ _ _); rotate_left; decide)
    | (with_reducible apply Touches.comp (Touches.of_eq (by assumption) (respAlgorithms_touches _ _ _)); rotate_left; decide)
    | (with_reducible apply Touches.comp (respMeasurements_touches _ _ _ _ _ _); rotate_left; decide)
    | (with_reducible apply Touches.comp (Touches.of_eq (by assumption) (respMeasurements_touches _ _ _ _ _ _)); rotate_left; decide)
    | (with_reducible apply Touches.comp (respLock_touches _ _ _); rotate_left; decide)
    | (with_reducible apply Touches.comp (Touches.of_eq (by assumption) (respLock_touches _ _ _)); rotate_left; decide)
    | (with_reducible apply Touches.comp (respKeyUpdate_touches _ _ _); rotate_left; decide)
    | (with_reducible apply Touches.comp (Touches.of_eq (by assumption) (respKeyUpdate_touches _ _ _)); rotate_left; decide)
    | (with_reducible apply Touches.comp (respIdeQuery_touches _ _ _); rotate_left; decide)
    | (with_reducible apply Touches.comp (Touches.of_eq (by assumption) (respIdeQuery_touches _ _ _)); rotate_left; decide)
    | (with_reducible apply Touches.comp (respGo_touches _ _ _ _ _); rotate_left; decide)
    | (with_reducible apply Touches.comp (Touches.of_eq (by assumption) (respGo_touches _ _ _ _ _)); rotate_left; decide)
    | (with_reducible apply Touches.comp (respKStop_touches _ _ _ _ _); rotate_left; decide)
    | (with_reducible apply Touches.comp (Touches.of_eq (by assumption) (respKStop_touches _ _ _ _ _)); rotate_left; decide)
    | (with_reducible apply Touches.comp (respTdispCapabilities_touches _ _ _); rotate_left; decide)
    | (with_reducible apply Touches.comp (Touches.of_eq (by assumption) (respTdispCapabilities_touches _ _ _)); rotate_left; decide)
    | (with_reducible apply Touches.comp (respState_touches _ _ _); rotate_left; decide)
    | (with_reducible apply Touches.comp (Touches.of_eq (by assumption) (respState_touches _ _ _)); rotate_left; decide)
    | with_reducible apply OptTouches.getD
    | with_reducible apply Touches.ite
    | split
    | dsimp only

theorem State.answerLarge_touches (s : State) (m : SpdmCtx) (handle : Nat) (seq : Nat) (msg : Bytes) :
    Touches [.doms, .tallies, .fences, .quarantine, .weft, .shuttle, .batten, .spindle, .keys, .entropy, .spdm, .loom, .log, .counters, .trace, .events, .bp, .link, .out] s (State.answerLarge s m handle seq msg).2 := by
  unfold State.answerLarge
  repeat' first
    | with_reducible apply Touches.refl
    | with_reducible assumption
    | with_reducible exact Nat.le_refl _
    | with_reducible exact Nat.le_succ _
    | with_reducible intro _
    | (with_reducible apply Touches.comp (State.fitSpdm_touches _ _ _ _); rotate_left; decide)
    | (with_reducible apply Touches.comp (Touches.of_eq (by assumption) (State.fitSpdm_touches _ _ _ _)); rotate_left; decide)
    | (with_reducible apply Touches.comp (respond_touches _ _); rotate_left; decide)
    | (with_reducible apply Touches.comp (Touches.of_eq (by assumption) (respond_touches _ _)); rotate_left; decide)
    | with_reducible apply Touches.ite
    | split
    | dsimp only

theorem respChunkSend_touches (m : SpdmCtx) (handle : Nat) (seq : Nat) (last : Bool) (chunk : Bytes) (s : State) :
    Touches [.doms, .tallies, .fences, .quarantine, .weft, .shuttle, .batten, .spindle, .keys, .entropy, .spdm, .loom, .log, .counters, .trace, .events, .bp, .link, .out] s (respChunkSend m handle seq last chunk s).2 := by
  unfold respChunkSend
  repeat' first
    | with_reducible apply Touches.refl
    | with_reducible assumption
    | with_reducible exact Nat.le_refl _
    | with_reducible exact Nat.le_succ _
    | with_reducible intro _
    | (with_reducible apply Touches.comp (State.answerLarge_touches _ _ _ _ _); rotate_left; decide)
    | (with_reducible apply Touches.comp (Touches.of_eq (by assumption) (State.answerLarge_touches _ _ _ _ _)); rotate_left; decide)
    | (with_reducible apply Touches.comp (State.setConn_touches _ _ _); rotate_left; decide)
    | (with_reducible apply State.answerSpdm_touches; rotate_left; decide)
    | with_reducible apply Touches.ite
    | split
    | dsimp only

theorem execChunkSend_touches (m : SpdmCtx) (handle : Nat) (seq : Nat) (last : Bool) (chunk : Bytes) (s : State) :
    OutTouches [.doms, .tallies, .fences, .quarantine, .weft, .shuttle, .batten, .spindle, .keys, .entropy, .spdm, .loom, .log, .counters, .trace, .events, .bp, .link, .out] s (execChunkSend m handle seq last chunk s) := by
  unfold execChunkSend
  repeat' first
    | with_reducible apply Touches.refl
    | with_reducible assumption
    | with_reducible exact Nat.le_refl _
    | with_reducible exact Nat.le_succ _
    | with_reducible intro _
    | with_reducible apply OutTouches.next
    | with_reducible apply OutTouches.nextIf
    | (with_reducible apply Touches.comp (respChunkSend_touches _ _ _ _ _ _); rotate_left; decide)
    | (with_reducible apply Touches.comp (Touches.of_eq (by assumption) (respChunkSend_touches _ _ _ _ _ _)); rotate_left; decide)
    | (with_reducible apply State.spdmRow_touches; decide)
    | with_reducible apply Touches.ite
    | with_reducible apply OutTouches.ite
    | split
    | dsimp only

theorem respChunkGet_touches (m : SpdmCtx) (handle : Nat) (seq : Nat) (s : State) :
    Touches [.spdm] s (respChunkGet m handle seq s).2 := by
  unfold respChunkGet
  repeat' first
    | with_reducible apply Touches.refl
    | with_reducible assumption
    | with_reducible intro _
    | (with_reducible apply Touches.comp (State.setConn_touches _ _ _); rotate_left; decide)
    | (with_reducible apply State.answerSpdm_touches; rotate_left; decide)
    | with_reducible apply Touches.ite
    | split
    | dsimp only

theorem execChunkGet_touches (m : SpdmCtx) (handle : Nat) (seq : Nat) (s : State) :
    OutTouches [.spdm, .loom, .out] s (execChunkGet m handle seq s) := by
  unfold execChunkGet
  repeat' first
    | with_reducible apply Touches.refl
    | with_reducible assumption
    | with_reducible intro _
    | with_reducible apply OutTouches.next
    | with_reducible apply OutTouches.nextIf
    | (with_reducible apply Touches.comp (respChunkGet_touches _ _ _ _); rotate_left; decide)
    | (with_reducible apply Touches.comp (Touches.of_eq (by assumption) (respChunkGet_touches _ _ _ _)); rotate_left; decide)
    | (with_reducible apply State.spdmRow_touches; decide)
    | with_reducible apply Touches.ite
    | with_reducible apply OutTouches.ite
    | split
    | dsimp only

theorem State.openAnswer_touches (s : State) (c : Cmd) :
    Touches [.doms, .tallies, .fences, .quarantine, .weft, .shuttle, .batten, .spindle, .keys, .entropy, .spdm, .loom, .log, .counters, .trace, .events, .bp, .link, .out] s (State.openAnswer s c).2.2 := by
  unfold State.openAnswer
  split
  · rename_i i t e
    have ht : Touches [.doms, .tallies, .fences, .quarantine, .weft, .shuttle, .batten, .spindle, .keys, .entropy, .spdm, .loom, .log, .counters, .trace, .events, .bp, .link, .out] s t := by
      simp only [Option.bind_eq_some_iff, Option.map_eq_some_iff] at e
      obtain ⟨_, _, _, _, u, hu, e⟩ := e
      cases e
      exact ((State.takeSpdm_touches _ _ _).get hu).mono (by decide)
    dsimp only
    split
    · exact ht.andThen (respChunkSend_touches _ _ _ _ _ _) (by decide)
    · exact ht.andThen (respChunkGet_touches _ _ _ _) (by decide)
    · exact ht.andThen (respond_touches _ _) (by decide)
  · exact Touches.refl _ _

theorem sessionOpenBody_touches (s : State) (c : Cmd) :
    ResTouches [.doms, .tallies, .fences, .quarantine, .weft, .shuttle, .batten, .spindle, .keys, .entropy, .spdm, .loom, .log, .counters, .trace, .events, .bp, .link, .out] s (sessionOpenBody s c) := by
  unfold sessionOpenBody
  repeat' first
    | with_reducible apply Touches.refl
    | with_reducible assumption
    | with_reducible exact Nat.le_refl _
    | with_reducible exact Nat.le_succ _
    | with_reducible intro _
    | with_reducible apply ResTouches.fail
    | with_reducible apply ResTouches.refuse
    | with_reducible apply ResTouches.ok
    | with_reducible apply ResTouches.done
    | with_reducible apply ResTouches.wait
    | (with_reducible apply Touches.comp (State.openAnswer_touches _ _); rotate_left; decide)
    | (with_reducible apply Touches.comp (State.wireSpdm_touches _ _ _ _); rotate_left; decide)
    | (with_reducible apply Touches.comp (Touches.of_eq (by assumption) (State.wireSpdm_touches _ _ _ _)); rotate_left; decide)
    | (with_reducible apply ResTouches.comp (Res.ok_touches _ _ _); rotate_left; decide)
    | with_reducible apply Touches.ite
    | with_reducible apply ResTouches.ite
    | split
    | dsimp only

theorem attSessionOpenSpec_touches (t : State) (c : Cmd) :
    ResTouches [.doms, .tallies, .fences, .quarantine, .weft, .shuttle, .batten, .spindle, .keys, .entropy, .spdm, .loom, .log, .counters, .trace, .events, .bp, .link, .out] t (attSessionOpenSpec.body t c) := by
  unfold attSessionOpenSpec
  dsimp only
  repeat' first
    | with_reducible apply Touches.refl
    | with_reducible assumption
    | intro _
    | with_reducible apply ResTouches.fail
    | with_reducible apply ResTouches.refuse
    | with_reducible apply ResTouches.ok
    | with_reducible apply ResTouches.done
    | with_reducible apply ResTouches.wait
    | (with_reducible apply Touches.comp (endSpentAfter_touches _ _); rotate_left; decide)
    | (with_reducible apply ResTouches.comp (sessionOpenBody_touches _ _); rotate_left; decide)
    | with_reducible apply Touches.ite
    | with_reducible apply ResTouches.ite
    | split
    | dsimp only

theorem execAttSessionOpen_touches (src : Src) (s : State) :
    OutTouches [.doms, .tallies, .fences, .quarantine, .weft, .shuttle, .batten, .spindle, .keys, .entropy, .spdm, .loom, .log, .counters, .trace, .events, .bp, .mailbox, .link, .out] s (execAttSessionOpen src s) := by
  unfold execAttSessionOpen
  repeat' first
    | with_reducible apply Touches.refl
    | with_reducible assumption
    | with_reducible exact Nat.le_refl _
    | with_reducible exact Nat.le_succ _
    | with_reducible intro _
    | with_reducible apply OutTouches.next
    | with_reducible apply OutTouches.nextIf
    | (with_reducible apply State.runSrc_touches; rotate_left; decide)
    | ((with_reducible show Touches _ _ (CmdSpec.after _ _ _)); exact (State.endSpent_touches _).mono (by decide))
    | (with_reducible apply ResTouches.mono (attSessionOpenSpec_touches _ _); decide)
    | with_reducible apply Touches.ite
    | with_reducible apply OutTouches.ite
    | split
    | dsimp only

theorem State.answerCtl_touches (s : State) (command : Nat) (completion : Nat) (rest : Bytes) :
    Touches [.out] s (State.answerCtl s command completion rest) := by
  unfold State.answerCtl
  repeat' first
    | with_reducible apply Touches.refl
    | with_reducible assumption
    | with_reducible intro _
    | (with_reducible apply Touches.comp (State.sendMctp_touches _ _ _); rotate_left; decide)
    | with_reducible apply Touches.ite
    | split
    | dsimp only

theorem execSetEndpointId_touches (eid : Nat) (s : State) :
    OutTouches [.link, .out] s (execSetEndpointId eid s) := by
  unfold execSetEndpointId
  repeat' first
    | with_reducible apply Touches.refl
    | with_reducible assumption
    | with_reducible intro _
    | with_reducible apply OutTouches.next
    | with_reducible apply OutTouches.nextIf
    | (with_reducible apply Touches.comp (State.answerCtl_touches _ _ _ _); rotate_left; decide)
    | with_reducible apply Touches.ite
    | with_reducible apply OutTouches.ite
    | split
    | ((with_reducible apply Touches.set_link); rotate_left; decide)
    | dsimp only

theorem execGetEndpointId_touches (s : State) :
    OutTouches [.out] s (execGetEndpointId s) := by
  unfold execGetEndpointId
  repeat' first
    | with_reducible apply Touches.refl
    | with_reducible assumption
    | with_reducible intro _
    | with_reducible apply OutTouches.next
    | with_reducible apply OutTouches.nextIf
    | (with_reducible apply Touches.comp (State.answerCtl_touches _ _ _ _); rotate_left; decide)
    | with_reducible apply Touches.ite
    | with_reducible apply OutTouches.ite
    | split
    | dsimp only

theorem execGetMctpVersionSupport_touches (s : State) :
    OutTouches [.out] s (execGetMctpVersionSupport s) := by
  unfold execGetMctpVersionSupport
  repeat' first
    | with_reducible apply Touches.refl
    | with_reducible assumption
    | with_reducible intro _
    | with_reducible apply OutTouches.next
    | with_reducible apply OutTouches.nextIf
    | (with_reducible apply Touches.comp (State.answerCtl_touches _ _ _ _); rotate_left; decide)
    | with_reducible apply Touches.ite
    | with_reducible apply OutTouches.ite
    | split
    | dsimp only

theorem execGetMessageTypeSupport_touches (s : State) :
    OutTouches [.out] s (execGetMessageTypeSupport s) := by
  unfold execGetMessageTypeSupport
  repeat' first
    | with_reducible apply Touches.refl
    | with_reducible assumption
    | with_reducible intro _
    | with_reducible apply OutTouches.next
    | with_reducible apply OutTouches.nextIf
    | (with_reducible apply Touches.comp (State.answerCtl_touches _ _ _ _); rotate_left; decide)
    | with_reducible apply Touches.ite
    | with_reducible apply OutTouches.ite
    | split
    | dsimp only

theorem State.mgmtWrite_touches (s : State) (body : Bytes) :
    Touches [.loom, .mailbox] s (State.mgmtWrite s body) := by
  unfold State.mgmtWrite
  repeat' first
    | with_reducible apply Touches.refl
    | with_reducible assumption
    | with_reducible intro _
    | (with_reducible apply Touches.comp (State.mboxWrite_touches _ _ _); rotate_left; decide)
    | (with_reducible apply Touches.comp (State.setRing_touches _ _ _); rotate_left; decide)
    | with_reducible apply Touches.ite
    | split
    | dsimp only

theorem execMctpVendorCommand_touches (type : Nat) (vendor : Nat) (cmdSet : Nat) (body : Bytes) (s : State) :
    OutTouches [.tallies, .fences, .shuttle, .spdm, .loom, .log, .counters, .trace, .mailbox, .out] s (execMctpVendorCommand type vendor cmdSet body s) := by
  unfold execMctpVendorCommand
  repeat' first
    | with_reducible apply Touches.refl
    | with_reducible assumption
    | with_reducible intro _
    | with_reducible apply OutTouches.next
    | with_reducible apply OutTouches.nextIf
    | (with_reducible apply Touches.comp (State.mgmtWrite_touches _ _); rotate_left; decide)
    | (with_reducible apply Touches.comp (State.countDropped_touches _); rotate_left; decide)
    | (with_reducible apply Touches.comp (State.drainTurns_touches _); rotate_left; decide)
    | with_reducible apply Touches.ite
    | with_reducible apply OutTouches.ite
    | split
    | dsimp only

end Sys2Proof.Machine
end

