-- ==== Sys2Proof/Laws/Touches/Time.lean ====
section
/-!
SUPPORT. What the operations of Machine/Time.lean touch, one law for each.
-/
namespace Sys2Proof.Machine

set_option linter.unusedTactic false
set_option linter.unreachableTactic false

theorem State.setTime_touches (s : State) (t : TimeUnit) :
    Touches [.time] s (State.setTime s t) := by
  unfold State.setTime
  repeat' first
    | with_reducible apply Touches.refl
    | with_reducible assumption
    | with_reducible intro _
    | with_reducible apply Touches.ite
    | split
    | ((with_reducible apply Touches.set_time); rotate_left; decide)
    | dsimp only

theorem State.rejectSample_touches (s : State) (reason : Nat) (theta : ℤ) (master : Nat) :
    Touches [.log, .counters, .trace] s (State.rejectSample s reason theta master) := by
  unfold State.rejectSample
  repeat' first
    | with_reducible apply Touches.refl
    | with_reducible assumption
    | with_reducible intro _
    | (with_reducible apply Touches.comp (State.recordLimited_touches _ _ _ _ _ _); rotate_left; decide)
    | with_reducible apply Touches.ite
    | split
    | dsimp only

theorem State.enterTime_touches (s : State) (new : TimeState) (reason : Nat) (theta : ℤ) :
    Touches [.doms, .tallies, .fences, .weft, .shuttle, .batten, .keys, .time, .loom, .log, .counters, .trace, .events, .bp, .dbg, .out] s (State.enterTime s new reason theta) := by
  unfold State.enterTime
  repeat' first
    | with_reducible apply Touches.refl
    | with_reducible assumption
    | with_reducible intro _
    | (with_reducible apply Touches.comp (State.traceWrite_touches _ _); rotate_left; decide)
    | (with_reducible apply Touches.comp (State.record_touches _ _ _); rotate_left; decide)
    | (with_reducible apply Touches.comp (State.raise_touches _ _); rotate_left; decide)
    | (with_reducible apply Touches.comp (State.endRights_touches _); rotate_left; decide)
    | (with_reducible apply Touches.comp (State.setTime_touches _ _); rotate_left; decide)
    | with_reducible apply OptTouches.getD
    | with_reducible apply Touches.ite
    | split
    | dsimp only

theorem State.acceptSample_touches (s : State) (theta : ℤ) :
    Touches [.doms, .tallies, .fences, .weft, .shuttle, .batten, .keys, .time, .loom, .log, .counters, .trace, .events, .bp, .dbg, .out] s (State.acceptSample s theta) := by
  unfold State.acceptSample
  repeat' first
    | with_reducible apply Touches.refl
    | with_reducible assumption
    | with_reducible intro _
    | (with_reducible apply Touches.comp (State.enterTime_touches _ _ _ _); rotate_left; decide)
    | (with_reducible apply Touches.comp (State.setTime_touches _ _); rotate_left; decide)
    | with_reducible apply Touches.ite
    | split
    | dsimp only

theorem State.takeTimeSample_touches (s : State) (master : Nat) (t1 : ℤ) (t2 : ℤ) (t3 : ℤ) (t4 : ℤ) :
    Touches [.doms, .tallies, .fences, .weft, .shuttle, .batten, .keys, .time, .loom, .log, .counters, .trace, .events, .bp, .dbg, .out] s (State.takeTimeSample s master t1 t2 t3 t4) := by
  unfold State.takeTimeSample
  repeat' first
    | with_reducible apply Touches.refl
    | with_reducible assumption
    | with_reducible intro _
    | (with_reducible apply Touches.comp (State.rejectSample_touches _ _ _ _); rotate_left; decide)
    | (with_reducible apply Touches.comp (State.setTime_touches _ _); rotate_left; decide)
    | (with_reducible apply Touches.comp (State.acceptSample_touches _ _); rotate_left; decide)
    | with_reducible apply Touches.ite
    | split
    | dsimp only

theorem State.tryPtpSample_touches (s : State) (p : SyncPending) :
    Touches [.doms, .tallies, .fences, .weft, .shuttle, .batten, .keys, .time, .loom, .log, .counters, .trace, .events, .bp, .dbg, .out] s (State.tryPtpSample s p) := by
  unfold State.tryPtpSample
  repeat' first
    | with_reducible apply Touches.refl
    | with_reducible assumption
    | with_reducible intro _
    | (with_reducible apply Touches.comp (State.takeTimeSample_touches _ _ _ _ _ _); rotate_left; decide)
    | (with_reducible apply Touches.comp (State.setTime_touches _ _); rotate_left; decide)
    | with_reducible apply Touches.ite
    | split
    | dsimp only

theorem execAnnounce_touches (m : PtpMsg) (a : AnnounceData) (s : State) :
    OutTouches [.time, .log, .counters, .trace] s (execAnnounce m a s) := by
  unfold execAnnounce
  repeat' first
    | with_reducible apply Touches.refl
    | with_reducible assumption
    | with_reducible intro _
    | with_reducible apply OutTouches.next
    | with_reducible apply OutTouches.nextIf
    | (with_reducible apply Touches.comp (State.rejectSample_touches _ _ _ _); rotate_left; decide)
    | (with_reducible apply Touches.comp (State.setTime_touches _ _); rotate_left; decide)
    | with_reducible apply Touches.ite
    | with_reducible apply OutTouches.ite
    | split
    | dsimp only

theorem State.onPtp_touches {F : List Part} {s : State} {m : PtpMsg} {k : State → State}
    (sub : ∀ p ∈ ([.log, .counters, .trace] : List Part), p ∈ F) (hk : Touches F s (k s)) : OutTouches F s (State.onPtp s m k) := by
  unfold State.onPtp
  refine OutTouches.nextIf (Touches.refl _ _) ?_
  have hr : ∀ a b c, Touches F s (s.rejectSample a b c) := fun a b c =>
    (State.rejectSample_touches s a b c).mono sub
  split
  · exact hr _ _ _
  · split
    · exact hk
    · split
      · exact Touches.refl _ _
      · exact hr _ _ _

theorem execSync_touches (m : PtpMsg) (s : State) :
    OutTouches [.time, .log, .counters, .trace, .out] s (execSync m s) := by
  unfold execSync
  repeat' first
    | with_reducible apply Touches.refl
    | with_reducible assumption
    | with_reducible intro _
    | with_reducible apply OutTouches.next
    | with_reducible apply OutTouches.nextIf
    | (with_reducible apply Touches.comp (State.setTime_touches _ _); rotate_left; decide)
    | (with_reducible apply State.onPtp_touches; decide)
    | (with_reducible apply Touches.comp (State.emit_touches _ _); rotate_left; decide)
    | with_reducible apply Touches.ite
    | with_reducible apply OutTouches.ite
    | split
    | dsimp only

theorem execFollowUp_touches (m : PtpMsg) (s : State) :
    OutTouches [.doms, .tallies, .fences, .weft, .shuttle, .batten, .keys, .time, .loom, .log, .counters, .trace, .events, .bp, .dbg, .out] s (execFollowUp m s) := by
  unfold execFollowUp
  repeat' first
    | with_reducible apply Touches.refl
    | with_reducible assumption
    | with_reducible intro _
    | with_reducible apply OutTouches.next
    | with_reducible apply OutTouches.nextIf
    | (with_reducible apply Touches.comp (State.tryPtpSample_touches _ _); rotate_left; decide)
    | (with_reducible apply State.onPtp_touches; decide)
    | with_reducible apply Touches.ite
    | with_reducible apply OutTouches.ite
    | split
    | dsimp only

theorem execDelayResp_touches (m : PtpMsg) (s : State) :
    OutTouches [.doms, .tallies, .fences, .weft, .shuttle, .batten, .keys, .time, .loom, .log, .counters, .trace, .events, .bp, .dbg, .out] s (execDelayResp m s) := by
  unfold execDelayResp
  repeat' first
    | with_reducible apply Touches.refl
    | with_reducible assumption
    | with_reducible intro _
    | with_reducible apply OutTouches.next
    | with_reducible apply OutTouches.nextIf
    | (with_reducible apply Touches.comp (State.tryPtpSample_touches _ _); rotate_left; decide)
    | (with_reducible apply State.onPtp_touches; decide)
    | with_reducible apply Touches.ite
    | with_reducible apply OutTouches.ite
    | split
    | dsimp only

theorem execPtpIgnoredMessage_touches (s : State) :
    OutTouches [.time] s (execPtpIgnoredMessage s) := by
  unfold execPtpIgnoredMessage
  repeat' first
    | with_reducible apply Touches.refl
    | with_reducible assumption
    | with_reducible intro _
    | with_reducible apply OutTouches.next
    | with_reducible apply OutTouches.nextIf
    | (with_reducible apply Touches.comp (State.setTime_touches _ _); rotate_left; decide)
    | with_reducible apply Touches.ite
    | with_reducible apply OutTouches.ite
    | split
    | dsimp only

theorem execTpTxts_touches (id : Nat) (ts : Time12) (s : State) :
    OutTouches [.doms, .tallies, .fences, .weft, .shuttle, .batten, .keys, .time, .loom, .log, .counters, .trace, .events, .bp, .dbg, .out] s (execTpTxts id ts s) := by
  unfold execTpTxts
  repeat' first
    | with_reducible apply Touches.refl
    | with_reducible assumption
    | with_reducible intro _
    | with_reducible apply OutTouches.next
    | with_reducible apply OutTouches.nextIf
    | (with_reducible apply Touches.comp (State.tryPtpSample_touches _ _); rotate_left; decide)
    | with_reducible apply Touches.ite
    | with_reducible apply OutTouches.ite
    | split
    | dsimp only

theorem execTxtsTimeout_touches (id : Nat) (s : State) :
    OutTouches [.time] s (execTxtsTimeout id s) := by
  unfold execTxtsTimeout
  repeat' first
    | with_reducible apply Touches.refl
    | with_reducible assumption
    | with_reducible intro _
    | with_reducible apply OutTouches.next
    | with_reducible apply OutTouches.nextIf
    | (with_reducible apply Touches.comp (State.advanceTo_touches _ _); rotate_left; decide)
    | (with_reducible apply Touches.comp (State.setTime_touches _ _); rotate_left; decide)
    | with_reducible apply Touches.ite
    | with_reducible apply OutTouches.ite
    | split
    | dsimp only

theorem execTimeNoSampleTimeout_touches (s : State) :
    OutTouches [.doms, .tallies, .fences, .weft, .shuttle, .batten, .keys, .time, .loom, .log, .counters, .trace, .events, .bp, .dbg, .out] s (execTimeNoSampleTimeout s) := by
  unfold execTimeNoSampleTimeout
  repeat' first
    | with_reducible apply Touches.refl
    | with_reducible assumption
    | with_reducible intro _
    | with_reducible apply OutTouches.next
    | with_reducible apply OutTouches.nextIf
    | (with_reducible apply Touches.comp (State.advanceTo_touches _ _); rotate_left; decide)
    | (with_reducible apply Touches.comp (State.enterTime_touches _ _ _ _); rotate_left; decide)
    | (with_reducible apply Touches.comp (State.setTime_touches _ _); rotate_left; decide)
    | with_reducible apply OptTouches.getD
    | with_reducible apply Touches.ite
    | with_reducible apply OutTouches.ite
    | split
    | dsimp only

theorem execHoldoverTimeout_touches (s : State) :
    OutTouches [.doms, .tallies, .fences, .weft, .shuttle, .batten, .keys, .time, .loom, .log, .counters, .trace, .events, .bp, .dbg, .out] s (execHoldoverTimeout s) := by
  unfold execHoldoverTimeout
  repeat' first
    | with_reducible apply Touches.refl
    | with_reducible assumption
    | with_reducible intro _
    | with_reducible apply OutTouches.next
    | with_reducible apply OutTouches.nextIf
    | (with_reducible apply Touches.comp (State.advanceTo_touches _ _); rotate_left; decide)
    | (with_reducible apply Touches.comp (State.enterTime_touches _ _ _ _); rotate_left; decide)
    | with_reducible apply Touches.ite
    | with_reducible apply OutTouches.ite
    | split
    | dsimp only

theorem timStatusBody_touches (s : State) (a1 : Cmd) :
    ResTouches [] s (timStatusBody s a1) := by
  unfold timStatusBody
  repeat' first
    | with_reducible apply Touches.refl
    | with_reducible assumption
    | with_reducible intro _
    | with_reducible apply ResTouches.fail
    | with_reducible apply ResTouches.refuse
    | with_reducible apply ResTouches.ok
    | with_reducible apply ResTouches.done
    | with_reducible apply ResTouches.wait
    | (with_reducible apply ResTouches.comp (Res.ok_touches _ _ _); rotate_left; decide)
    | with_reducible apply OptTouches.getD
    | with_reducible apply Touches.ite
    | with_reducible apply ResTouches.ite
    | split
    | dsimp only

theorem timStatusSpec_touches (t : State) (c : Cmd) :
    ResTouches [] t (timStatusSpec.body t c) := by
  unfold timStatusSpec
  dsimp only
  repeat' first
    | with_reducible apply Touches.refl
    | with_reducible assumption
    | intro _
    | with_reducible apply ResTouches.fail
    | with_reducible apply ResTouches.refuse
    | with_reducible apply ResTouches.ok
    | with_reducible apply ResTouches.done
    | with_reducible apply ResTouches.wait
    | (with_reducible apply ResTouches.comp (timStatusBody_touches _ _); rotate_left; decide)
    | with_reducible apply Touches.ite
    | with_reducible apply ResTouches.ite
    | split
    | dsimp only

theorem execTimStatus_touches (src : Src) (s : State) :
    OutTouches [.tallies, .fences, .shuttle, .spdm, .loom, .log, .counters, .trace, .mailbox, .out] s (execTimStatus src s) := by
  unfold execTimStatus
  repeat' first
    | with_reducible apply Touches.refl
    | with_reducible assumption
    | with_reducible intro _
    | with_reducible apply OutTouches.next
    | with_reducible apply OutTouches.nextIf
    | (with_reducible apply State.runSrc_touches; rotate_left; decide)
    | ((with_reducible show Touches _ _ (CmdSpec.after _ _ _)); exact Touches.refl _ _)
    | (with_reducible apply ResTouches.mono (timStatusSpec_touches _ _); decide)
    | with_reducible apply Touches.ite
    | with_reducible apply OutTouches.ite
    | split
    | dsimp only

theorem setServoBody_touches (s : State) (c : Cmd) :
    ResTouches [.time] s (setServoBody s c) := by
  unfold setServoBody
  repeat' first
    | with_reducible apply Touches.refl
    | with_reducible assumption
    | with_reducible intro _
    | with_reducible apply ResTouches.fail
    | with_reducible apply ResTouches.refuse
    | with_reducible apply ResTouches.ok
    | with_reducible apply ResTouches.done
    | with_reducible apply ResTouches.wait
    | (with_reducible apply Touches.comp (State.setTime_touches _ _); rotate_left; decide)
    | (with_reducible apply ResTouches.comp (Res.ok_touches _ _ _); rotate_left; decide)
    | with_reducible apply Touches.ite
    | with_reducible apply ResTouches.ite
    | split
    | dsimp only

theorem timSetServoSpec_touches (t : State) (c : Cmd) :
    ResTouches [.time] t (timSetServoSpec.body t c) := by
  unfold timSetServoSpec
  dsimp only
  repeat' first
    | with_reducible apply Touches.refl
    | with_reducible assumption
    | intro _
    | with_reducible apply ResTouches.fail
    | with_reducible apply ResTouches.refuse
    | with_reducible apply ResTouches.ok
    | with_reducible apply ResTouches.done
    | with_reducible apply ResTouches.wait
    | (with_reducible apply ResTouches.comp (setServoBody_touches _ _); rotate_left; decide)
    | with_reducible apply Touches.ite
    | with_reducible apply ResTouches.ite
    | split
    | dsimp only

theorem execTimSetServo_touches (src : Src) (s : State) :
    OutTouches [.tallies, .fences, .shuttle, .spdm, .time, .loom, .log, .counters, .trace, .mailbox, .out] s (execTimSetServo src s) := by
  unfold execTimSetServo
  repeat' first
    | with_reducible apply Touches.refl
    | with_reducible assumption
    | with_reducible intro _
    | with_reducible apply OutTouches.next
    | with_reducible apply OutTouches.nextIf
    | (with_reducible apply State.runSrc_touches; rotate_left; decide)
    | ((with_reducible show Touches _ _ (CmdSpec.after _ _ _)); exact Touches.refl _ _)
    | (with_reducible apply ResTouches.mono (timSetServoSpec_touches _ _); decide)
    | with_reducible apply Touches.ite
    | with_reducible apply OutTouches.ite
    | split
    | dsimp only

theorem State.setOffset_touches (s : State) (ldi : Nat) (o : Offset) :
    Touches [.time] s (State.setOffset s ldi o) := by
  unfold State.setOffset
  repeat' first
    | with_reducible apply Touches.refl
    | with_reducible assumption
    | with_reducible intro _
    | (with_reducible apply Touches.comp (State.setTime_touches _ _); rotate_left; decide)
    | with_reducible apply Touches.ite
    | split
    | dsimp only

theorem State.toChildren_touches (s : State) (ldi : Nat) (body : Bytes) :
    Touches [.shuttle, .counters, .out] s (State.toChildren s ldi body) := by
  unfold State.toChildren
  repeat' first
    | with_reducible apply Touches.refl
    | with_reducible assumption
    | with_reducible intro _
    | (with_reducible apply Touches.comp (State.sendCtrl_touches _ _ _ _); rotate_left; decide)
    | with_reducible apply Touches.foldl
    | with_reducible apply Touches.ite
    | split
    | dsimp only

theorem State.sendDone_touches (s : State) (ldi : Nat) :
    Touches [.shuttle, .time, .counters, .out] s (State.sendDone s ldi) := by
  unfold State.sendDone
  repeat' first
    | with_reducible apply Touches.refl
    | with_reducible assumption
    | with_reducible intro _
    | (with_reducible apply Touches.comp (State.sendCtrl_touches _ _ _ _); rotate_left; decide)
    | (with_reducible apply Touches.comp (State.setOffset_touches _ _ _); rotate_left; decide)
    | with_reducible apply Touches.ite
    | split
    | dsimp only

theorem State.refreshO_touches (s : State) (ldi : Nat) (force : Bool) :
    Touches [.shuttle, .time, .counters, .out] s (State.refreshO s ldi force) := by
  unfold State.refreshO
  repeat' first
    | with_reducible apply Touches.refl
    | with_reducible assumption
    | with_reducible intro _
    | (with_reducible apply Touches.comp (State.toChildren_touches _ _ _); rotate_left; decide)
    | (with_reducible apply Touches.comp (State.setOffset_touches _ _ _); rotate_left; decide)
    | (with_reducible apply Touches.comp (State.sendDone_touches _ _); rotate_left; decide)
    | with_reducible apply Touches.ite
    | split
    | dsimp only

theorem State.sendProbe_touches (s : State) (ldi : Nat) :
    Touches [.shuttle, .time, .counters, .out] s (State.sendProbe s ldi) := by
  unfold State.sendProbe
  repeat' first
    | with_reducible apply Touches.refl
    | with_reducible assumption
    | with_reducible intro _
    | (with_reducible apply Touches.comp (State.sendCtrl_touches _ _ _ _); rotate_left; decide)
    | (with_reducible apply Touches.comp (State.setOffset_touches _ _ _); rotate_left; decide)
    | with_reducible apply Touches.ite
    | split
    | dsimp only

theorem State.startOffset_touches (s : State) (ldi : Nat) :
    Touches [.shuttle, .time, .counters, .out] s (State.startOffset s ldi) := by
  unfold State.startOffset
  repeat' first
    | with_reducible apply Touches.refl
    | with_reducible assumption
    | with_reducible intro _
    | (with_reducible apply Touches.comp (State.toChildren_touches _ _ _); rotate_left; decide)
    | (with_reducible apply Touches.comp (State.setOffset_touches _ _ _); rotate_left; decide)
    | with_reducible apply Touches.ite
    | split
    | dsimp only

theorem State.takeEcho_touches (s : State) (ldi : Nat) (b : Bytes) (at_ : Time12) :
    Touches [.shuttle, .time, .counters, .out] s (State.takeEcho s ldi b at_) := by
  unfold State.takeEcho
  repeat' first
    | with_reducible apply Touches.refl
    | with_reducible assumption
    | with_reducible intro _
    | (with_reducible apply Touches.comp (State.setOffset_touches _ _ _); rotate_left; decide)
    | (with_reducible apply Touches.comp (State.refreshO_touches _ _ _); rotate_left; decide)
    | with_reducible apply Touches.ite
    | split
    | dsimp only

theorem State.takeOffsetDone_touches (s : State) (ldi : Nat) (value : ℤ) :
    Touches [.shuttle, .time, .counters, .out] s (State.takeOffsetDone s ldi value) := by
  unfold State.takeOffsetDone
  repeat' first
    | with_reducible apply Touches.refl
    | with_reducible assumption
    | with_reducible intro _
    | (with_reducible apply Touches.comp (State.sendCtrl_touches _ _ _ _); rotate_left; decide)
    | (with_reducible apply Touches.comp (State.setOffset_touches _ _ _); rotate_left; decide)
    | with_reducible apply Touches.ite
    | split
    | dsimp only

theorem State.takeOffset_touches (s : State) (peer : Nat) (ldi : Nat) (m : CtrlMsg) :
    Touches [.shuttle, .time, .counters, .out] s (State.takeOffset s peer ldi m) := by
  unfold State.takeOffset
  repeat' first
    | with_reducible apply Touches.refl
    | with_reducible assumption
    | with_reducible intro _
    | (with_reducible apply Touches.comp (State.takeOffsetDone_touches _ _ _); rotate_left; decide)
    | (with_reducible apply Touches.comp (State.sendCtrl_touches _ _ _ _); rotate_left; decide)
    | (with_reducible apply Touches.comp (State.setOffset_touches _ _ _); rotate_left; decide)
    | (with_reducible apply Touches.comp (State.startOffset_touches _ _); rotate_left; decide)
    | (with_reducible apply Touches.comp (State.refreshO_touches _ _ _); rotate_left; decide)
    | (with_reducible apply Touches.comp (State.takeEcho_touches _ _ _ _); rotate_left; decide)
    | with_reducible apply Touches.ite
    | split
    | dsimp only

theorem execOffset_touches (peer : Nat) (s : State) :
    OutTouches [.doms, .tallies, .fences, .quarantine, .weft, .shuttle, .batten, .spindle, .keys, .time, .loom, .log, .counters, .trace, .events, .bp, .link, .out] s (execOffset peer s) := by
  unfold execOffset
  repeat' first
    | with_reducible apply Touches.refl
    | with_reducible assumption
    | with_reducible intro _
    | with_reducible apply OutTouches.next
    | with_reducible apply OutTouches.nextIf
    | (with_reducible apply Touches.comp (State.takeOffset_touches _ _ _ _); rotate_left; decide)
    | (with_reducible apply Touches.comp (State.endSpent_touches _); rotate_left; decide)
    | (with_reducible apply State.onMsg_touches; decide)
    | with_reducible apply Touches.ite
    | with_reducible apply OutTouches.ite
    | split
    | dsimp only

theorem execOffsetProbeTimer_touches (ldi : Nat) (s : State) :
    OutTouches [.doms, .tallies, .fences, .quarantine, .weft, .shuttle, .batten, .spindle, .keys, .time, .loom, .log, .counters, .trace, .events, .bp, .link, .out] s (execOffsetProbeTimer ldi s) := by
  unfold execOffsetProbeTimer
  repeat' first
    | with_reducible apply Touches.refl
    | with_reducible assumption
    | with_reducible intro _
    | with_reducible apply OutTouches.next
    | with_reducible apply OutTouches.nextIf
    | (with_reducible apply Touches.comp (State.advanceTo_touches _ _); rotate_left; decide)
    | (with_reducible apply Touches.comp (State.endSpent_touches _); rotate_left; decide)
    | (with_reducible apply Touches.comp (State.sendProbe_touches _ _); rotate_left; decide)
    | with_reducible apply Touches.ite
    | with_reducible apply OutTouches.ite
    | split
    | dsimp only

theorem execOffsetPeriodicExchange_touches (ldi : Nat) (s : State) :
    OutTouches [.doms, .tallies, .fences, .quarantine, .weft, .shuttle, .batten, .spindle, .keys, .time, .loom, .log, .counters, .trace, .events, .bp, .link, .out] s (execOffsetPeriodicExchange ldi s) := by
  unfold execOffsetPeriodicExchange
  repeat' first
    | with_reducible apply Touches.refl
    | with_reducible assumption
    | with_reducible intro _
    | with_reducible apply OutTouches.next
    | with_reducible apply OutTouches.nextIf
    | (with_reducible apply Touches.comp (State.advanceTo_touches _ _); rotate_left; decide)
    | (with_reducible apply Touches.comp (State.endSpent_touches _); rotate_left; decide)
    | (with_reducible apply Touches.comp (State.setOffset_touches _ _ _); rotate_left; decide)
    | (with_reducible apply Touches.comp (State.sendProbe_touches _ _); rotate_left; decide)
    | with_reducible apply Touches.ite
    | with_reducible apply OutTouches.ite
    | split
    | dsimp only

theorem State.endMeasure_touches (s : State) (ldi : Nat) :
    ResTouches [.time] s (State.endMeasure s ldi) := by
  unfold State.endMeasure
  repeat' first
    | with_reducible apply Touches.refl
    | with_reducible assumption
    | with_reducible intro _
    | with_reducible apply ResTouches.fail
    | with_reducible apply ResTouches.refuse
    | with_reducible apply ResTouches.ok
    | with_reducible apply ResTouches.done
    | with_reducible apply ResTouches.wait
    | (with_reducible apply Touches.comp (State.setOffset_touches _ _ _); rotate_left; decide)
    | (with_reducible apply ResTouches.comp (Res.ok_touches _ _ _); rotate_left; decide)
    | with_reducible apply Touches.ite
    | with_reducible apply ResTouches.ite
    | split
    | dsimp only

theorem offsetMeasureBody_touches (s : State) (c : Cmd) :
    ResTouches [.shuttle, .time, .counters, .out] s (offsetMeasureBody s c) := by
  unfold offsetMeasureBody
  extract_lets l o s1 g s2
  refine ResTouches.ite (fun _ => ResTouches.fail _ _ _) (fun _ => ?_)
  refine ResTouches.ite (fun _ => ResTouches.fail _ _ _) (fun _ => ?_)
  have h1 : Touches [.shuttle, .time, .counters, .out] s s1 := (State.setOffset_touches _ _ _).mono (by decide)
  clear_value s1
  have h2 : Touches [.shuttle, .time, .counters, .out] s s2 :=
    (h1.andThen (State.toChildren_touches s1 l (offsetBody 0 0 g [] [] [] 0)) (by decide)).andThen
      (State.toChildren_touches _ l (offsetBody 3 0 g [] [] [] 0)) (by decide)
  clear_value s2
  exact ResTouches.ite (fun _ => ResTouches.comp (State.endMeasure_touches _ _) h2 (by decide))
    (fun _ => ResTouches.wait h2)

theorem timOffsetMeasureSpec_touches (t : State) (c : Cmd) :
    ResTouches [.doms, .tallies, .fences, .quarantine, .weft, .shuttle, .batten, .spindle, .keys, .time, .loom, .log, .counters, .trace, .events, .bp, .link, .out] t (timOffsetMeasureSpec.body t c) := by
  unfold timOffsetMeasureSpec
  dsimp only
  repeat' first
    | with_reducible apply Touches.refl
    | with_reducible assumption
    | intro _
    | with_reducible apply ResTouches.fail
    | with_reducible apply ResTouches.refuse
    | with_reducible apply ResTouches.ok
    | with_reducible apply ResTouches.done
    | with_reducible apply ResTouches.wait
    | (with_reducible apply ResTouches.comp (offsetMeasureBody_touches _ _); rotate_left; decide)
    | (with_reducible apply Touches.comp (endSpentAfter_touches _ _); rotate_left; decide)
    | with_reducible apply Touches.ite
    | with_reducible apply ResTouches.ite
    | split
    | dsimp only

theorem execTimOffsetMeasure_touches (src : Src) (s : State) :
    OutTouches [.doms, .tallies, .fences, .quarantine, .weft, .shuttle, .batten, .spindle, .keys, .spdm, .time, .loom, .log, .counters, .trace, .events, .bp, .mailbox, .link, .out] s (execTimOffsetMeasure src s) := by
  unfold execTimOffsetMeasure
  repeat' first
    | with_reducible apply Touches.refl
    | with_reducible assumption
    | with_reducible intro _
    | with_reducible apply OutTouches.next
    | with_reducible apply OutTouches.nextIf
    | (with_reducible apply State.runSrc_touches; rotate_left; decide)
    | ((with_reducible show Touches _ _ (CmdSpec.after _ _ _)); exact (State.endSpent_touches _).mono (by decide))
    | (with_reducible apply ResTouches.mono (timOffsetMeasureSpec_touches _ _); decide)
    | with_reducible apply Touches.ite
    | with_reducible apply OutTouches.ite
    | split
    | dsimp only

end Sys2Proof.Machine
end

