-- ==== Sys2Proof/Laws/Touches/Journal.lean ====
section
/-!
SUPPORT. What the operations of Machine/Journal.lean touch, one law for each.
-/
namespace Sys2Proof.Machine

set_option linter.unusedTactic false
set_option linter.unreachableTactic false

theorem Res.overtaken_touches {F : List Part} {s : State} {r : Res} (h : ResTouches F s r) : ResTouches F s r.overtaken := by
  cases r <;> exact h

/-- What the bodies of the block's commands touch. -/
theorem blockSpecs_touches : ∀ sp ∈ blockSpecs, ∀ (t : State) (c : Cmd), ResTouches [.doms, .tallies, .got, .contexts, .fences, .arrs, .quarantine, .weft, .shuttle, .batten, .spindle, .keys, .entropy, .spdm, .metering, .time, .loom, .log, .counters, .trace, .events, .bp, .otp, .dbg, .baro, .link, .free, .out] t (sp.body t c) := by
  unfold blockSpecs
  refine List.forall_mem_append.2 ⟨?_, ?_⟩
  · refine List.forall_mem_cons.2 ⟨fun t c => ResTouches.mono (domCreateSpec_touches t c) (by decide), ?_⟩
    refine List.forall_mem_cons.2 ⟨fun t c => ResTouches.mono (domSetPolicySpec_touches t c) (by decide), ?_⟩
    refine List.forall_mem_cons.2 ⟨fun t c => ResTouches.mono (domAddContextSpec_touches t c) (by decide), ?_⟩
    refine List.forall_mem_cons.2 ⟨fun t c => ResTouches.mono (domReleaseContextSpec_touches t c) (by decide), ?_⟩
    refine List.forall_mem_cons.2 ⟨fun t c => ResTouches.mono (domSealSpec_touches t c) (by decide), ?_⟩
    refine List.forall_mem_cons.2 ⟨fun t c => ResTouches.mono (domQuiesceSpec_touches t c) (by decide), ?_⟩
    refine List.forall_mem_cons.2 ⟨fun t c => ResTouches.mono (domAbortSpec_touches t c) (by decide), ?_⟩
    refine List.forall_mem_cons.2 ⟨fun t c => ResTouches.mono (domRetireSpec_touches t c) (by decide), ?_⟩
    refine List.forall_mem_cons.2 ⟨fun t c => ResTouches.mono (domQuerySpec_touches t c) (by decide), ?_⟩
    refine List.forall_mem_cons.2 ⟨fun t c => ResTouches.mono (memAssignSpec_touches t c) (by decide), ?_⟩
    refine List.forall_mem_cons.2 ⟨fun t c => ResTouches.mono (memReleaseSpec_touches t c) (by decide), ?_⟩
    refine List.forall_mem_cons.2 ⟨fun t c => ResTouches.mono (memScrubSpec_touches t c) (by decide), ?_⟩
    refine List.forall_mem_cons.2 ⟨fun t c => ResTouches.mono (memQuerySpec_touches t c) (by decide), ?_⟩
    refine List.forall_mem_cons.2 ⟨fun t c => ResTouches.mono (memImportBlobSpec_touches t c) (by decide), ?_⟩
    refine List.forall_mem_cons.2 ⟨fun t c => ResTouches.mono (memFingerprintSpec_touches t c) (by decide), ?_⟩
    refine List.forall_mem_cons.2 ⟨fun t c => ResTouches.mono (memDigestSpec_touches t c) (by decide), ?_⟩
    refine List.forall_mem_cons.2 ⟨fun t c => ResTouches.mono (cmpBindSliceSpec_touches t c) (by decide), ?_⟩
    refine List.forall_mem_cons.2 ⟨fun t c => ResTouches.mono (cmpUnbindSliceSpec_touches t c) (by decide), ?_⟩
    refine List.forall_mem_cons.2 ⟨fun t c => ResTouches.mono (cmpRebindPrepareSpec_touches t c) (by decide), ?_⟩
    refine List.forall_mem_cons.2 ⟨fun t c => ResTouches.mono (cmpRebindCommitSpec_touches t c) (by decide), ?_⟩
    refine List.forall_mem_cons.2 ⟨fun t c => ResTouches.mono (redWindowOpenSpec_touches t c) (by decide), ?_⟩
    refine List.forall_mem_cons.2 ⟨fun t c => ResTouches.mono (redWindowCloseSpec_touches t c) (by decide), ?_⟩
    refine List.forall_mem_cons.2 ⟨fun t c => ResTouches.mono (redWindowQuerySpec_touches t c) (by decide), ?_⟩
    refine List.forall_mem_cons.2 ⟨fun t c => ResTouches.mono (arrAllocSpec_touches t c) (by decide), ?_⟩
    refine List.forall_mem_cons.2 ⟨fun t c => ResTouches.mono (arrFreeSpec_touches t c) (by decide), ?_⟩
    refine List.forall_mem_cons.2 ⟨fun t c => ResTouches.mono (fenCreateSpec_touches t c) (by decide), ?_⟩
    refine List.forall_mem_cons.2 ⟨fun t c => ResTouches.mono (fenRegisterProducerSpec_touches t c) (by decide), ?_⟩
    refine List.forall_mem_cons.2 ⟨fun t c => ResTouches.mono (fenDestroySpec_touches t c) (by decide), ?_⟩
    exact List.forall_mem_nil _
  · refine List.forall_mem_cons.2 ⟨fun t c => ResTouches.mono (lnkPortClassSpec_touches t c) (by decide), ?_⟩
    refine List.forall_mem_cons.2 ⟨fun t c => ResTouches.mono (lnkSaWarmSpec_touches t c) (by decide), ?_⟩
    refine List.forall_mem_cons.2 ⟨fun t c => ResTouches.mono (lnkSaQuerySpec_touches t c) (by decide), ?_⟩
    refine List.forall_mem_cons.2 ⟨fun t c => ResTouches.mono (lnkGroupCreateSpec_touches t c) (by decide), ?_⟩
    refine List.forall_mem_cons.2 ⟨fun t c => ResTouches.mono (keyEphemeralGetSpec_touches t c) (by decide), ?_⟩
    refine List.forall_mem_cons.2 ⟨fun t c => ResTouches.mono (keyWeightInstallSpec_touches t c) (by decide), ?_⟩
    refine List.forall_mem_cons.2 ⟨fun t c => ResTouches.mono (keyWeightDropSpec_touches t c) (by decide), ?_⟩
    refine List.forall_mem_cons.2 ⟨fun t c => ResTouches.mono (attReportSpec_touches t c) (by decide), ?_⟩
    refine List.forall_mem_cons.2 ⟨fun t c => ResTouches.mono (mtrReadSpec_touches t c) (by decide), ?_⟩
    refine List.forall_mem_cons.2 ⟨fun t c => ResTouches.mono (mtrAckSpec_touches t c) (by decide), ?_⟩
    refine List.forall_mem_cons.2 ⟨fun t c => ResTouches.mono (timStatusSpec_touches t c) (by decide), ?_⟩
    refine List.forall_mem_cons.2 ⟨fun t c => ResTouches.mono (timSetServoSpec_touches t c) (by decide), ?_⟩
    refine List.forall_mem_cons.2 ⟨fun t c => ResTouches.mono (timOffsetMeasureSpec_touches t c) (by decide), ?_⟩
    refine List.forall_mem_cons.2 ⟨fun t c => ResTouches.mono (dbgCertPresentSpec_touches t c) (by decide), ?_⟩
    refine List.forall_mem_cons.2 ⟨fun t c => ResTouches.mono (dbgRevokeSpec_touches t c) (by decide), ?_⟩
    refine List.forall_mem_cons.2 ⟨fun t c => ResTouches.mono (dbgHaltSpec_touches t c) (by decide), ?_⟩
    refine List.forall_mem_cons.2 ⟨fun t c => ResTouches.mono (dbgResumeSpec_touches t c) (by decide), ?_⟩
    refine List.forall_mem_cons.2 ⟨fun t c => ResTouches.mono (prfFreezeAtSpec_touches t c) (by decide), ?_⟩
    refine List.forall_mem_cons.2 ⟨fun t c => ResTouches.mono (prfReadSpec_touches t c) (by decide), ?_⟩
    refine List.forall_mem_cons.2 ⟨fun t c => ResTouches.mono (trcConfigSpec_touches t c) (by decide), ?_⟩
    refine List.forall_mem_cons.2 ⟨fun t c => ResTouches.mono (trcMarkSpec_touches t c) (by decide), ?_⟩
    refine List.forall_mem_cons.2 ⟨fun t c => ResTouches.mono (trcReadSpec_touches t c) (by decide), ?_⟩
    refine List.forall_mem_cons.2 ⟨fun t c => ResTouches.mono (lcsQuerySpec_touches t c) (by decide), ?_⟩
    refine List.forall_mem_cons.2 ⟨fun t c => ResTouches.mono (lcsTransitionSpec_touches t c) (by decide), ?_⟩
    refine List.forall_mem_cons.2 ⟨fun t c => ResTouches.mono (lcsTokenUnlockSpec_touches t c) (by decide), ?_⟩
    refine List.forall_mem_cons.2 ⟨fun t c => ResTouches.mono (lcsZeroizeSpec_touches t c) (by decide), ?_⟩
    refine List.forall_mem_cons.2 ⟨fun t c => ResTouches.mono (migFreezeSpec_touches t c) (by decide), ?_⟩
    refine List.forall_mem_cons.2 ⟨fun t c => ResTouches.mono (migExportSpec_touches t c) (by decide), ?_⟩
    refine List.forall_mem_cons.2 ⟨fun t c => ResTouches.mono (migImportSpec_touches t c) (by decide), ?_⟩
    refine List.forall_mem_cons.2 ⟨fun t c => ResTouches.mono (migThawSpec_touches t c) (by decide), ?_⟩
    refine List.forall_mem_cons.2 ⟨fun t c => ResTouches.mono (spnStreamOpenSpec_touches t c) (by decide), ?_⟩
    refine List.forall_mem_cons.2 ⟨fun t c => ResTouches.mono (spnStreamCloseSpec_touches t c) (by decide), ?_⟩
    refine List.forall_mem_cons.2 ⟨fun t c => ResTouches.mono (snsStatusSpec_touches t c) (by decide), ?_⟩
    refine List.forall_mem_cons.2 ⟨fun t c => ResTouches.mono (snsCalWindowSpec_touches t c) (by decide), ?_⟩
    refine List.forall_mem_cons.2 ⟨fun t c => ResTouches.mono (rcvLogReadSpec_touches t c) (by decide), ?_⟩
    refine List.forall_mem_cons.2 ⟨fun t c => ResTouches.mono (rcvLogClearSpec_touches t c) (by decide), ?_⟩
    refine List.forall_mem_cons.2 ⟨fun t c => ResTouches.mono (rcvDumpReadSpec_touches t c) (by decide), ?_⟩
    exact List.forall_mem_nil _

/-- What the bodies of all commands touch. -/
theorem commandSpecs_touches : ∀ sp ∈ commandSpecs, ∀ (t : State) (c : Cmd), ResTouches [.doms, .tallies, .got, .contexts, .fences, .arrs, .quarantine, .weft, .shuttle, .batten, .spindle, .keys, .entropy, .spdm, .metering, .time, .loom, .log, .counters, .trace, .events, .bp, .otp, .dbg, .baro, .link, .free, .out] t (sp.body t c) :=
  List.forall_mem_cons.2 ⟨fun t c => ResTouches.mono (attSessionOpenSpec_touches t c) (by decide), blockSpecs_touches⟩

/-- What follows the replies of all commands touches. -/
theorem blockSpecs_after : ∀ sp ∈ blockSpecs, ∀ (c : Cmd) (t : State), Touches [.doms, .tallies, .got, .contexts, .fences, .arrs, .quarantine, .weft, .shuttle, .batten, .spindle, .keys, .entropy, .spdm, .metering, .time, .loom, .log, .counters, .trace, .events, .bp, .otp, .dbg, .baro, .link, .free, .out] t (sp.after c t) := by
  unfold blockSpecs
  refine List.forall_mem_append.2 ⟨?_, ?_⟩
  · refine List.forall_mem_cons.2 ⟨fun c t => Touches.refl _ _, ?_⟩
    refine List.forall_mem_cons.2 ⟨fun c t => Touches.refl _ _, ?_⟩
    refine List.forall_mem_cons.2 ⟨fun c t => Touches.refl _ _, ?_⟩
    refine List.forall_mem_cons.2 ⟨fun c t => Touches.refl _ _, ?_⟩
    refine List.forall_mem_cons.2 ⟨fun c t => (State.endSpent_touches _).mono (by decide), ?_⟩
    refine List.forall_mem_cons.2 ⟨fun c t => Touches.refl _ _, ?_⟩
    refine List.forall_mem_cons.2 ⟨fun c t => (State.endSpent_touches _).mono (by decide), ?_⟩
    refine List.forall_mem_cons.2 ⟨fun c t => Touches.refl _ _, ?_⟩
    refine List.forall_mem_cons.2 ⟨fun c t => Touches.refl _ _, ?_⟩
    refine List.forall_mem_cons.2 ⟨fun c t => Touches.refl _ _, ?_⟩
    refine List.forall_mem_cons.2 ⟨fun c t => Touches.refl _ _, ?_⟩
    refine List.forall_mem_cons.2 ⟨fun c t => (State.endSpent_touches _).mono (by decide), ?_⟩
    refine List.forall_mem_cons.2 ⟨fun c t => Touches.refl _ _, ?_⟩
    refine List.forall_mem_cons.2 ⟨fun c t => Touches.refl _ _, ?_⟩
    refine List.forall_mem_cons.2 ⟨fun c t => (State.endSpent_touches _).mono (by decide), ?_⟩
    refine List.forall_mem_cons.2 ⟨fun c t => (State.endSpent_touches _).mono (by decide), ?_⟩
    refine List.forall_mem_cons.2 ⟨fun c t => Touches.refl _ _, ?_⟩
    refine List.forall_mem_cons.2 ⟨fun c t => Touches.refl _ _, ?_⟩
    refine List.forall_mem_cons.2 ⟨fun c t => Touches.refl _ _, ?_⟩
    refine List.forall_mem_cons.2 ⟨fun c t => Touches.refl _ _, ?_⟩
    refine List.forall_mem_cons.2 ⟨fun c t => Touches.refl _ _, ?_⟩
    refine List.forall_mem_cons.2 ⟨fun c t => Touches.refl _ _, ?_⟩
    refine List.forall_mem_cons.2 ⟨fun c t => Touches.refl _ _, ?_⟩
    refine List.forall_mem_cons.2 ⟨fun c t => Touches.refl _ _, ?_⟩
    refine List.forall_mem_cons.2 ⟨fun c t => Touches.refl _ _, ?_⟩
    refine List.forall_mem_cons.2 ⟨fun c t => Touches.refl _ _, ?_⟩
    refine List.forall_mem_cons.2 ⟨fun c t => Touches.refl _ _, ?_⟩
    refine List.forall_mem_cons.2 ⟨fun c t => Touches.refl _ _, ?_⟩
    exact List.forall_mem_nil _
  · refine List.forall_mem_cons.2 ⟨fun c t => Touches.refl _ _, ?_⟩
    refine List.forall_mem_cons.2 ⟨fun c t => Touches.refl _ _, ?_⟩
    refine List.forall_mem_cons.2 ⟨fun c t => Touches.refl _ _, ?_⟩
    refine List.forall_mem_cons.2 ⟨fun c t => (State.endSpent_touches _).mono (by decide), ?_⟩
    refine List.forall_mem_cons.2 ⟨fun c t => Touches.refl _ _, ?_⟩
    refine List.forall_mem_cons.2 ⟨fun c t => Touches.refl _ _, ?_⟩
    refine List.forall_mem_cons.2 ⟨fun c t => Touches.refl _ _, ?_⟩
    refine List.forall_mem_cons.2 ⟨fun c t => Touches.refl _ _, ?_⟩
    refine List.forall_mem_cons.2 ⟨fun c t => Touches.refl _ _, ?_⟩
    refine List.forall_mem_cons.2 ⟨fun c t => Touches.refl _ _, ?_⟩
    refine List.forall_mem_cons.2 ⟨fun c t => Touches.refl _ _, ?_⟩
    refine List.forall_mem_cons.2 ⟨fun c t => Touches.refl _ _, ?_⟩
    refine List.forall_mem_cons.2 ⟨fun c t => (State.endSpent_touches _).mono (by decide), ?_⟩
    refine List.forall_mem_cons.2 ⟨fun c t => (State.endSpent_touches _).mono (by decide), ?_⟩
    refine List.forall_mem_cons.2 ⟨fun c t => (State.endSpent_touches _).mono (by decide), ?_⟩
    refine List.forall_mem_cons.2 ⟨fun c t => Touches.refl _ _, ?_⟩
    refine List.forall_mem_cons.2 ⟨fun c t => (State.endSpent_touches _).mono (by decide), ?_⟩
    refine List.forall_mem_cons.2 ⟨fun c t => (sendFreeze_touches _ _).mono (by decide), ?_⟩
    refine List.forall_mem_cons.2 ⟨fun c t => Touches.refl _ _, ?_⟩
    refine List.forall_mem_cons.2 ⟨fun c t => Touches.refl _ _, ?_⟩
    refine List.forall_mem_cons.2 ⟨fun c t => Touches.refl _ _, ?_⟩
    refine List.forall_mem_cons.2 ⟨fun c t => Touches.refl _ _, ?_⟩
    refine List.forall_mem_cons.2 ⟨fun c t => Touches.refl _ _, ?_⟩
    refine List.forall_mem_cons.2 ⟨fun c t => (State.endSpent_touches _).mono (by decide), ?_⟩
    refine List.forall_mem_cons.2 ⟨fun c t => (State.endSpent_touches _).mono (by decide), ?_⟩
    refine List.forall_mem_cons.2 ⟨fun c t => (State.endSpent_touches _).mono (by decide), ?_⟩
    refine List.forall_mem_cons.2 ⟨fun c t => Touches.refl _ _, ?_⟩
    refine List.forall_mem_cons.2 ⟨fun c t => Touches.refl _ _, ?_⟩
    refine List.forall_mem_cons.2 ⟨fun c t => Touches.refl _ _, ?_⟩
    refine List.forall_mem_cons.2 ⟨fun c t => Touches.refl _ _, ?_⟩
    refine List.forall_mem_cons.2 ⟨fun c t => Touches.refl _ _, ?_⟩
    refine List.forall_mem_cons.2 ⟨fun c t => Touches.refl _ _, ?_⟩
    refine List.forall_mem_cons.2 ⟨fun c t => Touches.refl _ _, ?_⟩
    refine List.forall_mem_cons.2 ⟨fun c t => Touches.refl _ _, ?_⟩
    refine List.forall_mem_cons.2 ⟨fun c t => Touches.refl _ _, ?_⟩
    refine List.forall_mem_cons.2 ⟨fun c t => Touches.refl _ _, ?_⟩
    refine List.forall_mem_cons.2 ⟨fun c t => Touches.refl _ _, ?_⟩
    exact List.forall_mem_nil _

theorem commandSpecs_after : ∀ sp ∈ commandSpecs, ∀ (c : Cmd) (t : State), Touches [.doms, .tallies, .got, .contexts, .fences, .arrs, .quarantine, .weft, .shuttle, .batten, .spindle, .keys, .entropy, .spdm, .metering, .time, .loom, .log, .counters, .trace, .events, .bp, .otp, .dbg, .baro, .link, .free, .out] t (sp.after c t) :=
  List.forall_mem_cons.2 ⟨fun c t => (endSpentAfter_touches c t).mono (by decide), blockSpecs_after⟩

theorem State.resume_touches (s : State) (e : JEntry) (sup : Supply) :
    ResTouches [.doms, .tallies, .got, .contexts, .fences, .arrs, .quarantine, .weft, .shuttle, .batten, .spindle, .keys, .entropy, .spdm, .metering, .time, .loom, .log, .counters, .trace, .events, .bp, .link, .out] s (State.resume s e sup) := by
  unfold State.resume
  repeat' first
    | with_reducible apply Touches.refl
    | with_reducible assumption
    | with_reducible exact Nat.le_refl _
    | with_reducible exact Nat.le_succ _
    | with_reducible intro _
    | with_reducible apply ResTouches.fail
    | with_reducible apply ResTouches.refuse
    | with_reducible apply ResTouches.ok
    | with_reducible apply ResTouches.done
    | with_reducible apply ResTouches.wait
    | (with_reducible apply ResTouches.comp (State.closeRebind_touches _ _ _ _); rotate_left; decide)
    | (with_reducible apply ResTouches.comp (State.stepFreezePolicy_touches _ _ _ _); rotate_left; decide)
    | (with_reducible apply ResTouches.comp (State.stepImport_touches _ _ _ _ _ _ _ _); rotate_left; decide)
    | (with_reducible apply ResTouches.comp (State.stepExport_touches _ _ _ _ _ _ _ _); rotate_left; decide)
    | (with_reducible apply ResTouches.comp (State.stepZeroing_touches _ _ _ _ _ _); rotate_left; decide)
    | (with_reducible apply Touches.comp (State.finishRelease_touches _ _ _); rotate_left; decide)
    | (with_reducible apply Touches.comp (Touches.of_eq' (by assumption) (State.finishRelease_touches _ _ _)); rotate_left; decide)
    | (with_reducible apply Touches.comp (State.retirePublish_touches _ _); rotate_left; decide)
    | (with_reducible apply Touches.comp (Touches.of_eq (by assumption) (State.retirePublish_touches _ _)); rotate_left; decide)
    | (with_reducible apply Touches.comp (State.finishRetire_touches _ _); rotate_left; decide)
    | (with_reducible apply ResTouches.comp (State.stepMigImport_touches _ _ _ _ _ _ _); rotate_left; decide)
    | (with_reducible apply ResTouches.comp (State.stepExportWrite_touches _ _ _ _ _); rotate_left; decide)
    | (with_reducible apply ResTouches.comp (State.stepAssign_touches _ _ _ _ _ _); rotate_left; decide)
    | (with_reducible apply ResTouches.comp (Res.ok_touches _ _ _); rotate_left; decide)
    | (with_reducible apply ResTouches.comp (State.stepFreezeDrain_touches _ _ _ _ _); rotate_left; decide)
    | (with_reducible apply ResTouches.comp (State.endMeasure_touches _ _); rotate_left; decide)
    | (with_reducible apply Touches.comp (State.endJob_touches _ _); rotate_left; decide)
    | (with_reducible apply ResTouches.comp (State.stepScan_touches _ _); rotate_left; decide)
    | with_reducible apply Touches.ite
    | with_reducible apply ResTouches.ite
    | split
    | dsimp only

theorem State.resumeAborted_touches (s : State) (e : JEntry) (sup : Supply) :
    ResTouches [.doms, .tallies, .got, .contexts, .fences, .arrs, .quarantine, .weft, .shuttle, .batten, .spindle, .keys, .entropy, .spdm, .metering, .time, .loom, .log, .counters, .trace, .events, .bp, .link, .out] s (State.resumeAborted s e sup) := by
  unfold State.resumeAborted
  repeat' first
    | with_reducible apply Touches.refl
    | with_reducible assumption
    | with_reducible exact Nat.le_refl _
    | with_reducible exact Nat.le_succ _
    | with_reducible intro _
    | (with_reducible apply Res.overtaken_touches)
    | with_reducible apply ResTouches.fail
    | with_reducible apply ResTouches.refuse
    | with_reducible apply ResTouches.ok
    | with_reducible apply ResTouches.done
    | with_reducible apply ResTouches.wait
    | (with_reducible apply Touches.comp (State.closeMap_touches _ _); rotate_left; decide)
    | (with_reducible apply Touches.comp (State.setOffset_touches _ _ _); rotate_left; decide)
    | (with_reducible apply ResTouches.comp (State.resume_touches _ _ _); rotate_left; decide)
    | (with_reducible apply Touches.comp (State.finishRelease_touches _ _ _); rotate_left; decide)
    | (with_reducible apply Touches.comp (Touches.of_eq' (by assumption) (State.finishRelease_touches _ _ _)); rotate_left; decide)
    | (with_reducible apply Touches.comp (State.clearSlot_touches _ _); rotate_left; decide)
    | (with_reducible apply Touches.comp (State.dropGroup_touches _ _ _ _); rotate_left; decide)
    | with_reducible apply OptTouches.getD
    | with_reducible apply Touches.ite
    | with_reducible apply ResTouches.ite
    | split
    | dsimp only

theorem State.settleEntry_touches {F : List Part} {s0 s : State} {e : JEntry} {r : Res} (h : Touches F s0 s)
    (sub : ∀ p ∈ ([.doms, .tallies, .fences, .quarantine, .weft, .shuttle, .batten, .spindle, .keys, .spdm, .loom, .log, .counters, .trace, .events, .bp, .mailbox, .link, .out] : List Part), p ∈ F) (hr : ResTouches F s0 r) : Touches F s0 (State.settleEntry s e r) := by
  have hd : ∀ u r, Touches F s0 u → Touches F s0 ((State.commit u e r).endSpent.drainTurns) := fun u r k =>
    ((k.andThen (State.commit_touches u e r) (fun p q => sub p (by revert q; revert p; decide))).andThen
      (State.endSpent_touches _) (fun p q => sub p (by revert q; revert p; decide))).andThen
      (State.drainTurns_touches _) (fun p q => sub p (by revert q; revert p; decide))
  unfold State.settleEntry
  cases r with
  | fail st => exact hd _ _ h
  | refuse r => exact hd _ _ h
  | done r t => exact hd _ _ hr
  | wait w k t =>
    exact (Touches.andThen hr (State.suspend_touches _ _ _ _) (fun p q => sub p (by revert q; revert p; decide))).andThen
      (State.endSpent_touches _) (fun p q => sub p (by revert q; revert p; decide))

theorem State.resumeEntry_touches (s : State) (e : JEntry) (sup : Supply) :
    Touches [.doms, .tallies, .got, .contexts, .fences, .arrs, .quarantine, .weft, .shuttle, .batten, .spindle, .keys, .entropy, .spdm, .metering, .time, .loom, .log, .counters, .trace, .events, .bp, .mailbox, .otp, .dbg, .link, .out] s (State.resumeEntry s e sup) := by
  unfold State.resumeEntry
  repeat' first
    | with_reducible apply Touches.refl
    | with_reducible assumption
    | (exact BitVec.and_self)
    | (exact Otp.program_keeps _ _ _)
    | with_reducible exact Nat.le_refl _
    | with_reducible exact Nat.le_succ _
    | with_reducible intro _
    | (with_reducible apply State.settleEntry_touches; rotate_left; decide)
    | (with_reducible apply Touches.comp (State.endTransition_touches _ _ _ _); rotate_left; decide)
    | (with_reducible apply ResTouches.comp (State.resume_touches _ _ _); rotate_left; decide)
    | (with_reducible apply ResTouches.comp (State.resumeAborted_touches _ _ _); rotate_left; decide)
    | (with_reducible apply State.settleEntry_touches; rotate_left; decide)
    | with_reducible apply Touches.ite
    | split
    | dsimp only

theorem execJournalStepResume_touches (jid : Nat) (sup : Supply) (s : State) :
    OutTouches [.doms, .tallies, .got, .contexts, .fences, .arrs, .quarantine, .weft, .shuttle, .batten, .spindle, .keys, .entropy, .spdm, .metering, .time, .loom, .log, .counters, .trace, .events, .bp, .mailbox, .otp, .dbg, .link, .out] s (execJournalStepResume jid sup s) := by
  unfold execJournalStepResume
  repeat' first
    | with_reducible apply Touches.refl
    | with_reducible assumption
    | (exact BitVec.and_self)
    | (exact Otp.program_keeps _ _ _)
    | with_reducible exact Nat.le_refl _
    | with_reducible exact Nat.le_succ _
    | with_reducible intro _
    | with_reducible apply OutTouches.next
    | with_reducible apply OutTouches.nextIf
    | (with_reducible apply Touches.comp (State.resumeEntry_touches _ _ _); rotate_left; decide)
    | (with_reducible apply Touches.comp (State.settle_touches _); rotate_left; decide)
    | with_reducible apply Touches.ite
    | with_reducible apply OutTouches.ite
    | split
    | dsimp only

theorem State.runPeer_touches (s : State) (peer : Nat) (body : Bytes) :
    Touches [.doms, .tallies, .got, .contexts, .fences, .arrs, .quarantine, .weft, .shuttle, .batten, .spindle, .keys, .entropy, .spdm, .metering, .time, .loom, .log, .counters, .trace, .events, .bp, .mailbox, .otp, .dbg, .baro, .link, .free, .out] s (State.runPeer s peer body) := by
  unfold State.runPeer
  dsimp only
  split
  · rename_i sp e
    exact State.runCommand_touches ((State.traceCmd_touches _ _ _ _ _).mono (by decide)) (by decide)
      (fun t c => (commandSpecs_touches sp (List.mem_of_find?_eq_some e) t c).mono (by decide))
      (fun c t => (commandSpecs_after sp (List.mem_of_find?_eq_some e) c t).mono (by decide))
  · refine State.inSequence_touches
      (Touches.comp (State.settle_touches _) ((State.traceCmd_touches _ _ _ _ _).mono (by decide)) (by decide)) (by decide) (fun t ht => ?_)
    exact Touches.comp (State.reply_touches _ _ _ _ _) ht (by decide)

theorem execPeerCmd_touches (peer : Nat) (s : State) :
    OutTouches [.doms, .tallies, .got, .contexts, .fences, .arrs, .quarantine, .weft, .shuttle, .batten, .spindle, .keys, .entropy, .spdm, .metering, .time, .loom, .log, .counters, .trace, .events, .bp, .mailbox, .otp, .dbg, .baro, .link, .free, .out] s (execPeerCmd peer s) := by
  unfold execPeerCmd
  repeat' first
    | with_reducible apply Touches.refl
    | with_reducible assumption
    | (exact BitVec.and_self)
    | (exact Otp.program_keeps _ _ _)
    | with_reducible exact Nat.le_refl _
    | with_reducible exact Nat.le_succ _
    | with_reducible intro _
    | with_reducible apply OutTouches.next
    | with_reducible apply OutTouches.nextIf
    | (with_reducible apply Touches.comp (State.endSpent_touches _); rotate_left; decide)
    | (with_reducible apply State.onMsg_touches; decide)
    | (with_reducible apply Touches.comp (State.runPeer_touches _ _ _); rotate_left; decide)
    | (with_reducible apply Touches.comp (State.countDropped_touches _); rotate_left; decide)
    | (with_reducible apply Touches.comp (State.drainTurns_touches _); rotate_left; decide)
    | (with_reducible apply Touches.comp (State.tookTurn_touches _ _); rotate_left; decide)
    | with_reducible apply Touches.ite
    | with_reducible apply OutTouches.ite
    | split
    | dsimp only

theorem execPeerReply_touches (peer : Nat) (s : State) :
    OutTouches [.shuttle] s (execPeerReply peer s) := by
  unfold execPeerReply
  repeat' first
    | with_reducible apply Touches.refl
    | with_reducible assumption
    | with_reducible intro _
    | with_reducible apply OutTouches.next
    | with_reducible apply OutTouches.nextIf
    | (with_reducible apply State.onMsg_touches; decide)
    | with_reducible apply Touches.ite
    | with_reducible apply OutTouches.ite
    | split
    | dsimp only

theorem State.tapSelect_touches (s : State) (code : BitVec 5) :
    Touches [.dbg, .free, .out] s (State.tapSelect s code) := by
  unfold State.tapSelect
  repeat' first
    | with_reducible apply Touches.refl
    | with_reducible assumption
    | with_reducible intro _
    | (with_reducible apply Touches.comp (State.emit_touches _ _); rotate_left; decide)
    | with_reducible apply Touches.ite
    | split
    | ((with_reducible apply Touches.set_dbg_free); rotate_left; decide; decide)
    | dsimp only

theorem State.tapProgram_touches (s : State) (addr : Nat) (bits : BitVec 32) :
    Touches [.otp, .out] s (State.tapProgram s addr bits) := by
  unfold State.tapProgram
  repeat' first
    | with_reducible apply Touches.refl
    | with_reducible assumption
    | (exact BitVec.and_self)
    | (exact Otp.program_keeps _ _ _)
    | with_reducible intro _
    | (with_reducible apply Touches.comp (State.otpJob_touches _ _); rotate_left; decide)
    | with_reducible apply Touches.ite
    | split
    | dsimp only

theorem State.dbgWrite_touches (s : State) (w : RegWrite) :
    Touches [.tallies, .fences, .shuttle, .keys, .entropy, .spdm, .metering, .time, .loom, .log, .counters, .trace, .events, .mailbox, .power, .boot, .out] s (State.dbgWrite s w) := by
  unfold State.dbgWrite
  repeat' first
    | with_reducible apply Touches.refl
    | with_reducible assumption
    | with_reducible exact Nat.le_refl _
    | with_reducible exact Nat.le_succ _
    | with_reducible intro _
    | (with_reducible apply Touches.comp (State.tailWrite_touches _ _ _); rotate_left; decide)
    | (with_reducible apply Touches.comp (State.clockWrite_touches _ _); rotate_left; decide)
    | (with_reducible apply Touches.comp (State.evStatusWrite_touches _ _); rotate_left; decide)
    | (with_reducible apply Touches.comp (State.snapWrite_touches _ _); rotate_left; decide)
    | (with_reducible apply Touches.comp (State.coreRegWrite_touches _ _ _); rotate_left; decide)
    | (with_reducible apply Touches.comp (State.otherWrite_touches _ _); rotate_left; decide)
    | (with_reducible apply Touches.comp (State.evMapWrite_touches _ _ _ _); rotate_left; decide)
    | (with_reducible apply Touches.comp (State.devidWrite_touches _ _); rotate_left; decide)
    | (with_reducible apply Touches.comp (State.evEnableWrite_touches _ _); rotate_left; decide)
    | (with_reducible apply Touches.comp (State.evtWrite_touches _ _ _); rotate_left; decide)
    | (with_reducible apply Touches.comp (State.tryRoot_touches _); rotate_left; decide)
    | with_reducible apply Touches.ite
    | split
    | dsimp only

theorem State.dbgRead_touches (s : State) (addr : Nat) :
    Touches [.loom, .counters, .free] s (State.dbgRead s addr).2 := by
  unfold State.dbgRead
  repeat' first
    | with_reducible apply Touches.refl
    | with_reducible assumption
    | with_reducible intro _
    | (with_reducible apply Touches.comp (State.regRead_touches _ _); rotate_left; decide)
    | (with_reducible apply Touches.comp (Touches.of_eq (by assumption) (State.regRead_touches _ _)); rotate_left; decide)
    | with_reducible apply Touches.ite
    | split
    | dsimp only

theorem State.dbgDone_touches (s : State) (v : BitVec 64) :
    Touches [.dbg, .out] s (State.dbgDone s v) := by
  unfold State.dbgDone
  repeat' first
    | with_reducible apply Touches.refl
    | with_reducible assumption
    | with_reducible intro _
    | (with_reducible apply Touches.comp (State.emit_touches _ _); rotate_left; decide)
    | with_reducible apply Touches.ite
    | split
    | ((with_reducible apply Touches.set_dbg); rotate_left; decide)
    | dsimp only

theorem State.tapAccess_touches (s : State) (dr : BitVec 96) :
    Touches [.tallies, .fences, .shuttle, .keys, .entropy, .spdm, .metering, .time, .loom, .log, .counters, .trace, .events, .mailbox, .power, .boot, .dbg, .free, .out] s (State.tapAccess s dr) := by
  unfold State.tapAccess
  repeat' first
    | with_reducible apply Touches.refl
    | with_reducible assumption
    | with_reducible exact Nat.le_refl _
    | with_reducible exact Nat.le_succ _
    | with_reducible intro _
    | (with_reducible apply Touches.comp (State.dbgWrite_touches _ _); rotate_left; decide)
    | (with_reducible apply Touches.comp (State.dbgRead_touches _ _); rotate_left; decide)
    | (with_reducible apply Touches.comp (Touches.of_eq (by assumption) (State.dbgRead_touches _ _)); rotate_left; decide)
    | (with_reducible apply Touches.comp (State.dbgDone_touches _ _); rotate_left; decide)
    | with_reducible apply Touches.ite
    | split
    | ((with_reducible apply Touches.set_dbg); rotate_left; decide)
    | dsimp only

theorem execDbgAccess_touches (op : TapOp) (s : State) :
    OutTouches [.tallies, .fences, .shuttle, .keys, .entropy, .spdm, .metering, .time, .loom, .log, .counters, .trace, .events, .mailbox, .otp, .power, .boot, .dbg, .free, .out] s (execDbgAccess op s) := by
  unfold execDbgAccess
  repeat' first
    | with_reducible apply Touches.refl
    | with_reducible assumption
    | (exact BitVec.and_self)
    | (exact Otp.program_keeps _ _ _)
    | with_reducible exact Nat.le_refl _
    | with_reducible exact Nat.le_succ _
    | with_reducible intro _
    | with_reducible apply OutTouches.next
    | with_reducible apply OutTouches.nextIf
    | (with_reducible apply Touches.comp (State.tapAccess_touches _ _); rotate_left; decide)
    | (with_reducible apply Touches.comp (State.tapSelect_touches _ _); rotate_left; decide)
    | (with_reducible apply Touches.comp (State.tapProgram_touches _ _ _); rotate_left; decide)
    | with_reducible apply Touches.ite
    | with_reducible apply OutTouches.ite
    | split
    | ((with_reducible apply Touches.set_dbg); rotate_left; decide)
    | dsimp only

theorem execTapReset_touches (s : State) :
    OutTouches [.dbg] s (execTapReset s) := by
  unfold execTapReset
  repeat' first
    | with_reducible apply Touches.refl
    | with_reducible assumption
    | with_reducible intro _
    | with_reducible apply OutTouches.next
    | with_reducible apply OutTouches.nextIf
    | with_reducible apply Touches.ite
    | with_reducible apply OutTouches.ite
    | split
    | ((with_reducible apply Touches.set_dbg); rotate_left; decide)
    | dsimp only

end Sys2Proof.Machine
end

