-- ==== Sys2Proof/Laws/Touches/Reset.lean ====
section
/-!
SUPPORT. What the operations of Machine/Reset.lean touch, one law for each.
-/
namespace Sys2Proof.Machine

set_option linter.unusedTactic false
set_option linter.unreachableTactic false

theorem execCkRootLost_touches (s : State) :
    OutTouches [.power] s (execCkRootLost s) := by
  unfold execCkRootLost
  repeat' first
    | with_reducible apply Touches.refl
    | with_reducible assumption
    | with_reducible intro _
    | with_reducible apply OutTouches.next
    | with_reducible apply OutTouches.nextIf
    | with_reducible apply Touches.ite
    | with_reducible apply OutTouches.ite
    | split
    | ((with_reducible apply Touches.set_power); rotate_left; decide)
    | dsimp only

theorem execCkRootReturn_touches (s : State) :
    OutTouches [.keys, .entropy, .metering, .loom, .log, .counters, .trace, .otp, .power, .boot, .out] s (execCkRootReturn s) := by
  unfold execCkRootReturn
  repeat' first
    | with_reducible apply Touches.refl
    | with_reducible assumption
    | (exact BitVec.and_self)
    | (exact Otp.program_keeps _ _ _)
    | with_reducible exact Nat.le_refl _
    | with_reducible exact Nat.le_succ _
    | with_reducible intro _
    | with_reducible apply OutTouches.next
    | with_reducible apply OutTouches.nextIf
    | (with_reducible apply Touches.comp (State.beginReset_touches _ _ _ _); rotate_left; decide)
    | (with_reducible apply Touches.comp (State.record_touches _ _ _); rotate_left; decide)
    | (with_reducible apply Touches.comp (State.startIfDue_touches _); rotate_left; decide)
    | (with_reducible apply Touches.comp (State.otpPump_touches _); rotate_left; decide)
    | with_reducible apply Touches.ite
    | with_reducible apply OutTouches.ite
    | split
    | ((with_reducible apply Touches.set_power); rotate_left; decide)
    | dsimp only

theorem State.porState_touches (s : State) : Touches [.doms, .tallies, .got, .contexts, .fences, .arrs, .quarantine, .weft, .shuttle, .batten, .spindle, .keys, .entropy, .spdm, .metering, .time, .loom, .log, .counters, .trace, .events, .bp, .mailbox, .otp, .power, .boot, .dbg, .baro, .link, .free, .out] s (State.porState s) := by
  have h : ∀ a, s.otp.words.findD a 0 &&& s.cutPulse.1.words.findD a 0 = s.otp.words.findD a 0 := by
    intro a
    unfold State.cutPulse
    split
    · exact BitVec.and_self
    · split <;> exact Otp.program_keeps _ _ _
  unfold State.porState
  constructor
  case tables =>
    exact ⟨Or.inl (by decide), Or.inl (by decide), Or.inl (by decide), Or.inl (by decide), Or.inl (by decide),
      Or.inl (by decide), Or.inl (by decide)⟩
  case otp => exact Or.inl ⟨by decide, h⟩
  case entropy => exact Or.inl ⟨by decide, Nat.le_refl _⟩
  case mailbox => exact Or.inl ⟨by decide, fun _ => Memory.wf_nil⟩
  all_goals first | rfl | exact Or.inl (by decide)

theorem execRsPorstAssert_touches (s : State) :
    OutTouches [.doms, .tallies, .got, .contexts, .fences, .arrs, .quarantine, .weft, .shuttle, .batten, .spindle, .keys, .entropy, .spdm, .metering, .time, .loom, .log, .counters, .trace, .events, .bp, .mailbox, .otp, .power, .boot, .dbg, .baro, .link, .free, .out] s (execRsPorstAssert s) := by
  unfold execRsPorstAssert
  repeat' first
    | with_reducible apply Touches.refl
    | with_reducible assumption
    | (exact BitVec.and_self)
    | (exact Otp.program_keeps _ _ _)
    | with_reducible exact Nat.le_refl _
    | with_reducible exact Nat.le_succ _
    | with_reducible intro _
    | with_reducible apply OutTouches.next
    | with_reducible apply OutTouches.nextIf
    | (with_reducible apply Touches.comp (State.porState_touches _); rotate_left; decide)
    | with_reducible apply Touches.ite
    | with_reducible apply OutTouches.ite
    | split
    | dsimp only

theorem execPorRelease_touches (porstN : Bool) (s : State) :
    OutTouches [.power] s (execPorRelease porstN s) := by
  unfold execPorRelease
  repeat' first
    | with_reducible apply Touches.refl
    | with_reducible assumption
    | with_reducible intro _
    | with_reducible apply OutTouches.next
    | with_reducible apply OutTouches.nextIf
    | (with_reducible apply Touches.comp (State.setPhase_touches _ _); rotate_left; decide)
    | with_reducible apply Touches.ite
    | with_reducible apply OutTouches.ite
    | split
    | dsimp only

theorem execRsSysreq_touches (s : State) :
    OutTouches [.loom, .power] s (execRsSysreq s) := by
  unfold execRsSysreq
  repeat' first
    | with_reducible apply Touches.refl
    | with_reducible assumption
    | with_reducible intro _
    | with_reducible apply OutTouches.next
    | with_reducible apply OutTouches.nextIf
    | (with_reducible apply Touches.comp (State.requestReset_touches _ _ _); rotate_left; decide)
    | with_reducible apply Touches.ite
    | with_reducible apply OutTouches.ite
    | split
    | dsimp only

theorem execRsCorereq_touches (s : State) :
    OutTouches [.loom, .power] s (execRsCorereq s) := by
  unfold execRsCorereq
  repeat' first
    | with_reducible apply Touches.refl
    | with_reducible assumption
    | with_reducible intro _
    | with_reducible apply OutTouches.next
    | with_reducible apply OutTouches.nextIf
    | (with_reducible apply Touches.comp (State.requestReset_touches _ _ _); rotate_left; decide)
    | with_reducible apply Touches.ite
    | with_reducible apply OutTouches.ite
    | split
    | dsimp only

theorem execResetHoldEnd_touches (left : Nat) (s : State) :
    OutTouches [.doms, .tallies, .fences, .quarantine, .weft, .shuttle, .batten, .spindle, .keys, .time, .loom, .log, .counters, .trace, .events, .bp, .power, .link, .out] s (execResetHoldEnd left s) := by
  unfold execResetHoldEnd
  repeat' first
    | with_reducible apply Touches.refl
    | with_reducible assumption
    | with_reducible intro _
    | with_reducible apply OutTouches.next
    | with_reducible apply OutTouches.nextIf
    | (with_reducible apply Touches.comp (State.advanceTo_touches _ _); rotate_left; decide)
    | (with_reducible apply Touches.comp (State.assertReset_touches _ _ _ _ _ _); rotate_left; decide)
    | (with_reducible apply Touches.comp (State.endHold_touches _ _); rotate_left; decide)
    | with_reducible apply Touches.ite
    | with_reducible apply OutTouches.ite
    | split
    | dsimp only

theorem State.noteCause_touches (s : State) (cause : Nat) (pended : Bool) (otpHeld : Bool) (squallHeld : Bool) :
    Touches [.power] s (State.noteCause s cause pended otpHeld squallHeld) := by
  unfold State.noteCause
  repeat' first
    | with_reducible apply Touches.refl
    | with_reducible assumption
    | with_reducible intro _
    | with_reducible apply Touches.ite
    | split
    | ((with_reducible apply Touches.set_power); rotate_left; decide)
    | dsimp only

theorem State.systemState_touches (s : State) : Touches [.doms, .tallies, .got, .contexts, .fences, .arrs, .quarantine, .weft, .shuttle, .batten, .spindle, .keys, .entropy, .spdm, .metering, .time, .loom, .log, .counters, .trace, .events, .bp, .mailbox, .otp, .power, .boot, .dbg, .baro, .link, .out] s (State.systemState s) := by
  have h : ∀ a, s.otp.words.findD a 0 &&&
      (match s.otp.busy with | some w => s.otp.program w | none => s.otp).words.findD a 0 = s.otp.words.findD a 0 := by
    intro a
    split
    · exact Otp.program_keeps _ _ _
    · exact BitVec.and_self
  unfold State.systemState
  constructor
  case tables =>
    exact ⟨Or.inl (by decide), Or.inl (by decide), Or.inl (by decide), Or.inl (by decide), Or.inl (by decide),
      Or.inl (by decide), Or.inl (by decide)⟩
  case otp => exact Or.inl ⟨by decide, h⟩
  case entropy => exact Or.inl ⟨by decide, Nat.le_refl _⟩
  case mailbox => exact Or.inl ⟨by decide, fun _ => Memory.wf_nil⟩
  all_goals first | rfl | exact Or.inr rfl | exact Or.inl (by decide)

theorem State.endWindow_touches (s : State) :
    Touches [.log, .counters, .trace, .baro] s (State.endWindow s) := by
  unfold State.endWindow
  repeat' first
    | with_reducible apply Touches.refl
    | with_reducible assumption
    | with_reducible intro _
    | (with_reducible apply Touches.comp (State.closeWindow_touches _); rotate_left; decide)
    | with_reducible apply Touches.ite
    | split
    | dsimp only

theorem execSystemReset_touches (s : State) :
    OutTouches [.doms, .tallies, .got, .contexts, .fences, .arrs, .quarantine, .weft, .shuttle, .batten, .spindle, .keys, .entropy, .spdm, .metering, .time, .loom, .log, .counters, .trace, .events, .bp, .mailbox, .otp, .power, .boot, .dbg, .baro, .link, .out] s (execSystemReset s) := by
  unfold execSystemReset
  repeat' first
    | with_reducible apply Touches.refl
    | with_reducible assumption
    | (exact BitVec.and_self)
    | (exact Otp.program_keeps _ _ _)
    | with_reducible exact Nat.le_refl _
    | with_reducible exact Nat.le_succ _
    | with_reducible intro _
    | with_reducible apply OutTouches.next
    | with_reducible apply OutTouches.nextIf
    | (with_reducible apply Touches.comp (State.systemState_touches _); rotate_left; decide)
    | (with_reducible apply Touches.comp (State.endWindow_touches _); rotate_left; decide)
    | (with_reducible apply Touches.comp (State.noteCause_touches _ _ _ _ _); rotate_left; decide)
    | with_reducible apply Touches.ite
    | with_reducible apply OutTouches.ite
    | split
    | dsimp only

theorem State.crashDump_touches (s : State) (cause : Nat) :
    Touches [.loom, .counters, .events] s (State.crashDump s cause) := by
  unfold State.crashDump
  repeat' first
    | with_reducible apply Touches.refl
    | with_reducible assumption
    | with_reducible intro _
    | (with_reducible apply Touches.comp (State.bump_touches _ _ _); rotate_left; decide)
    | (with_reducible apply Touches.comp (State.raise_touches _ _); rotate_left; decide)
    | with_reducible apply Touches.ite
    | split
    | ((with_reducible apply Touches.set_loom); rotate_left; decide)
    | dsimp only

theorem State.clearFirmware_touches (s : State) :
    Touches [.spdm, .loom] s (State.clearFirmware s) := by
  unfold State.clearFirmware
  repeat' first
    | with_reducible apply Touches.refl
    | with_reducible assumption
    | with_reducible intro _
    | with_reducible apply Touches.ite
    | split
    | ((with_reducible apply Touches.set_spdm_loom); rotate_left; decide; decide)
    | dsimp only

end Sys2Proof.Machine
end

