-- ==== Sys2Proof/Laws/Touches/Recover.lean ====
section
/-!
SUPPORT. What the operations of Machine/Recover.lean touch, one law for each.
-/
namespace Sys2Proof.Machine

set_option linter.unusedTactic false
set_option linter.unreachableTactic false

theorem State.forgetRead_touches (s : State) (e : JEntry) :
    Touches [.keys, .loom] s (State.forgetRead s e) := by
  unfold State.forgetRead
  repeat' first
    | with_reducible apply Touches.refl
    | with_reducible assumption
    | with_reducible intro _
    | (with_reducible apply Touches.comp (State.dropEntry_touches _ _); rotate_left; decide)
    | (with_reducible apply Touches.comp (State.endScan_touches _ _); rotate_left; decide)
    | with_reducible apply Touches.ite
    | split
    | dsimp only

theorem State.rewindRings_touches (s : State) :
    Touches [.loom] s (State.rewindRings s) := by
  unfold State.rewindRings
  repeat' first
    | with_reducible apply Touches.refl
    | with_reducible assumption
    | with_reducible intro _
    | with_reducible apply Touches.ite
    | split
    | ((with_reducible apply Touches.set_loom); rotate_left; decide)
    | dsimp only

theorem State.rollEntry_touches (s : State) (jid : Nat) (a2 : Nat) :
    Touches [.doms, .tallies, .got, .contexts, .fences, .arrs, .quarantine, .weft, .shuttle, .batten, .spindle, .keys, .entropy, .spdm, .metering, .time, .loom, .log, .counters, .trace, .events, .bp, .mailbox, .otp, .dbg, .link, .out] s (State.rollEntry s jid a2) := by
  induction a2 generalizing s jid with
  | zero =>
    unfold State.rollEntry
    repeat' first
      | with_reducible apply Touches.refl
      | with_reducible assumption
      | (exact BitVec.and_self)
      | (exact Otp.program_keeps _ _ _)
      | with_reducible exact Nat.le_refl _
      | with_reducible exact Nat.le_succ _
      | with_reducible intro _
      | (with_reducible apply Touches.comp (State.resumeEntry_touches _ _ _); rotate_left; decide)
      | with_reducible apply Touches.ite
      | split
      | dsimp only
  | succ n ih =>
    unfold State.rollEntry
    repeat' first
      | with_reducible apply Touches.refl
      | with_reducible assumption
      | (exact BitVec.and_self)
      | (with_reducible apply Touches.comp (ih _ _); rotate_left; decide)
      | (exact Otp.program_keeps _ _ _)
      | with_reducible exact Nat.le_refl _
      | with_reducible exact Nat.le_succ _
      | with_reducible intro _
      | (with_reducible apply Touches.comp (State.resumeEntry_touches _ _ _); rotate_left; decide)
      | with_reducible apply Touches.ite
      | split
      | dsimp only

theorem State.rollForward_touches (s : State) :
    Touches [.doms, .tallies, .got, .contexts, .fences, .arrs, .quarantine, .weft, .shuttle, .batten, .spindle, .keys, .entropy, .spdm, .metering, .time, .loom, .log, .counters, .trace, .events, .bp, .mailbox, .otp, .dbg, .link, .out] s (State.rollForward s) := by
  unfold State.rollForward
  repeat' first
    | with_reducible apply Touches.refl
    | with_reducible assumption
    | (exact BitVec.and_self)
    | (exact Otp.program_keeps _ _ _)
    | with_reducible exact Nat.le_refl _
    | with_reducible exact Nat.le_succ _
    | with_reducible intro _
    | (with_reducible apply Touches.comp (State.rollEntry_touches _ _ _); rotate_left; decide)
    | with_reducible apply Touches.foldl
    | with_reducible apply Touches.ite
    | split
    | dsimp only

theorem State.endRestart_touches (s : State) :
    Touches [.loom, .counters] s (State.endRestart s) := by
  unfold State.endRestart
  repeat' first
    | with_reducible apply Touches.refl
    | with_reducible assumption
    | with_reducible intro _
    | (with_reducible apply Touches.comp (State.applyHeldTails_touches _); rotate_left; decide)
    | with_reducible apply Touches.ite
    | split
    | ((with_reducible apply Touches.set_loom); rotate_left; decide)
    | dsimp only

theorem State.recover_touches (s : State) :
    Touches [.doms, .tallies, .got, .contexts, .fences, .arrs, .quarantine, .weft, .shuttle, .batten, .spindle, .keys, .entropy, .spdm, .metering, .time, .loom, .log, .counters, .trace, .events, .bp, .mailbox, .otp, .dbg, .link, .out] s (State.recover s) := by
  unfold State.recover
  repeat' first
    | with_reducible apply Touches.refl
    | with_reducible assumption
    | (exact BitVec.and_self)
    | (exact Otp.program_keeps _ _ _)
    | with_reducible exact Nat.le_refl _
    | with_reducible exact Nat.le_succ _
    | with_reducible intro _
    | (with_reducible apply Touches.comp (State.endSpent_touches _); rotate_left; decide)
    | (with_reducible apply Touches.comp (State.rewindRings_touches _); rotate_left; decide)
    | (with_reducible apply Touches.comp (State.endRestart_touches _); rotate_left; decide)
    | (with_reducible apply Touches.comp (State.rollForward_touches _); rotate_left; decide)
    | (with_reducible apply Touches.comp (State.finishAborts_touches _); rotate_left; decide)
    | (with_reducible apply Touches.comp (State.forgetRead_touches _ _); rotate_left; decide)
    | (with_reducible apply Touches.comp (State.drainTurns_touches _); rotate_left; decide)
    | with_reducible apply Touches.foldl
    | with_reducible apply Touches.ite
    | split
    | dsimp only

theorem State.coreRestart_touches (s : State) (cause : Nat) :
    Touches [.doms, .tallies, .got, .contexts, .fences, .arrs, .quarantine, .weft, .shuttle, .batten, .spindle, .keys, .entropy, .spdm, .metering, .time, .loom, .log, .counters, .trace, .events, .bp, .mailbox, .otp, .power, .boot, .dbg, .link, .out] s (State.coreRestart s cause) := by
  unfold State.coreRestart
  repeat' first
    | with_reducible apply Touches.refl
    | with_reducible assumption
    | (exact BitVec.and_self)
    | (exact Otp.program_keeps _ _ _)
    | with_reducible exact Nat.le_refl _
    | with_reducible exact Nat.le_succ _
    | with_reducible intro _
    | (with_reducible apply Touches.comp (State.requestReset_touches _ _ _); rotate_left; decide)
    | (with_reducible apply Touches.comp (State.endRestart_touches _); rotate_left; decide)
    | (with_reducible apply Touches.comp (State.startIfDue_touches _); rotate_left; decide)
    | (with_reducible apply Touches.comp (State.crashDump_touches _ _); rotate_left; decide)
    | (with_reducible apply Touches.comp (State.finishAborts_touches _); rotate_left; decide)
    | (with_reducible apply Touches.comp (State.clearFirmware_touches _); rotate_left; decide)
    | (with_reducible apply Touches.comp (State.recover_touches _); rotate_left; decide)
    | with_reducible apply Touches.ite
    | split
    | dsimp only

theorem execCoreReset_touches (s : State) :
    OutTouches [.doms, .tallies, .got, .contexts, .fences, .arrs, .quarantine, .weft, .shuttle, .batten, .spindle, .keys, .entropy, .spdm, .metering, .time, .loom, .log, .counters, .trace, .events, .bp, .mailbox, .otp, .power, .boot, .dbg, .link, .out] s (execCoreReset s) := by
  unfold execCoreReset
  repeat' first
    | with_reducible apply Touches.refl
    | with_reducible assumption
    | (exact BitVec.and_self)
    | (exact Otp.program_keeps _ _ _)
    | with_reducible exact Nat.le_refl _
    | with_reducible exact Nat.le_succ _
    | with_reducible intro _
    | with_reducible apply OutTouches.next
    | with_reducible apply OutTouches.nextIf
    | (with_reducible apply Touches.comp (State.coreRestart_touches _ _); rotate_left; decide)
    | (with_reducible apply Touches.comp (State.otpPump_touches _); rotate_left; decide)
    | (with_reducible apply Touches.comp (State.noteCause_touches _ _ _ _ _); rotate_left; decide)
    | with_reducible apply Touches.ite
    | with_reducible apply OutTouches.ite
    | split
    | dsimp only

end Sys2Proof.Machine
end

