-- ==== Sys2Proof/WellFormed.lean ====
section
/-!
DEFINITION. Which commands are well-formed: every operand within the width of the signal or field it stands for
(spec/21_ports.md, spec/22_registers.md). `exec` is total; an ill-formed command is one that no port can carry.
-/
namespace Sys2Proof

/-- A ring index of `EV_RING` (21), or a session number. -/
def Src.wf : Src → Bool
  | .ring i => decide (i < 70)
  | .session _ => true

/-- PCIe functions 0 to 63 (21). -/
def RegPath.wf : RegPath → Bool
  | .func n _ => decide (n < 64)
  | .hcp => true
  | .dbg => true

/-- `CP_REQ_ADDR` has 22 bits with [2:0] zero (21). -/
def RegWrite.wf (w : RegWrite) : Bool := w.path.wf && decide (w.addr < 2 ^ 22) && decide (w.addr % 8 = 0)

/-- The widths of `HP_REQ_*` (21). -/
def HpReq.wf (r : HpReq) : Bool :=
  decide (r.lane < 128) && decide (r.op < 4) && decide (r.dli < 2 ^ 32) && decide (r.ldi < 256)
    && decide (r.ctx < 4096) && decide (r.fence < 2 ^ 32) && decide (r.arr < 2 ^ 18) && decide (r.tag < 256)

/-- The widths of `FP_EH_*` (21). -/
def EgressPkt.wf (p : EgressPkt) : Bool :=
  decide (p.port < 24) && decide (p.rh.length ≤ 32) && decide (p.ptag < 65536) && decide (p.dest < 65536)
    && decide (p.vc < 8) && decide (p.ldi < 256) && decide (p.ctx < 4096) && decide (p.fence < 2 ^ 32)
    && decide (p.mapgen < 256)

/-- The widths of `FP_IW_*` (21). -/
def IngressPkt.wf (p : IngressPkt) : Bool :=
  decide (p.port < 24) && decide (p.rh.length ≤ 32) && decide (p.vc < 8) && decide (p.group < 65536)

/-- The widths of `BA_REQ_*` (21). -/
def BaReq.wf (r : BaReq) : Bool :=
  decide (r.kind < 4) && decide (r.hdr.length = 24) && decide (r.ldi < 256) && decide (r.ctx < 4096)
    && decide (r.fence < 2 ^ 32) && decide (r.arr < 2 ^ 18) && decide (r.tag < 256)

/-- The widths of `SP_REQ_*` (21). -/
def PullReq.wf (r : PullReq) : Bool :=
  decide (r.port < 8) && decide (r.ldi < 256) && decide (r.ctx < 4096) && decide (r.stream < 2 ^ 32)
    && decide (r.offset < 2 ^ 64) && decide (r.beats < 128)

/-- The connection is MCTP or a HOST ring (10 R207). -/
def Conn.wf : Conn → Bool
  | .mctp => true
  | .host i => decide (i < 64)

/-- An SPDM version is one byte. -/
def SpdmCtx.wf (m : SpdmCtx) : Bool := m.conn.wf && decide (m.version < 256)

/-- The parts of KEY_EXCHANGE: session-ID half, standards-body ID and vendor ID are two bytes each, a GDID four (10 R211). -/
def KexReq.wf (k : KexReq) : Bool :=
  decide (k.slot < 256) && decide (k.reqSid < 65536) && decide (k.opaqueStd < 65536) && decide (k.opaqueVendor < 65536)
    && decide (k.opaqueType < 256) && decide (k.opaqueGdid.getD 0 < 2 ^ 32)

/-- A 12-B time value (11 R226). -/
def Time12.wf (t : Time12) : Bool := decide (t.sec < 2 ^ 48) && decide (t.ns < 1000000000) && decide (t.frac < 65536)

/-- IEEE 1588 fields of a PTP message, and the 2-bit `TP_RX_AUTH` (21). -/
def PtpMsg.wf (m : PtpMsg) : Bool :=
  decide (m.domain < 256) && decide (m.master < 2 ^ 64) && decide (m.seq < 65536) && decide (m.auth < 4)
    && m.rxTs.wf && m.origin.wf

/-- An OTP word has a 10-bit address (R457). -/
def TapOp.wf : TapOp → Bool
  | .program addr _ => decide (addr < 1024)
  | _ => true

/-- A command whose operands all fit. -/
def Instr.wf : Instr → Bool
  | .domCreate src => src.wf
  | .domSetPolicy src => src.wf
  | .domAddContext src => src.wf
  | .domReleaseContext src => src.wf
  | .domSeal src => src.wf
  | .domQuiesce src => src.wf
  | .domAbort src => src.wf
  | .domRetire src => src.wf
  | .domQuery src => src.wf
  | .memAssign src => src.wf
  | .memRelease src => src.wf
  | .memScrub src => src.wf
  | .memQuery src => src.wf
  | .memImportBlob src => src.wf
  | .memFingerprint src => src.wf
  | .memDigest src => src.wf
  | .cmpBindSlice src => src.wf
  | .cmpUnbindSlice src => src.wf
  | .cmpRebindPrepare src => src.wf
  | .cmpRebindCommit src => src.wf
  | .rebindSquashTimeout ldi => decide (ldi < 256)
  | .redWindowOpen src => src.wf
  | .redWindowClose src => src.wf
  | .redWindowQuery src => src.wf
  | .arrAlloc src => src.wf
  | .arrFree src => src.wf
  | .fenCreate src => src.wf
  | .fenRegisterProducer src => src.wf
  | .fenDestroy src => src.wf
  | .lnkPortClass src => src.wf
  | .lnkSaWarm src => src.wf
  | .lnkSaQuery src => src.wf
  | .lnkGroupCreate src => src.wf
  | .keyEphemeralGet src => src.wf
  | .keyWeightInstall src => src.wf
  | .keyWeightDrop src => src.wf
  | .attReport src => src.wf
  | .attSessionOpen src => src.wf
  | .mtrRead src => src.wf
  | .mtrAck src => src.wf
  | .timStatus src => src.wf
  | .timSetServo src => src.wf
  | .timOffsetMeasure src => src.wf
  | .dbgCertPresent src => src.wf
  | .dbgRevoke src => src.wf
  | .dbgHalt src => src.wf
  | .dbgResume src => src.wf
  | .prfFreezeAt src => src.wf
  | .prfRead src => src.wf
  | .trcConfig src => src.wf
  | .trcMark src => src.wf
  | .trcRead src => src.wf
  | .lcsQuery src => src.wf
  | .lcsTransition src => src.wf
  | .lcsTransitionResetTimer => true
  | .lcsTokenUnlock src => src.wf
  | .lcsZeroize src => src.wf
  | .migFreeze src => src.wf
  | .migFreezeAnswerTimeout ldi => decide (ldi < 256)
  | .migExport src => src.wf
  | .migImport src => src.wf
  | .migThaw src => src.wf
  | .spnStreamOpen src => src.wf
  | .spnStreamClose src => src.wf
  | .snsStatus src => src.wf
  | .snsCalWindow src => src.wf
  | .rcvLogRead src => src.wf
  | .rcvLogClear src => src.wf
  | .rcvDumpRead src => src.wf
  | .journalStepResume _ _ => true
  | .ringTailWrite w => w.wf
  | .ringEvtClear w => w.wf
  | .evStatusClear w => w.wf
  | .evMapClear w => w.wf
  | .evEnableWrite w => w.wf
  | .ctcDevidWrite w => w.wf
  | .clockStatusClear w => w.wf
  | .timSnapCapture w => w.wf
  | .dbgArrDataRead path addr => path.wf && decide (addr < 2 ^ 22) && decide (addr % 8 = 0)
  | .dbgCoreRegWrite w => w.wf
  | .registerWrite w => w.wf
  | .dbgAccess op => op.wf
  | .tapReset => true
  | .hpRead r => r.wf
  | .hpFullWrite r => r.wf
  | .hpByteMaskedWrite r => r.wf
  | .gotFetchComplete lane granule => decide (lane < 128) && decide (granule < 2 ^ 22)
  | .mpReadReturn lane tag _ ecc => decide (lane < 128) && decide (tag < 256) && decide (ecc < 4)
  | .domainIntegrityEvent => true
  | .writeGroupClose lane _ => decide (lane < 128)
  | .mpWriteAck lane tag => decide (lane < 128) && decide (tag < 256)
  | .scrubGranuleDone => true
  | .laneFailed lane => decide (lane < 128)
  | .mpFlushAck lane _ => decide (lane < 128)
  | .fpEgressPacket p => p.wf
  | .fpIngressPacket p => p.wf
  | .nackReceived => true
  | .atomicRequestReceived => true
  | .atomicResponseReceived => true
  | .atomicQueryReceived => true
  | .ackOnlyReceived => true
  | .atomicDueExpiry peer aseq => decide (peer < 0xFFFF) && decide (aseq < 2 ^ 32)
  | .ackOnlyTimer peer => decide (peer < 0xFFFF)
  | .saInit peer => decide (peer < 0xFFFF)
  | .saResp peer => decide (peer < 0xFFFF)
  | .saFin peer => decide (peer < 0xFFFF)
  | .saDone peer => decide (peer < 0xFFFF)
  | .chainGet peer => decide (peer < 0xFFFF)
  | .chain peer => decide (peer < 0xFFFF)
  | .keepalive peer => decide (peer < 0xFFFF)
  | .keepaliveTimer peer => decide (peer < 0xFFFF)
  | .saLossTimeout peer => decide (peer < 0xFFFF)
  | .saFailedExpiry peer => decide (peer < 0xFFFF)
  | .groupKey peer => decide (peer < 0xFFFF)
  | .groupKeyHoldExpiry => true
  | .groupCreateTimeout ldi group => decide (ldi < 256) && decide (group < 65536)
  | .policy peer => decide (peer < 0xFFFF)
  | .retired peer => decide (peer < 0xFFFF)
  | .fdtQuarantineExpiry fdt => decide (fdt < 65536)
  | .squall peer => decide (peer < 0xFFFF)
  | .freeze peer => decide (peer < 0xFFFF)
  | .offset peer => decide (peer < 0xFFFF)
  | .offsetProbeTimer ldi => decide (ldi < 256)
  | .offsetPeriodicExchange ldi => decide (ldi < 256)
  | .peerCmd peer => decide (peer < 0xFFFF)
  | .peerReply peer => decide (peer < 0xFFFF)
  | .engineFailed engine _ => decide (engine < 24)
  | .baReduce r => r.wf
  | .baMstore r => r.wf
  | .baAtomic r => r.wf
  | .battenEntryApply unit _ => decide (unit < 12)
  | .battenFillReturn unit => decide (unit < 12)
  | .mirrorAck unit => decide (unit < 12)
  | .battenWriteback unit dli => decide (unit < 12) && decide (dli < 2 ^ 32)
  | .battenWritebackAccepted unit dli => decide (unit < 12) && decide (dli < 2 ^ 32)
  | .windowContribution unit _ => decide (unit < 12)
  | .windowLineAccepted dli => decide (dli < 2 ^ 32)
  | .unitFailed unit _ => decide (unit < 12)
  | .spindlePull r lent => r.wf && lent.all (fun x => decide (x.inst < if x.engine then 26 else 132))
  | .spindleReissueTimeout port => decide (port < 8)
  | .fenceSignal => true
  | .bpAck seq => decide (seq < 2 ^ 32)
  | .bpInPresent type kind first count => decide (type < 16) && decide (kind < 4) && decide (first < 65536) && decide (count < 65536)
  | .bpInReport ldi handle ctx status => decide (ldi < 256) && decide (handle < 2 ^ 32) && decide (ctx < 4096) && decide (status < 65536)
  | .bpInNeighbour ldi pos devid => decide (ldi < 256) && decide (pos < 16) && decide (devid < 65536)
  | .hcpResetAssert => true
  | .hcpImageStream _ => true
  | .kpAck => true
  | .kpFlr func => decide (func < 64)
  | .kpLockedConfigWrite func => decide (func < 64)
  | .kpIdeIntegrityFailure func => decide (func < 64)
  | .getVersion m => m.wf
  | .getCapabilities m => m.wf
  | .negotiateAlgorithms m _ => m.wf
  | .getDigests m => m.wf
  | .getCertificate m slot _ _ => m.wf && decide (slot < 16)
  | .challenge m slot _ => m.wf && decide (slot < 16)
  | .getMeasurements m slot index _ _ => m.wf && decide (slot < 16) && decide (index < 256)
  | .keyExchange m k => m.wf && k.wf
  | .finish m _ _ => m.wf
  | .getEncapsulatedRequest m _ => m.wf
  | .deliverEncapsulatedResponse m _ _ => m.wf
  | .heartbeat m => m.wf
  | .keyUpdate m op => m.wf && decide (op < 256)
  | .endSession m => m.wf
  | .chunkSend m handle seq _ _ => m.wf && decide (handle < 2 ^ 32) && decide (seq < 2 ^ 32)
  | .chunkGet m handle seq => m.wf && decide (handle < 2 ^ 32) && decide (seq < 2 ^ 32)
  | .vendorDefinedRequest m std vendor _ => m.wf && decide (std < 65536) && decide (vendor < 65536)
  | .spdmUnsupportedRequest m code => m.wf && decide (code < 256)
  | .sessionHeartbeatTimeout _ => true
  | .getTdispVersion m func => m.wf && decide (func < 64)
  | .getTdispCapabilities m func => m.wf && decide (func < 64)
  | .lockInterfaceRequest m func => m.wf && decide (func < 64)
  | .getDeviceInterfaceReport m func => m.wf && decide (func < 64)
  | .getDeviceInterfaceState m func => m.wf && decide (func < 64)
  | .startInterfaceRequest m func _ => m.wf && decide (func < 64)
  | .stopInterfaceRequest m func => m.wf && decide (func < 64)
  | .ideKeyDeliveryVdm m _ func _ _ => m.wf && decide (func < 64)
  | .tdispUnsupportedRequest m func code => m.wf && decide (func < 64) && decide (code < 256)
  | .ideKmQuery m func => m.wf && decide (func < 64)
  | .keyProg m func _ _ => m.wf && decide (func < 64)
  | .kSetGo m func _ _ => m.wf && decide (func < 64)
  | .kSetStop m func _ _ => m.wf && decide (func < 64)
  | .setEndpointId eid => decide (eid < 256)
  | .getEndpointId => true
  | .getMctpVersionSupport => true
  | .getMessageTypeSupport => true
  | .mctpVendorCommand type _ _ _ => decide (type < 256)
  | .announce m _ => m.wf
  | .sync m => m.wf
  | .followUp m => m.wf
  | .delayResp m => m.wf
  | .ptpIgnoredMessage => true
  | .tpTxts id ts => decide (id < 65536) && ts.wf
  | .txtsTimeout id => decide (id < 65536)
  | .timeNoSampleTimeout => true
  | .holdoverTimeout => true
  | .freezeFire ldi => decide (ldi < 256)
  | .debugRightsExpiry _ => true
  | .debugNonceExpiry => true
  | .meterIntervalTimer ldi => decide (ldi < 256)
  | .meterBatchClose => true
  | .errorLogWrite => true
  | .traceSegmentPeriod src inst => decide (src < 16) && decide (inst < 256)
  | .coarseSnapshot => true
  | .powerEstimateUpdate _ => true
  | .breakpointHit addr => decide (addr < 2 ^ 32)
  | .haltDrainComplete => true
  | .watchdogExpiry => true
  | .lockstepMismatch => true
  | .storeUe store _ _ => decide (store < 256)
  | .crossingFault inst _ => decide (inst < 65536)
  | .ckRootLost => true
  | .ckRootReturn => true
  | .rsPorstAssert => true
  | .porRelease _ => true
  | .rsSysreq => true
  | .rsCorereq => true
  | .resetHoldEnd left => decide (left < 256)
  | .systemReset => true
  | .coreReset => true
  | .bootRomStart => true
  | .bootDescriptorPoll _ => true
  | .portsOpen => true
  | .fuRsp _ => true
  | .powerWarn => true
  | .powerHoldClear => true
  | .tamperInput input => decide (input < 8)
  | .barometerSample inst m d w bin =>
    decide (inst < 65536) && decide (m < 64) && decide (d < 256) && decide (w < 64) && decide (bin < 8)
  | .stretchRelax inst => decide (inst < 65536)
  | .tamperScoreDecay => true
  | .calEpochEnd inst bin => decide (inst < 65536) && decide (bin < 8)
  | .calWindowExpiry => true
  | .entropyTestFail _ => true
  | .drbgReseed => true
  | .entropyStartupTestDone _ => true
  | .barometerStatusRefresh => true

end Sys2Proof
end

