-- ==== Sys2Proof/Tests/Slice0.lean ====
section
/-!
SUPPORT. Tests on small states: ill-formed commands that WellFormed refuses, results taken from the spec's own tables and
examples, and for each statement with premises a state and operands that meet them (`witness_…`).
-/
namespace Sys2Proof.Tests
open Sys2Proof Sys2Proof.Machine

set_option Elab.async false


/-! ### Small states -/

/-- A slot of the mailbox (R247): opcode, LDI, flags, buffer length, parameters; SEQ 0, HVER 1. -/
def slotOf (op ldi flags buf : Nat) (params : Bytes) : Bytes :=
  leBytes 2 op ++ leBytes 1 flags ++ leBytes 1 1 ++ leBytes 4 0 ++ leBytes 2 0 ++ leBytes 1 ldi ++ leBytes 1 0
    ++ leBytes 4 params.length ++ leBytes 4 0 ++ leBytes 4 buf ++ leBytes 8 0 ++ (if flags % 2 == 1 then [] else params)

/-- A grant with room in every part. -/
def room : Grant := ⟨64, 1000, 8, 64, 64, 16, 4, 4, 4, 64⟩

/-- A domain of two members, of rank 0, in a state of R32. -/
def domIn (st : DomState) : Domain :=
  { state := st, gen := 7, gdid := 9, fdt := 3, rank := 0, members := 2, grant := room, errFence := fenceHandle 1 1 }

/-- Firmware runs, ports and rings are open, keys, identity and DRBG are there; LDI 1 holds a domain, granule 5, context 2 in
slot 1, and the ARMED fences 1 (its error fence) and 2. -/
def up (st : DomState) : State :=
  { build := { lanes := 32, engines := 4 }
    boot := { phase := .running 1, devid := 5, devidSet := true }
    keys := { rootReady := true, identity := true, chain := [1, 2, 3], slots := [(8, { type := 1, ldi := 1, gen := 7, key := 6 })] }
    entropy := { passed := true, testing := false }
    otp := { words := [(0x005, 0x10000)], lcs := 5 }
    loom := { ringsOpen := true, portsOpen := true }
    bp := { queues := [(0, 64)], slices := [(0, 8)] }
    tables :=
      { domains := [(1, domIn st)], got := [(5, { ldi := 1, gen := 7, state := .owned })]
        contexts := [(2, { ldi := 1, slot := 1, queues := [3] })]
        fences := [(1, { ldi := 1, state := .armed, epoch := 1 }), (2, { ldi := 1, state := .armed, epoch := 1 })]
        fenceFresh := 3 } }

/-- A command waits on a ring, with RBUF and a buffer of up to 65,536 bytes. -/
def onRing (s : State) (i op ldi : Nat) (params : Bytes) : State :=
  { s with
    mailbox := Memory.writeBytes [] (partOffset i) (slotOf op ldi 2 (min 65536 (partBuffer i)) params)
    loom := { s.loom with rings := s.loom.rings.put i { tail := 1 } } }

/-- The same with its parameters in the buffer. -/
def onRingBuf (s : State) (i op ldi : Nat) (params : Bytes) : State :=
  { s with
    mailbox := Memory.writeBytes (Memory.writeBytes [] (partOffset i) (slotOf op ldi 3 (min 65536 (partBuffer i)) params))
      (partOffset i + 0x1400) params
    loom := { s.loom with rings := s.loom.rings.put i { tail := 1 } } }

/-- A command waits in a TENANT's session of LDI 1. -/
def inSession (s : State) (op : Nat) (params : Bytes) : State :=
  { s with spdm := { s.spdm with
      sessions := [(1, { conn := .host 0, stage := .open_, gdid := some 9, ldi := some 1,
                         inbox := some (padTo 256 (slotOf op 1 2 65536 params)) })] } }

/-- The same with its parameters behind the slot (R254). -/
def inSessionBuf (s : State) (op : Nat) (params : Bytes) : State :=
  { s with spdm := { s.spdm with
      sessions := [(1, { conn := .host 0, stage := .open_, gdid := some 9, ldi := some 1,
                         inbox := some (padTo 256 (slotOf op 1 3 params.length params) ++ params) })] } }

/-! ### Commands that begin -/

/-- The command at the front of `src` begins, and the state in which its effect begins meets p. -/
def meets (s : State) (src : Src) (sp : CmdSpec) (p : State → Cmd → Bool) : Bool :=
  match s.waitingCmd src with
  | some c => s.fetches src && c.opcode == sp.opcode && (s.fetched c).settle.seqCheck c.path c.seq == .fresh
      && ((s.checked c).firstFailure sp c).isNone && p (s.begun sp c) c
  | none => false

def Meets (s : State) (src : Src) (sp : CmdSpec) (p : State → Cmd → Bool) : Prop :=
  ∃ c, Begins s src sp c ∧ p (s.begun sp c) c = true

theorem meets_of {s : State} {src : Src} {sp : CmdSpec} {p : State → Cmd → Bool} (h : meets s src sp p = true) :
    Meets s src sp p := by
  unfold meets at h
  split at h
  · next c hc =>
    simp only [Bool.and_eq_true, beq_iff_eq, Option.isNone_iff_eq_none] at h
    exact ⟨c, ⟨h.1.1.1.1, hc, h.1.1.1.2, h.1.1.2, h.1.2⟩, h.2⟩
  · cases h

/-- A state meets p. -/
abbrev Holds (s : State) (p : State → Bool) : Prop := p s = true

/-! ### Domain commands -/

/-- Parameters of `DOM_CREATE` (R269) with rank 0 of 2 and the least grant of R37. -/
def createParams (gdid fdt : Nat) : Bytes :=
  leBytes 4 gdid ++ leBytes 2 fdt ++ leBytes 2 0 ++ leBytes 2 2 ++ leBytes 2 0 ++ leBytes 4 0 ++ leBytes 4 0
    ++ leBytes 1 0 ++ leBytes 1 1 ++ leBytes 2 0 ++ leBytes 2 0 ++ leBytes 2 0 ++ leBytes 4 0 ++ leBytes 4 1 ++ leBytes 4 0
    ++ leBytes 4 0 ++ leBytes 4 0 ++ leBytes 48 0

/-- The premises of `DOM_CREATE` up to the choice of the LDI. -/
def creates (u : State) (c : Cmd) : Bool :=
  u.rootUp && u.boot.devidSet && c.p 10 1 == 0 && !u.fdtQuarantined (c.p 4 2) && !u.quarantineFull && c.p 0 4 != 0
    && (u.ldiOfGdid (c.p 0 4)).isNone && c.p 4 2 != 0 && (u.ldisWith (fun d => d.state.live && d.fdt == c.p 4 2)).isEmpty
    && decide (c.p 6 2 < c.p 8 2) && leAll grantMin (grantOf c).list && leAll (grantOf c).list grantMax

theorem witness_dom_create :
    Meets (onRing (up .running) 0 0x0101 0 (createParams 10 4)) (.ring 0) domCreateSpec (fun u c =>
      creates u c && u.grantFits (grantOf c) && (u.chooseLdi.map (fun l =>
        (((u.setDom l (u.newDomain l c)).installMemKeys l).allocFence l 0).isSome)) == some true) :=
  meets_of (by decide +kernel)

/-- Every LDI holds a domain, but for the last one, which is as given. -/
def fullDevice (last : Domain) : State :=
  { up .running with tables := { domains := (span 1 254).map (fun l =>
      (l, { domIn .running with gdid := 1000 + l, fdt := 1000 + l })) ++ [(255, last)] } }

theorem witness_dom_create_exhausted :
    Meets (onRing (fullDevice { gen := 65535 }) 0 0x0101 0 (createParams 10 4)) (.ring 0) domCreateSpec (fun u c =>
      creates u c && (span 1 255).all (fun l => (u.dom l).state.live || (u.dom l).gen == 65535) && (u.dom 255).gen == 65535) :=
  meets_of (by decide +kernel)

theorem witness_dom_create_full :
    Meets (onRing (fullDevice (domIn .aborted)) 0 0x0101 0 (createParams 10 4)) (.ring 0) domCreateSpec (fun u c =>
      creates u c && (span 1 255).all (fun l => (u.dom l).state.live) && (u.ldisWith (fun d => d.gen == 65535)).isEmpty) :=
  meets_of (by decide +kernel)

theorem witness_dom_set_policy :
    Meets (onRing (up .building) 0 0x0102 1 (leBytes 4 1)) (.ring 0) domSetPolicySpec (fun u c =>
      c.cls != .tenant && !u.refusesBound (u.dom c.ldi) (BitVec.ofNat 32 (c.p 0 4))) := meets_of (by decide +kernel)

theorem witness_dom_set_policy_tenant :
    Meets (inSession (up .building) 0x0102 (leBytes 4 0x18)) (.session 1) domSetPolicySpec (fun u c =>
      c.cls == .tenant && !loosens (u.dom c.ldi).policy (BitVec.ofNat 32 (c.p 0 4))
        && !u.refusesBound (u.dom c.ldi) (BitVec.ofNat 32 (c.p 0 4))) := meets_of (by decide +kernel)

theorem witness_dom_quiesce : ∀ st ∈ [DomState.building, .sealed_, .running],
    Meets (onRing (up st) 68 0x0106 1 []) (.ring 68) domQuiesceSpec (fun u c => (u.dom c.ldi).state == st) := by
  intro st h
  simp only [List.mem_cons, List.not_mem_nil, or_false] at h
  rcases h with rfl | rfl | rfl <;> exact meets_of (by decide +kernel)

theorem witness_dom_abort :
    Meets (onRing (up .quiescing) 0 0x0107 1 []) (.ring 0) domAbortSpec (fun u c => (u.dom c.ldi).state != .aborted) :=
  meets_of (by decide +kernel)

theorem witness_dom_retire : Meets (onRing (up .aborted) 0 0x0108 1 []) (.ring 0) domRetireSpec (fun _ _ => true) :=
  meets_of (by decide +kernel)

theorem witness_dom_query :
    Meets (onRing (up .running) 0 0x0109 1 (leBytes 12 0)) (.ring 0) domQuerySpec (fun _ c => queryShape c && !queryExtended c) :=
  meets_of (by decide +kernel)

theorem witness_dom_query_extended :
    Meets (onRing (up .running) 0 0x0109 1 (leBytes 4 2 ++ leBytes 4 0 ++ leBytes 4 64)) (.ring 0) domQuerySpec (fun _ c =>
      queryShape c && queryExtended c) := meets_of (by decide +kernel)

theorem witness_dom_add_context :
    Meets (onRing (up .running) 0 0x0103 1 (leBytes 4 1 ++ leBytes 4 63)) (.ring 0) domAddContextSpec (fun u c =>
      let qs := words c.params 4 (c.p 0 2)
      decide (1 ≤ c.p 0 2) && decide (c.p 0 2 ≤ 1024) && decide (c.p 0 2 ≤ 54) && qs.eraseDups.length == c.p 0 2 && qs.all (covered u.bp.queues)
        && qs.all (fun q => u.tables.contexts.vals.all (fun y => !y.queues.contains q))
        && decide ((u.contextsOf c.ldi).length < (u.dom c.ldi).grant.contexts) && u.freeContext == some 1
        && u.freeCslot c.ldi == some 2) := meets_of (by decide +kernel)

theorem witness_dom_release_context :
    Meets (onRing (up .running) 0 0x0104 1 (leBytes 4 2)) (.ring 0) domReleaseContextSpec (fun u c =>
      ((u.tables.contexts.find (c.p 0 4)).map (·.ldi)) == some c.ldi) := meets_of (by decide +kernel)

theorem witness_dom_seal :
    Meets (onRing (up .building) 0 0x0105 1 []) (.ring 0) domSealSpec (fun u c =>
      c.cls != .tenant && (u.dom c.ldi).state == .building && u.drbgReady && !(u.dom c.ldi).autoRun) :=
  meets_of (by decide +kernel)

theorem witness_dom_seal_auto_run :
    Meets (onRing ((up .building).setDom 1 { domIn .building with policy := 0x20 }) 0 0x0105 1 []) (.ring 0) domSealSpec
      (fun u c => c.cls != .tenant && (u.dom c.ldi).state == .building && u.drbgReady && (u.dom c.ldi).autoRun) :=
  meets_of (by decide +kernel)

theorem witness_dom_seal_tenant : ∀ st ∈ [DomState.sealed_, .running],
    Meets (inSession (up st) 0x0105 []) (.session 1) domSealSpec (fun u c => c.cls == .tenant && (u.dom c.ldi).state == st) := by
  intro st h
  simp only [List.mem_cons, List.not_mem_nil, or_false] at h
  rcases h with rfl | rfl <;> exact meets_of (by decide +kernel)

/-! ### Memory commands -/

theorem witness_mem_query :
    Meets (onRing (up .running) 0 0x0204 1 (leBytes 4 4194303 ++ leBytes 4 1)) (.ring 0) memQuerySpec (fun u c =>
      c.p 4 4 != 0 && decide (c.p 4 4 ≤ 16384) && decide (c.p 0 4 + c.p 4 4 ≤ 4194304) && (u.scopeLdi c.path).isNone) :=
  meets_of (by decide +kernel)

theorem witness_mem_query_tenant :
    Meets (inSession (up .running) 0x0204 (leBytes 4 5 ++ leBytes 4 2)) (.session 1) memQuerySpec (fun u c =>
      u.scopeLdi c.path == some 1 && (u.got 5).ldi == 1 && (u.got 6).ldi == 0) := meets_of (by decide +kernel)

theorem witness_mem_query_bad :
    Meets (onRing (up .running) 0 0x0204 1 (leBytes 4 4194303 ++ leBytes 4 2)) (.ring 0) memQuerySpec (fun _ c =>
      !decide (c.p 0 4 + c.p 4 4 ≤ 4194304)) := meets_of (by decide +kernel)

theorem witness_mem_assign :
    Meets (onRing (up .running) 0 0x0201 1 (leBytes 1 0 ++ leBytes 1 1 ++ leBytes 2 0 ++ leBytes 4 2 ++ leBytes 4 6 ++ leBytes 4 7))
      (.ring 0) memAssignSpec (fun u c =>
        listOk c && !u.outlived u.loom.nextJid c.ldi && !u.outlived (u.loom.nextJid + 1) c.ldi && !u.outlived 1 c.ldi
          && (u.contextsOf c.ldi).any (fun x => x.2.slot == c.p 1 1 && !x.2.releasing) && granuleList c == [6, 7]
          && u.assignStatus c.ldi 6 == stOk) := meets_of (by decide +kernel)

theorem witness_mem_assign_range :
    Meets (onRing (up .running) 0 0x0201 1 (leBytes 1 1 ++ leBytes 3 0 ++ leBytes 4 1 ++ leBytes 4 0)) (.ring 0) memAssignSpec
      (fun u c => listOk c && c.p 1 1 == 0 && granuleList c == [0] && u.assignStatus c.ldi 0 == stOk) :=
  meets_of (by decide +kernel)

theorem witness_mem_release :
    Meets (onRing (up .running) 0 0x0202 1 (leBytes 4 0 ++ leBytes 4 1 ++ leBytes 4 5)) (.ring 0) memReleaseSpec (fun u c =>
      listOk c && decide (granuleList c).Nodup && (granuleList c).all (fun h => u.releaseStatus c.ldi h == stOk)) :=
  meets_of (by decide +kernel)

theorem witness_mem_scrub : ∀ mode ∈ [0, 1],
    Meets (onRing (up .running) 0 0x0203 1 (leBytes 4 mode ++ leBytes 4 5 ++ leBytes 4 1)) (.ring 0) memScrubSpec (fun u c =>
      c.p 0 1 == mode && c.p 8 4 != 0 && decide (c.p 4 4 + c.p 8 4 ≤ 4194304)
        && (span (c.p 4 4) (c.p 8 4)).all (u.owns c.ldi)) := by
  intro mode h
  simp only [List.mem_cons, List.not_mem_nil, or_false] at h
  rcases h with rfl | rfl <;> exact meets_of (by decide +kernel)

theorem witness_mem_fingerprint :
    Meets (onRing (up .running) 0 0x0206 1 (leBytes 16 7 ++ leBytes 4 5120 ++ leBytes 4 0 ++ leBytes 8 1024)) (.ring 0)
      memFingerprintSpec (fun u c => c.p 24 8 != 0 && decide (c.p 16 4 + c.p 24 8 ≤ 2 ^ 32)
        && (lineGranules (c.p 16 4) (c.p 24 8)).all (u.owns c.ldi)) := meets_of (by decide +kernel)

theorem witness_mem_digest :
    Meets (onRing (up .running) 0 0x0207 1 (leBytes 8 6143 ++ leBytes 8 1)) (.ring 0) memDigestSpec (fun u c =>
      c.p 8 8 != 0 && decide (c.p 0 4 + c.p 8 8 ≤ 2 ^ 32) && (lineGranules (c.p 0 4) (c.p 8 8)).all (u.owns c.ldi)) :=
  meets_of (by decide +kernel)

/-- LDI 1 holds a weight key in pool slot 0x800. -/
def withWeight (st : DomState) : State :=
  { up st with keys := { (up st).keys with slots := [(8, { type := 1, ldi := 1, gen := 7, key := 6 }), (0x800, { type := 8, ldi := 1, gen := 7, keyId := 77 })] } }

theorem witness_mem_import_blob :
    Meets (onRing (withWeight .running) 0 0x0205 1 (leBytes 8 0x800 ++ leBytes 8 4096 ++ leBytes 8 96)) (.ring 0) memImportBlobSpec
      (fun u c => u.weightSlot c.ldi (c.p 0 2) && !(u.keySlot (c.p 0 2)).busy) := meets_of (by decide +kernel)

/-! ### Composition -/

/-- A domain that binds the port 2 and the channel 1. -/
def bound (st : DomState) : Domain := { domIn st with slices := [⟨2, 2⟩, ⟨1, 1⟩] }

theorem witness_cmp_bind_slice :
    Meets (onRing (up .building) 0 0x0301 1 (leBytes 4 3 ++ leBytes 4 0x20003 ++ leBytes 4 0x1001F ++ leBytes 4 7)) (.ring 0)
      cmpBindSliceSpec (fun u c => decide (1 ≤ c.p 0 2) && decide (c.p 0 2 ≤ 54)
        && u.sliceStatus c.ldi (sliceArgs c 4 (c.p 0 2)) [] == stOk) := meets_of (by decide +kernel)

theorem witness_cmp_unbind_slice :
    Meets (onRing ((up .building).setDom 1 (bound .building)) 0 0x0302 1 (leBytes 4 1 ++ leBytes 4 0x20002)) (.ring 0)
      cmpUnbindSliceSpec (fun u c => decide (1 ≤ c.p 0 2) && decide (c.p 0 2 ≤ 54)
        && u.sliceStatus c.ldi [] (sliceArgs c 4 (c.p 0 2)) == stOk) := meets_of (by decide +kernel)

theorem witness_cmp_rebind_prepare :
    Meets (onRing ((up .running).setDom 1 { bound .running with mapCur := 2 ^ 32 - 1 }) 0 0x0303 1
        (leBytes 4 0 ++ leBytes 2 1 ++ leBytes 2 1 ++ leBytes 4 0x20003 ++ leBytes 4 0x20002)) (.ring 0) cmpRebindPrepareSpec
      (fun u c => !(u.dom c.ldi).mapOpen && c.p 0 4 == ((u.dom c.ldi).mapCur + 1) % 2 ^ 32 && decide (c.p 4 2 + c.p 6 2 ≤ 256)
        && u.sliceStatus c.ldi (sliceArgs c 8 (c.p 4 2)) (sliceArgs c (8 + 4 * c.p 4 2) (c.p 6 2)) == stOk) :=
  meets_of (by decide +kernel)

/-- A rebind is open; with a packet of the old map inside an engine or without. -/
def rebinding (rxq : List RxPkt) : State :=
  let s := (up .running).setDom 1 { bound .running with mapCur := 8, mapOpen := true }
  { s with shuttle := { s.shuttle with rxq := rxq } }

/-- A STORE of LDI 1 under map 7. -/
def oldPacket : RxPkt := { port := 2, src := 6, ldi := 1, mapgen := 7, payload := leBytes 16 0 }

theorem witness_cmp_rebind_commit :
    Meets (onRing (rebinding []) 0 0x0304 1 (leBytes 4 8)) (.ring 0) cmpRebindCommitSpec (fun u c =>
      (u.dom c.ldi).mapOpen && c.p 0 4 == (u.dom c.ldi).mapCur && u.tally c.ldi == 0) := meets_of (by decide +kernel)

theorem witness_cmp_rebind_commit_waits :
    Meets (onRing (rebinding [oldPacket]) 0 0x0304 1 (leBytes 4 8)) (.ring 0) cmpRebindCommitSpec (fun u c =>
      (u.dom c.ldi).mapOpen && c.p 0 4 == (u.dom c.ldi).mapCur && u.tally c.ldi != 0) := meets_of (by decide +kernel)

/-- The state with a command in progress. -/
def waiting (s : State) (w : Wait) (k : Cont) : State :=
  { s with loom := { s.loom with journal := [{ jid := 4, ldi := 1, wait := w, cont := k }] } }

theorem witness_rebind_squash_timeout :
    Holds (waiting (rebinding [oldPacket]) (.tally 1) (.commitWait 1 0 0 9)) (fun s =>
      (s.waitingCommit 1).isSome && s.loomUp && s.tally 1 != 0
        && (s.shuttle.rxq.filter (fun p => s.tallied 1 p)).all (fun p => kindOf p.payload != kAtomic)) := by decide +kernel

/-! ### Reduction windows, arrival counters, fences -/

/-- The handle of the fence 2. -/
def fence2 : Nat := fenceHandle 2 1

theorem witness_red_window_open : ∀ x ∈ [(0x10, 2), (0x60, 32)],
    Meets (onRing (up .sealed_) 0 0x0601 1 (leBytes 4 5120 ++ leBytes 4 x.2 ++ leBytes 2 x.1 ++ leBytes 2 3 ++ leBytes 4 0
      ++ leBytes 4 fence2)) (.ring 0) redWindowOpenSpec (fun u c =>
        let fmt := c.p 8 1 / 16
        let mine := u.batten.windows.vals.filter (fun w => w.ldi == c.ldi)
        opAllowed (c.p 8 1 % 16) fmt true && c.p 10 2 != 0 && c.p 4 4 != 0 && (!isMx fmt || c.p 4 4 % mxGroup fmt == 0)
          && decide (c.p 0 4 + windowSpan fmt (c.p 4 4) ≤ 2 ^ 32) && c.p 12 4 == 0 && u.windowFence c.ldi (c.p 16 4)
          && (lineGranules (c.p 0 4) (windowSpan fmt (c.p 4 4))).all (u.owns c.ldi)
          && (List.range 256).find? (fun i => (u.window i).isNone) == some 0
          && decide (mine.length < (u.dom c.ldi).grant.windows)
          && decide ((mine.map (·.accUnits)).foldl (· + ·) ((c.p 4 4 + accLinesPerUnit fmt - 1) / accLinesPerUnit fmt)
            ≤ (u.dom c.ldi).grant.acc)) := by
  intro x h
  simp only [List.mem_cons, List.not_mem_nil, or_false] at h
  rcases h with rfl | rfl <;> exact meets_of (by decide +kernel)

/-- LDI 1 has the window 3 open and the arrival counter 1. -/
def withWindow (st : DomState) : State :=
  { up st with
    batten := { windows := [(3, { base := 5120, lines := 2, opfmt := 0x10, ldi := 1, count := 3, accUnits := 1, fence := fence2 })] }
    tables := { (up st).tables with arrs := [(1, { ldi := 1, bytes := 64, fence := 0 })], arrFresh := 2 } }

theorem witness_red_window_close :
    Meets (onRing (withWindow .quiescing) 0 0x0602 1 (leBytes 4 3)) (.ring 0) redWindowCloseSpec (fun u c =>
      (u.window (c.p 0 1)).map (·.ldi) == some c.ldi) := meets_of (by decide +kernel)

theorem witness_red_window_query :
    Meets (onRing (withWindow .running) 0 0x0603 1 (leBytes 4 3)) (.ring 0) redWindowQuerySpec (fun u c =>
      (u.window (c.p 0 1)).map (·.ldi) == some c.ldi) := meets_of (by decide +kernel)

theorem witness_arr_alloc : ∀ h ∈ [0, fence2],
    Meets (onRing (withWindow .running) 0 0x0610 1 (leBytes 4 h)) (.ring 0) arrAllocSpec (fun u c =>
      (c.p 0 4 == 0 || u.fenceArmed c.ldi (c.p 0 4)) && decide (u.arrUse c.ldi < (u.dom c.ldi).grant.arrs)
        && ((u.allocArr c.ldi (c.p 0 4)).map Prod.fst) == some 2) := by
  intro h m
  simp only [List.mem_cons, List.not_mem_nil, or_false] at m
  rcases m with rfl | rfl <;> exact meets_of (by decide +kernel)

theorem witness_arr_free :
    Meets (onRing (withWindow .running) 0 0x0611 1 (leBytes 4 1)) (.ring 0) arrFreeSpec (fun u c =>
      (u.tables.arrs.find (c.p 0 4)).isSome && u.arrOk c.ldi (c.p 0 4) && !u.arrBusy (c.p 0 4)) := meets_of (by decide +kernel)

theorem witness_fen_create :
    Meets (onRing (up .running) 0 0x0620 1 []) (.ring 0) fenCreateSpec (fun u c =>
      decide (u.fenceUse c.ldi < (u.dom c.ldi).grant.fences)
        && ((u.allocFence c.ldi 0).map Prod.fst) == some (fenceHandle 3 1)) := meets_of (by decide +kernel)

theorem witness_fen_register_producer :
    Meets (onRing (up .running) 0 0x0621 1 (leBytes 4 fence2 ++ leBytes 4 2)) (.ring 0) fenRegisterProducerSpec (fun u c =>
      u.fenceUsable c.ldi (c.p 0 4) && (u.contextsOf c.ldi).any (fun x => x.1 == c.p 4 4 && !x.2.releasing)
        && (u.fence (fenceIndex (c.p 0 4))).state == .armed && (u.fence (fenceIndex (c.p 0 4))).producer == 0
        && !u.fenceOfWindow (c.p 0 4)) := meets_of (by decide +kernel)

theorem witness_fen_destroy :
    Meets (onRing (up .running) 0 0x0622 1 (leBytes 4 fence2)) (.ring 0) fenDestroySpec (fun u c =>
      u.fenceUsable c.ldi (c.p 0 4) && !u.fenceKept (c.p 0 4)) := meets_of (by decide +kernel)

/-! ### Links and groups -/

theorem witness_lnk_port_class : ∀ k ∈ [0, 1, 2],
    Meets (onRing (up .running) 0 0x0310 0 (leBytes 1 3 ++ leBytes 1 k ++ leBytes 2 0)) (.ring 0) lnkPortClassSpec (fun u c =>
      c.p 1 1 == k && decide (c.p 0 1 < u.build.engines)
        && (u.ldisWith (fun d => (d.state == .sealed_ || d.state.flows) && d.boundPort (c.p 0 1))).isEmpty
        && (u.ldisWith (fun d => d.state == .building && d.boundPort (c.p 0 1) && policyRefuses d.policy (c.p 1 1))).isEmpty) := by
  intro k h
  simp only [List.mem_cons, List.not_mem_nil, or_false] at h
  rcases h with rfl | rfl | rfl <;> exact meets_of (by decide +kernel)

theorem witness_lnk_sa_query :
    Meets (onRing (up .running) 0 0x0312 0 (leBytes 2 65535 ++ leBytes 2 1 ++ leBytes 4 0)) (.ring 0) lnkSaQuerySpec (fun _ c =>
      decide (1 ≤ c.p 2 2) && decide (c.p 2 2 ≤ 1024)) := meets_of (by decide +kernel)

/-- The SA to 6 is VALID, that to 8 PENDING. -/
def linked (st : DomState) : State :=
  { up st with shuttle := { sas :=
      [(6, { state := .valid, established := true, peerEpoch := 44, peerSvn := 3 }), (8, { state := .pending })] } }

/-- The premises of `LNK_SA_WARM`. -/
def warms (u : State) (c : Cmd) : Bool :=
  let ps := halves c.params 4 (c.p 0 2)
  c.p 0 2 != 0 && decide (c.p 0 2 ≤ 16384) && ps.eraseDups.length == c.p 0 2 && !ps.contains 0xFFFF && !ps.contains u.boot.devid
    && u.rootUp && u.boot.devidSet && u.keys.identity && u.drbgReady

theorem witness_lnk_sa_warm :
    Meets (onRing (linked .running) 0 0x0311 0 (leBytes 4 1 ++ leBytes 2 7)) (.ring 0) lnkSaWarmSpec (fun u c =>
      warms u c && c.p 2 1 == 0) := meets_of (by decide +kernel)

theorem witness_lnk_sa_warm_settled :
    Meets (onRing (linked .running) 0 0x0311 0 (leBytes 2 1 ++ leBytes 2 1 ++ leBytes 2 6)) (.ring 0) lnkSaWarmSpec (fun u c =>
      warms u c && c.p 2 1 == 1 && ((halves c.params 4 (c.p 0 2)).foldl State.warmSa u).sasSettled [6]) :=
  meets_of (by decide +kernel)

theorem witness_lnk_sa_warm_waits :
    Meets (onRing (linked .running) 0 0x0311 0 (leBytes 2 2 ++ leBytes 2 1 ++ leBytes 2 6 ++ leBytes 2 8)) (.ring 0) lnkSaWarmSpec
      (fun u c => warms u c && c.p 2 1 == 1 && !((halves c.params 4 (c.p 0 2)).foldl State.warmSa u).sasSettled [6, 8]) :=
  meets_of (by decide +kernel)

/-- The premises of `LNK_GROUP_CREATE`. -/
def groups (u : State) (c : Cmd) : Bool :=
  let d := u.dom c.ldi
  groupArgs c d.members && (u.group (groupKeyOf c.ldi (c.p 0 2))).isNone && u.freePoolSlot c.ldi == some 0x800
    && decide (u.replayEntries + ((groupRanks c d.members).filter (fun r => r != d.rank)).length ≤ 262144)

theorem witness_lnk_group_create :
    Meets (onRing (up .building) 0 0x0313 1 (leBytes 2 9 ++ leBytes 2 1 ++ leBytes 4 0)) (.ring 0) lnkGroupCreateSpec (fun u c =>
      groups u c && (groupRanks c 2).foldl min 65535 == (u.dom c.ldi).rank && u.drbgReady) := meets_of (by decide +kernel)

theorem witness_lnk_group_create_waits :
    Meets (onRing (up .building) 0 0x0313 1 (leBytes 2 9 ++ leBytes 2 0 ++ leBytes 4 1 ++ leBytes 2 1)) (.ring 0) lnkGroupCreateSpec
      (fun u c => groups u c && (groupRanks c 2).foldl min 65535 != (u.dom c.ldi).rank && (u.takeHeldKey c.ldi (c.p 0 2)).isNone) :=
  meets_of (by decide +kernel)

theorem witness_group_create_timeout :
    let s := waiting (up .building) (.groupKey 1 9) (.groupCreate 1 9 0x800 1 secTicks)
    Holds { s with shuttle := { s.shuttle with groups := [(groupKeyOf 1 9, {})] } } (fun s =>
      ((s.waitingGroup 1 9).map (fun x => (x.1.overtaken, x.2.1))) == some (false, 0x800) && s.loomUp
        && ((s.group (groupKeyOf 1 9)).map fun x => !x.keyed) == some true) := by decide +kernel

/-! ### Keys, reports, metering -/

/-- LDI 1 holds an ephemeral seed. -/
def withSeed (st : DomState) : State :=
  { up st with keys := { (up st).keys with slots := [(8, { type := 1, ldi := 1, gen := 7, key := 6 }), (13, { type := 7, ldi := 1, gen := 7 })] } }

theorem witness_key_ephemeral_get :
    Meets (onRing (withSeed .sealed_) 0 0x0401 1 []) (.ring 0) keyEphemeralGetSpec (fun u c => (u.ekemPublic c.ldi).isSome) :=
  meets_of (by decide +kernel)

/-- All premises but the two that Config leaves open: that the point is valid and the wrapped key's tag. -/
theorem witness_key_weight_install :
    Meets (inSessionBuf (withSeed .sealed_) 0x0402 (leBytes 1732 77)) (.session 1) keyWeightInstallSpec (fun u c =>
      c.plen == 1732 && !u.hasKeyId c.ldi (c.p 1680 4) && u.freePoolSlot c.ldi == some 0x800 && (u.ekemSeed c.ldi).isSome) :=
  meets_of (by decide +kernel)

theorem witness_key_weight_drop :
    Meets (onRing (withWeight .running) 0 0x0403 1 (leBytes 4 0x800)) (.ring 0) keyWeightDropSpec (fun u c =>
      u.weightSlot c.ldi (c.p 0 2) && !(u.keySlot (c.p 0 2)).busy) := meets_of (by decide +kernel)

theorem witness_att_report :
    Meets (onRing (up .running) 0 0x0501 1 (leBytes 32 5 ++ leBytes 4 1)) (.ring 0) attReportSpec (fun u _ =>
      u.rootUp && u.keys.identity && u.drbgReady) := meets_of (by decide +kernel)

/-- A closed batch 4 of one record of LDI 1, and an open one. -/
def metered : State :=
  { up .running with metering := { nextSeq := 2, nextBatch := 6, batches :=
      [{ number := 4, records := [leBytes 128 1], owners := [(1, 9)], closed := some (leBytes 8 1, [2]) }, { number := 5, firstSeq := 1 }] } }

theorem witness_mtr_read :
    Meets (onRing metered 0 0x0510 0 (leBytes 4 0 ++ leBytes 4 8)) (.ring 0) mtrReadSpec (fun _ c =>
      decide (1 ≤ c.p 4 1) && decide (c.p 4 1 ≤ 8)) := meets_of (by decide +kernel)

theorem witness_mtr_ack :
    Meets (onRing metered 68 0x0511 0 (leBytes 4 4)) (.ring 68) mtrAckSpec (fun u c =>
      ((u.metering.batches.find? (fun b => b.closed.isSome)).map (·.number)) == some (c.p 0 4)) := meets_of (by decide +kernel)

/-! ### Time -/

theorem witness_tim_status : Meets (onRing (up .running) 3 0x0701 0 []) (.ring 3) timStatusSpec (fun _ _ => true) :=
  meets_of (by decide +kernel)

theorem witness_tim_set_servo : ∀ k ∈ [2, 6],
    Meets (onRing (up .running) 0 0x0702 0 (leBytes 1 4 ++ leBytes 1 1 ++ leBytes 1 k ++ leBytes 5 1 ++ leBytes 8 99 ++ leBytes 24 0)) (.ring 0)
      timSetServoSpec (fun u c => c.p 2 1 == k && c.p 3 1 == 1 && u.time.ptpDom != c.p 0 1) := by
  intro k h
  simp only [List.mem_cons, List.not_mem_nil, or_false] at h
  rcases h with rfl | rfl <;> exact meets_of (by decide +kernel)

theorem witness_tim_offset_measure :
    Meets (onRing (up .running) 0 0x0703 1 []) (.ring 0) timOffsetMeasureSpec (fun u c =>
      (u.dom c.ldi).rank == 0 && !(u.offsetOf c.ldi).running && decide (1 < (u.dom c.ldi).members)) := meets_of (by decide +kernel)

theorem witness_tim_offset_measure_alone :
    Meets (onRing ((up .running).setDom 1 { domIn .running with members := 1 }) 0 0x0703 1 []) (.ring 0) timOffsetMeasureSpec
      (fun u c => (u.dom c.ldi).rank == 0 && !(u.offsetOf c.ldi).running && decide ((u.dom c.ldi).members ≤ 1)) :=
  meets_of (by decide +kernel)

/-! ### Debug -/

theorem witness_dbg_cert_present_nonce :
    Meets (onRing (up .running) 69 0x0801 0 (leBytes 8 0)) (.ring 69) dbgCertPresentSpec (fun u c =>
      c.p 0 1 == 0 && c.p 4 4 == 0 && u.drbgReady) := meets_of (by decide +kernel)

/-- All premises but what Config leaves open: what the bytes of the certificate say and that they verify. -/
theorem witness_dbg_cert_present :
    Meets (onRing { up .running with time := { state := .locked } } 69 0x0801 0 (leBytes 4 1 ++ leBytes 4 1 ++ leBytes 1 48)) (.ring 69)
      dbgCertPresentSpec (fun u c => c.p 0 1 == 1 && decide (1 ≤ c.p 4 4) && decide (c.p 4 4 ≤ 65528) && u.timed
        && decide (u.dbg.certs.length < 8)) := meets_of (by decide +kernel)

/-- Certificate 3 is active with all rights. -/
def certified : State := { up .running with dbg := { certs := [(3, { rights := 0xFF, notAfter := 100 })], nextCert := 4 } }

theorem witness_dbg_revoke : ∀ n ∈ [3, 0xFFFFFFFF],
    Meets (onRing certified 0 0x0802 0 (leBytes 4 n)) (.ring 0) dbgRevokeSpec (fun u c =>
      c.p 0 4 == n && (n == 0xFFFFFFFF || (u.dbg.certs.find (c.p 0 4)).isSome)) := by
  intro n h
  simp only [List.mem_cons, List.not_mem_nil, or_false] at h
  rcases h with rfl | rfl <;> exact meets_of (by decide +kernel)

theorem witness_dbg_halt : ∀ n ∈ [0, 4],
    Meets (onRing certified 68 0x0803 0 (leBytes 4 n ++ leBytes 4 (4 * n) ++ leBytes 4 (8 * n) ++ leBytes 4 (12 * n)
      ++ leBytes 4 (16 * n))) (.ring 68) dbgHaltSpec (fun u c =>
        u.right rightHalt && c.p 0 1 == n && (breakpoints c).all (fun a => a % 4 == 0) && u.loom.bps.isEmpty) := by
  intro n h
  simp only [List.mem_cons, List.not_mem_nil, or_false] at h
  rcases h with rfl | rfl <;> exact meets_of (by decide +kernel)

/-- Breakpoints are armed; the cores run or are halted. -/
def armed (halted : Bool) : State :=
  { certified with loom := { certified.loom with bps := [64], halted := halted } }

theorem witness_dbg_resume :
    Meets (onRing (armed false) 68 0x0804 0 []) (.ring 68) dbgResumeSpec (fun u _ => !u.loom.bps.isEmpty) :=
  meets_of (by decide +kernel)

theorem witness_dbg_resume_halted :
    Holds (onRing (armed true) 69 0x0804 0 []) (fun s =>
      s.clocked && s.boot.phase.isRunning && !s.loom.restarting && !s.power.fatal && s.loom.ringsOpen && s.otp.resetDue.isNone && s.loom.halted
        && (match s.waitingCmd (.ring 69) with
          | some c => c.opcode == 0x0804 && (s.fetched c).settle.seqCheck c.path c.seq == .fresh
              && ((s.checked c).firstFailure dbgResumeSpec c).isNone && (s.begun dbgResumeSpec c).inHalt
          | none => false)) := by decide +kernel

/-! ### Counters and trace -/

theorem witness_prf_read :
    Meets (onRing (up .running) 0 0x0811 0 (leBytes 4 0 ++ leBytes 2 2047 ++ leBytes 2 1)) (.ring 0) prfReadSpec (fun u c =>
      (u.readView c).isSome && readRange c) := meets_of (by decide +kernel)

theorem witness_prf_read_domain : ∀ r ∈ [(0, 16), (0x7FF, 1)],
    Meets (onRing (up .running) 0 0x0811 1 (leBytes 4 0 ++ leBytes 2 r.1 ++ leBytes 2 r.2)) (.ring 0) prfReadSpec (fun u c =>
      (u.readView c).isSome && readRange c) := by
  intro r h
  simp only [List.mem_cons, List.not_mem_nil, or_false] at h
  rcases h with rfl | rfl <;> exact meets_of (by decide +kernel)

theorem witness_prf_freeze_at : ∀ l ∈ [0, 1],
    Meets (onRing { up .running with time := { state := .holdover, sec := 5 } } 0 0x0810 l (leBytes 6 6 ++ leBytes 6 0 ++ leBytes 1 l
      ++ leBytes 3 0)) (.ring 0) prfFreezeAtSpec (fun u c =>
        (c.p 12 1 == 0 && c.ldi == 0 || c.p 12 1 == 1 && c.ldi != 0) && u.freezeAhead c.ldi (time12Of c.params) && u.timed
          && !u.counters.armed.any (fun a => a.ldi == c.ldi)) := by
  intro l h
  simp only [List.mem_cons, List.not_mem_nil, or_false] at h
  rcases h with rfl | rfl <;> exact meets_of (by decide +kernel)

theorem witness_trc_config : ∀ m ∈ [0, 3],
    Meets (onRing (up .running) 0 0x0820 0 (leBytes 2 m ++ leBytes 2 0x3FF ++ leBytes 12 0)) (.ring 0) trcConfigSpec (fun _ c =>
      c.ldi == 0 && c.p 0 1 == m && decide (c.p 2 2 < 2 ^ 15)) := by
  intro m h
  simp only [List.mem_cons, List.not_mem_nil, or_false] at h
  rcases h with rfl | rfl <;> exact meets_of (by decide +kernel)

theorem witness_trc_config_consent : ∀ v ∈ [0, 2 ^ 15],
    Meets (inSession (up .running) 0x0820 (leBytes 2 0 ++ leBytes 2 v ++ leBytes 12 0)) (.session 1) trcConfigSpec (fun _ c =>
      c.ldi != 0 && c.p 0 1 == 0 && c.p 4 4 == 0 && c.p 8 4 == 0 && c.p 2 2 == v) := by
  intro v h
  simp only [List.mem_cons, List.not_mem_nil, or_false] at h
  rcases h with rfl | rfl <;> exact meets_of (by decide +kernel)

theorem witness_trc_mark : Meets (onRing (up .running) 0 0x0821 1 (leBytes 8 17)) (.ring 0) trcMarkSpec (fun _ _ => true) :=
  meets_of (by decide +kernel)

theorem witness_trc_read : ∀ n ∈ [1, 2048],
    Meets (onRing (up .running) 0 0x0822 0 (leBytes 8 0 ++ leBytes 4 n ++ leBytes 4 1)) (.ring 0) trcReadSpec (fun _ c =>
      c.p 8 4 == n && decide (c.p 12 1 ≤ 1)) := by
  intro n h
  simp only [List.mem_cons, List.not_mem_nil, or_false] at h
  rcases h with rfl | rfl <;> exact meets_of (by decide +kernel)

/-! ### Life cycle -/

theorem witness_lcs_query : Meets (onRing (up .running) 0 0x0901 0 []) (.ring 0) lcsQuerySpec (fun _ _ => true) :=
  meets_of (by decide +kernel)

/-- The life-cycle state is as given; OTP is blank but for these words. -/
def inLcs (lcs : Nat) (words : Map (BitVec 32)) : State := { up .running with otp := { words := words, lcs := lcs } }

/-- The premises of `LCS_TRANSITION`. -/
def transits (u : State) (c : Cmd) : Bool :=
  decide (c.p 0 1 ≤ 7) && decide (c.p 4 4 ≤ 16384) && u.otp.freeSlot == some 0
    && (match u.otp.transition (c.p 0 1) with
      | some a => authParses a (c.p 0 1) (authOf c) && u.lcsReady (c.p 0 1) (authOf c) && u.authOk a (c.p 0 1) (authOf c)
      | none => false)

theorem witness_lcs_transition :
    Meets (onRing (inLcs 2 []) 68 0x0902 0 (leBytes 8 1)) (.ring 68) lcsTransitionSpec (fun u c => transits u c && u.otp.lcs != 3) :=
  meets_of (by decide +kernel)

theorem witness_lcs_transition_raw :
    Holds (onRing { inLcs 0 [] with boot := { phase := .poll none } } 69 0x0902 0 (leBytes 8 7)) (fun s =>
      s.clocked && !s.power.fatal && !s.loom.restarting && s.otp.lcs == 0 && s.otp.resetDue.isNone && s.boot.phase == .poll none
        && (match s.waitingCmd (.ring 69) with
          | some c => c.opcode == 0x0902 && (s.fetched c).settle.seqCheck c.path c.seq == .fresh
              && ((s.checked c).firstFailure lcsTransitionSpec c).isNone && transits (s.begun lcsTransitionSpec c) c
          | none => false)) := by decide +kernel

theorem witness_lcs_transition_reset_timer :
    Holds { up .running with otp := { resetDue := some 8 } } (fun s => s.otp.resetDue == some 8 && s.clocked) := by decide +kernel

theorem witness_lcs_token_unlock :
    Meets (onRing (inLcs 1 [(0x190, 5)]) 69 0x0903 0 (leBytes 32 8)) (.ring 69) lcsTokenUnlockSpec (fun u _ =>
      u.otp.lcs == 1 && u.otp.tokensLeft == [0] && decide (u.otp.mismatches < 3) && u.otp.freeSlot == some 0) :=
  meets_of (by decide +kernel)

theorem witness_lcs_zeroize :
    Meets (onRing (up .running) 68 0x0904 0 (leBytes 4 0x4F52455A)) (.ring 68) lcsZeroizeSpec (fun _ c => c.p 0 4 == 0x4F52455A) :=
  meets_of (by decide +kernel)

theorem witness_fu_rsp : Holds { up .running with otp := { busy := some { addr := 7, bits := 1 } } } (fun s => s.otp.busy.isSome && s.clocked) ∧
    Holds { up .running with otp := { busy := some { addr := 7, bits := 1 } }, power := { rootValid := false } } (fun s =>
      s.otp.busy.isSome && !s.clocked) := by
  decide +kernel

/-! ### Migration -/

/-- A migration stands on LDI 1. -/
def migrating (st : DomState) (frozen : Bool) (m : Migration) : State :=
  (linked st).setDom 1 { domIn st with frozen := frozen, mig := some m }

theorem witness_mig_freeze :
    Meets (onRing (linked .quiescing) 0 0x0A01 1 (leBytes 8 6 ++ leBytes 8 44)) (.ring 0) migFreezeSpec (fun u c =>
      c.p 0 2 != 0xFFFF && c.p 0 2 != u.boot.devid && !(u.dom c.ldi).frozen && (u.sa (c.p 0 2)).peerEpoch == c.p 8 8
        && u.saValid (c.p 0 2) && decide (u.boot.fwSvn ≤ (u.sa (c.p 0 2)).peerSvn)) := meets_of (by decide +kernel)

theorem witness_mig_freeze_answer_timeout :
    Holds (waiting (linked .quiescing) (.policy 1) (.freezePolicy 1 6 0x800 9 0)) (fun s =>
      ((s.loom.journal.find? (fun e => (e.waitsPolicy 1).isSome)).map (fun e => (e.waitsPolicy 1, e.overtaken)))
        == some (some (0x800, 9), false) && s.loomUp) := by decide +kernel

theorem witness_mig_export_state :
    Meets (onRing (migrating .quiescing true { peer := 6, slot := 0x800 }) 0 0x0A02 1 (leBytes 16 0 ++ leBytes 8 0 ++ leBytes 8 4096)) (.ring 0)
      migExportSpec (fun u c => c.p 0 1 == 0 && c.p 4 4 == 0 && c.p 8 4 == 0 && (u.dom c.ldi).frozen
        && (match (u.dom c.ldi).mig with
          | some m => !m.stateDone && decide (80 + (u.stateRecords c.ldi m.nextIndex).length ≤ c.p 24 8)
          | none => false)) := meets_of (by decide +kernel)

theorem witness_mig_export_granules :
    Meets (onRing (migrating .quiescing true { peer := 6, slot := 0x800 }) 0 0x0A02 1 (leBytes 4 1 ++ leBytes 4 5 ++ leBytes 8 1 ++ leBytes 8 0
      ++ leBytes 8 (80 + 65536))) (.ring 0) migExportSpec (fun u c =>
        c.p 0 1 == 1 && decide (1 ≤ c.p 8 4) && decide (c.p 8 4 ≤ 4096) && decide (c.p 4 4 + c.p 8 4 ≤ granuleTop)
          && decide (80 + 65536 * c.p 8 4 ≤ c.p 24 8) && (span (c.p 4 4) (c.p 8 4)).all (u.owns c.ldi) && (u.dom c.ldi).frozen
          && ((u.dom c.ldi).mig.map (·.stateDone)) == some false) := meets_of (by decide +kernel)

theorem witness_mig_import :
    Meets (onRing (migrating .building false { source := false, peer := 6, slot := 0x800 }) 0 0x0A03 1 (leBytes 8 0 ++ leBytes 8 80)) (.ring 0)
      migImportSpec (fun u c => ((u.dom c.ldi).mig.map (·.source)) == some false && decide (80 ≤ c.p 8 8)
        && decide (c.p 8 8 ≤ 80 + 65536 * 4096)) := meets_of (by decide +kernel)

theorem witness_mig_thaw :
    Meets (onRing (migrating .quiescing true { peer := 6, slot := 0x800, nextIndex := 2 }) 0 0x0A04 1 []) (.ring 0) migThawSpec
      (fun u c => ((u.dom c.ldi).mig.map (·.source)) == some true) := meets_of (by decide +kernel)

theorem witness_mig_thaw_destination :
    Meets (onRing (migrating .building false { source := false, stateDone := true, imported := [0, 1], reserved := some { gparts := 1 } })
      0 0x0A04 1 []) (.ring 0) migThawSpec (fun u c => ((u.dom c.ldi).mig.map (fun m => (m.source, m.complete.isSome)))
        == some (false, true)) := meets_of (by decide +kernel)

/-! ### Streams, sensors, the log -/

/-- LDI 1 has the stream 4 open under job seed 9. -/
def streaming : State :=
  let s := (up .running).setDom 1 { domIn .running with jobSeed := some 9 }
  { s with spindle := { streams := [{ stream := 4, ldi := 1, pulled := 12 }] } }

theorem witness_spn_stream_open : ∀ s ∈ [up .sealed_, streaming],
    Meets (onRing s 0 0x0B01 1 (leBytes 16 9 ++ leBytes 8 5)) (.ring 0) spnStreamOpenSpec (fun u c =>
      !u.build.pool && ((u.streamsOf c.ldi).isEmpty || (u.dom c.ldi).jobSeed == some (BitVec.ofNat 128 (c.p 0 16)))
        && (u.streamsOf c.ldi).all (fun y => y.stream != c.p 16 4) && decide (u.spindle.streams.length < 4096)
        && decide ((u.streamsOf c.ldi).length < 256)) := by
  intro s h
  simp only [List.mem_cons, List.not_mem_nil, or_false] at h
  rcases h with rfl | rfl <;> exact meets_of (by decide +kernel)

theorem witness_spn_stream_close :
    Meets (onRing streaming 0 0x0B02 1 (leBytes 4 4)) (.ring 0) spnStreamCloseSpec (fun u c => (u.stream c.ldi (c.p 0 4)).isSome) :=
  meets_of (by decide +kernel)

theorem witness_sns_status : ∀ n ∈ [1, 1024],
    Meets (onRing (up .running) 0 0x0B10 0 (leBytes 2 0 ++ leBytes 2 n)) (.ring 0) snsStatusSpec (fun _ c => c.p 2 2 == n) := by
  intro n h
  simp only [List.mem_cons, List.not_mem_nil, or_false] at h
  rcases h with rfl | rfl <;> exact meets_of (by decide +kernel)

theorem witness_sns_cal_window : ∀ n ∈ [1, 60000],
    Meets (onRing (up .running) 0 0x0B11 0 (leBytes 2 1 ++ leBytes 2 n)) (.ring 0) snsCalWindowSpec (fun u c =>
      c.p 0 1 == 1 && u.baro.window.isNone && c.p 2 2 == n) := by
  intro n h
  simp only [List.mem_cons, List.not_mem_nil, or_false] at h
  rcases h with rfl | rfl <;> exact meets_of (by decide +kernel)

theorem witness_sns_cal_window_close :
    Meets (onRing { up .running with baro := { window := some 5 } } 0 0x0B11 0 (leBytes 4 0)) (.ring 0) snsCalWindowSpec (fun u c =>
      c.p 0 1 == 0 && c.p 2 2 == 0 && u.baro.window.isSome) := meets_of (by decide +kernel)

theorem witness_rcv_log_read : ∀ n ∈ [1, 1024],
    Meets (onRing (up .running) 0 0x0C01 0 (leBytes 8 0 ++ leBytes 8 n)) (.ring 0) rcvLogReadSpec (fun _ c => c.p 8 2 == n) := by
  intro n h
  simp only [List.mem_cons, List.not_mem_nil, or_false] at h
  rcases h with rfl | rfl <;> exact meets_of (by decide +kernel)

theorem witness_rcv_log_clear :
    Meets (onRing { up .running with log := { newest := 5, nextSeq := 6, places := [(4, leBytes 2 0x0501 ++ leBytes 6 5)] } } 0 0x0C02 0
      (leBytes 8 5)) (.ring 0) rcvLogClearSpec (fun u c => decide (c.p 0 8 < 2 ^ 48) && seqLe (c.p 0 8) u.log.newest) :=
  meets_of (by decide +kernel)

theorem witness_rcv_dump_read : ∀ d ∈ [none, some ({} : Dump)],
    Meets (onRing { up .running with loom := { (up .running).loom with dump := d } } 0 0x0C03 0 (leBytes 4 (dumpSize - 64) ++ leBytes 4 64))
      (.ring 0) rcvDumpReadSpec (fun u c => c.p 0 4 % 64 == 0 && c.p 4 4 % 64 == 0 && decide (1 ≤ c.p 4 4) && decide (c.p 4 4 ≤ 65536)
        && decide (c.p 0 4 + c.p 4 4 ≤ dumpSize) && u.loom.dump == d) := by
  intro d h
  simp only [List.mem_cons, List.not_mem_nil, or_false] at h
  rcases h with rfl | rfl <;> exact meets_of (by decide +kernel)

/-! ### Registers -/

/-- A write of eight bytes by function 0. -/
def wr (addr : Nat) (data : BitVec 64) : RegWrite := ⟨.func 0 false, addr, data, 0xFF⟩

theorem witness_ring_tail_write : ∀ x ∈ [(16, true), (17, false), (0, false)],
    Holds (up .running) (fun s =>
      let w := wr 0x2000 (BitVec.ofNat 64 x.1)
      let v := writeOnto w (s.ring 0).tail % 2 ^ 32
      let step := (v + 2 ^ 32 - (s.ring 0).tail) % 2 ^ 32
      s.takesOn (.func 0 false) && writeKind w == some (.tail 0) && !writesMgmt w && (writeMask w).toNat % 2 ^ 32 != 0 && !s.holdsTail 0
        && (decide (1 ≤ step) && decide (step ≤ 16) && decide ((v + 2 ^ 32 - (s.ring 0).reply) % 2 ^ 32 ≤ 16) && !s.ringClosed 0) == x.2) := by
  decide +kernel

theorem witness_ring_tail_write_held :
    Holds { up .running with loom := { ringsOpen := false } } (fun s =>
      s.takesOn (.func 0 false) && writeKind (wr 0x2000 1) == some (.tail 0) && s.holdsTail 0) := by decide +kernel

theorem witness_register_writes :
    Holds (up .running) (fun s => s.takesOn (.func 0 false) && writeKind (wr 0x3000 1) == some .evStatus
      && writeKind (wr 0x3028 1) == some (.evMap false 3) && writeKind (wr 0x3030 1) == some (.evMap true 0)
      && writeKind (wr 0x3008 1) == some .evEnable && writeKind (wr 0x2018 (1 <<< 32)) == some (.evt 0)
      && !writesMgmt (wr 0x2018 (1 <<< 32)) && writeKind (wr 0x1010 6) == some .clock && s.power.phase != .por) := by decide +kernel

theorem witness_device_register_writes : ∀ x ∈ [(5, false), (0xFFFF, false), (5, true)],
    Holds { up .running with boot := { phase := .running 1, devidSet := x.2 } } (fun s =>
      s.takesOn (.func 0 false) && writeKind (wr 0x0010 (BitVec.ofNat 64 x.1)) == some .devid && s.boot.devidSet == x.2
        && (writeMask (wr 0x0010 (BitVec.ofNat 64 x.1))).toNat % 65536 != 0
        && (writeOnto (wr 0x0010 (BitVec.ofNat 64 x.1)) s.boot.devid % 65536 == 0xFFFF) == (x.1 == 0xFFFF)) := by decide +kernel

theorem witness_service_register_writes :
    Holds { certified with loom := { certified.loom with halted := true } } (fun s =>
      s.takesOn (.func 0 false) && writeKind (wr 0x4000 1) == some .snap && (writeClears (wr 0x4000 1)).getLsbD 0
        && writeKind (wr 0x101FF8 7) == some (.coreReg 0xFF8) && s.right 4 && s.loom.halted && s.right 5
        && writeKind (wr 0x200000 1) == some (.mailbox 0) && !writesMgmt (wr 0x200000 1) && mailboxWritable 0
        && decide (Memory.wf s.mailbox = true)) := by decide +kernel

/-! ### Binding port, boot, supply -/

theorem witness_binding_events :
    Holds { up .running with
      tables := { (up .running).tables with fenceQ := [{ ldi := 1, handle := fence2 }] }, bp := { nextSync := 2 ^ 32, acked := 0 } } (fun s =>
        s.takesInput && !s.tables.fenceQ.isEmpty && decide (s.bp.acked < 2 ^ 32 - 1) && decide (2 ^ 32 - 1 < s.bp.nextSync)
          && decide (s.bp.nextSync ≤ s.bp.acked + 2 ^ 32) && (s.dom 1).state.live && s.loomUp) ∧
    -- BP_ACK of a SEQ acknowledged before, and of one not yet published.
    Holds { up .running with bp := { nextSync := 7, acked := 5 } } (fun s => s.takesInput
      && decide (1 ≤ 5 ∧ 5 ≤ s.bp.acked ∧ s.bp.acked < 5 + 2 ^ 31 ∧ s.bp.nextSync ≤ 5 + 2 ^ 32)
      && decide (s.bp.acked < 7 ∧ s.bp.nextSync ≤ 7 ∧ 7 < s.bp.acked + 2 ^ 31)) := by decide +kernel

theorem witness_bp_in_report :
    Holds { up .running with tables := { (up .running).tables with
      fences := [(2, { ldi := 1, producer := 2, state := .armed, epoch := 1 })] } } (fun s =>
        s.takesInput && s.settle.reportOk 1 fence2 2 && !s.settle.reportOk 1 fence2 3) := by decide +kernel

theorem witness_boot_rom_start :
    Holds State.reset (fun s => s.clocked && s.boot.phase == .rom) := by decide +kernel

/-- The ROM polls, in TEST_LOCKED. -/
def polling (q : Option Nat) : State := { (State.reset) with otp := { lcs := 1 }, boot := { phase := .poll q } }

/-- A boot descriptor of SEQ 3 whose pieces are empty (R481). -/
def descriptor : Bytes := leBytes 4 0x42435443 ++ leBytes 4 3 ++ leBytes 56 0

theorem witness_boot_descriptor_poll : ∀ x ∈ [((⟨[], [], [], false⟩ : BootRead), none, false), (⟨descriptor, [], [], false⟩, none, true),
      (⟨descriptor, [], [], true⟩, some 2, true), (⟨descriptor, [], [], false⟩, some 3, true)],
    Holds (polling x.2.1) (fun s => s.clocked && !s.power.fatal && s.boot.phase == .poll x.2.1
      && descValid x.1.desc == x.2.2) := by decide +kernel

/-- An image that is accepted rests on what Config leaves open: its digest, its certificates and its signature. -/
theorem witness_boot_image_refused :
    Holds (polling none) (fun s => descValid descriptor && (none : Option Nat) != some (descSeq descriptor)
      && ((s.emitAll (bootReads descriptor)).imageRefused ⟨descriptor, [], [], true⟩).isSome) := by decide +kernel

theorem witness_boot_bundle_poll :
    Holds { up .running with keys := { rootReady := true } } (fun s => s.loomUp && !s.keys.identity && !s.keys.zeroized
      && s.boot.phase == .running 1 && descValid descriptor && descSeq descriptor != 1) := by decide +kernel

theorem witness_ports_open :
    Holds { up .running with loom := {} } (fun s => s.loomUp && s.boot.devidSet && !s.loom.portsOpen) := by decide +kernel

theorem witness_supply_and_entropy :
    Holds { up .running with
        power := { hold := true }, otp := { job := [{ addr := 1, bits := 1 }] } } (fun s =>
      s.clocked && s.power.hold && s.otp.busy.isNone && s.drbgReady && !s.entropy.testing) ∧
    Holds { State.reset with entropy := { tries := 2 } } (fun s => s.clocked && s.entropy.testing && s.entropy.tries == 2) := by
  decide +kernel

/-! ### Resets -/

theorem witness_reset_requests :
    Holds (up .running) (fun s => s.power.rootValid && s.power.phase == .idle && s.otp.busy.isNone && s.loom.abortsDue.isEmpty) ∧
    Holds { up .running with power := { rootValid := false } } (fun s => !s.power.rootValid && s.power.phase == .idle) ∧
    Holds { up .running with power := { phase := .por } } (fun s => s.power.phase == .por && s.power.rootValid) ∧
    Holds { up .running with otp := { busy := some {} } } (fun s => s.power.phase == .idle && s.otp.busy.isSome) ∧
    Holds { up .running with power := { phase := .held .core 0x22 false true false } } (fun s =>
      s.power.phase == .held .core 0x22 false true false && s.power.rootValid) := by decide +kernel

theorem witness_resets :
    Holds { up .running with power := { phase := .due .system 0x10 false false true } } (fun s =>
      s.power.phase == .due .system 0x10 false false true && s.power.rootValid && s.otp.busy.isNone) ∧
    (∀ bad ∈ [true, false], Holds { up .running with
      power := { phase := .due .core 0x20 true false false }, boot := { phase := .running 1, imageBad := bad } } (fun s =>
        s.power.phase == .due .core 0x20 true false false && s.boot.phase == .running 1 && s.boot.imageBad == bad
          && s.loom.journal.isEmpty && s.loom.abortsDue.isEmpty && s.otp.job.isEmpty)) ∧
    Holds { State.reset with power := { phase := .due .core 0x20 true false false } } (fun s => !s.boot.phase.loaded) ∧
    Holds { up .running with power := { phase := .due .system 0x10 false false true }, baro := { window := some 9 } } (fun s =>
      s.power.phase == .due .system 0x10 false false true && s.power.rootValid && s.baro.window.isSome) := by
  decide +kernel

/-! ### Faults -/

theorem witness_instance_faults :
    Holds { up .running with weft := { integQ := [{}] } } (fun s => s.loomUp && !s.weft.integQ.isEmpty) ∧
    Holds (up .running) (fun s => s.clocked && !s.power.fatal && decide (31 < s.build.lanes) && !(s.lane 31).dead
      && !(s.lane 31).flushing && (s.failureEndsHalt.weft.spares.find (31 / 32)).isNone && decide (3 < s.build.engines)
      && !(s.engine 3).dead && (s.failureEndsHalt.shuttle.spares.find (3 / 12)).isNone && !(s.unit 11).dead
      && s.failureEndsHalt.batten.spare.isNone) ∧
    Holds { up .running with weft := { spares := [(0, 4)], lanes := [(2, { flushing := true })] } } (fun s =>
      (s.failureEndsHalt.weft.spares.find 0).isSome && (s.lane 2).flushing) ∧
    Holds (let s := up .running; { s with shuttle := { s.shuttle with spares := [(0, 4)] }, batten := { spare := some 5 } }) (fun s =>
      s.clocked && decide (3 < s.build.engines) && !(s.engine 3).dead && (s.failureEndsHalt.shuttle.spares.find (3 / 12)).isSome
        && !(s.unit 11).dead && s.failureEndsHalt.batten.spare.isSome) := by decide +kernel

theorem witness_loom_faults :
    Holds (up .running) (fun s => s.clocked && !s.power.fatal && (s.numberOf 0x500).isNone && s.loomUp && s.loom.expiries.isEmpty
      && s.power.phase == .idle && s.power.rootValid && s.otp.busy.isNone && s.loom.abortsDue.isEmpty) ∧
    Holds { up .running with log := { queue := [leBytes 2 0x0501 ++ leBytes 62 1], nextSeq := 2 } } (fun s =>
      s.clocked && s.settle.log.queue == [leBytes 2 0x0501 ++ leBytes 62 1]) := by decide +kernel

theorem witness_abort : Holds (up .running) (fun s => !(s.dom 1).retiring && (s.dom 1).state.abortable && s.loomRuns) ∧
    Holds { up .running with loom := { halted := true } } (fun s => (s.dom 1).state.abortable && !s.loomRuns) ∧
    Holds (up .retired) (fun s => !(s.dom 1).state.abortable) := by decide +kernel

/-! ### Checks, replies, suspended commands -/

/-- The command of a ring with its checks 1 to 8 behind it. -/
def front (s : State) (p : State → Cmd → Bool) : Bool :=
  match s.waitingCmd (.ring 0) with
  | some c => s.fetches (.ring 0) && p s c
  | none => false

theorem witness_checks_in_order :
    Holds (onRing (up .running) 0 0x0101 0 []) (fun s => front s (fun s c =>
      c.opcode == domCreateSpec.opcode && c.hver == 1 && !domCreateSpec.formOk c && (s.checked c).inScope domCreateSpec c
        && ((s.checked c).firstFailure domCreateSpec c).isSome)) ∧
    Holds (onRing (up .running) 0 0x0803 0 []) (fun s => front s (fun s c =>
      c.opcode == dbgHaltSpec.opcode && dbgHaltSpec.perm[c.cls.column]? == some .none && ((s.checked c).firstFailure dbgHaltSpec c).isSome)) ∧
    Holds { onRing (up .running) 0 0x0304 1 (leBytes 4 1) with power := { hold := true } } (fun s => front s (fun s c =>
      c.opcode == cmpRebindCommitSpec.opcode && cmpRebindCommitSpec.formOk c && s.power.hold)) ∧
    Holds { onRing (up .running) 0 0x0201 1 (leBytes 4 0 ++ leBytes 4 1 ++ leBytes 4 9) with power := { hold := true } } (fun s =>
      front s (fun s c => memAssignSpec.formOk c && ((s.checked c).extShort memAssignSpec c).isNone && memAssignSpec.hold c
        && (s.checked c).inScope memAssignSpec c && s.power.hold)) := by decide +kernel

theorem witness_sequence_checks :
    let s := onRing (up .running) 0 0x0901 0 []
    Holds (s.setRing 0 { tail := 1, next := 1, replyLog := [{ seq := 0, reply := leBytes 64 0 }] }) (fun s => front s (fun s c =>
      (s.fetched c).settle.seqCheck c.path c.seq == .duplicate (leBytes 64 0))) ∧
    Holds (s.setRing 0 { tail := 1, next := 1 }) (fun s => front s (fun s c =>
      (s.fetched c).settle.seqCheck c.path c.seq == .outside)) := by decide +kernel

theorem witness_ring_reply : Holds (up .running) (fun s => decide (Memory.wf s.mailbox = true)
    && ({ path := .ring 0, slot := 15 } : JEntry).path == .ring 0 && decide (15 < 16)) := by decide +kernel

theorem witness_journal_step_resume :
    ∀ k ∈ [Cont.reply [1], .quiesce 1, .transition 1, .measure 1], Holds (waiting (up .quiescing) .ready k) (fun s =>
      (s.settle.loom.journal.find? (fun e => e.jid == 4)).isSome && s.settle.stepsRun
        && (s.settle.loom.journal.all (fun e => s.settle.waitHolds e))) := by decide +kernel

/-- A control message from 6 waits. -/
def heard (s : State) (type : Nat) (body : Bytes) : State :=
  { s with shuttle := { s.shuttle with ctrlIn := [{ peer := 6, type := type, body := body }] } }

/-- A PEER command (R254): the 4 bytes that say so, then its slot. -/
def peerBody (op : Nat) : Bytes := leBytes 4 0 ++ padTo 256 (slotOf op 0 2 65536 [])

theorem witness_peer_cmd : ∀ op ∈ [0x0901, 0x0101, 0x7777],
    Holds (heard (linked .running) 0x0D (peerBody op)) (fun s =>
      (s.takeMsg 6 0x0D (fun b => fieldAt b 0 1 == 0 && b != [])).isSome && s.peersServed && s.clocked
        && (s.shuttle.ctrlIn.all (fun m => decide (260 ≤ m.body.length) && (peerCommand 6 m.body).opcode == op
          && (peerCommand 6 m.body).hver == 1))) := by decide +kernel

theorem witness_peer_reply :
    Holds (heard (linked .running) 0x0D (leBytes 4 1 ++ leBytes 64 0)) (fun s =>
      s.clocked && (s.takeMsg 6 0x0D (fun b => fieldAt b 0 1 == 1)).isSome) := by decide +kernel

/-! ### Weft -/

/-- The lane of the line 5120, the first of granule 5. -/
def lane5 : Nat := (up .running).build.laneOf 5120

/-- A request for the line 5120 by LDI 1. -/
def hpReq (op : Nat) (be : BitVec 64) : HpReq := ⟨lane5, op, 5120, 1, 2, 0, 0, 0, 9, 0xAB, be⟩

/-- The lane of the line holds the GOT entry of granule 5. -/
def lineState (l : Lane) : State :=
  { up .running with weft := { lanes := [(lane5, { l with got := [5] })] } }

/-- `LaneTakes` as a check. -/
def takes (s : State) (r : HpReq) (op : LineOp) : Bool :=
  s.hpReady r op && r.op == op.code && !hpBadForm r op && s.build.laneOf r.dli == r.lane && !(s.lane r.lane).dead
    && (s.lane r.lane).got.contains (granuleOf r.dli) && !(s.lane r.lane).misses.any (fun m => m.1 == granuleOf r.dli)
    && !s.keyless r.ldi && !(s.lane r.lane).blocked r.dli && (s.lane r.lane).lastRead (hpLine r .read) == none

theorem takes_iff (s : State) (r : HpReq) (op : LineOp) : takes s r op = true ↔ LaneTakes s r op := by
  simp only [takes, LaneTakes, Bool.and_eq_true, Bool.not_eq_true', beq_iff_eq, and_assoc]

/-- A write of the line stands accepted in the ingress buffer. -/
def writtenLane : Lane := { ingress := [{ req := { op := .full, dli := 5120, ldi := 1, gen := 7, data := 0xCD } }], nextEntry := 1 }

/-- The tag of the line is held in the Selvedge buffer. -/
def taggedLane : Lane :=
  { selv := [{ psel := (up .running).build.psel 5120, fields := List.replicate 8 { tag := 0x77, valid := true } }] }

theorem witness_hp_read :
    Holds (lineState writtenLane) (fun s =>
      takes s (hpReq 0 0) .read && s.gotCheck (s.checkC2 (hpLine (hpReq 0 0) .read)) == stOk
        && ((s.lane lane5).forward 5120).isSome) ∧
    Holds (lineState taggedLane) (fun s =>
      takes s (hpReq 0 0) .read && s.gotCheck (s.checkC2 (hpLine (hpReq 0 0) .read)) == stOk
        && ((s.lane lane5).forward 5120).isNone && (s.lane lane5).tagHeld (s.build.psel 5120) (s.build.tagField 5120) == some 0x77
        && (s.lane lane5).freeTags 1 == some [0]) ∧
    Holds ((lineState {}).setDom 1 (domIn .aborted)) (fun s =>
      takes s (hpReq 0 0) .read && s.gotCheck (s.checkC2 (hpLine (hpReq 0 0) .read)) == stAborted) := by
  decide +kernel

theorem witness_hp_write :
    Holds (lineState {}) (fun s =>
      takes s (hpReq 1 0) .full && s.gotCheck (s.checkC2 (hpLine (hpReq 1 0) .full)) == stOk
        && s.selvReady ((s.lane lane5).gotTouch 5) (s.checkC2 (hpLine (hpReq 1 0) .full))
        && !(s.lane lane5).failing.contains (5120, 1) && !(s.lane lane5).overflow.contains 1) ∧
    Holds (lineState writtenLane) (fun s =>
      takes s (hpReq 2 1) .masked && s.gotCheck (s.checkC2 (hpLine (hpReq 2 1) .masked)) == stOk
        && s.selvReady ((s.lane lane5).gotTouch 5) (s.checkC2 (hpLine (hpReq 2 1) .masked))
        && ((s.lane lane5).forward 5120).isSome) := by decide +kernel

/-- The same with an arrival counter of the LDI, and with one that is not allocated. -/
theorem witness_hp_write_arrival : ∀ x ∈ [(1, true), (2, false)],
    let s := { lineState writtenLane with tables := { (up .running).tables with arrs := [(1, { ldi := 1, bytes := 64 })] } }
    let full := { hpReq 1 0 with arr := x.1 }
    let masked := { hpReq 2 1 with arr := x.1 }
    Holds s (fun s => takes s full .full && takes s masked .masked && s.arrOk 1 x.1 == x.2 && (s.tables.arrs.find x.1).isSome == x.2
      && s.gotCheck (s.checkC2 (hpLine full .full)) == stOk && s.gotCheck (s.checkC2 (hpLine masked .masked)) == stOk
      && s.gotCheck (hpLine full .full) == stOk && s.gotCheck (hpLine masked .masked) == stOk
      && s.selvReady ((s.lane lane5).gotTouch 5) (s.checkC2 (hpLine full .full))
      && s.selvReady ((s.lane lane5).gotTouch 5) (s.checkC2 (hpLine masked .masked))
      && !(s.lane lane5).failing.contains (5120, 1) && !(s.lane lane5).overflow.contains 1
      && ((s.lane lane5).forward 5120).isSome) := by
  intro x h
  simp only [List.mem_cons, List.not_mem_nil, or_false] at h
  rcases h with rfl | rfl <;> decide +kernel

/-- A read group that waits for its data, whose stored tag is x. -/
def outstanding (x : BitVec 64) : ReadGroup :=
  { req := { op := .read, dli := 5120, ldi := 1, gen := 7, tag := 9, order := some 0 }, dataTag := some 3, storedTag := some x }

/-- It holds for the tag that the line must have, and for every other. -/
theorem witness_mp_read_return (x : BitVec 64) :
    let s : State := lineState { reads := [outstanding x] }
    s.clocked = true ∧ (s.lane lane5).flushing = false ∧ (s.lane lane5).reads = [outstanding x] ∧ (s.lane lane5).owed = [] ∧
      (s.lane lane5).held = [] ∧ (outstanding x).dataTag = some 3 ∧ (outstanding x).data = none ∧ (outstanding x).plain = none ∧
      (outstanding x).req.order = some (outstanding x).id ∧ (outstanding x).cancelled = 0 ∧
      (outstanding x).dramUe = false ∧ (s.dom 1).gen = 7 ∧ s.keyless 1 = false ∧
      (s.dom 1).state ≠ .aborted ∧ (s.lane lane5).failing.length < 256 :=
  ⟨rfl, rfl, rfl, rfl, rfl, rfl, rfl, rfl, rfl, rfl, rfl, rfl, rfl,
    show DomState.running ≠ DomState.aborted by decide, show 0 < 256 by decide⟩

theorem witness_lane_events :
    Holds (lineState { misses := [(5, [{ dli := 5120, ldi := 1 }])] }) (fun s => s.clocked
      && (s.lane lane5).misses.any (fun m => m.1 == 5) && !(s.lane lane5).flushing) ∧
    Holds (lineState { writtenLane with group := some ((up .running).build.lrow 5120, [0]) }) (fun s =>
      let es := (s.lane lane5).entriesOf [0]
      !(s.lane lane5).flushing && (s.lane lane5).group == some (s.build.lrow 5120, [0]) && (s.lane lane5).held.isEmpty &&
      ((s.lane lane5).freeTags (es.length + (s.build.selvLines es).length)).isSome && es.length == 1) ∧
    Holds (lineState { writtenLane with writes := [(4, .data 0)] }) (fun s =>
      ((s.lane lane5).writes.find? (fun w => w.1 == 4)).isSome) ∧
    Holds { up .running with weft := { scrubQ := [{ granule := 5, ldi := 1, gen := 7, next := 1023 }] } } (fun s =>
      !s.weft.scrubQ.isEmpty && !s.inHalt && !s.loom.restarting && !s.power.fatal) := by decide +kernel

/-! ### Shuttle -/

/-- A domain that binds port 2, with its SA to 6 and POLICY sent there. -/
def meshed : State :=
  let s := (linked .running).setDom 1 (bound .running)
  s.setSa 6 { s.sa 6 with policy := [(9, { sent := true, got := some 0 })] }

/-- A packet of LDI 1 to 6 with this payload. -/
def pkt (payload : Bytes) (mapgen dest : Nat) : EgressPkt := ⟨2, [], 1, dest, false, 0, 1, 2, 0, mapgen, 0, payload⟩

/-- An ATOMIC request (R119, R128): KIND 3, AOP 1, an 8-byte operand. -/
def atomicReq (aseq : Nat) : Bytes :=
  leBytes 8 3 ++ leBytes 4 aseq ++ leBytes 4 0 ++ leBytes 2 0 ++ leBytes 1 1 ++ leBytes 5 0 ++ leBytes 4 5120 ++ leBytes 1 0 ++ leBytes 1 4 ++ leBytes 18 0

/-- Where every SA has counters left, none is spent. -/
theorem never_spent (s : State) (h : ∀ x ∈ s.shuttle.sas, x.2.canCount = true) (q : Nat) : s.spent q = false := by
  unfold State.spent
  have e : (s.sa q).canCount = true := by
    show (Map.findD s.shuttle.sas q {}).canCount = true
    generalize s.shuttle.sas = l at h
    induction l with
    | nil => rfl
    | cons a l ih =>
      have i := ih fun x m => h x (List.mem_cons_of_mem _ m)
      by_cases e : a.1 = q
      · simpa [Map.findD, Map.find, e] using h a List.mem_cons_self
      · simpa [Map.findD, Map.find, e] using i
  simp [e]

theorem witness_none_spent : (∀ q, meshed.spent q = false) ∧
    (∀ st ∈ [DomState.running, .sealed_], ∀ q, (meshed.setDom 1 { bound st with policy := 4 }).spent q = false) :=
  ⟨never_spent _ (by decide +kernel), fun st h => by
    simp only [List.mem_cons, List.not_mem_nil, or_false] at h
    rcases h with rfl | rfl <;> exact never_spent _ (by decide +kernel)⟩

/-- The SA to 6 has one counter left, and POLICY has not gone there; its POLICY takes the counter. -/
def lastCounter : State := meshed.setSa 6 { meshed.sa 6 with txNext := ctrEnd - 1, policy := [] }

theorem witness_egress_last_counter : (∀ q, lastCounter.spent q = false) ∧
    Holds lastCounter (fun s => s.portsUp && s.portUp 2 && s.egressCheck (pkt (leBytes 16 0) 0 6) == .sent
      && (s.sa 6).txNext + 1 == ctrEnd && !(s.exch 6 (s.dom 1).gdid).sent) := ⟨never_spent _ (by decide +kernel), by decide +kernel⟩

/-- A fast REDUCE of no line, under DET. -/
theorem witness_egress_malformed :
    Holds (meshed.setDom 1 { bound .running with policy := 4 }) (fun s => s.portsUp && s.portUp 2
      && s.egressCheck (pkt (leBytes 24 4) 0 6) == .malformed) := by decide +kernel

theorem witness_egress_packet :
    Holds meshed (fun s => s.portsUp && s.portUp 2 && decide ((s.sa 6).txNext + 1 < ctrEnd)
      && s.egressCheck (pkt (leBytes 16 0) 0 6) == .sent && kindOf (leBytes 16 0) != kAtomic
      && (s.exch 6 (s.dom 1).gdid).sent) ∧
    Holds meshed (fun s => s.egressCheck (pkt (atomicReq 0) 0 6) == .sent && kindOf (atomicReq 0) == kAtomic) ∧
    Holds meshed (fun s => s.egressCheck (pkt (leBytes 16 0) 0 7) == .needSa) ∧
    Holds meshed (fun s => s.egressCheck (pkt (leBytes 16 0) 5 6) == .staleMap) ∧
    Holds (meshed.setDom 1 (bound .sealed_)) (fun s => s.egressCheck (pkt (leBytes 16 0) 0 6) == .refused stState) := by decide +kernel

/-- The domain of LDI 1 has group 9 with its key, and its word has gone to every member that the free list names. -/
def grouped : State :=
  { (linked .running).setDom 1 (bound .running) with
      shuttle := { sas := (Config.domainMembers 9).map (fun p => (p, { state := .valid, policy := [(9, { sent := true })] })),
                   groups := [(groupKeyOf 1 9, { ldi := 1, gid := 9, senders := [0], slot := 0x800, keyed := true })] },
      keys := { (linked .running).keys with slots := (linked .running).keys.slots
        ++ [(0x800, { type := 9, ldi := 1, gen := 7, key := 5, salt := 3 })] } }

theorem find_map (v : Sa) (l : List Nat) (q : Nat) (h : q ∈ l) : Map.find (l.map (fun p => (p, v))) q = some v := by
  induction l with
  | nil => cases h
  | cons a l ih =>
    by_cases e : a = q
    · simp [Map.find, e]
    · simp [Map.find, e, ih (by simpa [Ne.symm e] using h)]

theorem find_map_txNext (v : Sa) (l : List Nat) (q : Nat) (h : v.txNext = 0) :
    (Map.findD (l.map (fun p => (p, v))) q {}).txNext = 0 := by
  induction l with
  | nil => rfl
  | cons a l ih => by_cases e : a = q <;> simp_all [Map.find, Map.findD]

theorem witness_egress_multicast :
    let p : EgressPkt := { pkt (leBytes 16 0) 0 9 with mcast := true }
    (∀ q, grouped.spent q = false) ∧ grouped.portsUp = true ∧ grouped.portUp 2 = true ∧ (grouped.sa 9).txNext + 1 < ctrEnd ∧ grouped.egressCheck p = .sent ∧
      (grouped.group (groupKeyOf 1 9)).isSome = true ∧
      ∀ peer ∈ grouped.otherMembers 1, (grouped.exch peer (grouped.dom 1).gdid).sent = true := by
  refine ⟨never_spent _ fun x h => ?_, rfl, rfl, ?_, by decide +kernel, rfl, fun peer h => ?_⟩
  · obtain ⟨y, -, rfl⟩ := List.mem_map.mp h
    rfl
  · rw [show (grouped.sa 9).txNext = 0 from find_map_txNext _ _ _ rfl]; decide
  · have h : peer ∈ Config.domainMembers 9 := List.mem_of_mem_filter h
    have e : grouped.shuttle.sas.find peer = some { state := .valid, policy := [(9, { sent := true })] } := find_map _ _ _ h
    show (((grouped.shuttle.sas.find peer).getD {}).policy.findD 9 {}).sent = true
    rw [e]; rfl

/-- A data packet from 6 under FDT 3 in class CLEAR, with counter 5. -/
def inPkt (body : Bytes) : IngressPkt :=
  ⟨2, [], 0, 0, leBytes 2 6 ++ leBytes 2 3 ++ leBytes 1 0 ++ leBytes 2 5 ++ leBytes 1 0 ++ body⟩

/-- Port 2 is CLEAR, and the window of the SA to 6 has seen these counters. -/
def clearPort (seen : List Nat) (top : Nat) : State :=
  let s := meshed.setSa 6 { meshed.sa 6 with win := { top := top, seen := seen } }
  { s with shuttle := { s.shuttle with portClass := [(2, 0)] } }

/-- What Config leaves open settles which tag verifies; of two tags, one at least does not. -/
theorem witness_tag_fails (key : Key) (iv : BitVec 96) (aad : Bytes) :
    ∃ body, body.length = 12 ∧ openPayload key iv 2 aad body = none := by
  by_cases h : packetTag key iv aad [] = List.replicate 12 0
  · exact ⟨List.replicate 12 1, rfl, by simp [openPayload, h]⟩
  · exact ⟨List.replicate 12 0, rfl, by simpa [openPayload] using h⟩

theorem witness_ingress_packet :
    Holds (clearPort [] 0) (fun s => s.portsUp && s.portUp 2 && decide ((s.sa 6).txNext < ctrEnd) && !s.ingressForm ⟨2, [], 0, 0, []⟩ (headerOf []).1) ∧
    Holds (clearPort [5] 5) (fun s =>
      let h := (headerOf (inPkt (leBytes 8 0)).bytes).1
      s.ingressForm (inPkt (leBytes 8 0)) h && !h.hs && !h.ctrl && (s.rxSa (inPkt (leBytes 8 0)) h).isSome && s.ldiOfFdt h.fdt == some 1
        && (s.dom 1).boundPort 2 && !(s.dom 1).deniesClass h.cls && reconstruct (s.sa 6).win.top h.ctr == some 5
        && !(s.sa 6).win.fresh 5) ∧
    Holds (clearPort [] 4) (fun s =>
      decide ((s.sa 6).txNext < ctrEnd) && reconstruct (s.sa 6).win.top 5 == some 5 && (s.sa 6).win.fresh 5
        && (openPayload 0 (packetIv 0 5) 0 ((inPkt (leBytes 8 0)).bytes.take 8) ((inPkt (leBytes 8 0)).bytes.drop 8)).isSome) := by
  decide +kernel

/-- A packet from 6 of LDI 1 waits inside the engine of port 2. -/
def received (payload : Bytes) (rc : List RcEntry) : State :=
  { meshed with shuttle := { meshed.shuttle with rxq := [{ port := 2, src := 6, ldi := 1, payload := payload }], rcache := rc } }

/-- Payloads of the kinds of R119 and R128. -/
def aopPayload (aop aseq : Nat) : Bytes := (atomicReq aseq).take 18 ++ leBytes 1 aop ++ (atomicReq aseq).drop 19

theorem witness_atomic_messages :
    Holds (received (leBytes 8 6) []) (fun s => s.clocked && (s.takeRx (fun p => kindOf p.payload == kNack)).isSome && !(s.dom 1).drops) ∧
    Holds (received (aopPayload 1 4) [{ reply := true, ldi := 1, peer := 6, aseq := 4, ready := true }]) (fun s =>
      (s.takeRx (isAop 1)).isSome && (((s.takeAck 6 0).rcFind true 6 4).map (·.ready)) == some true && !(s.dom 1).drops) ∧
    Holds (received (aopPayload 1 4) []) (fun s =>
      match s.takeRx (isAop 1) with
      | some (p, t) => let u := t.takeAck p.src (ackOf p.payload)
        (u.rcFind true 6 4).isNone && !seriallyBelow 4 (u.sa 6).rxAck && (u.dom 1).mapOk p.mapgen && (u.dom 1).state == .running
          && !(u.dom 1).det && u.rcAvailable 1 && !u.rxBadArr p
          && (match atomicWork (bytesAt p.payload 24 24) with
            | some w => !u.routeDead [w] && u.routeFits p.port [w]
            | none => false)
      | none => false) ∧
    Holds (received (aopPayload 2 4) []) (fun s =>
      match s.takeRx (isAop 2) with
      | some (p, t) => let u := t.takeAck p.src (ackOf p.payload)
        (u.rcFind true 6 4).isNone && !seriallyBelow 4 (u.sa 6).rxAck && u.rcAvailable 1
      | none => false) ∧
    Holds (received (aopPayload 3 4) [{ ldi := 1, peer := 6, aseq := 4 }]) (fun s =>
      match s.takeRx (isAop 3) with
      | some (p, t) => ((t.takeAck p.src (ackOf p.payload)).rcFind false 6 4).map (·.ldi) == some p.ldi
      | none => false) ∧
    Holds (received (aopPayload 0 4) []) (fun s => (s.takeRx (isAop 0)).isSome) := by decide +kernel

/-- The same in an ABORTED domain, which drops each of them. -/
theorem witness_atomic_messages_dropped :
    (∀ aop ∈ [0, 1, 2, 3], Holds ((received (aopPayload aop 4) []).setDom 1 (bound .aborted)) (fun s =>
      match s.takeRx (isAop aop) with
      | some (p, t) => !(t.dom p.ldi).retiring && (t.dom p.ldi).state == .aborted
      | none => false)) ∧
    Holds ((received (leBytes 8 6) []).setDom 1 (bound .aborted)) (fun s =>
      (s.takeRx (fun p => kindOf p.payload == kNack)).isSome && (s.dom 1).state == .aborted) := by decide +kernel

theorem witness_atomic_timers :
    Holds { meshed with shuttle := { meshed.shuttle with rcache := [{ ldi := 1, peer := 6, aseq := 4, due := 90 }] } } (fun s =>
      s.portsUp && s.saValid 6 && (s.rcFind false 6 4).isSome) ∧
    Holds (meshed.setSa 6 { meshed.sa 6 with ackSince := some 3, lastAtom := some (1, 2, 0) }) (fun s =>
      (s.sa 6).ackSince == some 3 && s.ackRoute 6 == some (1, 2, 0) && s.portsUp && s.saValid 6
        && (s.advanceTo (3 + 10 * usTicks)).canBuild 2 6) := by decide +kernel

/-! ### Handshakes and control messages -/

theorem bytesAt_between (a d b : Bytes) : bytesAt (a ++ (d ++ b)) a.length d.length = d := by
  simp [bytesAt]

/-- A chain whose digest a message carries is the held one; that a point is valid and a signature verifies is what Config
leaves open. -/
theorem witness_held_chain (c : Bytes) (s : State) (h : s.shuttle.chains.find 6 = some c) :
    s.heldChain 6 (bvBytes 48 (Config.sha384 c)) = some c := by
  simp [State.heldChain, h]

theorem witness_handshakes :
    Holds (heard { linked .running with shuttle := {} } 0x01 (leBytes 1753 0)) (fun s =>
      s.shakes && (s.takeMsg 6 0x01 anyBody).isSome && s.canShake && !s.ownPrevails 6) ∧
    (∀ x ∈ [(0x02, 6732, true), (0x03, 4979, false)],
      Holds (heard { linked .running with shuttle := { handshakes := [(6, { initiator := x.2.2 })] } } x.1 (leBytes x.2.1 0)) (fun s =>
        s.shakes && (s.takeMsg 6 x.1 anyBody).isSome && s.canShake && ((s.handshake 6).map (·.initiator)) == some x.2.2)) ∧
    Holds (heard (linked .running) 0x06 []) (fun s => s.shakes && (s.takeMsg 6 0x06 List.isEmpty).isSome && s.canShake) ∧
    Holds (heard { linked .running with shuttle := { handshakes := [(6, {})] } } 0x06 [1]) (fun s => s.shakes &&
      (s.takeMsg 6 0x06 (fun b => !b.isEmpty)).isSome && ((s.handshake 6).map (·.waitChain)) == some false) := by decide +kernel

/-- SA_DONE carries the confirmation that the initiator expects. -/
theorem witness_sa_done (h : Handshake) (_f : h.initiator = true) (own : Nat) :
    ∃ m : CtrlMsg, m.peer = 6 ∧ m.type = 4 ∧ m.body = bvBytes 48 (pendingKeys h own 6).1 :=
  ⟨{ peer := 6, type := 4, body := bvBytes 48 (pendingKeys h own 6).1 }, rfl, rfl, rfl⟩

theorem witness_failed_admission :
    Holds (linked .running) (fun s => (s.sa 6).state == .valid && (s.sa 8).state != .valid) := by decide +kernel

/-- LDI 1 has the neighbour 6, which has been heard. -/
def treed : State :=
  let s := meshed.setDom 1 { bound .running with neighbours := [(1, 6)] }
  s.setSa 6 { s.sa 6 with heard := [1] }

theorem witness_link_timers :
    Holds (heard treed 0x05 []) (fun s => s.clocked && (s.takeMsg 6 0x05 anyBody).isSome) ∧
    Holds treed (fun s => s.portsUp && s.saValid 6
      && (s.advanceTo ((s.sa 6).lastTx + 10 * usTicks)).keepsAlive 6 && !s.power.fatal
      && (s.advanceTo (s.quietSince 6 + 30 * usTicks)).liveMonitored 6) ∧
    Holds (treed.setSa 6 { treed.sa 6 with txNext := ctrEnd }) (fun s => s.clocked && s.saValid 6 && s.spent 6) ∧
    Holds treed (fun s => !s.spent 6) ∧
    (∀ hs ∈ [[], [(6, {})]], Holds { treed.setSa 6 { state := .failed } with shuttle :=
        { (treed.setSa 6 { state := .failed }).shuttle with handshakes := hs } } (fun s =>
      (s.sa 6).state == .failed && (s.handshake 6).isSome == !hs.isEmpty)) := by decide +kernel

theorem witness_group_key :
    let s := waiting (linked .building) (.groupKey 1 9) (.groupCreate 1 9 0x800 1 secTicks)
    (∀ keyed ∈ [false, true],
      Holds (heard { s with shuttle := { s.shuttle with groups := [(groupKeyOf 1 9, { keyed := keyed })] } } 0x07 (groupKeyBody 9 9 3 5)) (fun s =>
      match s.takeMsg 6 0x07 (fun b => b.length == 40) with
      | some (m, t) => t.ldiOfGdid (fieldAt m.body 0 4) == some 1 && fieldAt m.body 4 2 == 9
          && ((t.group (groupKeyOf 1 9)).map (·.keyed)) == some keyed && t.groupSlot 1 9 == some 0x800
      | none => false)) ∧
    Holds (heard (linked .building) 0x07 (groupKeyBody 77 9 3 5)) (fun s =>
      match s.takeMsg 6 0x07 (fun b => b.length == 40) with
      | some (m, t) => t.ldiOfGdid (fieldAt m.body 0 4) == none
      | none => false) ∧
    Holds (heard (linked .building) 0x07 (groupKeyBody 9 9 3 5)) (fun s =>
      match s.takeMsg 6 0x07 (fun b => b.length == 40) with
      | some (m, t) => ((t.ldiOfGdid (fieldAt m.body 0 4)).bind (fun l => t.group (groupKeyOf l (fieldAt m.body 4 2)))).isNone
      | none => false) := by decide +kernel

theorem witness_control_messages :
    Holds { linked .running with shuttle := { groupHold := [{ peer := 6 }] } } (fun s => !s.shuttle.groupHold.isEmpty) ∧
    Holds (heard meshed 0x08 (policyBody 9 0 0 [])) (fun s =>
      match s.takeMsg 6 0x08 (fun b => b.length == 48) with
      | some (m, t) => fieldAt m.body 8 1 % 2 == 0 && t.ldiOfGdid (fieldAt m.body 0 4) == some 1 && (t.dom 1).state.abortable
      | none => false) ∧
    (∀ x ∈ [(9, true), (99, false)], Holds (heard meshed 0x09 (leBytes 8 x.1)) (fun s =>
      match s.takeMsg 6 0x09 (fun b => b.length == 8) with
      | some (m, t) => t.knowsGdid (fieldAt m.body 0 4) == x.2
      | none => false)) ∧
    Holds { meshed with tables := { meshed.tables with quarantine := [{ fdt := 50, gdid := 60 }] } } (fun s =>
      ((s.tables.quarantine.find? (fun q => q.fdt == 50)).map (·.peers)) == some [] && s.tables.quarWait.isEmpty) ∧
    Holds (heard treed 0x0A (leBytes 16 9)) (fun s =>
      match s.takeMsg 6 0x0A (fun b => b.length == 16) with
      | some (m, t) => t.ldiOfGdid (fieldAt m.body 0 4) == some 1 && t.exchPassed 6 1 && !(t.dom 1).squalled
          && (t.dom 1).state.abortable
      | none => false) := by decide +kernel

/-! ### Batten -/

/-- A `BA_` request of LDI 1 for the line 5120. -/
def baReq (kind : Nat) (hdr data : Bytes) : BaReq := ⟨kind, padTo 24 hdr, data, 1, 2, 0, 0, 0, 1⟩

/-- `RouterTakes` as a check. -/
def routes (s : State) (r : BaReq) (ws : List (Nat × Nat × BWork)) : Bool :=
  s.baUp && (s.dom r.ldi).state.flows && (r.arr == 0 || s.arrOk r.ldi r.arr) && !s.routeDead ws && s.routeFits 24 ws

theorem routes_iff (s : State) (r : BaReq) (ws : List (Nat × Nat × BWork)) : routes s r ws = true ↔ RouterTakes s r ws := by
  simp [routes, RouterTakes, and_assoc]

theorem witness_ba_reduce :
    Holds (up .running) (fun s =>
      let r := baReq 0 (leBytes 4 5120 ++ leBytes 1 1 ++ leBytes 1 0 ++ leBytes 1 0x10 ++ leBytes 1 0) (List.replicate 256 0)
      let b := redBody (r.hdr.take 16)
      b.ok && !b.exact && r.data.length == beatBytes b.fmt b.lines && !(s.dom 1).det
        && routes s r (fastWork b r.data (bytesAt (r.data.drop (256 * ((b.lines + 3) / 4))) 0 (scaleBytes b.fmt b.lines)))) := by
  decide +kernel

theorem witness_ba_store :
    Holds (up .running) (fun s =>
      let r := baReq 1 (leBytes 4 5120 ++ leBytes 1 1) (List.replicate (beatBytes 0 1) 0)
      fieldAt r.hdr 4 1 == 1 && routes s r (storeWork 5120 1 r.data)) := by decide +kernel

theorem witness_ba_store_longest :
    fieldAt (baReq 1 (leBytes 4 5120 ++ leBytes 1 63) (List.replicate (beatBytes 0 63) 0)).hdr 4 1 = 63 ∧
    Holds (up .running) (fun s => routes s (baReq 1 (leBytes 4 5120 ++ leBytes 1 63) (List.replicate (beatBytes 0 63) 0))
      (storeWork 5120 63 (List.replicate (beatBytes 0 63) 0))) := by decide +kernel

theorem witness_ba_atomic :
    ∀ d ∈ [false, true], Holds ((up .running).setDom 1 { domIn .running with policy := if d then 4 else 0 }) (fun s =>
      (atomicWork (padTo 24 (leBytes 4 5120))).any (fun w =>
        routes s (baReq 2 (leBytes 4 5120) []) [w] && (s.dom 1).det == d)) := by decide +kernel

/-- An exact REDUCE of the last line of the window 3 of LDI 1. -/
theorem witness_ba_reduce_exact :
    Holds (withWindow .running) (fun s =>
      let r := baReq 0 (leBytes 4 5120 ++ leBytes 1 1 ++ leBytes 1 0 ++ leBytes 1 0x10 ++ leBytes 1 1 ++ leBytes 4 3 ++ leBytes 4 1)
        (List.replicate 256 0)
      let b := redBody (r.hdr.take 16)
      b.ok && b.exact && r.data.length == beatBytes b.fmt b.lines && b.inGroup && r.arr == 0
        && (match s.window b.window with
          | some x => x.state == .open_ && x.ldi == r.ldi && x.opfmt == b.op + b.fmt * 16 && b.woff + b.lines == x.lines
              && routes s r (exactWork x b r.data (bytesAt (r.data.drop (256 * ((b.lines + 3) / 4))) 0 (scaleBytes b.fmt b.lines)))
          | none => false)) := by decide +kernel

/-- Unit 0 with this queue and these lines. -/
def unitState (b : BUnit) : State := { up .running with batten := { units := [(unitOf 5120, b)] } }

/-- An entry of LDI 1 for the line 5120. -/
def entry (w : BWork) (applied : Bool) : BEntry := { work := w, dli := 5120, ldi := 1, gen := 7, applied := applied }

/-- The line 5120 as the unit holds it. -/
def held (dirty writing : Bool) : WLine := { dli := 5120, ldi := 1, gen := 7, dirty := dirty, writing := writing }

theorem witness_batten_apply :
    (∀ w ∈ [BWork.store 1, .reduce 0 1 1, .atomic 0 0 0 0], Holds (unitState { inbox := [entry w false], lines := [held true false] })
      (fun s => s.clocked && !(s.unit (unitOf 5120)).dead
        && ((s.unit (unitOf 5120)).serve.fastCandidates.find? (s.unit (unitOf 5120)).serve.applicable).isSome)) ∧
    Holds (unitState { inbox := [entry (.reduce 0 1 1) false] }) (fun s =>
      let b := (s.unit (unitOf 5120)).serve
      (b.fastCandidates.find? b.applicable).isNone
        && (b.fastCandidates.find? (fun e => !(b.missing e).isEmpty && b.space (b.wants e)
          && (s.serveUnit (unitOf 5120)).lanesRoom e.ldi (b.missing e) false)).isSome) ∧
    Holds (unitState { lines := [held true false], mirror := [{ dli := 5120, data := 7 }] }) (fun s =>
      let b := (s.unit (unitOf 5120)).serve
      ((b.anyLine 5120).map (·.dirty)) == some true && (b.mirror.find? (fun m => m.dli == 5120)).isSome) := by
  decide +kernel

/-- Weft has answered a line request of the unit. -/
def answered (b : BUnit) (op : LineOp) (src : LineSrc) (status : Nat) : State :=
  { unitState b with weft := { done := [{ req := { src := src, op := op, dli := 5120, ldi := 1, gen := 7, tag := b.fillEpoch }, status := status }] } }

theorem witness_batten_lines :
    (∀ st ∈ [0, stIntegrity], Holds (answered { fills := [5120], fillEpoch := 2 } .read (.batten (unitOf 5120)) st) (fun s =>
      ((s.takeDone (fun d => d.req.src == .batten (unitOf 5120) && d.req.op == .read)).map (fun x => (x.1.status, x.1.req.tag)))
          == some (st, (s.unit (unitOf 5120)).fillEpoch)
        && (s.unit (unitOf 5120)).fills.contains 5120)) ∧
    Holds (unitState { queue := [entry (.store 1) true] }) (fun s => ((s.unit (unitOf 5120)).queue.find? (fun e => e.applied)).isSome) ∧
    Holds (unitState { lines := [held true false] }) (fun s => ((s.unit (unitOf 5120)).anyLine 5120).isSome
      && (s.unit (unitOf 5120)).canWrite 5120 && s.laneRoom 1 5120 true) ∧
    (∀ st ∈ [0, stGranuleGone], Holds (answered { lines := [held true true] } .full (.batten (unitOf 5120)) st) (fun s =>
      ((s.takeDone (fun d => d.req.src == .batten (unitOf 5120) && d.req.op == .full && d.req.dli == 5120)).map
          (fun x => x.1.status)) == some st
        && ((s.unit (unitOf 5120)).lines.find? (fun l => l.dli == 5120 && l.writing && l.ldi == 1)).isSome)) := by decide +kernel

theorem witness_windows :
    (∀ n ∈ [3, 0], Holds { withWindow .running with batten :=
        { windows := [(3, { base := 5120, lines := 2, opfmt := 0x10, ldi := 1, count := n, nth := 6 })]
          units := [(unitOf 5120, { inbox := [entry (.exact 3 6 0 0x10 [0] []) false] })] } } (fun s =>
      let b := (s.unit (unitOf 5120)).serve
      s.clocked && ((s.window 3).map (·.state)) == some .open_ && !(s.unit (unitOf 5120)).dead
        && ((b.candidates.find? BEntry.isExact).map (·.work)) == some (.exact 3 6 0 0x10 [0] [])
        && ((s.window 3).map (fun x => (x.nth, x.ldi, decide (x.applied 0 < x.count)))) == some (6, 1, n == 3)
        && ((s.window 3).map (fun x => (s.serveUnit (unitOf 5120)).lanesRoom 1 (x.completing 0 1) true)) == some true)) ∧
    (∀ st ∈ [0, stOwnership], Holds { withWindow .running with weft :=
        { done := [{ req := { src := .window, op := .full, dli := 5120, ldi := 1, tag := 3 }, status := st }] } } (fun s =>
      ((s.takeDone (fun d => d.req.src == .window && d.req.dli == 5120)).map (fun x => (x.1.req.tag, x.1.status)))
          == some (3 + 256 * ((s.window 3).map (·.nth)).getD 1, st)
        && ((s.window 3).map (fun x => (x.ldi, isMx x.fmt))) == some (1, false))) := by decide +kernel

/-! ### Spindle -/

theorem witness_spindle_pull :
    (∀ x ∈ [(1, stOk), (64, stOk), (65, stBadParam), (0, stBadParam)], Holds { streaming with keys := { streaming.keys with
        slots := [(8, { type := 1, ldi := 1, gen := 7, key := 6 }), (12, { type := 6, ldi := 1, gen := 7 })] } } (fun s =>
      s.portsUp && !s.build.pool && (s.spindle.pulls.findD 0 []).isEmpty
        && (s.pullStatus ⟨0, 1, 2, 4, 0, x.1, 0⟩ == stOk) == (x.2 == stOk)
        && [(⟨0, true, 3, false⟩ : LentBlock)].all (fun y => !y.late))) ∧
    Holds { streaming with spindle := { pulls := [(0, [{ late := [1] }])] } } (fun s =>
      s.clocked && !s.power.fatal && ((s.spindle.pulls.findD 0 []).map (fun p => (p.late, p.status))) == [([1], 0)]) := by decide +kernel

/-! ### Time -/

/-- Firmware runs, master 3 is selected, its exchange awaits the rest. -/
def timed (st : TimeState) : State :=
  { up .running with time :=
      { state := st, allow := [3], masters := [(3, {})], selected := some 3
        syncs := [{ master := 3, seq := 8, txId := some 8 }] } }

def msg3 (auth : Nat) : PtpMsg := ⟨0, 3, 8, auth, false, ⟨1, 0, 0⟩, ⟨1, 0, 0⟩, 0, true⟩

theorem witness_time_messages :
    Holds { timed .locked with time := { (timed .locked).time with requireAuth := true } } (fun s =>
      s.timeRuns && !s.ptpAuth (msg3 0) && s.ptpAuth (msg3 1)) ∧
    Holds (timed .locked) (fun s => s.timeRuns && s.ptpAuth (msg3 0) && (msg3 0).domain == s.time.ptpDom
      && s.time.selected == some 3
      && (s.time.syncs.find? (fun p => p.master == (msg3 0).master && p.seq == (msg3 0).seq && p.t1.isNone && p.open_ s.now)).isSome
      && (s.time.syncs.find? (fun p => p.master == (msg3 0).master && p.txId == some (msg3 0).seq && p.t4.isNone)).isSome
      && ((s.time.sentReq 8).map (fun p => decide (s.now ≤ p.txAt + msTicks))) == some true) := by decide +kernel

/-- An exchange whose θ is (t2 - t1 - t4 + t3) / 2. -/
def exchange (t2 : Int) : SyncPending := { master := 3, t1 := some 0, t2 := t2, t3 := some 0, t4 := some 0 }

theorem witness_time_samples :
    (let s : State := {}
     delayExceeds s.time.deltas 0 = false ∧ s.time.state = .unknown ∧ s.time.setDone = false ∧ s.time.lastSample = none) ∧
    (let p := exchange (2 * (65536 * 1000000 + 1))
     delayExceeds (timed .locked).time.deltas (((p.t2 - 0) + (0 - 0)) / 2) = false ∧ 65536 * 1000000 < ((p.t2 - 0) - (0 - 0)) / 2) ∧
    (timed .locked).clocked = true ∧ (timed .holdover).clocked = true := by decide +kernel

/-- The parent 6 of LDI 1 in the tree of its domain, which has rank 1. -/
def child : State :=
  let s := meshed.setDom 1 { bound .running with rank := 1, neighbours := [(0, 6)] }
  { s with time := { s.time with offsets := [(1, { d := some 4, left := 2, index := 63 })] } }

theorem witness_offsets :
    Holds (heard child 0x0C (leBytes 1 3 ++ leBytes 3 0 ++ leBytes 4 9 ++ leBytes 44 0)) (fun s =>
      s.clocked && (match s.takeMsg 6 0x0C (fun b => b.length == 52) with
        | some (m, t) => t.ldiOfGdid (fieldAt m.body 4 4) == some 1 && (t.dom 1).state.sealed && fieldAt m.body 0 1 == 3
            && t.treeParent 1 == some 6 && (t.offsetOf 1).d == some 4 && t.offsetInTime (t.offsetOf 1)
        | none => false)) ∧
    Holds child (fun s => !s.power.fatal && s.treeParent 1 == some 6 && decide (0 < (s.offsetOf 1).left)
      && (s.dom 1).state.flows && !(s.offsetOf 1).running) := by decide +kernel

/-! ### Barometer -/

/-- Lane 0's sensor at this stretch and score. -/
def sensed (level score : Nat) (window : Option Nat) (spoiled : Bool) : State :=
  { up .running with baro :=
      { sensors := [(0, { stretch := level, score := score, rawM := 60, rawD := 20,
                          bins := [(2, { samples := epochSamples, em := 9, ed := 8, eg := 7, spoiled := spoiled }),
                                   (1, { epochs := 9, lm := 30, ld := 30, lg := 30 })] })]
        window := window } }

theorem witness_sensor_samples :
    (∀ x ∈ [(30, 0, none), (0, 0, some 0), (0, 8, some 1)], Holds (sensed x.2.1 0 none false) (fun s =>
      s.clocked && s.build.instances.contains 0 && decide (x.1 < 64)
        && decide ((s.decayScores.baro.sensor 0).score + classWeight (x.2.2.getD 0) < 16)
        && (sampleClass ((s.deciding 0).bin_ 1).calibrated ((s.deciding 0).thresholds (s.fused 0) 1)
          (s.decayScores.baro.sensor 0).stretch x.1 0 40).map (·.1) == x.2.2)) ∧
    Holds (sensed 0 7 none false) (fun s => (sampleClass ((s.deciding 0).bin_ 1).calibrated
        ((s.deciding 0).thresholds (s.fused 0) 1) (s.decayScores.baro.sensor 0).stretch 60 0 0).map (·.1) == some 2
      && decide ((s.decayScores.baro.sensor 0).score + classWeight 2 < 16 ∧ (s.decayScores.baro.sensor 0).score < 8)) ∧
    (∀ x ∈ [(5, true), (2, false)], Holds { sensed 0 8 none false with otp := { lcs := x.1 } } (fun s => s.clocked
      && s.build.instances.contains 0 && (sampleClass ((s.deciding 0).bin_ 1).calibrated ((s.deciding 0).thresholds (s.fused 0) 1)
          (s.decayScores.baro.sensor 0).stretch 60 0 0).map (·.1) == some 2
      && decide (16 ≤ (s.decayScores.baro.sensor 0).score + classWeight 2) && lcsLive s.otp.lcs == x.2 && !s.power.fatal)) := by
  decide +kernel

theorem witness_sensor_events :
    Holds (let s := sensed 1 0 none false; s.setSensor 0 { s.baro.sensor 0 with calm := 4 }) (fun s =>
      decide (4 ≤ (s.decayScores.baro.sensor 0).calm) && decide (0 < (s.decayScores.baro.sensor 0).stretch)) ∧
    (∀ b ∈ [false, true], Holds (sensed 0 0 (some 700) b) (fun s => s.baro.window == some 700
      && decide (epochSamples ≤ ((s.decayScores.baro.sensor 0).bin_ 2).samples) && ((s.decayScores.baro.sensor 0).bin_ 2).spoiled == b)) ∧
    (∀ x ∈ [(5, 1), (2, 1), (5, 0)], Holds { up .running with otp := { words := [(0x068, 128 * x.2)], lcs := x.1 } } (fun s =>
      s.clocked && s.otp.word 0x068 / 2 ^ 7 % 2 == x.2 && lcsLive s.otp.lcs == (x.1 == 5))) := by decide +kernel

/-! ### Debug and metering events -/

theorem witness_debug_events :
    Holds certified (fun s => s.clocked && (s.dbg.certs.find 3).isSome && s.right rightHalt) ∧
    (let s : State := { certified with dbg := { certified.dbg with nonce := some 5, nonceUntil := 50 } }
     s.clocked = true ∧ s.dbg.nonce ≠ none) ∧
    Holds (armed false) (fun s => s.loomUp && !s.loom.halting && s.right rightHalt && s.loom.bps.contains 64) ∧
    (let s : State := { armed false with loom := { (armed false).loom with halting := true } }
     s.loomUp = true ∧ s.loom.halting = true ∧ s.enginesIdle = true) := by decide +kernel

theorem witness_metering_events :
    Holds (up .running) (fun s => s.clocked && !s.inHalt && (s.dom 1).state.live) ∧
    Holds { up .running with metering := { batches := [{ number := 3, records := [[1]] }] } } (fun s =>
      s.loomUp && !s.loom.halting && s.identityUp && s.drbgReady && (s.metering.batches.find? (fun b => b.closed.isNone)).isSome) := by decide +kernel

/-! ### Counters and traces -/

theorem witness_profile_events :
    Holds { up .running with counters := { armed := [{ ldi := 1, id := 4 }] } } (fun s =>
      s.clocked && (s.counters.armed.find? (fun a => a.ldi == 1)).isSome) ∧
    (∀ late ∈ [false, true],
      Holds (heard meshed 0x0B (leBytes 4 9 ++ leBytes 4 77 ++ leBytes 6 (if late then 0 else 5) ++ leBytes 10 0)) (fun s =>
        match s.takeMsg 6 0x0B (fun b => b.length == 24) with
        | some (m, t) => t.ldiOfGdid (fieldAt m.body 0 4) == some 1 && (t.dom 1).state.sealed && t.exchPassed 6 1
            && !t.counters.seenIds.contains (fieldAt m.body 4 4) && !t.counters.armed.any (fun x => x.ldi == 1)
            && decide (t.freezeTarget 1 (time12Of (m.body.drop 8)) ≤ t.time.fine) == late
        | none => false)) := by decide +kernel

/-! ### SPDM -/

/-- What `SpdmTakes` asks beside the taking of the request, which leaves t. -/
def speaks (s t : State) (m : SpdmCtx) (any : Bool) (p : Place) : Bool :=
  s.spdmUp m && (any || m.version == spdmVersion) && (m.conn != .mctp || p == .setup || t.identityUp) && t.placeOk m p
    && (p == .setup || p == .nowhere || (t.spdmConn m.conn).algs)

theorem takes_of (s t : State) (i : Instr) (m : SpdmCtx) (any : Bool) (p : Place) (ht : s.takeSpdm i m = some t)
    (h : speaks s t m any p = true) : SpdmTakes s i m any p t := by
  simp only [speaks, Bool.and_eq_true, Bool.or_eq_true, beq_iff_eq, bne_iff_ne, ne_eq, and_assoc] at h
  refine ⟨h.1, ht, h.2.1, fun c q => ?_, h.2.2.2.1, fun q r => ?_⟩
  · rcases h.2.2.1 with (h | h) | h
    · exact absurd c h
    · exact absurd h q
    · exact h
  · rcases h.2.2.2.2 with (h | h) | h
    · exact absurd h q
    · exact absurd h r
    · exact h

/-- A request outside sessions is taken as it is. -/
theorem takes_clear (s : State) (i : Instr) (m : SpdmCtx) (any : Bool) (p : Place) (hm : m.session = none)
    (h : speaks s s m any p = true) : SpdmTakes s i m any p s := takes_of s s i m any p (by simp [State.takeSpdm, hm]) h

/-- A request of session sid, before its protection. -/
def bare (c : Conn) (sid : Nat) : SpdmCtx := ⟨c, spdmVersion, some sid, []⟩

/-- The same with the record in which the session carries it. -/
def sealed (s : State) (c : Conn) (sid : Nat) (i : SpdmCtx → Instr) : SpdmCtx :=
  { bare c sid with secured := (s.session sid).req.protect ((s.session sid).id sid) (requestBytes (i (bare c sid))) }

/-- The state once it has been taken. -/
def taken (s : State) (sid : Nat) : State :=
  let x := s.session sid
  s.setSession sid { x with lastMsg := s.now, req := { x.req with seq := x.req.seq + 1 } }

/-- It is taken, whatever Config makes of its bytes, if they fit a record. -/
theorem takes_sealed (s : State) (c : Conn) (sid : Nat) (i : SpdmCtx → Instr) (p : Place)
    (hx : (s.spdm.sessions.find sid).isSome = true) (hc : (s.session sid).conn = c)
    (hi : plainRequest (i (sealed s c sid i)) = plainRequest (i (bare c sid)))
    (hl : (requestBytes (i (bare c sid))).length < 65536) (h : speaks s (taken s sid) (bare c sid) false p = true) :
    SpdmTakes s (i (sealed s c sid i)) (sealed s c sid i) false p (taken s sid) := by
  refine takes_of _ _ _ _ _ _ ?_ (by simpa [speaks, sealed, State.spdmUp, State.placeOk] using h)
  obtain ⟨x, hx⟩ := Option.isSome_iff_exists.mp hx
  have e : s.session sid = x := by simp [State.session, Map.findD, hx]
  have hr : requestBytes (i (sealed s c sid i)) = requestBytes (i (bare c sid)) := by simp [requestBytes, hi]
  have hs : (sealed s c sid i).secured = x.req.protect (x.id sid) (requestBytes (i (bare c sid))) := by simp [sealed, e]
  have hm : (sealed s c sid i).session = some sid := rfl
  have hd : (sealed s c sid i).conn = c := rfl
  rw [e] at hc
  unfold State.takeSpdm
  rw [hm, hs, hr, hd]
  simp only [hx, DirKeys.unprotect_protect _ _ _ hl, hc, beq_self_eq_true, Bool.and_self, ↓reduceIte, taken, e]

/-- Both connections are set up, and each carries an open session: 1 over MCTP, 2 over HOST ring 0. -/
def spoken (stage : SessionStage) (mut_ : Bool) : State :=
  { up .running with
    spdm :=
      { conns := [(0, { version := true, caps := true, algs := true }), (64, { version := true, caps := true, algs := true })]
        sessions := [(1, { conn := .mctp, stage := stage, mutAuth := mut_, gdid := some 9 }), (2, { conn := .host 0, stage := stage })]
        nextSession := 3 } }

def plain : SpdmCtx := ⟨.mctp, spdmVersion, none, []⟩

theorem witness_spdm_requests :
    Holds (up .running) (fun s => speaks s s ⟨.mctp, 0x10, none, []⟩ true .setup) ∧
    Holds (spoken .open_ false) (fun s => speaks s s plain false .setup && (s.spdmConn .mctp).version && (s.spdmConn .mctp).caps
      && speaks s s plain false .anywhere && s.drbgReady && speaks s s plain false .nowhere) ∧
    (∀ i ∈ [0, 6, 255], measurementsAsked i ≠ none) := by decide +kernel

theorem witness_spdm_certificate : 0 < (spoken .open_ false).slotChain.length := by
  simp [State.slotChain, leBytes]

theorem witness_key_exchange (share : Bytes) (_h : Config.p384Valid share = true) :
    let k : KexReq := ⟨0, 5, true, 0x03, (spoken .open_ false).otp.integId, 0x01, some 9, share⟩
    let s := spoken .open_ false
    speaks s s plain false .anywhere = true ∧ plain.session = none ∧ s.wrongRing .mctp (s.tenantGdid k) = false ∧
    s.tenantGdid k = some 9 ∧ s.ldiOfGdid 9 = some 1 ∧ s.sessionsFull (some 9) = false ∧ s.drbgReady = true := by
  have hg : (spoken .open_ false).tenantGdid ⟨0, 5, true, 0x03, (spoken .open_ false).otp.integId, 0x01, some 9, []⟩ = some 9 := by
    decide +kernel
  refine ⟨?_, rfl, rfl, hg, ?_, ?_, ?_⟩ <;> decide +kernel

theorem witness_sessions :
    (∀ b ∈ [false, true], Holds (spoken .exchanged b) (fun s =>
      speaks s (taken s 1) (bare .mctp 1) false .handshake
        && (((taken s 1).opening (bare .mctp 1) 1).map (·.mutAuth)) == some b)) ∧
    Holds (spoken .open_ false) (fun s => speaks s (taken s 1) (bare .mctp 1) false .session
      && ((taken s 1).session 1).inbox.isNone && !((taken s 1).session 1).running && s.loomUp && (s.spdm.sessions.find 1).isSome
      && (taken s 1).isBlockCommand (bare .mctp 1) 0x03 s.otp.integId) := by decide +kernel

/-- What a session carries is taken there, whatever Config makes of its bytes, if they fit a record. -/
theorem witness_session_messages (body chain : Bytes) :
    (∀ i ∈ [fun m => Instr.finish m 1 body, fun m => .getEncapsulatedRequest m 1, fun m => .deliverEncapsulatedResponse m 1 chain],
      (requestBytes (i (bare .mctp 1))).length < 65536 →
      let s := spoken .exchanged true
      SpdmTakes s (i (sealed s .mctp 1 i)) (sealed s .mctp 1 i) false .handshake (taken s 1)) ∧
    (∀ i ∈ [fun m => Instr.heartbeat m, fun m => .keyUpdate m 1, fun m => .keyUpdate m 2, fun m => .keyUpdate m 3,
        fun m => .endSession m, fun m => .vendorDefinedRequest m 3 0 body],
      (requestBytes (i (bare .mctp 1))).length < 65536 →
      let s := spoken .open_ false
      SpdmTakes s (i (sealed s .mctp 1 i)) (sealed s .mctp 1 i) false .session (taken s 1)) := by
  constructor <;> intro i h hl <;> simp only [List.mem_cons, List.not_mem_nil, or_false] at h
  · rcases h with rfl | rfl | rfl <;> exact takes_sealed _ _ _ _ _ (by decide +kernel) rfl rfl hl (by decide +kernel)
  · rcases h with rfl | rfl | rfl | rfl | rfl | rfl <;>
      exact takes_sealed _ _ _ _ _ (by decide +kernel) rfl rfl hl (by decide +kernel)

/-- A FINISH is right or it is not, by Config. -/
theorem witness_finish (s : State) (x : Session) (b : Bytes) : s.finishOk x b = true ∨ s.finishOk x b = false := by
  cases s.finishOk x b <;> simp

/-- The connection has these chunks. -/
def chunked (i o : Option (Nat × Nat × Bytes)) : State :=
  { up .running with spdm := { conns := [(64, { version := true, caps := true, algs := true, chunkIn := i, chunkOut := o })] } }

theorem witness_chunks :
    Holds (chunked none none) (fun s => speaks s s plain false .chunked && (s.spdmConn .mctp).chunkIn.isNone) ∧
    Holds (chunked (some (7, 1, [1])) (some (8, 0, [2]))) (fun s => speaks s s plain false .chunked
      && (s.spdmConn .mctp).chunkIn == some (7, 1, [1]) && (s.spdmConn .mctp).chunkOut == some (8, 0, [2])) := by decide +kernel

theorem witness_transports :
    Holds (up .running) (fun s => s.mctpUp && s.mgmtUp && s.mgmtRoom && s.takesInput) ∧
    Holds (up .running) (fun s => s.mctpSlot 0x7E s.otp.integId 1 (leBytes 256 0) && s.mctpSlot 0x7E s.otp.integId 1 (leBytes 65792 0)
      && !s.mctpSlot 0x7E s.otp.integId 1 (leBytes 255 0) && !mctpNamed 0x7E && !s.mctpSlot 0x01 s.otp.integId 1 [] && !mctpNamed 0x01) := by
  decide +kernel

/-! ### TDISP and IDE -/

/-- Function 5 belongs to LDI 1, which runs, and its interface is in this state. -/
def tdis (st : TdiState) (stream : Option Nat) : State :=
  let s := (spoken .open_ false).setDom 1 { domIn .running with vmfn := 5 }
  { s with link := { tdis := [(5, { state := st, stream := stream, active := [0] })] } }

theorem witness_tdisp :
    (∀ st ∈ [TdiState.unlocked, .locked, .run, .error], Holds (tdis st (some 9)) (fun s => let t := taken s 2
      speaks s t (bare (.host 0) 2) false .session && (t.tdi 5).state == st && t.funcActive 5 == some 1 && t.funcLdi 5 == some 1
        && t.drbgReady && (t.tdi 5).nonce == 0 && (t.tdi 5).stream == some 9 && !(t.tdi 5).active.isEmpty
        && (t.dom 1).state == .running)) ∧
    Holds (tdis .unlocked none) (fun s => speaks s s plain false .nowhere && plain.conn != .host 0) := by decide +kernel

/-- Its messages are taken in the session of HOST ring 0, whatever Config makes of their bytes, if they fit a record. -/
theorem witness_tdisp_messages (st : TdiState) (nonce : BitVec 256) :
    ∀ i ∈ [fun m => Instr.getTdispVersion m 5, fun m => .getTdispCapabilities m 5, fun m => .lockInterfaceRequest m 5,
        fun m => .getDeviceInterfaceReport m 5, fun m => .getDeviceInterfaceState m 5, fun m => .startInterfaceRequest m 5 nonce,
        fun m => .stopInterfaceRequest m 5, fun m => .tdispUnsupportedRequest m 5 0x91, fun m => .ideKeyDeliveryVdm m 0 5 255 1,
        fun m => .ideKmQuery m 5, fun m => .keyProg m 5 9 0, fun m => .kSetGo m 5 9 1, fun m => .kSetStop m 5 9 1],
      (requestBytes (i (bare (.host 0) 2))).length < 65536 →
      let s := tdis st (some 9)
      SpdmTakes s (i (sealed s (.host 0) 2 i)) (sealed s (.host 0) 2 i) false .session (taken s 2) := by
  intro i h hl
  simp only [List.mem_cons, List.not_mem_nil, or_false] at h
  have hs : speaks (tdis st (some 9)) (taken (tdis st (some 9)) 2) (bare (.host 0) 2) false .session = true := by
    cases st <;> decide +kernel
  rcases h with rfl | rfl | rfl | rfl | rfl | rfl | rfl | rfl | rfl | rfl | rfl | rfl | rfl <;>
    exact takes_sealed _ _ _ _ _ rfl rfl rfl hl hs

theorem witness_ide :
    Holds (tdis .unlocked none) (fun s => let t := taken s 2
      speaks s t (bare (.host 0) 2) false .session && t.funcActive 5 == some 1 && t.streamFree 5 255 && t.drbgReady
        && (t.ideKeys 1 6).1.length == 6 && (t.tdi 5).stream != some 9) ∧
    Holds (tdis .locked (some 9)) (fun s => ((taken s 2).tdi 5).stream == some 9) ∧
    Holds { up .running with link := { kpOut := [{ }] } } (fun s => s.released && !s.link.kpOut.isEmpty) ∧
    (∀ st ∈ [TdiState.unlocked, .locked, .run, .error], Holds (tdis st none) (fun s =>
      (s.tdi 5).state == st && s.takesInput && s.funcLdi 5 == some 1 && !(s.dom 1).retiring && (s.dom 1).state == .running)) ∧
    (∀ st ∈ [TdiState.unlocked, .locked, .run, .error], Holds { up .running with link := { tdis := [(5, { state := st })] } } (fun s =>
      s.takesInput && (s.funcLdi 5).isNone && (s.tdi 5).state == st)) := by decide +kernel

theorem witness_tap :
    (up .running).dbgAvailable = true ∧ (State.reset).dbgAvailable = false ∧
    (BitVec.ofNat 96 (2 ^ 87)).getLsbD 87 = true ∧ (BitVec.ofNat 96 (2 ^ 87 + 2 ^ 86)).getLsbD 86 = true ∧
    (0 : BitVec 96).getLsbD 87 = false ∧ (up .running).decoded = true ∧ State.reset.decoded = false := by decide +kernel

/-! ### Steps -/

theorem witness_steps :
    Memory.wf State.reset.mailbox = true ∧ (∃ t, step State.reset = .next t) ∧
    (∃ t, exec .tapReset { up .running with otp := { words := [(0, 1)] } } = .next t) ∧
    ({ up .running with pending := [.tapReset] } : State).pending = .tapReset :: [] := by
  refine ⟨by decide, ⟨_, rfl⟩, ⟨_, rfl⟩, rfl⟩

/-! ### Ill-formed commands -/

def hpWf : HpReq := ⟨127, 0, 2 ^ 32 - 1, 255, 4095, 0, 0, 0, 255, 0, 0⟩

theorem wf_rings : (Instr.domCreate (.ring 69)).wf = true ∧ (Instr.domCreate (.ring 70)).wf = false := by decide +kernel

theorem wf_register_paths : (Instr.dbgArrDataRead (.func 63 true) 0x5FF8).wf = true ∧
    (Instr.dbgArrDataRead (.func 64 true) 0).wf = false ∧ (Instr.dbgArrDataRead .dbg (2 ^ 22)).wf = false ∧
    (Instr.dbgArrDataRead .dbg 4).wf = false ∧ (Instr.dbgAccess (.program 0x3FF 0)).wf = true ∧
    (Instr.dbgAccess (.program 0x400 0)).wf = false := by
  decide +kernel

theorem wf_register_writes :
    (Instr.registerWrite ⟨.hcp, 0x3FFFF8, 0, 0⟩).wf = true ∧ (Instr.registerWrite ⟨.hcp, 0x400000, 0, 0⟩).wf = false ∧
    (Instr.registerWrite ⟨.hcp, 4, 0, 0⟩).wf = false ∧ (Instr.registerWrite ⟨.func 64 false, 8, 0, 0⟩).wf = false := by decide +kernel

theorem wf_host_requests :
    (Instr.hpRead hpWf).wf = true ∧
    (∀ r ∈ [{ hpWf with lane := 128 }, { hpWf with op := 4 }, { hpWf with dli := 2 ^ 32 }, { hpWf with ldi := 256 },
            { hpWf with ctx := 4096 }, { hpWf with fence := 2 ^ 32 }, { hpWf with arr := 2 ^ 18 }, { hpWf with tag := 256 }],
      (Instr.hpRead r).wf = false) := by decide +kernel

theorem wf_packets :
    (Instr.fpEgressPacket (pkt [] 0 6)).wf = true ∧
    (∀ p ∈ [{ pkt [] 0 6 with port := 24 }, { pkt [] 0 6 with rh := List.replicate 33 0 }, { pkt [] 0 6 with ptag := 65536 },
            { pkt [] 0 6 with dest := 65536 }, { pkt [] 0 6 with vc := 8 }, { pkt [] 0 6 with ldi := 256 },
            { pkt [] 0 6 with ctx := 4096 }, { pkt [] 0 6 with fence := 2 ^ 32 }, { pkt [] 0 6 with mapgen := 256 }],
      (Instr.fpEgressPacket p).wf = false) ∧
    (Instr.fpIngressPacket (inPkt [])).wf = true ∧
    (∀ p ∈ [{ inPkt [] with port := 24 }, { inPkt [] with rh := List.replicate 33 0 }, { inPkt [] with vc := 8 },
            { inPkt [] with group := 65536 }], (Instr.fpIngressPacket p).wf = false) := by decide +kernel

theorem wf_batten_requests :
    (Instr.baReduce (baReq 0 [] [])).wf = true ∧
    (∀ r ∈ [{ baReq 0 [] [] with kind := 4 }, { baReq 0 [] [] with hdr := [] }, { baReq 0 [] [] with ldi := 256 },
            { baReq 0 [] [] with ctx := 4096 }, { baReq 0 [] [] with fence := 2 ^ 32 }, { baReq 0 [] [] with arr := 2 ^ 18 },
            { baReq 0 [] [] with tag := 256 }], (Instr.baReduce r).wf = false) := by decide +kernel

theorem wf_pulls :
    (Instr.spindlePull ⟨7, 255, 4095, 0, 0, 127, 0⟩ [⟨0, true, 25, false⟩, ⟨1, false, 131, true⟩]).wf = true ∧
    (∀ b ∈ [(⟨0, true, 26, false⟩ : LentBlock), ⟨0, false, 132, false⟩], (Instr.spindlePull ⟨7, 255, 4095, 0, 0, 127, 0⟩ [b]).wf = false) ∧
    (∀ r ∈ [(⟨8, 0, 0, 0, 0, 0, 0⟩ : PullReq), ⟨0, 256, 0, 0, 0, 0, 0⟩, ⟨0, 0, 4096, 0, 0, 0, 0⟩, ⟨0, 0, 0, 2 ^ 32, 0, 0, 0⟩,
            ⟨0, 0, 0, 0, 2 ^ 64, 0, 0⟩, ⟨0, 0, 0, 0, 0, 128, 0⟩], (Instr.spindlePull r []).wf = false) := by decide +kernel

def kex : KexReq := ⟨255, 65535, true, 3, 65535, 255, some (2 ^ 32 - 1), []⟩

theorem wf_spdm :
    (Instr.heartbeat plain).wf = true ∧ (Instr.heartbeat { plain with conn := .host 64 }).wf = false ∧
    (Instr.heartbeat { plain with version := 256 }).wf = false ∧
    (Instr.keyExchange plain kex).wf = true ∧
    (∀ k ∈ [{ kex with slot := 256 }, { kex with reqSid := 65536 }, { kex with opaqueStd := 65536 }, { kex with opaqueVendor := 65536 },
            { kex with opaqueType := 256 }, { kex with opaqueGdid := some (2 ^ 32) }], (Instr.keyExchange plain k).wf = false) ∧
    (Instr.vendorDefinedRequest plain 65536 0 []).wf = false ∧ (Instr.vendorDefinedRequest plain 0 65536 []).wf = false ∧
    (Instr.getCertificate plain 16 0 0).wf = false ∧ (Instr.getMeasurements plain 0 256 true 0).wf = false ∧ (Instr.getMeasurements plain 16 0 true 0).wf = false ∧
    (Instr.chunkSend plain (2 ^ 32) 0 true []).wf = false ∧ (Instr.getTdispVersion plain 64).wf = false ∧
    (Instr.setEndpointId 256).wf = false := by decide +kernel

theorem wf_time_messages :
    (Instr.sync (msg3 3)).wf = true ∧
    (∀ m ∈ [{ msg3 0 with domain := 256 }, { msg3 0 with master := 2 ^ 64 }, { msg3 0 with seq := 65536 }, msg3 4,
            { msg3 0 with rxTs := ⟨2 ^ 48, 0, 0⟩ }, { msg3 0 with origin := ⟨0, 1000000000, 0⟩ },
            { msg3 0 with origin := ⟨0, 0, 65536⟩ }], (Instr.sync m).wf = false) := by decide +kernel

theorem wf_numbers :
    ∀ i ∈ [Instr.rebindSquashTimeout 256, .gotFetchComplete 128 0, .gotFetchComplete 0 (2 ^ 22), .mpReadReturn 0 256 0 0,
           .mpReadReturn 0 0 0 4, .writeGroupClose 128 [], .laneFailed 128, .atomicDueExpiry 0xFFFF 0, .atomicDueExpiry 0 (2 ^ 32),
           .saInit 0xFFFF, .groupCreateTimeout 0 65536, .fdtQuarantineExpiry 65536, .engineFailed 24 (.copied 0), .battenEntryApply 12 [], .mctpVendorCommand 256 0 0 [], .resetHoldEnd 256, .crossingFault 65536 true,
           .battenWriteback 0 (2 ^ 32), .spindleReissueTimeout 8, .bpAck (2 ^ 32), .bpInPresent 16 0 0 0, .bpInPresent 1 4 0 0, .bpInNeighbour 0 16 0,
           .kpFlr 64, .txtsTimeout 65536, .traceSegmentPeriod 16 0, .breakpointHit (2 ^ 32), .storeUe 256 0 false, .tamperInput 8,
           .calEpochEnd 0 8, .barometerSample 0 64 0 0 0, .barometerSample 0 0 256 0 0, .barometerSample 0 0 0 64 0], i.wf = false := by decide +kernel

/-! ### The spec's own examples -/

/-- 03: dli 0x0123_4567 with 128 lanes, for both sizes of a weave row. -/
theorem test_lane_of :
    (let b : Build := { lanes := 128, weave2k := true }
     (b.gRow 0x01234567, b.slot 0x01234567, b.laneOf 0x01234567) = (681740, 23, 12)) ∧
    (let b : Build := { lanes := 128, weave2k := false }
     (b.gRow 0x01234567, b.slot 0x01234567, b.laneOf 0x01234567) = (1363481, 9, 25)) := by decide +kernel

/-- 02: granule and entry of the same address; 02: a fence handle. -/
theorem test_granule_word :
    granuleOf 0x01234567 = 0x48D1 ∧ (GotEntry.word { ldi := 3, gen := 7, state := .owned, cslot := 5 }) = 0x15000703 ∧
    (GotEntry.word { ldi := 3, gen := 7, state := .owned }) = 0x01000703 ∧ fenceHandle 0x01234 3 = 0x000C1234 := by decide +kernel

/-- 05: a security header as it is sent. -/
theorem test_packet_header :
    (Header.bytes { src := 0x0102, fdt := 0x0A31, mapgen := 7, ctr := 0x5ABC, cls := 2 }) =
      [0x02, 0x01, 0x31, 0x0A, 0x07, 0xBC, 0x5A, 0x02] := by decide +kernel

/-- 05: a replayed counter. -/
theorem test_replay : reconstruct 69635 4094 = some 69630 ∧
    ((((({} : Window).confirm 69630).confirm 69635)).fresh 69630) = false := by decide +kernel

/-- 07: units of consecutive lines. -/
theorem test_unit_of : unitOf 0x01234567 = 4 ∧ unitOf 0x01234568 = 5 := by decide +kernel

/-- 07: FP16 sums in two orders of arrival. -/
theorem test_fast_sum :
    fastElem 0 1 (fastElem 0 1 (fastElem 0 1 0 0x6800) 0x3C00) 0x3C00 = 0x6800 ∧
    fastElem 0 1 (fastElem 0 1 (fastElem 0 1 0 0x3C00) 0x3C00) 0x6800 = 0x6801 := by decide +kernel

/-- 07: the same contributions in an exact window, in units of 2^-24. -/
theorem test_exact_sum :
    let a := accAdd 0 false (accAdd 0 false (accAdd 0 true {} (decodeNum fp16 (-24) 0x3C00)) (decodeNum fp16 (-24) 0x6800))
      (decodeNum fp16 (-24) 0x3C00)
    a.value = 0x802000000 ∧ encodeNum fp16 (-24) (accNum a) = 0x6801 := by decide +kernel

/-- 07: a block of MXFP8 E4M3; 479.75, 3.125 and -0.75 × 2^-9 in units of 2^-152. -/
theorem test_mx_block :
    mxEncode e4m3 [.fin (1919 * 2 ^ 150) false, .fin (25 * 2 ^ 149) false, .fin (-3 * 2 ^ 141) false] = (0x7F, [0x7E, 0x44, 0x81]) := by
  decide +kernel

/-- 09: the input of the first HMAC of a memory key. -/
theorem test_kdf_input (k : Bytes) :
    kdfBlock k ("CTC3-MEM".toList.map (fun c => BitVec.ofNat 8 c.toNat)) (leBytes 1 3 ++ leBytes 2 7 ++ leBytes 1 0) 832 1 =
      bvBytes 48 (Config.hmac384 k [0x01, 0x00, 0x00, 0x00, 0x43, 0x54, 0x43, 0x33, 0x2D, 0x4D, 0x45, 0x4D, 0x00,
        0x03, 0x07, 0x00, 0x00, 0x40, 0x03, 0x00, 0x00]) := by
  simp [kdfBlock, leBytes]

/-- 11: an exchange between two members gives D = -40 ns. -/
theorem test_offset_exchange :
    let ns := fun n => timeBytes ⟨0, n, 0⟩
    let s := State.takeEcho {} 1 (padTo 8 [] ++ ns 5000000 ++ ns 5000640 ++ ns 5001640) ⟨0, 5002200, 0⟩
    (s.offsetOf 1).kept = [(1200 * 65536, -40 * 65536)] := by decide +kernel

/-- 12 and 22: the slot of an example, where it lies and what it says. -/
theorem test_command_slot :
    pathTarget (.func 5 false) 0x1900 = some 0x248900 ∧ pathTarget (.func 5 false) 0 = some 0x20A0 ∧
    (let c : Cmd := { path := .ring 5, slot := 9, cls := ringClass 5,
                      hdr := padTo 256 ([0x04, 0x01, 0x00, 0x01, 0x17, 0x0A, 0, 0, 0, 0, 0x03, 0x00, 0x04, 0, 0, 0]
                        ++ List.replicate 16 0 ++ [0x41, 0, 0, 0]) }
     (c.opcode, c.hver, c.seq, c.ldi, c.plen, c.pbuf, c.p 0 2) = (0x0104, 1, 0xA17, 3, 4, false, 0x41)) := by decide +kernel

/-- 21: the records of a closing domain. -/
theorem test_binding_records : gateRec 3 false = 0x31 ∧ syncRec 0x151 = 0x1516 := by decide +kernel

/-- 22: TAIL goes from 9 to 10 on ring 5; a TAIL of 26 is not taken. -/
theorem test_ring_tail :
    let s : State := { up .running with
      loom := { (up .running).loom with rings := [(5, { tail := 9, head := 9, reply := 9, running := true })] } }
    ∀ v ∈ [10, 26], Holds s (fun s => match exec (.ringTailWrite ⟨.func 5 false, 0x0000, BitVec.ofNat 64 v, 0x0F⟩) s with
      | .next t => (t.ring 5).tail == (if v == 10 then 10 else 9) && (t.ring 5).badTail == (v == 26)
      | _ => false) := by decide +kernel

/-- 20: counters as level 0 shows them. -/
theorem test_level_zero : roundTo 4096 1000000123 = 999997440 := by decide +kernel

/-! ### What the entries of suspended commands wait for -/

/-- The entry 4 of `waiting` wakes. -/
def wakes (s : State) (p : State → JEntry → Bool) : Bool :=
  match s.settle.loom.journal.find? (fun x => x.jid == 4) with
  | some e => s.settle.stepsRun && s.settle.waitHolds e && e.jid == 4 && p s.settle e
  | none => false

/-- The entry wakes and p holds of it. -/
def Woken (s : State) (p : State → JEntry → Bool) : Prop := ∃ e, Wakes s e ∧ e.jid = 4 ∧ p s.settle e = true

theorem woken_of {s : State} {p : State → JEntry → Bool} (h : wakes s p = true) : Woken s p := by
  unfold wakes at h
  split at h
  · next e he =>
    simp only [Bool.and_eq_true, beq_iff_eq, and_assoc] at h
    exact ⟨e, ⟨by rw [h.2.2.1]; exact he, h.1, h.2.1⟩, h.2.2.1, h.2.2.2⟩
  · cases h

/-- LDI 1 at its next generation, while its retirement goes on. -/
def retiringState : State := (up .aborted).setDom 1 { domIn .aborted with retiring := true, gen := 8 }

/-- The SA to 6 is VALID and a migration to it is agreed. -/
def agreed : State := migrating .quiescing false { peer := 6, slot := 0x800 }

theorem witness_wakes : ∀ x ∈ [(up .quiescing, Cont.quiesce 1), (retiringState, .retireUnbind 1 2 3 4), (up .running, .reply [1]),
      (up .running, .releaseContext 1 2), (up .running, .assign 1 0 1 []), (rebinding [oldPacket], .prepare 1),
      (rebinding [], .commitClose 1 0 0), (linked .running, .saWarm [6]), (up .building, .groupCreate 1 9 0x800 1 0),
      (up .running, .spdm [1]), (up .running, .measure 1), (inLcs 2 [], .transition 1), (inLcs 1 [], .unlock 2),
      (up .running, .zeroized 1), (up .running, .streamClose 1 3), (agreed, .freezePolicy 1 6 0x800 9 0)],
    Woken (waiting x.1 .ready x.2) (fun s e => e.cont == x.2 && !e.overtaken
      && (match x.2 with | .freezePolicy l d _ _ _ => s.migAgreed l d | _ => true)) := by
  intro x h
  simp only [List.mem_cons, List.not_mem_nil, or_false] at h
  rcases h with rfl | rfl | rfl | rfl | rfl | rfl | rfl | rfl | rfl | rfl | rfl | rfl | rfl | rfl | rfl | rfl <;>
    exact woken_of (by decide +kernel)

/-- A command with its pass. -/
def scanning (s : State) (k : Cont) (x : Scan) : State :=
  let t := waiting s .scan k
  { t with loom := { t.loom with scans := [{ x with jid := 4, ldi := 1, gen := 7, begun := true }] } }

theorem witness_scans_end :
    (∀ k ∈ [ScanKind.verify, .zero, .finger, .digest],
      Woken (scanning (up .running) (.scan 1) { kind := k, next := 9, stop := 9 }) (fun s e => e.cont == .scan 1 && !e.overtaken
        && (match s.scan 4 with
          | some x => !x.out && x.outs.isEmpty && x.begun && x.status == stOk && decide (x.stop ≤ x.next) && x.kind == k
              && (s.takeAnswer x.src).isNone && (k != .finger || (s.scanLanes x).isEmpty) && !s.scanDead x
          | none => false))) ∧
    Woken (scanning agreed (.export_ 1 5 1 0 0 0x800) { kind := .export_, next := 9, stop := 9 }) (fun s e =>
      e.cont == .export_ 1 5 1 0 0 0x800 && !e.overtaken && (match s.scan 4 with
        | some y => y.kind == .export_ && !y.out && y.outs.isEmpty && y.status == stOk && y.failed == 0 && decide (y.stop ≤ y.next)
            && ((((s.bindScan y).drainInteg.endScan y).dom 1).mig).isSome
        | none => false)) := by
  refine ⟨fun k h => ?_, woken_of (by decide +kernel)⟩
  simp only [List.mem_cons, List.not_mem_nil, or_false] at h
  rcases h with rfl | rfl | rfl | rfl <;> exact woken_of (by decide +kernel)

/-- An import's pass at its end, with what the statement asks of it. -/
def importEnds (s : State) (k : Cont) : Prop :=
  Woken (scanning s k { kind := .import_, next := 9, stop := 9 }) (fun s e => e.cont == k && !e.overtaken && (match s.scan 4 with
    | some x => !x.out && x.status == stOk && decide (x.stop ≤ x.next) && !s.scanDead x
    | none => false))

/-- The last bytes of a blob or a part have come; that their tag verifies is Config's to say, and some tag does. -/
theorem witness_imports_end :
    importEnds (withWeight .running) (.importBlob 1 0x800 4096 96 (leBytes 96 0)) ∧
    importEnds (migrating .building false { source := false, peer := 6, slot := 0x800 }) (.importPart 1 0 80 (leBytes 80 0)) :=
  ⟨woken_of (by decide +kernel), woken_of (by decide +kernel)⟩

/-- A freeze whose domain has drained, and an export whose write has ended. -/
theorem witness_migration_goes_on :
    Woken (waiting (linked .quiescing) .ready (.freezeDrain 1 6 44)) (fun s e => e.cont == .freezeDrain 1 6 44 && !e.overtaken
      && s.migPeer 6 44 == stOk && s.drbgReady && s.freePoolSlot 1 == some 0x800) ∧
    Woken (waiting agreed .ready (.exportWrite 1 0 [1])) (fun s e => e.cont == .exportWrite 1 0 [1] && !e.overtaken
      && (s.dom 1).mig.isSome) := ⟨woken_of (by decide +kernel), woken_of (by decide +kernel)⟩

/-- A group key that came before its create is held. -/
theorem witness_group_create_held :
    let s := up .building
    let t := { s with shuttle := { s.shuttle with groupHold := [{ peer := 6, gdid := 9, gid := 9, key := 5 }] } }
    Meets (onRing t 0 0x0313 1 (leBytes 2 9 ++ leBytes 2 0 ++ leBytes 4 1 ++ leBytes 2 1)) (.ring 0) lnkGroupCreateSpec
      (fun u c => groups u c && (groupRanks c 2).foldl min 65535 != (u.dom c.ldi).rank && (u.takeHeldKey c.ldi (c.p 0 2)).isSome) :=
  meets_of (by decide +kernel)

theorem witness_tags (key : Key) (iv : BitVec 96) (aad ct : Bytes) : ∃ tag, tagOk key iv aad ct tag = true :=
  ⟨bvBytes 16 (Config.gcmTag key iv aad ct), by simp [tagOk]⟩

/-! ### More clauses of commands -/

theorem witness_own_failure :
    Holds (onRing (up .aborted) 0 0x0103 1 (leBytes 4 1 ++ leBytes 4 63)) (fun s => front s (fun s c =>
      c.opcode == domAddContextSpec.opcode && (s.fetched c).settle.seqCheck c.path c.seq == .fresh
        && ((s.checked c).checkFailure domAddContextSpec c).isNone
        && (s.checked c).ownFailure domAddContextSpec c == some stState && domAddContextSpec.ldiOk c)) ∧
    Holds (onRing (up .running) 0 0x0103 0 (leBytes 4 1 ++ leBytes 4 63)) (fun s => front s (fun s c =>
      (s.fetched c).settle.seqCheck c.path c.seq == .fresh && ((s.checked c).checkFailure domAddContextSpec c).isNone
        && (s.checked c).ownFailure domAddContextSpec c == some stBadParam && !domAddContextSpec.ldiOk c)) := by decide +kernel

theorem witness_peer_cmd_short :
    Holds (heard (linked .running) 0x0D [0, 0, 0, 0, 1]) (fun s =>
      ((s.takeMsg 6 0x0D (fun b => fieldAt b 0 1 == 0 && b != [])).map (fun x => decide (x.1.body.length < 260))) == some true
        && s.peersServed) := by decide +kernel

theorem witness_domain_commands_without_effect :
    Meets (onRing (up .quiescing) 0 0x0106 1 []) (.ring 0) domQuiesceSpec (fun u c =>
      !([DomState.building, .sealed_, .running].contains (u.dom c.ldi).state)) ∧
    Meets (onRing (up .aborted) 0 0x0107 1 []) (.ring 0) domAbortSpec (fun u c => (u.dom c.ldi).state == .aborted) :=
  ⟨meets_of (by decide +kernel), meets_of (by decide +kernel)⟩

theorem firstFailure_ext (s : State) (sp : CmdSpec) (c : Cmd) (h : s.extShort sp c = none) :
    s.firstFailure sp c = s.firstFailure { sp with ext := fun _ _ => none } c := by
  unfold State.firstFailure State.checkFailure
  rw [h]
  rfl

/-- Bytes that are no request of the connection, where the ERROR that answers them fits. -/
theorem witness_att_session_open (hp : ∀ b, Config.spdmParse (.host 0) none b = none)
    (hl : ∀ b, (Config.spdmEncode 0x7F b).length ≤ 65536) :
    let s := onRingBuf (up .running) 0 0x0502 0 (leBytes 4 0)
    ∃ c code body sid v, Begins s (.ring 0) attSessionOpenSpec c ∧ (s.begun attSessionOpenSpec c).rootUp = true ∧
      (s.begun attSessionOpenSpec c).keys.identity = true ∧ c.pbuf = true ∧ c.plen = 4 ∧ c.path.isRing = true ∧ c.rbuf = true ∧
      (s.begun attSessionOpenSpec c).openAnswer (c.named ((s.checked c).newJid attSessionOpenSpec c)) = (.now code body, sid, v) := by
  intro s
  obtain ⟨c, ⟨h1, h2, h3, h4, h5⟩, hq⟩ : Meets s (.ring 0) { attSessionOpenSpec with ext := fun _ _ => none } (fun u c => u.rootUp
      && u.keys.identity && c.pbuf && decide (c.plen = 4) && c.path.isRing && c.rbuf && decide (c.path = .ring 0) && decide (c.room = 65536)) :=
    meets_of (by decide +kernel)
  simp only [Bool.and_eq_true, decide_eq_true_eq, and_assoc] at hq
  obtain ⟨q1, q2, q3, q4, q5, q6, q7, q8⟩ := hq
  have ha : ∀ (u : State) (x : Cmd), x.path = .ring 0 → u.openAnswer x = (spdmError errInvalid, none, u) := fun u x e => by
    simp [State.openAnswer, Cmd.request, e, hp]
  have hx : (s.checked c).extShort attSessionOpenSpec c = none := by
    simp only [State.extShort, attSessionOpenSpec, openExt, ha _ c q7, spdmError, wireLength]
    by_cases hc : (!c.carriesSpdm || (s.checked c).attestStatus != stOk) = true
    · simp [hc]
    · simp [hc, q6, q7, q8, hl, State.carriedFits]
  exact ⟨c, _, _, _, _, ⟨h1, h2, h3, h4, (firstFailure_ext _ _ _ hx).trans h5⟩, q1, q2, q3, q4, q5, q6, ha _ _ q7⟩

theorem witness_spn_streams :
    (∀ s ∈ [up .sealed_, streaming], Meets (onRing s 0 0x0B01 1 (leBytes 16 9 ++ leBytes 8 5)) (.ring 0) spnStreamOpenSpec (fun u c =>
      ((u.streamsOf c.ldi).isEmpty && (u.dom c.ldi).reservedStreams.isEmpty || (u.dom c.ldi).seed == some (BitVec.ofNat 128 (c.p 0 16)))
        && !(u.dom c.ldi).reservedStreams.contains (c.p 16 4) && decide (u.streamEntries < 4096)
        && decide ((u.streamsOf c.ldi).length + (u.dom c.ldi).reservedStreams.length < 256))) ∧
    (∀ x ∈ [([({ stream := 4, ldi := 1, pulled := 12 } : Stream), { stream := 5, ldi := 1 }], [], false),
        ([{ stream := 4, ldi := 1, pulled := 12 }], [(0, [{ req := ⟨0, 1, 2, 4, 0, 1, 0⟩, late := [0] }])], true),
        ([{ stream := 4, ldi := 1, pulled := 12 }], [], false)],
      Meets (onRing { streaming with spindle := { streams := x.1, pulls := x.2.1 } } 0 0x0B02 1 (leBytes 4 4)) (.ring 0) spnStreamCloseSpec
        (fun u c => (u.stream c.ldi (c.p 0 4)).isSome && u.pulling c.ldi == x.2.2)) := by
  constructor <;> intro s h <;> simp only [List.mem_cons, List.not_mem_nil, or_false] at h
  · rcases h with rfl | rfl <;> exact meets_of (by decide +kernel)
  · rcases h with rfl | rfl | rfl <;> exact meets_of (by decide +kernel)

/-! ### More clauses of events -/

theorem witness_register_paths :
    Holds certified (fun s => s.takesOn (.func 0 false) && s.takesOn .dbg && pathTarget .dbg 0x102008 == some 0x102008 && s.right 5
      && pathTarget (.func 0 false) 0x0010 == some 0x0010 && !s.debugDenied 0x0010 && pathTarget (.func 3 true) 0 == none
      && pathTarget (.func 3 false) 0x7000 == none) := by decide +kernel

theorem witness_entropy_bits :
    Holds (up .running) (fun s => s.clocked && s.canReseed && healthFails (List.replicate 41 true)
      && !healthFails (List.replicate 40 true)) ∧
    Holds State.reset (fun s => s.entropy.testing) ∧ (List.replicate 2048 true ++ List.replicate 2048 false).length = 4096 ∧
    healthFails ((List.replicate 1024 [true, true, false, false]).flatten) = false ∧
    healthFails (List.replicate 4096 true) = true := by decide +kernel

theorem witness_flush_acks :
    Holds { up .running with weft := { lanes := [(2, { flushing := true, ingress := [{ id := 7 }] })] } } (fun s =>
      s.clocked && (s.lane 2).flushing && (s.weft.spares.find (2 / 32)).isNone && !(s.lane 2).ingress.any (fun x => [].contains x.id)
        && (s.lane 2).ingress.any (fun x => [7].contains x.id)) := by decide +kernel

theorem witness_reset_pins :
    Holds (up .running) (fun s => s.power.phase == .idle && s.boot.phase != .rom && s.power.rootValid && s.loom.journal.isEmpty
      && s.loom.abortsDue.isEmpty && s.otp.job.isEmpty && s.otp.busy.isNone) := by decide +kernel

theorem witness_got_cache_error :
    Holds (lineState {}) (fun s => s.clocked && decide (lane5 < s.build.lanes) && decide (lane5 < 256) && !(s.lane lane5).dead
      && (s.lane lane5).got.contains 5) := by decide +kernel

end Sys2Proof.Tests
end

section
/-!
PROOF. DOM_CREATE on a device with no usable LDI (R76).
-/
namespace Sys2Proof

theorem Map.mem_of_find {α : Type} {m : Map α} {q : Nat} {v : α} (h : Map.find m q = some v) : (q, v) ∈ m := by
  induction m with
  | nil => cases h
  | cons x m ih =>
    obtain ⟨k, w⟩ := x
    unfold Map.find at h
    split at h
    · next e =>
      cases h
      cases e
      exact List.mem_cons_self
    · exact List.mem_cons_of_mem _ (ih h)

end Sys2Proof

namespace Sys2Proof.Machine

/-! ### The LDIs of the domain table -/

/-- An LDI whose domain meets a condition that the empty domain does not meet stands in the table. -/
theorem State.mem_ldisWith {s : State} {p : Domain → Bool} {l : Nat} (h : p (s.dom l) = true) (he : p {} = false) :
    l ∈ s.ldisWith p := by
  have hd : s.dom l = (Map.find s.tables.domains l).getD {} := rfl
  cases hf : Map.find s.tables.domains l with
  | none =>
    rw [hd, hf] at h
    exact absurd (he.symm.trans h) Bool.false_ne_true
  | some d =>
    have hp : p d = true := by simpa [hd, hf] using h
    exact List.mem_map.2 ⟨(l, d), List.mem_filter.2 ⟨Map.mem_of_find hf, hp⟩, rfl⟩

/-! ### The choice of the LDI (R29, R76) -/

theorem State.chooseLdi_eq_none {s : State}
    (h : ∀ l, 1 ≤ l → l ≤ 255 → (s.dom l).state.live = true ∨ (s.dom l).gen = 65535) : s.chooseLdi = none := by
  refine List.find?_eq_none.2 fun l hl => ?_
  obtain ⟨k, hk, rfl⟩ := List.mem_map.1 hl
  have hk : k < 255 := List.mem_range.1 hk
  rcases h (k + 1) (by omega) (by omega) with e | e <;> simp [e]

theorem State.someExhausted_of_gen {s : State} {l : Nat} (h : (s.dom l).gen = 65535) : s.someExhausted = true := by
  have hm : l ∈ s.ldisWith (fun d => d.gen == 65535) := State.mem_ldisWith (by simpa using h) rfl
  simpa [State.someExhausted] using List.ne_nil_of_mem hm

theorem State.someExhausted_of_nil {s : State} (h : s.ldisWith (fun d => d.gen == 65535) = []) :
    s.someExhausted = false := by
  simp [State.someExhausted, h]

/-! ### The checks of DOM_CREATE (R269) -/

/-- DOM_CREATE's own checks before the choice of an LDI pass: the device can create a domain and its identities are free, and
the arguments are in range. -/
structure CreateInOrder (s : State) (c : Cmd) : Prop where
  root : s.rootUp = true
  devid : s.boot.devidSet = true
  vmFree : c.p 10 1 = 0 ∨ s.vmLdi (c.p 10 1) = none
  vmRange : c.p 10 1 ≤ 63
  fdtReady : s.fdtQuarantined (c.p 4 2) = false
  quarantineOpen : s.quarantineFull = false
  gdidSet : c.p 0 4 ≠ 0
  gdidFree : s.ldiOfGdid (c.p 0 4) = none
  fdtSet : c.p 4 2 ≠ 0
  fdtFree : s.ldisWith (fun d => d.state.live && d.fdt == c.p 4 2) = []
  rankRange : c.p 6 2 < c.p 8 2
  grantLow : leAll grantMin (grantOf c).list = true
  grantHigh : leAll (grantOf c).list grantMax = true

/-- With its arguments in order and no LDI to choose, DOM_CREATE fails. -/
theorem createBody_of_noLdi {s : State} {c : Cmd} (h : CreateInOrder s c) (hn : s.chooseLdi = none) :
    createBody s c = .fail (if s.someExhausted then stExhausted else stNoResource) := by
  have busy : (c.p 10 1 != 0 && (s.vmLdi (c.p 10 1)).isSome) = false := by
    rcases h.vmFree with e | e <;> simp [e]
  have members : c.p 8 2 ≠ 0 := Nat.ne_of_gt (Nat.zero_lt_of_lt h.rankRange)
  have rank : ¬ c.p 8 2 ≤ c.p 6 2 := Nat.not_le_of_lt h.rankRange
  have vm : ¬ 63 < c.p 10 1 := Nat.not_lt_of_le h.vmRange
  simp [createBody, h.root, h.devid, busy, h.fdtReady, h.quarantineOpen, h.gdidSet, h.gdidFree, h.fdtSet, h.fdtFree, members,
    rank, vm, h.grantLow, h.grantHigh, hn]

/-- A DOM_CREATE whose body fails is answered with the status and an empty RESULT, from the state of its checks. -/
theorem exec_domCreate_of_fail {s : State} {src : Src} {c : Cmd} {st : Nat} (h : Begins s src domCreateSpec c)
    (b : createBody (s.begun domCreateSpec c) c = .fail st) :
    exec (.domCreate src) s = .next (((s.checked c).reply c.entry 0 { status := st } true).drainTurns) := by
  have run : Runs (.domCreate src) s domCreateSpec c (.fail st) := runsAs h rfl b
  exact run

/-- Settles O11: the argument checks pass and no LDI can be chosen, so the body fails; R76's two statuses differ in whether
some LDI is exhausted. -/
theorem createWithoutAnLdiFails : Obligations.CreateWithoutAnLdiFails := by
  intro s src c hb u root devid vmFree vmRange fdtReady quarantineOpen gdidSet gdidFree fdtSet fdtFree rankRange grantLow
    grantHigh taken
  have order : CreateInOrder u c := ⟨root, devid, vmFree, vmRange, fdtReady, quarantineOpen, gdidSet, gdidFree, fdtSet, fdtFree,
    rankRange, grantLow, grantHigh⟩
  have body := createBody_of_noLdi order (State.chooseLdi_eq_none taken)
  constructor
  · rintro ⟨l, -, -, hg⟩
    rw [State.someExhausted_of_gen hg] at body
    exact exec_domCreate_of_fail hb body
  · intro _ none_exhausted
    rw [State.someExhausted_of_nil none_exhausted] at body
    exact exec_domCreate_of_fail hb body

end Sys2Proof.Machine
end

section
/-!
PROOF. MEM_QUERY reads the granule table as of the last commit (R258, R281).
-/
namespace Sys2Proof.Machine

/-! ### The entries that MEM_QUERY reads (R281) -/

/-- COUNT is 1 to 16,384, and the range does not pass the last granule. -/
def QueryInRange (c : Cmd) : Prop := c.p 4 4 ≠ 0 ∧ c.p 4 4 ≤ 16384 ∧ c.p 0 4 + c.p 4 4 ≤ granuleTop

/-- What a requester of this scope reads of a granule's entry. -/
def GotEntry.wordFor (e : GotEntry) (scope : Option Nat) : Nat :=
  if scope = none ∨ scope = some e.ldi then e.word else 0

theorem GotEntry.wordFor_none (e : GotEntry) : e.wordFor none = e.word := by simp [GotEntry.wordFor]

theorem GotEntry.wordFor_some (e : GotEntry) (l : Nat) : e.wordFor (some l) = if e.ldi = l then e.word else 0 := by
  simp [GotEntry.wordFor, eq_comm]

/-- The reply of a MEM_QUERY that is in range: the entries of the committed table, as the path's scope reads them. -/
def State.queryReply (s : State) (c : Cmd) : Reply :=
  { result := leBytes 4 (c.p 4 4)
    ext := (span (c.p 0 4) (c.p 4 4)).flatMap (fun g => leBytes 4 ((s.committed.got g).wordFor (s.scopeLdi c.path))) }

/-! ### The body of MEM_QUERY (R281) -/

theorem memQueryBody_of_inRange {s : State} {c : Cmd} (h : QueryInRange c) :
    memQueryBody s c = .done (s.queryReply c) s := by
  obtain ⟨some_granule, few, below⟩ := h
  have not_many : ¬ 16384 < c.p 4 4 := Nat.not_lt_of_le few
  have not_beyond : ¬ granuleTop < c.p 0 4 + c.p 4 4 := Nat.not_lt_of_le below
  cases scope : s.scopeLdi c.path <;>
    simp [memQueryBody, State.queryReply, Res.ok, some_granule, not_many, not_beyond, scope, GotEntry.wordFor_none,
      GotEntry.wordFor_some]

theorem memQueryBody_of_not_inRange {s : State} {c : Cmd} (h : ¬ QueryInRange c) : memQueryBody s c = .fail stBadParam := by
  have bad : c.p 4 4 = 0 ∨ 16384 < c.p 4 4 ∨ granuleTop < c.p 0 4 + c.p 4 4 := by
    simp only [QueryInRange] at h
    omega
  rcases bad with empty | many | beyond
  · simp [memQueryBody, empty]
  · simp [memQueryBody, many]
  · simp [memQueryBody, beyond]

/-- Settles O14: the command's parameters decide whether its body replies with the entries or fails, and the body leaves the
state as the command's entry made it. -/
theorem memQueryReadsEntries : Obligations.MemQueryReadsEntries := by
  intro s src c begins u ok
  constructor
  · intro inRange
    exact completes begins rfl (memQueryBody_of_inRange (c := c.named _) inRange)
  · intro notInRange
    exact runsAs begins rfl (memQueryBody_of_not_inRange (c := c.named _) notInRange)

end Sys2Proof.Machine
end

section
/-!
PROOF. RCV_LOG_CLEAR frees the error records up to UPTO (R327).
-/
namespace Sys2Proof.Machine

/-! ### The records that are kept (R327) -/

/-- The places of the records that come after UPTO. -/
def State.recordsAfter (s : State) (upto : Nat) : Map Bytes :=
  s.log.places.filter (fun (x : Nat × Bytes) => !seqLe (recordSeq x.2) upto)

/-- The state with every record up to UPTO freed. -/
def State.clearLog (s : State) (upto : Nat) : State := { s with log := { s.log with places := s.recordsAfter upto } }

@[simp] theorem State.clearLog_places (s : State) (upto : Nat) : (s.clearLog upto).log.places = s.recordsAfter upto := rfl
@[simp] theorem State.clearLog_nextSeq (s : State) (upto : Nat) : (s.clearLog upto).log.nextSeq = s.log.nextSeq := rfl

theorem State.mem_recordsAfter (s : State) (upto : Nat) (x : Nat × Bytes) :
    x ∈ s.recordsAfter upto ↔ x ∈ s.log.places ∧ seqLe (recordSeq x.2) upto = false := by
  rw [State.recordsAfter, List.mem_filter, Bool.not_eq_true']

/-! ### The body of RCV_LOG_CLEAR (R327) -/

/-- UPTO is a sequence number, and not above the newest. -/
theorem logClearBody_of_upto {s : State} {c : Cmd} (fits : c.p 0 8 < 2 ^ 48) (reached : seqLe (c.p 0 8) s.log.newest = true) :
    logClearBody s c =
      .done { result := leBytes 4 (s.log.places.length - (s.clearLog (c.p 0 8)).log.places.length) } (s.clearLog (c.p 0 8)) := by
  have accepted : (decide (2 ^ 48 ≤ c.p 0 8) || !seqLe (c.p 0 8) s.log.newest) = false :=
    Bool.or_eq_false_iff.2 ⟨decide_eq_false (Nat.not_le_of_lt fits), congrArg not reached⟩
  simp only [logClearBody, accepted]
  rfl

/-- Settles O27: the body leaves exactly the records that its filter keeps, and the log's next sequence number as it was. -/
theorem logClearFreesRecords : Obligations.LogClearFreesRecords := by
  intro s src c begins u fits reached
  refine ⟨u.clearLog (c.p 0 8), ?_, ?_, ?_⟩
  · exact completes begins rfl (logClearBody_of_upto (c := c.named _) fits reached)
  · exact u.clearLog_nextSeq _
  · exact u.mem_recordsAfter _

end Sys2Proof.Machine
end

section
/-!
PROOF. TRC_MARK writes one range marker (R313).
-/
namespace Sys2Proof.Machine

/-- The range marker of a TRC_MARK: MARKER, under the header's LDI and context (R313). -/
def Cmd.rangeMarker (c : Cmd) : TraceRec :=
  { src := 1, ldi := c.ldi, ctx := c.ctx, annot := BitVec.ofNat 32 (c.p 0 4), marker := true }

/-- The entry's number is no part of the marker. -/
@[simp] theorem Cmd.rangeMarker_named (c : Cmd) (j : Nat) : (c.named j).rangeMarker = c.rangeMarker := rfl

theorem traceMarkBody_eq (s : State) (c : Cmd) : traceMarkBody s c = .done {} (s.traceWrite c.rangeMarker) := rfl

/-- Settles O23: the body writes the marker of the command as the ring gave it, and answers with an empty result. -/
theorem rangeMarksAreTraced : Obligations.RangeMarksAreTraced := by
  intro s src c begins
  have body (j : Nat) : traceMarkBody (s.begun trcMarkSpec c) (c.named j) =
      .done {} ((s.begun trcMarkSpec c).traceWrite c.rangeMarker) := by
    rw [traceMarkBody_eq, Cmd.rangeMarker_named]
  exact completes begins rfl (body _)

end Sys2Proof.Machine
end

section
/-!
PROOF. What a step does with the queue, and the state after reset.
-/
namespace Sys2Proof.Machine

theorem step_of_cons {s : State} {c : Instr} {q : List Instr} (h : s.pending = c :: q) : step s = exec c (s.withPending q) := by
  unfold step
  rw [h]

theorem step_of_nil {s : State} (h : s.pending = []) : step s = .next s.tick := by
  unfold step
  rw [h]

/-- Settles O1: the queue's front is run on the rest. -/
theorem stepRunsTheFrontCommand : Obligations.StepRunsTheFrontCommand :=
  fun _ _ _ h => step_of_cons h

/-- A tick changes the time unit alone. -/
theorem State.tick_eq (s : State) : s.tick = { s with time := s.tick.time } := by
  unfold State.tick
  split <;> rfl

theorem State.tick_running {s : State} (root : s.power.rootValid = true) (released : s.power.phase ≠ .por) :
    s.tick.time = s.time.count 1 := by
  simp [State.tick, root, released]

theorem State.tick_stopped {s : State} (h : s.power.rootValid = false ∨ s.power.phase = .por) : s.tick.time = s.time := by
  rcases h with h | h <;> simp [State.tick, h]

/-- Settles O2: the tick of an empty queue. -/
theorem emptyQueueTicks : Obligations.EmptyQueueTicks := by
  intro s empty
  refine ⟨s.tick, step_of_nil empty, s.tick_eq, fun root released => ?_, State.tick_stopped⟩
  rw [State.tick_running root released]
  rfl

/-- Settles O3: each part of the reset state is its default. -/
theorem resetStateIsEmpty : Obligations.ResetStateIsEmpty := by
  refine ⟨rfl, rfl, rfl, fun _ => ⟨rfl, rfl⟩, fun _ => rfl, fun _ => rfl, rfl, rfl, rfl, rfl, rfl, rfl, rfl, rfl, rfl, rfl,
    fun _ => rfl, rfl⟩

end Sys2Proof.Machine
end

section
/-!
PROOF. Every command leaves the parts of the state outside its own list as they are.
-/
namespace Sys2Proof.Machine

theorem OutTouches.within {F G : List Part} {s : State} {o : Host.Outcome State Fault Refusal} (h : OutTouches G s o)
    (sub : G.all F.contains = true) : OutTouches F s o :=
  fun t e => (h t e).mono fun p m => by simpa using List.all_eq_true.1 sub p m

/-- The law of each row's meaning, read at the row's own list. -/
theorem exec_touches (c : Instr) (s : State) : OutTouches (touches c) s (exec c s) := by
  cases c with
  | domCreate src => exact (execDomCreate_touches src s).within rfl
  | domSetPolicy src => exact (execDomSetPolicy_touches src s).within rfl
  | domAddContext src => exact (execDomAddContext_touches src s).within rfl
  | domReleaseContext src => exact (execDomReleaseContext_touches src s).within rfl
  | domSeal src => exact (execDomSeal_touches src s).within rfl
  | domQuiesce src => exact (execDomQuiesce_touches src s).within rfl
  | domAbort src => exact (execDomAbort_touches src s).within rfl
  | domRetire src => exact (execDomRetire_touches src s).within rfl
  | domQuery src => exact (execDomQuery_touches src s).within rfl
  | memAssign src => exact (execMemAssign_touches src s).within rfl
  | memRelease src => exact (execMemRelease_touches src s).within rfl
  | memScrub src => exact (execMemScrub_touches src s).within rfl
  | memQuery src => exact (execMemQuery_touches src s).within rfl
  | memImportBlob src => exact (execMemImportBlob_touches src s).within rfl
  | memFingerprint src => exact (execMemFingerprint_touches src s).within rfl
  | memDigest src => exact (execMemDigest_touches src s).within rfl
  | cmpBindSlice src => exact (execCmpBindSlice_touches src s).within rfl
  | cmpUnbindSlice src => exact (execCmpUnbindSlice_touches src s).within rfl
  | cmpRebindPrepare src => exact (execCmpRebindPrepare_touches src s).within rfl
  | cmpRebindCommit src => exact (execCmpRebindCommit_touches src s).within rfl
  | rebindSquashTimeout ldi => exact (execRebindSquashTimeout_touches ldi s).within rfl
  | redWindowOpen src => exact (execRedWindowOpen_touches src s).within rfl
  | redWindowClose src => exact (execRedWindowClose_touches src s).within rfl
  | redWindowQuery src => exact (execRedWindowQuery_touches src s).within rfl
  | arrAlloc src => exact (execArrAlloc_touches src s).within rfl
  | arrFree src => exact (execArrFree_touches src s).within rfl
  | fenCreate src => exact (execFenCreate_touches src s).within rfl
  | fenRegisterProducer src => exact (execFenRegisterProducer_touches src s).within rfl
  | fenDestroy src => exact (execFenDestroy_touches src s).within rfl
  | lnkPortClass src => exact (execLnkPortClass_touches src s).within rfl
  | lnkSaWarm src => exact (execLnkSaWarm_touches src s).within rfl
  | lnkSaQuery src => exact (execLnkSaQuery_touches src s).within rfl
  | lnkGroupCreate src => exact (execLnkGroupCreate_touches src s).within rfl
  | keyEphemeralGet src => exact (execKeyEphemeralGet_touches src s).within rfl
  | keyWeightInstall src => exact (execKeyWeightInstall_touches src s).within rfl
  | keyWeightDrop src => exact (execKeyWeightDrop_touches src s).within rfl
  | attReport src => exact (execAttReport_touches src s).within rfl
  | attSessionOpen src => exact (execAttSessionOpen_touches src s).within rfl
  | mtrRead src => exact (execMtrRead_touches src s).within rfl
  | mtrAck src => exact (execMtrAck_touches src s).within rfl
  | timStatus src => exact (execTimStatus_touches src s).within rfl
  | timSetServo src => exact (execTimSetServo_touches src s).within rfl
  | timOffsetMeasure src => exact (execTimOffsetMeasure_touches src s).within rfl
  | dbgCertPresent src => exact (execDbgCertPresent_touches src s).within rfl
  | dbgRevoke src => exact (execDbgRevoke_touches src s).within rfl
  | dbgHalt src => exact (execDbgHalt_touches src s).within rfl
  | dbgResume src => exact (execDbgResume_touches src s).within rfl
  | prfFreezeAt src => exact (execPrfFreezeAt_touches src s).within rfl
  | prfRead src => exact (execPrfRead_touches src s).within rfl
  | trcConfig src => exact (execTrcConfig_touches src s).within rfl
  | trcMark src => exact (execTrcMark_touches src s).within rfl
  | trcRead src => exact (execTrcRead_touches src s).within rfl
  | lcsQuery src => exact (execLcsQuery_touches src s).within rfl
  | lcsTransition src => exact (execLcsTransition_touches src s).within rfl
  | lcsTransitionResetTimer => exact (execLcsTransitionResetTimer_touches s).within rfl
  | lcsTokenUnlock src => exact (execLcsTokenUnlock_touches src s).within rfl
  | lcsZeroize src => exact (execLcsZeroize_touches src s).within rfl
  | migFreeze src => exact (execMigFreeze_touches src s).within rfl
  | migFreezeAnswerTimeout ldi => exact (execMigFreezeAnswerTimeout_touches ldi s).within rfl
  | migExport src => exact (execMigExport_touches src s).within rfl
  | migImport src => exact (execMigImport_touches src s).within rfl
  | migThaw src => exact (execMigThaw_touches src s).within rfl
  | spnStreamOpen src => exact (execSpnStreamOpen_touches src s).within rfl
  | spnStreamClose src => exact (execSpnStreamClose_touches src s).within rfl
  | snsStatus src => exact (execSnsStatus_touches src s).within rfl
  | snsCalWindow src => exact (execSnsCalWindow_touches src s).within rfl
  | rcvLogRead src => exact (execRcvLogRead_touches src s).within rfl
  | rcvLogClear src => exact (execRcvLogClear_touches src s).within rfl
  | rcvDumpRead src => exact (execRcvDumpRead_touches src s).within rfl
  | journalStepResume jid sup => exact (execJournalStepResume_touches jid sup s).within rfl
  | ringTailWrite w => exact (execRingTailWrite_touches w s).within rfl
  | ringEvtClear w => exact (execRingEvtClear_touches w s).within rfl
  | evStatusClear w => exact (execEvStatusClear_touches w s).within rfl
  | evMapClear w => exact (execEvMapClear_touches w s).within rfl
  | evEnableWrite w => exact (execEvEnableWrite_touches w s).within rfl
  | ctcDevidWrite w => exact (execCtcDevidWrite_touches w s).within rfl
  | clockStatusClear w => exact (execClockStatusClear_touches w s).within rfl
  | timSnapCapture w => exact (execTimSnapCapture_touches w s).within rfl
  | dbgArrDataRead path addr => exact (execDbgArrDataRead_touches path addr s).within rfl
  | dbgCoreRegWrite w => exact (execDbgCoreRegWrite_touches w s).within rfl
  | registerWrite w => exact (execRegisterWrite_touches w s).within rfl
  | dbgAccess op => exact (execDbgAccess_touches op s).within rfl
  | tapReset => exact (execTapReset_touches s).within rfl
  | hpRead r => exact (execHpRead_touches r s).within rfl
  | hpFullWrite r => exact (execHpFullWrite_touches r s).within rfl
  | hpByteMaskedWrite r => exact (execHpByteMaskedWrite_touches r s).within rfl
  | gotFetchComplete lane granule => exact (execGotFetchComplete_touches lane granule s).within rfl
  | mpReadReturn lane tag data ecc => exact (execMpReadReturn_touches lane tag data ecc s).within rfl
  | domainIntegrityEvent => exact (execDomainIntegrityEvent_touches s).within rfl
  | writeGroupClose lane bad => exact (execWriteGroupClose_touches lane bad s).within rfl
  | mpWriteAck lane tag => exact (execMpWriteAck_touches lane tag s).within rfl
  | scrubGranuleDone => exact (execScrubGranuleDone_touches s).within rfl
  | laneFailed lane => exact (execLaneFailed_touches lane s).within rfl
  | mpFlushAck lane bad => exact (execMpFlushAck_touches lane bad s).within rfl
  | fpEgressPacket p => exact (execFpEgressPacket_touches p s).within rfl
  | fpIngressPacket p => exact (execFpIngressPacket_touches p s).within rfl
  | nackReceived => exact (execNackReceived_touches s).within rfl
  | atomicRequestReceived => exact (execAtomicRequestReceived_touches s).within rfl
  | atomicResponseReceived => exact (execAtomicResponseReceived_touches s).within rfl
  | atomicQueryReceived => exact (execAtomicQueryReceived_touches s).within rfl
  | ackOnlyReceived => exact (execAckOnlyReceived_touches s).within rfl
  | atomicDueExpiry peer aseq => exact (execAtomicDueExpiry_touches peer aseq s).within rfl
  | ackOnlyTimer peer => exact (execAckOnlyTimer_touches peer s).within rfl
  | saInit peer => exact (execSaInit_touches peer s).within rfl
  | saResp peer => exact (execSaResp_touches peer s).within rfl
  | saFin peer => exact (execSaFin_touches peer s).within rfl
  | saDone peer => exact (execSaDone_touches peer s).within rfl
  | chainGet peer => exact (execChainGet_touches peer s).within rfl
  | chain peer => exact (execChain_touches peer s).within rfl
  | keepalive peer => exact (execKeepalive_touches peer s).within rfl
  | keepaliveTimer peer => exact (execKeepaliveTimer_touches peer s).within rfl
  | saLossTimeout peer => exact (execSaLossTimeout_touches peer s).within rfl
  | saFailedExpiry peer => exact (execSaFailedExpiry_touches peer s).within rfl
  | groupKey peer => exact (execGroupKey_touches peer s).within rfl
  | groupKeyHoldExpiry => exact (execGroupKeyHoldExpiry_touches s).within rfl
  | groupCreateTimeout ldi group => exact (execGroupCreateTimeout_touches ldi group s).within rfl
  | policy peer => exact (execPolicy_touches peer s).within rfl
  | retired peer => exact (execRetired_touches peer s).within rfl
  | fdtQuarantineExpiry fdt => exact (execFdtQuarantineExpiry_touches fdt s).within rfl
  | squall peer => exact (execSquall_touches peer s).within rfl
  | freeze peer => exact (execFreeze_touches peer s).within rfl
  | offset peer => exact (execOffset_touches peer s).within rfl
  | offsetProbeTimer ldi => exact (execOffsetProbeTimer_touches ldi s).within rfl
  | offsetPeriodicExchange ldi => exact (execOffsetPeriodicExchange_touches ldi s).within rfl
  | peerCmd peer => exact (execPeerCmd_touches peer s).within rfl
  | peerReply peer => exact (execPeerReply_touches peer s).within rfl
  | engineFailed engine loss => exact (execEngineFailed_touches engine loss s).within rfl
  | baReduce r => exact (execBaReduce_touches r s).within rfl
  | baMstore r => exact (execBaMstore_touches r s).within rfl
  | baAtomic r => exact (execBaAtomic_touches r s).within rfl
  | battenEntryApply unit bad => exact (execBattenEntryApply_touches unit bad s).within rfl
  | battenFillReturn unit => exact (execBattenFillReturn_touches unit s).within rfl
  | mirrorAck unit => exact (execMirrorAck_touches unit s).within rfl
  | battenWriteback unit dli => exact (execBattenWriteback_touches unit dli s).within rfl
  | battenWritebackAccepted unit dli => exact (execBattenWritebackAccepted_touches unit dli s).within rfl
  | windowContribution unit bad => exact (execWindowContribution_touches unit bad s).within rfl
  | windowLineAccepted dli => exact (execWindowLineAccepted_touches dli s).within rfl
  | unitFailed unit lost => exact (execUnitFailed_touches unit lost s).within rfl
  | spindlePull r lent => exact (execSpindlePull_touches r lent s).within rfl
  | spindleReissueTimeout port => exact (execSpindleReissueTimeout_touches port s).within rfl
  | fenceSignal => exact (execFenceSignal_touches s).within rfl
  | bpAck seq => exact (execBpAck_touches seq s).within rfl
  | bpInPresent type kind first count => exact (execBpInPresent_touches type kind first count s).within rfl
  | bpInReport ldi handle ctx status => exact (execBpInReport_touches ldi handle ctx status s).within rfl
  | bpInNeighbour ldi pos devid => exact (execBpInNeighbour_touches ldi pos devid s).within rfl
  | hcpResetAssert => exact (execHcpResetAssert_touches s).within rfl
  | hcpImageStream image => exact (execHcpImageStream_touches image s).within rfl
  | kpAck => exact (execKpAck_touches s).within rfl
  | kpFlr func => exact (execKpFlr_touches func s).within rfl
  | kpLockedConfigWrite func => exact (execKpLockedConfigWrite_touches func s).within rfl
  | kpIdeIntegrityFailure func => exact (execKpIdeIntegrityFailure_touches func s).within rfl
  | getVersion m => exact (execGetVersion_touches m s).within rfl
  | getCapabilities m => exact (execGetCapabilities_touches m s).within rfl
  | negotiateAlgorithms m offered => exact (execNegotiateAlgorithms_touches m offered s).within rfl
  | getDigests m => exact (execGetDigests_touches m s).within rfl
  | getCertificate m slot offset len => exact (execGetCertificate_touches m slot offset len s).within rfl
  | challenge m slot nonce => exact (execChallenge_touches m slot nonce s).within rfl
  | getMeasurements m slot index signed nonce => exact (execGetMeasurements_touches m slot index signed nonce s).within rfl
  | keyExchange m k => exact (execKeyExchange_touches m k s).within rfl
  | finish m sid proof => exact (execFinish_touches m sid proof s).within rfl
  | getEncapsulatedRequest m sid => exact (execGetEncapsulatedRequest_touches m sid s).within rfl
  | deliverEncapsulatedResponse m sid chain => exact (execDeliverEncapsulatedResponse_touches m sid chain s).within rfl
  | heartbeat m => exact (execHeartbeat_touches m s).within rfl
  | keyUpdate m op => exact (execKeyUpdate_touches m op s).within rfl
  | endSession m => exact (execEndSession_touches m s).within rfl
  | chunkSend m handle seq last chunk => exact (execChunkSend_touches m handle seq last chunk s).within rfl
  | chunkGet m handle seq => exact (execChunkGet_touches m handle seq s).within rfl
  | vendorDefinedRequest m std vendor body => exact (execVendorDefinedRequest_touches m std vendor body s).within rfl
  | spdmUnsupportedRequest m code => exact (execSpdmUnsupportedRequest_touches m code s).within rfl
  | sessionHeartbeatTimeout sid => exact (execSessionHeartbeatTimeout_touches sid s).within rfl
  | getTdispVersion m func => exact (execGetTdispVersion_touches m func s).within rfl
  | getTdispCapabilities m func => exact (execGetTdispCapabilities_touches m func s).within rfl
  | lockInterfaceRequest m func => exact (execLockInterfaceRequest_touches m func s).within rfl
  | getDeviceInterfaceReport m func => exact (execGetDeviceInterfaceReport_touches m func s).within rfl
  | getDeviceInterfaceState m func => exact (execGetDeviceInterfaceState_touches m func s).within rfl
  | startInterfaceRequest m func nonce => exact (execStartInterfaceRequest_touches m func nonce s).within rfl
  | stopInterfaceRequest m func => exact (execStopInterfaceRequest_touches m func s).within rfl
  | ideKeyDeliveryVdm m vendor func stream keySet => exact (execIdeKeyDeliveryVdm_touches m vendor func stream keySet s).within rfl
  | tdispUnsupportedRequest m func code => exact (execTdispUnsupportedRequest_touches m func code s).within rfl
  | ideKmQuery m func => exact (execIdeKmQuery_touches m func s).within rfl
  | keyProg m func stream keySet => exact (execKeyProg_touches m func stream keySet s).within rfl
  | kSetGo m func stream keySet => exact (execKSetGo_touches m func stream keySet s).within rfl
  | kSetStop m func stream keySet => exact (execKSetStop_touches m func stream keySet s).within rfl
  | setEndpointId eid => exact (execSetEndpointId_touches eid s).within rfl
  | getEndpointId => exact (execGetEndpointId_touches s).within rfl
  | getMctpVersionSupport => exact (execGetMctpVersionSupport_touches s).within rfl
  | getMessageTypeSupport => exact (execGetMessageTypeSupport_touches s).within rfl
  | mctpVendorCommand type vendor cmdSet body => exact (execMctpVendorCommand_touches type vendor cmdSet body s).within rfl
  | announce m a => exact (execAnnounce_touches m a s).within rfl
  | sync m => exact (execSync_touches m s).within rfl
  | followUp m => exact (execFollowUp_touches m s).within rfl
  | delayResp m => exact (execDelayResp_touches m s).within rfl
  | ptpIgnoredMessage => exact (execPtpIgnoredMessage_touches s).within rfl
  | tpTxts id ts => exact (execTpTxts_touches id ts s).within rfl
  | txtsTimeout id => exact (execTxtsTimeout_touches id s).within rfl
  | timeNoSampleTimeout => exact (execTimeNoSampleTimeout_touches s).within rfl
  | holdoverTimeout => exact (execHoldoverTimeout_touches s).within rfl
  | freezeFire ldi => exact (execFreezeFire_touches ldi s).within rfl
  | debugRightsExpiry cert => exact (execDebugRightsExpiry_touches cert s).within rfl
  | debugNonceExpiry => exact (execDebugNonceExpiry_touches s).within rfl
  | meterIntervalTimer ldi => exact (execMeterIntervalTimer_touches ldi s).within rfl
  | meterBatchClose => exact (execMeterBatchClose_touches s).within rfl
  | errorLogWrite => exact (execErrorLogWrite_touches s).within rfl
  | traceSegmentPeriod src inst => exact (execTraceSegmentPeriod_touches src inst s).within rfl
  | coarseSnapshot => exact (execCoarseSnapshot_touches s).within rfl
  | powerEstimateUpdate milliwatt => exact (execPowerEstimateUpdate_touches milliwatt s).within rfl
  | breakpointHit addr => exact (execBreakpointHit_touches addr s).within rfl
  | haltDrainComplete => exact (execHaltDrainComplete_touches s).within rfl
  | watchdogExpiry => exact (execWatchdogExpiry_touches s).within rfl
  | lockstepMismatch => exact (execLockstepMismatch_touches s).within rfl
  | storeUe store word single => exact (execStoreUe_touches store word single s).within rfl
  | crossingFault inst toHost => exact (execCrossingFault_touches inst toHost s).within rfl
  | ckRootLost => exact (execCkRootLost_touches s).within rfl
  | ckRootReturn => exact (execCkRootReturn_touches s).within rfl
  | rsPorstAssert => exact (execRsPorstAssert_touches s).within rfl
  | porRelease porstN => exact (execPorRelease_touches porstN s).within rfl
  | rsSysreq => exact (execRsSysreq_touches s).within rfl
  | rsCorereq => exact (execRsCorereq_touches s).within rfl
  | resetHoldEnd left => exact (execResetHoldEnd_touches left s).within rfl
  | systemReset => exact (execSystemReset_touches s).within rfl
  | coreReset => exact (execCoreReset_touches s).within rfl
  | bootRomStart => exact (execBootRomStart_touches s).within rfl
  | bootDescriptorPoll b => exact (execBootDescriptorPoll_touches b s).within rfl
  | portsOpen => exact (execPortsOpen_touches s).within rfl
  | fuRsp rdata => exact (execFuRsp_touches rdata s).within rfl
  | powerWarn => exact (execPowerWarn_touches s).within rfl
  | powerHoldClear => exact (execPowerHoldClear_touches s).within rfl
  | tamperInput input => exact (execTamperInput_touches input s).within rfl
  | barometerSample inst marginTaps droop glitch bin => exact (execBarometerSample_touches inst marginTaps droop glitch bin s).within rfl
  | stretchRelax inst => exact (execStretchRelax_touches inst s).within rfl
  | tamperScoreDecay => exact (execTamperScoreDecay_touches s).within rfl
  | calEpochEnd inst bin => exact (execCalEpochEnd_touches inst bin s).within rfl
  | calWindowExpiry => exact (execCalWindowExpiry_touches s).within rfl
  | entropyTestFail raw => exact (execEntropyTestFail_touches raw s).within rfl
  | drbgReseed => exact (execDrbgReseed_touches s).within rfl
  | entropyStartupTestDone raw => exact (execEntropyStartupTestDone_touches raw s).within rfl
  | barometerStatusRefresh => exact (execBarometerStatusRefresh_touches s).within rfl

/-- Settles O5: each row's meaning touches at most the parts that its row lists. -/
theorem commandsTouchOnlyTheirParts : Obligations.CommandsTouchOnlyTheirParts :=
  fun c s t run => exec_touches c s t run

end Sys2Proof.Machine
end

section
/-!
PROOF. What every step keeps, from what the commands and the tick touch.
-/
namespace Sys2Proof.Machine

/-- A step runs the command at the front of the queue, or ticks: what each touches. -/
theorem step_cases {s t : State} (run : step s = .next t) :
    (∃ c q, s.pending = c :: q ∧ Touches (touches c) (s.withPending q) t) ∨ (s.pending = [] ∧ Touches [.time] s t) := by
  cases queue : s.pending with
  | nil =>
    rw [step_of_nil queue] at run
    cases run
    exact Or.inr ⟨rfl, s.tick_touches⟩
  | cons c q =>
    rw [step_of_cons queue] at run
    exact Or.inl ⟨c, q, rfl, exec_touches c _ t run⟩

theorem Touches.mailbox_wf {F : List Part} {s t : State} (h : Touches F s t) (wf : Memory.wf s.mailbox = true) :
    Memory.wf t.mailbox = true := by
  rcases h.mailbox with ⟨-, keeps⟩ | same
  · exact keeps wf
  · rw [same]
    exact wf

theorem Touches.otp_keeps {F : List Part} {s t : State} (h : Touches F s t) {a i : Nat}
    (set : (s.otp.words.findD a 0).getLsbD i = true) : (t.otp.words.findD a 0).getLsbD i = true := by
  rcases h.otp with ⟨-, keeps⟩ | same
  · rw [← keeps a, BitVec.getLsbD_and, Bool.and_eq_true] at set
    exact set.2
  · rw [same]
    exact set

/-- Settles O4: commands and the tick keep a canonical mailbox canonical. -/
theorem stepsKeepTheMailboxCanonical : Obligations.StepsKeepTheMailboxCanonical := by
  intro s t wf run
  rcases step_cases run with ⟨_, _, _, h⟩ | ⟨_, h⟩
  · exact h.mailbox_wf wf
  · exact h.mailbox_wf wf

/-- Settles O6: commands only add OTP bits, and the tick leaves them. -/
theorem otpBitsNeverFall : Obligations.OtpBitsNeverFall := by
  intro s t a i run set
  rcases step_cases run with ⟨_, _, _, h⟩ | ⟨_, h⟩
  · exact h.otp_keeps set
  · exact h.otp_keeps set

end Sys2Proof.Machine
end

section
/-!
PROOF. The checks of a fetched command, in their order (R255).
-/
namespace Sys2Proof.Machine

/-! ### The rows that fetch a command -/

theorem State.loomUp_of_fetches {s : State} {src : Src} (h : s.fetches src = true) : s.loomUp = true := by
  simp only [State.fetches, State.serves, State.pathsServed, Bool.and_eq_true] at h
  exact h.1.1.1.1.1.1

theorem State.halted_of_loomUp {s : State} (h : s.loomUp = true) : s.loom.halted = false := by
  simp only [State.loomUp, Bool.and_eq_true, Bool.not_eq_true'] at h
  exact h.1.2

theorem State.isRunning_of_loomUp {s : State} (h : s.loomUp = true) : s.boot.phase.isRunning = true := by
  simp only [State.loomUp, Bool.and_eq_true] at h
  exact h.1.1.1.2

/-- While the firmware runs, the ROM takes no transitions. -/
theorem State.romServes_of_loomUp {s : State} (h : s.loomUp = true) : s.romServes = false := by
  have run := s.isRunning_of_loomUp h
  unfold State.romServes
  cases phase : s.boot.phase <;> simp_all [BootPhase.isRunning]

theorem execDbgResume_of_fetches {s : State} {src : Src} (h : s.fetches src = true) :
    execDbgResume src s = .next (s.runSrc dbgResumeSpec src) := by
  simp [execDbgResume, State.halted_of_loomUp (State.loomUp_of_fetches h)]

theorem execLcsTransition_of_fetches {s : State} {src : Src} (h : s.fetches src = true) :
    execLcsTransition src s = .next (s.runSrc lcsTransitionSpec src) := by
  simp [execLcsTransition, State.romServes_of_loomUp (State.loomUp_of_fetches h)]

/-- A command row runs the path's command by its entry. -/
theorem exec_of_commandRow {i : Instr} {s : State} {src : Src} {sp : CmdSpec} (row : commandRow i = some (src, sp))
    (h : s.fetches src = true) : exec i s = .next (s.runSrc sp src) := by
  cases i
  case dbgResume x => cases row; exact execDbgResume_of_fetches h
  case lcsTransition x => cases row; exact execLcsTransition_of_fetches h
  all_goals cases row <;> rfl

/-! ### Checks 1 to 8 -/

theorem State.checked_touches (s : State) (c : Cmd) :
    Touches [.tallies, .fences, .spdm, .loom, .log, .counters, .trace, .out] s (s.checked c) :=
  ((s.fetched_touches c).mono (by decide)).trans
    (((s.fetched c).settle_touches.mono (by decide)).trans (((s.fetched c).settle.accepted_touches c).mono (by decide)))

@[simp] theorem State.checked_power (s : State) (c : Cmd) : (s.checked c).power = s.power :=
  (s.checked_touches c).power.resolve_left (by decide)

/-- The command's checks run on the state with the command off its path, statuses before it applied. -/
theorem exec_fetched {i : Instr} {s : State} {src : Src} {sp : CmdSpec} {c : Cmd} (row : commandRow i = some (src, sp))
    (f : s.fetches src = true) (w : s.waitingCmd src = some c) (o : c.opcode = sp.opcode) :
    exec i s = .next (((s.fetched c).runCommand sp c).drainTurns) := by
  rw [exec_of_commandRow row f, State.runSrc_of (State.commandAt_of f w o)]

theorem State.runCommand_duplicate {s : State} {sp : CmdSpec} {c : Cmd} {b : Bytes}
    (h : s.settle.seqCheck c.path c.seq = .duplicate b) :
    s.runCommand sp c = (s.settle.bump 0x002).deliver c.entry (dupReply b) [] := by
  simp only [State.runCommand, State.inSequence, h]

theorem State.runCommand_outside {s : State} {sp : CmdSpec} {c : Cmd} (h : s.settle.seqCheck c.path c.seq = .outside) :
    s.runCommand sp c = s.settle.reply c.entry 0 { status := stSequence } false := by
  simp only [State.runCommand, State.inSequence, h]

theorem State.runCommand_refused {s : State} {sp : CmdSpec} {c : Cmd} {r : Reply}
    (h : (s.fetched c).settle.seqCheck c.path c.seq = .fresh) (k : (s.checked c).checkFailure sp c = some r) :
    (s.fetched c).runCommand sp c = (s.checked c).refuseWith sp c r := by
  unfold State.checked at k ⊢
  simp only [State.runCommand, State.inSequence, h, k]

theorem State.runCommand_ownFailure {s : State} {sp : CmdSpec} {c : Cmd} {st : Nat}
    (h : (s.fetched c).settle.seqCheck c.path c.seq = .fresh) (k : (s.checked c).checkFailure sp c = none)
    (own : (s.checked c).ownFailure sp c = some st) :
    (s.fetched c).runCommand sp c = (s.checked c).failWith sp c st := by
  unfold State.checked at k own ⊢
  simp only [State.runCommand, State.inSequence, h, k, own]

/-- Check 9's own start fails on the header LDI, or on the domain's state. -/
theorem State.ownFailure_status {s : State} {sp : CmdSpec} {c : Cmd} {st : Nat} (h : s.ownFailure sp c = some st) :
    (sp.ldiOk c = false → st = stBadParam) ∧ (sp.ldiOk c = true → st = stState) := by
  unfold State.ownFailure at h
  constructor <;> intro ok <;> simp [ok] at h
  · exact h.symm
  · exact h.2.symm

/-- A refusal that reaches no fence is the reply alone. -/
theorem State.refuseWith_reply {s : State} {sp : CmdSpec} {c : Cmd} {r : Reply}
    (h : sp.names c = none ∨ r.status = stDenied ∨ r.status = stUnsupported) :
    s.refuseWith sp c r = s.reply c.entry 0 { r with result := sp.failResult } true := by
  unfold State.refuseWith
  rcases h with none | denied | unsupported
  · simp [State.failNamed, none]
  · simp [denied]
  · simp [unsupported]

section
variable {s : State} {sp : CmdSpec} {c : Cmd} {r : Reply}

theorem State.checkFailure_version (h : s.checkFailure sp c = some r) (v : c.hver ≠ 1) : r.status = stUnsupported := by
  simp [State.checkFailure, v] at h
  simp [← h]

theorem State.checkFailure_class (h : s.checkFailure sp c = some r) (v : c.hver = 1)
    (p : sp.perm[c.cls.column]? = some .none) : r.status = stDenied := by
  simp [State.checkFailure, v, p] at h
  simp [← h]

theorem State.checkFailure_form (h : s.checkFailure sp c = some r) (v : c.hver = 1)
    (p : sp.perm[c.cls.column]? ≠ some .none) (scope : s.inScope sp c = true) (f : sp.formOk c = false) :
    r.status = stBadParam := by
  simp [State.checkFailure, v, p, scope, f] at h
  simp [← h]

theorem State.checkFailure_hold (h : s.checkFailure sp c = some r) (v : c.hver = 1)
    (p : sp.perm[c.cls.column]? ≠ some .none) (scope : s.inScope sp c = true) (f : sp.formOk c = true)
    (room : s.extShort sp c = none) (warned : s.power.hold = true) (holds : sp.hold c = true) : r.status = stPowerHold := by
  simp [State.checkFailure, v, p, scope, f, room, warned, holds] at h
  simp [← h]

end

/-- Settles O7: each outcome of the checks ends the command with its reply. -/
theorem commandsAreCheckedInOrder : Obligations.CommandsAreCheckedInOrder := by
  intro i s src sp c b r st row f w o u
  have run := exec_fetched row f w o
  refine ⟨fun dup => ?_, fun out => ?_, fun fresh passed own => ?_, fun fresh failed => ?_⟩
  · rw [run, State.runCommand_duplicate dup]
  · rw [run, State.runCommand_outside out]
  · rw [run, State.runCommand_ownFailure fresh passed own]
    exact ⟨rfl, State.ownFailure_status own⟩
  · rw [run, State.runCommand_refused fresh failed]
    exact ⟨rfl, State.refuseWith_reply, State.checkFailure_version failed, State.checkFailure_class failed,
      State.checkFailure_form failed, fun v p scope f room warned =>
        State.checkFailure_hold failed v p scope f room (by rw [s.checked_power]; exact warned)⟩

end Sys2Proof.Machine
end

section
/-!
PROOF. What an operation leaves, read off the parts that it touches, and the outputs that it keeps.
-/
namespace Sys2Proof.Machine

/-- A step whose occasion holds. -/
theorem nextIf_of {g : Bool} {s t : State} (h : g = true) : nextIf g s t = .next t := by
  rw [nextIf, if_pos h]

section
variable {F : List Part} {s t : State}

theorem Touches.mailbox_eq (h : Touches F s t) (n : Part.mailbox ∉ F) : t.mailbox = s.mailbox :=
  h.mailbox.resolve_left fun m => n m.1

theorem Touches.otp_eq (h : Touches F s t) (n : Part.otp ∉ F) : t.otp = s.otp := h.otp.resolve_left fun m => n m.1

theorem Touches.entropy_eq (h : Touches F s t) (n : Part.entropy ∉ F) : t.entropy = s.entropy :=
  h.entropy.resolve_left fun m => n m.1

/-- The domains' records stand, but for their counters and usage. -/
theorem Touches.core (h : Touches F s t) (n : Part.doms ∉ F) (l : Nat) : (t.dom l).core = (s.dom l).core :=
  h.tables.doms.resolve_left n l

theorem Touches.dom (h : Touches F s t) (n : Part.doms ∉ F ∧ Part.tallies ∉ F) (l : Nat) : t.dom l = s.dom l := by
  have same : t.tables.domains = s.tables.domains := (h.tables.tallies.resolve_left n.1).resolve_left n.2
  unfold State.dom
  rw [same]

theorem Touches.gotAt (h : Touches F s t) (n : Part.got ∉ F) (g : Nat) : t.got g = s.got g := by
  unfold State.got
  rw [h.tables.got.resolve_left n]

theorem Touches.armedOf (h : Touches F s t) (n : Part.fences ∉ F) (l : Nat) : t.armedOf l = s.armedOf l := by
  unfold State.armedOf
  rw [(h.tables.fences.resolve_left n).1]

end

theorem Domain.core_state {d e : Domain} (h : d.core = e.core) : d.state = e.state :=
  show d.core.state = e.core.state from h ▸ rfl
theorem Domain.core_gen {d e : Domain} (h : d.core = e.core) : d.gen = e.gen :=
  show d.core.gen = e.core.gen from h ▸ rfl
theorem Domain.core_frozen {d e : Domain} (h : d.core = e.core) : d.frozen = e.frozen :=
  show d.core.frozen = e.core.frozen from h ▸ rfl
theorem Domain.core_mig {d e : Domain} (h : d.core = e.core) : d.mig = e.mig :=
  show d.core.mig = e.core.mig from h ▸ rfl

/-! ### Outputs that stay -/

/-- What has been put out at s is still there at t. -/
def State.OutKept (s t : State) : Prop := ∀ o ∈ s.out, o ∈ t.out

theorem State.OutKept.refl (s : State) : s.OutKept s := fun _ h => h

theorem State.OutKept.trans {s t u : State} (h : s.OutKept t) (k : t.OutKept u) : s.OutKept u := fun o m => k o (h o m)

theorem Touches.outKept {F : List Part} {s t : State} (h : Touches F s t) (n : Part.out ∉ F) : s.OutKept t := by
  intro o m
  rw [h.out.resolve_left n]
  exact m

theorem State.outKept_emit (s : State) (o : Output) : s.OutKept (s.emit o) := fun _ h => List.mem_append_left _ h
theorem State.outKept_emitAll (s : State) (os : List Output) : s.OutKept (s.emitAll os) := fun _ h => List.mem_append_left _ h

theorem State.mem_emit (s : State) (o : Output) : o ∈ (s.emit o).out := List.mem_append_right _ List.mem_cons_self

theorem State.outKept_foldl {α : Type} (f : State → α → State) (keeps : ∀ s a, State.OutKept s (f s a)) (l : List α) (s : State) :
    s.OutKept (l.foldl f s) := by
  induction l generalizing s with
  | nil => exact State.OutKept.refl s
  | cons a l ih => exact (keeps s a).trans (ih (f s a))

theorem State.outKept_publish (s : State) (rs : List (BitVec 128)) : s.OutKept (s.publish rs).2 :=
  s.outKept_emitAll ((rs ++ [syncRec s.bp.nextSync]).map Output.bpPub)

/-- A published record is put out. -/
theorem State.mem_publish (s : State) {rs : List (BitVec 128)} {r : BitVec 128} (h : r ∈ rs) :
    Output.bpPub r ∈ (s.publish rs).2.out :=
  List.mem_append_right _ (List.mem_map_of_mem (List.mem_append_left _ h))

theorem State.outKept_answer (s : State) (n : Nat) (r : LineReq) (status : Nat) (data : Line) :
    s.OutKept (s.answer n r status data) := by
  unfold State.answer State.hpAnswer
  split
  · split
    · exact (Touches.outKept (State.setLane_touches _ _ _) (by decide))
    · exact s.outKept_emit _
  · exact State.OutKept.refl s
  · exact State.OutKept.refl s

theorem State.outKept_discardLane (s : State) (ldi n : Nat) : s.OutKept (s.discardLane ldi n) :=
  State.outKept_foldl _ (fun s r => s.outKept_answer n r stAborted 0) _ (s.setLane n ((s.lane n).dropWaiting ldi))

theorem State.outKept_discardWeft (s : State) (ldi : Nat) : s.OutKept (s.discardWeft ldi) :=
  State.outKept_foldl _ (fun s n => s.outKept_discardLane ldi n) _ s

theorem State.outKept_discardBatten (s : State) (ldi : Nat) : s.OutKept (s.discardBatten ldi) := by
  unfold State.discardBatten
  intro o h
  exact List.mem_append_left _ h

theorem State.outKept_signalAll (s : State) (ldi cause : Nat) : s.OutKept (s.signalAll ldi cause) :=
  (State.foldl_signal (s.armedOf ldi) stAborted cause s).1

/-! ### Control messages -/

theorem State.outKept_sendCtrlPart (s : State) (peer : Nat) (part : Bytes) : s.OutKept (s.sendCtrlPart peer part) := by
  unfold State.sendCtrlPart
  cases counter : s.takeCtr peer with
  | none => exact State.OutKept.refl s
  | some x =>
    have kept : s.OutKept x.2 := Touches.outKept (s.takeCtr_touches peer x.1 x.2 counter) (by decide)
    exact kept.trans (x.2.outKept_emit _)

theorem State.outKept_sendCtrl (s : State) (peer type : Nat) (body : Bytes) : s.OutKept (s.sendCtrl peer type body) := by
  unfold State.sendCtrl
  split
  · exact (State.outKept_foldl _ (fun s p => s.outKept_sendCtrlPart peer p) _ s).trans
      (Touches.outKept (State.noteTx_touches _ _ _) (by decide))
  · exact State.OutKept.refl s

/-- The domain has its Squall noted, and its tree neighbours are told (R392). -/
def State.squallTold (s : State) (ldi cause : Nat) : State :=
  (s.treePeers ldi).foldl
    (fun t p => t.sendCtrl p 0x0A (squallBody (s.dom ldi).gdid (s.dom ldi).rank t.boot.devid cause 1))
    (s.setDom ldi { s.dom ldi with squalled := true })

/-- A Squall is sent once; its record follows it. -/
theorem State.sendSquall_cases (s : State) (ldi cause : Nat) :
    s.sendSquall ldi cause = s ∨ Touches [.log, .counters, .trace] (s.squallTold ldi cause) (s.sendSquall ldi cause) := by
  unfold State.sendSquall
  dsimp only
  split
  · exact Or.inl rfl
  · right
    split
    · exact Touches.refl _ _
    · exact State.squallRecord_touches _ _ _ _ _ _ _

theorem State.squallTold_touches (s : State) (ldi cause : Nat) : Touches [.shuttle, .counters, .out]
    (s.setDom ldi { s.dom ldi with squalled := true }) (s.squallTold ldi cause) :=
  Touches.foldl _ _ _ (Touches.refl _ _) fun u p h => h.trans (u.sendCtrl_touches p _ _)

theorem State.outKept_squallTold (s : State) (ldi cause : Nat) : s.OutKept (s.squallTold ldi cause) :=
  State.outKept_foldl _ (fun t p => t.outKept_sendCtrl p _ _) (s.treePeers ldi) (s.setDom ldi _)

theorem State.outKept_sendSquall (s : State) (ldi cause : Nat) : s.OutKept (s.sendSquall ldi cause) := by
  rcases s.sendSquall_cases ldi cause with same | told
  · rw [same]
    exact State.OutKept.refl s
  · exact (s.outKept_squallTold ldi cause).trans (told.outKept (by decide))

/-- Beside its counters, a domain's record keeps all but the note that its Squall has gone. -/
theorem State.sendSquall_dom (s : State) (ldi cause k : Nat) :
    ∃ b, ((s.sendSquall ldi cause).dom k).core = ({ s.dom k with squalled := b } : Domain).core := by
  rcases s.sendSquall_cases ldi cause with same | told
  · rw [same]
    exact ⟨(s.dom k).squalled, rfl⟩
  · rw [told.core (by decide), (s.squallTold_touches ldi cause).dom (by decide)]
    by_cases own : k = ldi
    · rw [own, State.setDom_dom]
      exact ⟨true, rfl⟩
    · rw [State.setDom_dom_other _ _ _ own]
      exact ⟨(s.dom k).squalled, rfl⟩

end Sys2Proof.Machine
end

section
/-!
PROOF. What a reply on a ring writes, and how it moves the ring (R249, R250, R252, R253).
-/
namespace Sys2Proof.Machine

@[simp] theorem padTo_length (n : Nat) (b : Bytes) : (padTo n b).length = n := bytesAt_length b 0 n

@[simp] theorem replyBytes_length (e : JEntry) (dup : Bool) (jid : Nat) (r : Reply) : (replyBytes e dup jid r).length = 64 := by
  simp [replyBytes]

/-! ### Delivery on a ring -/

/-- Where the reply of a slot and the extended reply of a buffer lie in ring i's partition. -/
def replySlotAt (i slot : Nat) : Nat := partOffset i + 0x1000 + 64 * slot
def replyBufferAt (i off : Nat) : Nat := partOffset i + 0x1400 + off

/-- The ring's record when a reply has been delivered: REPLY advances, EVT is set unless QUIET (R250). -/
def Ring.delivered (r : Ring) (quiet : Bool) : Ring :=
  { r with reply := (r.reply + 1) % 2 ^ 32, evt := r.evt || !quiet, running := false }

/-- The ring's record when a reply has been logged, and NEXT advanced (R252). -/
def Ring.logged (r : Ring) (seq : Nat) (reply : Bytes) : Ring :=
  { r with next := (seq + 1) % 2 ^ 32, replyLog := ({ seq := seq, reply := reply } :: r.replyLog).take 64 }

section
variable {e : JEntry} {i : Nat} (path : e.path = .ring i)
include path

theorem State.deliver_mailbox (s : State) (reply ext : Bytes) :
    (s.deliver e reply ext).mailbox =
      ((s.mboxWrite (replyBufferAt i e.bufOff) ext).mboxWrite (replySlotAt i e.slot) reply).mailbox := by
  unfold State.deliver
  simp only [path]
  split
  · exact (State.sendMctp_touches _ _ _).mailbox_eq (by decide)
  · rfl

theorem State.deliver_loom (s : State) (reply ext : Bytes) :
    (s.deliver e reply ext).loom = (s.setRing i ((s.ring i).delivered e.quiet)).loom := by
  unfold State.deliver
  simp only [path]
  split
  · exact (State.sendMctp_touches _ _ _).loom.resolve_left (by decide)
  · rfl

theorem State.logReply_eq (s : State) (reply : Bytes) :
    s.logReply e reply = s.setRing i ((s.ring i).logged e.seq reply) := by
  unfold State.logReply
  simp only [path]
  rfl

end

theorem State.ring_of_loom {s t : State} (h : t.loom = s.loom) (i : Nat) : t.ring i = s.ring i := by
  unfold State.ring
  rw [h]

/-! ### The state in which a reply is logged -/

/-- A reply is counted and traced, once the statuses before it are applied. -/
def State.replyTraced (s : State) (e : JEntry) (jid : Nat) (r : Reply) : State :=
  (if r.status == stOk then s else s.bump 0x001).settle.traceCmd e 1 r.status jid

theorem State.replyTraced_touches (s : State) (e : JEntry) (jid : Nat) (r : Reply) :
    Touches [.tallies, .fences, .log, .counters, .trace, .out] s (s.replyTraced e jid r) := by
  have counted : Touches [.tallies, .fences, .log, .counters, .trace, .out] s (if r.status == stOk then s else s.bump 0x001) := by
    split
    · exact Touches.refl _ _
    · exact (s.bump_touches _ _).mono (by decide)
  exact (counted.trans (State.settle_touches _)).trans ((State.traceCmd_touches _ _ _ _ _).mono (by decide))

theorem State.reply_logged_eq (s : State) (e : JEntry) (jid : Nat) (r : Reply) :
    s.reply e jid r true =
      ((s.replyTraced e jid r).logReply e (replyBytes e false jid r)).deliver e (replyBytes e false jid r) r.ext := rfl

section
variable {e : JEntry} {i : Nat} (path : e.path = .ring i)
include path

theorem State.reply_mailbox (s : State) (jid : Nat) (r : Reply) :
    (s.reply e jid r true).mailbox =
      ((s.mboxWrite (replyBufferAt i e.bufOff) r.ext).mboxWrite (replySlotAt i e.slot) (replyBytes e false jid r)).mailbox := by
  have kept : (s.replyTraced e jid r).mailbox = s.mailbox := (s.replyTraced_touches e jid r).mailbox_eq (by decide)
  rw [State.reply_logged_eq, State.deliver_mailbox path, State.logReply_eq path]
  simp only [State.mboxWrite, State.setRing_mailbox, kept]

theorem State.reply_ring (s : State) (jid : Nat) (r : Reply) :
    (s.reply e jid r true).ring i = ((s.ring i).logged e.seq (replyBytes e false jid r)).delivered e.quiet := by
  have kept : (s.replyTraced e jid r).loom = s.loom := (s.replyTraced_touches e jid r).loom.resolve_left (by decide)
  rw [State.reply_logged_eq, State.ring_of_loom (State.deliver_loom path _ _ _), State.setRing_ring, State.logReply_eq path,
    State.setRing_ring, State.ring_of_loom kept]

theorem State.reply_ring_other (s : State) (jid : Nat) (r : Reply) {k : Nat} (other : k ≠ i) :
    (s.reply e jid r true).ring k = s.ring k := by
  have kept : (s.replyTraced e jid r).loom = s.loom := (s.replyTraced_touches e jid r).loom.resolve_left (by decide)
  rw [State.reply_logged_eq, State.ring_of_loom (State.deliver_loom path _ _ _), State.setRing_ring_other _ _ _ other,
    State.logReply_eq path, State.setRing_ring_other _ _ _ other, State.ring_of_loom kept]

/-- What the mailbox holds after a reply: its slot before all, since no buffer reaches into the slots. -/
theorem State.reply_read (s : State) (wf : s.Inv) (jid : Nat) (r : Reply) (a : Nat) :
    Memory.read (s.reply e jid r true).mailbox a =
      if replySlotAt i e.slot ≤ a ∧ a < replySlotAt i e.slot + 64 then (replyBytes e false jid r).getD (a - replySlotAt i e.slot) 0
      else if replyBufferAt i e.bufOff ≤ a ∧ a < replyBufferAt i e.bufOff + r.ext.length then
        r.ext.getD (a - replyBufferAt i e.bufOff) 0
      else Memory.read s.mailbox a := by
  rw [State.reply_mailbox path, State.mboxWrite_read _ _ _ (State.mboxWrite_wf _ _ _ wf), State.mboxWrite_read _ _ _ wf,
    replyBytes_length]

end

/-- Settles O8: the reply's slot, its buffer and the bytes beside them are read by place, and the ring's fields one by one. -/
theorem ringRepliesAreWritten : Obligations.RingRepliesAreWritten := by
  intro s e i jid r wf path slot t b at_ ext
  have apart : at_ + 64 ≤ ext := by
    show partOffset i + 0x1000 + 64 * e.slot + 64 ≤ partOffset i + 0x1400 + e.bufOff
    omega
  have read : ∀ a, Memory.read t.mailbox a = if at_ ≤ a ∧ a < at_ + 64 then b.getD (a - at_) 0
      else if ext ≤ a ∧ a < ext + r.ext.length then r.ext.getD (a - ext) 0 else Memory.read s.mailbox a :=
    State.reply_read path s wf jid r
  have ring : t.ring i = ((s.ring i).logged e.seq b).delivered e.quiet := State.reply_ring path s jid r
  refine ⟨replyBytes_length _ _ _ _, fun k hk => ?_, fun k hk => ?_, fun a below beyond => ?_, ?_⟩
  · rw [read, if_pos ⟨by omega, by omega⟩, Nat.add_sub_cancel_left]
  · rw [read, if_neg (by omega), if_pos ⟨by omega, by omega⟩, Nat.add_sub_cancel_left]
  · rw [read, if_neg (by omega), if_neg (by omega)]
  · rw [ring]
    exact ⟨rfl, rfl, rfl, rfl, rfl, rfl, rfl, fun k other => State.reply_ring_other path s jid r other⟩

end Sys2Proof.Machine
end

section
/-!
PROOF. An abort event stops its domain and no other (R34, R199, R259, R385).
-/
namespace Sys2Proof.Machine

/-! ### The mark -/

/-- The domain's record marked, and its commands overtaken. -/
def State.markRecord (s : State) (l : Nat) : State :=
  (s.overtake l).setDom l { s.dom l with state := .aborted, frozen := false, mig := none }

/-- The rest of the mark reaches the functions and the pulls. -/
theorem State.markRecord_markAborted (s : State) (l : Nat) :
    Touches [.tallies, .spindle, .counters, .trace, .link, .out] (s.markRecord l) (s.markAborted l) := by
  have errors : Touches [.tallies, .spindle, .counters, .trace, .link, .out] (s.markRecord l)
      (((s.markRecord l).functionsOf l).foldl State.tdiError (s.markRecord l)) :=
    Touches.foldl _ _ _ (Touches.refl _ _) fun u f h => h.trans ((u.tdiError_touches f).mono (by decide))
  exact errors.trans ((State.abortPulls_touches _ _).mono (by decide))

theorem State.markAborted_loom (s : State) (l : Nat) : (s.markAborted l).loom = (s.overtake l).loom :=
  (s.markRecord_markAborted l).loom.resolve_left (by decide)

theorem State.markAborted_core (s : State) (l k : Nat) : ((s.markAborted l).dom k).core = ((s.markRecord l).dom k).core :=
  (s.markRecord_markAborted l).core (by decide) k

theorem State.markAborted_core_own (s : State) (l : Nat) : ((s.markAborted l).dom l).core =
    ({ s.dom l with state := .aborted, frozen := false, mig := none } : Domain).core := by
  rw [State.markAborted_core, State.markRecord, State.setDom_dom]

theorem State.markAborted_core_other (s : State) {l k : Nat} (other : k ≠ l) :
    ((s.markAborted l).dom k).core = (s.dom k).core := by
  rw [State.markAborted_core, State.markRecord, State.setDom_dom_other _ _ _ other]
  exact (s.overtake_touches l).core (by decide) k

theorem State.markAborted_overtaken (s : State) {l : Nat} {e : JEntry} (h : e ∈ (s.markAborted l).loom.journal)
    (own : e.ldi = l) (journaled : e.journaled = true) : e.overtaken = true := by
  rw [State.markAborted_loom] at h
  obtain ⟨x, -, rfl⟩ := List.mem_map.1 h
  split at own <;> simp_all

theorem State.markAborted_loomRuns (s : State) (l : Nat) : (s.markAborted l).loomRuns = s.loomRuns := by
  unfold State.loomRuns
  rw [State.markAborted_loom]
  rfl

/-! ### Steps 1 and 2, the fences, and what follows (R34) -/

/-- The state between the key destruction and the discards of an abort. -/
def State.abortKeysGone (s : State) (a : DueAbort) : State :=
  ((s.publish [gateRec a.ldi false]).2.dropKeys a.ldi endsAtAbort).dropGroupKeys a.ldi

theorem State.closeAbort_eq (s : State) (a : DueAbort) : s.closeAbort a =
    ((((s.abortKeysGone a).discardWeft a.ldi).dropTargets a.ldi).dropRxq (fun p => p.ldi == a.ldi)).discardBatten a.ldi := rfl

/-- Steps 1 and 2 close the gate. -/
theorem State.closeAbort_gate (s : State) (a : DueAbort) : Output.bpPub (gateRec a.ldi false) ∈ (s.closeAbort a).out := by
  rw [State.closeAbort_eq]
  refine State.outKept_discardBatten _ _ _ ?_
  refine (State.dropRxq_touches _ _).outKept (by decide) _ ?_
  refine (State.dropTargets_touches _ _).outKept (by decide) _ ?_
  refine State.outKept_discardWeft _ _ _ ?_
  refine (State.dropGroupKeys_touches _ _).outKept (by decide) _ ?_
  exact (State.dropKeys_touches _ _ _).outKept (by decide) _ (s.mem_publish List.mem_cons_self)

theorem State.dropKeys_none (s : State) (l : Nat) (p : Nat → Bool) :
    (s.dropKeys l p).keys.slots.any (fun x => x.2.ldi == l && p x.2.type) = false := by
  refine List.any_eq_false.2 fun x h gone => ?_
  have kept := (List.mem_filter.1 h).2
  simp_all

/-- No key that ends with the abort is left. -/
theorem State.closeAbort_keys (s : State) (a : DueAbort) :
    (s.closeAbort a).keys.slots.any (fun x => x.2.ldi == a.ldi && endsAtAbort x.2.type) = false := by
  have kept : (s.closeAbort a).keys = ((s.publish [gateRec a.ldi false]).2.dropKeys a.ldi endsAtAbort).keys := by
    rw [State.closeAbort_eq, (State.discardBatten_touches _ _).keys.resolve_left (by decide),
      (State.dropRxq_touches _ _).keys.resolve_left (by decide), (State.dropTargets_touches _ _).keys.resolve_left (by decide),
      (State.discardWeft_touches _ _).keys.resolve_left (by decide), State.abortKeysGone,
      (State.dropGroupKeys_touches _ _).keys.resolve_left (by decide)]
  rw [kept]
  exact State.dropKeys_none _ _ _

theorem State.signalAbort_journal (s : State) (a : DueAbort) : (s.signalAbort a).loom.journal = s.loom.journal := by
  unfold State.signalAbort
  rw [(State.signalAll_touches _ _ _).loom.resolve_left (by decide)]
  split <;> rfl

theorem State.outKept_signalAbort (s : State) (a : DueAbort) : s.OutKept (s.signalAbort a) := by
  unfold State.signalAbort
  split
  · exact s.outKept_signalAll _ _
  · exact State.OutKept.trans (s.internalEntry_touches.outKept (by decide)) (State.outKept_signalAll _ _ _)

/-- Step 3 signals each ARMED fence of the LDI. -/
theorem State.signalAbort_armed {s : State} {a : DueAbort} {i : Nat} (h : i ∈ s.armedOf a.ldi) :
    ((s.signalAbort a).fence i).state = .signalled ∧ ((s.signalAbort a).fence i).status = stAborted ∧
    ((s.signalAbort a).fence i).cause = a.cause ∧
    Output.bpFence (fenceHandle i (s.fence i).epoch) (s.fence i).ldi stAborted a.cause ∈ (s.signalAbort a).out := by
  unfold State.signalAbort
  split
  · exact State.signalAll_armed _ h
  · exact State.signalAll_armed (s := s.internalEntry) _ h

theorem State.outKept_restAbort (s : State) (a : DueAbort) : s.OutKept (s.restAbort a) := by
  have raised : s.OutKept ((s.rcEnd a.ldi).raiseAbort a.ldi) :=
    State.OutKept.trans ((s.rcEnd_touches _).outKept (by decide)) ((State.raiseAbort_touches _ _).outKept (by decide))
  unfold State.restAbort
  dsimp only
  split
  · exact raised.trans (State.outKept_sendSquall _ _ _)
  · exact raised

/-- The event of the abort is raised (R469). -/
theorem State.restAbort_events (s : State) (a : DueAbort) : (s.restAbort a).events.status.getLsbD 6 = true ∧
    (a.ldi < 256 → (s.restAbort a).events.abort.getLsbD a.ldi = true) := by
  have same : (s.restAbort a).events = ((s.rcEnd a.ldi).raiseAbort a.ldi).events := by
    unfold State.restAbort
    dsimp only
    split
    · exact (State.sendSquall_touches _ _ _).events.resolve_left (by decide)
    · rfl
  rw [same]
  constructor
  · simp [State.raiseAbort, State.raise]
  · intro small
    simp [State.raiseAbort, State.raise, small]

/-- What follows the fences notes at most a Squall in a domain's record. -/
theorem State.restAbort_dom (s : State) (a : DueAbort) (k : Nat) :
    ∃ b, ((s.restAbort a).dom k).core = ({ s.dom k with squalled := b } : Domain).core := by
  have raised : ((s.rcEnd a.ldi).raiseAbort a.ldi).dom k = s.dom k :=
    ((State.raiseAbort_touches _ _).dom (by decide) k).trans ((s.rcEnd_touches _).dom (by decide) k)
  unfold State.restAbort
  dsimp only
  split
  · have sent := State.sendSquall_dom ((s.rcEnd a.ldi).raiseAbort a.ldi) a.ldi a.cause k
    rwa [raised] at sent
  · rw [raised]
    exact ⟨(s.dom k).squalled, rfl⟩

/-! ### The abort -/

/-- What stands of the marked state m after the rest of the abort, or as much of it as is done at once. -/
structure AbortKeeps (m t : State) : Prop where
  dom : ∀ k, ∃ b, (t.dom k).core = ({ m.dom k with squalled := b } : Domain).core
  journal : t.loom.journal = m.loom.journal

theorem AbortKeeps.refl (m : State) : AbortKeeps m m := ⟨fun k => ⟨(m.dom k).squalled, rfl⟩, rfl⟩

/-- A record that keeps all but the Squall's note of one with the same core keeps it of that one. -/
theorem Domain.core_squalled {d e : Domain} (h : d.core = e.core) (b : Bool) :
    ({ d with squalled := b } : Domain).core = ({ e with squalled := b } : Domain).core :=
  show ({ d.core with squalled := b } : Domain) = { e.core with squalled := b } from h ▸ rfl

theorem AbortKeeps.rest {m u : State} (a : DueAbort) (dom : ∀ k, (u.dom k).core = (m.dom k).core)
    (journal : u.loom.journal = m.loom.journal) : AbortKeeps m (u.restAbort a) := by
  constructor
  · intro k
    obtain ⟨b, h⟩ := u.restAbort_dom a k
    exact ⟨b, h.trans (Domain.core_squalled (dom k) b)⟩
  · rw [(u.restAbort_touches a).loom.resolve_left (by decide), journal]

theorem AbortKeeps.finish (m : State) (a : DueAbort) : AbortKeeps m (m.finishAbort a) :=
  AbortKeeps.rest a
    (fun k => ((State.signalAbort_touches _ a).core (by decide) k).trans ((m.closeAbort_touches a).core (by decide) k))
    (by rw [State.signalAbort_journal, (m.closeAbort_touches a).loom.resolve_left (by decide)])

theorem AbortKeeps.restarting (m : State) (a : DueAbort) : AbortKeeps m ((m.closeAbort a).restAbort a) :=
  AbortKeeps.rest a (fun k => (m.closeAbort_touches a).core (by decide) k)
    (by rw [(m.closeAbort_touches a).loom.resolve_left (by decide)])

/-- The abort waits for Loom. -/
def State.noteAbort (s : State) (a : DueAbort) : State :=
  { s with loom := { s.loom with abortsDue := s.loom.abortsDue ++ [a] } }

theorem AbortKeeps.noteAbort {m t : State} (h : AbortKeeps m t) (a : DueAbort) : AbortKeeps m (t.noteAbort a) :=
  ⟨h.dom, h.journal⟩

/-- The abort of a domain that stands in one of the states which an abort ends: at once, or in the two parts of R385. -/
theorem State.abort_eq {s : State} {l cause : Nat} {origin : Bool} (idle : (s.dom l).retiring = false)
    (live : (s.dom l).state.abortable = true) :
    let a : DueAbort := { ldi := l, gen := (s.dom l).gen, cause := cause, origin := origin }
    let m := s.settle.markAborted l
    (s.loomRuns = true → s.abort l cause origin = m.finishAbort a) ∧
    (s.loom.restarting = true → s.abort l cause origin = ((m.closeAbort a).restAbort a).noteAbort { a with begun := true }) ∧
    (s.loom.restarting = false → s.loom.halted = true → s.abort l cause origin = m.noteAbort { a with begun := false }) := by
  intro a m
  have loom : s.settle.loom = s.loom := s.settle_touches.loom.resolve_left (by decide)
  have restarting : m.loom.restarting = s.loom.restarting := by
    rw [State.markAborted_loom, ← loom]
    rfl
  have runs : m.loomRuns = s.loomRuns := by
    rw [State.markAborted_loomRuns, State.loomRuns, State.loomRuns, loom]
  have closed : ((m.closeAbort a).restAbort a).loom = m.loom := by
    rw [(State.restAbort_touches _ a).loom.resolve_left (by decide), (m.closeAbort_touches a).loom.resolve_left (by decide)]
  have unfolded : s.abort l cause origin = if m.loomRuns then m.finishAbort a
      else (if m.loom.restarting then (m.closeAbort a).restAbort a else m).noteAbort
        { a with begun := (if m.loom.restarting then (m.closeAbort a).restAbort a else m).loom.restarting } := by
    simp only [State.abort, idle, live, Bool.not_true, Bool.false_eq_true, if_false]
    rfl
  rw [unfolded, runs, restarting]
  refine ⟨fun h => by rw [if_pos h], fun h => ?_, fun h halted => ?_⟩
  · have stopped : ¬ s.loomRuns = true := by simp [State.loomRuns, h]
    rw [if_neg stopped, if_pos h, closed, restarting, h]
  · have stopped : ¬ s.loomRuns = true := by simp [State.loomRuns, halted]
    rw [if_neg stopped, h, if_neg Bool.false_ne_true, restarting, h]

/-- Whichever part is done at once, the marked state's records and journal stand. -/
theorem State.abort_keeps {s : State} {l cause : Nat} {origin : Bool} (idle : (s.dom l).retiring = false)
    (live : (s.dom l).state.abortable = true) : AbortKeeps (s.settle.markAborted l) (s.abort l cause origin) := by
  obtain ⟨atOnce, restarting, halted⟩ := State.abort_eq (cause := cause) (origin := origin) idle live
  cases r : s.loom.restarting with
  | true =>
    rw [restarting r]
    exact (AbortKeeps.restarting _ _).noteAbort _
  | false =>
    cases h : s.loom.halted with
    | true =>
      rw [halted r h]
      exact (AbortKeeps.refl _).noteAbort _
    | false =>
      rw [atOnce (by simp [State.loomRuns, r, h])]
      exact AbortKeeps.finish _ _

/-- The state after the close is what the gate, the keys and the event are read from. -/
theorem State.abort_closed {s : State} {l cause : Nat} {origin : Bool} (idle : (s.dom l).retiring = false)
    (live : (s.dom l).state.abortable = true) (h : s.loom.restarting = true ∨ s.loom.halted = false) :
    Output.bpPub (gateRec l false) ∈ (s.abort l cause origin).out ∧
    (s.abort l cause origin).keys.slots.any (fun x => x.2.ldi == l && endsAtAbort x.2.type) = false ∧
    (s.abort l cause origin).events.status.getLsbD 6 = true ∧
    (l < 256 → (s.abort l cause origin).events.abort.getLsbD l = true) := by
  obtain ⟨atOnce, restarting, -⟩ := State.abort_eq (cause := cause) (origin := origin) idle live
  generalize s.settle.markAborted l = m at atOnce restarting
  generalize ha : (⟨l, (s.dom l).gen, cause, origin, false⟩ : DueAbort) = a at atOnce restarting
  obtain rfl : a.ldi = l := ha ▸ rfl
  cases r : s.loom.restarting with
  | true =>
    rw [restarting r]
    refine ⟨State.outKept_restAbort _ a _ (m.closeAbort_gate a), ?_, State.restAbort_events _ a⟩
    show ((m.closeAbort a).restAbort a).keys.slots.any _ = false
    rw [(State.restAbort_touches _ a).keys.resolve_left (by decide)]
    exact m.closeAbort_keys a
  | false =>
    have run : s.loomRuns = true := by
      rcases h with h | h
      · rw [r] at h
        cases h
      · simp [State.loomRuns, r, h]
    rw [atOnce run]
    refine ⟨State.outKept_restAbort _ a _ (State.outKept_signalAbort _ a _ (m.closeAbort_gate a)), ?_, State.restAbort_events _ a⟩
    show (((m.closeAbort a).signalAbort a).restAbort a).keys.slots.any _ = false
    rw [(State.restAbort_touches _ a).keys.resolve_left (by decide), (State.signalAbort_touches _ a).keys.resolve_left (by decide)]
    exact m.closeAbort_keys a

/-- An abort that runs at once signals the LDI's ARMED fences, as the statuses before it have left them. -/
theorem State.abort_signals {s : State} {l cause : Nat} {origin : Bool} (idle : (s.dom l).retiring = false)
    (live : (s.dom l).state.abortable = true) (run : s.loomRuns = true) {i : Nat} (armed : i ∈ s.settle.armedOf l) :
    ((s.abort l cause origin).fence i).state = .signalled ∧ ((s.abort l cause origin).fence i).status = stAborted ∧
    ((s.abort l cause origin).fence i).cause = cause ∧
    Output.bpFence (fenceHandle i (s.settle.fence i).epoch) (s.settle.fence i).ldi stAborted cause ∈
      (s.abort l cause origin).out := by
  obtain ⟨atOnce, -, -⟩ := State.abort_eq (cause := cause) (origin := origin) idle live
  rw [atOnce run]
  generalize ha : (⟨l, (s.dom l).gen, cause, origin, false⟩ : DueAbort) = a
  obtain rfl : a.ldi = l := ha ▸ rfl
  obtain rfl : a.cause = cause := ha ▸ rfl
  have marked := s.settle.markAborted_touches a.ldi
  have closed := (s.settle.markAborted a.ldi).closeAbort_touches a
  have fences : ∀ k, ((s.settle.markAborted a.ldi).closeAbort a).fence k = s.settle.fence k := fun k =>
    (closed.fence (by decide) k).trans (marked.fence (by decide) k)
  have still : i ∈ ((s.settle.markAborted a.ldi).closeAbort a).armedOf a.ldi := by
    rw [closed.armedOf (by decide), marked.armedOf (by decide)]
    exact armed
  obtain ⟨state, status, cause', out⟩ := State.signalAbort_armed still
  have rest := (State.restAbort_touches (((s.settle.markAborted a.ldi).closeAbort a).signalAbort a) a).fence (by decide) i
  rw [fences] at out
  unfold State.finishAbort
  rw [rest]
  exact ⟨state, status, cause', State.outKept_restAbort _ a _ out⟩

theorem State.abort_waits {s : State} {l cause : Nat} {origin : Bool} (idle : (s.dom l).retiring = false)
    (live : (s.dom l).state.abortable = true) (stopped : s.loomRuns = false) :
    ∃ a ∈ (s.abort l cause origin).loom.abortsDue, a.ldi = l ∧ a.cause = cause ∧ a.gen = (s.dom l).gen := by
  obtain ⟨-, restarting, halted⟩ := State.abort_eq (cause := cause) (origin := origin) idle live
  cases r : s.loom.restarting with
  | true =>
    rw [restarting r]
    exact ⟨_, List.mem_append_right _ List.mem_cons_self, rfl, rfl, rfl⟩
  | false =>
    rw [halted r (by simpa [State.loomRuns, r] using stopped)]
    exact ⟨_, List.mem_append_right _ List.mem_cons_self, rfl, rfl, rfl⟩

/-- Settles O9: the mark gives the domain's state and the overtaken commands, the close the gate, the keys and the event, and
step 3 the fences. -/
theorem abortStopsTheDomain : Obligations.AbortStopsTheDomain := by
  intro s l cause origin idle t
  refine ⟨fun dead => ?_, fun live => ?_⟩
  · simp [t, State.abort, idle, dead]
  · obtain ⟨dom, journal⟩ := State.abort_keeps (cause := cause) (origin := origin) idle live
    have settled : ∀ k, (s.settle.dom k).core = (s.dom k).core := s.settle_touches.core (by decide)
    obtain ⟨b, own⟩ := dom l
    have record := own.trans (Domain.core_squalled (State.markAborted_core_own _ _) b)
    refine ⟨Domain.core_state record, Domain.core_frozen record, Domain.core_mig record, ?_, ?_, ?_,
      State.abort_closed idle live, fun run i armed => State.abort_signals idle live run armed, State.abort_waits idle live⟩
    · have gen : (s.settle.dom l).gen = (s.dom l).gen := Domain.core_gen (settled l)
      exact (Domain.core_gen record).trans gen
    · intro e held owned journaled
      rw [journal] at held
      exact State.markAborted_overtaken _ held owned journaled
    · intro k other
      obtain ⟨b, kept⟩ := dom k
      have rest := Domain.core_state kept
      have marked : ((s.settle.markAborted l).dom k).state = (s.settle.dom k).state :=
        Domain.core_state (State.markAborted_core_other _ other)
      exact rest.trans (marked.trans (Domain.core_state (settled k)))

end Sys2Proof.Machine
end

section
/-!
PROOF. Suspended commands go on, and PEER commands run (R243, R254, R257, R259, R261).
-/
namespace Sys2Proof.Machine

/-! ### Suspended commands -/

/-- An entry whose condition holds runs its next steps. -/
theorem exec_journalStepResume {s : State} {jid : Nat} {e : JEntry} (sup : Supply)
    (held : s.settle.loom.journal.find? (fun e => e.jid == jid) = some e) (runs : s.settle.stepsRun = true)
    (due : s.settle.waitHolds e = true) :
    exec (.journalStepResume jid sup) s = .next (s.settle.resumeEntry e sup) := by
  show execJournalStepResume jid sup s = _
  simp only [execJournalStepResume, held, runs, due, Bool.and_self, nextIf_of]

section
variable {s : State} {e : JEntry} {sup : Supply}

theorem State.resumeEntry_transition {d : Nat} (h : e.cont = .transition d) : s.resumeEntry e sup = s.endTransition e d [] := by
  simp only [State.resumeEntry, h]

/-- The steps of every other entry end as they say, or as the abort that has overtaken it leaves them. -/
theorem State.resumeEntry_other (h : ∀ d, e.cont ≠ .transition d ∧ e.cont ≠ .unlock d) :
    s.resumeEntry e sup = s.settleEntry e (if e.overtaken then s.resumeAborted e sup else s.resume e sup) := by
  unfold State.resumeEntry
  split
  · next d c => exact absurd c (h d).1
  · next d c => exact absurd c (h d).2
  · rfl

theorem State.resumeEntry_reply {res : Bytes} (h : e.cont = .reply res) : s.resumeEntry e sup =
    (s.commit e (if e.overtaken then { status := stAborted } else { result := res })).endSpent.drainTurns := by
  rw [State.resumeEntry_other (by simp [h])]
  cases e.overtaken <;> simp [State.resumeAborted, State.resume, h, Res.ok, abortedReply, State.settleEntry]

theorem State.resumeEntry_quiesce {l : Nat} (h : e.cont = .quiesce l) (o : e.overtaken = false) :
    s.resumeEntry e sup = (s.commit e { result := leBytes 4 (s.inflight l) }).endSpent.drainTurns := by
  rw [State.resumeEntry_other (by simp [h]), o]
  simp [State.resume, h, Res.ok, State.settleEntry]

end

/-! ### PEER commands -/

/-- A row that takes a waiting message runs on the state without it. -/
theorem State.onMsg_of {s t : State} {g : Bool} {peer type : Nat} {p : Bytes → Bool} {m : CtrlMsg} (k : State → CtrlMsg → State)
    (h : s.takeMsg peer type p = some (m, t)) (ready : g = true) : s.onMsg g peer type p k = .next (k t m) := by
  simp only [State.onMsg, h, nextIf_of ready]

/-- The queues of PEER commands count no sequence. -/
theorem State.seqCheck_peer (s : State) (peer seq : Nat) : s.seqCheck (.peer peer) seq = .fresh := rfl

theorem State.inSequence_peer (s : State) {c : Cmd} {peer : Nat} (path : c.path = .peer peer) (k : State → State) :
    s.inSequence c k = k (s.accepted c) := by
  simp only [State.inSequence, path, State.seqCheck_peer]

/-- A class without the command is refused at check 4. -/
theorem State.runCommand_peer_denied (s : State) {c : Cmd} {sp : CmdSpec} {peer : Nat} (path : c.path = .peer peer)
    (version : c.hver = 1) (class_ : sp.perm[c.cls.column]? = some .none) :
    s.runCommand sp c = (s.settle.accepted c).reply c.entry 0 { status := stDenied, result := sp.failResult } true := by
  have failed : (s.settle.accepted c).checkFailure sp c = some { status := stDenied } := by
    simp [State.checkFailure, version, class_]
  rw [State.runCommand, State.inSequence_peer _ path]
  simp only [failed]
  exact State.refuseWith_reply (.inr (.inl rfl))

/-- Settles O10: an entry's continuation gives the end of its steps, and a PEER command's opcode its entry. -/
theorem suspendedAndPeerCommandsRun : Obligations.SuspendedAndPeerCommandsRun := by
  intro s jid peer sup e res l m t sp
  refine ⟨?_, ?_, ?_⟩
  · intro u held runs due
    rw [exec_journalStepResume sup held runs due]
    refine ⟨fun h => ?_, fun h o => ?_, fun h => ?_, fun h => ?_⟩
    · rw [State.resumeEntry_reply h]
    · rw [State.resumeEntry_quiesce h o]
    · rw [State.resumeEntry_transition h]
    · rw [State.resumeEntry_other h]
  · intro taken served c u
    have run : exec (.peerCmd peer) s = .next (if m.body.length < 260 then t.countDropped
        else ((t.tookTurn 70).runPeer peer m.body).endSpent.drainTurns) := State.onMsg_of _ taken served
    refine ⟨fun short => ?_, fun whole => ⟨fun spec => ?_, fun spec version class_ => ?_, fun spec => ?_⟩⟩
    · rw [run, if_pos short]
    · rw [run, if_neg (Nat.not_lt_of_le whole), State.runPeer]
      simp only [show specOf (peerCommand peer m.body).opcode = some sp from spec]
      rfl
    · rw [run, if_neg (Nat.not_lt_of_le whole), State.runPeer]
      simp only [show specOf (peerCommand peer m.body).opcode = some sp from spec]
      rw [State.runCommand_peer_denied _ (peer := peer) rfl version class_]
    · rw [run, if_neg (Nat.not_lt_of_le whole), State.runPeer]
      simp only [show specOf (peerCommand peer m.body).opcode = none from spec]
      rfl
  · intro clocked taken
    exact State.onMsg_of _ taken clocked

end Sys2Proof.Machine
end

section
/-!
PROOF. DOM_CREATE makes the domain on the LDI that is chosen (R29, R37, R141, R269).
-/
namespace Sys2Proof.Machine

/-! ### The new domain's state -/

/-- The new domain's record stands on its LDI, and its memory keys are derived. -/
def State.domainMade (s : State) (l : Nat) (c : Cmd) : State := (s.setDom l (s.newDomain l c)).installMemKeys l

/-- The map generation is published, the error fence named, and the zeroized flag is down. -/
def State.domainNamed (s : State) (l h : Nat) : State :=
  let p := (s.publish [mapRec l (s.dom l).mapCur false]).2
  { p.setDom l { p.dom l with errFence := h } with otp := { p.otp with zeroizedFlag := false } }

theorem State.domainMade_dom (s : State) (l : Nat) (c : Cmd) : (s.domainMade l c).dom l = s.newDomain l c := by
  rw [State.domainMade, (State.installMemKeys_touches _ _).dom (by decide), State.setDom_dom]

theorem State.domainMade_dom_other (s : State) {l k : Nat} (c : Cmd) (other : k ≠ l) : (s.domainMade l c).dom k = s.dom k := by
  rw [State.domainMade, (State.installMemKeys_touches _ _).dom (by decide), State.setDom_dom_other _ _ _ other]

@[simp] theorem State.domainNamed_dom (s : State) (l h : Nat) : (s.domainNamed l h).dom l = { s.dom l with errFence := h } :=
  State.setDom_dom _ _ _

theorem State.domainNamed_dom_other (s : State) {l k : Nat} (h : Nat) (other : k ≠ l) : (s.domainNamed l h).dom k = s.dom k :=
  State.setDom_dom_other _ _ _ other

theorem State.domainNamed_fence (s : State) (l h i : Nat) : (s.domainNamed l h).fence i = s.fence i := rfl

theorem State.domainNamed_published (s : State) (l h : Nat) :
    Output.bpPub (mapRec l (s.dom l).mapCur false) ∈ (s.domainNamed l h).out :=
  s.mem_publish List.mem_cons_self

/-- An allocation of a fence leaves the domains. -/
theorem State.allocFence_dom {s w : State} {l p h : Nat} (e : s.allocFence l p = some (h, w)) (k : Nat) : w.dom k = s.dom k := by
  obtain ⟨_, _, _, _, same⟩ := State.allocFence_spec e
  rw [same]
  rfl

/-! ### The body (R269) -/

/-- With its arguments in order, an LDI to choose, room in the pools and a fence, DOM_CREATE makes the domain. -/
theorem createBody_of_ldi {s w : State} {c : Cmd} {l h : Nat} (order : CreateInOrder s c) (choice : s.chooseLdi = some l)
    (fits : s.grantFits (grantOf c) = true) (fence : (s.domainMade l c).allocFence l 0 = some (h, w)) :
    createBody s c =
      .done { result := leBytes 1 l ++ leBytes 1 0 ++ leBytes 2 (s.dom l).gen ++ leBytes 4 h } (w.domainNamed l h) := by
  have busy : (c.p 10 1 != 0 && (s.vmLdi (c.p 10 1)).isSome) = false := by
    rcases order.vmFree with e | e <;> simp [e]
  have members : c.p 8 2 ≠ 0 := Nat.ne_of_gt (Nat.zero_lt_of_lt order.rankRange)
  have rank : ¬ c.p 8 2 ≤ c.p 6 2 := Nat.not_le_of_lt order.rankRange
  have vm : ¬ 63 < c.p 10 1 := Nat.not_lt_of_le order.vmRange
  have gen : (w.dom l).gen = (s.dom l).gen := by
    rw [State.allocFence_dom fence, State.domainMade_dom]
    rfl
  unfold State.domainMade at fence
  simp [createBody, order.root, order.devid, busy, order.fdtReady, order.quarantineOpen, order.gdidSet, order.gdidFree,
    order.fdtSet, order.fdtFree, members, rank, vm, order.grantLow, order.grantHigh, choice, fits, fence, ← gen, Res.ok]
  rfl

/-- Settles O12: the body makes the domain, whose record, fence and publication are those of the state it leaves. -/
theorem domCreateMakesTheDomain : Obligations.DomCreateMakesTheDomain := by
  intro s src c l h w begins u g root devid vmFree vmRange fdtReady quarantineOpen gdidSet gdidFree fdtSet fdtFree rankRange
    grantLow grantHigh fits choice fence
  have order (j : Nat) : CreateInOrder u (c.named j) := ⟨root, devid, vmFree, vmRange, fdtReady, quarantineOpen, gdidSet, gdidFree, fdtSet, fdtFree,
    rankRange, grantLow, grantHigh⟩
  obtain ⟨i, handle, armed, -, -⟩ := State.allocFence_spec fence
  have own : w.dom l = u.newDomain l c := (State.allocFence_dom fence l).trans (u.domainMade_dom l c)
  refine ⟨w.domainNamed l h, completes begins rfl (createBody_of_ldi (order _) choice fits fence), ?_,
    ⟨i, handle, ?_, ?_⟩, ?_, fun k other => ?_, rfl⟩
  · rw [State.domainNamed_dom, own]
  · rw [State.domainNamed_fence, armed]
  · rw [State.domainNamed_fence, armed]
  · have published := w.domainNamed_published l h
    rwa [own] at published
  · rw [State.domainNamed_dom_other _ _ other, State.allocFence_dom fence]
    exact u.domainMade_dom_other c other

end Sys2Proof.Machine
end

section
/-!
PROOF. The other domain and context commands (R52, R53, R258, R270 to R277).
-/
namespace Sys2Proof.Machine

/-! ### DOM_SET_POLICY, DOM_QUIESCE, DOM_ABORT (R270, R274, R275) -/

theorem setPolicyBody_of {s : State} {c : Cmd} {new : BitVec 32} (word : BitVec.ofNat 32 (c.p 0 4) = new)
    (tenant : c.cls = .tenant → loosens (s.dom c.ldi).policy new = false) (ports : s.refusesBound (s.dom c.ldi) new = false) :
    setPolicyBody s c = .done { result := bvBytes 4 new } (s.setDom c.ldi { s.dom c.ldi with policy := new }) := by
  have kept : (c.cls == .tenant && loosens (s.dom c.ldi).policy new) = false := by
    by_cases own : c.cls = .tenant
    · simp [tenant own]
    · simp [own]
  simp only [setPolicyBody, word, kept, ports]
  rfl

theorem quiesceBody_of_live {s : State} {c : Cmd} (h : (s.dom c.ldi).state ∈ [DomState.building, .sealed_, .running]) :
    quiesceBody s c = .wait (.bp s.bp.nextSync) (.quiesce c.ldi)
      ((s.setDom c.ldi { s.dom c.ldi with state := .quiescing }).publish [gateRec c.ldi false]).2 := by
  simp only [List.mem_cons, List.not_mem_nil, or_false] at h
  rcases h with state | state | state <;> simp only [quiesceBody, state] <;> rfl

theorem quiesceBody_of_stopped {s : State} {c : Cmd} (h : (s.dom c.ldi).state ∉ [DomState.building, .sealed_, .running]) :
    quiesceBody s c = .done { result := leBytes 4 (s.inflight c.ldi) } s := by
  cases state : (s.dom c.ldi).state <;> simp [state] at h <;> simp only [quiesceBody, state] <;> rfl

theorem abortBody_of_live {s : State} {c : Cmd} (h : (s.dom c.ldi).state ≠ .aborted) :
    abortBody s c = .done { result := leBytes 4 (s.armedOf c.ldi).length }
      (s.abort c.ldi (if c.cls = .tenant then 0x02 else 0x01) true) := by
  simp [abortBody, h, Res.ok]

theorem abortBody_of_aborted {s : State} {c : Cmd} (h : (s.dom c.ldi).state = .aborted) :
    abortBody s c = .done { result := leBytes 4 0 } s := by
  simp [abortBody, h, Res.ok]

/-! ### DOM_RETIRE (R53, R276) -/

theorem Domain.core_retiring {d e : Domain} (h : d.core = e.core) : d.retiring = e.retiring :=
  show d.core.retiring = e.core.retiring from h ▸ rfl

/-- Step 1 of R53: the fences signal, the replay entries end and the usage accrues. -/
def State.retireSignalled (s : State) (l : Nat) : State := ((s.settle.signalAll l 0x09).rcEnd l).accrue l

/-- Steps 2 and 3 begin: the generation advances and the keys end. -/
def State.retireAdvanced (s : State) (l : Nat) : State :=
  ((s.setDom l { s.dom l with gen := (s.dom l).gen + 1, retiring := true, frozen := false, mig := none }).dropKeys l
    endsAtAdvance).dropGroupKeys l

/-- The work of the LDI that has not passed its point of order is dropped. -/
def State.retireDropped (s : State) (l : Nat) : State :=
  (((s.retireWeft l).dropRxq (fun p => p.ldi == l)).discardBatten l).abortPulls l

theorem retireBody_eq (s : State) (c : Cmd) : ∃ w p b, retireBody s c = .wait (.inflight c.ldi) (.retireDrain c.ldi w p b)
    (((s.retireSignalled c.ldi).retireAdvanced c.ldi).retireDropped c.ldi) := ⟨_, _, _, rfl⟩

theorem State.retireDropped_touches (s : State) (l : Nat) :
    Touches [.tallies, .weft, .shuttle, .batten, .spindle, .counters, .trace, .out] s (s.retireDropped l) :=
  (((((s.retireWeft_touches l).mono (by decide)).trans ((State.dropRxq_touches _ _).mono (by decide))).trans
    ((State.discardBatten_touches _ l).mono (by decide))).trans ((State.abortPulls_touches _ l).mono (by decide)))

/-- The dropped work leaves the advanced record. -/
theorem State.retire_core (s : State) (l : Nat) : ((((s.retireSignalled l).retireAdvanced l).retireDropped l).dom l).core =
    ({ (s.retireSignalled l).dom l with
      gen := ((s.retireSignalled l).dom l).gen + 1, retiring := true, frozen := false, mig := none } : Domain).core := by
  rw [(State.retireDropped_touches _ l).core (by decide), State.retireAdvanced, (State.dropGroupKeys_touches _ l).core (by decide),
    (State.dropKeys_touches _ l _).core (by decide), State.setDom_dom]

theorem State.retireSignalled_gen (s : State) (l : Nat) : ((s.retireSignalled l).dom l).gen = (s.dom l).gen := by
  have kept : ((s.retireSignalled l).dom l).core = (s.dom l).core := by
    rw [State.retireSignalled, (State.accrue_touches _ l).core (by decide), (State.rcEnd_touches _ l).core (by decide),
      (State.signalAll_touches _ l _).core (by decide), s.settle_touches.core (by decide)]
  exact Domain.core_gen kept

theorem State.retire_fence (s : State) (l i : Nat) :
    (((s.retireSignalled l).retireAdvanced l).retireDropped l).fence i = (s.settle.signalAll l 0x09).fence i := by
  rw [(State.retireDropped_touches _ l).fence (by decide), State.retireAdvanced, (State.dropGroupKeys_touches _ l).fence (by decide),
    (State.dropKeys_touches _ l _).fence (by decide)]
  show (s.retireSignalled l).fence i = _
  rw [State.retireSignalled, (State.accrue_touches _ l).fence (by decide), (State.rcEnd_touches _ l).fence (by decide)]

theorem State.retire_keys (s : State) (l : Nat) :
    (((s.retireSignalled l).retireAdvanced l).retireDropped l).keys.slots.any
      (fun x => x.2.ldi == l && endsAtAdvance x.2.type) = false := by
  rw [(State.retireDropped_touches _ l).keys.resolve_left (by decide), State.retireAdvanced,
    (State.dropGroupKeys_touches _ l).keys.resolve_left (by decide)]
  exact State.dropKeys_none _ _ _

@[simp] theorem State.finishRetire_state (s : State) (l : Nat) : ((s.finishRetire l).dom l).state = .retired := by
  unfold State.finishRetire
  dsimp only
  rw [State.setDom_dom]

/-! ### DOM_QUERY (R277) -/

theorem queryBody_of_extended {s : State} {c : Cmd} (shape : queryShape c = true) (ext : queryExtended c = true) :
    ∃ res, queryBody s c = .done { result := res, ext := (s.committed.queryRecords c).1.flatten } s := by
  simp only [queryBody, shape, ext, Bool.not_true, Bool.false_eq_true, if_true, if_false, Res.ok, List.flatMap_id]
  exact ⟨_, rfl⟩

theorem queryBody_of_inline {s : State} {c : Cmd} (shape : queryShape c = true) (ext : queryExtended c = false) :
    ∃ rest, queryBody s c = .done { result := (leBytes 1 (s.committedDom c.ldi).state.code ++
      leBytes 1 (s.committedDom c.ldi).flagByte ++ leBytes 2 (s.committedDom c.ldi).gen ++
      leBytes 4 (s.committedDom c.ldi).gdid) ++ rest } s := by
  simp only [queryBody, shape, ext, Bool.not_true, Bool.false_eq_true, if_false, Res.ok, List.append_assoc]
  exact ⟨_, rfl⟩

/-! ### Contexts (R52, R271, R272) -/

/-- A new context stands at i, and its queues are published. -/
def State.contextAdded (s : State) (i : Nat) (x : Context) : State :=
  ({ s with tables := { s.tables with contexts := s.tables.contexts.put i x } }.publish
    (x.queues.map (fun q => queueRec q x.ldi i true))).2

/-- The command's entry notes the context that it makes. -/
def State.lockContext (s : State) (jid i : Nat) : State :=
  match s.loom.journal.find? (fun e => e.jid == jid) with
  | some e => s.setEntry { e with lockContexts := [i] }
  | none => s

theorem State.lockContext_touches (s : State) (jid i : Nat) : Touches [.loom] s (s.lockContext jid i) := by
  unfold State.lockContext
  split
  · exact State.setEntry_touches _ _
  · exact Touches.refl _ _

/-- With room, a free context ID and a free slot, and queues that are the host's and no other context's. -/
theorem addContextBody_of {s : State} {c : Cmd} {i k : Nat} (some_ : 1 ≤ c.p 0 2) (few : c.p 0 2 ≤ 1024)
    (place : c.pbuf = true ∨ c.p 0 2 ≤ 54) (once : (words c.params 4 (c.p 0 2)).eraseDups.length = c.p 0 2)
    (ours : ∀ q ∈ words c.params 4 (c.p 0 2), covered s.bp.queues q = true)
    (free : ∀ q ∈ words c.params 4 (c.p 0 2), ∀ y ∈ s.tables.contexts.vals, q ∉ y.queues)
    (room : (s.contextsOf c.ldi).length < (s.dom c.ldi).grant.contexts) (id_ : s.freeContext = some i)
    (slot : s.freeCslot c.ldi = some k) :
    addContextBody s c = .wait (.bp s.bp.nextSync) (.reply (leBytes 2 i ++ leBytes 1 k))
      ((s.contextAdded i { ldi := c.ldi, slot := k, queues := words c.params 4 (c.p 0 2) }).lockContext c.jid i) := by
  have inline_ : inlineOk c (c.p 0 2) = true := by
    rcases place with buffer | small <;> simp [inlineOk, *]
  have shape : (c.p 0 2 == 0 || decide (1024 < c.p 0 2) || !inlineOk c (c.p 0 2)
      || (words c.params 4 (c.p 0 2)).eraseDups.length != c.p 0 2
      || !(words c.params 4 (c.p 0 2)).all (covered s.bp.queues)) = false := by
    have none_zero : c.p 0 2 ≠ 0 := Nat.ne_of_gt some_
    have all_ : (words c.params 4 (c.p 0 2)).all (covered s.bp.queues) = true := List.all_eq_true.2 ours
    simp [none_zero, few, inline_, once, all_]
  have unused : (words c.params 4 (c.p 0 2)).any (fun q => s.tables.contexts.vals.any (fun x => x.queues.contains q)) = false := by
    refine List.any_eq_false.2 fun q hq used => ?_
    obtain ⟨y, hy, has⟩ := List.any_eq_true.1 used
    exact free q hq y hy (by simpa using has)
  have fits : ¬ (s.dom c.ldi).grant.contexts ≤ (s.contextsOf c.ldi).length := Nat.not_le_of_lt room
  simp only [addContextBody, shape, unused, fits, decide_false, Bool.false_eq_true, if_false, id_, slot]
  rfl

/-- The context at i begins to go, and its queues are published as closing. -/
def State.contextClosing (s : State) (i : Nat) (x : Context) : State :=
  ({ s with tables := { s.tables with contexts := s.tables.contexts.put i { x with releasing := true } } }.publish
    (x.queues.map (fun q => queueRec q x.ldi i false))).2

theorem releaseContextBody_of {s : State} {c : Cmd} {x : Context} (live : s.tables.contexts.find (c.p 0 4) = some x)
    (own : x.ldi = c.ldi) : releaseContextBody s c =
      .wait (.bp s.bp.nextSync) (.releaseContext c.ldi (c.p 0 4)) (s.contextClosing (c.p 0 4) x) := by
  simp only [releaseContextBody, live, own, bne_self_eq_false, Bool.false_eq_true, if_false]
  rw [State.contextClosing, own]
  rfl

theorem State.finishRelease_gone (s : State) (l n : Nat) : (s.finishRelease l n).1.tables.contexts.find n = none := by
  unfold State.finishRelease
  dsimp only
  exact Map.find_del_self _ _

/-! ### DOM_SEAL (R31, R32, R273) -/

/-- The domain's ephemeral seed is drawn. -/
def State.sealKeyed (s : State) (l : Nat) : State := s.draw.2.setFixed l 5 7 (keyOf (drawBytes s.draw.1 32))

/-- The domain's policy word goes to its neighbours. -/
def State.policyTold (s : State) (ps : List Nat) (l : Nat) : State := ps.foldl (fun s p => s.sendPolicy p l) s

theorem State.policyTold_touches (s : State) (ps : List Nat) (l : Nat) :
    Touches [.shuttle, .counters, .out] s (s.policyTold ps l) :=
  Touches.foldl _ _ _ (Touches.refl _ _) fun u p h => h.trans (u.sendPolicy_touches p l)

theorem State.policyTold_state (s : State) (ps : List Nat) (l k : Nat) : ((s.policyTold ps l).dom k).state = (s.dom k).state :=
  congrArg Domain.state ((s.policyTold_touches ps l).dom (by decide) k)

theorem State.publish_dom (s : State) (rs : List (BitVec 128)) (k : Nat) : (s.publish rs).2.dom k = s.dom k := rfl

@[simp] theorem State.startRunning_state (s : State) (l : Nat) : ((s.startRunning l).dom l).state = .running := by
  have own : (s.startRunning l).dom l = { s.dom l with state := .running } := State.setDom_dom s l _
  rw [own]

theorem sealBody_of_building {s : State} {c : Cmd} (cls : c.cls ≠ .tenant) (state : (s.dom c.ldi).state = .building)
    (ready : s.drbgReady = true) : sealBody s c =
      let d := s.dom c.ldi
      let sealed_ := if d.autoRun then (s.sealKeyed c.ldi).startRunning c.ldi
        else (s.sealKeyed c.ldi).setDom c.ldi { (s.sealKeyed c.ldi).dom c.ldi with state := .sealed_ }
      let t := (sealed_.policyTold d.neighbours.vals.eraseDups c.ldi).publish
        (neighReq c.ldi d.rank d.members :: (if d.autoRun then [gateRec c.ldi true] else []))
      if d.autoRun then .wait (.bp t.1) (.reply (leBytes 1 3)) t.2 else .done { result := leBytes 1 2 } t.2 := by
  have tenant : (c.cls == .tenant) = false := by simp [cls]
  simp only [sealBody, tenant, state, sealBuilding, ready, Bool.not_true, Bool.false_eq_true, if_false]
  rfl

theorem sealBody_of_starting {s : State} {c : Cmd} (cls : c.cls = .tenant) (state : (s.dom c.ldi).state = .sealed_) :
    sealBody s c = .wait (.bp (s.startRunning c.ldi).bp.nextSync) (.reply (leBytes 1 3))
      ((s.startRunning c.ldi).publish [gateRec c.ldi true]).2 := by
  simp only [sealBody, cls, state, beq_self_eq_true]
  rfl

theorem sealBody_of_running {s : State} {c : Cmd} (cls : c.cls = .tenant) (state : (s.dom c.ldi).state = .running) :
    sealBody s c = .done { result := leBytes 1 3 } s := by
  simp only [sealBody, cls, state, beq_self_eq_true]
  rfl

/-! ### The statement -/

/-- An entry that waits for an acknowledgement alone completes with its RESULT. -/
theorem ends_of_reply {t : State} {e : JEntry} {res : Bytes} (h : Wakes t e) (o : e.overtaken = false)
    (k : e.cont = .reply res) : Ends t e { result := res } t.settle :=
  ends h o (by simp [k]) fun sup => by simp [State.resume, k, Res.ok]

theorem domainCommandsTakeEffect_own (s : State) (src : Src) (c : Cmd) :
    (Begins s src domRetireSpec c →
      let u := s.begun domRetireSpec c
      ∃ w p b v, Suspends (.domRetire src) s domRetireSpec c (.inflight c.ldi) (.retireDrain c.ldi w p b) v ∧
        (v.dom c.ldi).gen = (u.dom c.ldi).gen + 1 ∧ (v.dom c.ldi).retiring = true ∧
        (∀ i ∈ u.settle.armedOf c.ldi, (v.fence i).state = .signalled ∧ (v.fence i).status = stAborted ∧
          (v.fence i).cause = 0x09) ∧
        v.keys.slots.any (fun x => x.2.ldi == c.ldi && endsAtAdvance x.2.type) = false) := by
  intro begins u
  obtain ⟨w, p, b, body⟩ := retireBody_eq u (c.named ((s.checked c).newJid domRetireSpec c))
  rw [Cmd.named_ldi] at body
  have record := u.retire_core c.ldi
  refine ⟨w, p, b, _, suspends begins rfl body, ?_, ?_, fun i armed => ?_, u.retire_keys c.ldi⟩
  · have gen := Domain.core_gen record
    rw [← u.retireSignalled_gen c.ldi]
    exact gen
  · have retiring := Domain.core_retiring record
    exact retiring
  · obtain ⟨state, status, cause, -⟩ := State.signalAll_armed 0x09 armed
    rw [State.retire_fence]
    exact ⟨state, status, cause⟩

/-- Settles O13: each command's body on the states that its entry takes, and the steps that follow an acknowledgement. -/
theorem domainCommandsTakeEffect : Obligations.DomainCommandsTakeEffect := by
  refine ⟨fun s src c => ⟨?_, ?_, ?_, ?_, domainCommandsTakeEffect_own s src c, ?_, ?_⟩, fun s src c i k x => ⟨?_, ?_, ?_, ?_⟩,
    fun s src c begins => ⟨?_, ?_, ?_, ?_⟩⟩
  · intro begins u new tenant ports
    exact completes begins rfl (setPolicyBody_of (c := c.named _) rfl tenant ports)
  · intro begins u
    exact ⟨fun live => suspends begins rfl (quiesceBody_of_live (c := c.named _) live),
      fun stopped => completes begins rfl (quiesceBody_of_stopped (c := c.named _) stopped)⟩
  · intro t e l wakes o k
    exact ends wakes o (by simp [k]) fun sup => by simp [State.resume, k, Res.ok]
  · intro begins u
    exact ⟨fun live => completes begins rfl (abortBody_of_live (c := c.named _) live),
      fun aborted => completes begins rfl (abortBody_of_aborted (c := c.named _) aborted)⟩
  · intro t e l w p b wakes o k
    exact ⟨t.settle.finishRetire l, ends wakes o (by simp [k]) fun sup => by simp [State.resume, k, Res.ok],
      State.finishRetire_state _ _⟩
  · intro begins u d shape
    cases ext : queryExtended c with
    | true =>
      obtain ⟨res, body⟩ := queryBody_of_extended (s := u) (c := c.named _) shape ext
      exact ⟨_, completes begins rfl body, rfl, fun _ => rfl, fun h => by cases h⟩
    | false =>
      obtain ⟨rest, body⟩ := queryBody_of_inline (s := u) (c := c.named _) shape ext
      refine ⟨_, completes begins rfl body, rfl, fun h => (by cases h), fun _ => ?_⟩
      exact List.take_left' (by simp only [List.length_append, leBytes_length])
  · intro begins u qs some_ few place once ours free room id_ slot
    have body := addContextBody_of (s := s.begun domAddContextSpec c)
      (c := c.named ((s.checked c).newJid domAddContextSpec c)) some_ few place once ours free room id_ slot
    refine ⟨_, suspends begins rfl body, ?_, fun q hq => ?_⟩
    · rw [(State.lockContext_touches _ _ _).tables.contexts.resolve_left (by decide)]
      exact Map.find_put_self _ _ _
    · exact (State.lockContext_touches _ _ _).outKept (by decide) _ (State.mem_publish _ (List.mem_map_of_mem hq))
  · intro t e res wakes o k
    exact ends_of_reply wakes o k
  · intro begins u live own
    refine ⟨_, suspends begins rfl (releaseContextBody_of (c := c.named _) live own), Map.find_put_self _ _ _, fun q hq => ?_⟩
    rw [← own]
    exact State.mem_publish _ (List.mem_map_of_mem hq)
  · intro t e l n wakes o k
    exact ⟨(t.settle.finishRelease l n).2, (t.settle.finishRelease l n).1,
      ends wakes o (by simp [k]) fun sup => by simp only [State.resume, k, Res.ok], State.finishRelease_gone _ _ _⟩
  · intro cls state ready auto
    have body := sealBody_of_building (s := s.begun domSealSpec c) (c := c.named _) cls state ready
    simp only [Cmd.named_ldi, auto, Bool.false_eq_true, if_false] at body
    refine ⟨_, completes begins rfl body, ?_⟩
    rw [State.publish_dom, State.policyTold_state, State.setDom_dom]
  · intro cls state ready auto
    have body := sealBody_of_building (s := s.begun domSealSpec c) (c := c.named _) cls state ready
    simp only [Cmd.named_ldi, auto, if_true] at body
    refine ⟨_, _, suspends begins rfl body, ?_, State.mem_publish _ (by simp)⟩
    rw [State.publish_dom, State.policyTold_state, State.startRunning_state]
  · intro cls state
    refine ⟨_, _, suspends begins rfl (sealBody_of_starting (c := c.named _) cls state), ?_, State.mem_publish _ (by simp)⟩
    rw [Cmd.named_ldi, State.publish_dom, State.startRunning_state]
  · intro cls state
    exact completes begins rfl (sealBody_of_running (c := c.named _) cls state)

end Sys2Proof.Machine
end

section
/-!
PROOF. MEM_ASSIGN and MEM_RELEASE, the passes over memory, and MEM_IMPORT_BLOB (R40, R41, R219, R278 to R283).
-/
namespace Sys2Proof.Machine

/-! ### The steps of an entry that goes on -/

/-- Steps that end well with the bytes that have come complete the command. -/
theorem exec_resumed {t v : State} {e : JEntry} {r : Reply} {sup : Supply} (h : Wakes t e) (o : e.overtaken = false)
    (k : ∀ d, e.cont ≠ .transition d ∧ e.cont ≠ .unlock d) (b : t.settle.resume e sup = .done r v) :
    exec (.journalStepResume e.jid sup) t = .next ((v.commit e r).endSpent.drainTurns) := by
  rw [wakes_runs h sup, State.resumeEntry_other k, o, b]
  rfl

/-- Steps that wait again suspend it. -/
theorem exec_suspended {t v : State} {e : JEntry} {w : Wait} {c : Cont} {sup : Supply} (h : Wakes t e) (o : e.overtaken = false)
    (k : ∀ d, e.cont ≠ .transition d ∧ e.cont ≠ .unlock d) (b : t.settle.resume e sup = .wait w c v) :
    exec (.journalStepResume e.jid sup) t = .next ((v.suspend e.jid w c).endSpent) := by
  rw [wakes_runs h sup, State.resumeEntry_other k, o, b]
  rfl

/-! ### MEM_ASSIGN (R40, R278) -/

theorem State.hold_got (s : State) (l k g j : Nat) :
    (s.hold l k g j).got g = { ldi := l, gen := (s.dom l).gen, state := .held, cslot := k } :=
  State.setGot_got (s.accrue l) g _

theorem State.hold_got_other (s : State) (l k g j : Nat) {h : Nat} (other : h ≠ g) : (s.hold l k g j).got h = s.got h :=
  (State.setGot_got_other (s.accrue l) g _ other).trans ((s.accrue_touches l).gotAt (by decide) h)

theorem State.hold_queued (s : State) (l k g j : Nat) : (s.hold l k g j).weft.scrubQ.getLast?.map (·.granule) = some g := by
  unfold State.hold
  simp

theorem assignBody_of {s : State} {c : Cmd} {g : Nat} {rest : List Nat} (list_ : listOk c = true)
    (slot : c.p 1 1 = 0 ∨ (s.contextsOf c.ldi).any (fun x => x.2.slot == c.p 1 1 && !x.2.releasing) = true)
    (front : granuleList c = g :: rest) (free : s.assignStatus c.ldi g = stOk) (on : s.outlived c.jid c.ldi = false) :
    assignBody s c = .wait .scrub (.assign c.ldi (c.p 1 1) 1 rest) (s.hold c.ldi (c.p 1 1) g c.jid) := by
  have ours : (c.p 1 1 != 0 && !(s.contextsOf c.ldi).any (fun x => x.2.slot == c.p 1 1 && !x.2.releasing)) = false := by
    rcases slot with zero | has
    · simp [zero]
    · simp [has]
  simp only [assignBody, list_, ours, front, State.stepAssign, on, free]
  rfl

/-! ### MEM_RELEASE (R41, R279) -/

/-- A granule of the list is put into SCRUBBING. -/
theorem State.scrubOne_got (s : State) (l g : Nat) :
    (s.scrubGranules l [g] false none).got g = { s.got g with state := .scrubbing } := by
  have same : (s.accrue l).got g = s.got g := (s.accrue_touches l).gotAt (by decide) g
  rw [← same]
  exact State.setGot_got (s.accrue l) g _

theorem State.scrubOne_got_other (s : State) (l : Nat) {g h : Nat} (other : h ≠ g) :
    (s.scrubGranules l [g] false none).got h = s.got h :=
  (State.setGot_got_other (s.accrue l) g _ other).trans ((s.accrue_touches l).gotAt (by decide) h)

theorem State.scrubOne_gen (s : State) (l g : Nat) : ((s.scrubGranules l [g] false none).dom l).gen = (s.dom l).gen :=
  Domain.core_gen ((s.accrue_touches l).core (by decide) l)

/-- Only a granule of the LDI can be released. -/
theorem State.releaseStatus_ldi {s : State} {l g : Nat} (h : s.releaseStatus l g = stOk) : (s.got g).ldi = l := by
  unfold State.releaseStatus at h
  dsimp only at h
  split at h
  · cases h
  · next own =>
    simp only [Bool.or_eq_true, bne_iff_ne, ne_eq, not_or, not_not] at own
    exact own.1

/-- Another granule's release changes nothing for this one. -/
theorem State.releaseStatus_scrubOne (s : State) (l : Nat) {g h : Nat} (other : h ≠ g) :
    (s.scrubGranules l [g] false none).releaseStatus l h = s.releaseStatus l h := by
  simp only [State.releaseStatus, State.scrubOne_got_other s l other, State.scrubOne_gen]

/-- Granules that can all be released are all put into SCRUBBING. -/
theorem State.releaseList_of (gs : List Nat) (s : State) (l done : Nat) (once : gs.Nodup)
    (ready : ∀ h ∈ gs, s.releaseStatus l h = stOk) :
    ∃ v, s.releaseList l done gs = .done { result := listReply (done + gs.length) noGranule } v ∧
      (∀ h ∈ gs, (v.got h).state = .scrubbing ∧ (v.got h).ldi = l) ∧ ∀ h, h ∉ gs → v.got h = s.got h := by
  induction gs generalizing s done with
  | nil => exact ⟨s, rfl, by simp, fun _ _ => rfl⟩
  | cons g gs ih =>
    obtain ⟨fresh, once⟩ := List.nodup_cons.1 once
    have now := ready g List.mem_cons_self
    have later : ∀ h ∈ gs, (s.scrubGranules l [g] false none).releaseStatus l h = stOk := fun h m => by
      rw [State.releaseStatus_scrubOne s l (ne_of_mem_of_not_mem m fresh)]
      exact ready h (List.mem_cons_of_mem _ m)
    obtain ⟨v, run, scrubbed, kept⟩ := ih (s.scrubGranules l [g] false none) (done + 1) once later
    refine ⟨v, ?_, fun h m => ?_, fun h m => ?_⟩
    · simp only [State.releaseList, now, beq_self_eq_true, if_true, run, List.length_cons]
      rw [Nat.add_assoc, Nat.add_comm 1]
    · rcases List.mem_cons.1 m with rfl | m
      · rw [kept h fresh, State.scrubOne_got]
        exact ⟨rfl, State.releaseStatus_ldi now⟩
      · exact scrubbed h m
    · obtain ⟨other, out⟩ := not_or.1 (mt List.mem_cons.2 m)
      rw [kept h out, State.scrubOne_got_other s l other]

theorem releaseBody_of {s : State} {c : Cmd} (h : listOk c = true) : releaseBody s c = s.releaseList c.ldi 0 (granuleList c) := by
  simp only [releaseBody, h, if_true]

/-! ### MEM_SCRUB, MEM_FINGERPRINT, MEM_DIGEST (R280, R283) -/

theorem scrubBody_of {s : State} {c : Cmd} (mode : c.p 0 1 ≤ 1) (some_ : c.p 8 4 ≠ 0) (below : c.p 4 4 + c.p 8 4 ≤ 4194304)
    (ours : ∀ g ∈ span (c.p 4 4) (c.p 8 4), s.owns c.ldi g = true) :
    scrubBody s c = (s.addScan
      { jid := c.jid, kind := if c.p 0 1 = 0 then .zero else .verify, ldi := c.ldi, gen := (s.dom c.ldi).gen,
        next := 1024 * c.p 4 4, stop := 1024 * (c.p 4 4 + c.p 8 4) }).stepScan c.jid := by
  have low : ¬ 1 < c.p 0 1 := Nat.not_lt_of_le mode
  have fits : ¬ granuleTop < c.p 4 4 + c.p 8 4 := Nat.not_lt_of_le below
  have all_ : (span (c.p 4 4) (c.p 8 4)).all (s.owns c.ldi) = true := List.all_eq_true.2 ours
  simp [scrubBody, low, some_, fits, all_]

theorem regionBody_of {s : State} {c : Cmd} {kind : ScanKind} {o : Nat} (some_ : c.p (o + 8) 8 ≠ 0)
    (below : c.p o 4 + c.p (o + 8) 8 ≤ 2 ^ 32)
    (ours : ∀ g ∈ lineGranules (c.p o 4) (c.p (o + 8) 8), s.owns c.ldi g = true) :
    regionBody kind o s c = (s.addScan
      { jid := c.jid, kind := kind, ldi := c.ldi, gen := (s.dom c.ldi).gen, next := c.p o 4, stop := c.p o 4 + c.p (o + 8) 8,
        fseed := if kind == .finger then c.params.take 16 else [] }).stepScan c.jid := by
  have fits : ¬ 2 ^ 32 < c.p o 4 + c.p (o + 8) 8 := Nat.not_lt_of_le below
  have all_ : (lineGranules (c.p o 4) (c.p (o + 8) 8)).all (s.owns c.ldi) = true := List.all_eq_true.2 ours
  simp only [regionBody, beq_eq_false_iff_ne.2 some_, decide_eq_false fits, all_, Bool.or_self, Bool.not_true, Bool.false_eq_true,
    if_false]

/-! ### The end of a pass -/

/-- A pass with nothing outstanding that has reached its end goes no further. -/
theorem State.runScan_ended {s : State} {jid : Nat} {x : Scan} (line : State → Scan → Option Line) (held : s.scan jid = some x)
    (idle : x.out = false) (ended : x.stop ≤ x.next) : s.runScan jid line = s := by
  have stopped : s.scanTurn jid line = none := by
    simp [State.scanTurn, held, idle, ended]
  simp only [State.runScan, held, State.scanTurns, stopped]

/-- No sequencer of a fingerprint has a line left. -/
theorem State.scanReady_of_scanLanes {s : State} {x : Scan} (h : s.scanLanes x = []) :
    (List.range s.build.lanes).find? (s.scanReady x) = none := by
  refine List.find?_eq_none.2 fun n hn ready => ?_
  have head : s.scanHead x n = none := by
    have out := List.filter_eq_nil_iff.1 h n hn
    simpa using out
  simp [State.scanReady, head] at ready

theorem State.runFinger_ended {s : State} {jid : Nat} {x : Scan} (held : s.scan jid = some x) (idle : s.takeAnswer x.src = none)
    (lanes : s.scanLanes x = []) (live : s.scanDead x = false) : s.runFinger jid = s := by
  have stopped : s.fingerTurn jid = none := by
    simp [State.fingerTurn, held, idle, live, State.scanReady_of_scanLanes lanes]
  simp only [State.runFinger, held, State.fingerTurns, stopped]

/-- A scrub, a fingerprint or a digest at its end gives its reply. -/
theorem State.stepScan_ended {s : State} {jid : Nat} {x : Scan} (held : s.scan jid = some x) (idle : x.out = false)
    (none_out : x.outs = []) (begun : x.begun = true) (ended : x.stop ≤ x.next)
    (finger : x.kind = .finger → s.takeAnswer x.src = none ∧ s.scanLanes x = [] ∧ s.scanDead x = false) :
    s.stepScan jid = .done (s.scanReply x) ((s.bindScan x).drainInteg.endScan x) := by
  have passed : s.scanEnded x = true := by
    by_cases kind : x.kind = .finger
    · simp [State.scanEnded, State.scanPassed, idle, none_out, kind, (finger kind).2.1]
    · simp [State.scanEnded, State.scanPassed, idle, none_out, kind, ended]
  have ran : (if x.kind == ScanKind.finger then s.runFinger jid else s.runScan jid zeroLine) = s := by
    by_cases kind : x.kind = .finger
    · obtain ⟨noAnswer, lanes, live⟩ := finger kind
      simp [kind, State.runFinger_ended held noAnswer lanes live]
    · simp [kind, State.runScan_ended zeroLine held idle ended]
  unfold State.stepScan
  simp only [held]
  rw [ran]
  simp [held, begun, passed]

/-! ### MEM_IMPORT_BLOB (R219, R220, R282) -/

theorem importBody_of {s : State} {c : Cmd} (ours : s.weightSlot c.ldi (c.p 0 2) = true) (idle : (s.keySlot (c.p 0 2)).busy = false) :
    importBody s c = .wait .dma (.importBlob c.ldi (c.p 0 2) (c.p 8 8) (c.p 16 8) [])
      ((s.setSlot (c.p 0 2) { s.keySlot (c.p 0 2) with busy := true }).emit
        (.dmaRead (dmaChannel c.jid) (s.dmaFunc c.path) (c.p 8 8) 32)) := by
  simp only [importBody, ours, idle, Bool.not_true, Bool.false_eq_true, if_false]
  rfl

/-- With every byte there, no more are taken. -/
theorem takeDma_full {got : Bytes} {total : Nat} {sup : Supply} (fine : sup.dmaErr = false) (full : got.length = total) :
    takeDma got total sup = got := by
  simp [takeDma, fine, ← full]

theorem State.stepBlob_ended {s : State} {e : JEntry} {l i a len : Nat} {got : Bytes} {x : Scan} (idle : x.out = false)
    (good : x.status = stOk) (ended : x.stop ≤ x.next) (live : s.scanDead x = false) (full : got.length = len)
    (tag : tagOk (s.keySlot i).key (ivOf got) (got.take 32) (bytesAt got 32 (fieldAt got 24 8))
      (bytesAt got (32 + fieldAt got 24 8) 16) = true) :
    s.stepBlob e l i a len got false x = .done { result := leBytes 8 x.count }
      (((s.endScan x).freeBusy i).ownAll (lineGranules (fieldAt got 16 4) (fieldAt got 24 8 / 64))) := by
  have done : ¬ x.next < x.stop := Nat.not_lt_of_le ended
  simp [State.stepBlob, idle, good, live, done, full, tag, stOk, stAborted, stIntegrity, Res.ok]

theorem State.stepImport_ended {s : State} {e : JEntry} {l i a len : Nat} {got : Bytes} {x : Scan} {sup : Supply}
    (held : s.scan e.jid = some x) (idle : x.out = false) (good : x.status = stOk) (ended : x.stop ≤ x.next)
    (live : s.scanDead x = false) (fine : sup.dmaErr = false) (full : got.length = len)
    (tag : tagOk (s.keySlot i).key (ivOf got) (got.take 32) (bytesAt got 32 (fieldAt got 24 8))
      (bytesAt got (32 + fieldAt got 24 8) 16) = true) :
    s.stepImport e l i a len got sup = .done { result := leBytes 8 x.count }
      (((s.endScan x).freeBusy i).ownAll (lineGranules (fieldAt got 16 4) (fieldAt got 24 8 / 64))) := by
  simp only [State.stepImport, held, takeDma_full fine full, State.runScan_ended _ held idle ended, Option.getD_some, fine]
  exact State.stepBlob_ended idle good ended live full tag

/-- Settles O15: the bodies on the granules that their entries take, and the passes at their ends. -/
theorem memoryCommandsTakeEffect : Obligations.MemoryCommandsTakeEffect := by
  refine ⟨fun s src c g rest => ⟨?_, ?_, ?_⟩, fun s src c => ⟨?_, ?_, ?_, ?_, ?_, ?_⟩⟩
  · intro begins u k list_ slot front free on
    have body := assignBody_of (s := s.begun memAssignSpec c) (c := c.named ((s.checked c).newJid memAssignSpec c)) list_ slot front
      free on
    exact ⟨_, suspends begins rfl body, u.hold_got c.ldi k g _, fun h other => u.hold_got_other c.ldi k g _ other,
      u.hold_queued c.ldi k g _⟩
  · intro t e l k n wakes o cont
    exact ends wakes o (by simp [cont]) fun sup => by simp [State.resume, cont, State.stepAssign, Res.ok]
  · intro begins u list_ once ready
    obtain ⟨v, run, scrubbed, kept⟩ := u.releaseList_of (granuleList c) c.ldi 0 once ready
    rw [Nat.zero_add] at run
    exact ⟨v, completes begins rfl ((releaseBody_of (c := c.named _) list_).trans run), scrubbed, kept⟩
  · intro begins u j mode some_ below ours
    exact runsAs begins rfl (scrubBody_of (c := c.named _) mode some_ below ours)
  · intro begins u j some_ below ours
    exact runsAs begins rfl (regionBody_of (c := c.named _) (kind := .finger) (o := 16) some_ below ours)
  · intro begins u j some_ below ours
    exact runsAs begins rfl (regionBody_of (c := c.named _) (kind := .digest) (o := 0) some_ below ours)
  · intro t e l x wakes o cont held idle none_out begun _ ended finger
    exact ends wakes o (by simp [cont]) fun sup => by
      simp only [State.resume, cont, State.stepScan_ended held idle none_out begun ended finger]
  · intro begins u i ours idle
    exact suspends begins rfl (importBody_of (c := c.named _) ours idle)
  · intro t e l i a len got x sup wakes o cont u held idle good ended live fine full tag
    exact exec_resumed wakes o (by simp [cont]) (by
      simp only [State.resume, cont]
      exact State.stepImport_ended held idle good ended live fine full tag)

end Sys2Proof.Machine
end

section
/-!
PROOF. Slice bindings and rebinding (R143, R144, R284 to R286).
-/
namespace Sys2Proof.Machine

/-! ### Usage that accrues -/

theorem State.accrue_core (s : State) (l k : Nat) : ((s.accrue l).dom k).core = (s.dom k).core :=
  (s.accrue_touches l).core (by decide) k

theorem State.accrue_dom_other (s : State) {l k : Nat} (other : k ≠ l) : (s.accrue l).dom k = s.dom k := by
  unfold State.accrue
  dsimp only
  split
  · exact s.setDom_dom_other l _ other
  · rfl

theorem State.accrue_bp (s : State) (l : Nat) : (s.accrue l).bp = s.bp := (s.accrue_touches l).bp.resolve_left (by decide)

theorem State.accrue_shuttle (s : State) (l : Nat) : (s.accrue l).shuttle = s.shuttle :=
  (s.accrue_touches l).shuttle.resolve_left (by decide)

theorem Domain.core_mapCur {d e : Domain} (h : d.core = e.core) : d.mapCur = e.mapCur :=
  show d.core.mapCur = e.core.mapCur from h ▸ rfl
theorem Domain.core_slices {d e : Domain} (h : d.core = e.core) : d.slices = e.slices :=
  show d.core.slices = e.core.slices from h ▸ rfl

/-- The usage accrues up to here, and then the record changes. -/
def State.accrueTo (s : State) (l : Nat) (f : Domain → Domain) : State := (s.accrue l).setDom l (f ((s.accrue l).dom l))

theorem State.accrueTo_dom (s : State) (l : Nat) (f : Domain → Domain) : (s.accrueTo l f).dom l = f ((s.accrue l).dom l) :=
  State.setDom_dom _ _ _

theorem State.accrueTo_dom_other (s : State) {l k : Nat} (f : Domain → Domain) (other : k ≠ l) : (s.accrueTo l f).dom k = s.dom k :=
  (State.setDom_dom_other _ _ _ other).trans (s.accrue_dom_other other)

/-! ### CMP_BIND_SLICE and CMP_UNBIND_SLICE (R284) -/

/-- The domain has the new bindings, no other changes, and the host is told. -/
theorem State.changeSlices_of (s : State) (l : Nat) (new : List Slice) (rs : List (BitVec 128)) :
    ∃ v, s.changeSlices l new rs = .wait (.bp s.bp.nextSync) (.reply (bindReply (v.dom l))) v ∧ (v.dom l).slices = new ∧
      (∀ k, k ≠ l → v.dom k = s.dom k) ∧ ∀ r ∈ rs, Output.bpPub r ∈ v.out := by
  have sync : (s.accrue l).bp.nextSync = s.bp.nextSync := by rw [s.accrue_bp]
  refine ⟨((s.accrueTo l fun d => { d with slices := new }).publish rs).2, ?_, ?_, fun k other => ?_,
    fun r m => State.mem_publish _ m⟩
  · rw [← sync]
    rfl
  · rw [State.publish_dom, State.accrueTo_dom]
  · rw [State.publish_dom, State.accrueTo_dom_other _ _ other]

theorem bindCount_of {c : Cmd} (some_ : 1 ≤ c.p 0 2) (fits : c.p 0 2 ≤ 256) (room : c.pbuf = true ∨ c.p 0 2 ≤ 54) :
    bindCount c = true := by
  simp only [bindCount, inlineOk, decide_eq_true some_, decide_eq_true fits, Bool.true_and]
  rcases room with buffer | few
  · simp [buffer]
  · simp [few]

theorem bindBody_of {s : State} {c : Cmd} (count : bindCount c = true)
    (good : s.sliceStatus c.ldi (sliceArgs c 4 (c.p 0 2)) [] = stOk) :
    bindBody s c = s.changeSlices c.ldi ((s.dom c.ldi).slices ++ sliceArgs c 4 (c.p 0 2))
      ((sliceArgs c 4 (c.p 0 2)).map (s.openSlice c.ldi)) := by
  simp [bindBody, count, good]

theorem unbindBody_of {s : State} {c : Cmd} (count : bindCount c = true)
    (good : s.sliceStatus c.ldi [] (sliceArgs c 4 (c.p 0 2)) = stOk) :
    unbindBody s c = s.changeSlices c.ldi ((s.dom c.ldi).slices.filter fun x => !(sliceArgs c 4 (c.p 0 2)).contains x)
      ((sliceArgs c 4 (c.p 0 2)).map fun x => sliceRec x c.ldi false) := by
  simp [unbindBody, count, good]

/-! ### CMP_REBIND_PREPARE (R143, R285) -/

/-- The record under the next map. -/
def Domain.prepared (d : Domain) (m : Nat) (adds rems : List Slice) : Domain :=
  { d with mapCur := m, mapOpen := true, oldSlices := rems, slices := d.slices.filter (fun x => !rems.contains x) ++ adds }

/-- The state with the next map open, and what of it the host is told. -/
def State.prepared (s : State) (l m : Nat) (adds rems : List Slice) : State :=
  let v := s.accrueTo l fun d => d.prepared m adds rems
  (v.publish ((v.dom l).sliceList.map (v.openSlice l) ++ [mapRec l m true])).2

theorem State.prepared_dom (s : State) (l m : Nat) (adds rems : List Slice) :
    (s.prepared l m adds rems).dom l = ((s.accrue l).dom l).prepared m adds rems :=
  s.accrueTo_dom l fun d => d.prepared m adds rems

theorem State.prepared_told (s : State) (l m : Nat) (adds rems : List Slice) :
    Output.bpPub (mapRec l m true) ∈ (s.prepared l m adds rems).out ∧
      ∀ x ∈ ((s.prepared l m adds rems).dom l).sliceList,
        Output.bpPub ((s.prepared l m adds rems).openSlice l x) ∈ (s.prepared l m adds rems).out :=
  ⟨State.mem_publish _ (List.mem_append_right _ List.mem_cons_self),
    fun _ m => State.mem_publish _ (List.mem_append_left _ (List.mem_map_of_mem m))⟩

theorem prepareBody_of {s : State} {c : Cmd} (shut : (s.dom c.ldi).mapOpen = false)
    (next : c.p 0 4 = ((s.dom c.ldi).mapCur + 1) % 2 ^ 32) (fits : c.p 4 2 + c.p 6 2 ≤ 256)
    (good : s.sliceStatus c.ldi (sliceArgs c 8 (c.p 4 2)) (sliceArgs c (8 + 4 * c.p 4 2) (c.p 6 2)) = stOk) :
    prepareBody s c = .wait (.bp s.bp.nextSync) (.prepare c.ldi)
      (s.prepared c.ldi (c.p 0 4) (sliceArgs c 8 (c.p 4 2)) (sliceArgs c (8 + 4 * c.p 4 2) (c.p 6 2))) := by
  have sync : (s.accrue c.ldi).bp.nextSync = s.bp.nextSync := by rw [s.accrue_bp]
  have few : ¬ 256 < c.p 4 2 + c.p 6 2 := Nat.not_lt_of_le fits
  simp only [prepareBody, shut, good, beq_iff_eq.2 next, bne, decide_eq_false few]
  rw [← sync]
  unfold State.prepared State.accrueTo
  dsimp only
  rw [State.setDom_dom]
  rfl

/-! ### CMP_REBIND_COMMIT (R144, R286) -/

/-- The map is closed, and the host is told. -/
def State.rebound (s : State) (l : Nat) : State :=
  let v := s.closeMap l
  (v.publish ((s.dom l).oldSlices.map (fun x => sliceRec x l false) ++ [mapRec l (v.dom l).mapCur false])).2

theorem State.closeRebind_eq (s : State) (l n q : Nat) :
    s.closeRebind l n q = .wait (.bp s.bp.nextSync) (.commitClose l n q) (s.rebound l) := by
  have sync : (s.accrue l).bp.nextSync = s.bp.nextSync := by rw [s.accrue_bp]
  rw [← sync]
  rfl

theorem State.rebound_told (s : State) (l : Nat) :
    Output.bpPub (mapRec l ((s.rebound l).dom l).mapCur false) ∈ (s.rebound l).out ∧
      ∀ x ∈ (s.dom l).oldSlices, Output.bpPub (sliceRec x l false) ∈ (s.rebound l).out :=
  ⟨State.mem_publish _ (List.mem_append_right _ List.mem_cons_self),
    fun _ m => State.mem_publish _ (List.mem_append_left _ (List.mem_map_of_mem (f := fun x => sliceRec x l false) m))⟩

theorem State.rebound_dom (s : State) (l : Nat) : (s.rebound l).dom l = { (s.accrue l).dom l with mapOpen := false, oldSlices := [] } :=
  State.setDom_dom _ _ _

theorem commitBody_of {s : State} {c : Cmd} (open_ : (s.dom c.ldi).mapOpen = true) (cur : c.p 0 4 = (s.dom c.ldi).mapCur) :
    commitBody s c = if s.tally c.ldi = 0 then s.closeRebind c.ldi 0 0
      else .wait (.tally c.ldi) (.commitWait c.ldi 0 0 (s.now + 500 * usTicks)) s := by
  simp [commitBody, open_, cur]

/-! ### REBIND_SQUASH_TIMEOUT (R144) -/

theorem execRebindSquashTimeout_of {s : State} {l n d : Nat} {e : JEntry} (waits : s.waitingCommit l = some (e, n, d))
    (up : s.loomUp = true) (some_ : s.tally l ≠ 0) :
    exec (.rebindSquashTimeout l) s = .next ((((s.advanceTo d).squash l).rebound l).suspend e.jid
      (.bp ((s.advanceTo d).squash l).bp.nextSync) (.commitClose l n (s.tally l))) := by
  simp only [exec, execRebindSquashTimeout, waits, State.closeRebind_eq]
  exact nextIf_of (by simp [up, some_])

/-- Requests that are no ATOMIC are refused as stale, in their order. -/
theorem State.squash_of {s : State} {l : Nat}
    (plain : ∀ p ∈ s.shuttle.rxq.filter (fun p => s.tallied l p), kindOf p.payload ≠ kAtomic) :
    s.squash l = ((s.shuttle.rxq.filter (fun p => s.tallied l p)).foldl (fun t p => (t.dropMap p).refuseByKind p stStaleMap)
      ((s.dropRxq (fun p => s.tallied l p)).setDom l { s.dom l with mapOpen := false })).pump := by
  unfold State.squash
  dsimp only
  refine congrArg State.pump (List.foldl_ext _ _ _ fun t p m => ?_)
  rw [if_neg (by simp [plain p m])]

/-- Settles O16: the bodies with entries that R284 and R285 take, and the squash of R144. -/
theorem compositionCommandsTakeEffect : Obligations.CompositionCommandsTakeEffect := by
  refine ⟨fun s src c => ⟨?_, ?_, ?_, ?_, ?_, ?_, ?_, ?_⟩, fun s l n d e waits up some_ => ?_⟩
  · intro begins u xs some_ fits room good
    obtain ⟨v, run, slices, others, told⟩ := u.changeSlices_of c.ldi ((u.dom c.ldi).slices ++ xs) (xs.map (u.openSlice c.ldi))
    have body := bindBody_of (s := u) (c := c.named ((s.checked c).newJid cmpBindSliceSpec c)) (bindCount_of some_ fits room) good
    exact ⟨v, suspends begins rfl (body.trans run), slices, others, fun x m => told _ (List.mem_map_of_mem m)⟩
  · intro begins u xs some_ fits room good
    obtain ⟨v, run, slices, others, told⟩ := u.changeSlices_of c.ldi ((u.dom c.ldi).slices.filter fun x => !xs.contains x)
      (xs.map fun x => sliceRec x c.ldi false)
    have body := unbindBody_of (s := u) (c := c.named ((s.checked c).newJid cmpUnbindSliceSpec c)) (bindCount_of some_ fits room) good
    exact ⟨v, suspends begins rfl (body.trans run), slices, others,
      fun x m => told _ (List.mem_map_of_mem (f := fun x => sliceRec x c.ldi false) m)⟩
  · intro begins u adds rems shut next fits good
    have body := prepareBody_of (s := u) (c := c.named ((s.checked c).newJid cmpRebindPrepareSpec c)) shut next fits good
    have record := u.prepared_dom c.ldi (c.p 0 4) adds rems
    have slices := Domain.core_slices (u.accrue_core c.ldi c.ldi)
    have cur := congrArg Domain.mapCur record
    obtain ⟨map, told⟩ := u.prepared_told c.ldi (c.p 0 4) adds rems
    refine ⟨_, suspends begins rfl body, cur.trans next, congrArg Domain.mapOpen record, congrArg Domain.oldSlices record, ?_, ?_, told⟩
    · exact (congrArg Domain.slices record).trans (by rw [← slices]; rfl)
    · exact (congrArg (fun k => Output.bpPub (mapRec c.ldi k true) ∈ _) cur).mpr map
  · intro begins u open_ cur none_left
    have body := (commitBody_of (s := u) (c := c.named ((s.checked c).newJid cmpRebindCommitSpec c)) open_ cur).trans
      ((if_pos none_left).trans (State.closeRebind_eq u c.ldi 0 0))
    have record := u.rebound_dom c.ldi
    obtain ⟨map, slices⟩ := u.rebound_told c.ldi
    exact ⟨_, suspends begins rfl body, congrArg Domain.mapOpen record, congrArg Domain.oldSlices record, map, slices⟩
  · intro begins u open_ cur left
    have body := (commitBody_of (s := u) (c := c.named ((s.checked c).newJid cmpRebindCommitSpec c)) open_ cur).trans (if_neg left)
    exact suspends begins rfl body
  · intro t e res wakes o cont
    exact ends_of_reply wakes o cont
  · intro t e l wakes o cont
    exact ends wakes o (by simp [cont]) fun sup => by simp only [State.resume, cont]; rfl
  · intro t e l n q wakes o cont
    exact ends wakes o (by simp [cont]) fun sup => by simp only [State.resume, cont]; rfl
  · have record := ((s.advanceTo d).squash l).rebound_dom l
    exact ⟨⟨_, _, execRebindSquashTimeout_of waits up some_, State.closeRebind_eq _ _ _ _, congrArg Domain.mapOpen record,
      congrArg Domain.oldSlices record⟩, State.squash_of⟩

end Sys2Proof.Machine
end

section
/-!
PROOF. Reduction windows, arrival counters and fences (R46, R49, R124, R159, R165, R287 to R290).
-/
namespace Sys2Proof.Machine

/-! ### Reduction windows (R287, R288) -/

/-- What R287 asks of a RED_WINDOW_OPEN whose window gets the number i. -/
structure OpensWindow (s : State) (c : Cmd) (i : Nat) : Prop where
  form : opAllowed (c.p 8 1 % 16) (c.p 8 1 / 16) true = true
  count : c.p 10 2 ≠ 0
  some_ : c.p 4 4 ≠ 0
  groups : isMx (c.p 8 1 / 16) = true → c.p 4 4 % mxGroup (c.p 8 1 / 16) = 0
  below : c.p 0 4 + windowSpan (c.p 8 1 / 16) (c.p 4 4) ≤ 2 ^ 32
  arr : c.p 12 4 = 0 ∨ s.arrOk c.ldi (c.p 12 4) = true
  fence : s.windowFence c.ldi (c.p 16 4) = true
  ours : ∀ g ∈ lineGranules (c.p 0 4) (windowSpan (c.p 8 1 / 16) (c.p 4 4)), s.owns c.ldi g = true
  free : (List.range 256).find? (fun i => (s.window i).isNone) = some i
  windows : (s.batten.windows.vals.filter (fun w => w.ldi == c.ldi)).length < (s.dom c.ldi).grant.windows
  acc : ((s.batten.windows.vals.filter (fun w => w.ldi == c.ldi)).map (·.accUnits)).foldl (· + ·)
    ((c.p 4 4 + accLinesPerUnit (c.p 8 1 / 16) - 1) / accLinesPerUnit (c.p 8 1 / 16)) ≤ (s.dom c.ldi).grant.acc

theorem windowOpenBody_of {s : State} {c : Cmd} {i : Nat} (h : OpensWindow s c i) :
    let units := (c.p 4 4 + accLinesPerUnit (c.p 8 1 / 16) - 1) / accLinesPerUnit (c.p 8 1 / 16)
    let v := s.setWindow i
      { base := c.p 0 4, lines := c.p 4 4, opfmt := c.p 8 1, ldi := c.ldi, count := c.p 10 2
        accUnits := units, arr := c.p 12 4, fence := c.p 16 4, nth := s.batten.nextWin }
    windowOpenBody s c = .done { result := leBytes 1 i ++ leBytes 1 0 ++ leBytes 2 units }
      { v with batten := { v.batten with nextWin := v.batten.nextWin + 1 } } := by
  obtain ⟨form, count, some_, groups, below, arr, fence, ours, free, windows, acc⟩ := h
  have whole : (isMx (c.p 8 1 / 16) && c.p 4 4 % mxGroup (c.p 8 1 / 16) != 0) = false := by
    by_cases mx : isMx (c.p 8 1 / 16) = true
    · simp [groups mx]
    · simp [mx]
  have named : (c.p 12 4 != 0 && !s.arrOk c.ldi (c.p 12 4)) = false := by
    rcases arr with zero | ok
    · simp [zero]
    · simp [ok]
  have all_ : (lineGranules (c.p 0 4) (windowSpan (c.p 8 1 / 16) (c.p 4 4))).all (s.owns c.ldi) = true := List.all_eq_true.2 ours
  simp only [windowOpenBody, form, bne, beq_eq_false_iff_ne.2 count, beq_eq_false_iff_ne.2 some_, decide_eq_false (Nat.not_lt_of_le below),
    fence, all_, free, decide_eq_false (Nat.not_le_of_lt windows), decide_eq_false (Nat.not_lt_of_le acc)] at whole named ⊢
  simp only [whole, named]
  rfl

/-- The window's record, gone. -/
def State.eraseWindow (s : State) (i : Nat) : State := { s with batten := { s.batten with windows := s.batten.windows.del i } }

theorem State.failWindow_window_other (s : State) {i k : Nat} (status : Nat) (other : k ≠ i) :
    (s.failWindow i status).window k = s.window k := by
  unfold State.failWindow
  split
  · next x _ =>
    split
    · let posted := (s.setWindow i { x with state := .failed }).post x.ldi x.fence status .batten
      have kept := (posted.record_touches 0x0706 (battenPayload x.base x.ldi (s.unit (unitOf x.base)).instance_ (unitOf x.base) i
        x.opfmt 1 0xFFFF (s.boundFence x.ldi x.fence) status 0 0)).batten.resolve_left (by decide)
      have same := ((s.setWindow i { x with state := .failed }).post_touches x.ldi x.fence status .batten).batten.resolve_left
        (by decide)
      exact (congrArg (fun b => b.windows.find k) (kept.trans same)).trans (State.setWindow_window_other s i _ other)
    · rfl
  · rfl

theorem State.closedWindow_find (s : State) (i : Nat) :
    ((s.failWindow i stState).eraseWindow i).window i = none ∧
      ∀ k, k ≠ i → ((s.failWindow i stState).eraseWindow i).window k = s.window k :=
  ⟨Map.find_del_self _ _, fun _ other => (Map.find_del_other _ other).trans (s.failWindow_window_other stState other)⟩

theorem windowCloseBody_of {s : State} {c : Cmd} {x : RedWindow} (held : s.window (c.p 0 1) = some x) (ours : x.ldi = c.ldi) :
    windowCloseBody s c = .done { result := leBytes 1 x.state.code ++ leBytes 3 0 ++ leBytes 4 x.done }
      ((s.failWindow (c.p 0 1) stState).eraseWindow (c.p 0 1)) := by
  simp only [windowCloseBody, held, bne, beq_iff_eq.2 ours]
  rfl

theorem windowQueryBody_of {s : State} {c : Cmd} {x : RedWindow} (held : s.window (c.p 0 1) = some x) (ours : x.ldi = c.ldi) :
    windowQueryBody s c = .done { result := x.bytes } s := by
  simp [windowQueryBody, held, ours, Res.ok]

/-! ### Arrival counters (R289) -/

theorem State.allocArr_arrs {s w : State} {l f i : Nat} (h : s.allocArr l f = some (i, w)) :
    w.tables.arrs = s.tables.arrs.put i { ldi := l, bytes := 0, fence := fenceIndex f } := by
  unfold State.allocArr at h
  obtain ⟨x, _, made⟩ := Option.map_eq_some_iff.1 h
  cases made
  rfl

theorem arrAllocBody_of {s w : State} {c : Cmd} {i : Nat} (fence : c.p 0 4 = 0 ∨ s.fenceArmed c.ldi (c.p 0 4) = true)
    (room : s.arrUse c.ldi < (s.dom c.ldi).grant.arrs) (made : s.allocArr c.ldi (c.p 0 4) = some (i, w)) :
    arrAllocBody s c = .done { result := leBytes 4 i } w := by
  have named : (c.p 0 4 != 0 && !s.fenceArmed c.ldi (c.p 0 4)) = false := by
    rcases fence with zero | armed
    · simp [zero]
    · simp [armed]
  simp [arrAllocBody, named, room, made, Res.ok]

/-- The counter is freed. -/
def State.dropArr (s : State) (i : Nat) : State :=
  { s with tables := { s.tables with arrs := s.tables.arrs.del i, arrFreed := s.tables.arrFreed ++ [i] } }

theorem arrFreeBody_of {s : State} {c : Cmd} {a : Arrival} (held : s.tables.arrs.find (c.p 0 4) = some a)
    (ours : s.arrOk c.ldi (c.p 0 4) = true) (idle : s.arrBusy (c.p 0 4) = false) :
    arrFreeBody s c = .done { result := leBytes 8 a.bytes } (s.dropArr (c.p 0 4)) := by
  simp [arrFreeBody, held, ours, idle, Res.ok, State.dropArr]

/-! ### Fences (R46, R49, R290) -/

theorem fenCreateBody_of {s w : State} {c : Cmd} {h : Nat} (room : s.fenceUse c.ldi < (s.dom c.ldi).grant.fences)
    (made : s.allocFence c.ldi 0 = some (h, w)) : fenCreateBody s c = .done { result := leBytes 4 h } w := by
  simp [fenCreateBody, room, made, Res.ok]

/-- The fence gets its producer, and the host is told. -/
def State.produced (s : State) (l h ctx : Nat) : State :=
  ((s.setFence (fenceIndex h) { s.fence (fenceIndex h) with producer := ctx }).publish [producerRec l h ctx]).2

theorem State.produced_fence (s : State) (l h ctx : Nat) :
    (s.produced l h ctx).fence (fenceIndex h) = { s.fence (fenceIndex h) with producer := ctx } ∧
      ∀ k, k ≠ fenceIndex h → (s.produced l h ctx).fence k = s.fence k :=
  ⟨State.fence_setFence _ _ _, fun _ other => State.fence_setFence_other _ _ other⟩

theorem State.produced_told (s : State) (l h ctx : Nat) : Output.bpPub (producerRec l h ctx) ∈ (s.produced l h ctx).out :=
  State.mem_publish _ List.mem_cons_self

theorem registerBody_of {s : State} {c : Cmd} (usable : s.fenceUsable c.ldi (c.p 0 4) = true)
    (ours : (s.contextsOf c.ldi).any (fun x => x.1 == c.p 4 4 && !x.2.releasing) = true)
    (armed : (s.fence (fenceIndex (c.p 0 4))).state = .armed) (without : (s.fence (fenceIndex (c.p 0 4))).producer = 0)
    (window : s.fenceOfWindow (c.p 0 4) = false) :
    registerBody s c = .wait (.bp s.bp.nextSync) (.reply []) (s.produced c.ldi (c.p 0 4) (c.p 4 4)) := by
  simp [registerBody, usable, ours, armed, without, window, State.produced]
  rfl

theorem State.freeFence_fence (s : State) (i : Nat) :
    (s.freeFence i).fence i = { epoch := (s.fence i).epoch } ∧ ∀ k, k ≠ i → (s.freeFence i).fence k = s.fence k :=
  ⟨State.fence_setFence _ _ _, fun _ other => State.fence_setFence_other _ _ other⟩

theorem fenDestroyBody_of {s : State} {c : Cmd} (usable : s.fenceUsable c.ldi (c.p 0 4) = true)
    (free : s.fenceKept (c.p 0 4) = false) :
    fenDestroyBody s c = .done
      { result := leBytes 2 (s.fence (fenceIndex (c.p 0 4))).status ++ leBytes 1 (s.fence (fenceIndex (c.p 0 4))).cause }
      (s.freeFence (fenceIndex (c.p 0 4))) := by
  simp [fenDestroyBody, usable, free, Res.ok]

/-- Settles O17: each body on what its entry takes, and what it leaves of the table that it changes. -/
theorem movementCommandsTakeEffect : Obligations.MovementCommandsTakeEffect := by
  refine ⟨fun s src c i x => ⟨?_, ?_, ?_⟩, fun s src c i w a => ⟨?_, ?_⟩, fun s src c h w => ⟨?_, ?_, ?_, ?_⟩⟩
  · intro begins u base lines fmt mine units form count some_ groups below arr fence ours free windows acc
    have opens : OpensWindow u (c.named ((s.checked c).newJid redWindowOpenSpec c)) i :=
      ⟨form, count, some_, groups, below, arr, fence, ours, free, windows, acc⟩
    exact ⟨_, completes begins rfl (windowOpenBody_of opens), State.setWindow_window u i _,
      fun k other => State.setWindow_window_other u i _ other⟩
  · intro begins u held ours
    obtain ⟨gone, others⟩ := u.closedWindow_find (c.p 0 1)
    exact ⟨_, completes begins rfl (windowCloseBody_of (c := c.named _) held ours), gone, others⟩
  · intro begins u held ours
    exact completes begins rfl (windowQueryBody_of (c := c.named _) held ours)
  · intro begins u fence room made
    have arrs := State.allocArr_arrs made
    refine ⟨completes begins rfl (arrAllocBody_of (c := c.named _) fence room made), ?_, fun k other => ?_⟩
    · rw [arrs, Map.find_put_self]
    · rw [arrs, Map.find_put_other _ _ _ other]
  · intro begins u held ours idle
    exact ⟨_, completes begins rfl (arrFreeBody_of (c := c.named _) held ours idle), Map.find_del_self _ _,
      fun k other => Map.find_del_other _ other, rfl⟩
  · intro begins u room made
    obtain ⟨i, handle, entry, others, _⟩ := State.allocFence_spec made
    exact ⟨completes begins rfl (fenCreateBody_of (c := c.named _) room made), i, handle, entry, others⟩
  · intro begins u i usable ours armed without window
    obtain ⟨entry, others⟩ := u.produced_fence c.ldi (c.p 0 4) (c.p 4 4)
    exact ⟨_, suspends begins rfl (registerBody_of (c := c.named _) usable ours armed without window), entry, others,
      u.produced_told c.ldi (c.p 0 4) (c.p 4 4)⟩
  · intro t e wakes o cont
    exact ends_of_reply wakes o cont
  · intro begins u i usable free
    obtain ⟨entry, others⟩ := u.freeFence_fence i
    have body := fenDestroyBody_of (s := u) (c := c.named ((s.checked c).newJid fenDestroySpec c)) usable free
    exact ⟨u.freeFence i, completes begins rfl body, by rw [entry], by rw [entry], others⟩

end Sys2Proof.Machine
end

section
/-!
PROOF. Port classes, SAs and multicast groups (R24, R94, R112, R113, R292 to R295).
-/
namespace Sys2Proof.Machine

/-! ### LNK_PORT_CLASS (R292) -/

/-- The port has the class; SHARED is the one without an entry. -/
def State.classed (s : State) (p cls : Nat) : State :=
  { s with shuttle := { s.shuttle with
      portClass := if cls == 2 then s.shuttle.portClass.del p else s.shuttle.portClass.put p cls } }

theorem State.classed_portClass (s : State) (p cls : Nat) : (s.classed p cls).portClass p = cls := by
  unfold State.classed State.portClass
  by_cases default_ : cls = 2
  · subst default_
    exact congrArg (fun x => Option.getD x 2) (Map.find_del_self s.shuttle.portClass p)
  · simp [default_]

theorem State.classed_portClass_other (s : State) (p cls : Nat) {q : Nat} (other : q ≠ p) :
    (s.classed p cls).portClass q = s.portClass q := by
  unfold State.classed State.portClass
  by_cases default_ : cls = 2
  · simp [default_, Map.findD_del_other _ _ other]
  · simp [default_, Map.findD_put_other _ _ _ _ other]

theorem portClassBody_of {s : State} {c : Cmd} (below : c.p 0 1 < s.build.engines)
    (closed : s.ldisWith (fun d => (d.state == .sealed_ || d.state.flows) && d.boundPort (c.p 0 1)) = [])
    (agreed : s.ldisWith (fun d => d.state == .building && d.boundPort (c.p 0 1) && policyRefuses d.policy (c.p 1 1)) = []) :
    portClassBody s c = .done { result := leBytes 1 (s.portClass (c.p 0 1)) } (s.classed (c.p 0 1) (c.p 1 1)) := by
  simp [portClassBody, Nat.not_le_of_lt below, closed, agreed, Res.ok, State.classed]

/-! ### LNK_SA_QUERY and LNK_SA_WARM (R293, R294) -/

theorem saQueryBody_of {s : State} {c : Cmd} (some_ : 1 ≤ c.p 2 2) (fits : c.p 2 2 ≤ 1024) :
    saQueryBody s c = .done
      { result := leBytes 4 ((s.saList c).take (c.p 2 2)).length ++ leBytes 4 (((s.saList c)[c.p 2 2]?).getD 0xFFFFFFFF),
        ext := ((s.saList c).take (c.p 2 2)).flatMap s.saBytes } s := by
  simp only [saQueryBody, beq_eq_false_iff_ne.2 (Nat.one_le_iff_ne_zero.1 some_), decide_eq_false (Nat.not_lt_of_le fits)]
  rfl

/-- What R293 asks of a list of peers. -/
structure WarmsPeers (s : State) (c : Cmd) (ps : List Nat) : Prop where
  list : halves c.params 4 (c.p 0 2) = ps
  some_ : c.p 0 2 ≠ 0
  fits : c.p 0 2 ≤ 16384
  once : ps.eraseDups.length = c.p 0 2
  unicast : 0xFFFF ∉ ps
  others : s.boot.devid ∉ ps
  root : s.rootUp = true
  devid : s.boot.devidSet = true
  identity : s.keys.identity = true
  random : s.drbgReady = true

theorem warmBody_of {s : State} {c : Cmd} {ps : List Nat} (h : WarmsPeers s c ps) :
    warmBody s c = if c.p 2 1 % 2 == 0 || (ps.foldl State.warmSa s).sasSettled ps then
        .done { result := (ps.foldl State.warmSa s).warmReply ps } (ps.foldl State.warmSa s)
      else .wait (.sas ps ((ps.foldl State.warmSa s).now + 10 * msTicks + 50 * usTicks * c.p 0 2)) (.saWarm ps)
        (ps.foldl State.warmSa s) := by
  obtain ⟨rfl, some_, fits, once, unicast, others, root, devid, identity, random⟩ := h
  simp [warmBody, some_, Nat.not_lt_of_le fits, once, unicast, others, root, devid, identity, random, Res.ok]

/-! ### LNK_GROUP_CREATE (R295) -/

/-- The group's entry of a create: its senders, and the slot of its key. -/
def groupOf (c : Cmd) (members i : Nat) (keyed : Bool) : Group :=
  { ldi := c.ldi, gid := c.p 0 2, senders := groupRanks c members, slot := i, keyed := keyed }

/-- The group and its slot. -/
def State.withGroup (s : State) (x : Group) (k : KeySlot) : State := (s.setGroup (groupKeyOf x.ldi x.gid) x).setSlot x.slot k

theorem State.withGroup_keySlot (s : State) (x : Group) (k : KeySlot) : (s.withGroup x k).keySlot x.slot = k :=
  State.setSlot_keySlot _ _ _

theorem State.withGroup_group (s : State) (x : Group) (k : KeySlot) : (s.withGroup x k).group (groupKeyOf x.ldi x.gid) = some x :=
  State.setGroup_group s _ x

/-- A held key does not hang on the groups and the slots. -/
theorem State.withGroup_takeHeldKey (s : State) (x : Group) (k : KeySlot) (l g : Nat) :
    (s.withGroup x k).takeHeldKey l g = (s.takeHeldKey l g).map (fun y => (y.1, y.2.withGroup x k)) := by
  unfold State.takeHeldKey State.withGroup
  rw [Option.map_map]
  rfl

/-- The four checks of R295 that come before the key. -/
structure CreatesGroup (s : State) (c : Cmd) (i : Nat) : Prop where
  args : groupArgs c (s.dom c.ldi).members = true
  fresh : s.group (groupKeyOf c.ldi (c.p 0 2)) = none
  slot : s.freePoolSlot c.ldi = some i
  room : s.replayEntries + ((groupRanks c (s.dom c.ldi).members).filter (fun r => r != (s.dom c.ldi).rank)).length ≤ 262144

section
variable {s : State} {c : Cmd} {i : Nat} (h : CreatesGroup s c i)

/-- Replay entries of the group's senders. -/
def createEntries (s : State) (c : Cmd) : Nat :=
  ((groupRanks c (s.dom c.ldi).members).filter (fun r => r != (s.dom c.ldi).rank)).length

include h in
theorem groupBody_of_lowest (lowest : (groupRanks c (s.dom c.ldi).members).foldl min 65535 = (s.dom c.ldi).rank)
    (random : s.drbgReady = true) :
    let key := keyOf (drawBytes s.draw.1 32)
    let salt := fieldAt (drawBytes s.draw.1 64) 32 2
    groupBody s c = .done { result := groupReply i (createEntries s c) }
      ((s.otherMembers c.ldi).foldl (fun z p => z.sendCtrl p 0x07 (groupKeyBody (s.dom c.ldi).gdid (c.p 0 2) salt key))
        (s.draw.2.withGroup (groupOf c (s.dom c.ldi).members i true)
          { type := 9, ldi := c.ldi, gen := (s.dom c.ldi).gen, key := key, salt := salt })) := by
  obtain ⟨args, fresh, slot, room⟩ := h
  have fits : ¬ replayPlaces < s.replayEntries + createEntries s c := Nat.not_lt_of_le room
  simp only [createEntries] at fits
  simp only [groupBody, args, fresh, slot, fits, lowest, random, decide_false, Bool.not_true, Option.isSome_none, Bool.or_self,
    Bool.false_eq_true, if_false, beq_self_eq_true, if_true]
  rfl

/-- The state in which another member's key is awaited. -/
def State.groupWaiting (s : State) (c : Cmd) (i : Nat) : State :=
  s.withGroup (groupOf c (s.dom c.ldi).members i false) { type := 9, ldi := c.ldi, gen := (s.dom c.ldi).gen }

include h in
theorem groupBody_of_other (other : (groupRanks c (s.dom c.ldi).members).foldl min 65535 ≠ (s.dom c.ldi).rank) :
    groupBody s c = match (s.groupWaiting c i).takeHeldKey c.ldi (c.p 0 2) with
      | some (k, t) => .done { result := groupReply i (createEntries s c) }
          (t.withGroup (groupOf c (s.dom c.ldi).members i true)
            { type := 9, ldi := c.ldi, gen := (s.dom c.ldi).gen, key := k.key, salt := k.salt })
      | none => .wait (.groupKey c.ldi (c.p 0 2)) (.groupCreate c.ldi (c.p 0 2) i (createEntries s c) (s.now + secTicks))
          (s.groupWaiting c i) := by
  obtain ⟨args, fresh, slot, room⟩ := h
  have fits : ¬ replayPlaces < s.replayEntries + createEntries s c := Nat.not_lt_of_le room
  simp only [createEntries] at fits
  simp only [groupBody, args, fresh, slot, fits, beq_eq_false_iff_ne.2 other, decide_false, Bool.not_true, Option.isSome_none,
    Bool.or_self, Bool.false_eq_true, if_false]
  rfl

theorem State.groupWaiting_takeHeldKey (s : State) (c : Cmd) (i : Nat) :
    (s.groupWaiting c i).takeHeldKey c.ldi (c.p 0 2) = (s.takeHeldKey c.ldi (c.p 0 2)).map fun y => (y.1, y.2.withGroup
      (groupOf c (s.dom c.ldi).members i false) { type := 9, ldi := c.ldi, gen := (s.dom c.ldi).gen }) :=
  State.withGroup_takeHeldKey _ _ _ _ _

include h in
theorem groupBody_of_held (other : (groupRanks c (s.dom c.ldi).members).foldl min 65535 ≠ (s.dom c.ldi).rank) {k : HeldGroupKey}
    {z : State} (held : s.takeHeldKey c.ldi (c.p 0 2) = some (k, z)) :
    ∃ v, groupBody s c = .done { result := groupReply i (createEntries s c) } v ∧
      v.keySlot i = { type := 9, ldi := c.ldi, gen := (s.dom c.ldi).gen, key := k.key, salt := k.salt } := by
  have body := groupBody_of_other h other
  rw [State.groupWaiting_takeHeldKey, held] at body
  exact ⟨_, body, State.withGroup_keySlot _ (groupOf c (s.dom c.ldi).members i true) _⟩

include h in
theorem groupBody_of_none (other : (groupRanks c (s.dom c.ldi).members).foldl min 65535 ≠ (s.dom c.ldi).rank)
    (none_held : s.takeHeldKey c.ldi (c.p 0 2) = none) :
    groupBody s c = .wait (.groupKey c.ldi (c.p 0 2)) (.groupCreate c.ldi (c.p 0 2) i (createEntries s c) (s.now + secTicks))
      (s.groupWaiting c i) := by
  have body := groupBody_of_other h other
  rw [State.groupWaiting_takeHeldKey, none_held] at body
  exact body

end

theorem State.groupWaiting_kept (s : State) (c : Cmd) (i : Nat) : ((s.groupWaiting c i).keySlot i).type = 9 ∧
    ((s.groupWaiting c i).group (groupKeyOf c.ldi (c.p 0 2))).isSome = true := by
  have group := s.withGroup_group (groupOf c (s.dom c.ldi).members i false) { type := 9, ldi := c.ldi, gen := (s.dom c.ldi).gen }
  exact ⟨congrArg KeySlot.type (State.withGroup_keySlot s (groupOf c (s.dom c.ldi).members i false) _), congrArg Option.isSome group⟩

theorem State.dropGroup_gone (s : State) (l g i : Nat) :
    (s.dropGroup l g i).shuttle.groups = s.shuttle.groups.del (groupKeyOf l g) ∧ ((s.dropGroup l g i).keySlot i).type = 0 :=
  ⟨rfl, congrArg KeySlot.type (s.clearSlot_keySlot i)⟩

theorem execGroupCreateTimeout_of {s : State} {l g i d : Nat} {e : JEntry} {x : Group}
    (waits : s.waitingGroup l g = some (e, i, d)) (up : s.loomUp = true) (live : e.overtaken = false)
    (held : s.group (groupKeyOf l g) = some x) (bare : x.keyed = false) :
    exec (.groupCreateTimeout l g) s = .next ((((s.advanceTo d).dropGroup l g i).commit e { status := stBusy }).endSpent.drainTurns) := by
  simp only [exec, execGroupCreateTimeout, waits]
  exact nextIf_of (by simp [up, live, held, bare])

/-- Settles O18: each body on what its entry takes; the three ways of a group's key (R295). -/
theorem linkCommandsTakeEffect : Obligations.LinkCommandsTakeEffect := by
  refine ⟨fun s src c => ⟨?_, ?_⟩, ⟨?_, fun s src c => ?_⟩, fun s src c i => ⟨?_, ?_, ?_⟩⟩
  · intro begins u below closed agreed
    exact ⟨_, completes begins rfl (portClassBody_of (c := c.named _) below closed agreed), u.classed_portClass _ _,
      fun p other => u.classed_portClass_other _ _ other⟩
  · intro begins u some_ fits
    exact completes begins rfl (saQueryBody_of (c := c.named _) some_ fits)
  · intro t e ps wakes o cont
    exact ends wakes o (by simp [cont]) fun sup => by simp only [State.resume, cont]; rfl
  · intro begins u ps some_ fits once unicast others root devid identity random v
    have warms : WarmsPeers u (c.named ((s.checked c).newJid lnkSaWarmSpec c)) ps :=
      ⟨rfl, some_, fits, once, unicast, others, root, devid, identity, random⟩
    have body := warmBody_of warms
    simp only [Cmd.named_p] at body
    refine ⟨fun now => ?_, fun wait settled => ?_, fun wait open_ => ?_⟩
    · exact completes begins rfl (body.trans (if_pos (by simp [now])))
    · exact completes begins rfl (body.trans (if_pos (by simp [v, settled])))
    · exact suspends begins rfl (body.trans (if_neg (by simp [wait]; exact open_)))
  · intro begins u d ranks entries args fresh slot room
    have creates : CreatesGroup u (c.named ((s.checked c).newJid lnkGroupCreateSpec c)) i := ⟨args, fresh, slot, room⟩
    refine ⟨?_, fun k z other held => ?_, fun other none_held => ?_⟩
    · intro lowest random key salt
      have body := groupBody_of_lowest creates lowest random
      exact ⟨_, State.withGroup_keySlot _ (groupOf c d.members i true) _,
        ⟨_, State.withGroup_group _ (groupOf c d.members i true) _, rfl, rfl, rfl⟩, completes begins rfl body⟩
    · obtain ⟨v, body, slot⟩ := groupBody_of_held creates other held
      exact ⟨v, completes begins rfl body, slot⟩
    · obtain ⟨slot, group⟩ := u.groupWaiting_kept (c.named ((s.checked c).newJid lnkGroupCreateSpec c)) i
      exact ⟨_, suspends begins rfl (groupBody_of_none creates other none_held), slot, group⟩
  · intro t e l g n d wakes o cont
    exact ends wakes o (by simp [cont]) fun sup => by simp only [State.resume, cont]; rfl
  · intro l g d e x waits up live held bare
    have same := (s.advanceTo_touches d).shuttle.resolve_left (by decide)
    obtain ⟨groups, slot⟩ := (s.advanceTo d).dropGroup_gone l g i
    exact ⟨_, execGroupCreateTimeout_of waits up live held bare, same ▸ groups, slot⟩

end Sys2Proof.Machine
end

section
/-!
PROOF. Weight keys, reports, sessions and metering (R194 to R196, R207, R214, R224, R225, R296 to R302).
-/
namespace Sys2Proof.Machine

/-! ### Weight keys (R296 to R298) -/

theorem ephemeralBody_of {s : State} {c : Cmd} {pub : Bytes × Bytes} (held : s.ekemPublic c.ldi = some pub) :
    ephemeralBody s c = .done
      { result := leBytes 4 (s.dom c.ldi).gdid ++ leBytes 2 (s.dom c.ldi).gen, ext := pub.1 ++ pub.2 } s := by
  simp only [ephemeralBody, held]
  rfl

theorem weightInstallBody_of {s : State} {c : Cmd} {i : Nat} {seed k : Key} (whole : c.plen = 1732)
    (point : Config.p384Valid (bytesAt c.params 1568 97) = true) (fresh : s.hasKeyId c.ldi (c.p 1680 4) = false)
    (slot : s.freePoolSlot c.ldi = some i) (held : s.ekemSeed c.ldi = some seed)
    (opened : unwrapKey (s.weightKek c.ldi seed (c.params.take 1568) (bytesAt c.params 1568 97)) c.params (s.domContext c.ldi)
      = some k) :
    weightInstallBody s c = .done { result := leBytes 2 i ++ leBytes 2 0 ++ leBytes 4 (c.p 1680 4) }
      (s.setSlot i { type := 8, ldi := c.ldi, gen := (s.dom c.ldi).gen, key := k, keyId := c.p 1680 4 }) := by
  have new_ : s.hasKeyId c.ldi (fieldAt c.params 1680 4) = false := fresh
  simp only [weightInstallBody, whole, point, new_, slot, held, Option.bind_some, opened]
  rfl

theorem weightDropBody_of {s : State} {c : Cmd} (ours : s.weightSlot c.ldi (c.p 0 2) = true)
    (idle : (s.keySlot (c.p 0 2)).busy = false) : weightDropBody s c = .done {} (s.clearSlot (c.p 0 2)) := by
  simp only [weightDropBody, ours, idle]
  rfl

/-! ### Reports and sessions (R299, R300) -/

theorem State.attestStatus_of {s : State} (root : s.rootUp = true) (identity : s.keys.identity = true) : s.attestStatus = stOk := by
  simp [State.attestStatus, root, identity]

theorem reportCmdBody_of {s : State} {c : Cmd} (root : s.rootUp = true) (identity : s.keys.identity = true)
    (random : s.drbgReady = true) :
    let report := s.committed.reportBody (c.params.take 32) c.ldi
    let g := s.hybridSign s.keys.aliasSeed report
    reportCmdBody s c = .done { result := leBytes 4 report.length ++ leBytes 4 (s.chainPart c).length,
                                ext := report ++ g.1.1 ++ g.1.2 ++ s.chainPart c } g.2 := by
  simp only [reportCmdBody, State.attestStatus_of root identity, random]
  rfl

theorem sessionOpenBody_of {s : State} {c : Cmd} (root : s.rootUp = true) (identity : s.keys.identity = true) (pbuf : c.pbuf = true)
    (rbuf : c.rbuf = true) (long : 4 ≤ c.plen) (short : c.plen ≤ 65536) (ring : c.path.isRing = true) :
    sessionOpenBody s c = match (s.openAnswer c).1 with
      | .now code body => .done { ext := ((s.openAnswer c).2.2.wireSpdm (s.openAnswer c).2.1 code body).1 }
          ((s.openAnswer c).2.2.wireSpdm (s.openAnswer c).2.1 code body).2
      | .later _ => .wait .answer (.spdm []) (s.openAnswer c).2.2
      | .noEntropy => .fail stState := by
  have carries : c.carriesSpdm = true := by simp [Cmd.carriesSpdm, pbuf, rbuf, long, short]
  simp only [sessionOpenBody, carries, State.attestStatus_of root identity, ring]
  rfl

theorem sessionOpenBody_now {s v : State} {c : Cmd} {code : Nat} {body : Bytes} {sid : Option Nat} (root : s.rootUp = true)
    (identity : s.keys.identity = true) (pbuf : c.pbuf = true) (rbuf : c.rbuf = true) (long : 4 ≤ c.plen) (short : c.plen ≤ 65536)
    (ring : c.path.isRing = true) (answer : s.openAnswer c = (.now code body, sid, v)) :
    sessionOpenBody s c = .done { ext := (v.wireSpdm sid code body).1 } (v.wireSpdm sid code body).2 := by
  rw [sessionOpenBody_of root identity pbuf rbuf long short ring, answer]

theorem sessionOpenBody_later {s v : State} {c : Cmd} {need sid : Option Nat} (root : s.rootUp = true)
    (identity : s.keys.identity = true) (pbuf : c.pbuf = true) (rbuf : c.rbuf = true) (long : 4 ≤ c.plen) (short : c.plen ≤ 65536)
    (ring : c.path.isRing = true) (answer : s.openAnswer c = (.later need, sid, v)) :
    sessionOpenBody s c = .wait .answer (.spdm []) v := by
  rw [sessionOpenBody_of root identity pbuf rbuf long short ring, answer]

/-! ### Metering (R301, R302) -/

theorem meterReadBody_of {s : State} {c : Cmd} (some_ : 1 ≤ c.p 4 1) (fits : c.p 4 1 ≤ 8) :
    let fit := fitBlocks c.room (s.meterBlocks c)
    meterReadBody s c = .done
      { result := leBytes 2 fit.length ++ leBytes 2 0 ++ leBytes 4 (((fit.getLast?).map (fun b => b.1 + 1)).getD (c.p 0 4)),
        ext := fit.flatMap Prod.snd } s := by
  simp only [meterReadBody, beq_eq_false_iff_ne.2 (Nat.one_le_iff_ne_zero.1 some_), decide_eq_false (Nat.not_lt_of_le fits)]
  rfl

theorem meterAckBody_of {s : State} {c : Cmd} {b : MeterBatch} (oldest : s.metering.batches.find? (fun b => b.closed.isSome) = some b)
    (named : b.number = c.p 0 4) :
    meterAckBody s c = .done {} ({ s with metering := { s.metering with
      batches := s.metering.batches.filter (fun x => x.number != b.number) } } : State).placeHeld := by
  simp only [meterAckBody, oldest, bne, beq_iff_eq.2 named]
  rfl

/-- Settles O19: each body on what its entry takes. -/
theorem keyAndReportCommandsTakeEffect : Obligations.KeyAndReportCommandsTakeEffect := by
  refine ⟨fun s src c i pub seed k => ⟨?_, ?_, ?_⟩, fun s src c code body need sid v => ⟨?_, ?_, ?_⟩, fun s src c b => ⟨?_, ?_⟩⟩
  · intro begins u held
    exact completes begins rfl (ephemeralBody_of (c := c.named _) held)
  · intro begins u ecdh whole point fresh slot held opened
    exact completes begins rfl (weightInstallBody_of (c := c.named _) whole point fresh slot held opened)
  · intro begins u ours idle
    exact ⟨_, completes begins rfl (weightDropBody_of (c := c.named _) ours idle), congrArg KeySlot.type (u.clearSlot_keySlot _),
      fun j other => u.clearSlot_keySlot_other _ other⟩
  · intro begins u report g root identity random
    exact completes begins rfl (reportCmdBody_of (c := c.named _) root identity random)
  · intro begins u k root identity pbuf rbuf long short ring
    refine ⟨fun answer => ?_, fun answer => ?_⟩
    · exact completes begins rfl (sessionOpenBody_now (c := k) root identity pbuf rbuf long short ring answer)
    · exact suspends begins rfl (sessionOpenBody_later (c := k) root identity pbuf rbuf long short ring answer)
  · intro t e msg wakes o cont
    exact ends wakes o (by simp [cont]) fun sup => by simp only [State.resume, cont]; rfl
  · intro begins u fit some_ fits
    exact completes begins rfl (meterReadBody_of (c := c.named _) some_ fits)
  · intro begins u oldest named
    exact completes begins rfl (meterAckBody_of (c := c.named _) oldest named)

end Sys2Proof.Machine
end

section
/-!
PROOF. The time commands (R239, R303 to R305).
-/
namespace Sys2Proof.Machine

/-- Bytes that stand between two strings are read off there. -/
theorem bytesAt_append_middle (a d b : Bytes) : bytesAt (a ++ (d ++ b)) a.length d.length = d := by
  simp [bytesAt]

/-! ### TIM_STATUS and TIM_SET_SERVO (R303, R304) -/

@[simp] theorem timeBytes_length (t : Time12) : (timeBytes t).length = 12 := by simp [timeBytes]

theorem timStatusBody_of (s : State) (c : Cmd) : ∃ r, timStatusBody s c = .done r s ∧ r.status = stOk ∧
    r.result.take 4 = leBytes 1 s.time.state.code ++ leBytes 1 s.time.k
      ++ leBytes 1 (bit s.time.setDone 0 + bit s.time.requireAuth 1 + bit (s.time.masters.any (fun x => x.2.qualified)) 2)
      ++ leBytes 1 s.time.ptpDom ∧
    bytesAt r.result 4 12 = timeBytes s.time12 ∧
    r.ext = leBytes 8 (s.time.selected.getD 0) ++ leBytes 8 s.time.setAt ++ satInt 8 s.time.setStep
      ++ padTo 32 (s.time.allow.flatMap (leBytes 8)) ++ leBytes 1 s.time.kFloor ++ leBytes 7 0 := by
  have head (a b c d : Nat) (z : Bytes) :
      (leBytes 1 a ++ leBytes 1 b ++ leBytes 1 c ++ leBytes 1 d ++ z).take 4 = leBytes 1 a ++ leBytes 1 b ++ leBytes 1 c ++ leBytes 1 d :=
    List.take_left' (by simp)
  have time (a b c d : Nat) (t : Time12) (z : Bytes) :
      bytesAt (leBytes 1 a ++ leBytes 1 b ++ leBytes 1 c ++ leBytes 1 d ++ (timeBytes t ++ z)) 4 12 = timeBytes t := by
    have between := bytesAt_append_middle (leBytes 1 a ++ leBytes 1 b ++ leBytes 1 c ++ leBytes 1 d) (timeBytes t) z
    simpa using between
  refine ⟨_, rfl, rfl, ?_, ?_, rfl⟩
  · simp only [List.append_assoc] at head ⊢
    exact head ..
  · simp only [List.append_assoc] at time ⊢
    exact time ..

/-- The servo's settings, and the masters' start over where the domain number or the list of masters changes. -/
def TimeUnit.served (t : TimeUnit) (c : Cmd) : TimeUnit :=
  let new := { t with
    ptpDom := c.p 0 1, requireAuth := c.p 1 1 % 2 == 1, kFloor := c.p 2 1, allow := allowList c, k := max t.k (c.p 2 1) }
  if t.ptpDom == c.p 0 1 && t.allow == allowList c then new else { new with masters := [], selected := none, syncs := [] }

theorem TimeUnit.served_settings (t : TimeUnit) (c : Cmd) :
    (t.served c).ptpDom = c.p 0 1 ∧ (t.served c).requireAuth = (c.p 1 1 % 2 == 1) ∧ (t.served c).kFloor = c.p 2 1 ∧
      (t.served c).allow = allowList c ∧ (t.served c).k = max t.k (c.p 2 1) := by
  unfold TimeUnit.served
  dsimp only
  split <;> exact ⟨rfl, rfl, rfl, rfl, rfl⟩

theorem TimeUnit.served_selected (t : TimeUnit) (c : Cmd) (h : t.ptpDom ≠ c.p 0 1 ∨ t.allow ≠ allowList c) :
    (t.served c).selected = none := by
  have changes : (t.ptpDom == c.p 0 1 && t.allow == allowList c) = false := by
    rcases h with dom | list_
    · simp [dom]
    · simp [list_]
  simp [TimeUnit.served, changes]

theorem setServoBody_of {s : State} {c : Cmd} (low : 2 ≤ c.p 2 1) (high : c.p 2 1 ≤ 6) (few : c.p 3 1 ≤ 4) :
    setServoBody s c = .done {} (s.setTime (s.time.served c)) := by
  simp only [setServoBody, decide_eq_false (Nat.not_lt_of_le low), decide_eq_false (Nat.not_lt_of_le high),
    decide_eq_false (Nat.not_lt_of_le few)]
  rfl

/-! ### TIM_OFFSET_MEASURE (R239, R305) -/

/-- The measurement has begun: O is 0 on rank 0, and the tree is told. -/
def State.measuring (s : State) (l : Nat) : State :=
  ((s.setOffset l { s.offsetOf l with own := some 0, running := true, since := s.now, spread := 0, count := 1, left := 0 }).toChildren l
    (offsetBody 0 0 (s.dom l).gdid [] [] [] 0)).toChildren l (offsetBody 3 0 (s.dom l).gdid [] [] [] 0)

theorem State.measuring_touches (s : State) (l : Nat) : Touches [.time, .shuttle, .counters, .out] s (s.measuring l) :=
  (((s.setOffset_touches l _).mono (by decide)).trans ((State.toChildren_touches _ _ _).mono (by decide))).trans
    ((State.toChildren_touches _ _ _).mono (by decide))

theorem State.measuring_offsetOf (s : State) (l : Nat) : (s.measuring l).offsetOf l =
    { s.offsetOf l with own := some 0, running := true, since := s.now, spread := 0, count := 1, left := 0 } := by
  have same (u : State) (b : Bytes) : (u.toChildren l b).time = u.time := (u.toChildren_touches l b).time.resolve_left (by decide)
  unfold State.measuring State.offsetOf
  rw [same, same]
  exact State.setOffset_offsetOf s l _

theorem State.measuring_measured (s : State) (l : Nat) : (s.measuring l).measured l = decide ((s.dom l).members ≤ 1) := by
  have dom := (s.measuring_touches l).dom (by decide) l
  simp only [State.measured, dom, s.measuring_offsetOf l]

theorem offsetMeasureBody_of {s : State} {c : Cmd} (first : (s.dom c.ldi).rank = 0) (idle : (s.offsetOf c.ldi).running = false) :
    offsetMeasureBody s c = if (s.dom c.ldi).members ≤ 1 then (s.measuring c.ldi).endMeasure c.ldi
      else .wait (.measure c.ldi (s.now + msTicks)) (.measure c.ldi) (s.measuring c.ldi) := by
  have same := s.measuring_measured c.ldi
  have asked : ((s.measuring c.ldi).measured c.ldi = true) = ((s.dom c.ldi).members ≤ 1) := by rw [same, decide_eq_true_eq]
  unfold State.measuring at asked ⊢
  simp only [offsetMeasureBody, first, idle, bne_self_eq_false, Bool.false_eq_true, if_false, asked]

/-- A measurement on rank 0 alone: one member has taken part, and nothing is spread. -/
theorem State.measuring_reply (s : State) (l : Nat) : (s.measuring l).measureReply l = leBytes 2 1 ++ leBytes 2 0 ++ leBytes 8 0 := by
  simp only [State.measureReply, s.measuring_offsetOf l]
  rfl

/-- Settles O20: each body on what its entry takes. -/
theorem timeCommandsTakeEffect : Obligations.TimeCommandsTakeEffect := by
  refine fun s src c => ⟨?_, ?_, ?_, ?_⟩
  · intro begins u
    obtain ⟨r, body, status, head, time, ext⟩ := timStatusBody_of u (c.named ((s.checked c).newJid timStatusSpec c))
    exact ⟨r, completes begins rfl body, status, head, time, ext⟩
  · intro begins u low high few
    obtain ⟨dom, auth, floor, allow, gain⟩ := u.time.served_settings c
    have body := setServoBody_of (s := u) (c := c.named ((s.checked c).newJid timSetServoSpec c)) low high few
    exact ⟨u.setTime (u.time.served c), completes begins rfl body, dom, auth, floor, allow, gain, u.time.served_selected c⟩
  · intro begins u first idle
    have body := offsetMeasureBody_of (s := u) (c := c.named ((s.checked c).newJid timOffsetMeasureSpec c)) first idle
    refine ⟨fun alone => ?_, fun others => ?_⟩
    · exact ⟨_, _, completes begins rfl (body.trans (if_pos alone)), u.measuring_reply c.ldi⟩
    · have offset := u.measuring_offsetOf c.ldi
      exact ⟨_, suspends begins rfl (body.trans (if_neg (Nat.not_le_of_lt others))), congrArg Offset.own offset,
        congrArg Offset.running offset⟩
  · intro t e l wakes o cont
    exact ends wakes o (by simp [cont]) fun sup => by simp only [State.resume, cont]; rfl

end Sys2Proof.Machine
end

section
/-!
PROOF. Debug certificates and halting (R306 to R309, R359, R361, R430, R431).
-/
namespace Sys2Proof.Machine

/-! ### DBG_CERT_PRESENT (R306, R359) -/

/-- A nonce stands for 300 s. -/
def State.withNonce (s : State) (n : BitVec 256) : State :=
  let d := s.draw.2
  { d with dbg := { d.dbg with nonce := some n, nonceUntil := s.now + 300 * secTicks } }

theorem certPresentBody_nonce {s : State} {c : Cmd} (mode : c.p 0 1 = 0) (without : c.p 4 4 = 0) (random : s.drbgReady = true) :
    let n := BitVec.ofNat 256 (leNat (drawBytes s.draw.1 32))
    certPresentBody s c = .done { result := bvBytes 32 n } (s.withNonce n) := by
  simp only [certPresentBody, mode, without, random]
  rfl

theorem certPresentBody_cert {s : State} {c : Cmd} {f : DebugFields} (mode : c.p 0 1 = 1) (some_ : 1 ≤ c.p 4 4)
    (fits : c.p 4 4 ≤ 65528) (form : debugFields (certBytes c) = some (some f)) (timed : s.timed = true)
    (passes : s.certOk (certBytes c) f = true) (room : s.dbg.certs.length < 8) :
    certPresentBody s c = .done { result := leBytes 4 s.dbg.nextCert ++ leBytes 8 (f.rights.setWidth 8).toNat } (s.grantCert f) := by
  have free : decide (certPlaces ≤ s.dbg.certs.length) = false := decide_eq_false (Nat.not_le_of_lt room)
  simp only [certPresentBody, mode, beq_eq_false_iff_ne.2 (Nat.one_le_iff_ne_zero.1 some_), decide_eq_false (Nat.not_lt_of_le fits),
    form, timed, passes, free]
  rfl

/-! ### DBG_REVOKE (R307) -/

theorem revokeBody_all {s : State} {c : Cmd} (all_ : c.p 0 4 = 0xFFFFFFFF) :
    revokeBody s c = .done { result := leBytes 8 s.endRights.debugRights } s.endRights := by
  simp only [revokeBody, all_]
  rfl

theorem revokeBody_one {s : State} {c : Cmd} {x : DebugCert} (one : c.p 0 4 ≠ 0xFFFFFFFF) (held : s.dbg.certs.find (c.p 0 4) = some x) :
    revokeBody s c = .done { result := leBytes 8 (s.setCerts (s.dbg.certs.del (c.p 0 4))).debugRights }
      (s.setCerts (s.dbg.certs.del (c.p 0 4))) := by
  simp only [revokeBody, beq_eq_false_iff_ne.2 one, held]
  rfl

/-! ### DBG_HALT and DBG_RESUME (R308, R309, R431) -/

theorem haltBody_of {s : State} {c : Cmd} (right : s.right rightHalt = true) (few : c.p 0 1 ≤ 4)
    (aligned : ∀ a ∈ breakpoints c, a % 4 = 0) (none_armed : s.loom.bps = []) :
    haltBody s c = if c.p 0 1 = 0 then .done {} s.haltNow else .done {} { s with loom := { s.loom with bps := breakpoints c } } := by
  have addresses : (breakpoints c).any (fun a => a % 4 != 0) = false := by
    simpa using aligned
  simp only [haltBody, right, decide_eq_false (Nat.not_lt_of_le few), addresses, none_armed, beq_iff_eq]
  rfl

/-- The breakpoints are disarmed, and a halt of a failing check ends. -/
def State.disarmed (s : State) : State :=
  { s.failureEndsHalt with loom := { s.failureEndsHalt.loom with bps := [] } }

theorem resumeBody_of {s : State} (c : Cmd) (stands : s.inHalt = true ∨ s.loom.bps ≠ []) : resumeBody s c = .done {} s.disarmed := by
  have ok : (!s.inHalt && s.loom.bps.isEmpty) = false := by
    rcases stands with halt | armed
    · simp [halt]
    · simp [armed]
  simp only [resumeBody, ok]
  rfl

/-- A command that passes its checks and whose body is done completes. -/
theorem State.runCommand_done {s v : State} {sp : CmdSpec} {c : Cmd} {r : Reply}
    (fresh : (s.fetched c).settle.seqCheck c.path c.seq = .fresh) (passes : (s.checked c).firstFailure sp c = none)
    (body : sp.body (s.begun sp c) (c.named ((s.checked c).newJid sp c)) = .done r v) :
    (s.fetched c).runCommand sp c = sp.after c (v.commit ((s.checked c).newEntry sp c) r) := by
  obtain ⟨form, own⟩ := State.firstFailure_none passes
  unfold State.begun at body
  unfold State.checked at form own body
  simp only [State.runCommand, State.inSequence, fresh, form, own, State.runBody, body]
  rfl

/-- While the cores are halted, the debug controller takes it from the MGMT or the DEBUG ring. -/
theorem execDbgResume_halted {s : State} {i : Nat} {c : Cmd} (clocked : s.clocked = true) (runs : s.boot.phase.isRunning = true)
    (up : s.loom.restarting = false) (safe : s.power.fatal = false) (open_ : s.loom.ringsOpen = true) (stays : s.otp.resetDue = none)
    (halted : s.loom.halted = true) (ring : i = 68 ∨ i = 69) (waits : s.waitingCmd (.ring i) = some c) (code : c.opcode = 0x0804) :
    exec (.dbgResume (.ring i)) s = .next ((s.fetched c).runCommand dbgResumeSpec c).drainTurns := by
  have src : (Src.ring i == .ring 68 || Src.ring i == .ring 69) = true := by
    rcases ring with rfl | rfl <;> rfl
  have taken : exec (.dbgResume (.ring i)) s = .next (s.resumeHalted (.ring i)) := by
    simp only [exec, execDbgResume, halted, if_true]
  rw [taken]
  simp only [State.resumeHalted, waits, clocked, runs, up, safe, open_, stays, halted, src, code, Option.isNone_none, Bool.not_false,
    Bool.and_self, beq_self_eq_true, if_true]

/-- Settles O21: the bodies on what their entries take, and the debug controller's DBG_RESUME of a halt. -/
theorem debugCommandsTakeEffect : Obligations.DebugCommandsTakeEffect := by
  refine ⟨fun s src c f x => ⟨?_, ?_⟩, fun s src c i => ⟨?_, ?_, ?_⟩⟩
  · intro begins u
    refine ⟨?_, fun mode some_ fits form timed passes room => ?_⟩
    · intro mode without random n
      exact ⟨_, completes begins rfl (certPresentBody_nonce (c := c.named _) mode without random), rfl, rfl, rfl⟩
    · exact completes begins rfl (certPresentBody_cert (c := c.named _) mode some_ fits form timed passes room)
  · intro begins u
    refine ⟨fun all_ => ?_, ?_⟩
    · exact completes begins rfl (revokeBody_all (c := c.named _) all_)
    · intro one held v
      exact completes begins rfl (revokeBody_one (c := c.named _) one held)
  · intro begins u right few aligned none_armed
    have body := haltBody_of (s := u) (c := c.named ((s.checked c).newJid dbgHaltSpec c)) right few aligned none_armed
    refine ⟨fun armed => ?_, fun now => ⟨?_, rfl⟩⟩
    · exact completes begins rfl (body.trans (if_neg armed))
    · exact completes begins rfl (body.trans (if_pos now))
  · intro begins _ u armed
    have body := resumeBody_of (s := u) (c.named ((s.checked c).newJid dbgResumeSpec c)) (.inr armed)
    exact ⟨_, completes begins (execDbgResume_of_fetches begins.fetches) body, rfl⟩
  · intro clocked runs up safe open_ stays halted ring waits code fresh passes u stands
    unfold Completes
    rw [execDbgResume_halted clocked runs up safe open_ stays halted ring waits code,
      State.runCommand_done fresh passes (resumeBody_of (c.named ((s.checked c).newJid dbgResumeSpec c)) (.inl stands))]
    rfl

end Sys2Proof.Machine
end

section
/-!
PROOF. Counters, freezes and the trace (R310 to R312, R314, R417 to R422, R429).
-/
namespace Sys2Proof.Machine

/-! ### PRF_READ and PRF_FREEZE_AT (R310, R311) -/

theorem prfReadBody_of {s : State} {c : Cmd} {v : CounterView × Time12} (view : s.readView c = some v) (range : readRange c = true) :
    prfReadBody s c = .done
      { result := leBytes 1 (s.readLevel c).1 ++ leBytes 3 0 ++ timeBytes v.2,
        ext := (span (c.p 4 2) (c.p 6 2)).flatMap (fun i =>
          leBytes 8 (if c.ldi = 0 then v.1.block (s.readLevel c).2 i else v.1.domain (s.readLevel c).2 i)) } s := by
  simp only [prfReadBody, view, range, Bool.not_true, Bool.false_eq_true, if_false, beq_iff_eq]
  by_cases block : c.ldi = 0 <;> simp [block, Res.ok]

/-- A freeze of the LDI is armed under the next ID. -/
def State.freezeArmed (s : State) (l : Nat) (t : Time12) : State :=
  ({ s with counters := { s.counters with
      lastId := s.counters.nextId, seenIds := s.counters.nextId :: s.counters.seenIds } } : State).armFreeze
    { ldi := l, id := s.counters.nextId, t := t, unaligned := l != 0 && (s.offsetO l).isNone }

theorem freezeAtBody_of {s : State} {c : Cmd} (scope : c.p 12 1 = 0 ∧ c.ldi = 0 ∨ c.p 12 1 = 1 ∧ c.ldi ≠ 0)
    (ahead : s.freezeAhead c.ldi (time12Of c.params) = true) (timed : s.timed = true)
    (free : s.counters.armed.any (fun a => a.ldi == c.ldi) = false) :
    freezeAtBody s c = .done { result := leBytes 4 s.counters.nextId } (s.freezeArmed c.ldi (time12Of c.params)) := by
  have form : (decide (1 < c.p 12 1) || (c.p 12 1 == 0) != (c.ldi == 0)) = false := by
    rcases scope with ⟨code, ldi⟩ | ⟨code, ldi⟩ <;> simp [code, ldi]
  simp only [freezeAtBody, form, ahead, timed, free]
  rfl

/-! ### TRC_CONFIG and TRC_READ (R312, R314) -/

/-- The trace unit as it is set. -/
def Trace.configured (t : Trace) (c : Cmd) : Trace :=
  let new := { t with
    mode := c.p 0 1, sources := BitVec.ofNat 16 (c.p 2 2), trigValue := BitVec.ofNat 32 (c.p 4 4)
    trigMask := BitVec.ofNat 32 (c.p 8 4), written := 0, triggered := none }
  if c.p 0 1 == 0 then new else { new with records := [], gone := [] }

theorem Trace.configured_settings (t : Trace) (c : Cmd) :
    (t.configured c).mode = c.p 0 1 ∧ (t.configured c).sources = BitVec.ofNat 16 (c.p 2 2) ∧ (t.configured c).triggered = none := by
  unfold Trace.configured
  dsimp only
  split <;> exact ⟨rfl, rfl, rfl⟩

theorem Trace.configured_records (t : Trace) (c : Cmd) :
    (c.p 0 1 ≠ 0 → (t.configured c).records = []) ∧ (c.p 0 1 = 0 → (t.configured c).records = t.records) :=
  ⟨fun on => by simp [Trace.configured, on], fun off => by simp [Trace.configured, off]⟩

theorem traceConfigBody_of {s : State} {c : Cmd} (block : c.ldi = 0) (mode : c.p 0 1 ≤ 3) (sources : c.p 2 2 < 2 ^ 15) :
    traceConfigBody s c = .done {} { s with trace := s.trace.configured c } := by
  simp only [traceConfigBody, block, decide_eq_false (Nat.not_le_of_lt sources), if_neg (Nat.not_lt_of_le mode)]
  rfl

/-- The domain's consent, which a level above 0 leaves its mark of. -/
def State.consented (s : State) (l : Nat) (on : Bool) : State :=
  s.setDom l { s.dom l with consent := on, fineEver := (s.dom l).fineEver || on }

theorem consentBody_of {s : State} {c : Cmd} (mode : c.p 0 1 = 0) (value : c.p 4 4 = 0) (mask : c.p 8 4 = 0)
    (word : c.p 2 2 = 0 ∨ c.p 2 2 = 2 ^ 15) : consentBody s c = .done {} (s.consented c.ldi (c.p 2 2 == 2 ^ 15)) := by
  have form : (c.p 2 2 != 0 && c.p 2 2 != 2 ^ 15) = false := by
    rcases word with off | on
    · simp [off]
    · simp [on]
  simp only [consentBody, mode, value, mask, form]
  rfl

theorem traceConfigBody_consent {s : State} {c : Cmd} (tenant : c.ldi ≠ 0) : traceConfigBody s c = consentBody s c := by
  simp [traceConfigBody, tenant]

theorem traceReadBody_of {s : State} {c : Cmd} (some_ : 1 ≤ c.p 8 4) (fits : c.p 8 4 ≤ 2048) (log : c.p 12 1 ≤ 1) :
    ∃ r, traceReadBody s c = .done r s ∧ r.status = stOk ∧ r.ext = ((s.traceRecords c).map Prod.snd).flatten ∧
      r.result.take 4 = leBytes 4 (s.traceRecords c).length := by
  have head (n : Nat) (a b : Bytes) : (leBytes 4 n ++ a ++ b).take 4 = leBytes 4 n := by
    rw [List.append_assoc]
    exact List.take_left' (leBytes_length 4 n)
  simp only [traceReadBody, beq_eq_false_iff_ne.2 (Nat.one_le_iff_ne_zero.1 some_), decide_eq_false (Nat.not_lt_of_le fits),
    decide_eq_false (Nat.not_lt_of_le log)]
  exact ⟨_, rfl, rfl, rfl, head _ _ _⟩

/-- Settles O22: each body on what its entry takes, and the FREEZE that follows a reply. -/
theorem observationCommandsTakeEffect : Obligations.ObservationCommandsTakeEffect := by
  refine ⟨fun s src c v => ⟨?_, ?_, fun z block => if_pos (by simp [block]), fun z domain => if_neg (by simp [domain])⟩,
    fun s src c => ⟨?_, ?_⟩⟩
  · intro begins u lv view range
    exact completes begins rfl (prfReadBody_of (c := c.named _) view range)
  · intro begins u t scope ahead timed free
    have body := freezeAtBody_of (s := u) (c := c.named ((s.checked c).newJid prfFreezeAtSpec c)) scope ahead timed free
    exact ⟨u.freezeArmed c.ldi t, completes begins rfl body, rfl, rfl⟩
  · intro begins u
    refine ⟨fun block mode sources => ?_, fun tenant mode value mask word => ?_⟩
    · obtain ⟨set_, on, triggered⟩ := u.trace.configured_settings c
      obtain ⟨fresh, kept⟩ := u.trace.configured_records c
      have body := traceConfigBody_of (s := u) (c := c.named ((s.checked c).newJid trcConfigSpec c)) block mode sources
      exact ⟨_, completes begins rfl body, set_, on, triggered, fresh, kept⟩
    · have body := (traceConfigBody_consent (s := u) (c := c.named ((s.checked c).newJid trcConfigSpec c)) tenant).trans
        (consentBody_of mode value mask word)
      exact ⟨u.consented c.ldi (c.p 2 2 == 2 ^ 15), completes begins rfl body, congrArg Domain.consent (State.setDom_dom _ _ _), rfl⟩
  · intro begins u some_ fits log
    obtain ⟨r, body, status, ext, head⟩ := traceReadBody_of (s := u) (c := c.named ((s.checked c).newJid trcReadSpec c)) some_ fits log
    exact ⟨r, completes begins rfl body, status, ext, head⟩

end Sys2Proof.Machine
end

section
/-!
PROOF. What aborts and messages leave of the SA states, and what leaves an ABORTED domain so (R33, R34, R110, R393).
-/
namespace Sys2Proof.Machine

/-! ### SA states that stay -/

/-- Every SA entry has the state that it had. -/
def State.SaKept (s t : State) : Prop := ∀ p, (t.sa p).state = (s.sa p).state

theorem State.SaKept.refl (s : State) : s.SaKept s := fun _ => rfl

theorem State.SaKept.trans {s t u : State} (h : s.SaKept t) (k : t.SaKept u) : s.SaKept u := fun p => (k p).trans (h p)

theorem State.SaKept.valid {s t : State} (h : s.SaKept t) (p : Nat) : t.saValid p = s.saValid p := by
  unfold State.saValid
  rw [h p]

theorem Touches.saKept {F : List Part} {s t : State} (h : Touches F s t) (n : Part.shuttle ∉ F) : s.SaKept t := fun p => by
  unfold State.sa
  rw [h.shuttle.resolve_left n]

theorem State.saKept_foldl {α : Type} (f : State → α → State) (keeps : ∀ s a, State.SaKept s (f s a)) (l : List α) (s : State) :
    s.SaKept (l.foldl f s) := by
  induction l generalizing s with
  | nil => exact State.SaKept.refl s
  | cons a l ih => exact (keeps s a).trans (ih (f s a))

/-- An entry is written with the state that it had. -/
theorem State.saKept_setSa {s : State} {p : Nat} {a : Sa} (same : a.state = (s.sa p).state) : s.SaKept (s.setSa p a) := fun q => by
  by_cases own : q = p
  · rw [own, State.setSa_sa, same]
  · rw [s.setSa_sa_other p a own]

/-- A change of every entry of a map, as one finds it. -/
theorem Map.find_map {α : Type} (f : α → α) (m : Map α) (q : Nat) :
    Map.find (List.map (fun x => (x.1, f x.2)) m) q = (Map.find m q).map f := by
  induction m with
  | nil => rfl
  | cons x m ih =>
    obtain ⟨k, v⟩ := x
    by_cases own : k = q
    · simp [Map.find, own]
    · simpa [Map.find, own] using ih

/-- Every entry is written with the state that it had. -/
theorem Map.sas_map_state (f : Sa → Sa) (same : ∀ a, (f a).state = a.state) (m : Map Sa) (q : Nat) :
    (Map.findD (List.map (fun x => (x.1, f x.2)) m) q {}).state = (Map.findD m q {}).state := by
  unfold Map.findD
  rw [Map.find_map]
  cases Map.find m q with
  | none => rfl
  | some a => exact same a

theorem State.saKept_takeCtr {s t : State} {p c : Nat} (h : s.takeCtr p = some (c, t)) : s.SaKept t := by
  unfold State.takeCtr at h
  dsimp only at h
  split at h
  · cases h
    have counted : s.SaKept (s.setSa p { s.sa p with txNext := (s.sa p).txNext + 1 }) := State.saKept_setSa rfl
    exact counted.trans ((State.homeRequest_touches _ _).saKept (by decide))
  · cases h

theorem State.saKept_noteTx (s : State) (p : Nat) (data : Bool) : s.SaKept (s.noteTx p data) := by
  unfold State.noteTx
  dsimp only
  split
  · exact State.saKept_setSa rfl
  · exact State.saKept_setSa rfl

theorem State.saKept_sendCtrlPart (s : State) (p : Nat) (b : Bytes) : s.SaKept (s.sendCtrlPart p b) := by
  unfold State.sendCtrlPart
  cases counter : s.takeCtr p with
  | none => exact State.SaKept.refl s
  | some x => exact (State.saKept_takeCtr counter).trans ((State.emit_touches _ _).saKept (by decide))

theorem State.saKept_sendCtrl (s : State) (p type : Nat) (b : Bytes) : s.SaKept (s.sendCtrl p type b) := by
  unfold State.sendCtrl
  split
  · exact (State.saKept_foldl _ (fun s b => s.saKept_sendCtrlPart p b) _ s).trans (State.saKept_noteTx _ _ _)
  · exact State.SaKept.refl s

theorem State.saKept_rcDel (s : State) (f : RcEntry → Bool) : s.SaKept (s.rcDel f) := fun _ => rfl

theorem State.saKept_rcEnd (s : State) (l : Nat) : s.SaKept (s.rcEnd l) := by
  have lag (s : State) (p : Nat) : s.SaKept (s.lagAck p) := by
    unfold State.lagAck
    dsimp only
    split
    · exact State.saKept_setSa rfl
    · exact State.SaKept.refl s
  have forgot : ((s.rcDel fun e => e.ldi == l).SaKept ((s.rcDel fun e => e.ldi == l).forgetAtoms l)) := fun p =>
    Map.sas_map_state (fun a => a.forget l) (fun _ => rfl) _ p
  exact ((s.saKept_rcDel _).trans forgot).trans (State.saKept_foldl _ lag _ _)

theorem State.saKept_sendSquall (s : State) (l cause : Nat) : s.SaKept (s.sendSquall l cause) := by
  rcases s.sendSquall_cases l cause with same | told
  · rw [same]
    exact State.SaKept.refl s
  · have marked : s.SaKept (s.setDom l { s.dom l with squalled := true }) := fun _ => rfl
    have sent : s.SaKept (s.squallTold l cause) := marked.trans (State.saKept_foldl _ (fun s p => s.saKept_sendCtrl p _ _) _ _)
    exact sent.trans (told.saKept (by decide))

/-! ### Aborts and SA states -/

theorem State.saKept_closeAbort (s : State) (a : DueAbort) : s.SaKept (s.closeAbort a) := by
  have keys : s.SaKept (((s.publish [gateRec a.ldi false]).2.dropKeys a.ldi endsAtAbort).dropGroupKeys a.ldi) :=
    ((((State.publish_touches s [gateRec a.ldi false]).mono (by decide)).trans
      ((State.dropKeys_touches _ a.ldi endsAtAbort).mono (by decide)) : Touches [.bp, .out, .keys] s _).saKept (by decide)).trans
      fun _ => rfl
  exact (((keys.trans ((State.discardWeft_touches _ _).saKept (by decide))).trans ((State.dropTargets_touches _ _).saKept (by decide))).trans
    fun _ => rfl).trans ((State.discardBatten_touches _ _).saKept (by decide))

theorem State.saKept_signalAbort (s : State) (a : DueAbort) : s.SaKept (s.signalAbort a) := by
  unfold State.signalAbort
  split
  · exact (State.signalAll_touches _ _ _).saKept (by decide)
  · exact ((State.internalEntry_touches s).saKept (by decide)).trans ((State.signalAll_touches _ _ _).saKept (by decide))

theorem State.saKept_restAbort (s : State) (a : DueAbort) : s.SaKept (s.restAbort a) := by
  have raised : s.SaKept ((s.rcEnd a.ldi).raiseAbort a.ldi) :=
    (s.saKept_rcEnd a.ldi).trans ((State.raiseAbort_touches _ _).saKept (by decide))
  unfold State.restAbort
  dsimp only
  split
  · exact raised.trans (State.saKept_sendSquall _ _ _)
  · exact raised

theorem State.saKept_noteAbort (s : State) (a : DueAbort) : s.SaKept (s.noteAbort a) := fun _ => rfl

theorem State.saKept_abort (s : State) (l cause : Nat) (origin : Bool) : s.SaKept (s.abort l cause origin) := by
  have marked : s.SaKept (s.settle.markAborted l) :=
    (s.settle_touches.saKept (by decide)).trans ((State.markAborted_touches _ _).saKept (by decide))
  unfold State.abort
  dsimp only
  split
  · split
    · exact s.saKept_sendSquall l cause
    · exact State.SaKept.refl s
  · split
    · exact State.SaKept.refl s
    · split
      · exact ((marked.trans (State.saKept_closeAbort _ _)).trans (State.saKept_signalAbort _ _)).trans (State.saKept_restAbort _ _)
      · split
        · exact ((marked.trans (State.saKept_closeAbort _ _)).trans (State.saKept_restAbort _ _)).trans (State.saKept_noteAbort _ _)
        · exact marked.trans (State.saKept_noteAbort _ _)

/-! ### The end of an SA -/

theorem State.saKept_loseAtomics (s : State) (p : Nat) : s.SaKept (s.loseAtomics p) := by
  have ended := State.saKept_foldl (fun s e => s.loseAtomic p e) (fun s e => (s.loseAtomic_touches p e).saKept (by decide))
    (s.shuttle.rcache.filter fun e => !e.reply && e.peer == p) s
  unfold State.loseAtomics
  exact ended.trans (State.saKept_rcDel _ _)

/-- The SA that ends has the state that its end gives, and every other SA its own. -/
theorem State.endSa_sa {s : State} {p : Nat} (cause : Nat) (st : SaState) (valid : s.saValid p = true) :
    ((s.endSa p cause st).sa p).state = st ∧ ∀ q, q ≠ p → ((s.endSa p cause st).sa q).state = (s.sa q).state := by
  have before : s.SaKept (s.internalEntry.loseAtomics p) :=
    ((State.internalEntry_touches s).saKept (by decide)).trans (State.saKept_loseAtomics _ p)
  have after (u : State) (hit : List Nat) :
      u.SaKept (hit.foldl (fun s l => s.abort l cause true) ((u.endMigrations p).quarantinePeerGone p)) :=
    (((u.endMigrations_touches p).saKept (by decide)).trans ((State.quarantinePeerGone_touches _ p).saKept (by decide))).trans
      (State.saKept_foldl _ (fun s l => s.saKept_abort l cause true) hit _)
  unfold State.endSa
  simp only [valid, if_true]
  refine ⟨?_, fun q other => ?_⟩
  · rw [after _ _ p, State.setSa_sa]
  · rw [after _ _ q, State.setSa_sa_other _ _ _ other, before q]

theorem State.loseSa_saValid (s : State) (p q : Nat) :
    (s.loseSa p).saValid q = true ↔ s.saValid q = true ∧ q ≠ p := by
  unfold State.loseSa
  by_cases valid : s.saValid p = true
  · obtain ⟨own, others⟩ := State.endSa_sa 0x05 .lost valid
    have recorded : (s.endSa p 0x05 .lost).SaKept ((s.endSa p 0x05 .lost).saRecord 0x0507 p 0 0) :=
      (State.saRecord_touches _ _ _ _ _).saKept (by decide)
    rw [if_pos valid, recorded.valid]
    by_cases same : q = p
    · subst same
      simp [State.saValid, own]
    · simp [State.saValid, others q same, same]
  · rw [if_neg valid]
    refine ⟨fun h => ⟨h, fun same => valid (same ▸ h)⟩, And.left⟩

theorem State.foldl_loseSa_saValid (ps : List Nat) (s : State) (q : Nat) :
    (ps.foldl State.loseSa s).saValid q = true ↔ s.saValid q = true ∧ q ∉ ps := by
  induction ps generalizing s with
  | nil => simp
  | cons p ps ih =>
    rw [List.foldl_cons, ih, State.loseSa_saValid, List.mem_cons, not_or, and_assoc]

/-- No SA is VALID after every VALID one has ended. -/
theorem State.loseEverySa_saValid (s : State) (q : Nat) : s.loseEverySa.saValid q = false := by
  rw [Bool.eq_false_iff]
  intro valid
  obtain ⟨was, out⟩ := (State.foldl_loseSa_saValid _ s q).1 valid
  refine out (List.mem_filter.2 ⟨?_, was⟩)
  cases held : s.shuttle.sas.find q with
  | none => simp [State.saValid, State.sa, Map.findD, held] at was
  | some a => exact List.mem_map_of_mem (f := Prod.fst) (Map.mem_of_find held)

/-! ### ABORTED domains -/

/-- An ABORTED domain stays ABORTED. -/
def State.AbortsStay (s t : State) : Prop := ∀ l, (s.dom l).state = .aborted → (t.dom l).state = .aborted

theorem State.AbortsStay.refl (s : State) : s.AbortsStay s := fun _ h => h

theorem State.AbortsStay.trans {s t u : State} (h : s.AbortsStay t) (k : t.AbortsStay u) : s.AbortsStay u := fun l a => k l (h l a)

theorem Touches.abortsStay {F : List Part} {s t : State} (h : Touches F s t) (n : Part.doms ∉ F) : s.AbortsStay t := fun l a =>
  (Domain.core_state (h.core n l)).trans a

theorem State.abortsStay_foldl {α : Type} (f : State → α → State) (keeps : ∀ s a, State.AbortsStay s (f s a)) (l : List α) (s : State) :
    s.AbortsStay (l.foldl f s) := by
  induction l generalizing s with
  | nil => exact State.AbortsStay.refl s
  | cons a l ih => exact (keeps s a).trans (ih (f s a))

/-- An abort leaves every other domain's record, but for the note of its Squall and its counters. -/
theorem State.abort_core_other (s : State) {l k : Nat} (cause : Nat) (origin : Bool) (other : k ≠ l) :
    ∃ b, ((s.abort l cause origin).dom k).core = ({ s.dom k with squalled := b } : Domain).core := by
  by_cases idle : (s.dom l).retiring = false
  · by_cases live : (s.dom l).state.abortable = true
    · obtain ⟨b, kept⟩ := (State.abort_keeps (cause := cause) (origin := origin) idle live).dom k
      have marked : ((s.settle.markAborted l).dom k).core = (s.dom k).core :=
        (State.markAborted_core_other s.settle other).trans (s.settle_touches.core (by decide) k)
      exact ⟨b, kept.trans (Domain.core_squalled marked b)⟩
    · exact ⟨(s.dom k).squalled, by simp [State.abort, idle, live]⟩
  · unfold State.abort
    simp only [Bool.not_eq_false] at idle
    simp only [idle, if_true]
    split
    · exact s.sendSquall_dom l cause k
    · exact ⟨(s.dom k).squalled, rfl⟩

theorem State.abort_state_own {s : State} {l : Nat} (cause : Nat) (origin : Bool) (idle : (s.dom l).retiring = false)
    (live : (s.dom l).state.abortable = true) : ((s.abort l cause origin).dom l).state = .aborted := by
  obtain ⟨b, kept⟩ := (State.abort_keeps (cause := cause) (origin := origin) idle live).dom l
  have marked := Domain.core_state (s.settle.markAborted_core_own l)
  have same := Domain.core_state kept
  exact same.trans marked

theorem State.abortsStay_abort (s : State) (l cause : Nat) (origin : Bool) : s.AbortsStay (s.abort l cause origin) := by
  intro k aborted
  by_cases other : k = l
  · subst other
    have dead : (s.dom k).state.abortable = false := by rw [aborted]; rfl
    unfold State.abort
    simp only [dead, Bool.not_false, if_true]
    split
    · split
      · obtain ⟨b, kept⟩ := s.sendSquall_dom k cause k
        have same := Domain.core_state kept
        exact same.trans aborted
      · exact aborted
    · exact aborted
  · obtain ⟨b, kept⟩ := s.abort_core_other cause origin other
    have same := Domain.core_state kept
    exact same.trans aborted

theorem State.abortsStay_endMigrations (s : State) (p : Nat) : s.AbortsStay (s.endMigrations p) := by
  refine State.abortsStay_foldl _ (fun s l k aborted => ?_) _ s
  have same : (((s.setDom l { s.dom l with mig := none }).dropKeys l (fun t => t == 11)).dom k)
      = (s.setDom l { s.dom l with mig := none }).dom k := rfl
  rw [same]
  by_cases own : k = l
  · subst own
    rw [State.setDom_dom]
    exact aborted
  · rw [State.setDom_dom_other _ _ _ own]
    exact aborted

theorem State.abortsStay_loseSa (s : State) (p : Nat) : s.AbortsStay (s.loseSa p) := by
  unfold State.loseSa
  split
  · next valid =>
    refine State.AbortsStay.trans ?_ ((State.saRecord_touches _ _ _ _ _).abortsStay (by decide))
    unfold State.endSa
    simp only [valid, if_true]
    have before : s.AbortsStay (s.internalEntry.loseAtomics p) :=
      ((State.internalEntry_touches s).abortsStay (by decide)).trans ((State.loseAtomics_touches _ p).abortsStay (by decide))
    have set_ (u : State) (a : Sa) : u.AbortsStay (u.setSa p a) := fun _ h => h
    have gone (u : State) : u.AbortsStay ((u.endMigrations p).quarantinePeerGone p) :=
      (u.abortsStay_endMigrations p).trans ((State.quarantinePeerGone_touches _ p).abortsStay (by decide))
    exact ((before.trans (set_ _ _)).trans (gone _)).trans (State.abortsStay_foldl _ (fun s l => s.abortsStay_abort l 0x05 true) _ _)
  · exact State.AbortsStay.refl s

/-- Every domain that an abort event reaches, but one that is being retired, is ABORTED then. -/
theorem State.foldl_abort_state (ls : List Nat) (s : State) (cause : Nat) {k : Nat} (mem : k ∈ ls)
    (idle : (s.dom k).retiring = false) (live : (s.dom k).state.abortable = true) :
    ((ls.foldl (fun s l => s.abort l cause true) s).dom k).state = .aborted := by
  induction ls generalizing s with
  | nil => cases mem
  | cons l ls ih =>
    rw [List.foldl_cons]
    by_cases own : k = l
    · subst own
      exact State.abortsStay_foldl _ (fun s l => s.abortsStay_abort l cause true) ls _ k (State.abort_state_own cause true idle live)
    · obtain ⟨b, kept⟩ := s.abort_core_other cause true own
      have state := Domain.core_state kept
      have retiring := Domain.core_retiring kept
      exact ih _ ((List.mem_cons.1 mem).resolve_left own) (retiring.trans idle) (state ▸ live)

theorem State.abortEvery_state {s : State} {k : Nat} (idle : (s.dom k).retiring = false) (live : (s.dom k).state.abortable = true) :
    (s.abortEvery.dom k).state = .aborted :=
  State.foldl_abort_state _ s 0x0A (State.mem_ldisWith live rfl) idle live

end Sys2Proof.Machine
end

section
/-!
PROOF. Life-cycle commands and the programs of OTP (R315 to R318, R347 to R356, R457).
-/
namespace Sys2Proof.Machine

/-! ### LCS_TRANSITION (R316, R349 to R351) -/

/-- What R316 and R349 to R351 ask of a transition by the authorisation a, whose slot is n. -/
structure Transits (s : State) (c : Cmd) (a : LcsAuth) (n : Nat) : Prop where
  dest : c.p 0 1 ≤ 7
  fits : c.p 4 4 ≤ 16384
  row : s.otp.transition (c.p 0 1) = some a
  form : authParses a (c.p 0 1) (authOf c) = true
  ready : s.lcsReady (c.p 0 1) (authOf c) = true
  signed : s.authOk a (c.p 0 1) (authOf c) = true
  slot : s.otp.freeSlot = some n
  uds : s.otp.lcs = 3 → c.p 0 1 = 4 → s.otp.freeUds ≠ none ∧ s.canReseed = true

theorem transitionBody_of {s : State} {c : Cmd} {a : LcsAuth} {n : Nat} (h : Transits s c a n) :
    transitionBody s c = .wait .otp (.transition (c.p 0 1))
      ((s.lcsPayload (c.p 0 1) (authOf c)).2.beginTransition (c.p 0 1) n (s.lcsPayload (c.p 0 1) (authOf c)).1) := by
  obtain ⟨dest, fits, row, form, ready, signed, slot, uds⟩ := h
  have area : ((s.otp.lcs == lcsDev && c.p 0 1 == lcsProvisioned) && s.otp.freeUds.isNone) = false ∧
      ((s.otp.lcs == lcsDev && c.p 0 1 == lcsProvisioned) && !s.canReseed) = false := by
    by_cases provisions : s.otp.lcs = 3 ∧ c.p 0 1 = 4
    · obtain ⟨free, random⟩ := uds provisions.1 provisions.2
      obtain ⟨at_, held⟩ := Option.ne_none_iff_exists'.1 free
      simp [held, random]
    · have other : (s.otp.lcs == lcsDev && c.p 0 1 == lcsProvisioned) = false := by
        simpa [lcsDev, lcsProvisioned] using provisions
      simp [other]
  simp only [transitionBody, row, Option.getD_some, form, decide_eq_false (Nat.not_lt_of_le dest), decide_eq_false (Nat.not_lt_of_le fits),
    ready, area.1, area.2, signed, slot]
  rfl

/-- A command that passes its checks and whose body waits is suspended. -/
theorem State.runCommand_wait {s v : State} {sp : CmdSpec} {c : Cmd} {w : Wait} {k : Cont}
    (fresh : (s.fetched c).settle.seqCheck c.path c.seq = .fresh) (passes : (s.checked c).firstFailure sp c = none)
    (body : sp.body (s.begun sp c) (c.named ((s.checked c).newJid sp c)) = .wait w k v) :
    (s.fetched c).runCommand sp c = sp.after c (v.suspend ((s.checked c).newJid sp c) w k) := by
  obtain ⟨form, own⟩ := State.firstFailure_none passes
  unfold State.begun at body
  unfold State.checked at form own body
  simp only [State.runCommand, State.inSequence, fresh, form, own, State.runBody, body]
  rfl

/-- In RAW the boot ROM takes a transition from the DEBUG or the MGMT ring. -/
theorem execLcsTransition_raw {s : State} {src : Src} {c : Cmd} (clocked : s.clocked = true) (safe : s.power.fatal = false)
    (up : s.loom.restarting = false) (raw : s.otp.lcs = 0) (stays : s.otp.resetDue = none) (polls : ∃ q, s.boot.phase = .poll q)
    (ring : src = .ring 68 ∨ src = .ring 69) (waits : s.waitingCmd src = some c) (code : c.opcode = 0x0902) :
    exec (.lcsTransition src) s = .next ((s.fetched c).runCommand lcsTransitionSpec c) := by
  obtain ⟨q, phase⟩ := polls
  have serves : s.romServes = true := by
    simp [State.romServes, clocked, safe, up, raw, stays, phase, lcsRaw]
  have from_ : (src == .ring 68 || src == .ring 69) = true := by
    rcases ring with rfl | rfl <;> rfl
  have taken : exec (.lcsTransition src) s = .next (s.runRaw src) := by
    simp only [exec, execLcsTransition, serves, if_true]
  rw [taken]
  simp only [State.runRaw, waits, from_, code, beq_self_eq_true, Bool.and_self, if_true]

/-! ### Programs -/

theorem State.resumeEntry_unlock {s : State} {e : JEntry} {sup : Supply} {d : Nat} (h : e.cont = .unlock d) :
    s.resumeEntry e sup = s.endTransition e d (leBytes 1 s.otp.tokensLeft.length) := by
  simp only [State.resumeEntry, h]

/-- A pump starts a pulse, and programs nothing yet. -/
theorem State.otpPump_kept (s : State) : s.otpPump.otp.words = s.otp.words ∧ s.otpPump.otp.resetDue = s.otp.resetDue := by
  unfold State.otpPump
  split
  · split <;> exact ⟨rfl, rfl⟩
  · exact ⟨rfl, rfl⟩

theorem State.endTransition_resetDue (s : State) (e : JEntry) (dest : Nat) (result : Bytes) :
    (s.endTransition e dest result).otp.resetDue.isSome = true := by
  unfold State.endTransition
  dsimp only
  split
  · exact congrArg Option.isSome (State.otpPump_kept _).2
  · rfl

theorem Otp.program_findD (o : Otp) (w : OtpWrite) :
    (o.program w).words.findD w.addr 0 = o.words.findD w.addr 0 ||| w.bits ∧
      ∀ a, a ≠ w.addr → (o.program w).words.findD a 0 = o.words.findD a 0 :=
  ⟨Map.findD_put_self _ _ _ _, fun _ other => Map.findD_put_other _ _ _ _ other⟩

/-- The pulse has ended, and the next program and the boot go on. -/
def State.pulsed (s : State) (w : OtpWrite) : State :=
  ({ s with otp := { s.otp.program w with busy := none } } : State).otpPump.startIfDue

theorem State.pulsed_words (s : State) (w : OtpWrite) : (s.pulsed w).otp.words = (s.otp.program w).words := by
  unfold State.pulsed
  rw [(State.startIfDue_touches _).otp_eq (by decide)]
  exact (State.otpPump_kept _).1

/-! ### LCS_TOKEN_UNLOCK (R317, R354) -/

theorem unlockBody_match {s : State} {c : Cmd} {i n : Nat} (locked : s.otp.lcs = 1) (left : s.otp.tokensLeft ≠ [])
    (tries : s.otp.mismatches < 3) (matches_ : s.otp.matchToken (c.params.take 32) = some i) (slot : s.otp.freeSlot = some n) :
    unlockBody s c = .wait .otp (.unlock 2) (s.beginTransition 2 n [writeOf 0x1D0 (2 ^ i)]) := by
  simp only [unlockBody, locked, List.isEmpty_eq_false_iff.2 left, if_neg (Nat.not_le_of_lt tries), matches_, slot]
  rfl

theorem unlockBody_mismatch {s : State} {c : Cmd} (locked : s.otp.lcs = 1) (left : s.otp.tokensLeft ≠ [])
    (tries : s.otp.mismatches < 3) (mismatch : s.otp.matchToken (c.params.take 32) = none) :
    unlockBody s c = .done { status := stDenied } { s with otp := { s.otp with mismatches := s.otp.mismatches + 1 } } := by
  simp only [unlockBody, locked, List.isEmpty_eq_false_iff.2 left, if_neg (Nat.not_le_of_lt tries), mismatch]
  rfl

/-! ### LCS_ZEROIZE (R199, R200, R318, R355) -/

/-- Every domain aborted, every SA ended, the keys destroyed, and the entropy source under its test. -/
def State.zeroized (s : State) : State :=
  let t := s.abortEvery.loseEverySa.zeroizeKeys
  { t with otp := { t.otp with zeroizedFlag := true }, entropy := { t.entropy with testing := true, tries := 0 } }

theorem zeroizeBody_of {s : State} {c : Cmd} (magic : c.p 0 4 = 0x4F52455A) :
    lcsZeroizeSpec.body s c = .wait .entropy (.zeroized (s.ldisWith (fun d => d.state.abortable)).length) s.zeroized := by
  show zeroizeBody s c = _
  simp only [zeroizeBody, magic]
  rfl

/-- The keys are gone. -/
theorem State.zeroizeKeys_keys (s : State) : s.zeroizeKeys.keys.slots = [] ∧ s.zeroizeKeys.keys.zeroized = true ∧
    s.zeroizeKeys.entropy.passed = false ∧ (∀ x ∈ s.zeroizeKeys.shuttle.sas, x.2.keys = {}) := by
  unfold State.zeroizeKeys
  dsimp only
  generalize before : State.mk .. = u
  have dropped := u.dropAccepted_touches
  have keys := dropped.keys.resolve_left (by decide)
  have entropy := dropped.entropy_eq (by decide)
  have shuttle := dropped.shuttle.resolve_left (by decide)
  rw [keys, entropy, shuttle, ← before]
  refine ⟨rfl, rfl, rfl, fun x mem => ?_⟩
  obtain ⟨y, _, rfl⟩ := List.mem_map.1 mem
  rfl

theorem State.saKept_zeroizeKeys (s : State) : s.SaKept s.zeroizeKeys := by
  intro p
  unfold State.zeroizeKeys
  dsimp only
  generalize before : State.mk .. = u
  have kept := (u.dropAccepted_touches).saKept (by decide) p
  rw [kept, ← before]
  exact Map.sas_map_state (fun a => { a with keys := {} }) (fun _ => rfl) _ p

theorem State.zeroized_saValid (s : State) (p : Nat) : s.zeroized.saValid p = false :=
  ((State.saKept_zeroizeKeys _).valid p).trans (State.loseEverySa_saValid _ p)

theorem State.zeroized_state {s : State} {l : Nat} (live : (s.dom l).state.abortable = true) (idle : (s.dom l).retiring = false) :
    (s.zeroized.dom l).state = .aborted := by
  have ended : s.abortEvery.AbortsStay s.abortEvery.loseEverySa := State.abortsStay_foldl _ (fun s p => s.abortsStay_loseSa p) _ _
  exact (ended.trans ((State.zeroizeKeys_touches _).abortsStay (by decide))) l (State.abortEvery_state idle live)

/-- What is left of the keys, of the DRBG and of the SAs. -/
theorem State.zeroized_keys (s : State) : s.zeroized.otp.zeroizedFlag = true ∧ s.zeroized.keys.slots = [] ∧
    s.zeroized.keys.zeroized = true ∧ s.zeroized.drbgReady = false ∧ (∀ x ∈ s.zeroized.shuttle.sas, x.2.keys = {}) := by
  obtain ⟨slots, gone, untested, sas⟩ := s.abortEvery.loseEverySa.zeroizeKeys_keys
  refine ⟨rfl, slots, gone, ?_, sas⟩
  unfold State.drbgReady State.zeroized
  dsimp only
  rw [untested]
  rfl

/-- Settles O24: the bodies on what their entries take, the ROM's transition in RAW, and the pulses of the OTP programs. -/
theorem lifecycleCommandsTakeEffect : Obligations.LifecycleCommandsTakeEffect := by
  refine ⟨fun s src c a n t => ⟨?_, ?_, ?_, ?_⟩, fun s src c i n => ⟨?_, ?_, ?_, ?_⟩, fun s w d busy => ⟨?_, ?_⟩⟩
  · intro begins u
    exact ⟨_, completes begins rfl rfl, rfl, rfl, rfl⟩
  · intro u dest low fits row form ready signed slot uds p v
    have body := transitionBody_of (s := u) (c := c.named ((s.checked c).newJid lcsTransitionSpec c))
      ⟨low, fits, row, form, ready, signed, slot, uds⟩
    refine ⟨fun begins => ?_, fun clocked safe up raw stays polls ring waits code fresh passes => ?_⟩
    · exact suspends begins (execLcsTransition_of_fetches begins.fetches) body
    · rw [execLcsTransition_raw clocked safe up raw stays polls ring waits code, State.runCommand_wait fresh passes body]
      rfl
  · intro y e dest sup wakes cont
    exact ⟨(wakes_runs wakes sup).trans (by rw [State.resumeEntry_transition cont]), y.settle.endTransition_resetDue e dest []⟩
  · intro due clocked u
    simp only [exec, execLcsTransitionResetTimer, due]
    exact nextIf_of clocked
  · intro begins u locked left tries
    refine ⟨fun matches_ slot => ?_, fun mismatch => ?_⟩
    · exact suspends begins rfl (unlockBody_match (c := c.named _) locked left tries matches_ slot)
    · exact completes begins rfl (unlockBody_mismatch (c := c.named _) locked left tries mismatch)
  · intro begins u magic
    obtain ⟨flag, slots, gone, random, sas⟩ := u.zeroized_keys
    have body := zeroizeBody_of (s := u) (c := c.named ((s.checked c).newJid lcsZeroizeSpec c)) magic
    exact ⟨u.zeroized, suspends begins rfl body, flag, slots, gone, random, sas, u.zeroized_saValid,
      fun l live idle => State.zeroized_state live idle⟩
  · intro y e dest sup wakes cont
    exact (wakes_runs wakes sup).trans (by rw [State.resumeEntry_unlock cont])
  · intro y e k wakes o cont
    exact ends wakes o (by simp [cont]) fun sup => by simp only [State.resume, cont]; rfl
  · intro stopped
    simp only [exec, execFuRsp, busy, stopped]
    rfl
  · intro clocked
    obtain ⟨own, others⟩ := s.otp.program_findD w
    refine ⟨s.pulsed w, ?_, by rw [s.pulsed_words, own], fun a other => by rw [s.pulsed_words, others a other]⟩
    simp only [exec, execFuRsp, busy]
    exact nextIf_of clocked

end Sys2Proof.Machine
end

section
/-!
PROOF. Migration of a frozen domain (R319 to R322, R339 to R344).
-/
namespace Sys2Proof.Machine

/-! ### MIG_FREEZE (R319, R339) -/

theorem State.migPeer_of {s : State} {dest epoch : Nat} (same : (s.sa dest).peerEpoch = epoch) (valid : s.saValid dest = true)
    (svn : s.boot.fwSvn ≤ (s.sa dest).peerSvn) : s.migPeer dest epoch = stOk := by
  simp [State.migPeer, same, valid, Nat.not_lt_of_le svn]

theorem migFreezeBody_of {s : State} {c : Cmd} (unicast : c.p 0 2 ≠ 0xFFFF) (other : c.p 0 2 ≠ s.boot.devid)
    (thawed : (s.dom c.ldi).frozen = false) (peer : s.migPeer (c.p 0 2) (c.p 8 8) = stOk) :
    migFreezeBody s c = .wait (.inflight c.ldi) (.freezeDrain c.ldi (c.p 0 2) (c.p 8 8)) s := by
  simp [migFreezeBody, unicast, other, thawed, peer]

/-- The slot for KMIG is taken, and a nonce is drawn. -/
def State.freezing (s : State) (e : JEntry) (l slot : Nat) : State :=
  (s.draw.2.setEntry (({ e with lockSlots := [slot] } : JEntry).keep s)).setSlot slot { type := 11, ldi := l, gen := (s.dom l).gen }

theorem State.stepFreezeDrain_of {s : State} {e : JEntry} {l dest epoch slot : Nat} (peer : s.migPeer dest epoch = stOk)
    (random : s.drbgReady = true) (free : s.freePoolSlot l = some slot) :
    let nonce := BitVec.ofNat 256 (leNat (drawBytes s.draw.1 32))
    s.stepFreezeDrain e l dest epoch = .wait (.policy l) (.freezePolicy l dest slot (s.now + 10 * msTicks) nonce)
      ((s.freezing e l slot).sendCtrl dest 0x08 (policyBody (s.dom l).gdid (s.dom l).policy 1 (bvBytes 32 nonce))) := by
  simp only [State.stepFreezeDrain, peer, random, free]
  rfl

theorem State.stepFreezePolicy_of {s : State} {l dest slot : Nat} (agreed : s.migAgreed l dest = true) :
    s.stepFreezePolicy l dest slot = .done {} (s.setDom l { s.dom l with frozen := true }) := by
  simp only [State.stepFreezePolicy, agreed]
  rfl

/-! ### MIG_EXPORT (R320, R340) -/

theorem migExportBody_state {s : State} {c : Cmd} {m : Migration} (mig : (s.dom c.ldi).mig = some m)
    (frozen : (s.dom c.ldi).frozen = true) (open_ : m.stateDone = false) (part : c.p 0 1 = 0) (first : c.p 4 4 = 0) (none_ : c.p 8 4 = 0)
    (room : 80 + (s.stateRecords c.ldi m.nextIndex).length ≤ c.p 24 8) :
    migExportBody s c = s.writePart c.jid c.path c.ldi m 0 ((s.stateRecords c.ldi m.nextIndex).length / 32) 0 (c.p 16 8)
      (s.stateRecords c.ldi m.nextIndex) := by
  simp only [migExportBody, mig, frozen, open_, part, first, none_]
  exact if_neg (Nat.not_lt_of_le room)

theorem migExportBody_granules {s : State} {c : Cmd} {m : Migration} (mig : (s.dom c.ldi).mig = some m)
    (frozen : (s.dom c.ldi).frozen = true) (open_ : m.stateDone = false) (part : c.p 0 1 = 1) (some_ : 1 ≤ c.p 8 4)
    (few : c.p 8 4 ≤ 4096) (below : c.p 4 4 + c.p 8 4 ≤ granuleTop) (room : 80 + 65536 * c.p 8 4 ≤ c.p 24 8)
    (ours : ∀ g ∈ span (c.p 4 4) (c.p 8 4), s.owns c.ldi g = true) :
    ∃ v, migExportBody s c = .wait .scan (.export_ c.ldi (c.p 4 4) (c.p 8 4) (c.p 16 8) m.nextIndex m.slot) v := by
  have all_ : (span (c.p 4 4) (c.p 8 4)).all (s.owns c.ldi) = true := List.all_eq_true.2 ours
  simp only [migExportBody, mig, frozen, open_, part, beq_eq_false_iff_ne.2 (Nat.one_le_iff_ne_zero.1 some_),
    decide_eq_false (Nat.not_lt_of_le few), decide_eq_false (Nat.not_lt_of_le below), all_]
  exact ⟨_, if_neg (Nat.not_lt_of_le room)⟩

/-- A pass that has reached its end, and whose lines are all back. -/
structure Scan.AtEnd (s : State) (jid : Nat) (x : Scan) : Prop where
  held : s.scan jid = some x
  idle : x.out = false
  good : x.status = stOk
  ended : x.stop ≤ x.next

theorem State.stepExport_ended {s : State} {e : JEntry} {l first n dst k slot : Nat} {m : Migration} {x : Scan}
    (h : x.AtEnd s e.jid) (kind : x.kind = .export_) (outs : x.outs = []) (clean : x.failed = 0) :
    let v := (s.bindScan x).drainInteg.endScan x
    (v.dom l).mig = some m → s.stepExport e l first n dst k slot = v.writePart e.jid e.path l m 1 n first dst x.data := by
  intro v mig
  obtain ⟨held, idle, good, ended⟩ := h
  have passed : s.scanEnded x = true := by simp [State.scanEnded, State.scanPassed, idle, outs, kind, ended]
  have final : x.final = stOk := by simp [Scan.final, good, clean]
  simp only [State.stepExport, State.runScan_ended _ held idle ended, held, passed, final]
  have branch : (((s.bindScan x).drainInteg.endScan x).dom l).mig = some m := mig
  simp [branch, v]

theorem State.stepExportWrite_of {s : State} {l kind : Nat} {res : Bytes} {m : Migration} (mig : (s.dom l).mig = some m) :
    s.stepExportWrite l kind res false = .done { result := res }
      (s.setDom l { s.dom l with mig := some { m with nextIndex := m.nextIndex + 1, stateDone := kind == 0 } }) ∧
    s.stepExportWrite l kind res true = .done { status := stIntegrity, result := res } s := by
  constructor
  · simp only [State.stepExportWrite, mig]
    rfl
  · simp only [State.stepExportWrite, mig]
    rfl

/-! ### MIG_IMPORT (R321, R341) -/

theorem migImportBody_of {s : State} {c : Cmd} {m : Migration} (mig : (s.dom c.ldi).mig = some m) (target : m.source = false)
    (long : 80 ≤ c.p 8 8) (short : c.p 8 8 ≤ 80 + 65536 * 4096) :
    migImportBody s c = .wait .dma (.importPart c.ldi (c.p 0 8) (c.p 8 8) []) (s.dmaRead c.jid c.path (c.p 0 8) 64) := by
  have migIn : s.migIn c.ldi = some m := by simp [State.migIn, mig, target]
  simp only [migImportBody, migIn, decide_eq_false (Nat.not_lt_of_le long), decide_eq_false (Nat.not_lt_of_le short)]
  rfl

/-- A granule part is taken: its granules are owned, and it counts. -/
def State.partTaken (s : State) (l : Nat) (got : Bytes) (m : Migration) (x : Scan) : State :=
  let t := (s.endScan x).ownAll (span (fieldAt got 24 4) (fieldAt got 20 4))
  t.setDom l { t.dom l with mig := some { m with imported := m.imported ++ [fieldAt got 8 4] } }

theorem State.partTaken_mig (s : State) (l : Nat) (got : Bytes) (m : Migration) (x : Scan) :
    ((s.partTaken l got m x).dom l).mig = some { m with imported := m.imported ++ [fieldAt got 8 4] } :=
  congrArg Domain.mig (State.setDom_dom _ _ _)

theorem State.stepMigImport_ended {s : State} {e : JEntry} {l a len : Nat} {got : Bytes} {m : Migration} {x : Scan} {sup : Supply}
    (mig : s.migIn l = some m) (h : x.AtEnd s e.jid) (live : s.scanDead x = false) (fine : sup.dmaErr = false)
    (header : 64 ≤ got.length) (full : got.length = len) (tag : s.partTag m.slot got = true) :
    s.stepMigImport e l a len got sup = .done { result := importReply x.count (fieldAt got 8 4) } (s.partTaken l got m x) := by
  obtain ⟨held, idle, good, ended⟩ := h
  have last : (decide (x.next < x.stop) || decide (got.length < len)) = false := by simp [ended, full]
  have there : (if decide (64 ≤ got.length) = true then len else 64) = len := by simp [header]
  simp only [State.stepMigImport, mig, held, there, takeDma_full fine full, State.runScan_ended _ held idle ended, Option.getD_some,
    State.stepPart, idle, live, good, fine, tag, last]
  rfl

/-! ### MIG_THAW (R322, R343) -/

theorem State.endMigration_dom (s : State) (l : Nat) : (s.endMigration l).dom l = { s.dom l with mig := none, frozen := false } :=
  State.setDom_dom _ _ _

theorem migThawBody_source {s : State} {c : Cmd} {m : Migration} (mig : (s.dom c.ldi).mig = some m) (source : m.source = true) :
    migThawBody s c = .done { result := leBytes 4 m.nextIndex } (s.endMigration c.ldi) := by
  simp [migThawBody, mig, source, Res.ok]

theorem migThawBody_target {s : State} {c : Cmd} {m : Migration} {x : MigState} (mig : (s.dom c.ldi).mig = some m)
    (target : m.source = false) (whole : m.complete = some x) :
    migThawBody s c = .done { result := leBytes 4 m.imported.length } ((s.applyState c.ldi x).endMigration c.ldi) := by
  simp [migThawBody, mig, target, whole, Res.ok]

/-- Settles O25: each phase's body or next steps. -/
theorem migrationCommandsTakeEffect : Obligations.MigrationCommandsTakeEffect := by
  refine ⟨fun s src c l dest slot d n e => ⟨?_, ?_, ?_, ?_⟩, fun s src c m x => ⟨?_, ?_, ?_, ?_, ?_, ?_⟩⟩
  · intro begins u peer unicast other thawed epoch valid svn
    exact suspends begins rfl (migFreezeBody_of (c := c.named _) unicast other thawed (State.migPeer_of epoch valid svn))
  · intro wakes o cont u nonce peer random free
    refine ⟨u.freezing e l slot, State.setSlot_keySlot _ _ _, rfl, fun sup => exec_suspended wakes o (by simp [cont]) ?_⟩
    simp only [State.resume, cont]
    exact State.stepFreezeDrain_of peer random free
  · intro wakes o cont agreed
    exact ends wakes o (by simp [cont]) fun sup => by
      simp only [State.resume, cont]
      exact State.stepFreezePolicy_of agreed
  · intro waits at_ up live
    simp only [exec, execMigFreezeAnswerTimeout, waits, at_]
    exact nextIf_of (by simp [up, live])
  · intro begins u mig frozen open_
    refine ⟨?_, fun part some_ few below room ours => ?_⟩
    · intro part first none_ plain room sealed
      have body := migExportBody_state (s := u) (c := c.named ((s.checked c).newJid migExportSpec c)) mig frozen open_ part first none_ room
      exact suspends begins rfl body
    · obtain ⟨v, body⟩ := migExportBody_granules (s := u) (c := c.named ((s.checked c).newJid migExportSpec c)) mig frozen open_ part
        some_ few below room ours
      exact ⟨v, suspends begins rfl body⟩
  · intro begins u mig target long short
    exact suspends begins rfl (migImportBody_of (c := c.named _) mig target long short)
  · intro t e l first k dst i slot y wakes o cont u v held kind idle outs good clean ended mig part sup
    refine exec_suspended wakes o (by simp [cont]) ?_
    simp only [State.resume, cont]
    exact State.stepExport_ended ⟨held, idle, good, ended⟩ kind outs clean mig
  · intro t e l kind res sup wakes o cont mig
    obtain ⟨written, failed⟩ := State.stepExportWrite_of (kind := kind) (res := res) mig
    refine ⟨fun fine => ?_, fun err => ?_⟩
    · exact exec_resumed wakes o (by simp [cont]) (by simp only [State.resume, cont, fine, written])
    · exact exec_resumed wakes o (by simp [cont]) (by simp only [State.resume, cont, err, failed])
  · intro t e l a len got y sup wakes o cont u mig held idle good ended live fine header full tag
    have step := State.stepMigImport_ended (a := a) mig ⟨held, idle, good, ended⟩ live fine header full tag
    exact ⟨_, exec_resumed wakes o (by simp [cont]) (by simp only [State.resume, cont]; exact step), u.partTaken_mig l got m y⟩
  · intro begins u mig
    refine ⟨fun source => ?_, fun target whole => ?_⟩
    · have body := migThawBody_source (s := u) (c := c.named ((s.checked c).newJid migThawSpec c)) mig source
      have record := u.endMigration_dom c.ldi
      exact ⟨u.endMigration c.ldi, completes begins rfl body, by rw [record], by rw [record], by rw [record]⟩
    · have record := (u.applyState c.ldi x).endMigration_dom c.ldi
      exact ⟨_, completes begins rfl (migThawBody_target (c := c.named _) mig target whole), congrArg Domain.mig record,
        congrArg Domain.frozen record⟩

end Sys2Proof.Machine
end

section
/-!
PROOF. Spindle streams, sensor status, the error log and the crash dump (R172, R176, R323 to R326, R328).
-/
namespace Sys2Proof.Machine

/-! ### Streams (R172, R176, R323) -/

/-- The first stream of a job brings its seed and K_SP. -/
def State.jobBegun (s : State) (l : Nat) (seed : BitVec 128) : State :=
  if (s.streamsOf l).isEmpty then
    (s.setDom l { s.dom l with jobSeed := some seed }).setFixed l 4 5 (keyOf (kdf (bvBytes 16 seed) "CTC3-SPINDLE" [] 256))
  else s

/-- A stream that has pulled nothing stands open. -/
def State.streamAdded (s : State) (l id : Nat) : State :=
  { s with spindle := { s.spindle with streams := s.spindle.streams ++ [{ stream := id, ldi := l }] } }

/-- What R172 asks of a new stream. -/
structure OpensStream (s : State) (c : Cmd) : Prop where
  hub : s.build.pool = false
  seed : s.streamsOf c.ldi = [] ∧ (s.dom c.ldi).reservedStreams = [] ∨ (s.dom c.ldi).seed = some (BitVec.ofNat 128 (c.p 0 16))
  fresh : ∀ y ∈ s.streamsOf c.ldi, y.stream ≠ c.p 16 4
  unreserved : c.p 16 4 ∉ (s.dom c.ldi).reservedStreams
  entries : s.streamEntries < 4096
  places : (s.streamsOf c.ldi).length + (s.dom c.ldi).reservedStreams.length < 256

theorem streamOpenBody_of {s : State} {c : Cmd} (h : OpensStream s c) :
    streamOpenBody s c = .done {} ((s.jobBegun c.ldi (BitVec.ofNat 128 (c.p 0 16))).streamAdded c.ldi (c.p 16 4)) := by
  obtain ⟨hub, seed, fresh, unreserved, entries, places⟩ := h
  have agreed : (!((s.streamsOf c.ldi).isEmpty && (s.dom c.ldi).reservedStreams.isEmpty)
      && (s.dom c.ldi).seed != some (BitVec.ofNat 128 (c.p 0 16))) = false := by
    rcases seed with ⟨none_, kept⟩ | same
    · simp [none_, kept]
    · simp [same]
  have new_ : ((s.streamsOf c.ldi).any (fun x => x.stream == c.p 16 4) || (s.dom c.ldi).reservedStreams.contains (c.p 16 4)) = false := by
    simpa [unreserved] using fresh
  simp only [streamOpenBody, hub, agreed, new_, decide_eq_false (Nat.not_le_of_lt entries), decide_eq_false (Nat.not_le_of_lt places)]
  rfl

theorem State.jobBegun_streams (s : State) (l : Nat) (seed : BitVec 128) : (s.jobBegun l seed).spindle.streams = s.spindle.streams := by
  unfold State.jobBegun
  split
  · rw [(State.setFixed_touches _ _ _ _ _).spindle.resolve_left (by decide)]
    rfl
  · rfl

theorem State.jobBegun_seed {s : State} {l : Nat} (seed : BitVec 128) (first : s.streamsOf l = []) :
    ((s.jobBegun l seed).dom l).jobSeed = some seed := by
  unfold State.jobBegun
  rw [first]
  exact congrArg Domain.jobSeed (State.setDom_dom s l _)

/-- The stream is gone. -/
def State.streamClosed (s : State) (l : Nat) (x : Stream) : State :=
  { s with spindle := { s.spindle with streams := s.spindle.streams.filter (fun y => !(y.ldi == l && y.stream == x.stream)) } }

theorem streamCloseBody_of {s : State} {c : Cmd} {x : Stream} (held : s.stream c.ldi (c.p 0 4) = some x) :
    streamCloseBody s c =
      if (s.streamClosed c.ldi x).streamsOf c.ldi ≠ [] then .done { result := leBytes 8 x.pulled } (s.streamClosed c.ldi x)
      else if (s.streamClosed c.ldi x).pulling c.ldi = true then
        .wait (.pulls c.ldi) (.streamClose c.ldi x.pulled) (s.streamClosed c.ldi x)
      else .done { result := leBytes 8 x.pulled } ((s.streamClosed c.ldi x).endJob c.ldi) := by
  have shown : streamCloseBody s c =
      if (!((s.streamClosed c.ldi x).streamsOf c.ldi).isEmpty) = true then .done { result := leBytes 8 x.pulled } (s.streamClosed c.ldi x)
      else if (s.streamClosed c.ldi x).pulling c.ldi = true then
        .wait (.pulls c.ldi) (.streamClose c.ldi x.pulled) (s.streamClosed c.ldi x)
      else .done { result := leBytes 8 x.pulled } ((s.streamClosed c.ldi x).endJob c.ldi) := by
    simp only [streamCloseBody, held]
    rfl
  rw [shown]
  cases (s.streamClosed c.ldi x).streamsOf c.ldi <;> rfl

theorem State.endJob_gone (s : State) (l : Nat) : ((s.endJob l).dom l).jobSeed = none ∧ ((s.endJob l).keySlot (8 * l + 4)).type = 0 :=
  ⟨congrArg Domain.jobSeed (State.setDom_dom s l _), congrArg KeySlot.type (State.clearSlot_keySlot _ _)⟩

/-! ### Sensors (R324, R325) -/

/-- A count at a reply's front is read off there. -/
theorem leBytes_take_front (n v : Nat) (a b : Bytes) : (leBytes n v ++ a ++ b).take n = leBytes n v := by
  rw [List.append_assoc]
  exact List.take_left' (leBytes_length n v)

theorem sensorStatusBody_of {s : State} {c : Cmd} (some_ : 1 ≤ c.p 2 2) (fits : c.p 2 2 ≤ 1024) :
    ∃ r, sensorStatusBody s c = .done r s ∧ r.status = stOk ∧
      r.ext = (((s.sensorList c).take (c.p 2 2)).map s.sensorRecord).flatten ∧
      r.result.take 4 = leBytes 4 ((s.sensorList c).take (c.p 2 2)).length := by
  simp only [sensorStatusBody, beq_eq_false_iff_ne.2 (Nat.one_le_iff_ne_zero.1 some_), decide_eq_false (Nat.not_lt_of_le fits)]
  exact ⟨_, rfl, rfl, rfl, leBytes_take_front 4 _ _ _⟩

theorem calWindowBody_open {s : State} {c : Cmd} (act : c.p 0 1 = 1) (closed : s.baro.window = none) (some_ : 1 ≤ c.p 2 2)
    (fits : c.p 2 2 ≤ 60000) :
    calWindowBody s c = .done { result := leBytes 4 (s.openWindow (c.p 2 2)).calBins ++ leBytes 4 (s.openWindow (c.p 2 2)).uncalBins }
      (s.openWindow (c.p 2 2)) := by
  simp only [calWindowBody, act, closed, beq_eq_false_iff_ne.2 (Nat.one_le_iff_ne_zero.1 some_), decide_eq_false (Nat.not_lt_of_le fits)]
  rfl

theorem calWindowBody_close {s : State} {c : Cmd} (act : c.p 0 1 = 0) (without : c.p 2 2 = 0) (open_ : s.baro.window ≠ none) :
    calWindowBody s c = .done { result := leBytes 4 s.closeWindow.calBins ++ leBytes 4 s.closeWindow.uncalBins } s.closeWindow := by
  obtain ⟨at_, stands⟩ := Option.ne_none_iff_exists'.1 open_
  simp only [calWindowBody, act, without, stands]
  rfl

theorem State.windowRecord_baro (s : State) (n : Nat) : (s.windowRecord n).baro = s.baro :=
  (s.windowRecord_touches n).baro.resolve_left (by decide)

theorem State.openWindow_baro (s : State) (ms : Nat) :
    (s.openWindow ms).baro = { s.baro with window := some (s.now + ms * msTicks), held := s.baro.sensors } :=
  State.windowRecord_baro _ 3

theorem State.closeWindow_window (s : State) : s.closeWindow.baro.window = none :=
  congrArg Baro.window (State.windowRecord_baro _ 4)

/-! ### The error log and the crash dump (R326, R328) -/

theorem logReadBody_of {s : State} {c : Cmd} (some_ : 1 ≤ c.p 8 2) (fits : c.p 8 2 ≤ 1024) :
    ∃ r, logReadBody s c = .done r s ∧ r.status = stOk ∧ r.ext = ((s.logFrom (c.p 0 8)).take (c.p 8 2)).flatten := by
  simp only [logReadBody, beq_eq_false_iff_ne.2 (Nat.one_le_iff_ne_zero.1 some_), decide_eq_false (Nat.not_lt_of_le fits)]
  exact ⟨_, rfl, rfl, List.flatMap_id⟩

/-- What R328 asks of a piece of the dump. -/
structure ReadsDump (c : Cmd) : Prop where
  offset : c.p 0 4 % 64 = 0
  whole : c.p 4 4 % 64 = 0
  some_ : 1 ≤ c.p 4 4
  few : c.p 4 4 ≤ 65536
  below : c.p 0 4 + c.p 4 4 ≤ dumpSize

/-- The dump is marked read where the piece ends it. -/
def State.dumpRead (s : State) (c : Cmd) (d : Dump) : State :=
  { s with loom := { s.loom with dump := some { d with readEnd := d.readEnd || c.p 0 4 + c.p 4 4 == dumpSize } } }

theorem dumpReadBody_of {s : State} {c : Cmd} (h : ReadsDump c) :
    dumpReadBody s c = match s.loom.dump with
      | some d => .done
          { result := leBytes 1 1 ++ leBytes 3 0 ++ leBytes 4 dumpSize ++ timeBytes d.time,
            ext := (span (c.p 0 4 / 8) (c.p 4 4 / 8)).flatMap d.word } (s.dumpRead c d)
      | none => .done { result := leBytes 20 0, ext := List.replicate (c.p 4 4) 0 } s := by
  obtain ⟨offset, whole, some_, few, below⟩ := h
  have inside : ¬ dumpSize ≤ c.p 0 4 := by omega
  simp only [dumpReadBody, offset, whole, beq_eq_false_iff_ne.2 (Nat.one_le_iff_ne_zero.1 some_), decide_eq_false (Nat.not_lt_of_le few),
    decide_eq_false (Nat.not_lt_of_le below), decide_eq_false inside]
  rfl

theorem dumpReadBody_none {s : State} {c : Cmd} (h : ReadsDump c) (without : s.loom.dump = none) :
    dumpReadBody s c = .done { result := leBytes 20 0, ext := List.replicate (c.p 4 4) 0 } s := by
  rw [dumpReadBody_of h, without]

theorem dumpReadBody_some {s : State} {c : Cmd} {d : Dump} (h : ReadsDump c) (held : s.loom.dump = some d) :
    dumpReadBody s c = .done { result := leBytes 1 1 ++ leBytes 3 0 ++ leBytes 4 dumpSize ++ timeBytes d.time,
                               ext := (span (c.p 0 4 / 8) (c.p 4 4 / 8)).flatMap d.word } (s.dumpRead c d) := by
  rw [dumpReadBody_of h, held]

/-- Settles O26: each body on what its entry takes. -/
theorem maintenanceCommandsTakeEffect : Obligations.MaintenanceCommandsTakeEffect := by
  refine ⟨fun s src c x => ⟨?_, ?_, ?_⟩, fun s src c => ⟨?_, ?_⟩, fun s src c d => ⟨?_, ?_⟩⟩
  · intro begins u seed kept hub agreed fresh unreserved entries places
    have body := streamOpenBody_of (s := u) (c := c.named ((s.checked c).newJid spnStreamOpenSpec c))
      ⟨hub, agreed, fresh, unreserved, entries, places⟩
    exact ⟨(u.jobBegun c.ldi seed).streamAdded c.ldi (c.p 16 4), completes begins rfl body,
      congrArg (· ++ [_]) (u.jobBegun_streams c.ldi seed), fun first => State.jobBegun_seed seed first⟩
  · intro begins u v held
    have body := streamCloseBody_of (s := u) (c := c.named ((s.checked c).newJid spnStreamCloseSpec c)) held
    refine ⟨fun others => ?_, fun last pulling => ?_, fun last idle => ?_⟩
    · exact completes begins rfl (body.trans (if_pos others))
    · exact suspends begins rfl (body.trans ((if_neg (not_not.2 last)).trans (if_pos pulling)))
    · exact completes begins rfl (body.trans ((if_neg (not_not.2 last)).trans (if_neg (Bool.eq_false_iff.1 idle))))
  · intro t e l n wakes o cont
    obtain ⟨seed, slot⟩ := t.settle.endJob_gone l
    exact ⟨ends wakes o (by simp [cont]) fun sup => by simp only [State.resume, cont]; rfl, seed, slot⟩
  · intro begins u some_ fits l
    obtain ⟨r, body, status, ext, head⟩ :=
      sensorStatusBody_of (s := u) (c := c.named ((s.checked c).newJid snsStatusSpec c)) some_ fits
    exact ⟨r, completes begins rfl body, status, ext, head⟩
  · intro begins u
    refine ⟨fun act closed some_ fits => ?_, fun act without open_ => ?_⟩
    · have body := calWindowBody_open (s := u) (c := c.named ((s.checked c).newJid snsCalWindowSpec c)) act closed some_ fits
      have baro := u.openWindow_baro (c.p 2 2)
      exact ⟨u.openWindow (c.p 2 2), completes begins rfl body, by rw [baro], by rw [baro]⟩
    · have body := calWindowBody_close (s := u) (c := c.named ((s.checked c).newJid snsCalWindowSpec c)) act without open_
      exact ⟨u.closeWindow, completes begins rfl body, State.closeWindow_window u⟩
  · intro begins u some_ fits
    obtain ⟨r, body, status, ext⟩ := logReadBody_of (s := u) (c := c.named ((s.checked c).newJid rcvLogReadSpec c)) some_ fits
    exact ⟨r, completes begins rfl body, status, ext⟩
  · intro begins u offset whole some_ few below
    have reads : ReadsDump (c.named ((s.checked c).newJid rcvDumpReadSpec c)) := ⟨offset, whole, some_, few, below⟩
    refine ⟨fun without => ?_, fun held => ?_⟩
    · exact completes begins rfl (dumpReadBody_none reads without)
    · exact ⟨_, _, completes begins rfl (dumpReadBody_some reads held), rfl, rfl⟩

end Sys2Proof.Machine
end

section
/-!
PROOF. Writes of RING_TAIL (R464, R467, R468).
-/
namespace Sys2Proof.Machine

/-- The three conditions of R467, as the model's test says them. -/
theorem Ring.takesTail_iff (r : Ring) (closed : Bool) (v : Nat) : r.takesTail closed v = true ↔
    1 ≤ (v + 2 ^ 32 - r.tail) % 2 ^ 32 ∧ (v + 2 ^ 32 - r.tail) % 2 ^ 32 ≤ 16 ∧ (v + 2 ^ 32 - r.reply) % 2 ^ 32 ≤ 16 ∧ closed = false := by
  simp [Ring.takesTail, and_assoc]

/-- A write that moves the ring, where the ring takes it. -/
theorem State.applyTail_of {s : State} {i v : Nat} (takes : (s.ring i).takesTail (s.ringClosed i) v = true) :
    s.applyTail i v = s.setRing i { s.ring i with tail := v, heldTail := none } := by
  have test : (s.loom.rings.findD i {}).takesTail (s.ringClosed i) v = true := takes
  unfold State.applyTail Ring.writeTail
  simp only [test, Bool.not_true, Bool.false_eq_true, if_false, if_true]
  rfl

theorem State.applyTail_refused {s : State} {i v : Nat} (refuses : (s.ring i).takesTail (s.ringClosed i) v = false) :
    (s.applyTail i v).ring i = { s.ring i with badTail := true, heldTail := none } ∧
      (s.applyTail i v).counters.refused = s.counters.refused + 1 := by
  have test : (s.loom.rings.findD i {}).takesTail (s.ringClosed i) v = false := refuses
  unfold State.applyTail Ring.writeTail
  simp only [test, Bool.not_false, Bool.false_eq_true, if_false, if_true]
  exact ⟨Map.findD_put_self _ _ _ _, trivial⟩

/-- A row of a register that its path takes writes it, and answers. -/
theorem execRingTailWrite_of {s : State} {w : RegWrite} {i : Nat} (takes : s.takesOn w.path = true)
    (kind : writeKind w = some (.tail i)) : exec (.ringTailWrite w) s = .next ((s.tailWrite w i).answered w) := by
  simp only [exec, execRingTailWrite, kind]
  exact nextIf_of takes

theorem State.tailWrite_of {s : State} {w : RegWrite} {i : Nat} (other : writesMgmt w = false)
    (strobed : (writeMask w).toNat % 2 ^ 32 ≠ 0) :
    s.tailWrite w i = if s.holdsTail i then s.setRing i { s.ring i with heldTail := some (writeOnto w (s.ring i).tail % 2 ^ 32) }
      else (s.applyTail i (writeOnto w (s.ring i).tail % 2 ^ 32)).drainTurns := by
  simp only [State.tailWrite, other, beq_eq_false_iff_ne.2 strobed, Bool.false_eq_true, if_false]

/-- Settles O28: a held write waits, one under the three conditions moves TAIL, any other sets BADTAIL. -/
theorem ringTailWrites : Obligations.RingTailWrites := by
  intro s w i takes kind other strobed r v step open_
  rw [execRingTailWrite_of takes kind, State.tailWrite_of other strobed]
  refine ⟨fun held => ?_, fun free moves => ?_, fun free stays => ?_⟩
  · rw [if_pos held]
  · rw [if_neg (Bool.eq_false_iff.1 free), State.applyTail_of ((Ring.takesTail_iff _ _ _).2 moves)]
  · obtain ⟨ring, refused⟩ := State.applyTail_refused (s := s) (i := i) (v := v)
      (Bool.eq_false_iff.2 fun takes => stays ((Ring.takesTail_iff _ _ _).1 takes))
    exact ⟨_, by rw [if_neg (Bool.eq_false_iff.1 free)], ring, refused⟩

end Sys2Proof.Machine
end

section
/-!
PROOF. The other register rows (R431, R454, R463, R466, R469 to R471, R475, R476).
-/
namespace Sys2Proof.Machine

/-! ### The bits of a write -/

/-- A bit of a register after a write: the strobed bytes are written, the others stay. -/
theorem writeOnto_bit (w : RegWrite) (old : BitVec 13) (b : Nat) (low : b < 13) :
    (BitVec.ofNat 13 (writeOnto w old.toNat)).getLsbD b = if (writeMask w).getLsbD b then w.data.getLsbD b else old.getLsbD b := by
  have wide : b < 64 := by omega
  have same : (BitVec.ofNat 64 old.toNat).getLsbD b = old.getLsbD b := by
    rw [BitVec.getLsbD_ofNat, decide_eq_true wide, Bool.true_and]
    rfl
  unfold writeOnto writeClears
  rw [BitVec.getLsbD_ofNat]
  simp only [low, decide_true, Bool.true_and]
  rw [← BitVec.getLsbD]
  simp only [BitVec.getLsbD_or, BitVec.getLsbD_and, BitVec.getLsbD_not, same, wide, decide_true, Bool.true_and]
  cases (writeMask w).getLsbD b <;> simp

/-- A bit of the events after the written ones are cleared. -/
theorem cleared_bit (old : BitVec 13) (gone : BitVec 64) (b : Nat) (low : b < 13) :
    (old &&& ~~~(gone.setWidth 13)).getLsbD b = (old.getLsbD b && !gone.getLsbD b) := by
  simp [low]

/-- The same of a map's register k. -/
theorem cleared_map_bit (old : BitVec 256) (gone : BitVec 64) (k b : Nat) (low : b < 256) :
    (old &&& ~~~((gone.setWidth 256) <<< (64 * k))).getLsbD b =
      (old.getLsbD b && !(decide (b / 64 = k) && gone.getLsbD (b % 64))) := by
  have shifted : ((gone.setWidth 256) <<< (64 * k)).getLsbD b = (decide (b / 64 = k) && gone.getLsbD (b % 64)) := by
    simp only [BitVec.getLsbD_shiftLeft, low, decide_true, Bool.true_and, BitVec.getLsbD_setWidth]
    by_cases below : b < 64 * k
    · have other : b / 64 ≠ k := by omega
      simp [below, other]
    · by_cases own : b / 64 = k
      · have offset : b - 64 * k = b % 64 := by omega
        have inside : b % 64 < 256 := by omega
        simp [below, own, offset, inside]
      · have beyond : 64 ≤ b - 64 * k := by omega
        simp [below, own, BitVec.getLsbD_of_ge _ _ beyond]
  simp only [BitVec.getLsbD_and, BitVec.getLsbD_not, low, decide_true, Bool.true_and, shifted]

/-! ### The mailbox window -/

/-- Bytes written one by one at rising places. -/
theorem State.mailbox_foldl_read (f : Nat → Option Byte) (off : Nat) (s : State) (wf : Memory.wf s.mailbox = true) (n : Nat) :
    let t := ((List.range n).filterMap fun i => (f i).map fun v => (i, v)).foldl (fun s b => s.mboxWrite (off + b.1) [b.2]) s
    Memory.wf t.mailbox = true ∧
      ∀ b, Memory.read t.mailbox b = if off ≤ b ∧ b < off + n then (f (b - off)).getD (Memory.read s.mailbox b)
        else Memory.read s.mailbox b := by
  induction n with
  | zero => exact ⟨wf, fun b => by simp⟩
  | succ n ih =>
    obtain ⟨wf_n, read_n⟩ := ih
    simp only [List.range_succ, List.filterMap_append, List.foldl_append]
    cases last : f n with
    | none =>
      refine ⟨by simpa [last] using wf_n, fun b => ?_⟩
      simp only [List.filterMap_cons, last, Option.map_none, List.filterMap_nil, List.foldl_nil, read_n b]
      by_cases own : b = off + n
      · subst own
        simp [last]
      · have same : (off ≤ b ∧ b < off + (n + 1)) ↔ (off ≤ b ∧ b < off + n) := by omega
        simp only [same]
    | some v =>
      simp only [List.filterMap_cons, last, Option.map_some, List.filterMap_nil, List.foldl_cons, List.foldl_nil]
      refine ⟨Memory.wf_writeBytes _ wf_n _, fun b => ?_⟩
      refine (Memory.read_writeBytes [v] wf_n (off + n) b).trans ?_
      by_cases own : b = off + n
      · subst own
        simp [last]
      · have out : ¬ (off + n ≤ b ∧ b < off + n + [v].length) := by
          simp only [List.length_singleton]
          omega
        have same : (off ≤ b ∧ b < off + (n + 1)) ↔ (off ≤ b ∧ b < off + n) := by omega
        rw [if_neg out, read_n b]
        simp only [same]

/-- A strobed byte of a write. -/
def writtenByte (w : RegWrite) (i : Nat) : Option Byte :=
  if w.strb.getLsbD i then some (BitVec.ofNat 8 (w.data.toNat / 2 ^ (8 * i))) else none

theorem State.mailboxWrite_read {s : State} {w : RegWrite} {off : Nat} (writable : mailboxWritable off = true)
    (wf : Memory.wf s.mailbox = true) (b : Nat) : Memory.read (s.mailboxWrite w off).mailbox b =
      if off ≤ b ∧ b < off + 8 ∧ w.strb.getLsbD (b - off) = true then BitVec.ofNat 8 (w.data.toNat / 2 ^ (8 * (b - off)))
      else Memory.read s.mailbox b := by
  have bytes : writtenBytes w = (List.range 8).filterMap fun i => (writtenByte w i).map fun v => (i, v) := by
    unfold writtenBytes writtenByte
    congr 1
    funext i
    split <;> rfl
  have read := (State.mailbox_foldl_read (writtenByte w) off s wf 8).2 b
  unfold State.mailboxWrite
  rw [if_pos writable, bytes, read]
  by_cases inside : off ≤ b ∧ b < off + 8
  · cases strobed : w.strb.getLsbD (b - off) <;> simp [inside, writtenByte, strobed]
  · have out : ¬ (off ≤ b ∧ b < off + 8 ∧ w.strb.getLsbD (b - off) = true) := fun h => inside ⟨h.1, h.2.1⟩
    rw [if_neg inside, if_neg out]

/-! ### Reads -/

theorem State.answerOn_eq (s : State) (p : RegPath) (v : BitVec 64) :
    s.answerOn p v = s.emit (if p = .dbg then .dbgRsp v else .cpRsp v) := by
  cases p <;> rfl

theorem execDbgArrDataRead_of {s : State} {path : RegPath} {a : Nat} (takes : s.takesOn path = true) :
    exec (.dbgArrDataRead path a) s = .next ((s.busRead path a).2.answerOn path (s.busRead path a).1) := by
  simp only [exec, execDbgArrDataRead]
  exact nextIf_of takes

theorem State.busRead_array {s : State} {path : RegPath} {a : Nat} (at_ : pathTarget path a = some 0x102008)
    (right : s.right 5 = true) : s.busRead path a = (s.arrData, s.arrAdvance) := by
  have open_ : s.right rightArray = true := right
  simp only [State.busRead, at_, State.regRead, beq_self_eq_true, if_true, State.arrRead, open_]

theorem State.busRead_map {s : State} {path : RegPath} {a off : Nat} (at_ : pathTarget path a = some off) (other : off ≠ 0x102008)
    (allowed : s.debugDenied off = false) : s.busRead path a = (s.mapWord off, s) := by
  simp only [State.busRead, at_, State.regRead, beq_eq_false_iff_ne.2 other, Bool.false_eq_true, if_false, allowed]

theorem State.busRead_out {s : State} {path : RegPath} {a : Nat} (out : pathTarget path a = none) :
    s.busRead path a = (0, s.countRefused) := by
  simp only [State.busRead, out]

/-! ### DEVID and the core registers -/

theorem State.devidWrite_of {s : State} {w : RegWrite} (strobed : (writeMask w).toNat % 65536 ≠ 0) :
    s.devidWrite w = if s.boot.devidSet = true ∨ writeOnto w s.boot.devid % 65536 = 0xFFFF then s.countRefused
      else { s with boot := { s.boot with devid := writeOnto w s.boot.devid % 65536, devidSet := true } } := by
  simp only [State.devidWrite, beq_eq_false_iff_ne.2 strobed, Bool.false_eq_true, if_false, Bool.or_eq_true, beq_iff_eq]

theorem execCtcDevidWrite_of {s : State} {w : RegWrite} (takes : s.takesOn w.path = true) (kind : writeKind w = some .devid) :
    exec (.ctcDevidWrite w) s = .next ((s.devidWrite w).tryRoot.answered w) := by
  simp only [exec, execCtcDevidWrite, kind]
  exact nextIf_of takes

/-- Settles O29: what each row writes, bit by bit and byte by byte, and what a read answers. -/
theorem registerWritesTakeEffect : Obligations.RegisterWritesTakeEffect := by
  refine ⟨fun s w i k abort takes => ⟨?_, ?_, ?_, ?_, ?_⟩, fun s w path off a takes reads => ⟨?_, ?_, ?_, ?_, ?_, ?_, ?_, ?_⟩⟩
  · intro kind
    refine ⟨s.evStatusWrite w, ?_, rfl, rfl, fun b low => cleared_bit _ _ b low⟩
    simp only [exec, execEvStatusClear, kind]
    exact nextIf_of takes
  · intro kind _
    refine ⟨s.evMapWrite w abort k, ?_, ?_, ?_, ?_⟩
    · simp only [exec, execEvMapClear, kind]
      exact nextIf_of takes
    · cases abort <;> rfl
    · rintro rfl
      exact ⟨rfl, fun b low => cleared_map_bit _ _ k b low⟩
    · rintro rfl
      exact ⟨rfl, fun b low => cleared_map_bit _ _ k b low⟩
  · intro kind
    refine ⟨s.evEnableWrite w, ?_, rfl, fun b low => writeOnto_bit w _ b low⟩
    simp only [exec, execEvEnableWrite, kind]
    exact nextIf_of takes
  · intro kind other
    refine ⟨s.evtWrite w i, ?_, ?_⟩
    · simp only [exec, execRingEvtClear, kind]
      exact nextIf_of takes
    · simp only [State.evtWrite, other, Bool.false_eq_true, if_false, State.setRing_ring]
  · intro kind
    refine ⟨s.clockWrite w, ?_, rfl⟩
    simp only [exec, execClockStatusClear, kind]
    exact nextIf_of takes
  · intro kind strobed v
    have written := State.devidWrite_of (s := s) strobed
    refine ⟨fun unset unicast => ?_, fun refuses => ?_⟩
    · have taken : ¬ (s.boot.devidSet = true ∨ v = 0xFFFF) := by simp [unset, unicast]
      rw [execCtcDevidWrite_of takes kind, written, if_neg taken]
    · exact ⟨s.countRefused, by rw [execCtcDevidWrite_of takes kind, written, if_pos refuses], rfl, rfl⟩
  · intro kind capture
    refine ⟨s.snapWrite w, ?_, ?_⟩
    · simp only [exec, execTimSnapCapture, kind]
      exact nextIf_of takes
    · simp only [State.snapWrite, capture, if_true]
      rfl
  · intro kind right halted
    have open_ : s.right rightCore = true := right
    refine ⟨s.coreRegWrite w off, ?_, ?_⟩
    · simp only [exec, execDbgCoreRegWrite, kind]
      exact nextIf_of takes
    · simp only [State.coreRegWrite, open_, halted, Bool.not_true, Bool.false_eq_true, if_false, Map.find_put_self]
  · intro at_ right
    exact ⟨(execDbgArrDataRead_of reads).trans (by rw [State.busRead_array at_ right]), rfl⟩
  · intro at_ other allowed
    exact (execDbgArrDataRead_of reads).trans (by rw [State.busRead_map at_ other allowed])
  · intro out
    exact (execDbgArrDataRead_of reads).trans (by rw [State.busRead_out out])
  · exact fun v => s.answerOn_eq path v
  · intro kind other writable wf
    refine ⟨s.mailboxWrite w off, ?_, fun b => State.mailboxWrite_read writable wf b⟩
    have row : (s.takesOn w.path && !(((writeKind w).map RegKind.named).getD false)) = true := by
      simp [takes, kind, RegKind.named]
    simp only [exec, execRegisterWrite]
    rw [nextIf_of row]
    simp only [State.otherWrite, other, Bool.false_eq_true, if_false, kind]

end Sys2Proof.Machine
end

section
/-!
PROOF. What of a domain outlasts the end of an SA: all but its state, its freeze, its migration, the note of its Squall, and its
counters (R33, R110, R344, R392).
-/
namespace Sys2Proof.Machine

/-- A domain's record but for what an abort, a migration's end and a Squall write, and its counters. -/
def Domain.lasting (d : Domain) : Domain := { d.core with state := .empty, frozen := false, mig := none, squalled := false }

theorem Domain.core_lasting {d e : Domain} (h : d.core = e.core) : d.lasting = e.lasting := by
  unfold Domain.lasting
  rw [h]

/-- The note of a Squall does not last. -/
theorem Domain.core_lasting_squalled {d e : Domain} {b : Bool} (h : d.core = ({ e with squalled := b } : Domain).core) :
    d.lasting = e.lasting := by
  unfold Domain.lasting
  rw [h]
  rfl

theorem Domain.core_lasting_aborted {d e : Domain}
    (h : d.core = ({ e with state := .aborted, frozen := false, mig := none } : Domain).core) : d.lasting = e.lasting := by
  unfold Domain.lasting
  rw [h]
  rfl

theorem Domain.lasting_neighbours {d e : Domain} (h : d.lasting = e.lasting) : d.neighbours = e.neighbours :=
  show d.lasting.neighbours = e.lasting.neighbours from h ▸ rfl
theorem Domain.lasting_policy {d e : Domain} (h : d.lasting = e.lasting) : d.policy = e.policy :=
  show d.lasting.policy = e.lasting.policy from h ▸ rfl

/-- Every domain's record lasts. -/
def State.DomsLast (s t : State) : Prop := ∀ l, (t.dom l).lasting = (s.dom l).lasting

theorem State.DomsLast.refl (s : State) : s.DomsLast s := fun _ => rfl

theorem State.DomsLast.trans {s t u : State} (h : s.DomsLast t) (k : t.DomsLast u) : s.DomsLast u := fun l => (k l).trans (h l)

theorem Touches.domsLast {F : List Part} {s t : State} (h : Touches F s t) (n : Part.doms ∉ F) : s.DomsLast t := fun l =>
  Domain.core_lasting (h.core n l)

theorem State.domsLast_foldl {α : Type} (f : State → α → State) (keeps : ∀ s a, State.DomsLast s (f s a)) (l : List α) (s : State) :
    s.DomsLast (l.foldl f s) := by
  induction l generalizing s with
  | nil => exact State.DomsLast.refl s
  | cons a l ih => exact (keeps s a).trans (ih (f s a))

/-- A record is written that lasts. -/
theorem State.domsLast_setDom {s : State} {l : Nat} {d : Domain} (same : d.lasting = (s.dom l).lasting) : s.DomsLast (s.setDom l d) :=
  fun k => by
  by_cases own : k = l
  · rw [own, State.setDom_dom, same]
  · rw [State.setDom_dom_other _ _ _ own]

theorem State.domsLast_sendSquall (s : State) (l cause : Nat) : s.DomsLast (s.sendSquall l cause) := fun k => by
  obtain ⟨b, kept⟩ := s.sendSquall_dom l cause k
  exact Domain.core_lasting_squalled kept

theorem State.domsLast_abort (s : State) (l cause : Nat) (origin : Bool) : s.DomsLast (s.abort l cause origin) := fun k => by
  by_cases other : k = l
  · subst other
    by_cases reached : (s.dom k).retiring = false ∧ (s.dom k).state.abortable = true
    · obtain ⟨idle, live⟩ := reached
      obtain ⟨b, kept⟩ := (State.abort_keeps (cause := cause) (origin := origin) idle live).dom k
      have marked : ((s.settle.markAborted k).dom k).lasting = (s.settle.dom k).lasting :=
        Domain.core_lasting_aborted (s.settle.markAborted_core_own k)
      have settled := s.settle_touches.domsLast (by decide) k
      exact ((Domain.core_lasting_squalled kept).trans marked).trans settled
    · unfold State.abort
      dsimp only
      split
      · split
        · exact s.domsLast_sendSquall k cause k
        · rfl
      · next idle =>
        have dead : (s.dom k).state.abortable = false :=
          Bool.eq_false_iff.2 fun live => reached ⟨Bool.eq_false_iff.2 idle, live⟩
        rw [dead]
        rfl
  · obtain ⟨b, kept⟩ := s.abort_core_other cause origin other
    exact Domain.core_lasting_squalled kept

theorem State.domsLast_endMigrations (s : State) (p : Nat) : s.DomsLast (s.endMigrations p) := by
  refine State.domsLast_foldl _ (fun s l => ?_) _ s
  have unmarked : s.DomsLast (s.setDom l { s.dom l with mig := none }) := State.domsLast_setDom rfl
  exact unmarked.trans ((State.dropKeys_touches _ l _).domsLast (by decide))

theorem State.domsLast_endSa (s : State) (p cause : Nat) (st : SaState) : s.DomsLast (s.endSa p cause st) := by
  unfold State.endSa
  split
  · have before : s.DomsLast (s.internalEntry.loseAtomics p) :=
      ((State.internalEntry_touches s).domsLast (by decide)).trans ((State.loseAtomics_touches _ p).domsLast (by decide))
    have written (u : State) (a : Sa) : u.DomsLast (u.setSa p a) := fun _ => rfl
    have gone (u : State) : u.DomsLast ((u.endMigrations p).quarantinePeerGone p) :=
      (u.domsLast_endMigrations p).trans ((State.quarantinePeerGone_touches _ p).domsLast (by decide))
    exact ((before.trans (written _ _)).trans (gone _)).trans (State.domsLast_foldl _ (fun s l => s.domsLast_abort l cause true) _ _)
  · exact State.DomsLast.refl s

theorem State.domsLast_loseSa (s : State) (p : Nat) : s.DomsLast (s.loseSa p) := by
  unfold State.loseSa
  split
  · exact (s.domsLast_endSa p 0x05 .lost).trans ((State.saRecord_touches _ _ _ _ _).domsLast (by decide))
  · exact State.DomsLast.refl s

theorem State.domsLast_endExhausted (s : State) (p : Nat) : s.DomsLast (s.endExhausted p) := by
  unfold State.endExhausted
  split
  · exact s.domsLast_loseSa p
  · exact State.DomsLast.refl s

end Sys2Proof.Machine
end

section
/-!
PROOF. Events at the fence table, on `BP_` and at the host command processor's port (R47, R48, R391, R447 to R452).
-/
namespace Sys2Proof.Machine

theorem State.released_of_takesInput {s : State} (h : s.takesInput = true) : s.released = true := (Bool.and_eq_true_iff.1 h).1
theorem State.clocked_of_takesInput {s : State} (h : s.takesInput = true) : s.clocked = true :=
  (Bool.and_eq_true_iff.1 (State.released_of_takesInput h)).1

/-- The 32 bits of a SEQ after the last one acknowledged name it. -/
theorem bpNamed_of_after {b : Binding} {seq : Nat} (after : b.acked ≤ seq) (near : seq < b.acked + 2 ^ 32) :
    bpNamed b (seq % 2 ^ 32) = seq := by
  unfold bpNamed
  omega

/-- The 32 bits of a SEQ before the last one acknowledged name the one that comes 2^32 later. -/
theorem bpNamed_of_before {b : Binding} {seq : Nat} (before : seq < b.acked) (near : b.acked < seq + 2 ^ 32) :
    bpNamed b (seq % 2 ^ 32) = seq + 2 ^ 32 := by
  unfold bpNamed
  omega

theorem bpCovered_of_before {b : Binding} {seq : Nat} (pos : 1 ≤ seq) (before : seq ≤ b.acked) (near : b.acked < seq + 2 ^ 31) :
    bpCovered b (seq % 2 ^ 32) = true := by
  unfold bpCovered
  rw [decide_eq_true_iff]
  omega

theorem bpCovered_of_after {b : Binding} {seq : Nat} (after : b.acked < seq) (near : seq < b.acked + 2 ^ 31) :
    bpCovered b (seq % 2 ^ 32) = false := by
  unfold bpCovered
  rw [decide_eq_false_iff_not]
  omega

theorem State.takeBpAck_published {s : State} {seq : Nat} (after : s.bp.acked < seq) (out : seq < s.bp.nextSync)
    (near : s.bp.nextSync ≤ s.bp.acked + 2 ^ 32) :
    s.takeBpAck (seq % 2 ^ 32) = { s with bp := { s.bp with acked := seq } } := by
  have named : bpNamed s.bp (seq % 2 ^ 32) = seq := bpNamed_of_after (by omega) (by omega)
  unfold State.takeBpAck
  rw [named]
  exact if_pos ⟨after, out⟩

theorem State.takeBpAck_again {s : State} {seq : Nat} (pos : 1 ≤ seq) (before : seq ≤ s.bp.acked) (near : s.bp.acked < seq + 2 ^ 31)
    (far : s.bp.nextSync ≤ seq + 2 ^ 32) : s.takeBpAck (seq % 2 ^ 32) = s := by
  have old : ¬ (s.bp.acked < bpNamed s.bp (seq % 2 ^ 32) ∧ bpNamed s.bp (seq % 2 ^ 32) < s.bp.nextSync) := by
    rcases Nat.lt_or_eq_of_le before with less | same
    · rw [bpNamed_of_before less (by omega)]
      omega
    · rw [bpNamed_of_after (by omega) (by omega)]
      omega
  unfold State.takeBpAck
  dsimp only
  rw [if_neg old, if_pos (bpCovered_of_before pos before near)]

theorem State.takeBpAck_unpublished {s : State} {seq : Nat} (after : s.bp.acked < seq) (out : s.bp.nextSync ≤ seq)
    (near : seq < s.bp.acked + 2 ^ 31) : s.takeBpAck (seq % 2 ^ 32) = s.countDropped := by
  have early : ¬ (s.bp.acked < bpNamed s.bp (seq % 2 ^ 32) ∧ bpNamed s.bp (seq % 2 ^ 32) < s.bp.nextSync) := by
    rw [bpNamed_of_after (by omega) (by omega)]
    omega
  unfold State.takeBpAck
  dsimp only
  rw [if_neg early, bpCovered_of_after after near]
  rfl

section
variable {s : State} (ready : s.takesInput = true)
include ready

theorem execFenceSignal_of {m : FenceMsg} {ms : List FenceMsg} (front : s.tables.fenceQ = m :: ms) :
    execFenceSignal s = .next (({ s with tables := { s.tables with fenceQ := ms } } : State).applyStatus m) := by
  unfold execFenceSignal
  rw [front]
  exact nextIf_of (State.clocked_of_takesInput ready)

theorem execBpInPresent_of {kind first count : Nat} (known : kind < 2) :
    execBpInPresent 1 kind first count s = .next { s with bp :=
      if kind = 0 then { s.bp with queues := s.bp.queues ++ [(first, count)] }
      else { s.bp with slices := s.bp.slices ++ [(first, count)] } } := by
  refine (nextIf_of (by rw [ready]; rfl)).trans ?_
  rcases (by omega : kind = 0 ∨ kind = 1) with rfl | rfl
  · rfl
  · rfl

theorem execBpInPresent_reserved {type kind first count : Nat} (reserved : type ≠ 1 ∨ 1 < kind) (two : type ≠ 2) (three : type ≠ 3) :
    execBpInPresent type kind first count s = .next s.countDropped := by
  have own : bpInNamed type = false := by simp [bpInNamed, two, three]
  refine (nextIf_of (by rw [ready, own]; rfl)).trans ?_
  rw [if_pos (by simpa using reserved)]

theorem execBpInReport_signals {ldi handle ctx status : Nat} (registered : s.settle.reportOk ldi handle ctx = true) :
    ∃ t, execBpInReport ldi handle ctx status s = .next t ∧
      (t.fence (fenceIndex handle)).state = .signalled ∧ (t.fence (fenceIndex handle)).status = status ∧
      (t.fence (fenceIndex handle)).cause = 0 := by
  have entry := s.settle.fence_signal (fenceIndex handle) status 0
  refine ⟨s.settle.signal (fenceIndex handle) status 0, (nextIf_of ready).trans (by rw [if_pos registered]), ?_⟩
  rw [entry]
  exact ⟨rfl, rfl, rfl⟩

theorem execBpInReport_refused {ldi handle ctx status : Nat} (unknown : s.settle.reportOk ldi handle ctx = false) :
    execBpInReport ldi handle ctx status s = .next (s.settle.badRef ⟨ldi, handle, status, .report⟩) :=
  (nextIf_of ready).trans (by rw [unknown]; rfl)

theorem execBpInNeighbour_of {ldi pos devid : Nat} (live : (s.dom ldi).state.live = true) (place : pos ≤ 8) :
    ∃ t, execBpInNeighbour ldi pos devid s = .next t ∧ (t.dom ldi).neighbours = (s.dom ldi).neighbours.put pos devid := by
  refine ⟨_, nextIf_of (by simp [ready, live, place]), ?_⟩
  generalize named : s.setDom ldi { s.dom ldi with neighbours := (s.dom ldi).neighbours.put pos devid } = u
  have written : (u.dom ldi).neighbours = (s.dom ldi).neighbours.put pos devid := by rw [← named, State.setDom_dom]
  split
  · have sent : u.DomsLast ((u.sendPolicy devid ldi).endExhausted devid) :=
      ((u.sendPolicy_touches devid ldi).domsLast (by decide)).trans (State.domsLast_endExhausted _ devid)
    rw [Domain.lasting_neighbours (sent ldi), written]
  · exact written

end

/-- Settles O30: each event of the binding port and of the HCP's port is its own operation. -/
theorem bindingEventsTakeEffect : Obligations.BindingEventsTakeEffect := by
  unfold Obligations.BindingEventsTakeEffect
  intro s m ms ldi pos devid seq type kind first count handle ctx status image ready
  have released := State.released_of_takesInput ready
  exact ⟨execFenceSignal_of ready,
    fun after out near => (nextIf_of released).trans (by rw [State.takeBpAck_published after out near]),
    fun p before near far => (nextIf_of released).trans (by rw [State.takeBpAck_again p before near far]),
    fun after out near => (nextIf_of released).trans (by rw [State.takeBpAck_unpublished after out near]),
    execBpInPresent_of ready, execBpInPresent_reserved ready, execBpInReport_signals ready, execBpInReport_refused ready,
    execBpInNeighbour_of ready, nextIf_of released, nextIf_of ready⟩

end Sys2Proof.Machine
end

section
/-!
PROOF. A power hold that ends while a reset is held (R352, R372, R378).
-/
namespace Sys2Proof.Machine

/-- A SYSTEM reset waits for its Squalls, a program of OTP word 0x200 waits for its pulse, and the power hold stands. -/
def State.programAwaitingReset : State :=
  { power := { rootValid := true, hold := true, phase := .held .system 0x10 false false true }
    otp := { job := [writeOf 0x200 1] } }

/-- The end of the power hold starts no pulse then: none starts once a reset is requested (R372). -/
theorem State.programAwaitingReset_kept : ∃ t, exec .powerHoldClear State.programAwaitingReset = .next t ∧ t.otp.busy = none := by
  have waits (u : State) (free : u.otp.busy = none) (held : u.power.phase ≠ .idle) : u.otpPump = u := by
    unfold State.otpPump
    rw [free]
    split
    · rw [if_pos (by simp [held])]
    · rfl
  refine ⟨_, nextIf_of rfl, ?_⟩
  rw [waits _ rfl (by intro same; cases same)]
  rfl

/-- Refutes O31: the end of the power hold requests no program while a reset is pending or held (R372), though one waits and no
pulse is outstanding. -/
theorem not_bootAndSupplyEventsTakeEffect : ¬ Obligations.BootAndSupplyEventsTakeEffect := by
  unfold Obligations.BootAndSupplyEventsTakeEffect
  rintro ⟨-, supply⟩
  obtain ⟨-, holdClear, -⟩ := supply State.programAwaitingReset [] rfl
  obtain ⟨t, ended, -, pulses⟩ := holdClear rfl
  obtain ⟨u, kept, free⟩ := State.programAwaitingReset_kept
  have same : t = u := by
    rw [ended] at kept
    exact Host.Outcome.next.inj kept
  have busy := pulses (writeOf 0x200 1) [] rfl rfl
  rw [same, free] at busy
  cases busy

end Sys2Proof.Machine
end

section
/-!
PROOF. CK_ROOT, POR, and the requests for a reset with their holds (R368 to R372, R385).
-/
namespace Sys2Proof.Machine

theorem Touches.power_eq {F : List Part} {s t : State} (h : Touches F s t) (n : Part.power ∉ F) : t.power = s.power :=
  h.power.resolve_left n

theorem State.enterRestart_power (s : State) (l : ResetLevel) : (s.enterRestart l).power = s.power :=
  (s.enterRestart_touches l).power_eq (by decide)

/-- A request that is taken up is held, or due at once; the rest of the reset controller's state is as it was. -/
theorem State.beginReset_power (s : State) (l : ResetLevel) (cause : Nat) (pended : Bool) :
    (s.beginReset l cause pended).power = { s.power with
      heldAt := s.now
      squalls := s.squallBefore l
      phase := if (s.otp.busy.isSome || !(s.squallBefore l).isEmpty) = true then
          .held l cause pended s.otp.busy.isSome !(s.squallBefore l).isEmpty
        else .due l cause pended false false } := by
  unfold State.beginReset
  dsimp only
  split
  · simp only [State.setPhase, State.enterRestart_power]
  · simp only [State.assertReset, State.setPhase, State.enterRestart_power]

theorem State.beginReset_restarting (s : State) (cause : Nat) (pended : Bool) :
    (s.beginReset .core cause pended).loom.restarting = true := by
  unfold State.beginReset
  dsimp only
  split <;> rfl

theorem execCkRootLost_of {s : State} (root : s.power.rootValid = true) (run : s.power.phase ≠ .por) :
    execCkRootLost s = .next { s with power := { s.power with rootValid := false, rootLost := true } } := by
  refine (nextIf_of root).trans ?_
  have counted : (s.power.rootLost || s.power.phase != .por) = true := by simp [run]
  rw [counted]

theorem execCkRootReturn_of {s : State} (root : s.power.rootValid = false) :
    ∃ t, execCkRootReturn s = .next t ∧ t.power.rootValid = true := by
  refine ⟨_, nextIf_of (by rw [root]; rfl), ?_⟩
  dsimp only
  split
  · rfl
  · generalize back : ({ s with power := { s.power with rootValid := true } } : State) = u
    have valid : u.power.rootValid = true := by rw [← back]
    have kept (b : Bytes) : (((u.record 0x0C06 b).otpPump).startIfDue).power = u.power :=
      ((State.startIfDue_touches _).power_eq (by decide)).trans
        (((State.otpPump_touches _).power_eq (by decide)).trans ((u.record_touches _ b).power_eq (by decide)))
    split
    · rw [State.beginReset_power, kept, valid]
    · rw [kept, valid]

/-- While no reset is pending, held or in progress, a request of SYSTEM or CORE is one of its level. -/
theorem State.requestReset_idle {s : State} (idle : s.power.phase = .idle) (run : s.boot.phase ≠ .rom) (l : ResetLevel) (cause : Nat) :
    s.requestReset l cause = if s.power.rootValid = true then s.beginReset l cause false else s.setPhase (.latched l cause) := by
  have none : s.resetLevel = none := by
    have off : (s.boot.phase == .rom) = false := beq_eq_false_iff_ne.2 run
    unfold State.resetLevel
    rw [idle, off]
    rfl
  unfold State.requestReset
  rw [none]
  rfl

theorem execResetHoldEnd_of {s : State} {l : ResetLevel} {cause left : Nat} {p o q : Bool} (held : s.power.phase = .held l cause p o q)
    (root : s.power.rootValid = true) (free : s.otp.busy = none) :
    ∃ t, execResetHoldEnd left s = .next t ∧ t.power.phase = .due l cause p o q := by
  unfold execResetHoldEnd
  rw [held]
  exact ⟨_, nextIf_of (by rw [root, free]; rfl), rfl⟩

/-- Settles O32: each event of the clock, of POR and of the request pins is its own operation on the reset controller. -/
theorem resetRequestsTakeEffect : Obligations.ResetRequestsTakeEffect := by
  unfold Obligations.ResetRequestsTakeEffect
  intro s l cause left p o q
  refine ⟨fun root run => ⟨_, execCkRootLost_of root run, rfl, rfl⟩, execCkRootReturn_of, ⟨_, rfl, rfl, rfl, rfl, rfl, rfl, rfl, rfl, ?_⟩,
    fun por root => nextIf_of (by rw [por, root]; rfl), fun idle run root => ?_, fun idle run root => ?_, execResetHoldEnd_of⟩
  · intro free
    unfold State.porState State.cutPulse
    rw [free]
  · have latched (l : ResetLevel) (c : Nat) : s.requestReset l c = s.setPhase (.latched l c) := by
      rw [State.requestReset_idle idle run, if_neg (by rw [root]; decide)]
    exact ⟨congrArg Host.Outcome.next (latched .system 0x10), congrArg Host.Outcome.next (latched .core 0x20)⟩
  · simp only [exec, execRsSysreq, execRsCorereq, State.requestReset_idle idle run, root, if_true]
    refine ⟨_, _, rfl, rfl, State.beginReset_restarting s _ _, fun busy => ⟨!(s.squallBefore .system).isEmpty, ?_⟩, fun free => ?_⟩
    · have pulse : s.otp.busy.isSome = true := Option.isSome_iff_ne_none.2 busy
      rw [State.beginReset_power, pulse]
      rfl
    · rw [State.beginReset_power, free]
      rfl

end Sys2Proof.Machine
end

section
/-!
PROOF. What SYSTEM and CORE resets keep and clear (R262, R373, R375, R376, R382, R385).
-/
namespace Sys2Proof.Machine

/-! ### Loom's crash dump and restart -/

/-- Loom holds the same crash dump, and its restart goes on as before. -/
def State.RestartKept (s t : State) : Prop := t.loom.dump = s.loom.dump ∧ t.loom.restarting = s.loom.restarting

theorem State.RestartKept.refl (s : State) : s.RestartKept s := ⟨rfl, rfl⟩

theorem State.RestartKept.trans {s t u : State} (h : s.RestartKept t) (k : t.RestartKept u) : s.RestartKept u :=
  ⟨k.1.trans h.1, k.2.trans h.2⟩

theorem Touches.restartKept {F : List Part} {s t : State} (h : Touches F s t) (n : Part.loom ∉ F) : s.RestartKept t := by
  have same := h.loom.resolve_left n
  exact ⟨by rw [same], by rw [same]⟩

theorem State.restartKept_foldl {α : Type} (f : State → α → State) (keeps : ∀ s a, State.RestartKept s (f s a)) (l : List α)
    (s : State) : s.RestartKept (l.foldl f s) := by
  induction l generalizing s with
  | nil => exact State.RestartKept.refl s
  | cons a l ih => exact (keeps s a).trans (ih (f s a))

theorem State.restartKept_setRing (s : State) (i : Nat) (r : Ring) : s.RestartKept (s.setRing i r) := ⟨rfl, rfl⟩

theorem State.restartKept_internalEntry (s : State) : s.RestartKept s.internalEntry := ⟨rfl, rfl⟩

theorem State.restartKept_signalAbort (s : State) (a : DueAbort) : s.RestartKept (s.signalAbort a) := by
  unfold State.signalAbort
  split
  · exact (State.signalAll_touches _ _ _).restartKept (by decide)
  · exact s.restartKept_internalEntry.trans ((State.signalAll_touches _ _ _).restartKept (by decide))

theorem State.restartKept_abort (s : State) (l cause : Nat) (origin : Bool) : s.RestartKept (s.abort l cause origin) := by
  have overtaken : s.settle.RestartKept (s.settle.markAborted l) := by
    unfold State.RestartKept
    rw [State.markAborted_loom]
    exact ⟨rfl, rfl⟩
  have marked := (s.settle_touches.restartKept (by decide)).trans overtaken
  have closed (u : State) (a : DueAbort) : u.RestartKept (u.closeAbort a) := (u.closeAbort_touches a).restartKept (by decide)
  have rest (u : State) (a : DueAbort) : u.RestartKept (u.restAbort a) := (u.restAbort_touches a).restartKept (by decide)
  have noted (u : State) (a : DueAbort) : u.RestartKept (u.noteAbort a) := ⟨rfl, rfl⟩
  unfold State.abort
  dsimp only
  split
  · split
    · exact (s.sendSquall_touches l cause).restartKept (by decide)
    · exact State.RestartKept.refl s
  · split
    · exact State.RestartKept.refl s
    · split
      · exact ((marked.trans (closed _ _)).trans (State.restartKept_signalAbort _ _)).trans (rest _ _)
      · split
        · exact ((marked.trans (closed _ _)).trans (rest _ _)).trans (noted _ _)
        · exact marked.trans (noted _ _)

theorem State.restartKept_endSa (s : State) (p cause : Nat) (st : SaState) : s.RestartKept (s.endSa p cause st) := by
  unfold State.endSa
  split
  · have before : s.RestartKept (s.internalEntry.loseAtomics p) :=
      s.restartKept_internalEntry.trans ((State.loseAtomics_touches _ p).restartKept (by decide))
    have written (u : State) (a : Sa) : u.RestartKept (u.setSa p a) := ⟨rfl, rfl⟩
    have gone (u : State) : u.RestartKept ((u.endMigrations p).quarantinePeerGone p) :=
      ((u.endMigrations_touches p).restartKept (by decide)).trans ((State.quarantinePeerGone_touches _ p).restartKept (by decide))
    exact ((before.trans (written _ _)).trans (gone _)).trans
      (State.restartKept_foldl _ (fun s l => s.restartKept_abort l cause true) _ _)
  · exact State.RestartKept.refl s

theorem State.restartKept_endExhausted (s : State) (p : Nat) : s.RestartKept (s.endExhausted p) := by
  unfold State.endExhausted State.loseSa
  split
  · split
    · exact (s.restartKept_endSa p 0x05 .lost).trans ((State.saRecord_touches _ _ _ _ _).restartKept (by decide))
    · exact State.RestartKept.refl s
  · exact State.RestartKept.refl s

theorem State.restartKept_endSpent (s : State) : s.RestartKept s.endSpent :=
  State.restartKept_foldl _ State.restartKept_endExhausted _ s

/-! ### Commands of undefined opcode -/

theorem State.restartKept_sendSpdm (s : State) (c : Conn) (session : Option Nat) (code : Nat) (body : Bytes) :
    s.RestartKept (s.sendSpdm c session code body) := by
  unfold State.sendSpdm
  split
  · exact ((s.wireSpdm_touches session code body).restartKept (by decide)).trans ⟨rfl, rfl⟩
  · refine ((s.fitSpdm_touches c code body).restartKept (by decide)).trans ?_
    dsimp only
    split
    · exact ((State.protect_touches _ _ _).restartKept (by decide)).trans
        (((State.emit_touches _ _).restartKept (by decide)).trans ((State.carry_touches _ _ _ _).restartKept (by decide)))
    · exact ((State.emit_touches _ _).restartKept (by decide)).trans ((State.carry_touches _ _ _ _).restartKept (by decide))

theorem State.restartKept_deliver (s : State) (e : JEntry) (reply ext : Bytes) : s.RestartKept (s.deliver e reply ext) := by
  cases path : e.path with
  | ring i =>
    unfold State.RestartKept
    rw [State.deliver_loom path]
    exact s.restartKept_setRing i _
  | session sid =>
    unfold State.deliver
    simp only [path]
    split
    · exact ((s.setSession_touches sid _).restartKept (by decide)).trans (State.restartKept_sendSpdm _ _ _ _ _)
    · exact State.RestartKept.refl s
  | peer d =>
    unfold State.deliver
    simp only [path]
    exact (s.sendCtrl_touches d _ _).restartKept (by decide)

theorem State.restartKept_logReply (s : State) (e : JEntry) (reply : Bytes) : s.RestartKept (s.logReply e reply) := by
  unfold State.logReply
  split
  · exact s.restartKept_setRing _ _
  · split <;> exact ⟨rfl, rfl⟩
  · exact State.RestartKept.refl s

theorem State.restartKept_reply (s : State) (e : JEntry) (jid : Nat) (r : Reply) (logged : Bool) :
    s.RestartKept (s.reply e jid r logged) := by
  have traced : s.RestartKept (s.replyTraced e jid r) := (s.replyTraced_touches e jid r).restartKept (by decide)
  refine traced.trans (State.RestartKept.trans ?_ (State.restartKept_deliver _ e (replyBytes e false jid r) r.ext))
  split
  · exact State.restartKept_logReply _ _ _
  · exact State.RestartKept.refl _

theorem State.restartKept_inSequence (s : State) (c : Cmd) (k : State → State) (keeps : ∀ u, State.RestartKept u (k u)) :
    s.RestartKept (s.inSequence c k) := by
  unfold State.inSequence
  split
  · exact ((s.bump_touches _ _).restartKept (by decide)).trans (State.restartKept_deliver _ _ _ _)
  · exact s.restartKept_reply _ _ _ _
  · exact ((s.accepted_touches c).restartKept (by decide)).trans (keeps _)

theorem State.restartKept_fetched (s : State) (c : Cmd) : s.RestartKept (s.fetched c) := by
  have traced (u : State) : u.RestartKept (u.traceCmd c.entry 0 0 0) := (u.traceCmd_touches _ _ _ _).restartKept (by decide)
  have turn (heads : List Bytes) :
      s.RestartKept (({ s with loom := { s.loom with headers := heads } } : State).tookTurn c.path.place) := ⟨rfl, rfl⟩
  unfold State.fetched
  dsimp only
  split
  · exact ((turn _).trans (traced _)).trans (State.restartKept_setRing _ _ _)
  · exact ((turn _).trans (traced _)).trans ((State.setSession_touches _ _ _).restartKept (by decide))
  · exact (turn _).trans (traced _)

theorem State.restartKept_drain (s : State) (n : Nat) : s.RestartKept (s.drain n) := by
  induction n generalizing s with
  | zero => exact State.RestartKept.refl s
  | succ n ih =>
    unfold State.drain
    split
    · next c waiting =>
      have answered : s.RestartKept ((s.fetched c).settle.inSequence c
          (fun s => s.reply c.entry 0 { status := stUnsupported } true)) :=
        ((s.restartKept_fetched c).trans ((State.settle_touches _).restartKept (by decide))).trans
          (State.restartKept_inSequence _ c _ fun u => u.restartKept_reply _ _ _ _)
      exact answered.trans (ih _)
    · exact State.RestartKept.refl s

theorem State.restartKept_applyHeldTails (s : State) : s.RestartKept s.applyHeldTails :=
  State.restartKept_foldl (fun (s : State) (x : Nat × Nat) => s.applyTail x.1 x.2) (fun _ _ => ⟨rfl, rfl⟩) _ s

/-! ### The recovery of an empty journal -/

theorem State.recover_of_empty {s : State} (journal : s.loom.journal = []) :
    s.recover = s.rewindRings.finishAborts.endSpent.endRestart.drainTurns := by
  have rolled : s.rollForward = s := by
    unfold State.rollForward
    rw [journal]
    rfl
  unfold State.recover
  rw [journal]
  exact congrArg (fun u : State => u.rewindRings.finishAborts.endSpent.endRestart.drainTurns) rolled

theorem State.finishAborts_of_empty {s : State} (noAborts : s.loom.abortsDue = []) :
    s.finishAborts = { s with loom := { s.loom with abortsDue := [] } } := by
  unfold State.finishAborts
  rw [noAborts]
  rfl

/-- Time, OTP, the reset controller and the firmware stay as they are. -/
theorem State.recover_keeps {s : State} (journal : s.loom.journal = []) :
    Touches [.doms, .tallies, .fences, .quarantine, .weft, .shuttle, .batten, .spindle, .keys, .spdm, .loom, .log, .counters, .trace,
      .events, .bp, .mailbox, .link, .out] s s.recover := by
  rw [State.recover_of_empty journal]
  exact (((((s.rewindRings_touches).mono (by decide)).trans ((State.finishAborts_touches _).mono (by decide))).trans
    ((State.endSpent_touches _).mono (by decide))).trans ((State.endRestart_touches _).mono (by decide))).trans
      ((State.drainTurns_touches _).mono (by decide))

theorem State.recover_restart {s : State} (journal : s.loom.journal = []) (noAborts : s.loom.abortsDue = []) :
    s.recover.loom.dump = s.loom.dump ∧ s.recover.loom.restarting = false := by
  rw [State.recover_of_empty journal]
  have begun : s.RestartKept s.rewindRings.finishAborts := by
    rw [State.finishAborts_of_empty (s := s.rewindRings) noAborts]
    exact ⟨rfl, rfl⟩
  generalize s.rewindRings.finishAborts = u at begun ⊢
  have ended := begun.trans u.restartKept_endSpent
  generalize u.endSpent = v at ended ⊢
  obtain ⟨dump, restarting⟩ :=
    (State.restartKept_applyHeldTails { v with loom := { v.loom with restarting := false } }).trans
      (State.restartKept_drain _ (State.readyCount _))
  exact ⟨dump.trans ended.1, restarting⟩

/-! ### The crash dump -/

theorem State.dumpHead_front (s : State) (cause : Nat) :
    (s.dumpHead cause).take 7 = leBytes 4 0x44435443 ++ leBytes 2 1 ++ leBytes 1 cause := by
  unfold State.dumpHead
  simp only [List.append_assoc]
  simp [List.take_append, List.take_of_length_le, leBytes_length]

/-- A crash dump is written, or counted as lost. -/
theorem State.crashDump_cases (s : State) (cause : Nat) :
    (∃ d, s.crashDump cause = ({ s with loom := { s.loom with dump := d } } : State).raise 12) ∨ s.crashDump cause = s.bump 0x012 := by
  unfold State.crashDump
  dsimp only
  split
  · split
    · exact Or.inl ⟨_, rfl⟩
    · exact Or.inr rfl
  · rw [if_pos rfl]
    exact Or.inl ⟨_, rfl⟩

theorem State.crashDump_free {s : State} (cause : Nat) (free : s.loom.dump = none) :
    (s.crashDump cause).loom.dump = some { head := s.dumpHead cause, cmds := s.dumpCmds, time := s.time12 } := by
  unfold State.crashDump
  rw [free]
  rfl

theorem State.crashDump_held {s : State} (cause : Nat) {d : Dump} (held : s.loom.dump = some d) (unread : d.readEnd = false) :
    (s.crashDump cause).loom.dump = some d := by
  unfold State.crashDump
  simp only [held, unread]
  exact held

theorem State.otpPump_of_empty {s : State} (empty : s.otp.job = []) : s.otpPump = s := by
  unfold State.otpPump
  rw [empty]
  split
  · next waits => cases waits
  · rfl

/-! ### The CORE reset -/

/-- The state in which a CORE restart goes on: the cause is noted, the dump written, and Loom's data cleared. -/
def State.coreCleared (s : State) (cause : Nat) (p o q : Bool) : State := ((s.noteCause cause p o q).crashDump cause).clearFirmware

theorem State.coreCleared_touches (s : State) (cause : Nat) (p o q : Bool) :
    Touches [.spdm, .loom, .counters, .events] (s.noteCause cause p o q) (s.coreCleared cause p o q) :=
  ((State.crashDump_touches _ cause).mono (by decide)).trans ((State.clearFirmware_touches _).mono (by decide))

theorem State.coreCleared_power (s : State) (cause : Nat) (p o q : Bool) : (s.coreCleared cause p o q).power =
    { s.power with phase := .idle, cause := cause, pended := p, otpHeld := o, squallHeld := q } := by
  rw [(s.coreCleared_touches cause p o q).power_eq (by decide)]
  rfl

theorem State.coreCleared_journal (s : State) (cause : Nat) (p o q : Bool) :
    (s.coreCleared cause p o q).loom.journal = s.loom.journal ∧ (s.coreCleared cause p o q).loom.abortsDue = s.loom.abortsDue := by
  unfold State.coreCleared
  generalize noted : s.noteCause cause p o q = u
  have same : u.loom = s.loom := by rw [← noted]; rfl
  rw [← same]
  rcases u.crashDump_cases cause with ⟨d, written⟩ | counted
  · rw [written]
    exact ⟨rfl, rfl⟩
  · rw [counted]
    exact ⟨rfl, rfl⟩

theorem State.coreRestart_eq (s : State) (cause : Nat) (p o q : Bool) : (s.noteCause cause p o q).coreRestart cause =
    if (s.coreCleared cause p o q).boot.imageBad && (s.coreCleared cause p o q).boot.phase.loaded then
      (s.coreCleared cause p o q).requestReset .system 0x14
    else if (s.coreCleared cause p o q).boot.phase.isRunning then (s.coreCleared cause p o q).recover
    else (s.coreCleared cause p o q).finishAborts.endRestart.startIfDue := rfl

section
variable {s : State} {cause : Nat} {p o q : Bool} (due : s.power.phase = .due .core cause p o q) (root : s.power.rootValid = true)
include due root

theorem execCoreReset_of : execCoreReset s = .next ((s.noteCause cause p o q).coreRestart cause).otpPump := by
  unfold execCoreReset
  rw [due]
  exact nextIf_of root

theorem execCoreReset_running {n : Nat} (running : s.boot.phase = .running n) (good : s.boot.imageBad = false)
    (journal : s.loom.journal = []) (noAborts : s.loom.abortsDue = []) (job : s.otp.job = []) :
    ∃ t, execCoreReset s = .next t ∧
      t.power = { s.power with phase := .idle, cause := cause, pended := p, otpHeld := o, squallHeld := q } ∧
      t.time = s.time ∧ t.otp = s.otp ∧ t.boot = s.boot ∧ t.loom.restarting = false ∧
      (s.loom.dump = none → ∃ d, t.loom.dump = some d ∧ d.time = s.time12 ∧
        d.head.take 7 = leBytes 4 0x44435443 ++ leBytes 2 1 ++ leBytes 1 cause) ∧
      (∀ d, s.loom.dump = some d → d.readEnd = false → t.loom.dump = some d) := by
  obtain ⟨entries, aborts⟩ := s.coreCleared_journal cause p o q
  have cleared := s.coreCleared_touches cause p o q
  have kept := State.recover_keeps (entries.trans journal)
  obtain ⟨dump, restarting⟩ := State.recover_restart (entries.trans journal) (aborts.trans noAborts)
  have boot : (s.coreCleared cause p o q).boot = s.boot := cleared.boot.resolve_left (by decide)
  have restarted : (s.noteCause cause p o q).coreRestart cause = (s.coreCleared cause p o q).recover := by
    rw [State.coreRestart_eq, boot, good, running, Bool.false_and, if_neg Bool.false_ne_true]
    exact if_pos rfl
  have otp : (s.coreCleared cause p o q).recover.otp = s.otp := (kept.otp_eq (by decide)).trans (cleared.otp_eq (by decide))
  refine ⟨(s.coreCleared cause p o q).recover, ?_, (kept.power_eq (by decide)).trans (s.coreCleared_power cause p o q),
    (kept.time.resolve_left (by decide)).trans (cleared.time.resolve_left (by decide)), otp,
    (kept.boot.resolve_left (by decide)).trans boot, restarting, fun free => ?_, fun d held unread => ?_⟩
  · rw [execCoreReset_of due root, restarted, State.otpPump_of_empty (by rw [otp, job])]
  · refine ⟨_, dump.trans (State.crashDump_free (s := s.noteCause cause p o q) cause free), rfl, State.dumpHead_front _ cause⟩
  · exact dump.trans (State.crashDump_held (s := s.noteCause cause p o q) cause held unread)

theorem execCoreReset_damaged {n : Nat} (running : s.boot.phase = .running n) (bad : s.boot.imageBad = true) :
    ∃ u t : State, execCoreReset s = .next t ∧ t = (u.requestReset .system 0x14).otpPump ∧
      u.power = { s.power with phase := .idle, cause := cause, pended := p, otpHeld := o, squallHeld := q } ∧
      ((∃ x y, t.power.phase = .held .system 0x14 false x y) ∨ t.power.phase = .due .system 0x14 false false false) := by
  have cleared := s.coreCleared_touches cause p o q
  have boot : (s.coreCleared cause p o q).boot = s.boot := cleared.boot.resolve_left (by decide)
  have power := s.coreCleared_power cause p o q
  have restarted : (s.noteCause cause p o q).coreRestart cause = (s.coreCleared cause p o q).requestReset .system 0x14 := by
    rw [State.coreRestart_eq, boot, bad, running, Bool.true_and]
    exact if_pos rfl
  refine ⟨s.coreCleared cause p o q, _, by rw [execCoreReset_of due root, restarted], rfl, power, ?_⟩
  have requested : (s.coreCleared cause p o q).requestReset .system 0x14 = (s.coreCleared cause p o q).beginReset .system 0x14 false := by
    rw [State.requestReset_idle (by rw [power]) (by rw [boot, running]; intro same; cases same), if_pos (by rw [power]; exact root)]
  rw [(State.otpPump_touches _).power_eq (by decide), requested, State.beginReset_power]
  dsimp only
  split
  · exact Or.inl ⟨_, _, rfl⟩
  · exact Or.inr rfl

theorem execCoreReset_unloaded (unloaded : s.boot.phase.loaded = false) :
    execCoreReset s = .next (({ s with
      power := { s.power with phase := .idle, cause := cause, pended := p, otpHeld := o, squallHeld := q } } : State).crashDump
        cause).clearFirmware.finishAborts.endRestart.startIfDue.otpPump := by
  have boot : (s.coreCleared cause p o q).boot = s.boot := (s.coreCleared_touches cause p o q).boot.resolve_left (by decide)
  have stopped : s.boot.phase.isRunning = false := by
    cases at_ : s.boot.phase <;> simp_all [BootPhase.loaded, BootPhase.isRunning]
  have restarted : (s.noteCause cause p o q).coreRestart cause =
      (s.coreCleared cause p o q).finishAborts.endRestart.startIfDue := by
    rw [State.coreRestart_eq, boot, unloaded, stopped, Bool.and_false, if_neg (by decide), if_neg (by decide)]
  rw [execCoreReset_of due root, restarted]
  rfl

end

/-! ### The SYSTEM reset -/

/-- Settles O33: SYSTEM leaves what `systemState` keeps of the state whose window is closed; CORE recovers an empty journal, and
its dump is written unless an unread one is held. -/
theorem resetsKeepTheirTables : Obligations.ResetsKeepTheirTables := by
  unfold Obligations.ResetsKeepTheirTables
  refine ⟨fun s cause p o q due root => ?_, fun s cause n p o q due root =>
    ⟨execCoreReset_running due root, execCoreReset_damaged due root, execCoreReset_unloaded due root⟩⟩
  have kept := s.endWindow_touches
  have otp : s.endWindow.otp = s.otp := kept.otp_eq (by decide)
  have power : s.endWindow.power = s.power := kept.power_eq (by decide)
  refine ⟨s.endWindow.systemState.noteCause cause p o q, ?_, rfl, rfl, rfl, rfl, rfl, ?_, ?_, rfl, rfl, rfl, rfl, rfl, rfl, rfl, rfl, rfl,
    rfl, rfl, rfl, rfl, rfl, ?_, fun free => ?_⟩
  · simp only [exec, execSystemReset, due]
    exact nextIf_of root
  · have same := congrArg Power.rootLost power
    exact same
  · have same := congrArg Power.crossFault power
    exact same
  · unfold State.noteCause State.systemState
    rw [otp]
    cases s.otp.busy <;> rfl
  · unfold State.noteCause State.systemState
    rw [otp, free]

end Sys2Proof.Machine
end

section
/-!
PROOF. The rules of a Weft lane: what a request at its C2 does, and what an answer, an issue and an acceptance leave
(R63 to R72, R437, R438).
-/
namespace Sys2Proof.Machine

/-! ### Lanes of the state -/

theorem Touches.lane {F : List Part} {s t : State} (h : Touches F s t) (n : Part.weft ∉ F) (k : Nat) : t.lane k = s.lane k := by
  unfold State.lane
  rw [h.weft.resolve_left n]

theorem Touches.out_eq {F : List Part} {s t : State} (h : Touches F s t) (n : Part.out ∉ F) : t.out = s.out := h.out.resolve_left n

theorem Touches.arrs_eq {F : List Part} {s t : State} (h : Touches F s t) (n : Part.arrs ∉ F) : t.tables.arrs = s.tables.arrs :=
  (h.tables.arrs.resolve_left n).1

/-! ### Answers -/

/-- A host request behind no outstanding read of its line is answered at once (R438). -/
theorem State.answer_host {s : State} {n : Nat} {r : LineReq} (host : r.src = .host) (last : (s.lane n).lastRead r = none)
    (st : Nat) (data : Line) :
    s.answer n r st data = s.emit (.hpRsp n r.tag (if r.op == .read then 0 else 1) (st != stOk) st data) := by
  unfold State.answer State.hpAnswer
  rw [host, last]

theorem State.getLast_emit (s : State) (o : Output) : (s.emit o).out.getLast? = some o := List.getLast?_concat

/-! ### The Selvedge buffer alone -/

/-- The lanes differ in their Selvedge buffer alone. -/
def Lane.SameButSelv (l m : Lane) : Prop := m = { l with selv := m.selv }

theorem Lane.SameButSelv.refl (l : Lane) : l.SameButSelv l := rfl

theorem Lane.SameButSelv.trans {l m o : Lane} (h : l.SameButSelv m) (k : m.SameButSelv o) : l.SameButSelv o := by
  unfold Lane.SameButSelv at h k ⊢
  rw [k, h]

section
variable {l m : Lane} (h : l.SameButSelv m)
include h

theorem Lane.SameButSelv.ingress : m.ingress = l.ingress := by rw [h]
theorem Lane.SameButSelv.reads : m.reads = l.reads := by rw [h]
theorem Lane.SameButSelv.nextRead : m.nextRead = l.nextRead := by rw [h]

end

theorem Lane.selvPut_same (l : Lane) (e : SelvEntry) : l.SameButSelv (l.selvPut e) := rfl

theorem Lane.setTag_same (l : Lane) (psel field : Nat) (f : TagField) : l.SameButSelv (l.setTag psel field f) := by
  unfold Lane.setTag
  split
  · exact l.selvPut_same _
  · exact Lane.SameButSelv.refl l

theorem Lane.touchSelv_same (l : Lane) (psel : Nat) (fetch : Bool) : l.SameButSelv (l.touchSelv psel fetch) := by
  unfold Lane.touchSelv
  split
  · exact l.selvPut_same _
  · exact Lane.SameButSelv.refl l

theorem State.selvAlloc_same {s : State} {l m : Lane} {ldi psel : Nat} (h : s.selvAlloc l ldi psel = some m) : l.SameButSelv m := by
  unfold State.selvAlloc at h
  dsimp only at h
  split at h
  · cases h
    exact l.selvPut_same _
  · split at h
    · cases h
      exact l.selvPut_same _
    · split at h
      · cases h
        rfl
      · cases h

/-! ### Acceptance (R67, R68) -/

/-- What an accepted write adds to the ingress buffer. -/
def Lane.EntersWrite (l m : Lane) (r : LineReq) (plain : Line) : Prop :=
  (∃ e : IngressEntry, m.ingress = l.ingress ++ [e] ∧ e.req = { r with data := plain }) ∧ m.reads = l.reads

theorem Lane.EntersWrite.forward {l m : Lane} {r : LineReq} {plain : Line} (h : l.EntersWrite m r plain) :
    m.forward r.dli = some plain := by
  obtain ⟨⟨e, ingress, req⟩, -⟩ := h
  have own : (e.req.dli == r.dli) = true := by rw [req]; exact beq_self_eq_true _
  unfold Lane.forward Lane.accepted
  rw [ingress, List.filter_append, List.filter_cons_of_pos (p := fun x : IngressEntry => x.req.dli == r.dli) own,
    List.filter_nil, List.getLast?_concat, Option.map_some, req]

theorem Lane.joinGroup_enters (b : Build) (l : Lane) (id dli : Nat) :
    (l.joinGroup b id dli).ingress = l.ingress ∧ (l.joinGroup b id dli).reads = l.reads := by
  unfold Lane.joinGroup
  split
  · exact ⟨rfl, rfl⟩
  · split <;> exact ⟨rfl, rfl⟩

theorem State.enterWrite_lane (s : State) (n : Nat) (r : LineReq) (plain : Line) :
    (s.lane n).EntersWrite ((s.enterWrite n r plain).lane n) r plain := by
  unfold State.enterWrite
  dsimp only
  rw [State.setLane_lane]
  have room : (s.lane n).SameButSelv ((s.selvAlloc (s.lane n) r.ldi (s.build.psel r.dli)).getD (s.lane n)) := by
    cases had : s.selvAlloc (s.lane n) r.ldi (s.build.psel r.dli) with
    | none => exact Lane.SameButSelv.refl _
    | some m => exact State.selvAlloc_same had
  generalize (s.selvAlloc (s.lane n) r.ldi (s.build.psel r.dli)).getD (s.lane n) = m at room ⊢
  generalize ({ tag := _, valid := true, dirty := true } : TagField) = f
  have tagged := room.trans (m.setTag_same (s.build.psel r.dli) (s.build.tagField r.dli) f)
  generalize m.setTag (s.build.psel r.dli) (s.build.tagField r.dli) f = o at tagged ⊢
  constructor
  · refine ⟨{ id := o.nextEntry, req := { r with data := plain } }, ?_, rfl⟩
    rw [(Lane.joinGroup_enters _ _ _ _).1, ← tagged.ingress]
  · rw [(Lane.joinGroup_enters _ _ _ _).2, ← tagged.reads]

/-- The state in which an accepted write has been entered and counted, and its line has left the failing-line table. -/
def State.writeCounted (s : State) (n : Nat) (r : LineReq) (plain : Line) : State :=
  let t := s.enterWrite n r plain
  (t.setLane n { t.lane n with failing := (t.lane n).failing.filter (fun x => x.1 != r.dli) }).countLine n
    (if r.op == .masked then 2 else 1) r

theorem State.writeCounted_touches (s : State) (n : Nat) (r : LineReq) (plain : Line) :
    Touches [.weft, .tallies, .counters, .trace] s (s.writeCounted n r plain) :=
  (((State.enterWrite_touches s n r plain).mono (by decide)).trans ((State.setLane_touches _ _ _).mono (by decide))).trans
    ((State.countLine_touches _ _ _ _).mono (by decide))

theorem State.writeCounted_lane (s : State) (n : Nat) (r : LineReq) (plain : Line) :
    (s.lane n).EntersWrite ((s.writeCounted n r plain).lane n) r plain := by
  unfold State.writeCounted
  dsimp only
  rw [(State.countLine_touches _ _ _ _).lane (by decide), State.setLane_lane]
  exact s.enterWrite_lane n r plain

/-- Bytes that an accepted write adds to its arrival counter. -/
def LineReq.bytes (r : LineReq) : Nat := if r.op == .masked then beCount r.be else 64

theorem State.arrive_none (s : State) (n : Nat) : (s.arrive 0 n) = s := by
  unfold State.arrive
  split
  · exact if_pos rfl
  · rfl

theorem State.arrive_adds {s : State} {i : Nat} {a : Arrival} (n : Nat) (own : s.tables.arrs.find i = some a) (named : i ≠ 0) :
    (s.arrive i n).tables.arrs.find i = some { a with bytes := (a.bytes + n) % 2 ^ 46 } ∧
      Output.bpArr i a.ldi ((a.bytes + n) % 2 ^ 46) ∈ (s.arrive i n).out := by
  unfold State.arrive
  rw [own]
  simp only [beq_eq_false_iff_ne.2 named, Bool.false_eq_true, if_false]
  exact ⟨Map.find_put_self _ _ _, State.mem_emit _ _⟩

section
variable {s : State} {n : Nat} {r : LineReq} {plain : Line}

/-- A host write that is accepted is acknowledged, its line is there for later reads, and its arrival counter has its bytes. -/
theorem State.acceptWrite_host (host : r.src = .host) (write : r.op ≠ .read) (last : (s.lane n).lastRead r = none) :
    (s.acceptWrite n r plain).out.getLast? = some (.hpRsp n r.tag 1 false stOk 0) ∧
    ((s.acceptWrite n r plain).lane n).forward r.dli = some plain ∧
    (r.arr = 0 → (s.acceptWrite n r plain).tables.arrs = s.tables.arrs) ∧
    (∀ a, r.arr ≠ 0 → s.tables.arrs.find r.arr = some a →
      (s.acceptWrite n r plain).tables.arrs.find r.arr = some { a with bytes := (a.bytes + r.bytes) % 2 ^ 46 } ∧
      Output.bpArr r.arr a.ldi ((a.bytes + r.bytes) % 2 ^ 46) ∈ (s.acceptWrite n r plain).out) := by
  have counted := s.writeCounted_touches n r plain
  have entered := s.writeCounted_lane n r plain
  have arrs := counted.arrs_eq (by decide)
  have accepted : s.acceptWrite n r plain = ((s.writeCounted n r plain).arrive r.arr r.bytes).answer n r stOk 0 := rfl
  generalize s.writeCounted n r plain = u at counted entered arrs accepted
  have lane : (u.arrive r.arr r.bytes).lane n = u.lane n := (u.arrive_touches r.arr r.bytes).lane (by decide) n
  have clear : ((u.arrive r.arr r.bytes).lane n).lastRead r = none := by
    rw [lane]
    unfold Lane.lastRead at last ⊢
    rw [entered.2]
    exact last
  have code : (if r.op == .read then 0 else 1) = 1 := if_neg (by simpa using write)
  rw [accepted, State.answer_host host clear, code]
  refine ⟨State.getLast_emit _ _, ?_, fun none => ?_, fun a named own => ?_⟩
  · exact (congrArg (fun l : Lane => l.forward r.dli) lane).trans entered.forward
  · rw [none, State.arrive_none]
    exact arrs
  · obtain ⟨added, out⟩ := State.arrive_adds (s := u) r.bytes (arrs ▸ own) named
    exact ⟨added, State.outKept_emit _ _ _ out⟩

/-! ### C2 (R63) -/

/-- A request that is not in the way of another is refused by its ownership check, or passes it. -/
theorem State.passC2_free (free : (s.lane n).blocked r.dli = false) (new : r.c2 = none) :
    s.passC2 n r = if s.gotCheck r = stOk then s.passLine n (s.checkC2 r) else s.refuseLine n (s.checkC2 r) (s.gotCheck r) := by
  have checked : (s.checkC2 r).c2 = some (s.gotCheck r) := rfl
  unfold State.passC2
  dsimp only
  rw [free, new]
  simp only [Option.isNone_none, Bool.true_or, if_true, Bool.false_eq_true, if_false, checked, Option.getD_some]
  by_cases ok : s.gotCheck r = stOk
  · simp [ok]
  · simp [ok]

/-- A refused host request is answered with the status, behind whatever the fence table had waiting. -/
theorem State.refuseLine_host (host : r.src = .host) (last : (s.lane n).lastRead r = none) (status : Nat) :
    (s.refuseLine n r status).out.getLast? =
      some (.hpRsp n r.tag (if r.op == .read then 0 else 1) (status != stOk) status 0) := by
  have bound : Touches [.tallies, .fences, .log, .counters, .trace, .out] s (s.bindLine r status).settle :=
    ((s.bindLine_touches r status).mono (by decide)).trans (State.settle_touches _)
  have clear : ((s.bindLine r status).settle.lane n).lastRead r = none := by rw [bound.lane (by decide), last]
  unfold State.refuseLine
  rw [State.answer_host host clear]
  exact State.getLast_emit _ _

end

end Sys2Proof.Machine
end

section
/-!
PROOF. Host reads and writes of protected lines (R63 to R68, R125, R437, R438).
-/
namespace Sys2Proof.Machine

/-- The lane has used its GOT cache entry for the request. -/
def State.gotUsed (s : State) (r : HpReq) : State := s.setLane r.lane ((s.lane r.lane).gotTouch (granuleOf r.dli))

theorem State.gotUsed_lane (s : State) (r : HpReq) : (s.gotUsed r).lane r.lane = (s.lane r.lane).gotTouch (granuleOf r.dli) :=
  State.setLane_lane _ _ _

section
variable {s : State} {r : HpReq} {op : LineOp} (takes : LaneTakes s r op)
include takes

/-- A request that the lane takes at once is at its C2. -/
theorem State.hpTake_eq : s.hpTake r op = (s.gotUsed r).passC2 r.lane (hpLine r op) := by
  obtain ⟨ready, code, form, lane, alive, held, fetched, -, -, -⟩ := takes
  have row : (!s.hpReady r op || (decide (r.op ≤ 2) && r.op != op.code)) = false := by simp [ready, code]
  have here : (s.build.laneOf r.dli != r.lane) = false := by simp [lane]
  have looked : s.lookup r.lane (hpLine r op) = some ((s.gotUsed r).passC2 r.lane (hpLine r op)) := by
    unfold State.lookup
    have missed : (s.lane r.lane).misses.any (fun m => m.1 == granuleOf (hpLine r op).dli) = false := fetched
    have cached : (s.lane r.lane).got.contains (granuleOf (hpLine r op).dli) = true := held
    simp only [missed, cached, Bool.false_eq_true, if_false, if_true]
    rfl
  unfold State.hpTake
  simp only [row, form, here, alive, Bool.false_eq_true, if_false, looked, Option.getD_some]

/-- What the ownership check answers decides between refusal and the request's own rule. -/
theorem State.hpTake_checked : s.hpTake r op =
    if s.gotCheck (hpLine r op) = stOk then (s.gotUsed r).passLine r.lane (s.checkC2 (hpLine r op))
    else (s.gotUsed r).refuseLine r.lane (s.checkC2 (hpLine r op)) (s.gotCheck (hpLine r op)) := by
  rw [State.hpTake_eq takes]
  obtain ⟨-, -, -, -, -, -, -, -, free, -⟩ := takes
  refine State.passC2_free ?_ rfl
  rw [State.gotUsed_lane]
  exact free

theorem State.gotUsed_lastRead : ((s.gotUsed r).lane r.lane).lastRead (s.checkC2 (hpLine r op)) = none := by
  obtain ⟨-, -, -, -, -, -, -, -, -, last⟩ := takes
  rw [State.gotUsed_lane]
  exact last

/-- A request of a domain with its keys goes by its own rule where its arrival counter is its own. -/
theorem State.gotUsed_passLine (own : s.badArr (hpLine r op) = false) :
    (s.gotUsed r).passLine r.lane (s.checkC2 (hpLine r op)) =
      match op with
      | .read => (s.gotUsed r).passRead r.lane (s.checkC2 (hpLine r .read))
      | .full => (s.gotUsed r).passFull r.lane (s.checkC2 (hpLine r .full))
      | .masked => if r.be == BitVec.allOnes 64 then
          (s.gotUsed r).passFull r.lane { s.checkC2 (hpLine r .masked) with op := .full }
        else (s.gotUsed r).passMerge r.lane (s.checkC2 (hpLine r .masked)) := by
  obtain ⟨-, -, -, -, -, -, -, keyed, -, -⟩ := takes
  have key : (s.gotUsed r).keyless (s.checkC2 (hpLine r op)).ldi = false := keyed
  have arr : (s.gotUsed r).badArr (s.checkC2 (hpLine r op)) = false := own
  unfold State.passLine
  rw [key, arr]
  cases op <;> rfl

/-- A write that names a counter of another LDI, or none that is allocated, is refused, and leaves its line as it was (R125). -/
theorem State.hpTake_badArr (ok : s.gotCheck (hpLine r op) = stOk) (bad : s.badArr (hpLine r op) = true) (write : op ≠ .read) :
    (s.hpTake r op).out.getLast? = some (.hpRsp r.lane r.tag 1 true stBadParam 0) ∧
      ((s.hpTake r op).lane r.lane).forward r.dli = (s.lane r.lane).forward r.dli := by
  have last := State.gotUsed_lastRead takes
  have clear : (((s.gotUsed r).post r.ldi 0 stBadParam .weft).settle.lane r.lane).lastRead (s.checkC2 (hpLine r op)) = none := by
    rw [(State.settle_touches _).lane (by decide), (State.post_touches _ _ _ _ _).lane (by decide), last]
  have forward : (((s.gotUsed r).post r.ldi 0 stBadParam .weft).settle.lane r.lane).forward r.dli = (s.lane r.lane).forward r.dli := by
    rw [(State.settle_touches _).lane (by decide), (State.post_touches _ _ _ _ _).lane (by decide), State.gotUsed_lane]
    rfl
  have code : (if (op == .read) = true then 0 else 1) = 1 := if_neg (by simpa using write)
  rw [State.hpTake_checked takes, if_pos ok]
  obtain ⟨-, -, -, -, -, -, -, keyed, -, -⟩ := takes
  have key : (s.gotUsed r).keyless (s.checkC2 (hpLine r op)).ldi = false := keyed
  have arr : (s.gotUsed r).badArr (s.checkC2 (hpLine r op)) = true := bad
  unfold State.passLine
  rw [key, arr]
  simp only [Bool.false_eq_true, if_false, if_true]
  rw [show (s.checkC2 (hpLine r op)).ldi = r.ldi from rfl, State.answer_host rfl clear]
  refine ⟨?_, forward⟩
  rw [State.getLast_emit]
  exact congrArg (fun k => some (Output.hpRsp r.lane r.tag k true stBadParam 0)) code

end

/-! ### Reads -/

section
variable {s : State} {r : HpReq} (takes : LaneTakes s r .read)
include takes

theorem State.hpRead_refused (bad : s.gotCheck (hpLine r .read) ≠ stOk) :
    (s.hpTake r .read).out.getLast? = some (.hpRsp r.lane r.tag 0 true (s.gotCheck (hpLine r .read)) 0) := by
  rw [State.hpTake_checked takes, if_neg bad, State.refuseLine_host rfl (State.gotUsed_lastRead takes)]
  have error : (s.gotCheck (hpLine r .read) != stOk) = true := by simpa using bad
  rw [error]
  rfl

/-- An accepted write of the line answers the read (R66). -/
theorem State.hpRead_forwarded {p : Line} (ok : s.gotCheck (hpLine r .read) = stOk)
    (covered : (s.lane r.lane).forward r.dli = some p) :
    (s.hpTake r .read).out = s.out ++ [.hpRsp r.lane r.tag 0 false stOk p] := by
  have last := State.gotUsed_lastRead takes
  have there : ((s.gotUsed r).lane r.lane).forward (s.checkC2 (hpLine r .read)).dli = some p := by
    rw [State.gotUsed_lane]
    exact covered
  have counted := (s.gotUsed r).countRead_touches r.lane (s.checkC2 (hpLine r .read))
  have clear : (((s.gotUsed r).countRead r.lane (s.checkC2 (hpLine r .read))).lane r.lane).lastRead (s.checkC2 (hpLine r .read)) = none := by
    rw [counted.lane (by decide), last]
  rw [State.hpTake_checked takes, if_pos ok, State.gotUsed_passLine takes rfl]
  dsimp only
  unfold State.passRead
  simp only [there, last, Option.isSome_none, Bool.and_false, Bool.false_eq_true, if_false]
  rw [State.answer_host rfl clear, State.emit_out, counted.out_eq (by decide)]
  rfl

end

/-- A group that has been appended has taken no command tag. -/
theorem Lane.freeTags_append (l : Lane) (g : ReadGroup) (data : g.dataTag = none) (sel : g.selTag = none) (next k : Nat) :
    Lane.freeTags { l with reads := l.reads ++ [g], nextRead := next } k = l.freeTags k := by
  have tags : Lane.tags { l with reads := l.reads ++ [g], nextRead := next } = l.tags := by
    unfold Lane.tags
    simp [List.flatMap_append, data, sel]
  unfold Lane.freeTags
  rw [tags]

/-- A read group whose tag is held issues its data read alone (R70). -/
theorem State.issueGroup_held {s : State} {n k : Nat} {g : ReadGroup} {x : BitVec 64}
    (held : (s.lane n).tagHeld (s.build.psel g.req.dli) (s.build.tagField g.req.dli) = some x)
    (free : (s.lane n).freeTags 1 = some [k]) (mem : g ∈ (s.lane n).reads) :
    ∃ t, s.issueGroup n g = some t ∧
      t.out = s.out ++ [.mpCmd n 0 (s.build.pdata g.req.dli) (s.lane n).nextGroup true k 0 0] ∧
      { g with issued := true, dataTag := some k, storedTag := some x } ∈ (t.lane n).reads := by
  unfold State.issueGroup
  dsimp only
  rw [held, free]
  refine ⟨_, rfl, rfl, ?_⟩
  have same := (s.lane n).touchSelv_same (s.build.psel g.req.dli) false
  rw [show ∀ (u : State) (o : Output), (u.emit o).lane n = u.lane n from fun _ _ => rfl, State.setLane_lane]
  unfold Lane.setGroup
  refine List.mem_map.2 ⟨g, same.reads ▸ mem, ?_⟩
  rw [if_pos (beq_self_eq_true _)]

/-- A read whose tag is held is issued with its data read alone. -/
theorem State.issueRead_held {s : State} {n k : Nat} {r : LineReq} {x : BitVec 64}
    (held : (s.lane n).tagHeld (s.build.psel r.dli) (s.build.tagField r.dli) = some x) (free : (s.lane n).freeTags 1 = some [k]) :
    (s.issueRead n r).out = s.out ++ [.mpCmd n 0 (s.build.pdata r.dli) (s.lane n).nextGroup true k 0 0] ∧
      ∃ g ∈ ((s.issueRead n r).lane n).reads, g.req = { r with order := some (s.lane n).nextRead } ∧
        g.issued = true ∧ g.dataTag = some k ∧ g.storedTag = some x := by
  unfold State.issueRead
  dsimp only
  generalize group : ({ id := (s.lane n).nextRead, req := { r with order := some (s.lane n).nextRead } } : ReadGroup) = g
  have req : g.req = { r with order := some (s.lane n).nextRead } := by rw [← group]
  have line : g.req.dli = r.dli := by rw [req]
  generalize queued : s.setLane n { s.lane n with reads := (s.lane n).reads ++ [g], nextRead := (s.lane n).nextRead + 1 } = u
  have lane : u.lane n = { s.lane n with reads := (s.lane n).reads ++ [g], nextRead := (s.lane n).nextRead + 1 } := by
    rw [← queued, State.setLane_lane]
  have build : u.build = s.build := by rw [← queued]; rfl
  have out : u.out = s.out := by rw [← queued]; rfl
  obtain ⟨t, issued, sent, mem⟩ := State.issueGroup_held (s := u) (n := n) (k := k) (g := g) (x := x)
    (by rw [lane, build, line]; exact held)
    (by rw [lane, Lane.freeTags_append _ _ (by rw [← group]) (by rw [← group])]; exact free)
    (by rw [lane]; exact List.mem_append_right _ List.mem_cons_self)
  rw [issued, Option.getD_some]
  refine ⟨?_, _, mem, req, rfl, rfl, rfl⟩
  rw [sent, out, build, line, lane]

theorem State.hpRead_issued {s : State} {r : HpReq} (takes : LaneTakes s r .read) {k : Nat} {x : BitVec 64}
    (ok : s.gotCheck (hpLine r .read) = stOk) (absent : (s.lane r.lane).forward r.dli = none)
    (held : (s.lane r.lane).tagHeld (s.build.psel r.dli) (s.build.tagField r.dli) = some x)
    (free : (s.lane r.lane).freeTags 1 = some [k]) :
    (s.hpTake r .read).out = s.out ++ [.mpCmd r.lane 0 (s.build.pdata r.dli) (s.lane r.lane).nextGroup true k 0 0] ∧
      ∃ g ∈ ((s.hpTake r .read).lane r.lane).reads,
        g.req = { s.checkC2 (hpLine r .read) with order := some (s.lane r.lane).nextRead } ∧
        g.issued = true ∧ g.dataTag = some k ∧ g.storedTag = some x := by
  have used := s.gotUsed_lane r
  have uncovered : ((s.gotUsed r).lane r.lane).forward (s.checkC2 (hpLine r .read)).dli = none := by
    rw [used]
    exact absent
  have issued : s.hpTake r .read = (s.gotUsed r).issueRead r.lane (s.checkC2 (hpLine r .read)) := by
    rw [State.hpTake_checked takes, if_pos ok, State.gotUsed_passLine takes rfl]
    dsimp only
    unfold State.passRead
    simp only [uncovered]
  obtain ⟨sent, group⟩ := State.issueRead_held (s := s.gotUsed r) (n := r.lane) (r := s.checkC2 (hpLine r .read)) (k := k) (x := x)
    (by rw [used]; exact held) (by rw [used]; exact free)
  rw [issued]
  rw [used] at sent group
  exact ⟨sent, group⟩

/-! ### Writes -/

/-- What an acknowledged write leaves: its acknowledgement, its line, and the bytes of its arrival counter. -/
def WriteAcked (s t : State) (r : HpReq) (p : Line) (n : Nat) (a : Arrival) : Prop :=
  t.out.getLast? = some (.hpRsp r.lane r.tag 1 false stOk 0) ∧ (t.lane r.lane).forward r.dli = some p ∧
    (r.arr = 0 → t.tables.arrs = s.tables.arrs) ∧
    (s.arrOk r.ldi r.arr = true → s.tables.arrs.find r.arr = some a →
      t.tables.arrs.find r.arr = some { a with bytes := (a.bytes + n) % 2 ^ 46 } ∧
        .bpArr r.arr a.ldi ((a.bytes + n) % 2 ^ 46) ∈ t.out)

theorem State.ne_zero_of_arrOk {s : State} {l i : Nat} (h : s.arrOk l i = true) : i ≠ 0 := by
  rintro rfl
  unfold State.arrOk at h
  split at h
  · simp at h
  · cases h

theorem State.badArr_of_free {s : State} {r : HpReq} (op : LineOp) (free : r.arr = 0 ∨ s.arrOk r.ldi r.arr = true) :
    s.badArr (hpLine r op) = false := by
  show (op != .read && r.arr != 0 && !s.arrOk r.ldi r.arr) = false
  rcases free with zero | own
  · simp [zero]
  · simp [own]

section
variable {s : State} {r : HpReq} {op : LineOp} (takes : LaneTakes s r op)
include takes

theorem State.acceptWrite_acked (write : op ≠ .read) (p : Line) (a : Arrival) :
    WriteAcked s ((s.gotUsed r).acceptWrite r.lane (s.checkC2 (hpLine r op)) p) r p (s.checkC2 (hpLine r op)).bytes a := by
  have last := State.gotUsed_lastRead takes
  obtain ⟨acked, line, none, adds⟩ :=
    State.acceptWrite_host (s := s.gotUsed r) (n := r.lane) (r := s.checkC2 (hpLine r op)) (plain := p) rfl write last
  exact ⟨acked, line, none, fun own found => adds a (State.ne_zero_of_arrOk own) found⟩

end

theorem State.hpFull_acked {s : State} {r : HpReq} (takes : LaneTakes s r .full) (free : r.arr = 0 ∨ s.arrOk r.ldi r.arr = true)
    (ok : s.gotCheck (s.checkC2 (hpLine r .full)) = stOk)
    (ready : s.selvReady ((s.lane r.lane).gotTouch (granuleOf r.dli)) (s.checkC2 (hpLine r .full)) = true)
    (sound : (s.lane r.lane).failing.contains (r.dli, r.ldi) = false) (calm : (s.lane r.lane).overflow.contains r.ldi = false)
    (a : Arrival) : WriteAcked s (s.hpTake r .full) r r.data 64 a := by
  have passed : (s.gotUsed r).passFull r.lane (s.checkC2 (hpLine r .full)) =
      (s.gotUsed r).acceptWrite r.lane (s.checkC2 (hpLine r .full)) r.data := by
    have known : ((s.gotUsed r).lane r.lane).failing.contains (r.dli, r.ldi) = false := by rw [State.gotUsed_lane]; exact sound
    have overflow : ((s.gotUsed r).lane r.lane).overflow.contains r.ldi = false := by rw [State.gotUsed_lane]; exact calm
    have room : (s.gotUsed r).selvReady ((s.gotUsed r).lane r.lane) (s.checkC2 (hpLine r .full)) = true := by
      rw [State.gotUsed_lane]; exact ready
    unfold State.passFull
    have fields : (s.checkC2 (hpLine r .full)).src = .host ∧ (s.checkC2 (hpLine r .full)).dli = r.dli ∧
        (s.checkC2 (hpLine r .full)).ldi = r.ldi ∧ (s.checkC2 (hpLine r .full)).data = r.data := ⟨rfl, rfl, rfl, rfl⟩
    obtain ⟨src, dli, ldi, data⟩ := fields
    simp only [src, dli, ldi, data, known, overflow, room, Bool.false_and, Bool.false_eq_true, if_false, if_true]
    rfl
  rw [State.hpTake_checked takes, if_pos (show s.gotCheck (hpLine r .full) = stOk from ok),
    State.gotUsed_passLine takes (State.badArr_of_free _ free)]
  dsimp only
  rw [passed]
  exact State.acceptWrite_acked takes (by decide) r.data a

theorem State.hpMasked_acked {s : State} {r : HpReq} (takes : LaneTakes s r .masked)
    (free : r.arr = 0 ∨ s.arrOk r.ldi r.arr = true) (ok : s.gotCheck (s.checkC2 (hpLine r .masked)) = stOk)
    (ready : s.selvReady ((s.lane r.lane).gotTouch (granuleOf r.dli)) (s.checkC2 (hpLine r .masked)) = true)
    (part : r.be ≠ BitVec.allOnes 64) {p : Line} (covered : (s.lane r.lane).forward r.dli = some p) (a : Arrival) :
    WriteAcked s (s.hpTake r .masked) r (mergeLine p r.data r.be) (beCount r.be) a := by
  have passed : (s.gotUsed r).passMerge r.lane (s.checkC2 (hpLine r .masked)) =
      (s.gotUsed r).acceptWrite r.lane (s.checkC2 (hpLine r .masked)) (mergeLine p r.data r.be) := by
    have there : ((s.gotUsed r).lane r.lane).forward (s.checkC2 (hpLine r .masked)).dli = some p := by
      rw [State.gotUsed_lane]; exact covered
    have room : (s.gotUsed r).selvReady ((s.gotUsed r).lane r.lane) (s.checkC2 (hpLine r .masked)) = true := by
      rw [State.gotUsed_lane]; exact ready
    unfold State.passMerge
    simp only [there, room, if_true]
    rfl
  rw [State.hpTake_checked takes, if_pos (show s.gotCheck (hpLine r .masked) = stOk from ok),
    State.gotUsed_passLine takes (State.badArr_of_free _ free)]
  dsimp only
  rw [if_neg (by simpa using part), passed]
  exact State.acceptWrite_acked takes (by decide) _ a

/-- Settles O35: a request that the lane takes at once passes its C2, and is refused, answered, issued or accepted there. -/
theorem hostRequestsTakeEffect : Obligations.HostRequestsTakeEffect := by
  unfold Obligations.HostRequestsTakeEffect
  refine ⟨fun s r p k x takes => ⟨fun ok covered => ⟨_, rfl, State.hpRead_forwarded takes ok covered⟩,
    fun ok absent held free => ⟨_, rfl, State.hpRead_issued takes ok absent held free⟩,
    fun bad => ⟨_, rfl, State.hpRead_refused takes bad⟩⟩, fun s r p a => ⟨?_, ?_, ?_⟩⟩
  · intro op write takes ok named foreign
    have bad : s.badArr (hpLine r op) = true := by
      show (op != .read && r.arr != 0 && !s.arrOk r.ldi r.arr) = true
      simp [write, named, foreign]
    refine ⟨s.hpTake r op, ?_, ?_, State.hpTake_badArr takes ok bad write⟩
    · rintro rfl
      rfl
    · rintro rfl
      rfl
  · intro takes free q ok ready sound calm
    obtain ⟨acked, line, adds⟩ := State.hpFull_acked takes free ok ready sound calm a
    exact ⟨_, rfl, acked, line, adds⟩
  · intro takes free q ok ready part covered
    obtain ⟨acked, line, adds⟩ := State.hpMasked_acked takes free ok ready part covered a
    exact ⟨_, rfl, acked, line, adds⟩

end Sys2Proof.Machine
end

section
/-!
PROOF. The last return of a host read (R65, R77, R79, R80, R438, R441).
-/
namespace Sys2Proof.Machine

theorem Touches.memKeys {F : List Part} {s t : State} (h : Touches F s t) (n : Part.keys ∉ F) (l : Nat) : t.memKeys l = s.memKeys l := by
  have slot (i : Nat) : t.keyAt (.slot i) = s.keyAt (.slot i) := by
    show (t.keySlot i).key = (s.keySlot i).key
    unfold State.keySlot
    rw [h.keys.resolve_left n]
  unfold State.memKeys
  simp only [slot]

theorem Touches.keyless {F : List Part} {s t : State} (h : Touches F s t) (n : Part.keys ∉ F) (l : Nat) : t.keyless l = s.keyless l := by
  unfold State.keyless State.keySlot
  rw [h.keys.resolve_left n]

/-! ### A lane with nothing left to do -/

/-- Nothing of the lane is to be issued, released or given out. -/
structure Lane.Idle (l : Lane) : Prop where
  reads : l.reads = []
  held : l.held = []
  owed : l.owed = []

/-- What the end of a read leaves of the state: its outputs, the integrity events, and the lane's failing-line table. -/
structure State.ReadEnds (s t : State) (n : Nat) : Prop where
  out : t.out = s.out
  integQ : t.weft.integQ = s.weft.integQ
  failing : (t.lane n).failing = (s.lane n).failing

/-- A lane in which every group is issued and nothing is held goes on with nothing. -/
theorem State.goOn_idle {s : State} {n : Nat} (issued : ∀ g ∈ (s.lane n).reads, g.issued = true) (held : (s.lane n).held = []) :
    s.goOn n = s.setLane n { s.lane n with held := [] } := by
  have waiting : (s.lane n).reads.filter (fun g => !g.issued) = [] :=
    List.filter_eq_nil_iff.2 fun g mem => by simp [issued g mem]
  unfold State.goOn State.issueWaiting State.releaseHeld
  rw [waiting]
  simp only [List.foldl_nil, held]

theorem State.payOwed_idle {s : State} {n : Nat} (k : Nat) (owed : (s.lane n).owed = []) :
    s.payOwed n k = (s.setLane n { s.lane n with owed := [] }).emitAll [] := by
  unfold State.payOwed
  simp only [owed, List.filter_nil, List.map_nil]

theorem State.readEnds_idle {s : State} {n : Nat} (k : Nat) (idle : (s.lane n).Idle) : s.ReadEnds ((s.payOwed n k).goOn n) n := by
  have paid : (s.payOwed n k).lane n = { s.lane n with owed := [] } := by
    rw [State.payOwed_idle k idle.owed]
    exact State.setLane_lane _ _ _
  rw [State.goOn_idle (by rw [paid, idle.reads]; exact fun _ mem => nomatch mem) (by rw [paid]; exact idle.held)]
  constructor
  · rw [State.payOwed_idle k idle.owed]
    exact List.append_nil _
  · rw [State.payOwed_idle k idle.owed]
    rfl
  · rw [State.setLane_lane, paid]

/-- The lane's one read group, complete, has its result (R65). -/
theorem State.finishLane_one {s : State} {n : Nat} {g : ReadGroup} (reads : (s.lane n).reads = [g]) (complete : g.complete = true)
    (order : g.req.order = some g.id)
    (idle : ((((s.setLane n { s.lane n with reads := [] }).groupResult n g)).lane n).Idle) :
    ((s.setLane n { s.lane n with reads := [] }).groupResult n g).ReadEnds (s.finishLane n) n := by
  have first : (s.lane n).early g = false := by
    have before : g.before g.req = false := by simp [ReadGroup.before, order]
    simp [Lane.early, Lane.lastRead, reads, before]
  have finished : s.finishLane n = (((s.setLane n { s.lane n with reads := [] }).groupResult n g).payOwed n g.id).goOn n := by
    have gone : (s.lane n).reads.filter (fun x => x.id != g.id) = [] := by simp [reads]
    unfold State.finishLane
    rw [reads, List.foldl_cons, List.foldl_nil]
    unfold State.finishGroup
    simp only [complete, first, gone, Bool.not_true, Bool.or_self, Bool.false_eq_true, if_false]
  rw [finished]
  exact State.readEnds_idle g.id idle

/-! ### The result of a host read -/

theorem Lane.lastRead_idle {l : Lane} (h : l.reads = []) (r : LineReq) : l.lastRead r = none := by
  unfold Lane.lastRead
  rw [h]
  rfl

theorem Lane.noteFailing_idle {l : Lane} (h : l.Idle) (dli ldi : Nat) : (l.noteFailing dli ldi).Idle := by
  unfold Lane.noteFailing
  split
  · exact h
  · split
    · exact ⟨h.reads, h.held, h.owed⟩
    · split
      · exact h
      · exact ⟨h.reads, h.held, h.owed⟩

theorem Lane.noteFailing_contains (l : Lane) (dli ldi : Nat) (room : l.failing.length < 256) :
    (l.noteFailing dli ldi).failing.contains (dli, ldi) = true := by
  unfold Lane.noteFailing
  split
  · next known => exact known
  · simp

section
variable {s : State} {n : Nat} {r : LineReq} (host : r.src = .host) (read : r.op = .read) (idle : (s.lane n).Idle)
include host read idle

/-- A line that verifies is answered with its plaintext. -/
theorem State.lineVerifies_host (plain : Line) :
    (s.lineVerifies n r plain false).out = s.out ++ [.hpRsp n r.tag 0 false stOk plain] ∧
      ((s.lineVerifies n r plain false).lane n).Idle := by
  unfold State.lineVerifies
  simp only [read, host, LineSrc.isScrub, Bool.false_eq_true, if_false]
  generalize cleared : s.setLane n { s.lane n with failing := (s.lane n).failing.filter (fun x => x.1 != r.dli) } = u
  have counted := u.countRead_touches n r
  have lane : (u.countRead n r).lane n = { s.lane n with failing := (s.lane n).failing.filter (fun x => x.1 != r.dli) } := by
    rw [counted.lane (by decide), ← cleared, State.setLane_lane]
  have out : (u.countRead n r).out = s.out := by
    rw [counted.out_eq (by decide), ← cleared]
    rfl
  rw [State.answer_host host (Lane.lastRead_idle (by rw [lane]; exact idle.reads) _), read]
  refine ⟨by rw [State.emit_out, out]; rfl, ?_⟩
  have same : ((u.countRead n r).emit (.hpRsp n r.tag 0 false stOk plain)).lane n = (u.countRead n r).lane n := rfl
  exact same ▸ lane ▸ ⟨idle.reads, idle.held, idle.owed⟩

/-- A line that fails is answered with no data, is an integrity event, and stands in the failing-line table. -/
theorem State.lineFails_host (ue : Bool) : ∃ e,
    (s.lineFails n r ue false).out.getLast? = some (.hpRsp n r.tag 0 true stIntegrity 0) ∧
      (s.lineFails n r ue false).weft.integQ = s.weft.integQ ++ [e] ∧ e.ldi = r.ldi ∧ e.dli = r.dli ∧ e.status = stIntegrity ∧
      (s.lineFails n r ue false).lane n = (s.lane n).noteFailing r.dli r.ldi := by
  unfold State.lineFails
  simp only [host, Bool.false_and, Bool.false_eq_true, if_false]
  generalize bound : (((s.bindLine r stIntegrity).setLane n ((s.lane n).noteFailing r.dli r.ldi)).bumpLane n 3).settle = u
  have lane : u.lane n = (s.lane n).noteFailing r.dli r.ldi := by
    rw [← bound, (State.settle_touches _).lane (by decide), (State.bumpLane_touches _ _ _).lane (by decide), State.setLane_lane]
  have queue : u.weft.integQ = s.weft.integQ := by
    rw [← bound, (State.settle_touches _).weft.resolve_left (by decide), (State.bumpLane_touches _ _ _).weft.resolve_left (by decide)]
    have same := congrArg Weft.integQ ((s.bindLine_touches r stIntegrity).weft.resolve_left (by decide))
    exact same
  rw [State.answer_host host (Lane.lastRead_idle (by rw [lane]; exact (Lane.noteFailing_idle idle _ _).reads) _), read]
  exact ⟨_, State.getLast_emit _ _, congrArg (· ++ [_]) queue, rfl, rfl, rfl, lane⟩

end

/-! ### The last return -/

/-- The group when its data has come. -/
def ReadGroup.returned (g : ReadGroup) (c : Line) (ecc : Nat) : ReadGroup :=
  { g with data := some c, dataTag := none, dramUe := g.dramUe || decide (2 ≤ ecc) }

/-- A return with a corrected error is counted. -/
def State.eccCounted (s : State) (ecc : Nat) : State :=
  if ecc == 1 then { s with counters := { s.counters with corrected := s.counters.corrected + 1 } } else s

theorem State.eccCounted_touches (s : State) (ecc : Nat) : Touches [.counters] s (s.eccCounted ecc) := by
  unfold State.eccCounted
  split
  · exact Touches.set_counters _ (Touches.refl _ _) (by decide)
  · exact Touches.refl _ _

section
variable {s : State} {n tag ecc : Nat} {c : Line} {g : ReadGroup}

/-- The return of the one outstanding data read fills its group and ends it. -/
theorem execMpReadReturn_one (up : s.clocked = true) (calm : (s.lane n).flushing = false) (reads : (s.lane n).reads = [g])
    (asked : g.dataTag = some tag) : execMpReadReturn n tag c ecc s =
      .next (((s.eccCounted ecc).setLane n { s.lane n with reads := [g.returned c ecc] }).finishLane n) := by
  have found : (s.lane n).reads.find? (fun g => g.dataTag == some tag) = some g := by simp [reads, asked]
  have filled : (s.lane n).reads.map (fun g => if g.dataTag == some tag then
      { g with data := some c, dataTag := none, dramUe := g.dramUe || decide (2 ≤ ecc) } else g) = [g.returned c ecc] := by
    simp [reads, asked, ReadGroup.returned]
  have clocked : (s.eccCounted ecc).clocked = true := by
    unfold State.clocked at up ⊢
    rw [(s.eccCounted_touches ecc).power_eq (by decide)]
    exact up
  unfold execMpReadReturn
  simp only [found, filled]
  exact nextIf_of (by rw [calm, Bool.not_false, Bool.and_true]; exact clocked)

/-- What becomes of a complete group of a running domain, by its tag (R65). -/
theorem State.groupResult_host {s : State} (gen : g.req.gen = (s.dom g.req.ldi).gen) (keyed : s.keyless g.req.ldi = false)
    (live : (s.dom g.req.ldi).state ≠ .aborted) (kept : g.cancelled = 0) (fresh : g.plain = none) :
    s.groupResult n g =
      if g.dramUe || lineTag (s.memKeys g.req.ldi) g.req.dli g.req.ldi g.req.gen (g.data.getD 0) != g.storedTag.getD 0 then
        s.lineFails n g.req g.dramUe false
      else s.lineVerifies n g.req (decryptLine (s.memKeys g.req.ldi) g.req.dli g.req.ldi g.req.gen (g.data.getD 0)) false := by
  have same : (g.req.gen != (s.dom g.req.ldi).gen) = false := by simp [gen]
  have running : ((s.dom g.req.ldi).state == .aborted) = false := beq_eq_false_iff_ne.2 live
  have counted : (g.cancelled != 0) = false := by simp [kept]
  unfold State.groupResult
  simp only [same, keyed, running, counted, fresh, Bool.or_self, Bool.false_eq_true, if_false]

end

/-- Settles O36: the last return of a read that was the lane's one group verifies the line, and answers it or fails it. -/
theorem readReturnsVerify : Obligations.ReadReturnsVerify := by
  unfold Obligations.ReadReturnsVerify
  intro s n tag ecc c g x up calm reads owed held asked nodata fresh order stored kept sound host read gen keyed live
  dsimp only
  have idle : ({ s.lane n with reads := [] } : Lane).Idle := ⟨rfl, held, owed⟩
  generalize returned : (s.eccCounted ecc).setLane n { s.lane n with reads := [g.returned c ecc] } = u
  have ended : exec (.mpReadReturn n tag c ecc) s = .next (u.finishLane n) := by
    rw [← returned]
    exact execMpReadReturn_one up calm reads asked
  have lane : u.lane n = { s.lane n with reads := [g.returned c ecc] } := by rw [← returned, State.setLane_lane]
  generalize emptied : u.setLane n { u.lane n with reads := [] } = v
  have vlane : v.lane n = { s.lane n with reads := [] } := by rw [← emptied, State.setLane_lane, lane]
  have vidle : (v.lane n).Idle := vlane ▸ idle
  have stays : Touches [.counters, .weft] s v := by
    rw [← emptied, ← returned]
    exact (((s.eccCounted_touches ecc).mono (by decide)).trans ((State.setLane_touches _ _ _).mono (by decide))).trans
      ((State.setLane_touches _ _ _).mono (by decide))
  have queue : v.weft.integQ = s.weft.integQ := by
    rw [← emptied, ← returned]
    have same := congrArg Weft.integQ ((s.eccCounted_touches ecc).weft.resolve_left (by decide))
    exact same
  have dom := stays.dom (by decide) g.req.ldi
  have memKeys := stays.memKeys (by decide) g.req.ldi
  have vkeyed := (stays.keyless (by decide) g.req.ldi).trans keyed
  have result := State.groupResult_host (n := n) (s := v) (g := g.returned c ecc)
    (by rw [show (g.returned c ecc).req = g.req from rfl, dom]; exact gen)
    vkeyed (by rw [show (g.returned c ecc).req = g.req from rfl, dom]; exact live) kept fresh
  have ends (ready : ((v.groupResult n (g.returned c ecc)).lane n).Idle) :
      (v.groupResult n (g.returned c ecc)).ReadEnds (u.finishLane n) n := by
    rw [← emptied] at ready ⊢
    exact State.finishLane_one (by rw [lane]) (by simp [ReadGroup.complete, ReadGroup.returned, stored]) order ready
  have tagged : (g.returned c ecc).storedTag.getD 0 = x := by
    show g.storedTag.getD 0 = x
    rw [stored, Option.getD_some]
  have ue : (g.returned c ecc).dramUe = decide (2 ≤ ecc) := by
    show (g.dramUe || decide (2 ≤ ecc)) = _
    rw [sound, Bool.false_or]
  rw [tagged, ue] at result
  refine ⟨fun clean verified => ?_, fun bad => ?_⟩
  · have good : (decide (2 ≤ ecc) || lineTag (v.memKeys g.req.ldi) g.req.dli g.req.ldi g.req.gen c != x) = false := by
      simp [memKeys, verified, Nat.not_le_of_lt clean]
    have answered := result.trans (if_neg (by rw [Bool.not_eq_true]; exact good))
    obtain ⟨sent, ready⟩ := State.lineVerifies_host (s := v) (n := n) (r := g.req) host read vidle
      (decryptLine (v.memKeys g.req.ldi) g.req.dli g.req.ldi g.req.gen c)
    have left := ends (by rw [answered]; exact ready)
    refine ⟨_, ended, ?_⟩
    rw [left.out, answered]
    exact sent.trans (by rw [stays.out_eq (by decide), memKeys])
  · have wrong : (decide (2 ≤ ecc) || lineTag (v.memKeys g.req.ldi) g.req.dli g.req.ldi g.req.gen c != x) = true := by
      simpa [memKeys] using bad
    have failed := result.trans (if_pos wrong)
    obtain ⟨e, sent, event, ldi, dli, status, noted⟩ := State.lineFails_host (s := v) (n := n) (r := g.req) host read vidle (decide (2 ≤ ecc))
    have left := ends (by rw [failed]; exact noted ▸ Lane.noteFailing_idle vidle _ _)
    refine ⟨_, e, ended, ?_, ?_, ldi, dli, status, fun room => ?_⟩
    · rw [left.out, failed]
      exact sent
    · rw [left.integQ, failed, ← queue]
      exact event
    · rw [left.failing, failed]
      refine noted ▸ Lane.noteFailing_contains _ _ _ ?_
      rw [vlane]
      exact room

end Sys2Proof.Machine
end

section
/-!
PROOF. GOT entries, write groups, acknowledgements and zeroing on a lane (R40, R41, R64, R71, R73).
-/
namespace Sys2Proof.Machine

/-! ### Write groups -/

theorem Lane.freeTags_length {l : Lane} {k : Nat} {tags : List Nat} (h : l.freeTags k = some tags) : tags.length = k := by
  unfold Lane.freeTags at h
  dsimp only at h
  split at h
  · next full =>
    cases h
    exact eq_of_beq full
  · cases h

theorem State.nextWriteGroup_ingress (s : State) (l : Lane) : (s.nextWriteGroup l).ingress = l.ingress := by
  unfold State.nextWriteGroup
  split
  · rfl
  · dsimp only
    split <;> rfl

theorem State.nextWriteGroup_reads (s : State) (l : Lane) :
    (s.nextWriteGroup l).reads = l.reads ∧ (s.nextWriteGroup l).held = l.held := by
  unfold State.nextWriteGroup
  split
  · exact ⟨rfl, rfl⟩
  · dsimp only
    split <;> exact ⟨rfl, rfl⟩

theorem Lane.mem_entriesOf {l : Lane} {ids : List Nat} {e : IngressEntry} (h : e ∈ l.entriesOf ids) : e ∈ l.ingress := by
  obtain ⟨i, -, found⟩ := List.mem_filterMap.1 h
  exact List.mem_of_find?_eq_some found

theorem State.badEntries_nil (s : State) (n : Nat) : s.badEntries n [] = s := by
  have none : (s.lane n).named [] = [] := List.filter_eq_nil_iff.2 fun _ _ => by simp
  unfold State.badEntries
  rw [none]
  rfl

/-- What the closing of a write group leaves: its commands are out, its entries issued, and the lane's reads as they were. -/
structure State.GroupIssued (s t : State) (n : Nat) (es : List IngressEntry) (k : Nat) : Prop where
  out : t.out.length = s.out.length + k
  issued : ∀ e ∈ es, ∃ x ∈ (t.lane n).ingress, x.id = e.id ∧ x.issued = true
  reads : (t.lane n).reads = (s.lane n).reads
  held : (t.lane n).held = (s.lane n).held

/-- An open group for which there are command tags is issued whole (R71). -/
theorem State.closeGroup_issued {s : State} {n row : Nat} {ids tags : List Nat} (open_ : (s.lane n).group = some (row, ids))
    (free : (s.lane n).freeTags (((s.lane n).entriesOf ids).length + (s.build.selvLines ((s.lane n).entriesOf ids)).length) = some tags) :
    ∃ t, s.closeGroup n = some t ∧ s.GroupIssued t n ((s.lane n).entriesOf ids)
      (((s.lane n).entriesOf ids).length + (s.build.selvLines ((s.lane n).entriesOf ids)).length) := by
  have length := Lane.freeTags_length free
  unfold State.closeGroup
  simp only [open_, free]
  generalize entries : (s.lane n).entriesOf ids = es at length ⊢
  generalize lines : s.build.selvLines es = ps at length ⊢
  refine ⟨_, rfl, ?_⟩
  have counted (u : State) : Touches [.counters] u (ps.foldl (fun s _ => s.bumpLane n 6) u) :=
    Touches.foldl _ _ _ (Touches.refl _ _) fun v _ h => h.trans (v.bumpLane_touches n 6)
  have lane (u : State) (os : List Output) (l : Lane) :
      (((ps.foldl (fun s _ => s.bumpLane n 6) (u.setLane n l))).emitAll os).lane n = l :=
    ((counted _).lane (by decide) n).trans (State.setLane_lane _ _ _)
  constructor
  · rw [State.emitAll_out, (counted _).out_eq (by decide), List.length_append, List.length_append, List.length_zipWith,
      List.length_zipWith, List.length_take, List.length_drop, length]
    show s.out.length + (min es.length (min es.length _) + min ps.length _) = _
    omega
  · intro e mem
    rw [lane, State.nextWriteGroup_ingress]
    refine ⟨{ e with issued := true }, List.mem_map.2 ⟨e, Lane.mem_entriesOf (entries ▸ mem), ?_⟩, rfl, rfl⟩
    rw [if_pos (List.contains_iff_mem.2 (List.mem_map_of_mem mem))]
  · rw [lane]
    exact (State.nextWriteGroup_reads s _).1
  · rw [lane]
    exact (State.nextWriteGroup_reads s _).2

theorem execWriteGroupClose_issued {s : State} {n row : Nat} {ids tags : List Nat} (up : s.clocked = true)
    (calm : (s.lane n).flushing = false) (open_ : (s.lane n).group = some (row, ids))
    (reads : ∀ x ∈ (s.lane n).reads, x.issued = true) (held : (s.lane n).held = [])
    (free : (s.lane n).freeTags (((s.lane n).entriesOf ids).length + (s.build.selvLines ((s.lane n).entriesOf ids)).length) = some tags) :
    ∃ t, execWriteGroupClose n [] s = .next t ∧
      s.GroupIssued t n ((s.lane n).entriesOf ids)
        (((s.lane n).entriesOf ids).length + (s.build.selvLines ((s.lane n).entriesOf ids)).length) := by
  obtain ⟨t, closed, issued⟩ := State.closeGroup_issued open_ free
  have went : t.goOn n = t.setLane n { t.lane n with held := [] } :=
    State.goOn_idle (by rw [issued.reads]; exact reads) (by rw [issued.held]; exact held)
  refine ⟨t.goOn n, ?_, ?_⟩
  · unfold execWriteGroupClose
    dsimp only
    rw [State.badEntries_nil, closed]
    exact nextIf_of (by rw [up, calm]; rfl)
  · rw [went]
    constructor
    · exact issued.out
    · rw [State.setLane_lane]
      exact issued.issued
    · rw [State.setLane_lane]
      exact issued.reads
    · rw [State.setLane_lane]
      exact held.symm

/-! ### The other events -/

section
variable {s : State} {n : Nat} (up : s.clocked = true)
include up

theorem execGotFetchComplete_of {g : Nat} (missed : (s.lane n).misses.any (fun m => m.1 == g) = true)
    (calm : (s.lane n).flushing = false) : execGotFetchComplete n g s = .next (s.fetchDone n g) :=
  nextIf_of (by rw [up, calm, missed]; rfl)

theorem execMpWriteAck_of {tag : Nat} {w : Nat × WriteCmd} (calm : (s.lane n).flushing = false)
    (found : (s.lane n).writes.find? (fun w => w.1 == tag) = some w) : execMpWriteAck n tag s =
      .next ((s.setLane n (s.ackWrite { s.lane n with writes := (s.lane n).writes.filter (fun x => x.1 != tag) } w.2)).goOn n) := by
  unfold execMpWriteAck
  simp only [found]
  exact nextIf_of (by rw [up, calm]; rfl)

/-- The scrub engine goes on with its oldest granule, or ends it (R41). -/
theorem execScrubGranuleDone_of {q : ScrubItem} {rest : List ScrubItem} (queue : s.weft.scrubQ = q :: rest) (run : s.inHalt = false)
    (served : s.loom.restarting = false) (safe : s.power.fatal = false) :
    ∃ t, execScrubGranuleDone s = .next t ∧
      ((s.scrubLines q (1024 - q.next) q.next).2 < 1024 →
        t.weft.scrubQ = { q with next := (s.scrubLines q (1024 - q.next) q.next).2 } :: rest) ∧
      (1024 ≤ (s.scrubLines q (1024 - q.next) q.next).2 →
        t.weft.scrubQ = rest ∧ (t.got q.granule).state = if q.toOwned then .owned else .free) := by
  unfold execScrubGranuleDone
  rw [queue]
  refine ⟨_, nextIf_of (by simp [up, run, served, safe]), fun more => ?_, fun through => ?_⟩
  · rw [if_pos more]
  · rw [if_neg (Nat.not_lt_of_le through)]
    unfold State.scrubEnd
    dsimp only
    refine ⟨?_, ?_⟩
    · have same := congrArg Weft.scrubQ ((State.accrue_touches (({ (s.scrubLines q (1024 - q.next) q.next).1 with
        weft := { (s.scrubLines q (1024 - q.next) q.next).1.weft with scrubQ := rest } } : State)) q.ldi).weft.resolve_left (by decide))
      exact same
    · rw [State.setGot_got]
      split <;> rfl

end

/-- Settles O37: each event of a lane is its own operation; a group that closes has its commands out and its entries issued. -/
theorem laneEventsTakeEffect : Obligations.LaneEventsTakeEffect := by
  unfold Obligations.LaneEventsTakeEffect
  intro s n g tag row w ids tags q rest up
  refine ⟨execGotFetchComplete_of up, ?_, execMpWriteAck_of up,
    fun queue run served safe => execScrubGranuleDone_of up queue run served safe⟩
  intro calm open_ reads held es ps free
  obtain ⟨t, ended, issued⟩ := execWriteGroupClose_issued up calm open_ reads held free
  exact ⟨t, ended, by rw [issued.out, Nat.add_assoc], issued.issued⟩

end Sys2Proof.Machine
end

section
/-!
PROOF. Counters of pair SAs, and the SAs whose counter has run out (R100, R198).
-/
namespace Sys2Proof.Machine

theorem Touches.sa {F : List Part} {s t : State} (h : Touches F s t) (n : Part.shuttle ∉ F) (p : Nat) : t.sa p = s.sa p := by
  unfold State.sa
  rw [h.shuttle.resolve_left n]

theorem Touches.spent {F : List Part} {s t : State} (h : Touches F s t) (n : Part.shuttle ∉ F) (p : Nat) : t.spent p = s.spent p := by
  unfold State.spent State.saValid
  rw [h.sa n p]

/-! ### SAs whose counter has run out -/

/-- No SA's counter has run out. -/
def State.NoneSpent (s : State) : Prop := ∀ q, s.spent q = false

theorem Touches.noneSpent {F : List Part} {s t : State} (h : Touches F s t) (n : Part.shuttle ∉ F) (none : s.NoneSpent) :
    t.NoneSpent := fun q => (h.spent n q).trans (none q)

theorem State.spent_of_canCount {s : State} {p : Nat} (h : (s.sa p).canCount = true) : s.spent p = false := by
  unfold State.spent
  rw [h]
  exact Bool.and_false _

theorem State.spent_of_not_valid {s : State} {p : Nat} (h : s.saValid p = false) : s.spent p = false := by
  unfold State.spent
  rw [h]
  rfl

theorem Sa.canCount_of_lt {a : Sa} (h : a.txNext < ctrEnd) : a.canCount = true := decide_eq_true h

theorem State.endExhausted_none {s : State} {p : Nat} (h : s.spent p = false) : s.endExhausted p = s := by
  unfold State.endExhausted
  rw [h]
  rfl

theorem State.endSpent_none {s : State} (h : s.NoneSpent) : s.endSpent = s := by
  have none : s.shuttle.sas.keys.filter s.spent = [] := List.filter_eq_nil_iff.2 fun q _ => by simp [h q]
  unfold State.endSpent
  rw [none]
  rfl

/-- One SA's entry is written: no counter has run out where its own has not. -/
theorem State.noneSpent_setSa {s : State} {p : Nat} {a : Sa} (none : s.NoneSpent) (own : a.state ≠ .valid ∨ a.canCount = true) :
    (s.setSa p a).NoneSpent := fun q => by
  by_cases same : q = p
  · subst same
    rcases own with ended | counts
    · refine State.spent_of_not_valid ?_
      unfold State.saValid
      rw [State.setSa_sa]
      exact beq_eq_false_iff_ne.2 ended
    · exact State.spent_of_canCount (by rw [State.setSa_sa, counts])
  · have other := State.setSa_sa_other s p a same
    have spent : (s.setSa p a).spent q = s.spent q := by
      unfold State.spent State.saValid
      rw [other]
    exact spent.trans (none q)

/-! ### Counters -/

theorem State.takeCtr_of {s : State} {p : Nat} (counts : (s.sa p).canCount = true) (safe : s.power.fatal = false) :
    s.takeCtr p = some ((s.sa p).txNext,
      (s.setSa p { s.sa p with txNext := (s.sa p).txNext + 1 }).homeRequest (s.pairHome p)) := by
  unfold State.takeCtr
  simp only [counts, safe, Bool.not_false, Bool.and_self, if_true]

/-- The domain's word goes once on each SA (R36). -/
theorem State.sendPolicy_sent {s : State} {p l : Nat} (sent : (s.exch p (s.dom l).gdid).sent = true) : s.sendPolicy p l = s := by
  unfold State.sendPolicy
  simp only [sent, Bool.not_true, Bool.and_false, Bool.false_eq_true, if_false]

/-! ### Outputs at the end of an SA -/

theorem State.outKept_closeAbort (s : State) (a : DueAbort) : s.OutKept (s.closeAbort a) := by
  unfold State.closeAbort
  dsimp only
  have closed : s.OutKept (((s.publish [gateRec a.ldi false]).2.dropKeys a.ldi endsAtAbort).dropGroupKeys a.ldi) :=
    s.outKept_publish _
  have dropped (u : State) (l : Nat) (f : RxPkt → Bool) : u.OutKept ((u.dropTargets l).dropRxq f) := fun _ h => h
  exact ((closed.trans (State.outKept_discardWeft _ _)).trans (dropped _ _ _)).trans (State.outKept_discardBatten _ _)

theorem State.outKept_signal (s : State) (i st c : Nat) : s.OutKept (s.signal i st c) := fun o h => by
  rw [State.out_signal]
  exact List.mem_append_left _ h

theorem State.outKept_bindError (s : State) (m : FenceMsg) (b : Bool) : s.OutKept (s.bindError m b) := by
  unfold State.bindError
  dsimp only
  split
  · exact s.outKept_signal _ _ _
  · split
    · exact (s.lateRef_touches m).outKept (by decide)
    · exact State.OutKept.refl s

theorem State.outKept_applyStatus (s : State) (m : FenceMsg) : s.OutKept (s.applyStatus m) := by
  unfold State.applyStatus
  split
  · split
    · exact State.OutKept.refl s
    · exact s.outKept_bindError _ _
  · split
    · exact s.outKept_signal _ _ _
    · split
      · split
        · exact State.OutKept.refl s
        · exact ((s.lateRef_touches m).outKept (by decide)).trans (State.outKept_bindError _ _ _)
      · dsimp only
        split
        · exact (s.badRef_touches m).outKept (by decide)
        · exact ((s.badRef_touches m).outKept (by decide)).trans (State.outKept_bindError _ _ _)

theorem State.outKept_settle (s : State) : s.OutKept s.settle :=
  State.OutKept.trans (t := { s with tables := { s.tables with fenceQ := [] } }) (fun _ h => h)
    (State.outKept_foldl _ State.outKept_applyStatus s.tables.fenceQ _)

theorem State.outKept_sendBeat (s : State) (p : Pull) (b : Nat) : s.OutKept (s.sendBeat p b) := by
  unfold State.sendBeat
  dsimp only
  split
  · exact s.outKept_emit _
  · exact ((s.countBeat_touches p).outKept (by decide)).trans (State.outKept_emit _ _)

theorem State.outKept_drainPulls (s : State) (ps : List Pull) : s.OutKept (s.drainPulls ps).1 := by
  have beats (u : State) (p : Pull) : u.OutKept (u.sendBeats p) := State.outKept_foldl _ (fun u b => u.outKept_sendBeat p b) _ u
  induction ps generalizing s with
  | nil => exact State.OutKept.refl s
  | cons p ps ih =>
    unfold State.drainPulls
    split
    · exact (beats s p).trans (ih _)
    · exact beats s p

theorem State.outKept_abortPulls (s : State) (l : Nat) : s.OutKept (s.abortPulls l) := by
  have port (u : State) (n : Nat) : u.OutKept (u.drainPort n) := u.outKept_drainPulls _
  unfold State.abortPulls
  intro o h
  exact State.outKept_foldl State.drainPort port _ _ o h

theorem State.outKept_markAborted (s : State) (l : Nat) : s.OutKept (s.markAborted l) := by
  have erred (u : State) (fs : List Nat) : u.OutKept (fs.foldl State.tdiError u) :=
    State.outKept_foldl _ (fun u f => (u.tdiError_touches f).outKept (by decide)) fs u
  unfold State.markAborted
  intro o h
  exact State.outKept_abortPulls _ _ o (erred _ _ o h)

theorem State.outKept_abort (s : State) (l cause : Nat) (origin : Bool) : s.OutKept (s.abort l cause origin) := by
  have marked : s.OutKept (s.settle.markAborted l) := s.outKept_settle.trans (State.outKept_markAborted _ _)
  have noted (u : State) (a : DueAbort) : u.OutKept (u.noteAbort a) := fun _ h => h
  unfold State.abort
  dsimp only
  split
  · split
    · exact s.outKept_sendSquall l cause
    · exact State.OutKept.refl s
  · split
    · exact State.OutKept.refl s
    · split
      · exact ((marked.trans (State.outKept_closeAbort _ _)).trans (State.outKept_signalAbort _ _)).trans (State.outKept_restAbort _ _)
      · split
        · exact ((marked.trans (State.outKept_closeAbort _ _)).trans (State.outKept_restAbort _ _)).trans (noted _ _)
        · exact marked.trans (noted _ _)

theorem State.outKept_loseAtomics (s : State) (p : Nat) : s.OutKept (s.loseAtomics p) := by
  have one (u : State) (e : RcEntry) : u.OutKept (u.loseAtomic p e) :=
    (State.outKept_settle u).trans
      (State.OutKept.trans (State.outKept_applyStatus _ _) ((State.record_touches _ _ _).outKept (by decide)))
  exact (State.outKept_foldl _ one (s.shuttle.rcache.filter fun e => !e.reply && e.peer == p) s).trans fun _ h => h

theorem State.outKept_endSa (s : State) (p cause : Nat) (st : SaState) : s.OutKept (s.endSa p cause st) := by
  unfold State.endSa
  split
  · have before : s.OutKept (s.internalEntry.loseAtomics p) :=
      (s.internalEntry_touches.outKept (by decide)).trans (State.outKept_loseAtomics _ p)
    have written (u : State) (a : Sa) : u.OutKept (u.setSa p a) := fun _ h => h
    have gone (u : State) : u.OutKept ((u.endMigrations p).quarantinePeerGone p) :=
      ((u.endMigrations_touches p).outKept (by decide)).trans ((State.quarantinePeerGone_touches _ p).outKept (by decide))
    exact ((before.trans (written _ _)).trans (gone _)).trans (State.outKept_foldl _ (fun s l => s.outKept_abort l cause true) _ _)
  · exact State.OutKept.refl s

theorem State.outKept_loseSa (s : State) (p : Nat) : s.OutKept (s.loseSa p) := by
  unfold State.loseSa
  split
  · exact (s.outKept_endSa p 0x05 .lost).trans ((State.saRecord_touches _ _ _ _ _).outKept (by decide))
  · exact State.OutKept.refl s

theorem State.outKept_endExhausted (s : State) (p : Nat) : s.OutKept (s.endExhausted p) := by
  unfold State.endExhausted
  split
  · exact s.outKept_loseSa p
  · exact State.OutKept.refl s

theorem State.outKept_endSpent (s : State) : s.OutKept s.endSpent := State.outKept_foldl _ State.outKept_endExhausted _ s

/-! ### SA states at the end of SAs -/

theorem State.endExhausted_saValid {s : State} {p : Nat} (q : Nat) (gone : s.saValid p = false) :
    (s.endExhausted q).saValid p = false := by
  unfold State.endExhausted
  split
  · rw [Bool.eq_false_iff] at gone ⊢
    exact fun valid => gone ((s.loseSa_saValid q p).1 valid).1
  · exact gone

theorem State.endSpent_saValid {s : State} {p : Nat} (gone : s.saValid p = false) : s.endSpent.saValid p = false := by
  unfold State.endSpent
  induction s.shuttle.sas.keys.filter s.spent generalizing s with
  | nil => exact gone
  | cons q qs ih => exact ih (State.endExhausted_saValid q gone)

/-- The SA whose counter has run out ends. -/
theorem State.endExhausted_ends {s : State} {p : Nat} (spent : s.spent p = true) : (s.endExhausted p).saValid p = false := by
  unfold State.endExhausted
  rw [if_pos spent, Bool.eq_false_iff]
  exact fun valid => ((s.loseSa_saValid p p).1 valid).2 rfl

end Sys2Proof.Machine
end

section
/-!
PROOF. What becomes of an egress packet (R36, R97, R98, R105, R113, R133, R185, R198, R487).
-/
namespace Sys2Proof.Machine

theorem State.fatal_of_portsUp {s : State} (h : s.portsUp = true) : s.power.fatal = false := by
  unfold State.portsUp at h
  simpa using (Bool.and_eq_true_iff.1 h).2

section
variable {s : State} {p : EgressPkt} (up : s.portsUp = true) (open_ : s.portUp p.port = true) (none : s.NoneSpent)
include up open_ none

theorem execFpEgressPacket_of : execFpEgressPacket p s = .next (s.egress p).endSpent := by
  refine (nextIf_of (by rw [up, open_]; rfl)).trans ?_
  rw [State.endSpent_none none]

/-- Where the packet leaves every counter with values left, its operation is the whole step. -/
theorem execFpEgressPacket_calm {t : State} (made : s.egress p = t) (calm : t.NoneSpent) : execFpEgressPacket p s = .next t := by
  rw [execFpEgressPacket_of up open_ none, made, State.endSpent_none calm]

end

/-! ### Unicast packets -/

/-- The header of a unicast packet under the next counter of its SA (R97). -/
def State.unicastHeader (s : State) (p : EgressPkt) : Header :=
  { src := s.boot.devid, fdt := (s.dom p.ldi).fdt, mapgen := p.mapgen, ctr := (s.sa p.dest).txNext % 65536, cls := s.portClass p.port }

/-- The wire packet of a payload under the pair SA (R98). -/
def State.unicastWire (s : State) (p : EgressPkt) (payload : Bytes) : Output :=
  .fpWire p.port p.vc p.rh ((s.unicastHeader p).bytes ++
    sealPayload (s.keyAt (.tx p.dest)) (packetIv (s.sa p.dest).keys.txSalt (s.sa p.dest).txNext) (s.portClass p.port)
      (s.unicastHeader p).bytes payload)

/-- The payload that leaves, and the state in which it is protected. -/
def State.unicastPayload (s : State) (p : EgressPkt) : Bytes × State :=
  if kindOf p.payload == kAtomic then s.stampAtomic p else (p.payload, s)

theorem State.noteTx_sa (s : State) (peer : Nat) (data : Bool) :
    ((s.noteTx peer data).sa peer).txNext = (s.sa peer).txNext ∧ ((s.noteTx peer data).sa peer).state = (s.sa peer).state := by
  unfold State.noteTx
  dsimp only
  split
  · rw [State.setSa_sa]
    exact ⟨rfl, rfl⟩
  · rw [State.setSa_sa]
    exact ⟨rfl, rfl⟩

theorem State.noteTx_sa_other (s : State) (peer : Nat) (data : Bool) {q : Nat} (other : q ≠ peer) :
    (s.noteTx peer data).sa q = s.sa q := State.setSa_sa_other _ _ _ other

/-- What a protected packet leaves: its counter is used, nothing else of the SAs changes but their times, and it is out. -/
structure State.Protected (s t : State) (p : EgressPkt) (o : Output) : Prop where
  out : t.out = s.out ++ [o]
  next : (t.sa p.dest).txNext = (s.sa p.dest).txNext + 1
  state : (t.sa p.dest).state = (s.sa p.dest).state
  others : ∀ q, q ≠ p.dest → t.sa q = s.sa q
  rcache : t.shuttle.rcache = s.shuttle.rcache

/-- A payload is protected under the pair SA and leaves. -/
def State.sealUnicast (u : State) (p : EgressPkt) (payload : Bytes) : State :=
  match u.takeCtr p.dest with
  | none => u
  | some (c, s) =>
    let h : Header :=
      { src := s.boot.devid, fdt := (s.dom p.ldi).fdt, mapgen := p.mapgen, ctr := c % 65536, cls := s.portClass p.port }
    (s.noteTx p.dest true).emit (.fpWire p.port p.vc p.rh (h.bytes ++
      sealPayload (s.keyAt (.tx p.dest)) (packetIv (u.sa p.dest).keys.txSalt c) (s.portClass p.port) h.bytes payload))

theorem State.sendUnicast_eq (s : State) (p : EgressPkt) :
    s.sendUnicast p = (s.unicastPayload p).2.sealUnicast p (s.unicastPayload p).1 := rfl

theorem State.sealUnicast_of {u : State} {p : EgressPkt} (b : Bytes) (counts : (u.sa p.dest).canCount = true)
    (safe : u.power.fatal = false) : u.Protected (u.sealUnicast p b) p (u.unicastWire p b) := by
  unfold State.sealUnicast
  rw [State.takeCtr_of counts safe]
  dsimp only
  generalize counted : u.setSa p.dest { u.sa p.dest with txNext := (u.sa p.dest).txNext + 1 } = v
  have kept := v.homeRequest_touches (u.pairHome p.dest)
  generalize v.homeRequest (u.pairHome p.dest) = w at kept ⊢
  have own : w.sa p.dest = { u.sa p.dest with txNext := (u.sa p.dest).txNext + 1 } := by
    rw [kept.sa (by decide), ← counted, State.setSa_sa]
  have others (q : Nat) (other : q ≠ p.dest) : w.sa q = u.sa q := by
    rw [kept.sa (by decide), ← counted, State.setSa_sa_other _ _ _ other]
  have shuttle : w.shuttle = v.shuttle := kept.shuttle.resolve_left (by decide)
  have cls : w.portClass p.port = u.portClass p.port := by
    unfold State.portClass
    rw [shuttle, ← counted]
    rfl
  have boot : w.boot = u.boot := by
    rw [kept.boot.resolve_left (by decide), ← counted]
    rfl
  have dom : w.dom p.ldi = u.dom p.ldi := by
    rw [kept.dom (by decide), ← counted]
    rfl
  have key : w.keyAt (.tx p.dest) = u.keyAt (.tx p.dest) := by
    have mine : (w.sa p.dest).keys.txKey = (u.sa p.dest).keys.txKey := by rw [own]
    exact mine
  have out : w.out = u.out := by
    rw [kept.out_eq (by decide), ← counted]
    rfl
  obtain ⟨next, state⟩ := w.noteTx_sa p.dest true
  constructor
  · rw [State.emit_out, (w.noteTx_touches p.dest true).out_eq (by decide), out, boot, dom, cls, key]
    rfl
  · exact next.trans (by rw [own])
  · exact state.trans (by rw [own])
  · intro q other
    exact (w.noteTx_sa_other p.dest true other).trans (others q other)
  · have noted : (w.noteTx p.dest true).shuttle.rcache = w.shuttle.rcache := rfl
    exact noted.trans (by rw [shuttle, ← counted]; rfl)

/-- What stamping a packet's ATOMIC leaves: its PENDING entry, due 20 µs on (R133). -/
theorem State.stampAtomic_of (s : State) (p : EgressPkt) :
    (((s.stampAtomic p).2.sa p.dest).txNext = (s.sa p.dest).txNext ∧
      ((s.stampAtomic p).2.sa p.dest).state = (s.sa p.dest).state) ∧
    (∀ q, q ≠ p.dest → (s.stampAtomic p).2.sa q = s.sa q) ∧ (s.stampAtomic p).2.power = s.power ∧
    (s.stampAtomic p).2.shuttle.rcache = s.shuttle.rcache ++ [{
      ldi := p.ldi, peer := p.dest, aseq := (s.sa p.dest).txAseq, fence := p.fence, port := p.port, vc := p.vc,
      due := s.now + 20 * usTicks }] := by
  unfold State.stampAtomic
  dsimp only
  generalize stamped : s.setSa p.dest { s.sa p.dest with
    txAseq := ((s.sa p.dest).txAseq + 1) % 2 ^ 32, atomRoute := (s.sa p.dest).atomRoute.put p.ldi (p.port, p.vc) } = u
  generalize RcEntry.mk .. = e
  have added (q : Nat) : (u.rcAdd e).sa q = u.sa q := rfl
  refine ⟨?_, fun q other => ?_, by rw [← stamped]; rfl, by rw [← stamped]; rfl⟩
  · unfold State.noteAck
    rw [State.setSa_sa, added, ← stamped, State.setSa_sa]
    exact ⟨rfl, rfl⟩
  · unfold State.noteAck
    rw [State.setSa_sa_other _ _ _ other, added, ← stamped, State.setSa_sa_other _ _ _ other]

/-- The state in which the payload is protected has the SAs' counters and states as before. -/
theorem State.unicastPayload_of (s : State) (p : EgressPkt) :
    (((s.unicastPayload p).2.sa p.dest).txNext = (s.sa p.dest).txNext ∧
      ((s.unicastPayload p).2.sa p.dest).state = (s.sa p.dest).state) ∧
    (∀ q, q ≠ p.dest → (s.unicastPayload p).2.sa q = s.sa q) ∧ (s.unicastPayload p).2.power = s.power := by
  unfold State.unicastPayload
  split
  · obtain ⟨own, others, power, -⟩ := s.stampAtomic_of p
    exact ⟨own, others, power⟩
  · exact ⟨⟨rfl, rfl⟩, fun _ _ => rfl, rfl⟩

/-- A packet that passes every check, its POLICY sent before, is sent. -/
theorem State.egress_unicast {s : State} {p : EgressPkt} (uni : p.mcast = false) (checked : s.egressCheck p = .sent)
    (told : (s.exch p.dest (s.dom p.ldi).gdid).sent = true) (none : s.NoneSpent) : s.egress p = s.sendCounted p := by
  unfold State.egress State.sendChecked
  rw [checked, uni]
  simp only [Bool.false_eq_true, if_false]
  rw [State.sendPolicy_sent told, none p.dest]
  rfl

section
variable {s : State} {p : EgressPkt} (safe : s.power.fatal = false) (uni : p.mcast = false)
include safe uni

/-- A unicast packet whose SA has counter values left is sent, counted and reported. -/
theorem State.sendCounted_unicast (counts : (s.sa p.dest).txNext < ctrEnd) : ∃ u,
    (s.unicastPayload p).2.Protected u p ((s.unicastPayload p).2.unicastWire p (s.unicastPayload p).1) ∧
      Touches [.tallies, .counters, .trace] u (u.countTx p) ∧
      s.sendCounted p = (u.countTx p).emit (.fpReport p.port p.ptag 0 stOk) := by
  obtain ⟨⟨next, -⟩, -, power⟩ := s.unicastPayload_of p
  refine ⟨s.sendUnicast p, ?_, State.countTx_touches _ _, ?_⟩
  · rw [State.sendUnicast_eq]
    exact State.sealUnicast_of _ (Sa.canCount_of_lt (by rw [next]; exact counts)) (by rw [power]; exact safe)
  · unfold State.sendCounted
    rw [uni]
    rfl

variable (checked : s.egressCheck p = .sent) (told : (s.exch p.dest (s.dom p.ldi).gdid).sent = true) (none : s.NoneSpent)
include checked told none

/-- While the SA has a further value, no counter has run out after the packet. -/
theorem State.egress_unicast_sent (counts : (s.sa p.dest).txNext + 1 < ctrEnd) :
    ∃ t, s.egress p = t ∧ t.NoneSpent ∧ (t.sa p.dest).txNext = (s.sa p.dest).txNext + 1 ∧
      t.out = (s.unicastPayload p).2.out ++ [(s.unicastPayload p).2.unicastWire p (s.unicastPayload p).1,
        .fpReport p.port p.ptag 0 stOk] ∧
      t.shuttle.rcache = (s.unicastPayload p).2.shuttle.rcache := by
  obtain ⟨u, sent, counted, all⟩ := State.sendCounted_unicast safe uni (by omega : (s.sa p.dest).txNext < ctrEnd)
  obtain ⟨⟨next, state⟩, others, -⟩ := s.unicastPayload_of p
  have sa (q : Nat) : ((u.countTx p).emit (.fpReport p.port p.ptag 0 stOk)).sa q = u.sa q := counted.sa (by decide) q
  have used : (u.sa p.dest).txNext = (s.sa p.dest).txNext + 1 := sent.next.trans (by rw [next])
  refine ⟨_, (State.egress_unicast uni checked told none).trans all, fun q => ?_, ?_, ?_, ?_⟩
  · by_cases own : q = p.dest
    · subst own
      exact State.spent_of_canCount (Sa.canCount_of_lt (by rw [sa, used]; exact counts))
    · have same := (sa q).trans ((sent.others q own).trans (others q own))
      have before := none q
      unfold State.spent State.saValid at before ⊢
      rw [same]
      exact before
  · rw [sa, used]
  · rw [State.emit_out, counted.out_eq (by decide), sent.out, List.append_assoc]
    rfl
  · have kept := congrArg Shuttle.rcache (counted.shuttle.resolve_left (by decide))
    exact kept.trans sent.rcache

end

/-! ### Handshakes and control messages -/

/-- A handshake that starts leaves each SA's entry, or makes it PENDING. -/
theorem State.startHandshake_sa (s : State) (p : Nat) (lazily : Bool) (q : Nat) :
    (s.startHandshake p lazily).sa q = s.sa q ∨ ((s.startHandshake p lazily).sa q).state = .pending := by
  unfold State.startHandshake
  split
  · dsimp only
    rw [(State.sendHs_touches _ _ _ _).sa (by decide)]
    generalize drawn : State.setHandshake _ p _ = u
    have before : u.sa q = s.sa q := by rw [← drawn]; rfl
    unfold State.notePending
    dsimp only
    split
    · exact Or.inl before
    · by_cases own : q = p
      · rw [own, State.setSa_sa]
        exact Or.inr rfl
      · exact Or.inl ((State.setSa_sa_other _ _ _ own).trans before)
  · exact Or.inl rfl

/-- A packet returned for want of an SA leaves each SA's entry, or makes it PENDING. -/
theorem State.returnNeedSa_sa (s : State) (p : EgressPkt) (q : Nat) :
    (s.returnNeedSa p).sa q = s.sa q ∨ ((s.returnNeedSa p).sa q).state = .pending := by
  unfold State.returnNeedSa
  dsimp only
  split
  · exact s.startHandshake_sa p.dest true q
  · exact Or.inl rfl

theorem State.returnNeedSa_saValid {s : State} {p : EgressPkt} {q : Nat} (gone : s.saValid q = false) :
    (s.returnNeedSa p).saValid q = false := by
  rcases s.returnNeedSa_sa p q with same | pending
  · unfold State.saValid at gone ⊢
    rw [same]
    exact gone
  · unfold State.saValid
    rw [pending]
    rfl

theorem State.returnNeedSa_noneSpent {s : State} (none : s.NoneSpent) (p : EgressPkt) : (s.returnNeedSa p).NoneSpent := fun q => by
  rcases s.returnNeedSa_sa p q with same | pending
  · have before := none q
    unfold State.spent State.saValid at before ⊢
    rw [same]
    exact before
  · refine State.spent_of_not_valid ?_
    unfold State.saValid
    rw [pending]
    rfl

theorem State.returnNeedSa_last (s : State) (p : EgressPkt) :
    (s.returnNeedSa p).out.getLast? = some (.fpReport p.port p.ptag 1 stOk) := State.getLast_emit _ _

theorem ctrlParts_short (type : Nat) {body : Bytes} (short : body.length ≤ 4092) : ∃ part, ctrlParts type body = [part] := by
  have one : max 1 ((body.length + 4091) / 4092) = 1 := by omega
  unfold ctrlParts
  rw [one]
  exact ⟨_, rfl⟩

/-- A short control message takes one counter of its SA. -/
theorem State.sendCtrl_txNext {s : State} {p : Nat} (type : Nat) {body : Bytes} (valid : s.saValid p = true)
    (counts : (s.sa p).canCount = true) (safe : s.power.fatal = false) (short : body.length ≤ 4092) :
    ((s.sendCtrl p type body).sa p).txNext = (s.sa p).txNext + 1 := by
  obtain ⟨part, one⟩ := ctrlParts_short type short
  have sent : ((s.sendCtrlPart p part).sa p).txNext = (s.sa p).txNext + 1 := by
    unfold State.sendCtrlPart
    rw [State.takeCtr_of counts safe]
    have used := (State.homeRequest_touches (s.setSa p { s.sa p with txNext := (s.sa p).txNext + 1 }) (s.pairHome p)).sa (by decide) p
    rw [State.setSa_sa] at used
    have next := congrArg Sa.txNext used
    exact next
  unfold State.sendCtrl
  rw [if_pos valid, one]
  exact (State.noteTx_sa _ p _).1.trans sent

/-- A POLICY that takes the last counter of its SA leaves none. -/
theorem State.sendPolicy_last {s : State} {p l : Nat} (valid : s.saValid p = true) (safe : s.power.fatal = false)
    (unsent : (s.exch p (s.dom l).gdid).sent = false) (last : (s.sa p).txNext + 1 = ctrEnd) : (s.sendPolicy p l).spent p = true := by
  have kept : (s.sendPolicy p l).saValid p = true := by
    unfold State.sendPolicy
    simp only [valid, unsent, Bool.not_false, Bool.and_self, if_true]
    have marked : s.SaKept (s.setSa p { s.sa p with
        policy := (s.sa p).policy.put (s.dom l).gdid { s.exch p (s.dom l).gdid with sent := true } }) := State.saKept_setSa rfl
    rw [(marked.trans (State.saKept_sendCtrl _ p 0x08 _)).valid]
    exact valid
  have next : ((s.sendPolicy p l).sa p).txNext = ctrEnd := by
    unfold State.sendPolicy
    simp only [valid, unsent, Bool.not_false, Bool.and_self, if_true]
    generalize marked : s.setSa p { s.sa p with
        policy := (s.sa p).policy.put (s.dom l).gdid { s.exch p (s.dom l).gdid with sent := true } } = u
    have own : (u.sa p).txNext = (s.sa p).txNext ∧ (u.sa p).state = (s.sa p).state := by
      rw [← marked, State.setSa_sa]
      exact ⟨rfl, rfl⟩
    have still : u.saValid p = true := by
      unfold State.saValid at valid ⊢
      rw [own.2]
      exact valid
    have power : u.power = s.power := by rw [← marked]; rfl
    rw [State.sendCtrl_txNext 0x08 still (Sa.canCount_of_lt (by rw [own.1]; omega)) (by rw [power]; exact safe)
      (by simp [policyBody]), own.1, last]
  have end_ : ((s.sendPolicy p l).sa p).canCount = false := by
    unfold Sa.canCount
    rw [next]
    exact decide_eq_false (Nat.lt_irrefl _)
  unfold State.spent
  rw [kept, end_]
  rfl

/-! ### The checks of R487 -/

section
variable {s : State} {p : EgressPkt}

/-- The checks before the packet's SA refuse it, or find it malformed or of an old map; else its SA says what becomes of it. -/
theorem State.egressCheck_cases (s : State) (p : EgressPkt) : (∃ st, s.egressCheck p = .refused st) ∨
    (s.egressCheck p = .malformed ∧ bodyMalformed p.payload = true ∧ (s.dom p.ldi).deniesDet p.payload = true) ∨
    s.egressCheck p = .staleMap ∨ s.egressCheck p = s.egressSa p := by
  unfold State.egressCheck
  dsimp only
  split
  · exact Or.inl ⟨_, rfl⟩
  split
  · exact Or.inl ⟨_, rfl⟩
  split
  · exact Or.inl ⟨_, rfl⟩
  split
  · exact Or.inl ⟨_, rfl⟩
  split
  · next denied =>
    split
    · next bad => exact Or.inr (Or.inl ⟨rfl, bad, denied⟩)
    · exact Or.inl ⟨_, rfl⟩
  split
  · exact Or.inr (Or.inr (Or.inl rfl))
  split
  · next sent =>
    split
    · exact Or.inl ⟨_, rfl⟩
    · exact Or.inr (Or.inr (Or.inr sent.symm))
  · exact Or.inr (Or.inr (Or.inr rfl))

theorem State.egressSa_ne_malformed (s : State) (p : EgressPkt) : s.egressSa p ≠ .malformed := by
  intro bad
  unfold State.egressSa at bad
  split at bad
  · split at bad
    · split at bad <;> cases bad
    · cases bad
  · split at bad <;> cases bad

/-- A unicast packet that passes every check has a VALID SA. -/
theorem State.saValid_of_sent (checked : s.egressCheck p = .sent) (uni : p.mcast = false) : s.saValid p.dest = true := by
  have sa : s.egressSa p = .sent := by
    rcases s.egressCheck_cases p with ⟨st, refused⟩ | ⟨bad, -⟩ | old | same
    · rw [checked] at refused
      cases refused
    · rw [checked] at bad
      cases bad
    · rw [checked] at old
      cases old
    · exact same.symm.trans checked
  unfold State.egressSa at sa
  rw [uni] at sa
  simp only [Bool.false_eq_true, if_false] at sa
  unfold State.saValid
  split at sa
  · next valid => rw [valid]; rfl
  · cases sa
  · cases sa

/-- A packet that is malformed under R149 is forbidden under DET (R185). -/
theorem State.malformed_of_check (checked : s.egressCheck p = .malformed) :
    bodyMalformed p.payload = true ∧ (s.dom p.ldi).deniesDet p.payload = true := by
  rcases s.egressCheck_cases p with ⟨st, refused⟩ | ⟨-, bad⟩ | old | same
  · rw [checked] at refused
    cases refused
  · exact bad
  · rw [checked] at old
    cases old
  · exact absurd (same.symm.trans checked) (s.egressSa_ne_malformed p)

/-- What R487 makes of a packet, by the outcome of its checks. -/
def State.egressBy (s : State) (p : EgressPkt) : Egress → State
  | .sent => s.sendChecked p
  | .needSa => s.returnNeedSa p
  | .staleMap => s.emit (.fpReport p.port p.ptag 2 stOk)
  | .malformed => (s.egressBad p).refuseEgress p stBadParam
  | .refused status =>
    (if status == stNondet then s.nondetRecord p.ldi p.ctx (kindOf p.payload) p.fence else s).refuseEgress p status

theorem State.egress_of {e : Egress} (checked : s.egressCheck p = e) : s.egress p = s.egressBy p e := by
  have by_ : s.egress p = s.egressBy p (s.egressCheck p) := rfl
  rw [by_, checked]

end

/-! ### Multicast packets (R113) -/

theorem State.sendPolicies_sent {s : State} {l : Nat} (told : ∀ q ∈ s.otherMembers l, (s.exch q (s.dom l).gdid).sent = true) :
    s.sendPolicies l = s := by
  unfold State.sendPolicies
  generalize s.otherMembers l = qs at told
  induction qs with
  | nil => rfl
  | cons q qs ih =>
    rw [List.foldl_cons, State.sendPolicy_sent (told q List.mem_cons_self)]
    exact ih fun x mem => told x (List.mem_cons_of_mem _ mem)

/-- The header of a multicast packet under the group's next counter. -/
def State.groupHeader (s : State) (p : EgressPkt) (g : Group) : Header :=
  { src := s.boot.devid, fdt := (s.dom p.ldi).fdt, mapgen := p.mapgen, ctr := g.txNext % 65536, cls := s.portClass p.port, mcast := true }

/-- The wire packet of a payload under the group's key. -/
def State.groupWire (s : State) (p : EgressPkt) (g : Group) : Output :=
  .fpWire p.port p.vc p.rh ((s.groupHeader p g).bytes ++ sealPayload (s.keyAt (.slot g.slot))
    (packetIv (groupSalt (s.keySlot g.slot).salt s.boot.devid) g.txNext) (s.portClass p.port) (s.groupHeader p g).bytes p.payload)

theorem State.sendMulticast_of {s : State} {p : EgressPkt} {g : Group} (found : s.group (groupKeyOf p.ldi p.dest) = some g)
    (told : ∀ q ∈ s.otherMembers p.ldi, (s.exch q (s.dom p.ldi).gdid).sent = true) : s.sendMulticast p =
      ((s.setGroup (groupKeyOf p.ldi p.dest) { g with txNext := g.txNext + 1 }).homeRequest (s.groupHome p.dest s.boot.devid)).emit
        (s.groupWire p g) := by
  unfold State.sendMulticast
  rw [State.sendPolicies_sent told]
  dsimp only
  rw [found]
  rfl

/-- A multicast packet that passes every check is sent under its group's counter, counted and reported. -/
theorem State.egress_multicast {s : State} {p : EgressPkt} {g : Group} (none : s.NoneSpent) (checked : s.egressCheck p = .sent)
    (multi : p.mcast = true) (found : s.group (groupKeyOf p.ldi p.dest) = some g)
    (told : ∀ q ∈ s.otherMembers p.ldi, (s.exch q (s.dom p.ldi).gdid).sent = true) :
    ∃ t, s.egress p = t ∧ t.NoneSpent ∧ (t.group (groupKeyOf p.ldi p.dest)).map (·.txNext) = some (g.txNext + 1) ∧
      t.out = s.out ++ [s.groupWire p g, .fpReport p.port p.ptag 0 stOk] := by
  have sent : s.egress p = ((s.sendMulticast p).countTx p).emit (.fpReport p.port p.ptag 0 stOk) := by
    rw [State.egress_of checked]
    show s.sendChecked p = _
    unfold State.sendChecked State.sendCounted
    rw [multi]
    rfl
  rw [State.sendMulticast_of found told] at sent
  generalize counted : s.setGroup (groupKeyOf p.ldi p.dest) { g with txNext := g.txNext + 1 } = u at sent
  have home := u.homeRequest_touches (s.groupHome p.dest s.boot.devid)
  generalize u.homeRequest (s.groupHome p.dest s.boot.devid) = v at sent home
  have tallied := (v.emit (s.groupWire p g)).countTx_touches p
  have sa (q : Nat) : u.sa q = s.sa q := by rw [← counted]; rfl
  have none' : u.NoneSpent := fun q => by
    have before := none q
    unfold State.spent State.saValid at before ⊢
    rw [sa]
    exact before
  have shuttle : ((v.emit (s.groupWire p g)).countTx p).shuttle = u.shuttle :=
    (tallied.shuttle.resolve_left (by decide)).trans (home.shuttle.resolve_left (by decide))
  refine ⟨_, sent, ?_, ?_, ?_⟩
  · exact tallied.noneSpent (by decide) (home.noneSpent (by decide) none')
  · show (((v.emit (s.groupWire p g)).countTx p).shuttle.groups.find (groupKeyOf p.ldi p.dest)).map _ = _
    rw [shuttle, ← counted]
    exact congrArg (Option.map _) (Map.find_put_self _ _ _)
  · rw [State.emit_out, tallied.out_eq (by decide), State.emit_out, home.out_eq (by decide), ← counted, List.append_assoc]
    rfl

/-! ### A SA whose counter runs out (R198) -/

/-- The packet whose POLICY takes the last counter finds the SA ended. -/
theorem State.egress_last {s : State} {p : EgressPkt} (safe : s.power.fatal = false) (checked : s.egressCheck p = .sent)
    (uni : p.mcast = false) (last : (s.sa p.dest).txNext + 1 = ctrEnd)
    (untold : (s.exch p.dest (s.dom p.ldi).gdid).sent = false) :
    (s.egress p).endSpent.saValid p.dest = false ∧ .fpReport p.port p.ptag 1 stOk ∈ (s.egress p).endSpent.out := by
  have spent := State.sendPolicy_last (State.saValid_of_sent checked uni) safe untold last
  have made : s.egress p = ((s.sendPolicy p.dest p.ldi).endExhausted p.dest).returnNeedSa p := by
    rw [State.egress_of checked]
    show s.sendChecked p = _
    unfold State.sendChecked
    rw [uni]
    simp only [Bool.false_eq_true, if_false]
    rw [if_pos spent]
  rw [made]
  exact ⟨State.endSpent_saValid (State.returnNeedSa_saValid (State.endExhausted_ends spent)),
    State.outKept_endSpent _ _ (List.mem_append_right _ List.mem_cons_self)⟩

/-- Settles O38: each outcome of the checks of R487 is one operation; only a POLICY that takes the last counter ends an SA. -/
theorem egressPacketsAreReported : Obligations.EgressPacketsAreReported := by
  unfold Obligations.EgressPacketsAreReported
  intro s p st up open_ none
  have none : s.NoneSpent := none
  have safe := State.fatal_of_portsUp up
  refine ⟨fun checked uni plain counts told => ?_, fun checked uni atomic counts told => ?_, fun checked uni last untold => ?_, ?_,
    fun checked => ?_, fun checked => ?_, fun checked => ?_, fun checked => ?_⟩
  · obtain ⟨t, made, calm, next, out, -⟩ := State.egress_unicast_sent safe uni checked told none counts
    have payload : s.unicastPayload p = (p.payload, s) := if_neg (by simpa using plain)
    rw [payload] at out
    exact ⟨t, execFpEgressPacket_calm up open_ none made calm, next, out⟩
  · obtain ⟨t, made, calm, -, out, rcache⟩ := State.egress_unicast_sent safe uni checked told none counts
    have payload : s.unicastPayload p = s.stampAtomic p := if_pos (by simpa using atomic)
    obtain ⟨-, -, -, entry⟩ := s.stampAtomic_of p
    rw [payload, entry] at rcache
    refine ⟨t, execFpEgressPacket_calm up open_ none made calm, ?_, _, rcache ▸ List.mem_append_right _ List.mem_cons_self,
      rfl, rfl, rfl, rfl, rfl, rfl⟩
    rw [out, List.getLast?_append]
    rfl
  · exact ⟨_, execFpEgressPacket_of up open_ none, State.egress_last safe checked uni last untold⟩
  · intro g checked multi found told
    obtain ⟨t, made, calm, next, out⟩ := State.egress_multicast none checked multi found told
    exact ⟨t, execFpEgressPacket_calm up open_ none made calm, next, out⟩
  · refine ⟨_, execFpEgressPacket_calm up open_ none (State.egress_of checked) (State.returnNeedSa_noneSpent none p), ?_⟩
    exact s.returnNeedSa_last p
  · exact execFpEgressPacket_calm up open_ none (State.egress_of checked) ((State.emit_touches _ _).noneSpent (by decide) none)
  · obtain ⟨bad, denied⟩ := State.malformed_of_check checked
    refine ⟨bad, denied, execFpEgressPacket_calm up open_ none (State.egress_of checked) ?_⟩
    exact (State.refuseEgress_touches _ p _).noneSpent (by decide) ((s.egressBad_touches p).noneSpent (by decide) none)
  · have recorded (c : Prop) [Decidable c] (u : State) (same : Touches [.tallies, .log, .counters, .trace] s u) :
        (if c then u else s).NoneSpent := by
      split
      · exact same.noneSpent (by decide) none
      · exact none
    refine ⟨_, execFpEgressPacket_calm up open_ none (State.egress_of checked) ?_, State.getLast_emit _ _⟩
    exact (State.refuseEgress_touches _ p _).noneSpent (by decide) (recorded _ _ (s.nondetRecord_touches _ _ _ _))

end Sys2Proof.Machine
end

section
/-!
PROOF. The checks of an ingress data packet (R102, R103, R114, R148, R414).
-/
namespace Sys2Proof.Machine

/-! ### Block counters -/

theorem State.block_bump (s : State) (i n : Nat) :
    (s.bump i n).counters.block.findD i 0 = (s.counters.block.findD i 0 + n) % 2 ^ 64 := Map.findD_put_self _ _ _ _

theorem State.block_bump_other (s : State) {i k : Nat} (n : Nat) (other : k ≠ i) :
    (s.bump i n).counters.block.findD k 0 = s.counters.block.findD k 0 := Map.findD_put_other _ _ _ _ other

/-- A record counts no more than what it loses (R380, R424). -/
theorem State.block_traceWrite (s : State) (r : TraceRec) {k : Nat} (other : k ≠ 0x013) :
    (s.traceWrite r).counters.block.findD k 0 = s.counters.block.findD k 0 := by
  unfold State.traceWrite
  dsimp only
  split
  · rfl
  · split
    · rfl
    · exact State.block_bump_other _ _ other

theorem State.block_record (s : State) (type : Nat) (b : Bytes) {k : Nat} (log : k ≠ 0x010) (trace : k ≠ 0x013) :
    (s.record type b).counters.block.findD k 0 = s.counters.block.findD k 0 := by
  unfold State.record
  dsimp only
  split
  · exact s.block_traceWrite _ trace
  · exact (State.block_bump_other _ _ log).trans (s.block_traceWrite _ trace)

theorem State.block_recordLimited (s : State) (type a b period : Nat) (pay : Nat → Bytes) {k : Nat} (log : k ≠ 0x010)
    (trace : k ≠ 0x013) : (s.recordLimited type a b period pay).counters.block.findD k 0 = s.counters.block.findD k 0 := by
  unfold State.recordLimited
  split
  · split
    · rfl
    · exact State.block_record _ _ _ log trace
  · exact State.block_record _ _ _ log trace

/-- A drop counts once. -/
theorem State.block_ingressDrop (s : State) (p : IngressPkt) (h : Header) {idx : Nat} (type ldi ctr : Nat) (log : idx ≠ 0x010)
    (trace : idx ≠ 0x013) :
    (s.ingressDrop p h idx type ldi ctr).counters.block.findD idx 0 = (s.counters.block.findD idx 0 + 1) % 2 ^ 64 :=
  (State.block_recordLimited _ _ _ _ _ _ log trace).trans (s.block_bump idx 1)

theorem State.block_bumpEngine (s : State) (p k n : Nat) {i : Nat} (low : i < 0x4A0) :
    (s.bumpEngine p k n).counters.block.findD i 0 = s.counters.block.findD i 0 :=
  State.block_bump_other _ _ (by omega)

/-! ### Replay windows leave the counters -/

/-- Every SA has the next counter that it had. -/
def State.CtrsKept (s t : State) : Prop := ∀ q, (t.sa q).txNext = (s.sa q).txNext

theorem State.CtrsKept.trans {s t u : State} (h : s.CtrsKept t) (k : t.CtrsKept u) : s.CtrsKept u := fun q => (k q).trans (h q)

theorem State.ctrsKept_setSa {s : State} {p : Nat} {a : Sa} (same : a.txNext = (s.sa p).txNext) : s.CtrsKept (s.setSa p a) := fun q => by
  by_cases own : q = p
  · rw [own, State.setSa_sa, same]
  · rw [State.setSa_sa_other _ _ _ own]

theorem State.ctrsKept_evictWindow (s : State) (x : Nat × Nat × Bool) : s.CtrsKept (s.evictWindow x) := by
  unfold State.evictWindow
  split
  · split <;> exact fun _ => rfl
  · exact State.ctrsKept_setSa rfl

theorem State.ctrsKept_touchWindow (s : State) (home : Nat) (x : Nat × Nat × Bool) : s.CtrsKept (s.touchWindow home x) := by
  have evicted (l : List (Nat × Nat × Bool)) (u : State) : u.CtrsKept (l.foldl State.evictWindow u) := by
    induction l generalizing u with
    | nil => exact fun _ => rfl
    | cons y l ih => exact (u.ctrsKept_evictWindow y).trans (ih _)
  have held (e : Engine) : s.CtrsKept (s.setEngine home e) := fun _ => rfl
  exact (held _).trans (evicted _ _)

theorem State.ctrsKept_holdWindow (s : State) (p : IngressPkt) (h : Header) (ldi : Nat) : s.CtrsKept (s.holdWindow p h ldi) := by
  have home (n : Nat) : s.CtrsKept (s.homeRequest n) := fun _ => rfl
  unfold State.holdWindow
  dsimp only
  split
  · split
    · split
      · exact (home _).trans (State.ctrsKept_touchWindow _ _ _)
      · exact home _
    · exact home _
  · exact (home _).trans (State.ctrsKept_touchWindow _ _ _)

/-- Holding a window counts on its home alone. -/
theorem State.block_holdWindow (s : State) (p : IngressPkt) (h : Header) (ldi : Nat) {i : Nat} (low : i < 0x4A0) :
    (s.holdWindow p h ldi).counters.block.findD i 0 = s.counters.block.findD i 0 := by
  have home (n : Nat) : (s.homeRequest n).counters.block.findD i 0 = s.counters.block.findD i 0 := s.block_bumpEngine _ _ _ low
  have touched (u : State) (n : Nat) (x : Nat × Nat × Bool) : (u.touchWindow n x).counters = u.counters :=
    (u.touchWindow_touches n x).counters.resolve_left (by decide)
  unfold State.holdWindow
  dsimp only
  split
  · split
    · split
      · rw [touched, home]
      · exact home _
    · exact home _
  · rw [touched, home]

/-! ### The checks -/

section
variable {s : State} {p : IngressPkt} (up : s.portsUp = true) (open_ : s.portUp p.port = true)
  (counts : (s.sa (headerOf p.bytes).1.src).txNext < ctrEnd)
include up open_

theorem execFpIngressPacket_of : execFpIngressPacket p s = .next ((s.ingress p).endExhausted (headerOf p.bytes).1.src) :=
  nextIf_of (by rw [up, open_]; rfl)

include counts

/-- A drop, from a state that has the counters of the SAs, is the whole step. -/
theorem execFpIngressPacket_drops {u t : State} (made : s.ingress p = t) (held : s.CtrsKept u) (same : t.shuttle = u.shuttle) :
    execFpIngressPacket p s = .next t := by
  have sa : t.sa (headerOf p.bytes).1.src = u.sa (headerOf p.bytes).1.src := by
    unfold State.sa
    rw [same]
  rw [execFpIngressPacket_of up open_, made, State.endExhausted_none (State.spent_of_canCount (Sa.canCount_of_lt ?_))]
  rw [sa, held]
  exact counts

/-- Check 1 (R114): a bad form is dropped and counted. -/
theorem execFpIngressPacket_form (bad : s.ingressForm p (headerOf p.bytes).1 = false) :
    ∃ t, execFpIngressPacket p s = .next t ∧ t.shuttle = s.shuttle ∧
      t.counters.block.findD 0x008 0 = (s.counters.block.findD 0x008 0 + 1) % 2 ^ 64 := by
  have made : s.ingress p = s.ingressDrop p (headerOf p.bytes).1 0x008 0x0503
      (if (headerOf p.bytes).1.ctrl then 0 else (s.ldiOfFdt (headerOf p.bytes).1.fdt).getD 0) 0 := by
    unfold State.ingress
    simp only [bad, Bool.not_false, if_true]
  have same := (s.ingressDrop_touches p (headerOf p.bytes).1 0x008 0x0503
    (if (headerOf p.bytes).1.ctrl then 0 else (s.ldiOfFdt (headerOf p.bytes).1.fdt).getD 0) 0).shuttle.resolve_left (by decide)
  exact ⟨_, execFpIngressPacket_drops up open_ counts made (fun _ => rfl) same, same,
    s.block_ingressDrop _ _ _ _ _ (by decide) (by decide)⟩

variable {a : RxSa} {ldi c : Nat} (form : s.ingressForm p (headerOf p.bytes).1 = true) (data : (headerOf p.bytes).1.hs = false)
  (plain : (headerOf p.bytes).1.ctrl = false) (sa : s.rxSa p (headerOf p.bytes).1 = some a)
  (mapped : s.ldiOfFdt (headerOf p.bytes).1.fdt = some ldi) (bound : (s.dom ldi).boundPort p.port = true)
  (allowed : (s.dom ldi).deniesClass (headerOf p.bytes).1.cls = false)
  (ctr : reconstruct a.win.top (headerOf p.bytes).1.ctr = some c)
include form data plain sa mapped bound allowed ctr

omit up open_ counts in
/-- Checks 5 and 6, on a data packet that checks 1 to 4 pass. -/
theorem State.ingress_data : s.ingress p =
    if !a.win.fresh c then (s.holdWindow p (headerOf p.bytes).1 ldi).ingressDrop p (headerOf p.bytes).1 0x00C 0x0502 ldi c
    else match openPayload a.key (packetIv a.salt c) (headerOf p.bytes).1.cls (p.bytes.take 8) (p.bytes.drop 8) with
      | none => (s.holdWindow p (headerOf p.bytes).1 ldi).dropTag p (headerOf p.bytes).1 ldi c
      | some payload => ((s.holdWindow p (headerOf p.bytes).1 ldi).confirmRx p (headerOf p.bytes).1 ldi a.win c).acceptRx p
          (headerOf p.bytes).1 ldi c payload := by
  unfold State.ingress State.ingressData
  simp only [form, data, plain, sa, mapped, bound, allowed, ctr, Bool.not_true, Bool.false_eq_true, if_false] <;> rfl

/-- Check 5: a counter already seen is dropped and counted. -/
theorem execFpIngressPacket_seen (seen : a.win.fresh c = false) :
    ∃ t, execFpIngressPacket p s = .next t ∧ t.shuttle = (s.holdWindow p (headerOf p.bytes).1 ldi).shuttle ∧
      t.counters.block.findD 0x00C 0 = (s.counters.block.findD 0x00C 0 + 1) % 2 ^ 64 := by
  have made := State.ingress_data form data plain sa mapped bound allowed ctr
  rw [seen] at made
  have same := ((s.holdWindow p (headerOf p.bytes).1 ldi).ingressDrop_touches p (headerOf p.bytes).1 0x00C 0x0502 ldi c).shuttle.resolve_left
    (by decide)
  refine ⟨_, execFpIngressPacket_drops up open_ counts made (s.ctrsKept_holdWindow p _ ldi) same, same, ?_⟩
  exact (State.block_ingressDrop _ _ _ _ _ _ (by decide) (by decide)).trans (by rw [s.block_holdWindow p _ ldi (by decide)])

/-- Check 6: a packet whose tag fails is dropped and counted. -/
theorem execFpIngressPacket_tag (fresh : a.win.fresh c = true)
    (bad : openPayload a.key (packetIv a.salt c) (headerOf p.bytes).1.cls (p.bytes.take 8) (p.bytes.drop 8) = none) :
    ∃ t, execFpIngressPacket p s = .next t ∧ t.shuttle = (s.holdWindow p (headerOf p.bytes).1 ldi).shuttle ∧
      t.counters.block.findD 0x00D 0 = (s.counters.block.findD 0x00D 0 + 1) % 2 ^ 64 := by
  have made := State.ingress_data form data plain sa mapped bound allowed ctr
  rw [fresh, bad] at made
  have same := ((s.holdWindow p (headerOf p.bytes).1 ldi).dropTag_touches p (headerOf p.bytes).1 ldi c).shuttle.resolve_left (by decide)
  refine ⟨_, execFpIngressPacket_drops up open_ counts made (s.ctrsKept_holdWindow p _ ldi) same, same, ?_⟩
  have dropped : ((s.holdWindow p (headerOf p.bytes).1 ldi).dropTag p (headerOf p.bytes).1 ldi c).counters.block.findD 0x00D 0 =
      ((s.holdWindow p (headerOf p.bytes).1 ldi).ingressDrop p (headerOf p.bytes).1 0x00D 0x0501 ldi c).counters.block.findD 0x00D 0 :=
    State.block_bumpEngine _ _ _ _ (by decide)
  refine Eq.trans dropped ?_
  rw [State.block_ingressDrop _ _ _ _ _ _ (by decide) (by decide), s.block_holdWindow p _ ldi (by decide)]

end

/-- Settles O39: the first check of R114 that a data packet fails drops it; one that passes is confirmed and taken in. -/
theorem ingressPacketsAreChecked : Obligations.IngressPacketsAreChecked := by
  unfold Obligations.IngressPacketsAreChecked
  intro s p a ldi c payload up open_ h u counts
  refine ⟨execFpIngressPacket_form up open_ counts, fun form data plain sa mapped bound allowed ctr =>
    ⟨execFpIngressPacket_seen up open_ counts form data plain sa mapped bound allowed ctr,
      execFpIngressPacket_tag up open_ counts form data plain sa mapped bound allowed ctr, fun fresh good => ?_⟩⟩
  have made := State.ingress_data form data plain sa mapped bound allowed ctr
  rw [fresh, good] at made
  exact (execFpIngressPacket_of up open_).trans (by rw [made]; rfl)

end Sys2Proof.Machine
end

section
/-!
PROOF. The replay window never takes a counter twice (R102).
-/
namespace Sys2Proof.Machine

theorem Window.fresh_iff (w : Window) (c : Nat) : w.fresh c = true ↔ w.floor ≤ c ∧ w.top ≤ c + 4095 ∧ c ∉ w.seen := by
  simp [Window.fresh, and_assoc]

/-- What is fresh after a confirmation was fresh before it, and is another counter. -/
theorem Window.fresh_of_confirm {w : Window} {c d : Nat} (h : (w.confirm c).fresh d = true) : w.fresh d = true ∧ d ≠ c := by
  obtain ⟨floor, top, unseen⟩ := ((w.confirm c).fresh_iff d).1 h
  have room : max w.top c ≤ d + 4095 := top
  have out : d ∉ c :: w.seen := fun mem => unseen (List.mem_filter.2 ⟨mem, decide_eq_true room⟩)
  rw [List.mem_cons, not_or] at out
  exact ⟨(w.fresh_iff d).2 ⟨floor, le_trans (le_max_left _ _) room, out.2⟩, out.1⟩

/-- Settles O40: a confirmation leaves only counters fresh that were fresh and are not the one confirmed. -/
theorem replayWindowRefusesAgain : Obligations.ReplayWindowRefusesAgain := by
  unfold Obligations.ReplayWindowRefusesAgain
  intro w c d
  refine ⟨?_, fun below => ?_, fun old => ?_⟩
  · rw [Bool.eq_false_iff]
    exact fun fresh => (Window.fresh_of_confirm fresh).2 rfl
  · rw [Bool.eq_false_iff]
    intro fresh
    have top := (((w.confirm c).fresh_iff d).1 fresh).2.1
    omega
  · rw [Bool.eq_false_iff] at old ⊢
    exact fun fresh => old (Window.fresh_of_confirm fresh).1

end Sys2Proof.Machine
end

section
/-!
PROOF. NACKs, atomic messages and their timers (R123, R128, R133 to R137).
-/
namespace Sys2Proof.Machine

/-! ### Messages that are taken out of the engine -/

/-- What follows a message: the packets behind it go, and its SA ends if its counter has run out. -/
def State.afterRx (s : State) (p : RxPkt) : State := s.pump.endExhausted p.src

section
variable {s : State} {p : RxPkt} (k : State → RxPkt → State)

theorem State.onRx_taken (takes : (s.dom p.ldi).drops = false) : s.onRx p k = (k s p).afterRx p := by
  obtain ⟨stays, lives⟩ := Bool.or_eq_false_iff.1 takes
  unfold State.onRx
  simp only [stays, lives, Bool.false_eq_true, if_false]
  rfl

theorem State.onRx_aborted (stays : (s.dom p.ldi).retiring = false) (dead : (s.dom p.ldi).state = .aborted) :
    s.onRx p k = (s.dropState p).afterRx p := by
  unfold State.onRx
  simp only [stays, dead, Bool.false_eq_true, if_false]
  rfl

end

section
variable {s t : State} {p : RxPkt} (up : s.clocked = true)
include up

theorem execNackReceived_of (taken : s.takeRx (fun p => kindOf p.payload == kNack) = some (p, t)) :
    execNackReceived s = .next (t.onRx p State.takeNack) := by
  unfold execNackReceived
  rw [taken]
  exact nextIf_of up

theorem execAtomicRequestReceived_of (taken : s.takeRx (isAop 1) = some (p, t)) {u : State} (made : t.takeRequest p = some u) :
    execAtomicRequestReceived s = .next (t.onRx p (fun s p => (s.takeRequest p).getD s)) := by
  unfold execAtomicRequestReceived
  rw [taken]
  exact nextIf_of (by rw [up, made]; rfl)

theorem execAtomicQueryReceived_of (taken : s.takeRx (isAop 2) = some (p, t)) :
    execAtomicQueryReceived s = .next (t.onRx p State.takeQuery) := by
  unfold execAtomicQueryReceived
  rw [taken]
  exact nextIf_of up

theorem execAtomicResponseReceived_of (taken : s.takeRx (isAop 3) = some (p, t)) :
    execAtomicResponseReceived s = .next (t.onRx p State.takeResponse) := by
  unfold execAtomicResponseReceived
  rw [taken]
  exact nextIf_of up

theorem execAckOnlyReceived_of (taken : s.takeRx (isAop 0) = some (p, t)) :
    execAckOnlyReceived s = .next (t.onRx p (fun s p => s.takeAck p.src (ackOf p.payload))) := by
  unfold execAckOnlyReceived
  rw [taken]
  exact nextIf_of up

/-- A request that its domain takes is what the table of R134 makes of it. -/
theorem execAtomicRequestReceived_taken (taken : s.takeRx (isAop 1) = some (p, t)) (takes : (t.dom p.ldi).drops = false) {u : State}
    (made : (t.takeAck p.src (ackOf p.payload)).requestTable p = some u) : execAtomicRequestReceived s = .next (u.afterRx p) := by
  have request : t.takeRequest p = some u := (if_neg (by rw [takes]; exact Bool.false_ne_true)).trans made
  rw [execAtomicRequestReceived_of up taken request, State.onRx_taken _ takes, request, Option.getD_some]

end

/-! ### Requests, queries and responses -/

section
variable {u : State} {p : RxPkt}

theorem State.requestTable_cached {e : RcEntry} (found : u.rcFind true p.src (aseqOf p.payload) = some e) (ready : e.ready = true) :
    u.requestTable p = some (u.answerCached e) := by
  unfold State.requestTable
  simp only [found, ready, if_true]

theorem State.requestTable_new {w : Nat × Nat × BWork} (new : u.rcFind true p.src (aseqOf p.payload) = none)
    (fresh : seriallyBelow (aseqOf p.payload) (u.sa p.src).rxAck = false) (map : (u.dom p.ldi).mapOk p.mapgen = true)
    (running : (u.dom p.ldi).state = .running) (free : (u.dom p.ldi).det = false) (room : u.rcAvailable p.ldi = true)
    (work : atomicWork (bytesAt p.payload 24 24) = some w) (arr : u.rxBadArr p = false) (alive : u.routeDead [w] = false)
    (fits : u.routeFits p.port [w] = true) :
    u.requestTable p = some (((u.rcAdd (replyEntry p)).routeAll (u.rxProto p) [w]).countRx p) := by
  have runs : u.runAtomic p = some (((u.rcAdd (replyEntry p)).routeAll (u.rxProto p) [w]).countRx p) := by
    unfold State.runAtomic
    simp only [work, arr, alive, fits, Bool.false_eq_true, if_false, if_true]
  unfold State.requestTable
  simp only [new, fresh, map, running, free, room, bne_self_eq_false, Bool.not_true, Bool.false_and, Bool.false_eq_true, if_false, runs]

theorem State.answerQuery_new (new : u.rcFind true p.src (aseqOf p.payload) = none)
    (fresh : seriallyBelow (aseqOf p.payload) (u.sa p.src).rxAck = false) (room : u.rcAvailable p.ldi = true) :
    u.answerQuery p = (((u.rcAdd { replyEntry p with status := stRetry, ready := true }).bumpDom p.ldi 12).answerCached
      { replyEntry p with status := stRetry, ready := true }) := by
  unfold State.answerQuery
  simp only [new, fresh, room, Bool.not_true, Bool.or_self, Bool.false_eq_true, if_false]

/-- A response that meets its PENDING entry frees it. -/
theorem State.meetEntry_frees {e : RcEntry} (found : u.rcFind false p.src (aseqOf p.payload) = some e) (own : e.ldi = p.ldi) :
    ∀ x ∈ (u.meetEntry p).shuttle.rcache, ¬ (x.reply = false ∧ x.peer = p.src ∧ x.aseq = aseqOf p.payload) := by
  have aseq : e.aseq = aseqOf p.payload := by
    have test := List.find?_some found
    simp only [Bool.and_eq_true, beq_iff_eq] at test
    exact test.2
  have lag (v : State) (q : Nat) : (v.lagAck q).shuttle.rcache = v.shuttle.rcache := by
    unfold State.lagAck
    dsimp only
    split <;> rfl
  intro x mem
  unfold State.meetEntry at mem
  simp only [found, own, beq_self_eq_true, if_true] at mem
  rw [lag] at mem
  have kept := (List.mem_filter.1 mem).2
  rintro ⟨pending, peer, seq⟩
  simp [pending, peer, seq, aseq] at kept

end

/-! ### Descriptors -/

/-- The replay cache is as it was. -/
def State.RcacheKept (s t : State) : Prop := t.shuttle.rcache = s.shuttle.rcache

theorem State.RcacheKept.trans {s t u : State} (h : s.RcacheKept t) (k : t.RcacheKept u) : s.RcacheKept u := Eq.trans k h

theorem Touches.rcacheKept {F : List Part} {s t : State} (h : Touches F s t) (n : Part.shuttle ∉ F) : s.RcacheKept t :=
  congrArg Shuttle.rcache (h.shuttle.resolve_left n)

theorem State.rcacheKept_takeCtr {s t : State} {p c : Nat} (h : s.takeCtr p = some (c, t)) : s.RcacheKept t := by
  unfold State.takeCtr at h
  dsimp only at h
  split at h
  · cases h
    rfl
  · cases h

theorem State.rcacheKept_sendCtrlPart (s : State) (p : Nat) (b : Bytes) : s.RcacheKept (s.sendCtrlPart p b) := by
  unfold State.sendCtrlPart
  cases counter : s.takeCtr p with
  | none => rfl
  | some x =>
    have used : s.RcacheKept x.2 := State.rcacheKept_takeCtr (c := x.1) counter
    exact used

theorem State.rcacheKept_noteTx (s : State) (p : Nat) (data : Bool) : s.RcacheKept (s.noteTx p data) := rfl

theorem State.rcacheKept_sendPolicy (s : State) (p l : Nat) : s.RcacheKept (s.sendPolicy p l) := by
  have parts (u : State) (bs : List Bytes) : u.RcacheKept (bs.foldl (fun s b => s.sendCtrlPart p b) u) := by
    induction bs generalizing u with
    | nil => rfl
    | cons b bs ih => exact (u.rcacheKept_sendCtrlPart p b).trans (ih _)
  have sent (u : State) (type : Nat) (body : Bytes) : u.RcacheKept (u.sendCtrl p type body) := by
    unfold State.sendCtrl
    split
    · exact (parts _ _).trans (State.rcacheKept_noteTx _ _ _)
    · rfl
  have marked (a : Sa) : s.RcacheKept (s.setSa p a) := rfl
  unfold State.sendPolicy
  dsimp only
  split
  · exact (marked _).trans (sent _ _ _)
  · rfl

/-- A packet that the engine has built is counted. -/
def State.builtCounted (s : State) (port ldi n : Nat) : State :=
  let t := ((s.bumpEngine port 0 n).bumpEngine port 2 1).bumpDom ldi 2 n
  (t.meter ldi 0 n 0).segment 3 (t.engine port).instance_ ldi 0 0 n

theorem State.builtCounted_touches (s : State) (port ldi n : Nat) :
    Touches [.tallies, .counters, .metering, .trace] s (s.builtCounted port ldi n) :=
  ((((s.bumpEngine_touches _ _ _).mono (by decide)).trans ((State.bumpEngine_touches _ _ _ _).mono (by decide))).trans
    ((State.bumpDom_touches _ _ _ _).mono (by decide))).trans
      (((State.meter_touches _ _ _ _ _).mono (by decide)).trans ((State.segment_touches _ _ _ _ _ _ _).mono (by decide)))

/-- A packet that the engine has built leaves under the counter that it has taken. -/
theorem State.sendBuilt_cases (s : State) (port vc peer ldi : Nat) (b : Bytes) :
    s.sendBuilt port vc peer ldi b = s ∨ s.sendBuilt port vc peer ldi b = s.sendPolicy peer ldi ∨
      ∃ c u o, (s.sendPolicy peer ldi).takeCtr peer = some (c, u) ∧
        s.sendBuilt port vc peer ldi b = ((u.noteTx peer true).emit o).builtCounted port ldi b.length := by
  unfold State.sendBuilt
  split
  · right
    dsimp only
    cases counter : (s.sendPolicy peer ldi).takeCtr peer with
    | none => exact Or.inl rfl
    | some x => exact Or.inr ⟨x.1, x.2, _, rfl, rfl⟩
  · exact Or.inl rfl

theorem State.rcacheKept_sendBuilt (s : State) (port vc peer ldi : Nat) (b : Bytes) : s.RcacheKept (s.sendBuilt port vc peer ldi b) := by
  have told := s.rcacheKept_sendPolicy peer ldi
  rcases s.sendBuilt_cases port vc peer ldi b with same | same | ⟨c, u, o, counter, built⟩
  · rw [same]
    rfl
  · rw [same]
    exact told
  · rw [built]
    have left_ : u.RcacheKept ((u.noteTx peer true).emit o) := rfl
    exact ((told.trans (State.rcacheKept_takeCtr counter)).trans left_).trans
      ((State.builtCounted_touches _ _ _ _).rcacheKept (by decide))

theorem State.rcacheKept_sendDescriptor (s : State) (port vc peer ldi aseq status aop : Nat) (b : Bytes) :
    s.RcacheKept (s.sendDescriptor port vc peer ldi aseq status aop b) := by
  have acked (u : State) : u.RcacheKept (u.noteAck peer) := rfl
  unfold State.sendDescriptor
  split
  · exact (s.rcacheKept_sendBuilt port vc peer ldi _).trans (acked _)
  · rfl

/-- A QUERY leaves its PENDING entry, due 20 µs later. -/
theorem State.sendQuery_due {s : State} {e : RcEntry} (held : e ∈ s.shuttle.rcache) :
    { e with due := s.now + 20 * usTicks } ∈ (s.sendQuery e).shuttle.rcache := by
  have set_ : { e with due := s.now + 20 * usTicks } ∈ (s.rcSet { e with due := s.now + 20 * usTicks }).shuttle.rcache :=
    List.mem_map.2 ⟨e, held, by simp⟩
  unfold State.sendQuery
  dsimp only
  rw [State.rcacheKept_sendDescriptor]
  exact set_

theorem State.sendDescriptor_ackSince {s : State} {port peer : Nat} (built : s.canBuild port peer = true) (vc ldi aseq status aop : Nat)
    (b : Bytes) : ((s.sendDescriptor port vc peer ldi aseq status aop b).sa peer).ackSince = none := by
  unfold State.sendDescriptor
  rw [if_pos built]
  unfold State.noteAck
  rw [State.setSa_sa]

theorem Touches.canBuild {F : List Part} {s t : State} (h : Touches F s t) (n : Part.shuttle ∉ F) (port peer : Nat) :
    t.canBuild port peer = s.canBuild port peer := by
  unfold State.canBuild State.saValid State.portUp State.engine
  rw [h.sa n, h.shuttle.resolve_left n, h.build]

/-- Settles O41: a message that its domain takes is its own rule's, an ABORTED domain's is dropped; a QUERY and an ACK_ONLY are
descriptors. -/
theorem atomicExchangesTakeEffect : Obligations.AtomicExchangesTakeEffect := by
  unfold Obligations.AtomicExchangesTakeEffect
  refine ⟨fun s t p e w up => ?_, fun s peer aseq t0 ldi port vc e ports valid => ⟨fun found => ?_, fun since route => ?_⟩⟩
  · intro u aseq after
    refine ⟨fun row mem taken stays dead => ?_, fun takes => ⟨fun taken => ?_, fun taken => ⟨fun found ready => ?_, ?_⟩,
      fun taken new fresh room => ?_, fun taken found own => ⟨?_, State.meetEntry_frees found own⟩, fun taken => ?_⟩⟩
    · have drops : (t.dom p.ldi).drops = true := by
        unfold Domain.drops
        rw [dead]
        exact Bool.or_true _
      simp only [List.mem_cons, List.not_mem_nil, or_false] at mem
      rcases mem with rfl | rfl | rfl | rfl | rfl
      · exact (execNackReceived_of up taken).trans (by rw [State.onRx_aborted _ stays dead]; rfl)
      · have kept : t.takeRequest p = some t := if_pos drops
        exact (execAtomicRequestReceived_of up taken kept).trans (by rw [State.onRx_aborted _ stays dead]; rfl)
      · exact (execAtomicQueryReceived_of up taken).trans (by rw [State.onRx_aborted _ stays dead]; rfl)
      · exact (execAtomicResponseReceived_of up taken).trans (by rw [State.onRx_aborted _ stays dead]; rfl)
      · exact (execAckOnlyReceived_of up taken).trans (by rw [State.onRx_aborted _ stays dead]; rfl)
    · exact (execNackReceived_of up taken).trans (by rw [State.onRx_taken _ takes]; rfl)
    · exact execAtomicRequestReceived_taken up taken takes (State.requestTable_cached found ready)
    · intro new fresh map running free room work arr alive fits
      exact execAtomicRequestReceived_taken up taken takes (State.requestTable_new new fresh map running free room work arr alive fits)
    · refine (execAtomicQueryReceived_of up taken).trans ?_
      rw [State.onRx_taken _ takes, State.takeQuery, State.answerQuery_new new fresh room]
      rfl
    · exact (execAtomicResponseReceived_of up taken).trans (by rw [State.onRx_taken _ takes]; rfl)
    · exact (execAckOnlyReceived_of up taken).trans (by rw [State.onRx_taken _ takes]; rfl)
  · have test := List.find?_some found
    simp only [Bool.and_eq_true, beq_iff_eq] at test
    obtain ⟨⟨pending, own⟩, seq⟩ := test
    have clock := s.advanceTo_touches e.due
    have held : e ∈ (s.advanceTo e.due).shuttle.rcache := by
      rw [clock.shuttle.resolve_left (by decide)]
      exact List.mem_of_find?_eq_some found
    refine ⟨?_, _, State.sendQuery_due held, pending, seq, own, rfl⟩
    simp only [exec, execAtomicDueExpiry, found]
    exact nextIf_of (by rw [ports, valid]; rfl)
  · refine ⟨?_, fun built => ?_⟩
    · simp only [exec, execAckOnlyTimer, since, route]
      exact nextIf_of (by rw [ports, valid]; rfl)
    · refine State.sendDescriptor_ackSince ?_ _ _ _ _ _ _
      rw [(s.advanceTo_touches _).canBuild (by decide)]
      exact built

end Sys2Proof.Machine
end

section
/-!
PROOF. The messages of a pair handshake (R105 to R108, R197, R201, R430).
-/
namespace Sys2Proof.Machine

theorem State.whenChain_held {t : State} {peer : Nat} {h : Handshake} {chain : Bytes} {k : State → Bytes → State} {digest : Bytes}
    (held : t.heldChain peer digest = some chain) :
    t.whenChain peer h digest k = k t chain := by
  unfold State.whenChain
  rw [held]

section
variable {s t : State} {peer : Nat} {m : CtrlMsg} {h : Handshake} {chain : Bytes} (ready : s.shakes = true)
include ready

theorem execSaInit_of (taken : s.takeMsg peer 0x01 anyBody = some (m, t)) (can : t.canShake = true) (length : m.body.length = 1753)
    (valid : Config.p384Valid (kexEcdh m.body) = true) (yields : t.ownPrevails peer = false) :
    execSaInit peer s = .next (t.answerInit peer m.body) := by
  refine (State.onMsg_of _ taken ready).trans ?_
  simp [can, length, valid, yields]

theorem execSaResp_of (taken : s.takeMsg peer 0x02 anyBody = some (m, t)) (shake : t.handshake peer = some h)
    (can : t.canShake = true) (asks : h.initiator = true) (new : h.respBody = []) (length : m.body.length = 6732)
    (valid : Config.p384Valid (kexEcdh m.body) = true) (held : t.heldChain peer (kexDigest m.body) = some chain) :
    execSaResp peer s = .next (t.verifyResp peer { h with respBody := m.body } chain) := by
  refine (State.onMsg_of _ taken ready).trans ?_
  simp only [shake, can, asks, new, length, valid, List.isEmpty_nil, bne_self_eq_false, Bool.not_true, Bool.or_self,
    Bool.false_eq_true, if_false]
  rw [State.whenChain_held held]

theorem execSaFin_of (taken : s.takeMsg peer 0x03 anyBody = some (m, t)) (shake : t.handshake peer = some h)
    (can : t.canShake = true) (answers : h.initiator = false) (new : h.finBody = []) (length : m.body.length = 4979)
    (held : t.heldChain peer (kexDigest h.initBody) = some chain) :
    execSaFin peer s = .next (t.verifyFin peer { h with finBody := m.body } chain) := by
  refine (State.onMsg_of _ taken ready).trans ?_
  simp only [shake, can, answers, new, length, List.isEmpty_nil, bne_self_eq_false, Bool.not_true, Bool.or_self,
    Bool.false_eq_true, if_false]
  rw [State.whenChain_held held]

theorem execSaDone_of (taken : s.takeMsg peer 0x04 anyBody = some (m, t)) (shake : t.handshake peer = some h)
    (asks : h.initiator = true) (finished : h.finBody ≠ []) (confirms : m.body = bvBytes 48 (pendingKeys h t.boot.devid peer).1)
    (held : t.heldChain peer (kexDigest h.respBody) = some chain) :
    execSaDone peer s = .next (t.replaceSa peer (pendingKeys h t.boot.devid peer).2 (bytesAt h.respBody 1753 256) chain
      h.lazily none) := by
  refine (State.onMsg_of _ taken ready).trans ?_
  have sent : h.finBody.isEmpty = false := by simpa using finished
  have same : (m.body != bvBytes 48 (pendingKeys h t.boot.devid peer).1) = false := by rw [confirms]; exact bne_self_eq_false _
  simp only [shake, asks, sent, same, held, Bool.not_true, Bool.or_self, Bool.false_eq_true, if_false]

theorem execChainGet_of (taken : s.takeMsg peer 0x06 List.isEmpty = some (m, t)) (can : t.canShake = true) :
    execChainGet peer s = .next (t.sendHs peer 0x06 t.keys.chain) :=
  (State.onMsg_of _ taken ready).trans (by rw [if_pos can])

theorem execChain_of (taken : s.takeMsg peer 0x06 (fun b => !b.isEmpty) = some (m, t)) (shake : t.handshake peer = some h)
    (waits : h.waitChain = false)
    (named : bvBytes 48 (Config.sha384 m.body) = kexDigest (if h.initiator then h.respBody else h.initBody)) :
    execChain peer s = .next { t with shuttle := { t.shuttle with chains := t.shuttle.chains.put peer m.body } } := by
  refine (State.onMsg_of _ taken ready).trans ?_
  have same : (bvBytes 48 (Config.sha384 m.body) != kexDigest (if h.initiator then h.respBody else h.initBody)) = false := by
    rw [named]
    exact bne_self_eq_false _
  simp only [shake, same, waits, Bool.not_false, Bool.false_eq_true, if_false, if_true]

end

/-! ### A handshake that R107 refuses -/

/-- The entry of a peer whose handshake has failed at a check. -/
def Sa.failedAtCheck (a : Sa) (check now : Nat) : Sa :=
  if a.state == .valid then { a with failReason := check }
  else { a with state := .failed, failReason := check, failedAt := now, established := false }

theorem State.failHandshake_sa (s : State) (peer check : Nat) :
    (s.failHandshake peer check).sa peer = (s.sa peer).failedAtCheck check s.now := by
  unfold State.failHandshake
  rw [(State.saRecord_touches _ _ _ _ _).sa (by decide)]
  exact State.setSa_sa _ _ _

theorem State.failHandshake_handshake (s : State) (peer check : Nat) : (s.failHandshake peer check).handshake peer = none := by
  have gone (u : State) : (u.dropHandshake peer).handshake peer = none := Map.find_del_self _ _
  have recorded (u : State) (type : Nat) : (u.saRecord type peer 0 check).handshake peer = u.handshake peer := by
    unfold State.handshake
    rw [(u.saRecord_touches _ _ _ _).shuttle.resolve_left (by decide)]
  unfold State.failHandshake
  exact (recorded _ _).trans (gone _)

/-- Settles O42: each message of a handshake, when what it needs is there, is its own operation; a refused handshake leaves a VALID
entry VALID and any other FAILED. -/
theorem handshakesTakeEffect : Obligations.HandshakesTakeEffect := by
  unfold Obligations.HandshakesTakeEffect
  refine ⟨fun s t peer m h chain ready => ⟨execSaInit_of ready, execSaResp_of ready, execSaFin_of ready, execSaDone_of ready,
    execChainGet_of ready, execChain_of ready⟩, fun s peer c => ⟨fun other => ?_, fun valid => ?_, s.failHandshake_handshake peer c⟩⟩
  · have failed : (s.failHandshake peer c).sa peer =
        { s.sa peer with state := .failed, failReason := c, failedAt := s.now, established := false } := by
      rw [State.failHandshake_sa, Sa.failedAtCheck, if_neg (by simpa using other)]
    unfold State.saValid
    rw [failed]
    exact ⟨rfl, rfl, rfl⟩
  · have stays : (s.failHandshake peer c).sa peer = { s.sa peer with failReason := c } := by
      rw [State.failHandshake_sa, Sa.failedAtCheck, if_pos (by simpa using valid)]
    rw [stays]
    exact ⟨valid, rfl⟩

end Sys2Proof.Machine
end

section
/-! PROOF. Obligation O43: keepalives, the loss of an SA and the end of a FAILED entry. -/
namespace Sys2Proof.Machine

theorem Touches.time_eq {F : List Part} {s t : State} (h : Touches F s t) (n : Part.time ∉ F) : t.time = s.time :=
  h.time.resolve_left n

theorem State.saKept_advanceTo (s : State) (n : Nat) : s.SaKept (s.advanceTo n) := (s.advanceTo_touches n).saKept (by decide)

/-- A message that is sent on an SA notes the time of its sending. -/
theorem State.sendCtrl_lastTx {s : State} {p : Nat} (type : Nat) (body : Bytes) (valid : s.saValid p = true) :
    ((s.sendCtrl p type body).sa p).lastTx = s.now := by
  have parts : ((ctrlParts type body).foldl (fun s b => s.sendCtrlPart p b) s).now = s.now := by
    have same := (Touches.foldl (F := [.shuttle, .counters, .out]) (fun s b => State.sendCtrlPart s p b) (ctrlParts type body) s
      (Touches.refl _ _) fun u b h => h.trans (u.sendCtrlPart_touches p b)).time_eq (by decide)
    exact congrArg TimeUnit.freerun same
  have noted (u : State) (data : Bool) : ((u.noteTx p data).sa p).lastTx = u.now := by
    unfold State.noteTx
    rw [State.setSa_sa]
    cases data <;> rfl
  unfold State.sendCtrl
  rw [if_pos valid, noted, parts]

theorem State.loseSa_of {s : State} {p : Nat} (valid : s.saValid p = true) :
    s.loseSa p = (s.endSa p 0x05 .lost).saRecord 0x0507 p 0 0 := by
  unfold State.loseSa
  rw [if_pos valid]

/-- Settles O43: the keepalive and loss timers act on a VALID SA, and a FAILED entry becomes what R104 says, alone. -/
theorem linkTimersTakeEffect : Obligations.LinkTimersTakeEffect := by
  unfold Obligations.LinkTimersTakeEffect
  refine fun s t peer m => ⟨fun ready taken => State.onMsg_of _ taken ready, ?_, ?_, fun ready failed => ?_⟩
  · intro u open_ valid alive v
    have validThen : u.saValid peer = true := ((s.saKept_advanceTo _).valid peer).trans valid
    refine ⟨nextIf_of (by rw [open_, valid, alive]; rfl), ?_⟩
    have counted := ((u.sendCtrl peer 0x05 []).bumpEngine_touches (u.pairHome peer) 4 1).sa (by decide) peer
    exact (congrArg Sa.lastTx counted).trans (State.sendCtrl_lastTx 0x05 [] validThen)
  · intro u ready safe valid
    have validThen : u.saValid peer = true := ((s.saKept_advanceTo _).valid peer).trans valid
    refine ⟨fun fresh live => ?_, fun spent => ?_⟩
    · rw [← State.loseSa_of validThen]
      simp only [exec, execSaLossTimeout, fresh, Bool.false_eq_true, if_false]
      exact nextIf_of (by rw [ready, safe, valid, live]; rfl)
    · rw [← State.loseSa_of valid]
      simp only [exec, execSaLossTimeout, spent, if_true]
      exact nextIf_of (by rw [ready, safe, valid]; rfl)
  · have kept (q : Nat) : ((s.advanceTo ((s.sa peer).failedAt + secTicks)).internalEntry).sa q = s.sa q :=
      ((State.internalEntry_touches _).sa (by decide) q).trans ((s.advanceTo_touches _).sa (by decide) q)
    refine ⟨_, nextIf_of (by rw [ready, failed]; rfl), State.setSa_sa _ _ _, fun k other => ?_⟩
    exact (State.setSa_sa_other _ _ _ other).trans (kept k)

end Sys2Proof.Machine
end

section
/-! PROOF. Obligation O44: group keys, POLICY, RETIRED, the FDT quarantine and SQUALL. -/
namespace Sys2Proof.Machine

/-- The group key of a message, held for 1 s. -/
def State.heldGroupKey (s : State) (peer : Nat) (b : Bytes) : HeldGroupKey where
  peer := peer
  gdid := fieldAt b 0 4
  gid := fieldAt b 4 2
  key := keyOf (b.drop 8)
  salt := fieldAt b 6 2
  expires := s.now + secTicks

theorem State.installGroupKey_group (s : State) (l gid : Nat) (g : Group) (key : Key) (salt : Nat) :
    (s.installGroupKey l gid g key salt).group (groupKeyOf l gid) = some { g with keyed := true } :=
  State.setGroup_group _ _ _

theorem State.installGroupKey_keySlot (s : State) (l gid : Nat) (g : Group) (key : Key) (salt : Nat) :
    (s.installGroupKey l gid g key salt).keySlot g.slot = { s.keySlot g.slot with key := key, salt := salt } :=
  State.setSlot_keySlot _ _ _

theorem State.admitQuarantine_of_empty (s : State) (none_ : s.tables.quarWait = []) : s.admitQuarantine = s := by
  unfold State.admitQuarantine
  rw [none_]

theorem State.advanceTo_tables (s : State) (n : Nat) : (s.advanceTo n).tables = s.tables := by
  unfold State.advanceTo
  split <;> rfl

/-- An FDT leaves the quarantine. -/
def State.leaveQuarantine (s : State) (fdt : Nat) : State :=
  { s with tables := { s.tables with quarantine := s.tables.quarantine.filter (fun x => x.fdt != fdt) } }

theorem State.admitQuarantine_leave (s : State) (fdt : Nat) (alone : s.tables.quarWait = []) :
    (s.leaveQuarantine fdt).internalEntry.admitQuarantine.tables.quarantine =
      s.tables.quarantine.filter (fun x => x.fdt != fdt) := by
  obtain ⟨inside, waiting⟩ := (s.leaveQuarantine fdt).internalEntry_touches.tables.quarantine.resolve_left (by decide)
  rw [State.admitQuarantine_of_empty _ (waiting.trans alone)]
  exact inside

section
variable {s t : State} {peer l slot fdt : Nat} {m : CtrlMsg} {g : Group} (ready : s.clocked = true)
include ready

/-! ### Group keys (R112) -/

theorem execGroupKey_waited (taken : s.takeMsg peer 0x07 (fun b => b.length == 40) = some (m, t))
    (known : t.ldiOfGdid (fieldAt m.body 0 4) = some l) (held : t.group (groupKeyOf l (fieldAt m.body 4 2)) = some g)
    (bare : g.keyed = false) (awaited : t.groupSlot l (fieldAt m.body 4 2) = some slot) :
    execGroupKey peer s =
      .next (t.installGroupKey l (fieldAt m.body 4 2) g (keyOf (m.body.drop 8)) (fieldAt m.body 6 2)) := by
  refine (State.onMsg_of _ taken ready).trans ?_
  simp only [known, Option.bind_some, held, Option.map_some, bare, awaited, Bool.not_false, Option.isSome_some, Bool.and_self, if_true]

theorem execGroupKey_keyed (taken : s.takeMsg peer 0x07 (fun b => b.length == 40) = some (m, t))
    (known : t.ldiOfGdid (fieldAt m.body 0 4) = some l) (held : t.group (groupKeyOf l (fieldAt m.body 4 2)) = some g)
    (keyed : g.keyed = true) : execGroupKey peer s = .next t := by
  refine (State.onMsg_of _ taken ready).trans ?_
  simp only [known, Option.bind_some, held, Option.map_some, keyed, Bool.not_true, Bool.false_and, Bool.false_eq_true, if_false]

theorem execGroupKey_unknown (taken : s.takeMsg peer 0x07 (fun b => b.length == 40) = some (m, t))
    (unknown : (t.ldiOfGdid (fieldAt m.body 0 4)).bind (fun l => t.group (groupKeyOf l (fieldAt m.body 4 2))) = none) :
    execGroupKey peer s =
      .next { t with shuttle := { t.shuttle with groupHold := t.shuttle.groupHold ++ [t.heldGroupKey peer m.body] } } := by
  have noGroup : (t.ldiOfGdid (fieldAt m.body 0 4)).bind
      (fun l => (t.group (groupKeyOf l (fieldAt m.body 4 2))).map (fun g => (l, g))) = none := by
    rw [Option.bind_eq_none_iff] at unknown ⊢
    exact fun l found => by rw [unknown l found]; rfl
  refine (State.onMsg_of _ taken ready).trans ?_
  simp only [noGroup]
  rfl

theorem execGroupKeyHoldExpiry_of {gk : HeldGroupKey} {gks : List HeldGroupKey} (held : s.shuttle.groupHold = gk :: gks) :
    ∃ v, execGroupKeyHoldExpiry s = .next v ∧ v.shuttle.groupHold = gks := by
  unfold execGroupKeyHoldExpiry
  rw [held]
  exact ⟨_, nextIf_of ready, rfl⟩

/-! ### POLICY, RETIRED and the quarantine (R36, R54) -/

theorem execPolicy_of (taken : s.takeMsg peer 0x08 (fun b => b.length == 48) = some (m, t))
    (plain : fieldAt m.body 8 1 % 2 = 0) (known : t.ldiOfGdid (fieldAt m.body 0 4) = some l)
    (live : (t.dom l).state.abortable = true) :
    execPolicy peer s = .next ((t.takePolicy peer l (BitVec.ofNat 32 (fieldAt m.body 4 4))).endExhausted peer) := by
  refine (State.onMsg_of _ taken ready).trans ?_
  simp only [plain, known, live, if_true]
  rfl

theorem execRetired_unknown (taken : s.takeMsg peer 0x09 (fun b => b.length == 8) = some (m, t))
    (unknown : t.knowsGdid (fieldAt m.body 0 4) = false) : execRetired peer s = .next t.countDropped := by
  refine (State.onMsg_of _ taken ready).trans ?_
  simp only [unknown, Bool.not_false, if_true]

theorem execRetired_known (taken : s.takeMsg peer 0x09 (fun b => b.length == 8) = some (m, t))
    (known : t.knowsGdid (fieldAt m.body 0 4) = true) :
    ∃ v, execRetired peer s = .next v ∧
      v.tables.quarantine = t.tables.quarantine.map (fun q => q.report (fieldAt m.body 0 4) peer t.now) := by
  refine ⟨_, State.onMsg_of _ taken ready, ?_⟩
  simp only [known, Bool.not_true, Bool.false_eq_true, if_false]
  cases (t.internalEntry.sa peer).policy.find (fieldAt m.body 0 4) <;> rfl

/-- The expiry of a quarantined FDT with no other that waits for a place. -/
theorem execFdtQuarantineExpiry_of {q : Quarantined} (found : s.tables.quarantine.find? (fun q => q.fdt == fdt) = some q)
    (reported : q.peers = []) (alone : s.tables.quarWait = []) :
    ∃ v, execFdtQuarantineExpiry fdt s = .next v ∧
      v.tables.quarantine = s.tables.quarantine.filter (fun x => x.fdt != fdt) := by
  have tables := s.advanceTo_tables (q.since + 10 * msTicks)
  unfold execFdtQuarantineExpiry
  rw [found]
  refine ⟨_, nextIf_of (t := ((s.advanceTo (q.since + 10 * msTicks)).leaveQuarantine fdt).internalEntry.admitQuarantine)
    (by rw [ready, reported]; rfl), ?_⟩
  rw [State.admitQuarantine_leave, tables]
  rw [tables]
  exact alone

/-! ### SQUALL (R392) -/

theorem execSquall_of (taken : s.takeMsg peer 0x0A (fun b => b.length == 16) = some (m, t))
    (known : t.ldiOfGdid (fieldAt m.body 0 4) = some l) (passed : t.exchPassed peer l = true)
    (first : (t.dom l).squalled = false) (live : (t.dom l).state.abortable = true) :
    execSquall peer s = .next (t.takeSquall peer l m.body).endSpent := by
  refine (State.onMsg_of _ taken ready).trans ?_
  simp only [known, passed, first, live, Bool.not_false, Bool.and_self, if_true]

end

/-- Settles O44: each control message about a group key, a policy or a retired domain has the effect of its section. -/
theorem controlMessagesTakeEffect : Obligations.ControlMessagesTakeEffect := by
  unfold Obligations.ControlMessagesTakeEffect
  intro s t peer l slot fdt m g gk gks q ready
  refine ⟨?_, execGroupKey_keyed ready,
    fun taken unknown => ⟨_, _, execGroupKey_unknown ready taken unknown, rfl, rfl, rfl, rfl, rfl⟩, execGroupKeyHoldExpiry_of ready,
    execPolicy_of ready,
    fun taken => ⟨execRetired_known ready taken, execRetired_unknown ready taken⟩, execFdtQuarantineExpiry_of ready,
    execSquall_of ready⟩
  intro taken known k held bare awaited
  exact ⟨_, execGroupKey_waited ready taken known held bare awaited, State.installGroupKey_group _ _ _ _ _ _,
    State.installGroupKey_keySlot _ _ _ _ _ _⟩

end Sys2Proof.Machine
end

section
/-! PROOF. Obligation O45: requests that the reduction router takes from `BA_`. -/
namespace Sys2Proof.Machine

/-- A request that the router takes passes its checks. -/
theorem State.baChecks_none {s : State} {r : BaReq} {nondet : Bool} {ws : List (Nat × Nat × BWork)} (takes : RouterTakes s r ws)
    (allowed : ((s.dom r.ldi).det && nondet) = false) : s.baChecks r nondet ws = none := by
  obtain ⟨-, flows, own, alive, -⟩ := takes
  have counter : (r.arr != 0 && !s.arrOk r.ldi r.arr) = false := by
    rcases own with none_ | ok
    · rw [none_]; rfl
    · rw [ok, Bool.not_true, Bool.and_false]
  simp only [State.baChecks, flows, allowed, counter, alive, Bool.not_true, Bool.false_eq_true, if_false]

theorem State.baQueue_out (s : State) (r : BaReq) (left : Nat) (ws : List (Nat × Nat × BWork)) :
    (s.baQueue r left ws).out = s.out := (s.baQueue_touches r left ws).out.resolve_left (by decide)

theorem State.baQueue_reqs (s : State) (r : BaReq) (left : Nat) (ws : List (Nat × Nat × BWork)) :
    (s.baQueue r left ws).batten.reqs.find s.batten.nextReq =
      some { tag := r.tag, ldi := r.ldi, fence := r.fence, left := left } := Map.find_put_self _ _ _

section
variable {s : State} {r : BaReq} {nondet : Bool} {left : Nat} {ws : List (Nat × Nat × BWork)} (takes : RouterTakes s r ws)
  (allowed : ((s.dom r.ldi).det && nondet) = false)
include takes allowed

/-- A request that is answered at once is queued as one open request, and its response is the one output. -/
theorem State.baAccept_answered : (s.baAccept r nondet left true ws).out = s.out ++ [.baRsp r.tag stOk 0] ∧
    (s.baAccept r nondet left true ws).batten.reqs.find s.batten.nextReq =
      some { tag := r.tag, ldi := r.ldi, fence := r.fence, left := left } := by
  have fits := takes.2.2.2.2
  have accepted : s.baAccept r nondet left true ws = (s.baQueue r left ws).emit (.baRsp r.tag stOk 0) := by
    simp only [State.baAccept, State.baChecks_none takes allowed, fits, if_true]
  rw [accepted]
  exact ⟨congrArg (· ++ _) (s.baQueue_out r left ws), s.baQueue_reqs r left ws⟩

/-- One that is answered when it retires is queued without a response. -/
theorem State.baAccept_silent : s.baAccept r nondet left false ws = s.baQueue r left ws := by
  have fits := takes.2.2.2.2
  simp only [State.baAccept, State.baChecks_none takes allowed, fits, if_true, Bool.false_eq_true, if_false]

end

section
variable {s : State} {r : BaReq}

theorem execBaReduce_of (up : s.baUp = true) (kind : r.kind = 0) (ok : (redBody (r.hdr.take 16)).ok = true)
    (length : r.data.length = beatBytes (redBody (r.hdr.take 16)).fmt (redBody (r.hdr.take 16)).lines) :
    execBaReduce r s = .next
      (let b := redBody (r.hdr.take 16)
       let scales := bytesAt (r.data.drop (256 * ((b.lines + 3) / 4))) 0 (scaleBytes b.fmt b.lines)
       if b.exact then s.baExact r b r.data scales
       else s.baAccept r (b.op != 6) (if isMx b.fmt then b.lines + 1 else b.lines) true (fastWork b r.data scales)) := by
  have whole : (r.data.length != beatBytes (redBody (r.hdr.take 16)).fmt (redBody (r.hdr.take 16)).lines) = false := by
    rw [length]
    exact bne_self_eq_false _
  unfold execBaReduce
  rw [nextIf_of (by rw [up, kind]; rfl), kind]
  simp only [State.baReduceAt, ok, whole, Bool.not_true, Bool.or_self, Bool.false_eq_true, if_false]
  rfl

theorem State.baExact_of {b : RedBody} {d scales : Bytes} {x : RedWindow} (flows : (s.dom r.ldi).state.flows = true)
    (found : s.window b.window = some x) (opened : x.state = .open_) (own : x.ldi = r.ldi) (format : x.opfmt = b.op + b.fmt * 16)
    (inside : b.woff + b.lines ≤ x.lines) (uncounted : r.arr = 0) (group : b.inGroup = true) :
    s.baExact r b d scales = s.baAccept r false (exactWork x b d scales).length true (exactWork x b d scales) := by
  have usable : (x.state != .open_ || x.ldi != r.ldi) = false := by simp [opened, own]
  have formed : (x.opfmt != b.op + b.fmt * 16 || decide (x.lines < b.woff + b.lines) || r.arr != 0 || !b.inGroup) = false := by
    simp [format, uncounted, group, Nat.not_lt.mpr inside]
  simp only [State.baExact, flows, found, usable, formed, Bool.not_true, Bool.false_eq_true, if_false]

theorem execBaMstore_of (up : s.baUp = true) (kind : r.kind = 1) (some_ : 1 ≤ fieldAt r.hdr 4 1) (most : fieldAt r.hdr 4 1 ≤ 63)
    (length : r.data.length = beatBytes 0 (fieldAt r.hdr 4 1)) :
    execBaMstore r s = .next
      (s.baAccept r false (fieldAt r.hdr 4 1) true (storeWork (fieldAt r.hdr 0 4) (fieldAt r.hdr 4 1) r.data)) := by
  have formed : (fieldAt r.hdr 4 1 == 0 || decide (63 < fieldAt r.hdr 4 1)
      || r.data.length != beatBytes 0 (fieldAt r.hdr 4 1)) = false := by
    simp [length, Nat.not_lt.mpr most, Nat.ne_of_gt some_]
  unfold execBaMstore
  simp only [formed, Bool.false_eq_true, if_false]
  exact nextIf_of (by rw [up, kind]; rfl)

theorem execBaAtomic_of {w : Nat × Nat × BWork} (up : s.baUp = true) (kind : r.kind = 2) (work : atomicWork r.hdr = some w) :
    execBaAtomic r s = .next (s.baAccept r true 1 false [w]) := by
  unfold execBaAtomic
  rw [work]
  exact nextIf_of (by rw [up, kind]; rfl)

/-- Under DET an atomic is answered with `ST_NONDET`. -/
theorem State.baAccept_nondet {left : Nat} {respond : Bool} {ws : List (Nat × Nat × BWork)}
    (flows : (s.dom r.ldi).state.flows = true) (det : (s.dom r.ldi).det = true) :
    s.baAccept r true left respond ws = (s.nondetRecord r.ldi r.ctx 0xFF r.fence).baRefuse r stNondet := by
  simp only [State.baAccept, State.baChecks, flows, det, Bool.not_true, Bool.false_eq_true, if_false, Bool.and_self, if_true]

end

/-- Settles O45: a request that the router takes becomes one open request; all but an atomic are answered at once. -/
theorem battenRequestsTakeEffect : Obligations.BattenRequestsTakeEffect := by
  unfold Obligations.BattenRequestsTakeEffect
  intro s r w x b dli n
  refine ⟨?_, ?_, ?_, ?_, ?_⟩
  · intro ws kind ok fast length may takes
    have allowed : ((s.dom r.ldi).det && (b.op != 6)) = false := by
      rcases may with free | same
      · rw [free, Bool.false_and]
      · rw [same]
        exact Bool.and_false _
    have run := execBaReduce_of takes.1 kind ok length
    dsimp only at run
    rw [if_neg (by rw [fast]; decide)] at run
    exact ⟨_, run, State.baAccept_answered takes allowed⟩
  · intro ws kind ok exact_ length found opened own format inside uncounted group takes
    have run := execBaReduce_of takes.1 kind ok length
    dsimp only at run
    rw [if_pos exact_, State.baExact_of takes.2.1 found opened own format inside uncounted group] at run
    exact ⟨_, run, State.baAccept_answered takes (Bool.and_false _)⟩
  · intro kind some_ most length takes
    exact ⟨_, execBaMstore_of takes.1 kind some_ most length, State.baAccept_answered takes (Bool.and_false _)⟩
  · intro kind work free takes
    have run := execBaAtomic_of takes.1 kind work
    rw [State.baAccept_silent takes (by rw [free]; rfl)] at run
    exact ⟨_, run, s.baQueue_out r 1 [w], s.baQueue_reqs r 1 [w]⟩
  · intro kind work up flows det
    have run := execBaAtomic_of up kind work
    rw [State.baAccept_nondet flows det] at run
    exact ⟨_, run, State.getLast_emit _ _⟩

end Sys2Proof.Machine
end

section
/-! PROOF. Obligation O46: the units of Batten apply entries, fill lines and write them back. -/
namespace Sys2Proof.Machine

/-! ### What leaves the units alone -/

/-- Every unit is as before. -/
def State.UnitsKept (s t : State) : Prop := ∀ u, t.unit u = s.unit u

theorem State.UnitsKept.refl (s : State) : s.UnitsKept s := fun _ => rfl

theorem State.UnitsKept.trans {s t v : State} (h : s.UnitsKept t) (k : t.UnitsKept v) : s.UnitsKept v := fun u =>
  (k u).trans (h u)

theorem Touches.unitsKept {F : List Part} {s t : State} (h : Touches F s t) (n : Part.batten ∉ F) : s.UnitsKept t := fun u => by
  unfold State.unit
  rw [h.batten.resolve_left n]

theorem State.unitsKept_foldl {α : Type} (f : State → α → State) (keeps : ∀ s a, State.UnitsKept s (f s a)) (l : List α) (s : State) :
    s.UnitsKept (l.foldl f s) := by
  induction l generalizing s with
  | nil => exact State.UnitsKept.refl s
  | cons a l ih => exact (keeps s a).trans (ih _)

/-- An open request may change, and the units are as before. -/
theorem State.unitsKept_reqs (s : State) (m : Map BaOpen) : s.UnitsKept { s with batten := { s.batten with reqs := m } } :=
  fun _ => rfl

theorem State.unitsKept_post (s : State) (ldi handle status : Nat) (origin : FenceOrigin) :
    s.UnitsKept (s.post ldi handle status origin) := fun _ => rfl

theorem State.unitsKept_payReq (s : State) (q : Nat) : s.UnitsKept (s.payReq q) := by
  unfold State.payReq
  split
  · dsimp only
    split
    · split
      · exact s.unitsKept_reqs _
      · exact (s.unitsKept_reqs _).trans (State.unitsKept_post _ _ _ _ _)
    · exact s.unitsKept_reqs _
  · exact State.UnitsKept.refl s

theorem State.unitsKept_payLine (s : State) (p : BPending) : s.UnitsKept (s.payLine p) := by
  have arrived : s.UnitsKept (if p.arr == 0 then s else s.arrive p.arr 64) := by
    split
    · exact State.UnitsKept.refl s
    · exact (s.arrive_touches p.arr 64).unitsKept (by decide)
  unfold State.payLine
  dsimp only
  split
  · exact arrived.trans (State.unitsKept_payReq _ _)
  · exact arrived

theorem State.unitsKept_failEntry (s : State) (e : BEntry) (status : Nat) : s.UnitsKept (s.failEntry e status) := by
  have posted := s.unitsKept_post e.ldi e.fence status .batten
  unfold State.failEntry
  dsimp only
  split
  · refine State.UnitsKept.trans ?_ (State.unitsKept_reqs _ _)
    split
    · exact posted.trans ((State.settle_touches _).unitsKept (by decide))
    · exact posted
  · split
    · exact (s.finishAtomic_touches _ _ _ _ _ _).unitsKept (by decide)
    · exact s.unitsKept_post _ _ _ _

theorem State.unitsKept_failOwed (s : State) (p : BPending) (status : Nat) : s.UnitsKept (s.failOwed p status) := by
  unfold State.failOwed
  split
  · exact (s.unitsKept_post _ _ _ _).trans (State.unitsKept_reqs _ _)
  · split
    · exact State.UnitsKept.refl s
    · exact s.unitsKept_post _ _ _ _

/-- Taking an answer of a lane leaves the units as they are. -/
theorem State.takeDone_units {s t : State} {p : LaneDone → Bool} {d : LaneDone} (taken : s.takeDone p = some (d, t)) :
    s.UnitsKept t := by
  unfold State.takeDone at taken
  split at taken
  · cases taken
    exact fun _ => rfl
  · cases taken

/-! ### The lines of a unit -/

/-- A line that is written back into the buffer is the one held for its owner. -/
theorem BUnit.line_putLine (b : BUnit) (l : WLine) (e : BEntry) (ldi : l.ldi = e.ldi) (gen : l.gen = e.gen) :
    (b.putLine l).line e l.dli = some l := by
  unfold BUnit.line BUnit.putLine
  exact List.find?_cons_of_pos (by simp [ldi, gen])

theorem BUnit.line_some {b : BUnit} {e : BEntry} {dli : Nat} {l : WLine} (h : b.line e dli = some l) :
    l.dli = dli ∧ l.ldi = e.ldi ∧ l.gen = e.gen := by
  simpa [and_assoc] using List.find?_some h

/-- The line that an entry changes, or a new one of its owner. -/
def BUnit.lineOr (b : BUnit) (e : BEntry) (dli : Nat) : WLine := (b.line e dli).getD { dli := dli, ldi := e.ldi, gen := e.gen }

theorem BUnit.lineOr_names (b : BUnit) (e : BEntry) (dli : Nat) :
    (b.lineOr e dli).dli = dli ∧ (b.lineOr e dli).ldi = e.ldi ∧ (b.lineOr e dli).gen = e.gen := by
  unfold BUnit.lineOr
  cases found : b.line e dli with
  | none => exact ⟨rfl, rfl, rfl⟩
  | some l => exact BUnit.line_some found

/-- The unit with room for a line. -/
def BUnit.withRoom (b : BUnit) (dli : Nat) : BUnit :=
  match b.anyLine dli with
  | some _ => b
  | none => b.makeRoom

/-- The line as an entry leaves it. -/
def State.lineAfter (s : State) (b : BUnit) (e : BEntry) (dli : Nat) (data : Line) (arr : Nat) (atomic : Bool) : WLine :=
  let old := b.lineOr e dli
  { old with
    data := data
    dirty := true
    seq := e.seq
    owed := old.owed ++
      [{ seq := e.seq, src := e.src, ldi := e.ldi, fence := e.fence, arr := arr, atomic := atomic, opfmt := e.opfmt }]
    lastAt := s.now
    dirtyAt := if old.dirty then old.dirtyAt else s.now
    atomicAt := if atomic then some (old.atomicAt.getD s.now) else old.atomicAt }

theorem State.changeLine_eq (s : State) (u : Nat) (e : BEntry) (dli : Nat) (data : Line) (arr : Nat) (atomic : Bool) :
    s.changeLine u e dli data arr atomic =
      (s.setUnit u ((((s.unit u).withRoom dli).putLine (s.lineAfter ((s.unit u).withRoom dli) e dli data arr atomic)).putMirror
        (s.lineAfter ((s.unit u).withRoom dli) e dli data arr atomic))).bumpUnit u 6 1 := rfl

/-- A changed line holds its new data. -/
theorem State.changeLine_dataOf (s : State) (u : Nat) (e : BEntry) (dli : Nat) (data : Line) (arr : Nat) (atomic : Bool) :
    ((s.changeLine u e dli data arr atomic).unit u).dataOf e dli = data := by
  obtain ⟨names, ldi, gen⟩ := ((s.unit u).withRoom dli).lineOr_names e dli
  have held := ((s.unit u).withRoom dli).line_putLine (s.lineAfter ((s.unit u).withRoom dli) e dli data arr atomic) e ldi gen
  rw [State.changeLine_eq, (State.bumpUnit_touches _ u 6 1).unitsKept (by decide) u, State.setUnit_unit]
  rw [show (s.lineAfter ((s.unit u).withRoom dli) e dli data arr atomic).dli = dli from names] at held
  have same : (((((s.unit u).withRoom dli).putLine (s.lineAfter ((s.unit u).withRoom dli) e dli data arr atomic)).putMirror
      (s.lineAfter ((s.unit u).withRoom dli) e dli data arr atomic)).line e dli) = _ := held
  unfold BUnit.dataOf
  rw [same]
  rfl

/-! ### Applying an entry -/

theorem State.unitsKept_countBatten (s : State) (u k lines : Nat) (e : BEntry) (reduction : Bool) :
    s.UnitsKept (s.countBatten u k lines e reduction) := (s.countBatten_touches u k lines e reduction).unitsKept (by decide)

theorem BUnit.markApplied_dataOf (b : BUnit) (x : BEntry) (r : BitVec 64) (e : BEntry) (dli : Nat) :
    (b.markApplied x r).dataOf e dli = b.dataOf e dli := rfl

theorem BUnit.markApplied_applied {b : BUnit} {e : BEntry} {r : BitVec 64} {x : BEntry} (mem : x ∈ (b.markApplied e r).queue)
    (same : x.seq = e.seq) : x.applied = true ∧ x.result = r := by
  obtain ⟨y, -, rfl⟩ := List.mem_map.mp mem
  split at same
  · next hit => rw [if_pos hit]; exact ⟨rfl, rfl⟩
  · next miss => exact absurd (beq_iff_eq.mpr same) miss

theorem State.applyEntry_store {s : State} {u : Nat} {e : BEntry} {d : Line} (work : e.work = .store d) :
    ((s.applyEntry u e).1.unit u).dataOf e e.dli = d := by
  unfold State.applyEntry
  rw [work]
  dsimp only
  rw [State.unitsKept_countBatten]
  exact State.changeLine_dataOf _ _ _ _ _ _ _

theorem State.applyEntry_reduce {s : State} {u op fmt : Nat} {e : BEntry} {c : Line} (work : e.work = .reduce op fmt c) :
    ((s.applyEntry u e).1.unit u).dataOf e e.dli = fastLine op fmt ((s.unit u).dataOf e e.dli) c := by
  unfold State.applyEntry
  rw [work]
  dsimp only
  rw [State.unitsKept_countBatten]
  exact State.changeLine_dataOf _ _ _ _ _ _ _

theorem State.applyEntry_atomic {s : State} {u off aopc : Nat} {e : BEntry} {v c : BitVec 64} (work : e.work = .atomic off aopc v c) :
    (s.applyEntry u e).2 =
      BitVec.ofNat 64 (operandAt ((s.unit u).dataOf e e.dli) off (if aopc / 4 % 2 = 1 then 8 else 4)) := by
  unfold State.applyEntry
  rw [work]
  simp only [beq_iff_eq]

/-- With an entry whose lines the unit holds, the unit applies it. -/
theorem State.applyNext_apply {s : State} {u : Nat} {e : BEntry}
    (found : (s.unit u).fastCandidates.find? (s.unit u).applicable = some e) :
    s.applyNext u = (s.applyEntry u e).1.setUnit u (((s.applyEntry u e).1.unit u).markApplied e (s.applyEntry u e).2) := by
  unfold State.applyNext
  simp only [found]

/-- With none, the unit starts the fills of the first entry that needs them. -/
theorem State.applyNext_fill {s : State} {u : Nat} {e : BEntry}
    (none_ : (s.unit u).fastCandidates.find? (s.unit u).applicable = none)
    (found : (s.unit u).fastCandidates.find? (fun e => !((s.unit u).missing e).isEmpty && (s.unit u).space ((s.unit u).wants e)
      && s.lanesRoom e.ldi ((s.unit u).missing e) false) = some e) :
    s.applyNext u = s.issueFills u e ((s.unit u).missing e) := by
  unfold State.applyNext
  simp only [none_, found]

theorem State.serveUnit_unit (s : State) (u : Nat) : (s.serveUnit u).unit u = (s.unit u).serve := State.setUnit_unit _ _ _

/-- A dirty line with a good mirror copy comes back from it. -/
theorem State.badLine_mirror {s : State} {u dli : Nat} {l : WLine} {m : MLine} (held : (s.unit u).anyLine dli = some l)
    (dirty : l.dirty = true) (copy : (s.unit u).mirror.find? (fun m => m.dli == dli) = some m) :
    (((s.badLine u dli false).unit u).anyLine dli).map (·.data) = some m.data := by
  have restored : s.badLine u dli false = (s.bump 0x021).setUnit u { s.unit u with
      lines := (s.unit u).lines.map (fun x => if x.dli == dli then { x with data := m.data, seq := m.seq } else x) } := by
    unfold State.badLine
    simp only [held, dirty, copy, Bool.not_true, Bool.not_false, Bool.false_eq_true, if_false, if_true]
  rw [restored, State.setUnit_unit]
  have names : (l.dli == dli) = true := List.find?_some (p := fun x : WLine => x.dli == dli) held
  have unmoved : ((fun x : WLine => x.dli == dli) ∘ fun x : WLine =>
      if x.dli == dli then { x with data := m.data, seq := m.seq } else x) = fun x => x.dli == dli := by
    funext x
    dsimp only [Function.comp]
    split <;> rfl
  unfold BUnit.anyLine at held ⊢
  dsimp only
  rw [List.find?_map, unmoved, held, Option.map_some, Option.map_some, if_pos names]

/-! ### Fills, retirement and write-backs -/

theorem execBattenEntryApply_of {s : State} {u : Nat} {bad : List (Nat × Bool)} (ready : s.clocked = true)
    (alive : (s.unit u).dead = false) : execBattenEntryApply u bad s =
      .next ((bad.foldl (fun s x => s.badLine u x.1 x.2) (s.serveUnit u)).applyNext u) :=
  nextIf_of (by rw [ready, alive]; rfl)

section
variable {s t : State} {u dli : Nat} {d : LaneDone} (ready : s.clocked = true) (alive : (s.unit u).dead = false)
include ready alive

/-- A fill that the unit awaits. -/
theorem execBattenFillReturn_of (taken : s.takeDone (fun d => d.req.src == .batten u && d.req.op == .read) = some (d, t))
    (awaited : (s.unit u).fills.contains d.req.dli = true) (epoch : d.req.tag = (s.unit u).fillEpoch) :
    let b := { s.unit u with fills := (s.unit u).fills.filter (fun x => x != d.req.dli) }
    execBattenFillReturn u s = .next
      (if d.status == stOk then (t.setUnit u b).setUnit u (b.putLine
          { dli := d.req.dli, ldi := d.req.ldi, gen := d.req.gen, data := d.data })
        else ((t.setUnit u b).failFill u d.req.dli d.req.ldi d.status).pump) := by
  have same := State.takeDone_units taken u
  have serves : ¬ (!s.clocked || (t.unit u).dead) = true := by rw [ready, same, alive]; decide
  have current : ¬ (!(t.unit u).fills.contains d.req.dli || d.req.tag != (t.unit u).fillEpoch) = true := by
    rw [same, awaited, epoch]
    simp
  intro b
  unfold execBattenFillReturn
  rw [taken]
  dsimp only
  rw [if_neg serves, if_neg current, same]
  split <;> rfl

theorem execBattenWritebackAccepted_of {l : WLine}
    (taken : s.takeDone (fun d => d.req.src == .batten u && d.req.op == .full && d.req.dli == dli) = some (d, t))
    (held : (s.unit u).lines.find? (fun l => l.dli == dli && l.writing && l.ldi == d.req.ldi) = some l) :
    execBattenWritebackAccepted u dli s = .next (if d.status == stOk then t.cleanLine u l else t.loseLine u l d.status) := by
  have same := State.takeDone_units taken u
  unfold execBattenWritebackAccepted
  rw [taken]
  simp only [same, ready, alive, held, Bool.not_true, Bool.or_self, Bool.false_eq_true, if_false]

end

/-- An accepted write-back leaves the line clean, and it owes nothing. -/
theorem State.cleanLine_lines {s : State} {u : Nat} {l x : WLine} (mem : x ∈ ((s.cleanLine u l).unit u).lines)
    (same : x.dli = l.dli) : x.dirty = false ∧ x.owed = [] := by
  unfold State.cleanLine at mem
  dsimp only at mem
  rw [State.unitsKept_foldl State.payLine State.unitsKept_payLine, State.setUnit_unit] at mem
  obtain ⟨y, -, rfl⟩ := List.mem_map.mp mem
  split at same
  · next hit => rw [if_pos hit]; exact ⟨rfl, rfl⟩
  · next miss => exact absurd (beq_iff_eq.mpr same) miss

/-- A line whose work is lost has left the unit. -/
theorem State.failLine_lines {s : State} {u : Nat} {l x : WLine} {status : Nat} (mem : x ∈ ((s.failLine u l status).unit u).lines) :
    x.dli ≠ l.dli := by
  unfold State.failLine at mem
  dsimp only at mem
  rw [State.unitsKept_foldl _ (fun s p => s.unitsKept_failOwed p status),
    State.unitsKept_foldl _ (fun s e => s.unitsKept_failEntry e status), State.setUnit_unit] at mem
  simpa using (List.mem_filter.mp mem).2

/-- Settles O46: a unit's entries, fills, retirements and write-backs have the effects of R151 to R157 and R166. -/
theorem battenLinesTakeEffect : Obligations.BattenLinesTakeEffect := by
  unfold Obligations.BattenLinesTakeEffect
  refine ⟨fun s u dli both e l m ready alive => ?_, fun s t u dli d e l ready alive => ⟨fun taken awaited epoch => ?_,
    fun applied => ?_, fun held dirty room => ?_, fun taken held => ?_⟩⟩
  · intro q b
    have served : q.unit u = b := s.serveUnit_unit u
    refine ⟨fun found => ?_, fun none_ found => ?_, execBattenEntryApply_of ready alive, fun held dirty copy => ?_⟩
    · rw [← served] at found ⊢
      refine ⟨_, (execBattenEntryApply_of ready alive).trans (congrArg _ (State.applyNext_apply found)), ?_, ?_, ?_⟩
      · intro d work
        rw [State.setUnit_unit, BUnit.markApplied_dataOf]
        exact State.applyEntry_store work
      · intro op fmt c work
        rw [State.setUnit_unit, BUnit.markApplied_dataOf]
        exact State.applyEntry_reduce work
      · intro off aopc v c work x mem same
        rw [State.setUnit_unit] at mem
        rw [← State.applyEntry_atomic (s := q) (u := u) work]
        exact BUnit.markApplied_applied mem same
    · rw [← served] at none_ found ⊢
      exact (execBattenEntryApply_of ready alive).trans (congrArg _ (State.applyNext_fill none_ found))
    · rw [← served] at held copy
      exact State.badLine_mirror held dirty copy
  · intro b
    have run := execBattenFillReturn_of ready alive taken awaited epoch
    refine ⟨fun ok => ?_, fun failed => ?_⟩
    · dsimp only at run
      rw [if_pos (beq_iff_eq.mpr ok)] at run
      refine ⟨_, run, ?_⟩
      rw [State.setUnit_unit]
      rfl
    · dsimp only at run
      rw [if_neg (by simpa using failed)] at run
      exact run
  · simp only [exec, execMirrorAck, applied]
    exact nextIf_of (by rw [ready, alive]; rfl)
  · simp only [exec, execBattenWriteback, held]
    exact nextIf_of (by rw [ready, alive, dirty, room]; rfl)
  · have run := execBattenWritebackAccepted_of ready alive taken held
    have names : l.dli = dli := by
      have test := List.find?_some held
      simp only [Bool.and_eq_true, beq_iff_eq] at test
      exact test.1.1
    refine ⟨fun ok => ?_, fun failed => ?_⟩
    · rw [if_pos (beq_iff_eq.mpr ok)] at run
      exact ⟨_, run, fun x mem same => State.cleanLine_lines mem (same.trans names.symm)⟩
    · rw [if_neg (by simpa using failed)] at run
      exact ⟨_, run, fun x mem => names ▸ State.failLine_lines mem⟩

end Sys2Proof.Machine
end

section
/-! PROOF. Obligation O47: exact windows take contributions and complete lines. -/
namespace Sys2Proof.Machine

theorem State.serveUnit_window (s : State) (u win : Nat) : (s.serveUnit u).window win = s.window win := rfl

/-- Taking an answer of a lane leaves the windows as they are. -/
theorem State.takeDone_window {s t : State} {p : LaneDone → Bool} {d : LaneDone} (taken : s.takeDone p = some (d, t)) (win : Nat) :
    t.window win = s.window win := by
  unfold State.takeDone at taken
  split at taken
  · cases taken
    rfl
  · cases taken

section
variable {s : State} {u win w of_ : Nat} {e : BEntry} {lines : List Line} {scales : Bytes} {x : RedWindow}
  (work : e.work = .exact win x.nth w of_ lines scales) (found : s.window win = some x) (opened : x.state = .open_)
  (own : x.ldi = e.ldi)
include work found opened own

/-- The entry of an OPEN window of its LDI and opening: its accumulators, its count and its room decide. -/
theorem State.takeContrib_open (bad : Bool) :
    let q := s.setUnit u { s.unit u with queue := (s.unit u).queue.filter (fun y => y.seq != e.seq) }
    s.takeContrib u e bad =
      if bad then q.badAccLine u e win x
      else if (List.range lines.length).any (fun i => decide (x.count ≤ x.applied (w + i))) then q.refuseContrib u e true win
      else if !s.lanesRoom e.ldi (x.completing w lines.length) true then s
      else q.contribute u e win w lines scales x := by
  have named : ¬ (x.state != .open_ || x.ldi != e.ldi || x.nth != x.nth) = true := by simp [opened, own]
  intro q
  unfold State.takeContrib
  rw [work]
  dsimp only
  rw [found]
  dsimp only
  rw [if_neg named]

end

theorem execWindowContribution_of {s : State} {u : Nat} {e : BEntry} (bad : Bool) (ready : s.clocked = true)
    (alive : (s.unit u).dead = false) (found : (s.unit u).serve.candidates.find? BEntry.isExact = some e) :
    execWindowContribution u bad s = .next ((s.serveUnit u).takeContrib u e bad).pump := by
  unfold execWindowContribution
  dsimp only
  rw [State.serveUnit_unit, found]
  exact nextIf_of (by rw [ready, alive]; rfl)

theorem State.failWindow_window {s : State} {win : Nat} {x : RedWindow} (status : Nat) (found : s.window win = some x)
    (opened : x.state = .open_) : (s.failWindow win status).window win = some { x with state := .failed } := by
  have kept (v : State) (type : Nat) (pay : Bytes) : (v.record type pay).window win = v.window win := by
    unfold State.window
    rw [(v.record_touches type pay).batten.resolve_left (by decide)]
  unfold State.failWindow
  simp only [found, opened, beq_self_eq_true, if_true]
  rw [kept]
  exact State.setWindow_window _ _ _

section
variable {s t : State} {win dli : Nat} {x : RedWindow} {d : LaneDone} (ready : s.clocked = true) (found : s.window win = some x)
  (opened : x.state = .open_) (taken : s.takeDone (fun d => d.req.src == .window && d.req.dli == dli) = some (d, t))
  (tag : d.req.tag = win + 256 * x.nth) (small : win < 256) (own : x.ldi = d.req.ldi)
include ready found opened taken tag small own

/-- A line that Weft accepts, of a window without scale lines. -/
theorem execWindowLineAccepted_ok (ok : d.status = stOk) (plain : isMx x.fmt = false) :
    execWindowLineAccepted dli s = .next (t.windowAccepted win dli x) := by
  have names : d.req.tag % 256 = win := by omega
  have opening : d.req.tag / 256 = x.nth := by omega
  have named : ¬ (x.state != .open_ || x.ldi != d.req.ldi || x.nth != d.req.tag / 256) = true := by simp [opened, own, opening]
  have accepted : ¬ (d.status != stOk) = true := by simp [ok]
  unfold execWindowLineAccepted
  rw [taken]
  dsimp only
  rw [names, found]
  dsimp only
  rw [if_neg named, if_neg accepted]
  exact nextIf_of (by rw [ready, plain]; rfl)

/-- A line that Weft refuses. -/
theorem execWindowLineAccepted_refused (bad : d.status ≠ stOk) :
    execWindowLineAccepted dli s = .next (t.failWindow win d.status) := by
  have names : d.req.tag % 256 = win := by omega
  have opening : d.req.tag / 256 = x.nth := by omega
  have named : ¬ (x.state != .open_ || x.ldi != d.req.ldi || x.nth != d.req.tag / 256) = true := by simp [opened, own, opening]
  have refused : (d.status != stOk) = true := bne_iff_ne.mpr bad
  unfold execWindowLineAccepted
  rw [taken]
  dsimp only
  rw [names, found]
  dsimp only
  rw [if_neg named, if_pos refused]
  exact nextIf_of ready

end

/-- Settles O47: a contribution is applied whole, or it fails its window; so does a line that Weft refuses. -/
theorem windowsTakeContributions : Obligations.WindowsTakeContributions := by
  unfold Obligations.WindowsTakeContributions
  intro s t u win w of_ dli e lines scales x d ready found opened
  refine ⟨?_, fun taken tag small own => ⟨fun ok plain => ?_, fun bad => ?_⟩⟩
  · intro b alive first work own q
    have served : (s.serveUnit u).window win = some x := (s.serveUnit_window u win).trans found
    have takes := State.takeContrib_open (u := u) work served opened own
    dsimp only at takes
    rw [State.serveUnit_unit] at takes
    refine ⟨fun awaited room => ?_, fun beyond => ?_, ?_⟩
    · refine (execWindowContribution_of false ready alive first).trans ?_
      have within : ¬ (List.range lines.length).any (fun i => decide (x.count ≤ x.applied (w + i))) = true := by
        simpa using awaited
      rw [takes false, if_neg Bool.false_ne_true, if_neg within, if_neg (by rw [room]; decide)]
    · refine (execWindowContribution_of false ready alive first).trans ?_
      have excess : (List.range lines.length).any (fun i => decide (x.count ≤ x.applied (w + i))) = true := by
        simpa using beyond
      rw [takes false, if_neg Bool.false_ne_true, if_pos excess]
    · refine (execWindowContribution_of true ready alive first).trans ?_
      rw [takes true, if_pos rfl]
  · exact execWindowLineAccepted_ok ready found opened taken tag small own ok plain
  · exact ⟨_, execWindowLineAccepted_refused ready found opened taken tag small own bad,
      State.failWindow_window d.status ((State.takeDone_window taken win).trans found) opened⟩

end Sys2Proof.Machine
end

section
/-! PROOF. Obligation O48: Spindle pulls are answered with their blocks. -/
namespace Sys2Proof.Machine

theorem Touches.keyAt {F : List Part} {s t : State} (h : Touches F s t) (keys : Part.keys ∉ F) (shuttle : Part.shuttle ∉ F)
    (r : KeyRef) : t.keyAt r = s.keyAt r := by
  unfold State.keyAt State.keySlot
  rw [h.keys.resolve_left keys, h.shuttle.resolve_left shuttle]

/-! ### The beats of a pull -/

/-- What leaves as beat b of a pull. -/
def State.beatOut (s : State) (p : Pull) (b : Nat) : Output :=
  .spRsp p.req.port (if p.status = stOk then s.beatData p b else 0) p.status (b + 1 == p.total)

theorem Touches.beatOut {F : List Part} {s t : State} (h : Touches F s t) (keys : Part.keys ∉ F) (shuttle : Part.shuttle ∉ F)
    (p : Pull) : t.beatOut p = s.beatOut p := by
  funext b
  unfold State.beatOut State.beatData
  rw [h.keyAt keys shuttle]

theorem State.sendBeat_out (s : State) (p : Pull) (b : Nat) : (s.sendBeat p b).out = s.out ++ [s.beatOut p b] := by
  have counted := s.countBeat_touches p
  unfold State.sendBeat State.beatOut
  dsimp only
  split
  · next refused =>
    rw [if_neg (bne_iff_ne.mp refused)]
    rfl
  · next accepted =>
    have ok : p.status = stOk := by simpa using accepted
    have data : (s.countBeat p).beatData p b = s.beatData p b := by
      unfold State.beatData
      rw [counted.keyAt (by decide) (by decide)]
    rw [if_pos ok, ← data, ok, State.emit_out, counted.out.resolve_left (by decide)]

theorem State.foldl_sendBeat_out (p : Pull) (bs : List Nat) (s : State) :
    (bs.foldl (fun s b => s.sendBeat p b) s).out = s.out ++ bs.map (s.beatOut p) := by
  induction bs generalizing s with
  | nil => exact (List.append_nil _).symm
  | cons b bs ih =>
    rw [List.foldl_cons, ih, State.sendBeat_out, (s.sendBeat_touches p b).beatOut (by decide) (by decide)]
    simp

/-- A pull that stands alone on its port, with no late beat, leaves whole. -/
theorem State.drainPort_single {s : State} {port : Nat} {p : Pull} (alone : s.spindle.pulls.findD port [] = [p])
    (whole : p.stop = p.total) :
    (s.drainPort port).out = s.out ++ ((List.range p.total).drop p.next).map (s.beatOut p) := by
  have drained : s.drainPulls [p] = (s.sendBeats p, []) := by
    unfold State.drainPulls
    rw [if_pos (beq_iff_eq.mpr whole)]
    rfl
  unfold State.drainPort
  rw [alone, drained]
  show (s.sendBeats p).out = _
  unfold State.sendBeats
  rw [State.foldl_sendBeat_out, whole]

theorem Pull.stop_of_prompt {p : Pull} (prompt : p.late = []) : p.stop = p.total := by
  have none_ : (List.range p.total).find? (fun b => decide (p.next ≤ b) && p.lateBeat b) = none := by
    simp [Pull.lateBeat, prompt]
  unfold Pull.stop
  rw [none_]
  split <;> rfl

theorem Pull.stop_of_refused {p : Pull} (refused : p.status ≠ stOk) : p.stop = p.total := by
  unfold Pull.stop
  rw [if_pos (bne_iff_ne.mpr refused)]

/-! ### An accepted pull takes its place -/

/-- A pull as it takes its place on the port. -/
def State.pullOf (s : State) (r : PullReq) (lent : List LentBlock) : Pull :=
  let xs := if s.pullStatus r == stOk then s.borrowed r lent else []
  { req := r, late := (xs.filter (·.late)).map (·.block), since := s.now, status := s.pullStatus r, ref := .slot (8 * r.ldi + 4) }

/-- The state that has counted or recorded a pull. -/
def State.judgePull (s : State) (r : PullReq) (lent : List LentBlock) : State :=
  let st := s.pullStatus r
  let xs := if st == stOk then s.borrowed r lent else []
  let n := ((List.range (s.pullOf r lent).total).filter (fun b => xs.any (fun x => x.block / 4 == b))).length
  if st == stOk then (xs.foldl State.countLent s |>.bump 0x5D8 (r.beats - n)).bump 0x5D9 n else s.refusePull r st

theorem State.judgePull_touches (s : State) (r : PullReq) (lent : List LentBlock) :
    Touches [.fences, .log, .counters, .trace] s (s.judgePull r lent) := by
  unfold State.judgePull
  dsimp only
  split
  · refine Touches.andThen ?_ (State.bump_touches _ _ _) (by decide)
    refine Touches.andThen ?_ (State.bump_touches _ _ _) (by decide)
    exact Touches.foldl _ _ _ (Touches.refl _ _) fun u x h => h.trans ((u.countLent_touches x).mono (by decide))
  · exact s.refusePull_touches r _

theorem State.enterPull_eq (s : State) (r : PullReq) (lent : List LentBlock) :
    s.enterPull r lent =
      (s.judgePull r lent).setPulls r.port ((s.judgePull r lent).spindle.pulls.findD r.port [] ++ [s.pullOf r lent]) := rfl

theorem State.pullOf_prompt {s : State} {r : PullReq} {lent : List LentBlock} (prompt : ∀ x ∈ lent, x.late = false) :
    (s.pullOf r lent).late = [] := by
  have borrowed : ∀ x ∈ s.borrowed r lent, x.late = false := fun x mem => by
    obtain ⟨k, -, found⟩ := List.mem_filterMap.mp mem
    exact prompt x (List.mem_of_find?_eq_some found)
  unfold State.pullOf
  dsimp only
  rw [List.map_eq_nil_iff, List.filter_eq_nil_iff]
  intro x mem
  split at mem
  · rw [borrowed x mem]
    decide
  · cases mem

/-- On a free port a pull that leaves whole is answered beat by beat. -/
theorem execSpindlePull_out {s : State} {r : PullReq} {lent : List LentBlock} (open_ : s.portsUp = true)
    (near : s.build.pool = false) (free : s.spindle.pulls.findD r.port [] = []) (whole : (s.pullOf r lent).stop = (s.pullOf r lent).total) :
    ∃ t, execSpindlePull r lent s = .next t ∧
      t.out = s.out ++ (List.range (s.pullOf r lent).total).map (s.beatOut (s.pullOf r lent)) := by
  have judged := s.judgePull_touches r lent
  have still : (s.judgePull r lent).spindle.pulls.findD r.port [] = [] := by
    rw [judged.spindle.resolve_left (by decide)]
    exact free
  have placed := (s.judgePull r lent).setPulls_touches r.port [s.pullOf r lent]
  refine ⟨_, nextIf_of (by rw [open_, near, free]; rfl), ?_⟩
  rw [State.enterPull_eq, still, List.nil_append]
  rw [State.drainPort_single (Map.findD_put_self _ _ _ _) whole, placed.beatOut (by decide) (by decide),
    judged.beatOut (by decide) (by decide), placed.out.resolve_left (by decide), judged.out.resolve_left (by decide)]
  rfl

/-- After the time of R175 a port's only pull leaves with its late blocks. -/
theorem execSpindleReissueTimeout_out {s : State} {port : Nat} {p : Pull} (ready : s.clocked = true) (safe : s.power.fatal = false)
    (alone : s.spindle.pulls.findD port [] = [p]) (late : p.late ≠ []) :
    ∃ t, execSpindleReissueTimeout port s = .next t ∧
      t.out = s.out ++ ((List.range p.total).drop p.next).map (s.beatOut p) := by
  have some_ : p.late.isEmpty = false := by simpa using late
  have counted : Touches [.time, .counters] s ((s.advanceTo (p.since + 64)).bump 0x5DA p.late.length) :=
    ((s.advanceTo_touches (p.since + 64)).mono (by decide)).andThen (State.bump_touches _ _ _) (by decide)
  have placed := ((s.advanceTo (p.since + 64)).bump 0x5DA p.late.length).setPulls_touches port [{ p with late := [] }]
  have same (u : State) : u.beatOut { p with late := [] } = u.beatOut p := rfl
  unfold execSpindleReissueTimeout
  rw [alone]
  refine ⟨_, nextIf_of (by rw [ready, safe, some_]; rfl), ?_⟩
  rw [State.drainPort_single (Map.findD_put_self _ _ _ _) (Pull.stop_of_prompt rfl), placed.beatOut (by decide) (by decide),
    counted.beatOut (by decide) (by decide), placed.out.resolve_left (by decide), counted.out.resolve_left (by decide), same]
  rfl

/-- Settles O48: the beats of a pull are what its status says, the last one marked. -/
theorem spindlePullsAreAnswered : Obligations.SpindlePullsAreAnswered := by
  unfold Obligations.SpindlePullsAreAnswered
  refine fun s r lent p => ⟨fun open_ near free => ?_, fun ready safe alone late ok => ?_⟩
  · intro key beat n
    refine ⟨fun ok prompt => ?_, fun refused => ?_⟩
    · obtain ⟨t, run, out⟩ := execSpindlePull_out (lent := lent) open_ near free (Pull.stop_of_prompt (State.pullOf_prompt prompt))
      have beats : (s.pullOf r lent).total = r.beats := by
        have inRange : pullBeatsOk r = true := by
          by_contra outside
          rw [State.pullStatus, if_pos (by simpa using outside)] at ok
          exact absurd ok (by decide)
        exact if_pos inRange
      have answers : s.beatOut (s.pullOf r lent) = fun b => .spRsp r.port (beat b) stOk (b + 1 == r.beats) := by
        funext b
        unfold State.beatOut
        rw [beats, if_pos (show (s.pullOf r lent).status = stOk from ok)]
        rw [show (s.pullOf r lent).status = stOk from ok]
        rfl
      exact ⟨t, run, by rw [out, beats, answers]⟩
    · obtain ⟨t, run, out⟩ := execSpindlePull_out (lent := lent) open_ near free (Pull.stop_of_refused (p := s.pullOf r lent) refused)
      have answers : s.beatOut (s.pullOf r lent) = fun b => .spRsp r.port 0 (s.pullStatus r) (b + 1 == n) := by
        funext b
        unfold State.beatOut
        rw [if_neg (show (s.pullOf r lent).status ≠ stOk from refused)]
        rfl
      exact ⟨t, run, by rw [out, answers]; rfl⟩
  · obtain ⟨t, run, out⟩ := execSpindleReissueTimeout_out ready safe alone late
    refine ⟨t, run, out.trans ?_⟩
    unfold State.beatOut
    simp only [ok, if_true]

end Sys2Proof.Machine
end

section
/-!
PROOF. Event status bits that stay up while aborts, halts and debug rights end (R361, R430, R469).
-/
namespace Sys2Proof.Machine

/-- Every event bit that was up is up. -/
def State.EventsStay (s t : State) : Prop := ∀ i, s.events.status.getLsbD i = true → t.events.status.getLsbD i = true

theorem State.EventsStay.refl (s : State) : s.EventsStay s := fun _ h => h

theorem State.EventsStay.trans {s t u : State} (h : s.EventsStay t) (k : t.EventsStay u) : s.EventsStay u := fun i up =>
  k i (h i up)

theorem Touches.eventsStay {F : List Part} {s t : State} (h : Touches F s t) (n : Part.events ∉ F) : s.EventsStay t := fun i up => by
  rw [h.events.resolve_left n]
  exact up

theorem State.eventsStay_foldl {α : Type} (f : State → α → State) (keeps : ∀ s a, State.EventsStay s (f s a)) (l : List α)
    (s : State) : s.EventsStay (l.foldl f s) := by
  induction l generalizing s with
  | nil => exact State.EventsStay.refl s
  | cons a l ih => exact (keeps s a).trans (ih _)

theorem State.eventsStay_raise (s : State) (i : Nat) : s.EventsStay (s.raise i) := fun k up => by
  unfold State.raise
  rw [BitVec.getLsbD_or, up, Bool.true_or]

theorem State.raise_raised (s : State) {i : Nat} (small : i < 13) : (s.raise i).events.status.getLsbD i = true := by
  unfold State.raise
  rw [BitVec.getLsbD_or, BitVec.getLsbD_shiftLeft]
  simp [small]

theorem State.eventsStay_raiseAbort (s : State) (l : Nat) : s.EventsStay (s.raiseAbort l) := s.eventsStay_raise 6

theorem State.eventsStay_restAbort (s : State) (a : DueAbort) : s.EventsStay (s.restAbort a) := by
  have raised : s.EventsStay ((s.rcEnd a.ldi).raiseAbort a.ldi) :=
    ((s.rcEnd_touches a.ldi).eventsStay (by decide)).trans (State.eventsStay_raiseAbort _ _)
  unfold State.restAbort
  dsimp only
  split
  · exact raised.trans ((State.sendSquall_touches _ _ _).eventsStay (by decide))
  · exact raised

theorem State.eventsStay_resumeAbort (s : State) (a : DueAbort) : s.EventsStay (s.resumeAbort a) := by
  unfold State.resumeAbort
  split
  · exact (s.signalAbort_touches a).eventsStay (by decide)
  · exact (((s.closeAbort_touches a).eventsStay (by decide)).trans ((State.signalAbort_touches _ a).eventsStay (by decide))).trans
      (State.eventsStay_restAbort _ a)

theorem State.eventsStay_of_eq {s t : State} (same : t.events = s.events) : s.EventsStay t := fun i up => by
  rw [same]
  exact up

theorem State.eventsStay_finishAborts (s : State) : s.EventsStay s.finishAborts := by
  have resumed (u : State) (same : u.events = s.events) : s.EventsStay (s.loom.abortsDue.foldl State.resumeAbort u) :=
    (State.eventsStay_of_eq same).trans (State.eventsStay_foldl _ State.eventsStay_resumeAbort _ _)
  exact resumed _ rfl

theorem State.eventsStay_endHalt (s : State) : s.EventsStay s.endHalt := by
  have finished (u : State) (same : u.events = s.events) : s.EventsStay u.finishAborts.applyHeldTails :=
    ((State.eventsStay_of_eq same).trans u.eventsStay_finishAborts).trans
      ((State.applyHeldTails_touches _).eventsStay (by decide))
  unfold State.endHalt
  dsimp only
  split
  · exact State.eventsStay_of_eq rfl
  · exact finished _ rfl

theorem State.eventsStay_failureEndsHalt (s : State) : s.EventsStay s.failureEndsHalt := by
  unfold State.failureEndsHalt
  split
  · exact s.eventsStay_endHalt
  · exact State.EventsStay.refl s

/-- The state with other debug certificates, its array selection and what a level above 0 has exposed. -/
def State.withCerts (s : State) (m : Map DebugCert) : State :=
  let t := { s with dbg := { s.dbg with certs := m } }
  let t := if t.right rightArray then t else { t with loom := { t.loom with arrStore := 0, arrWord := 0 } }
  if t.right 0 || t.right 1 then { t with tables := { t.tables with domains := t.tables.domains.map (fun (x : Nat × Domain) =>
      (x.1, { x.2 with fineEver := x.2.fineEver || x.2.state.live })) } } else t

theorem State.setCerts_eq (s : State) (m : Map DebugCert) : s.setCerts m =
    if s.right rightHalt && !(s.withCerts m).right rightHalt then
      { (s.withCerts m).failureEndsHalt with loom := { (s.withCerts m).failureEndsHalt.loom with bps := [] } }
    else s.withCerts m := rfl

theorem State.withCerts_dbg (s : State) (m : Map DebugCert) : (s.withCerts m).dbg = { s.dbg with certs := m } := by
  unfold State.withCerts
  dsimp only
  split <;> split <;> rfl

theorem State.withCerts_events (s : State) (m : Map DebugCert) : (s.withCerts m).events = s.events := by
  unfold State.withCerts
  dsimp only
  split <;> split <;> rfl

theorem State.setCerts_dbg (s : State) (m : Map DebugCert) : (s.setCerts m).dbg = { s.dbg with certs := m } := by
  rw [State.setCerts_eq]
  split
  · exact ((State.failureEndsHalt_touches _).dbg.resolve_left (by decide)).trans (s.withCerts_dbg m)
  · exact s.withCerts_dbg m

theorem State.eventsStay_setCerts (s : State) (m : Map DebugCert) : s.EventsStay (s.setCerts m) := by
  have same : s.EventsStay (s.withCerts m) := State.eventsStay_of_eq (s.withCerts_events m)
  rw [State.setCerts_eq]
  split
  · exact same.trans (State.eventsStay_failureEndsHalt _)
  · exact same

theorem State.endRights_certs (s : State) : s.endRights.dbg.certs = [] := by
  unfold State.endRights
  split
  · next empty => exact List.isEmpty_iff.mp empty
  · rw [State.setCerts_dbg]

theorem State.eventsStay_endRights (s : State) : s.EventsStay s.endRights := by
  unfold State.endRights
  split
  · exact State.EventsStay.refl s
  · exact s.eventsStay_setCerts []

end Sys2Proof.Machine
end

section
/-! PROOF. Obligation O49: PTP messages, samples and the time states. -/
namespace Sys2Proof.Machine

/-! ### Entering a time state (R235, R361) -/

/-- A new time state with its record, event and trace, before rights end. -/
def State.notesTime (s : State) (new : TimeState) (reason : Nat) (theta : Int) : State :=
  let t := s.setTime { s.time with state := new }
  (t.record 0x0B01 (t.timePayload s.time.state.code new.code reason theta (t.time.selected.getD 0) 0)).raise 7 |>.traceWrite
    { src := 8, arg0 := s.time.state.code + new.code * 256 }

theorem State.enterTime_eq (s : State) (new : TimeState) (reason : Nat) (theta : Int) :
    s.enterTime new reason theta =
      if (s.notesTime new reason theta).timed then s.notesTime new reason theta else (s.notesTime new reason theta).endRights := rfl

theorem State.notesTime_touches (s : State) (new : TimeState) (reason : Nat) (theta : Int) :
    Touches [.log, .counters, .trace, .events] (s.setTime { s.time with state := new }) (s.notesTime new reason theta) :=
  (((State.record_touches _ _ _).mono (by decide)).andThen (State.raise_touches _ 7) (by decide)).andThen
    (State.traceWrite_touches _ _) (by decide)

theorem State.notesTime_time (s : State) (new : TimeState) (reason : Nat) (theta : Int) :
    (s.notesTime new reason theta).time = { s.time with state := new } :=
  (s.notesTime_touches new reason theta).time_eq (by decide)

theorem State.enterTime_time (s : State) (new : TimeState) (reason : Nat) (theta : Int) :
    (s.enterTime new reason theta).time = { s.time with state := new } := by
  rw [State.enterTime_eq]
  split
  · exact s.notesTime_time new reason theta
  · exact ((State.endRights_touches _).time_eq (by decide)).trans (s.notesTime_time new reason theta)

theorem State.notesTime_timed (s : State) (new : TimeState) (reason : Nat) (theta : Int) :
    (s.notesTime new reason theta).timed = (new == .locked || new == .holdover) := by
  unfold State.timed
  rw [State.notesTime_time]

/-- In HOLDOVER the debug rights stay. -/
theorem State.enterTime_holdover_dbg (s : State) (reason : Nat) (theta : Int) :
    (s.enterTime .holdover reason theta).dbg = s.dbg := by
  rw [State.enterTime_eq, if_pos (by rw [State.notesTime_timed]; decide)]
  exact (s.notesTime_touches .holdover reason theta).dbg.resolve_left (by decide)

/-- In UNTRUSTED they have ended, and event TIME is up. -/
theorem State.enterTime_untrusted (s : State) (reason : Nat) (theta : Int) :
    (s.enterTime .untrusted reason theta).dbg.certs = [] ∧
      (s.enterTime .untrusted reason theta).events.status.getLsbD 7 = true := by
  have raised : (s.notesTime .untrusted reason theta).events.status.getLsbD 7 = true :=
    (State.traceWrite_touches _ _).eventsStay (by decide) 7 (State.raise_raised _ (by decide))
  rw [State.enterTime_eq, if_neg (by rw [State.notesTime_timed]; decide)]
  exact ⟨State.endRights_certs _, State.eventsStay_endRights _ 7 raised⟩

/-! ### Messages (R229, R230, R232, R234) -/

section
variable {s : State} {m : PtpMsg} (runs : s.timeRuns = true) (domain : m.domain = s.time.ptpDom)
include runs domain

theorem State.timeRuns_own : (s.timeRuns && m.domain == s.time.ptpDom) = true := by
  rw [runs, domain, beq_self_eq_true]
  rfl

theorem State.onPtp_unverified (k : State → State) (auth : s.ptpAuth m = false) :
    s.onPtp m k = .next (s.rejectSample 2 0 m.master) := by
  unfold State.onPtp
  rw [nextIf_of (State.timeRuns_own runs domain), auth, Bool.not_false, if_pos rfl]

theorem State.onPtp_selected (k : State → State) (auth : s.ptpAuth m = true) (selected : s.time.selected = some m.master) :
    s.onPtp m k = .next (k s) := by
  unfold State.onPtp
  rw [nextIf_of (State.timeRuns_own runs domain), auth, if_neg (by decide), selected, if_pos (beq_self_eq_true _)]

theorem execAnnounce_unverified (a : AnnounceData) (auth : s.ptpAuth m = false) :
    execAnnounce m a s = .next (s.rejectSample 2 0 m.master) := by
  unfold execAnnounce
  rw [nextIf_of (State.timeRuns_own runs domain), auth, if_neg (by decide)]

theorem execAnnounce_verified (a : AnnounceData) (auth : s.ptpAuth m = true) :
    execAnnounce m a s = .next (s.setTime (s.time.hear m.master a)) := by
  unfold execAnnounce
  rw [nextIf_of (State.timeRuns_own runs domain), auth, if_pos rfl]

/-- A Sync of the selected master starts an exchange and sends a Delay_Req. -/
theorem execSync_selected (auth : s.ptpAuth m = true) (selected : s.time.selected = some m.master) :
    ∃ t q, execSync m s = .next t ∧ t.time.syncs.head? = some q ∧ q.master = m.master ∧ q.seq = m.seq ∧
      q.t2 = timeUnits m.rxTs ∧ q.t1 = (if m.twoStep then none else some (timeUnits m.origin + m.corr)) ∧
      t.out = s.out ++ [.tpTx s.time.nextTx s.time.ptpDom s.time.nextTx] :=
  ⟨_, _, State.onPtp_selected runs domain _ auth selected, rfl, rfl, rfl, rfl, rfl, rfl⟩

theorem execFollowUp_of {p : SyncPending} (auth : s.ptpAuth m = true) (selected : s.time.selected = some m.master)
    (found : s.time.syncs.find? (fun p => p.master == m.master && p.seq == m.seq && p.t1.isNone && p.open_ s.now) = some p) :
    execFollowUp m s = .next (s.tryPtpSample { p with t1 := some (timeUnits m.origin + p.corr + m.corr) }) := by
  unfold execFollowUp
  rw [State.onPtp_selected runs domain _ auth selected, found]

theorem execDelayResp_of {p : SyncPending} (auth : s.ptpAuth m = true) (selected : s.time.selected = some m.master)
    (found : s.time.syncs.find? (fun p => p.master == m.master && p.txId == some m.seq && p.t4.isNone) = some p) :
    execDelayResp m s = .next (s.tryPtpSample { p with t4 := some (timeUnits m.origin - m.corr) }) := by
  unfold execDelayResp
  rw [State.onPtp_selected runs domain _ auth selected, found]

end

/-- The master as an Announce leaves it. -/
def TimeUnit.heardMaster (t : TimeUnit) (id : Nat) (a : AnnounceData) : Master :=
  let old := t.masters.findD id {}
  let times := (t.freerun :: old.announces.filter (fun x => decide (t.freerun ≤ x + announceWindow a.interval))).take 4
  { announces := times, interval := a.interval, utcOffset := a.utcOffset, priority := a.priority
    qualified := (t.allow.isEmpty || t.allow.contains id) && (old.qualified || decide (2 ≤ times.length)) }

theorem TimeUnit.hear_master (t : TimeUnit) (id : Nat) (a : AnnounceData) :
    (t.hear id a).masters.find id = some (t.heardMaster id a) := Map.find_put_self _ _ _

theorem TimeUnit.heardMaster_allowed {t : TimeUnit} {id : Nat} {a : AnnounceData} (q : (t.heardMaster id a).qualified = true) :
    t.allow = [] ∨ id ∈ t.allow := by
  unfold TimeUnit.heardMaster at q
  simp only [Bool.and_eq_true, Bool.or_eq_true, List.isEmpty_iff, List.contains_iff_mem] at q
  exact q.1

/-- The first Announce of a master does not qualify it. -/
theorem TimeUnit.heardMaster_first {t : TimeUnit} {id : Nat} {a : AnnounceData} (first : t.masters.find id = none) :
    (t.heardMaster id a).qualified = false := by
  unfold TimeUnit.heardMaster
  simp [Map.findD, first]

/-! ### Timestamps (R455) -/

section
variable {s : State} {id : Nat} {p : SyncPending} (sent : s.time.sentReq id = some p)
include sent

theorem execTpTxts_of (ts : Time12) (runs : s.timeRuns = true) (soon : s.now ≤ p.txAt + msTicks) :
    execTpTxts id ts s = .next (s.tryPtpSample { p with t3 := some (timeUnits ts) }) := by
  unfold execTpTxts
  rw [sent]
  exact nextIf_of (by rw [runs, decide_eq_true soon]; rfl)

theorem execTxtsTimeout_of (ready : s.clocked = true) :
    execTxtsTimeout id s = .next ((s.advanceTo (p.txAt + msTicks)).setTime ((s.advanceTo (p.txAt + msTicks)).time.dropSync p)) := by
  unfold execTxtsTimeout
  rw [sent]
  exact nextIf_of ready

end

theorem State.clocked_of_timeRuns {s : State} (runs : s.timeRuns = true) : s.clocked = true := by
  unfold State.timeRuns at runs
  simp only [Bool.and_eq_true] at runs
  exact runs.1.1.1

theorem TimeUnit.count_syncs (t : TimeUnit) (n : Nat) : (t.count n).syncs = t.syncs := by
  cases t
  rfl

theorem TimeUnit.count_fi (t : TimeUnit) (n : Nat) : (t.count n).fi = t.fi := by
  cases t
  rfl

theorem State.advanceTo_syncs (s : State) (n : Nat) : (s.advanceTo n).time.syncs = s.time.syncs := by
  unfold State.advanceTo
  split
  · exact s.time.count_syncs _
  · rfl

theorem State.advanceTo_fi (s : State) (n : Nat) : (s.advanceTo n).time.fi = s.time.fi := by
  unfold State.advanceTo
  split
  · exact s.time.count_fi _
  · rfl

theorem State.setTime_dropSync_now (s : State) (p : SyncPending) : (s.setTime (s.time.dropSync p)).now = s.now := by
  cases s
  rfl

/-! ### Samples (R233, R234, R235) -/

/-- The state that has noted the path delay of a complete exchange. -/
def State.notesDelay (s : State) (p : SyncPending) (delta : Int) : State := s.setTime ((s.time.dropSync p).noteDelta delta)

/-- A complete exchange within the path-delay filter: the outlier bound of LOCKED decides. -/
theorem State.takeTimeSample_within {s : State} {master : Nat} {t1 t2 t3 t4 : Int}
    (near : delayExceeds s.time.deltas (((t2 - t1) + (t4 - t3)) / 2) = false) :
    let theta := ((t2 - t1) - (t4 - t3)) / 2
    let u := s.setTime (s.time.noteDelta (((t2 - t1) + (t4 - t3)) / 2))
    s.takeTimeSample master t1 t2 t3 t4 =
      if u.time.state == .locked && (decide (1000000 * nsUnits < theta) || decide (theta < -(1000000 * nsUnits))) then
        u.rejectSample 4 theta master
      else u.acceptSample theta := by
  intro theta u
  unfold State.takeTimeSample
  dsimp only
  rw [near, if_neg Bool.false_ne_true]

section
variable {s : State} {p : SyncPending} {t1 t3 t4 : Int} (first : p.t1 = some t1) (egress : p.t3 = some t3) (last : p.t4 = some t4)
  (near : delayExceeds s.time.deltas (((p.t2 - t1) + (t4 - t3)) / 2) = false)
include first egress last near

/-- Outside LOCKED the sample is accepted. -/
theorem State.tryPtpSample_accepts (unlocked : s.time.state ≠ .locked) :
    s.tryPtpSample p = (s.notesDelay p (((p.t2 - t1) + (t4 - t3)) / 2)).acceptSample (((p.t2 - t1) - (t4 - t3)) / 2) := by
  have sampled := State.takeTimeSample_within (s := s.setTime (s.time.dropSync p)) (master := p.master) near
  have other : ((s.notesDelay p (((p.t2 - t1) + (t4 - t3)) / 2)).time.state == TimeState.locked) = false :=
    beq_eq_false_iff_ne.mpr unlocked
  dsimp only at sampled
  rw [if_neg] at sampled
  · unfold State.tryPtpSample
    rw [first, egress, last]
    exact sampled
  · intro holds
    exact absurd ((Bool.and_eq_true _ _).mp holds).1 (Bool.eq_false_iff.mp other)

/-- In LOCKED an outlier of more than 1 ms is rejected. -/
theorem State.tryPtpSample_outlier (locked : s.time.state = .locked)
    (far : 1000000 * nsUnits < ((p.t2 - t1) - (t4 - t3)) / 2) :
    s.tryPtpSample p =
      (s.notesDelay p (((p.t2 - t1) + (t4 - t3)) / 2)).rejectSample 4 (((p.t2 - t1) - (t4 - t3)) / 2) p.master := by
  have sampled := State.takeTimeSample_within (s := s.setTime (s.time.dropSync p)) (master := p.master) near
  have own : ((s.notesDelay p (((p.t2 - t1) + (t4 - t3)) / 2)).time.state == TimeState.locked) = true := beq_iff_eq.mpr locked
  dsimp only at sampled
  rw [decide_eq_true far, Bool.true_or, Bool.and_true, if_pos] at sampled
  · unfold State.tryPtpSample
    rw [first, egress, last]
    exact sampled
  · exact own

end

/-- The time after the first sample after reset: the counter is set, and the sample is noted. -/
theorem State.acceptSample_first {s : State} (theta : Int) (unknown : s.time.state = .unknown) (unset : s.time.setDone = false)
    (none_ : s.time.lastSample = none) :
    (s.acceptSample theta).time.state = .acquiring ∧ (s.acceptSample theta).time.setDone = true ∧
      (s.acceptSample theta).time.setStep = -theta ∧ (s.acceptSample theta).time.lastSample = some s.now := by
  have entered (u : State) : (u.enterTime .acquiring 1 theta).time = { u.time with state := .acquiring } :=
    u.enterTime_time .acquiring 1 theta
  unfold State.acceptSample
  dsimp only
  rw [if_pos (by rw [unknown]; decide), entered, none_, unset]
  exact ⟨rfl, rfl, rfl, rfl⟩

/-! ### HOLDOVER (R235) -/

/-- The counter runs at fi, and the time is in HOLDOVER. -/
def State.freeRuns (s : State) : State :=
  (s.setTime { s.time with f := s.time.fi, inc := incOf s.time.fi, holdSince := s.time.freerun }).enterTime .holdover 0 0

theorem State.freeRuns_time (s : State) :
    s.freeRuns.time.state = .holdover ∧ s.freeRuns.time.f = s.time.fi ∧ s.freeRuns.time.holdSince = s.freeRuns.now := by
  unfold State.freeRuns State.now
  rw [State.enterTime_time]
  cases s
  exact ⟨rfl, rfl, rfl⟩

theorem State.freeRuns_dbg (s : State) : s.freeRuns.dbg = s.dbg := State.enterTime_holdover_dbg _ 0 0

theorem execTimeNoSampleTimeout_of {s : State} (ready : s.clocked = true) (locked : s.time.state = .locked) :
    execTimeNoSampleTimeout s = .next (s.advanceTo (s.time.lastSample.getD 0 + 2 * secTicks)).freeRuns :=
  nextIf_of (by rw [ready, locked]; rfl)

/-- Settles O49: each message of the PTP domain, each sample and each loss of samples has the effect of R229 to R235. -/
theorem timeMessagesTakeEffect : Obligations.TimeMessagesTakeEffect := by
  unfold Obligations.TimeMessagesTakeEffect
  refine ⟨fun s m a p id ts runs => ⟨nextIf_of runs, fun domain auth => ?_, fun domain auth => ⟨?_, fun selected => ?_⟩,
    fun sent soon => execTpTxts_of sent ts runs soon, fun sent => ?_⟩,
    fun s p t1 t3 t4 => ⟨fun first egress last => ?_, fun ready locked => ?_, fun ready hold => ?_⟩⟩
  · have discarded (k : State → State) := State.onPtp_unverified runs domain k auth
    exact ⟨execAnnounce_unverified runs domain a auth, by unfold exec execSync; exact discarded _,
      by unfold exec execFollowUp; exact discarded _, by unfold exec execDelayResp; exact discarded _⟩
  · exact ⟨_, _, execAnnounce_verified runs domain a auth, rfl, s.time.hear_master m.master a, rfl, rfl,
      TimeUnit.heardMaster_allowed, TimeUnit.heardMaster_first⟩
  · exact ⟨execSync_selected runs domain auth selected, execFollowUp_of runs domain auth selected,
      execDelayResp_of runs domain auth selected⟩
  · refine ⟨_, execTxtsTimeout_of sent (State.clocked_of_timeRuns runs), ?_⟩
    have kept := s.advanceTo_syncs (p.txAt + msTicks)
    generalize s.advanceTo (p.txAt + msTicks) = u at kept ⊢
    rw [← kept]
    exact ⟨rfl, State.setTime_dropSync_now u p⟩
  · intro theta delta near
    refine ⟨fun unknown unset none_ => ?_, fun locked far => ?_⟩
    · rw [State.tryPtpSample_accepts first egress last near (by rw [unknown]; decide)]
      exact State.acceptSample_first (s := s.notesDelay p delta) theta unknown unset none_
    · have outlier : 1000000 * nsUnits < theta := by
        unfold nsUnits
        omega
      rw [State.tryPtpSample_outlier first egress last near locked outlier]
      exact (State.rejectSample_touches _ _ _ _).time_eq (by decide)
  · have dbg := (s.advanceTo_touches (s.time.lastSample.getD 0 + 2 * secTicks)).dbg.resolve_left (by decide)
    have fi := s.advanceTo_fi (s.time.lastSample.getD 0 + 2 * secTicks)
    refine ⟨_, execTimeNoSampleTimeout_of ready locked, ?_⟩
    generalize s.advanceTo (s.time.lastSample.getD 0 + 2 * secTicks) = u at dbg fi ⊢
    obtain ⟨state, f, since⟩ := u.freeRuns_time
    exact ⟨state, f.trans fi, since, u.freeRuns_dbg.trans dbg⟩
  · refine ⟨_, nextIf_of (by rw [ready, hold]; rfl), ?_, State.enterTime_untrusted _ _ _⟩
    rw [State.enterTime_time]

end Sys2Proof.Machine
end

section
/-! PROOF. Obligation O50: offsets between members. -/
namespace Sys2Proof.Machine

/-! ### The tree and the offsets -/

theorem State.treeParent_setTime (s : State) (x : TimeUnit) (l : Nat) : (s.setTime x).treeParent l = s.treeParent l := rfl

theorem State.treeParent_advanceTo (s : State) (n l : Nat) : (s.advanceTo n).treeParent l = s.treeParent l := by
  unfold State.advanceTo
  split
  · exact s.treeParent_setTime _ l
  · rfl

theorem TimeUnit.count_offsets (t : TimeUnit) (n : Nat) : (t.count n).offsets = t.offsets := by
  cases t
  rfl

theorem State.offsetOf_advanceTo (s : State) (n l : Nat) : (s.advanceTo n).offsetOf l = s.offsetOf l := by
  unfold State.advanceTo State.offsetOf
  split
  · rw [TimeUnit.count_offsets]
  · rfl

theorem Touches.offsetOf {F : List Part} {s t : State} (h : Touches F s t) (n : Part.time ∉ F) (l : Nat) :
    t.offsetOf l = s.offsetOf l := by
  unfold State.offsetOf
  rw [h.time_eq n]

theorem Touches.now {F : List Part} {s t : State} (h : Touches F s t) (n : Part.time ∉ F) : t.now = s.now := by
  unfold State.now
  rw [h.time_eq n]

/-! ### RESULT (R239, R240) -/

/-- A DONE that goes up leaves O as it is. -/
theorem State.sendDone_own (s : State) (l : Nat) : ((s.sendDone l).offsetOf l).own = (s.offsetOf l).own := by
  unfold State.sendDone
  dsimp only
  split
  · split
    · rw [(State.sendCtrl_touches _ _ _ _).offsetOf (by decide), State.setOffset_offsetOf]
    · rfl
  · rfl

/-- O follows its parent's O and D. -/
theorem State.refreshO_own {s : State} {l : Nat} {v d : Int} (force : Bool) (timely : s.offsetInTime (s.offsetOf l) = true)
    (parent : (s.offsetOf l).parentO = some v) (delay : (s.offsetOf l).d = some d) :
    ((s.refreshO l force).offsetOf l).own = some (v + d) := by
  unfold State.refreshO
  dsimp only
  rw [timely, parent, delay, Bool.not_true, if_neg Bool.false_ne_true]
  dsimp only
  rw [State.sendDone_own]
  split
  · unfold State.toChildren
    have told (u : State) (ps : List Nat) (body : Bytes) :
        (ps.foldl (fun s p => s.sendCtrl p 0x0C body) u).offsetOf l = u.offsetOf l :=
      (Touches.foldl (F := [.shuttle, .counters, .out]) _ ps u (Touches.refl _ _) fun w p h =>
        h.trans (w.sendCtrl_touches p 0x0C body)).offsetOf (by decide) l
    rw [told, State.setOffset_offsetOf]
  · rw [State.setOffset_offsetOf]

/-- A RESULT of the parent gives O, in time. -/
theorem State.takeOffset_result {s : State} {peer l : Nat} {m : CtrlMsg} {d : Int} (result : fieldAt m.body 0 1 = 3)
    (parent : s.treeParent l = some peer) (delay : (s.offsetOf l).d = some d) (timely : s.offsetInTime (s.offsetOf l) = true) :
    ((s.takeOffset peer l m).offsetOf l).own = some (offsetValue m.body + d) := by
  have told : s.takeOffset peer l m =
      (s.setOffset l { s.offsetOf l with parentO := some (offsetValue m.body) }).refreshO l (s.offsetOf l).parentO.isNone := by
    unfold State.takeOffset
    rw [result]
    exact if_pos (beq_iff_eq.mpr parent)
  rw [told]
  refine State.refreshO_own _ ?_ ?_ ?_
  · rw [State.setOffset_offsetOf]
    exact timely
  · rw [State.setOffset_offsetOf]
  · rw [State.setOffset_offsetOf]
    exact delay

/-! ### Probes (R239, R241) -/

/-- A probe uses up one of the exchanges that remain. -/
theorem State.sendProbe_offsetOf {s : State} {l p : Nat} (parent : s.treeParent l = some p) :
    (s.sendProbe l).offsetOf l =
      { s.offsetOf l with
        left := (s.offsetOf l).left - 1, index := ((s.offsetOf l).index + 1) % 64, probeAt := s.now + 213 } := by
  unfold State.sendProbe
  dsimp only
  rw [parent]
  dsimp only
  rw [(State.sendCtrl_touches _ _ _ _).offsetOf (by decide), State.setOffset_offsetOf]

theorem State.sendProbe_now {s : State} {l p : Nat} (parent : s.treeParent l = some p) : (s.sendProbe l).now = s.now := by
  have set_ (o : Offset) : (s.setOffset l o).now = s.now := rfl
  unfold State.sendProbe
  dsimp only
  rw [parent]
  dsimp only
  rw [(State.sendCtrl_touches _ _ _ _).now (by decide), set_]

/-- Ending the SAs that are spent leaves the offsets. -/
theorem State.endSpent_offsetOf (s : State) (l : Nat) : s.endSpent.offsetOf l = s.offsetOf l :=
  s.endSpent_touches.offsetOf (by decide) l

section
variable {s : State} {l p : Nat} (ready : s.clocked = true) (safe : s.power.fatal = false) (parent : s.treeParent l = some p)
include ready safe parent

theorem execOffsetProbeTimer_of (remain : 0 < (s.offsetOf l).left) : ∃ v, execOffsetProbeTimer l s = .next v ∧
    (v.offsetOf l).left = (s.offsetOf l).left - 1 ∧ (v.offsetOf l).index = ((s.offsetOf l).index + 1) % 64 ∧
    (v.offsetOf l).probeAt = v.now + 213 := by
  refine ⟨_, nextIf_of (by rw [ready, safe, decide_eq_true remain, parent]; rfl), ?_⟩
  have before := s.offsetOf_advanceTo (s.offsetOf l).probeAt l
  have tree := (s.treeParent_advanceTo (s.offsetOf l).probeAt l).trans parent
  generalize s.advanceTo (s.offsetOf l).probeAt = u at before tree ⊢
  rw [State.endSpent_offsetOf, State.sendProbe_offsetOf tree, (State.endSpent_touches _).now (by decide),
    State.sendProbe_now tree, before]
  exact ⟨rfl, rfl, rfl⟩

/-- The offset as a period's first exchange finds it, with no measurement running. -/
def Offset.renewed (o : Offset) : Offset := { o with periodicAt := o.periodicAt + msTicks, running := false, left := 4 }

theorem execOffsetPeriodicExchange_of (flows : (s.dom l).state.flows = true) (idle : (s.offsetOf l).running = false) :
    execOffsetPeriodicExchange l s =
      .next (((s.advanceTo ((s.offsetOf l).periodicAt + msTicks)).setOffset l (s.offsetOf l).renewed).sendProbe l).endSpent := by
  unfold execOffsetPeriodicExchange
  dsimp only
  rw [idle, Bool.false_and, if_neg Bool.false_ne_true, if_neg Bool.false_ne_true]
  exact nextIf_of (by rw [ready, safe, flows, parent]; rfl)

end

/-- Settles O50: a message of the tree, a probe and a period each move their domain's offset as R239 to R241 say. -/
theorem offsetExchangesTakeEffect : Obligations.OffsetExchangesTakeEffect := by
  unfold Obligations.OffsetExchangesTakeEffect
  refine fun s t peer l p m d ready => ⟨fun taken known sealed_ => ⟨?_, State.takeOffset_result⟩, fun safe parent =>
    ⟨execOffsetProbeTimer_of ready safe parent, fun flows idle => ?_⟩⟩
  · refine (State.onMsg_of _ taken ready).trans ?_
    simp only [known, sealed_, if_true]
  · refine ⟨_, execOffsetPeriodicExchange_of ready safe parent flows idle, ?_⟩
    have tree := (s.treeParent_advanceTo ((s.offsetOf l).periodicAt + msTicks) l).trans parent
    generalize s.advanceTo ((s.offsetOf l).periodicAt + msTicks) = u at tree ⊢
    have placed : (u.setOffset l (s.offsetOf l).renewed).treeParent l = some p := tree
    rw [State.endSpent_offsetOf, State.sendProbe_offsetOf placed, State.setOffset_offsetOf]
    exact ⟨rfl, rfl⟩

end Sys2Proof.Machine
end

section
/-! PROOF. Obligation O51: Barometer samples, scores, calibration and tamper inputs. -/
namespace Sys2Proof.Machine

/-! ### Sensors and scores -/

theorem Touches.sensor {F : List Part} {s t : State} (h : Touches F s t) (n : Part.baro ∉ F) (i : Nat) :
    t.baro.sensor i = s.baro.sensor i := by
  rw [h.baro.resolve_left n]

/-- Every score has fallen by the lag, and nothing else of a sensor has changed. -/
theorem State.decayScores_sensor (s : State) (i : Nat) :
    s.decayScores.baro.sensor i = { s.baro.sensor i with score := (s.baro.sensor i).score - s.scoreLag } := by
  have found : Map.find s.decayScores.baro.sensors i =
      (Map.find s.baro.sensors i).map fun x => { x with score := x.score - s.scoreLag } :=
    Map.find_map (fun x : Sensor => { x with score := x.score - s.scoreLag }) s.baro.sensors i
  unfold Baro.sensor Map.findD
  rw [found]
  cases Map.find s.baro.sensors i with
  | none => exact (congrArg (fun n => ({ score := n } : Sensor)) (Nat.zero_sub _)).symm
  | some x => rfl

theorem State.decayScores_lag (s : State) : s.decayScores.scoreLag = 0 := by
  have caught : s.decayScores.scoreLag = s.now / usTicks - (s.baro.decayedUs + (s.now / usTicks - s.baro.decayedUs)) := rfl
  omega

theorem State.deciding_advanceTo_baro (s : State) (n : Nat) : (s.advanceTo n).baro = s.baro :=
  (s.advanceTo_touches n).baro.resolve_left (by decide)

/-! ### Fatal tamper (R395) -/

/-- The state with its keys destroyed and the TAMPER record written. -/
def State.tampered (s : State) (inst mask : Nat) (baro : Bool) : State :=
  s.zeroizeKeys.recordNow 0x0C07 (loomPayload 0 0 inst 0 (mask + bit baro 32) s.jidNow 0)

theorem State.fatalTamper_of {s : State} (inst mask : Nat) (baro : Bool) (safe : s.power.fatal = false) :
    s.fatalTamper inst mask baro =
      { s.tampered inst mask baro with
        power := { (s.tampered inst mask baro).power with fatal := true }
        spindle := { (s.tampered inst mask baro).spindle with pulls := [] } } := by
  unfold State.fatalTamper State.tampered
  rw [if_neg (by rw [safe]; exact Bool.false_ne_true)]

theorem State.fatalTamper_power (s : State) (inst mask : Nat) (baro : Bool) :
    (s.fatalTamper inst mask baro).power = { s.power with fatal := true } := by
  cases already : s.power.fatal with
  | true =>
    unfold State.fatalTamper
    rw [if_pos already, ← already]
  | false =>
    have power : (s.tampered inst mask baro).power = s.power :=
      ((State.recordNow_touches _ _ _).power.resolve_left (by decide)).trans (s.zeroizeKeys_touches.power.resolve_left (by decide))
    rw [State.fatalTamper_of inst mask baro already, ← power]

theorem State.fatalTamper_keys {s : State} (inst mask : Nat) (baro : Bool) (safe : s.power.fatal = false) :
    (s.fatalTamper inst mask baro).keys.zeroized = true ∧ (s.fatalTamper inst mask baro).keys.slots = [] := by
  have keys : (s.tampered inst mask baro).keys = s.zeroizeKeys.keys := (State.recordNow_touches _ _ _).keys.resolve_left (by decide)
  obtain ⟨slots, zeroized, -, -⟩ := s.zeroizeKeys_keys
  rw [State.fatalTamper_of inst mask baro safe]
  dsimp only
  rw [keys]
  exact ⟨zeroized, slots⟩

/-! ### A sample that breaks a threshold (R406, R407) -/

/-- The sensor as such a sample of a class leaves it, before its score is judged. -/
def Sensor.alarmed (x : Sensor) (cls now : Nat) : Sensor :=
  let score := min 16 (x.score + classWeight cls)
  let x1 := if cls == 0 then { x with soft := min (x.soft + 1) (2 ^ 32 - 1), softAt := some now }
    else { x with exc := min (x.exc + 1) (2 ^ 32 - 1), excAt := some now, score := score }
  if x.score < score then x1.spoil else x1

/-- The state with the counts and records of such a sample, before its score is judged. -/
def State.noteAlarm (s : State) (inst bin level : Nat) (c : Nat × Nat × Nat) : State :=
  let score := min 16 ((s.baro.sensor inst).score + classWeight c.1)
  ((s.setSensor inst ((s.baro.sensor inst).alarmed c.1 s.now)).recordLimited 0x0D01 inst 0 usTicks
    (baroPayload inst bin c.1 c.2.1 level score c.2.2 0 0)).traceWrite { src := 9, arg0 := inst, arg1 := c.1 + score * 256 }

theorem State.alarm_eq (s : State) (inst bin level : Nat) (c : Nat × Nat × Nat) :
    s.alarm inst bin level c = (s.noteAlarm inst bin level c).scoreReached inst bin c.1 c.2.1 level c.2.2 (s.baro.sensor inst).score
      (min 16 ((s.baro.sensor inst).score + classWeight c.1)) := rfl

theorem State.noteAlarm_touches (s : State) (inst bin level : Nat) (c : Nat × Nat × Nat) :
    Touches [.log, .counters, .trace] (s.setSensor inst ((s.baro.sensor inst).alarmed c.1 s.now)) (s.noteAlarm inst bin level c) :=
  (State.recordLimited_touches _ _ _ _ _ _).andThen (State.traceWrite_touches _ _) (by decide)

theorem State.noteAlarm_sensor (s : State) (inst bin level : Nat) (c : Nat × Nat × Nat) :
    (s.noteAlarm inst bin level c).baro.sensor inst = (s.baro.sensor inst).alarmed c.1 s.now :=
  ((s.noteAlarm_touches inst bin level c).sensor (by decide) inst).trans (State.setSensor_sensor _ _ _)

theorem Sensor.spoil_score (x : Sensor) : x.spoil.score = x.score ∧ x.spoil.exc = x.exc ∧ x.spoil.excAt = x.excAt :=
  ⟨rfl, rfl, rfl⟩

/-- A soft sample is counted alone. -/
theorem Sensor.alarmed_soft (x : Sensor) (now : Nat) :
    x.alarmed 0 now = { x with soft := min (x.soft + 1) (2 ^ 32 - 1), softAt := some now } := by
  have still : ¬ x.score < min 16 (x.score + classWeight 0) := by
    unfold classWeight
    simp
  unfold Sensor.alarmed
  dsimp only
  rw [if_neg still, if_pos (beq_self_eq_true _)]

/-- An excursion is counted and weighed. -/
theorem Sensor.alarmed_excursion {x : Sensor} {cls : Nat} (now : Nat) (excursion : cls ≠ 0) :
    (x.alarmed cls now).exc = min (x.exc + 1) (2 ^ 32 - 1) ∧ (x.alarmed cls now).score = min 16 (x.score + classWeight cls) ∧
      (x.alarmed cls now).excAt = some now := by
  have counted : ¬ (cls == 0) = true := by simpa using excursion
  unfold Sensor.alarmed
  dsimp only
  rw [if_neg counted]
  split
  · exact ⟨rfl, rfl, rfl⟩
  · exact ⟨rfl, rfl, rfl⟩

/-- A score below 16 raises the event when it reaches 8, and changes no sensor. -/
theorem State.scoreReached_below {s : State} {inst bin cls sensor level thresh old score : Nat} (below : score < 16) :
    s.scoreReached inst bin cls sensor level thresh old score = if old < 8 && 8 ≤ score then s.raise 3 else s := by
  unfold State.scoreReached
  dsimp only
  rw [if_pos below]

/-- At 16 a live device stops. -/
theorem State.scoreReached_live {s : State} {inst bin cls sensor level thresh old : Nat} (live : lcsLive s.otp.lcs = true) :
    s.scoreReached inst bin cls sensor level thresh old 16 = (if old < 8 && 8 ≤ 16 then s.raise 3 else s).fatalTamper inst 0 true := by
  have same : (if old < 8 && 8 ≤ 16 then s.raise 3 else s).otp = s.otp := by split <;> rfl
  unfold State.scoreReached
  dsimp only
  rw [if_neg (by decide), same, if_pos live]

/-- Elsewhere the score starts at 0 again. -/
theorem State.scoreReached_other {s : State} {inst bin cls sensor level thresh old : Nat} (other : lcsLive s.otp.lcs = false) :
    let u := if old < 8 && 8 ≤ 16 then s.raise 3 else s
    s.scoreReached inst bin cls sensor level thresh old 16 =
      (u.setSensor inst { u.baro.sensor inst with score := 0 }).record 0x0D03
        (baroPayload inst bin cls sensor level 16 thresh 0 0 0) := by
  have same : (if old < 8 && 8 ≤ 16 then s.raise 3 else s).otp = s.otp := by split <;> rfl
  intro u
  unfold State.scoreReached
  dsimp only
  rw [if_neg (by decide), same, if_neg (by rw [other]; exact Bool.false_ne_true)]

/-! ### Samples (R399, R401, R406, R407) -/

section
variable {s : State} {inst m d w bin : Nat} (ready : s.clocked = true) (known : s.build.instances.contains inst = true)
  (low : m < 64) (mid : d < 256) (high : w < 64)
include ready known low mid high

theorem execBarometerSample_of : execBarometerSample inst m d w bin s = .next
    (match sampleClass ((s.deciding inst).bin_ bin).calibrated ((s.deciding inst).thresholds (s.fused inst) bin)
        (s.decayScores.baro.sensor inst).stretch m d w with
    | none => s.decayScores.setSensor inst (s.decayScores.takeSample inst m d w bin)
    | some c => (s.decayScores.setSensor inst (s.decayScores.takeSample inst m d w bin)).alarm inst bin
        (s.decayScores.baro.sensor inst).stretch c) := by
  have level : (s.decayScores.baro.sensor inst).stretch = (s.baro.sensor inst).stretch := by rw [State.decayScores_sensor]
  have readings : readingOk m d w = true := by
    unfold readingOk
    rw [decide_eq_true low, decide_eq_true mid, decide_eq_true high]
    rfl
  unfold execBarometerSample
  dsimp only
  rw [level]
  exact nextIf_of (by rw [ready, known, readings]; rfl)

end

/-- The readings of a sample leave the counts and the score. -/
theorem State.takeSample_kept (s : State) (inst m d w bin : Nat) :
    (s.takeSample inst m d w bin).score = (s.baro.sensor inst).score ∧ (s.takeSample inst m d w bin).soft = (s.baro.sensor inst).soft ∧
      (s.takeSample inst m d w bin).exc = (s.baro.sensor inst).exc := ⟨rfl, rfl, rfl⟩

section
variable {s : State} {inst bin level : Nat} {c : Nat × Nat × Nat} {y : Sensor} (sensor : s.baro.sensor inst = y)
include sensor

/-- A sample that breaks a threshold and leaves the score below 16. -/
theorem State.alarm_below (below : y.score + classWeight c.1 < 16) :
    (s.alarm inst bin level c).baro.sensor inst = y.alarmed c.1 s.now ∧
      (y.score < 8 → 8 ≤ y.score + classWeight c.1 → (s.alarm inst bin level c).events.status.getLsbD 3 = true) := by
  have least : min 16 (y.score + classWeight c.1) = y.score + classWeight c.1 := Nat.min_eq_right (Nat.le_of_lt below)
  have noted := s.noteAlarm_sensor inst bin level c
  rw [State.alarm_eq, sensor, least, State.scoreReached_below below]
  rw [sensor] at noted
  refine ⟨?_, fun under reaches => ?_⟩
  · split
    · exact noted
    · exact noted
  · rw [if_pos (by rw [decide_eq_true under, decide_eq_true reaches]; rfl)]
    exact State.raise_raised _ (by decide)

omit sensor in
theorem State.noteAlarm_kept : (s.noteAlarm inst bin level c).otp = s.otp ∧ (s.noteAlarm inst bin level c).power = s.power ∧
    (s.noteAlarm inst bin level c).keys = s.keys := by
  have noted := s.noteAlarm_touches inst bin level c
  exact ⟨noted.otp_eq (by decide), noted.power.resolve_left (by decide), noted.keys.resolve_left (by decide)⟩

/-- At 16 a live device stops; elsewhere the score starts at 0 again. -/
theorem State.alarm_sixteen (reaches : 16 ≤ y.score + classWeight c.1) :
    (lcsLive s.otp.lcs = true → (s.alarm inst bin level c).power.fatal = true ∧
      (s.power.fatal = false →
        (s.alarm inst bin level c).keys.zeroized = true ∧ (s.alarm inst bin level c).keys.slots = [])) ∧
    (lcsLive s.otp.lcs = false → (s.alarm inst bin level c).power.fatal = s.power.fatal ∧
      (s.alarm inst bin level c).keys = s.keys ∧ ((s.alarm inst bin level c).baro.sensor inst).score = 0) := by
  obtain ⟨otp, power, keys⟩ := s.noteAlarm_kept (inst := inst) (bin := bin) (level := level) (c := c)
  have most : min 16 (y.score + classWeight c.1) = 16 := Nat.min_eq_left reaches
  rw [State.alarm_eq, sensor, most]
  generalize s.noteAlarm inst bin level c = u at otp power keys ⊢
  have raised : (if y.score < 8 && 8 ≤ 16 then u.raise 3 else u).power = s.power ∧
      (if y.score < 8 && 8 ≤ 16 then u.raise 3 else u).keys = s.keys := by
    split
    · exact ⟨power, keys⟩
    · exact ⟨power, keys⟩
  refine ⟨fun live => ?_, fun other => ?_⟩
  · rw [State.scoreReached_live (by rw [otp]; exact live), State.fatalTamper_power]
    exact ⟨rfl, fun safe => State.fatalTamper_keys _ _ _ (by rw [raised.1]; exact safe)⟩
  · rw [State.scoreReached_other (by rw [otp]; exact other)]
    generalize (if y.score < 8 && 8 ≤ 16 then u.raise 3 else u) = v at raised ⊢
    have recorded := State.record_touches (v.setSensor inst { v.baro.sensor inst with score := 0 }) 0x0D03
      (baroPayload inst bin c.1 c.2.1 level 16 c.2.2 0 0 0)
    rw [recorded.power.resolve_left (by decide), recorded.keys.resolve_left (by decide), recorded.sensor (by decide),
      State.setSensor_sensor]
    exact ⟨congrArg Power.fatal raised.1, raised.2, rfl⟩

end

/-! ### Calibration and status (R409, R410, R472) -/

theorem Sensor.bin_put (x : Sensor) (i : Nat) (b : Bin) : ({ x with bins := x.bins.put i b } : Sensor).bin_ i = b :=
  Map.findD_put_self _ _ _ _

/-- An epoch that a rise of the score has spoiled teaches nothing. -/
theorem Bin.endEpoch_spoiled {b : Bin} (spoiled : b.spoiled = true) : b.endEpoch = { b with samples := 0, spoiled := false } := by
  unfold Bin.endEpoch
  dsimp only
  rw [if_pos spoiled]

theorem Bin.endEpoch_learned {b : Bin} (clean : b.spoiled = false) : b.endEpoch =
    { b with
      lm := learnHigh (decide (0 < b.epochs)) b.lm b.em, ld := learnLow (decide (0 < b.epochs)) b.ld b.ed
      lg := learnHigh (decide (0 < b.epochs)) b.lg b.eg, epochs := b.epochs + 1, samples := 0, spoiled := false } := by
  unfold Bin.endEpoch
  dsimp only
  rw [if_neg (by rw [clean]; exact Bool.false_ne_true)]

/-- A bin after its epoch: learned, or discarded. -/
theorem Bin.endEpoch_effect (b : Bin) : b.endEpoch.samples = 0 ∧ b.endEpoch.spoiled = false ∧
    (b.spoiled = true → b.endEpoch.epochs = b.epochs ∧ b.endEpoch.lm = b.lm) ∧
    (b.spoiled = false → b.endEpoch.epochs = b.epochs + 1 ∧
      (b.epochs = 0 → b.endEpoch.lm = b.em ∧ b.endEpoch.ld = b.ed ∧ b.endEpoch.lg = b.eg)) := by
  cases spoiled : b.spoiled with
  | true =>
    rw [Bin.endEpoch_spoiled spoiled]
    exact ⟨rfl, rfl, fun _ => ⟨rfl, rfl⟩, fun clean => absurd clean (by decide)⟩
  | false =>
    rw [Bin.endEpoch_learned spoiled]
    refine ⟨rfl, rfl, fun bad => absurd bad (by decide), fun _ => ⟨rfl, fun first => ?_⟩⟩
    dsimp only
    rw [first]
    exact ⟨rfl, rfl, rfl⟩

theorem State.closeWindow_baro (s : State) : s.closeWindow.baro.window = none ∧ s.closeWindow.time = s.time := by
  have recorded (u : State) : (u.windowRecord 4).baro = u.baro ∧ (u.windowRecord 4).time = u.time :=
    ⟨(State.record_touches _ _ _).baro.resolve_left (by decide), (State.record_touches _ _ _).time_eq (by decide)⟩
  unfold State.closeWindow
  rw [(recorded _).1, (recorded _).2]
  exact ⟨rfl, rfl⟩

/-- The state whose status registers have been refreshed. -/
def State.refreshed (s : State) : State := { s with baro := { s.baro with regs := s.baroRegs, regsAt := s.now } }

theorem State.refreshed_shown (s : State) : s.refreshed.baroShown = s.baroRegs := by
  have some_ : s.baroRegs.isEmpty = false := rfl
  exact if_neg (by rw [show s.refreshed.baro.regs = s.baroRegs from rfl, some_]; exact Bool.false_ne_true)

/-! ### Tamper inputs (R408) -/

/-- The input is counted. -/
def State.countTamper (s : State) (input : Nat) : State :=
  { s with power := { s.power with tamperCount := s.power.tamperCount.put input (s.power.tamperCount.findD input 0 + 1) } }

theorem execTamperInput_of {s : State} {input : Nat} (ready : s.clocked = true) (known : input < 8) :
    execTamperInput input s = .next
      (if !(s.otp.word 0x068 / 2 ^ input % 2 == 1) then s.countTamper input
      else if lcsLive s.otp.lcs then (s.countTamper input).fatalTamper 0 (2 ^ input) false
      else (s.countTamper input).record 0x0D03 (baroPayload 0 0 5 (2 ^ input) 0 0 0 0 0 0)) :=
  nextIf_of (by rw [ready, decide_eq_true known]; rfl)

theorem State.countTamper_count (s : State) (input : Nat) :
    (s.countTamper input).power.tamperCount.findD input 0 = s.power.tamperCount.findD input 0 + 1 := Map.findD_put_self _ _ _ _

/-- Settles O51: samples, decay, calibration, status and tamper inputs act as R399 to R410 and R472 say. -/
theorem sensorEventsTakeEffect : Obligations.SensorEventsTakeEffect := by
  unfold Obligations.SensorEventsTakeEffect
  intro s inst m d w bin until_ input c ready x y z
  have held : x = { s.baro.sensor inst with score := (s.baro.sensor inst).score - s.scoreLag } := s.decayScores_sensor inst
  have bins (i : Nat) : x.bin_ i = (s.baro.sensor inst).bin_ i := by rw [held]; rfl
  refine ⟨fun known low mid high => ?_, s.decayScores_sensor, fun calm above => ?_, ?_, ?_, fun opened full => ?_,
    fun opened => ?_, ?_, fun known => ?_⟩
  · have run := execBarometerSample_of (bin := bin) ready known low mid high
    have sensor : (s.decayScores.setSensor inst y).baro.sensor inst = y := State.setSensor_sensor _ _ _
    obtain ⟨scores, softs, excs⟩ : y.score = x.score ∧ y.soft = x.soft ∧ y.exc = x.exc := s.decayScores.takeSample_kept inst m d w bin
    have clock : (s.decayScores.setSensor inst y).now = s.now := rfl
    have otp : (s.decayScores.setSensor inst y).otp = s.otp := rfl
    have power : (s.decayScores.setSensor inst y).power = s.power := rfl
    have keys : (s.decayScores.setSensor inst y).keys = s.keys := rfl
    refine ⟨fun normal => ?_, fun broken below => ⟨_, run, ?_⟩, fun broken reaches => ⟨_, run, ?_⟩⟩
    · rw [show sampleClass _ _ _ m d w = none from normal] at run
      exact run
    · rw [show sampleClass _ _ _ m d w = some c from broken]
      dsimp only
      obtain ⟨after, raises⟩ := State.alarm_below (bin := bin) (level := x.stretch) (c := c) sensor
        (by rw [scores]; exact below)
      refine ⟨fun soft => ?_, fun excursion => ?_⟩
      · rw [after, soft, clock, Sensor.alarmed_soft, softs]
      · obtain ⟨exc, score, at_⟩ := Sensor.alarmed_excursion (x := y) s.now excursion
        rw [after, clock]
        rw [excs] at exc
        rw [scores] at score raises
        exact ⟨exc, score.trans (Nat.min_eq_right (Nat.le_of_lt below)), at_, raises⟩
    · rw [show sampleClass _ _ _ m d w = some c from broken]
      have judged := State.alarm_sixteen (bin := bin) (level := x.stretch) (c := c) sensor (by rw [scores]; exact reaches)
      rw [otp, power, keys] at judged
      exact judged
  · have calmThen : 4 ≤ (s.baro.sensor inst).calm := by rw [held] at calm; exact calm
    have aboveThen : 0 < (s.baro.sensor inst).stretch := by rw [held] at above; exact above
    have level : x.stretch = (s.baro.sensor inst).stretch := by rw [held]
    rw [level]
    exact nextIf_of (by rw [ready, decide_eq_true calmThen, decide_eq_true aboveThen]; rfl)
  · have falls : y.calm = if calmSample (s.fused inst) m d then x.calm + 1 else 0 := rfl
    rw [falls, calmSample]
    simp only [Bool.and_eq_true, decide_eq_true_eq]
  · intro u
    have lag : (if s.scoreLag == 0 then s.advanceTo s.nextUs else s) = u := by simp only [u, beq_iff_eq]
    have baro : u.baro = s.baro := by
      rw [← lag]
      split
      · exact s.deciding_advanceTo_baro _
      · rfl
    refine ⟨u.decayScores, (nextIf_of ready).trans (by rw [lag]), rfl, u.decayScores_lag, fun i => ?_⟩
    rw [State.decayScores_sensor, baro]
  · have samples : epochSamples ≤ ((s.baro.sensor inst).bin_ bin).samples := by rw [← bins bin]; exact full
    refine ⟨_, nextIf_of (by rw [ready, opened, decide_eq_true samples]; rfl), ?_⟩
    rw [State.setSensor_sensor, Sensor.bin_put, bins bin]
    exact Bin.endEpoch_effect _
  · obtain ⟨closed, time⟩ := (s.advanceTo until_).closeWindow_baro
    refine ⟨_, ?_, closed, time⟩
    unfold exec execCalWindowExpiry
    rw [opened]
    exact nextIf_of ready
  · intro u
    exact ⟨u.refreshed, nextIf_of ready, rfl, rfl, u.refreshed_shown⟩
  · have run := execTamperInput_of ready known
    have counted := s.countTamper_count input
    refine ⟨_, run, ?_⟩
    by_cases enabled : s.otp.word 0x068 / 2 ^ input % 2 = 1
    · rw [if_neg (by rw [enabled]; decide)]
      cases live : lcsLive s.otp.lcs with
      | true =>
        rw [if_pos rfl, State.fatalTamper_power]
        exact ⟨counted, fun _ _ => ⟨rfl, fun safe => State.fatalTamper_keys _ _ _ safe⟩, fun _ bad => absurd bad (by decide),
          fun off => absurd (enabled.symm.trans off) (by decide)⟩
      | false =>
        have recorded := State.record_touches (s.countTamper input) 0x0D03 (baroPayload 0 0 5 (2 ^ input) 0 0 0 0 0 0)
        rw [if_neg Bool.false_ne_true, recorded.power.resolve_left (by decide), recorded.keys.resolve_left (by decide)]
        exact ⟨counted, fun _ bad => absurd bad (by decide), fun _ _ => ⟨rfl, rfl⟩,
          fun off => absurd (enabled.symm.trans off) (by decide)⟩
    · rw [if_pos (by simpa using enabled)]
      exact ⟨counted, fun on => absurd on enabled, fun on => absurd on enabled, fun _ => rfl⟩

end Sys2Proof.Machine
end

section
/-! PROOF. Obligation O52: debug expiries, the halt, and metering. -/
namespace Sys2Proof.Machine

/-! ### The end of a halt (R361, R430) -/

theorem Touches.halted {F : List Part} {s t : State} (h : Touches F s t) (n : Part.loom ∉ F) : t.loom.halted = s.loom.halted := by
  rw [h.loom.resolve_left n]

theorem State.signalAbort_halted (s : State) (a : DueAbort) : (s.signalAbort a).loom.halted = s.loom.halted := by
  have entry : s.internalEntry.loom.halted = s.loom.halted := rfl
  unfold State.signalAbort
  split
  · exact (State.signalAll_touches _ _ _).halted (by decide)
  · exact ((State.signalAll_touches _ _ _).halted (by decide)).trans entry

theorem State.resumeAbort_halted (s : State) (a : DueAbort) : (s.resumeAbort a).loom.halted = s.loom.halted := by
  unfold State.resumeAbort
  split
  · exact s.signalAbort_halted a
  · exact ((State.restAbort_touches _ a).halted (by decide)).trans
      ((State.signalAbort_halted _ a).trans ((s.closeAbort_touches a).halted (by decide)))

theorem State.foldl_resumeAbort_halted (as : List DueAbort) (s : State) :
    (as.foldl State.resumeAbort s).loom.halted = s.loom.halted := by
  induction as generalizing s with
  | nil => rfl
  | cons a as ih => exact (ih _).trans (s.resumeAbort_halted a)

theorem State.finishAborts_halted (s : State) : s.finishAborts.loom.halted = s.loom.halted :=
  State.foldl_resumeAbort_halted _ _

theorem State.applyHeldTails_halted (s : State) : s.applyHeldTails.loom.halted = s.loom.halted := by
  have applied (xs : List (Nat × Nat)) (u : State) : (xs.foldl (fun s x => s.applyTail x.1 x.2) u).loom.halted = u.loom.halted := by
    induction xs generalizing u with
    | nil => rfl
    | cons x xs ih => exact (ih _).trans rfl
  exact applied _ _

theorem State.endHalt_halted (s : State) : s.endHalt.loom.halted = false := by
  unfold State.endHalt
  dsimp only
  split
  · rfl
  · exact (State.applyHeldTails_halted _).trans (State.finishAborts_halted _)

theorem State.failureEndsHalt_halted (s : State) : s.failureEndsHalt.loom.halted = false := by
  unfold State.failureEndsHalt
  split
  · exact s.endHalt_halted
  · next none_ =>
    unfold State.inHalt at none_
    simp only [Bool.or_eq_true, not_or, Bool.not_eq_true] at none_
    exact none_.1

theorem Touches.right {F : List Part} {s t : State} (h : Touches F s t) (dbg : Part.dbg ∉ F) (boot : Part.boot ∉ F)
    (otp : Part.otp ∉ F) (i : Nat) : t.right i = s.right i := by
  unfold State.right State.rights State.allRights State.decoded
  rw [h.dbg.resolve_left dbg, h.boot.resolve_left boot, h.otp_eq otp]

/-- Where HALT ends with certificates, its breakpoints go and the cores run. -/
theorem State.setCerts_halt {s : State} {m : Map DebugCert} (had : s.right rightHalt = true)
    (lost : (s.setCerts m).right rightHalt = false) : (s.setCerts m).loom.bps = [] ∧ (s.setCerts m).loom.halted = false := by
  have same (u : State) : ({ u with loom := { u.loom with bps := [] } } : State).right rightHalt = u.right rightHalt := rfl
  have ended : (s.withCerts m).right rightHalt = false := by
    rw [State.setCerts_eq] at lost
    split at lost
    · rw [same, (State.failureEndsHalt_touches _).right (by decide) (by decide) (by decide)] at lost
      exact lost
    · exact lost
  rw [State.setCerts_eq, if_pos (by rw [had, ended]; rfl)]
  exact ⟨rfl, State.failureEndsHalt_halted _⟩

theorem State.advanceCounter_right (s : State) (n i : Nat) : (s.advanceCounter n).right i = s.right i :=
  (s.advanceCounter_touches n).right (by decide) (by decide) (by decide) i

theorem State.advanceCounter_dbg (s : State) (n : Nat) : (s.advanceCounter n).dbg = s.dbg :=
  (s.advanceCounter_touches n).dbg.resolve_left (by decide)

/-- The rights of a certificate that expires. -/
theorem execDebugRightsExpiry_of {s : State} {id : Nat} {x : DebugCert} (ready : s.clocked = true)
    (held : s.dbg.certs.find id = some x) :
    execDebugRightsExpiry id s = .next ((s.advanceCounter (x.notAfter * 1000000000 * 2 ^ 48 + 1)).setCerts (s.dbg.certs.del id)) := by
  unfold execDebugRightsExpiry
  rw [held]
  dsimp only
  rw [State.advanceCounter_dbg, nextIf_of ready]

/-- The state without its nonce. -/
def State.dropNonce (s : State) : State := { s with dbg := { s.dbg with nonce := none } }

theorem execDebugNonceExpiry_of {s : State} (ready : s.clocked = true) (drawn : s.dbg.nonce ≠ none) :
    execDebugNonceExpiry s = .next (s.advanceTo s.dbg.nonceUntil).dropNonce :=
  nextIf_of (by rw [ready, Option.isSome_iff_ne_none.mpr drawn]; rfl)

theorem execBreakpointHit_of {s : State} {addr : Nat} (up : s.loomUp = true) (running : s.loom.halting = false)
    (right : s.right rightHalt = true) (armed : addr ∈ s.loom.bps) :
    ∃ t, execBreakpointHit addr s = .next t ∧ t.loom.halting = true ∧ t.loom.haltPc = addr ∧ t.loom.bps = s.loom.bps := by
  have listed : s.loom.bps.contains addr = true := List.contains_iff_mem.mpr armed
  exact ⟨_, nextIf_of (by rw [up, running, right, listed]; rfl), rfl, rfl, rfl⟩

/-! ### Metering intervals (R221, R225) -/

/-- The LDI's next second begins. -/
def State.nextInterval (s : State) (l next : Nat) : State := s.setDom l { s.dom l with meterNext := next }

/-- A record that finds its place takes the next SEQ. -/
theorem State.placeRecord_metering {s t : State} {gdid l : Nat} {body : Bytes} (placed : s.placeRecord gdid l body = some t) :
    t.metering.nextSeq = s.metering.nextSeq + 1 ∧ t.time = s.time := by
  unfold State.placeRecord at placed
  obtain ⟨b, -, made⟩ := Option.map_eq_some_iff.mp placed
  rw [← made]
  exact ⟨rfl, rfl⟩

theorem State.accrue_kept (s : State) (l : Nat) : (s.accrue l).metering = s.metering ∧ (s.accrue l).time = s.time := by
  have accrued := s.accrue_touches l
  exact ⟨accrued.metering.resolve_left (by decide), accrued.time_eq (by decide)⟩

/-- An interval's record is placed, or the interval goes on, EXTENDED. -/
theorem State.meterRecord_effect (s : State) (l kind : Nat) : (s.meterRecord l kind).time = s.time ∧
    ((s.meterRecord l kind).metering.nextSeq = s.metering.nextSeq + 1 ∨
      (s.meterRecord l kind).metering = s.metering ∧ ((s.meterRecord l kind).dom l).usage.extended = true) := by
  obtain ⟨metering, time⟩ := s.accrue_kept l
  unfold State.meterRecord
  dsimp only
  split
  · next t placed =>
    obtain ⟨seq, clock⟩ := State.placeRecord_metering placed
    exact ⟨clock.trans time, .inl (by rw [State.setDom_metering, seq, metering])⟩
  · refine ⟨time, .inr ⟨metering, ?_⟩⟩
    rw [State.setDom_dom]

theorem State.nextInterval_kept (s : State) (l next : Nat) : (s.nextInterval l next).time = s.time ∧
    (s.nextInterval l next).metering = s.metering ∧ ((s.nextInterval l next).dom l).usage = (s.dom l).usage ∧
    ((s.nextInterval l next).dom l).meterNext = next := by
  refine ⟨rfl, rfl, ?_, ?_⟩
  · unfold State.nextInterval
    rw [State.setDom_dom]
  · unfold State.nextInterval
    rw [State.setDom_dom]

theorem execMeterIntervalTimer_of {s : State} {l : Nat} (ready : s.clocked = true) (running : s.inHalt = false)
    (live : (s.dom l).state.live = true) : execMeterIntervalTimer l s =
      .next (((s.advanceTo (s.dom l).meterNext).meterRecord l 0).nextInterval l ((s.dom l).meterNext + secTicks)) :=
  nextIf_of (by rw [ready, running, live]; rfl)

/-! ### The close of a batch (R223) -/

theorem State.closeBatch_batches (s : State) (b : MeterBatch) :
    (∀ x ∈ (s.closeBatch b).metering.batches, x.number = b.number → x.closed ≠ none) ∧
      (s.closeBatch b).metering.batches.map (·.records) = s.metering.batches.map (·.records) ∧
      (s.closeBatch b).events.status.getLsbD 10 = true := by
  refine ⟨fun x mem same => ?_, ?_, State.raise_raised _ (by decide)⟩
  · obtain ⟨y, -, rfl⟩ := List.mem_map.mp mem
    split at same
    · next hit => rw [if_pos hit]; exact Option.some_ne_none _
    · next miss => exact absurd (beq_iff_eq.mpr same) miss
  · have signed : (s.hybridSign s.keys.aliasSeed (s.batchHeader b)).2.metering = s.metering := rfl
    unfold State.closeBatch
    dsimp only [State.raise]
    rw [signed, List.map_map]
    refine List.map_congr_left fun x _ => ?_
    dsimp only [Function.comp]
    split <;> rfl

theorem execMeterBatchClose_of {s : State} {b : MeterBatch} (up : s.loomUp = true) (running : s.loom.halting = false)
    (identity : s.identityUp = true) (drbg : s.drbgReady = true) (oldest : s.metering.batches.find? (fun b => b.closed.isNone) = some b) :
    execMeterBatchClose s = .next ((if b.records.length < batchSize then s.advanceTo (b.openedAt + secTicks) else s).closeBatch b) := by
  unfold execMeterBatchClose
  rw [oldest]
  exact nextIf_of (by rw [up, running, identity, drbg]; rfl)

/-- Settles O52: rights, nonces and halts end and begin as R306 to R361 and R430 say, and metering follows R221 and R223. -/
theorem debugAndMeteringEventsTakeEffect : Obligations.DebugAndMeteringEventsTakeEffect := by
  unfold Obligations.DebugAndMeteringEventsTakeEffect
  refine ⟨fun s id addr x => ⟨fun ready held => ?_, fun ready drawn => ?_, execBreakpointHit_of, fun up halting idle => ?_⟩,
    fun s l b => ⟨fun ready running live => ?_, fun up running identity drbg oldest => ?_⟩⟩
  · refine ⟨_, execDebugRightsExpiry_of ready held, ?_, fun had lost => State.setCerts_halt ?_ lost⟩
    · rw [State.setCerts_dbg]
    · rw [State.advanceCounter_right]
      exact had
  · have dbg := (s.advanceTo_touches s.dbg.nonceUntil).dbg.resolve_left (by decide)
    have certs (u : State) : u.dropNonce.dbg.certs = u.dbg.certs ∧ u.dropNonce.dbg.nonce = none ∧ u.dropNonce.time = u.time :=
      ⟨rfl, rfl, rfl⟩
    obtain ⟨kept, gone, time⟩ := certs (s.advanceTo s.dbg.nonceUntil)
    exact ⟨_, execDebugNonceExpiry_of ready drawn, gone, by rw [kept, dbg], time⟩
  · exact ⟨_, nextIf_of (by rw [up, halting, idle]; rfl), rfl, rfl, rfl⟩
  · obtain ⟨clock, placed⟩ := (s.advanceTo (s.dom l).meterNext).meterRecord_effect l 0
    have metering := (s.advanceTo_touches (s.dom l).meterNext).metering.resolve_left (by decide)
    obtain ⟨time, same, usage, next⟩ := ((s.advanceTo (s.dom l).meterNext).meterRecord l 0).nextInterval_kept l
      ((s.dom l).meterNext + secTicks)
    rw [metering] at placed
    rw [← same, ← usage] at placed
    exact ⟨_, execMeterIntervalTimer_of ready running live, next, time.trans clock, placed⟩
  · have metering : (if b.records.length < batchSize then s.advanceTo (b.openedAt + secTicks) else s).metering = s.metering := by
      split
      · exact (s.advanceTo_touches _).metering.resolve_left (by decide)
      · rfl
    refine ⟨_, execMeterBatchClose_of up running identity drbg oldest, ?_⟩
    rw [← metering]
    exact State.closeBatch_batches _ b

end Sys2Proof.Machine
end

section
/-!
PROOF. Two freezes that are armed for one LDI under different IDs (R418).
-/
namespace Sys2Proof.Machine

/-- The first of two freezes that are armed for LDI 0, and the second. -/
def ArmedFreeze.first : ArmedFreeze := { ldi := 0, id := 1 }
def ArmedFreeze.second : ArmedFreeze := { ldi := 0, id := 2 }

/-- A running device that holds both. -/
def State.armedTwice : State :=
  { power := { rootValid := true, phase := .idle }, counters := { armed := [ArmedFreeze.first, ArmedFreeze.second] } }

/-- A latch disarms the one freeze of its ID. -/
theorem State.latch_armed (s : State) (a : ArmedFreeze) (late : Bool) :
    (s.latch a late).counters.armed = s.counters.armed.filter (fun x => !(x.ldi == a.ldi && x.id == a.id)) := rfl

/-- When the first fires, the second stays armed. -/
theorem State.armedTwice_fires : ∃ t, exec (.freezeFire 0) State.armedTwice = .next t ∧ t.counters.armed = [ArmedFreeze.second] := by
  refine ⟨_, nextIf_of rfl, ?_⟩
  rw [State.latch_armed, (State.advanceCounter_touches _ _).counters.resolve_left (by decide)]
  decide

/-- Refutes O53: a freeze that fires disarms the freezes of its LDI and ID, so that of two freezes of one LDI under different IDs
the other stays armed, where the statement has none of that LDI left. -/
theorem not_profileEventsTakeEffect : ¬ Obligations.ProfileEventsTakeEffect := by
  unfold Obligations.ProfileEventsTakeEffect
  intro holds
  obtain ⟨fires, -⟩ := holds State.armedTwice State.armedTwice 0 0 0 0 0 {} ArmedFreeze.first rfl
  obtain ⟨v, f, fired, -, -, -, -, -, disarmed, -⟩ := fires rfl
  obtain ⟨t, fires, stays⟩ := State.armedTwice_fires
  have same : v = t := Host.Outcome.next.inj (fired.symm.trans fires)
  have empty : State.armedTwice.counters.armed.filter (fun x => x.ldi != ArmedFreeze.first.ldi) = [] := by decide
  rw [same, stays, empty] at disarmed
  cases disarmed

end Sys2Proof.Machine
end

section
/-!
PROOF. How a request that the responder takes is answered (R207), and where the fields of a response stand.
-/
namespace Sys2Proof.Machine

/-! ### A request that is taken -/

/-- What an answer leaves in the transcripts of its connection. -/
def noteAnswer (i : Instr) (m : SpdmCtx) (p : Place) (r : Resp × State) : Resp × State :=
  match r.1 with
  | .now code body =>
    if code == 0x7F then r
    else
      let b := requestBytes i ++ Config.spdmEncode code body
      (r.1, if p == .setup then (r.2.addTranscript m.conn b).addSetup m.conn b else r.2.addTranscript m.conn b)
  | _ => r

/-- A request that passes the checks of every request has the answer of its own rule. -/
theorem SpdmTakes.checked {s t : State} {i : Instr} {m : SpdmCtx} {anyVersion : Bool} {p : Place}
    (takes : SpdmTakes s i m anyVersion p t) (f : State → Resp × State) :
    t.answerSpdm i m anyVersion p f = noteAnswer i m p (f t) := by
  obtain ⟨-, -, version, identity, placed, agreed⟩ := takes
  have spoken : ¬ (!anyVersion && m.version != spdmVersion) = true := by
    rcases version with any | own
    · rw [any, Bool.not_true, Bool.false_and]
      decide
    · rw [own, bne_self_eq_false, Bool.and_false]
      decide
  have known : ¬ (m.conn == .mctp && !t.identityUp && p != .setup) = true := by
    intro missing
    simp only [Bool.and_eq_true, beq_iff_eq, bne_iff_ne, Bool.not_eq_true'] at missing
    obtain ⟨⟨mctp, down⟩, later⟩ := missing
    rw [identity mctp later] at down
    cases down
  have algorithms : ¬ (p != .setup && p != .nowhere && !(t.spdmConn m.conn).algs) = true := by
    intro missing
    simp only [Bool.and_eq_true, bne_iff_ne, Bool.not_eq_true'] at missing
    obtain ⟨⟨later, somewhere⟩, down⟩ := missing
    rw [agreed later somewhere] at down
    cases down
  unfold State.answerSpdm
  rw [if_neg spoken, if_neg known, if_neg (by rw [placed]; decide), if_neg algorithms]
  rfl

/-- A row of the responder gives the answer to the request that it takes. -/
theorem SpdmTakes.row {s t : State} {i : Instr} {m : SpdmCtx} {anyVersion : Bool} {p : Place}
    (takes : SpdmTakes s i m anyVersion p t) (f : State → Resp × State) :
    s.spdmRow i m f = .next ((f t).2.giveAnswer m (f t).1) := by
  obtain ⟨up, taken, -⟩ := takes
  unfold State.spdmRow
  rw [nextIf_of up, taken]

section
variable {s t u : State} {i : Instr} {m : SpdmCtx} {anyVersion : Bool} {p : Place} {resp f : State → Resp × State} {code : Nat}
  {body : Bytes}

/-- A request whose row answers it as the request's own rule does. -/
theorem SpdmTakes.answers_as (takes : SpdmTakes s i m anyVersion p t) (row : exec i s = s.spdmRow i m resp)
    (same : resp t = t.answerSpdm i m anyVersion p f) (own : f t = (.now code body, u)) : Answers i s m p code body u := by
  unfold Answers
  rw [row, takes.row, same, takes.checked, own]
  unfold noteAnswer
  dsimp only
  by_cases error : code = 0x7F
  · rw [if_pos (beq_iff_eq.mpr error), if_pos error]
    rfl
  · rw [if_neg (by simpa using error), if_neg error]
    by_cases setup : p = .setup
    · rw [if_pos (beq_iff_eq.mpr setup), if_pos setup]
      rfl
    · rw [if_neg (by simpa using setup), if_neg setup]
      rfl

/-- The request is answered with the message that its own rule gives. -/
theorem SpdmTakes.answers (takes : SpdmTakes s i m anyVersion p t)
    (row : exec i s = s.spdmRow i m (fun s => s.answerSpdm i m anyVersion p f)) (own : f t = (.now code body, u)) :
    Answers i s m p code body u := takes.answers_as row rfl own

end

/-! ### Fields of a response -/

/-- A field that stands behind others. -/
theorem bytesAt_append {a b c : Bytes} {off n : Nat} (before : a.length = off) (width : b.length = n) :
    bytesAt (a ++ (b ++ c)) off n = b := by
  unfold bytesAt
  rw [← before, ← width, List.drop_left, List.take_left]
  dsimp only
  rw [Nat.sub_self, List.replicate_zero, List.append_nil]

theorem leBytes_two_zero : leBytes 2 0 = leBytes 1 0 ++ leBytes 1 0 := by decide

end Sys2Proof.Machine
end

section
/-! PROOF. Obligation O54: SPDM set-up, certificates and measurements. -/
namespace Sys2Proof.Machine

/-- A response whose parameters are given, as one body. -/
theorem spdmResp_eq (code p1 p2 : Nat) (rest : Bytes) : spdmResp code p1 p2 rest = .now code (leBytes 1 p1 ++ leBytes 1 p2 ++ rest) := rfl

section
variable {s t : State} {m : SpdmCtx}

/-! ### Set-up (R207, R209) -/

theorem getVersion_answers (takes : SpdmTakes s (.getVersion m) m true .setup t) :
    Answers (.getVersion m) s m .setup 0x04 (leBytes 2 0 ++ (leBytes 1 0 ++ leBytes 1 1 ++ leBytes 2 0x1300))
      (t.setConn m.conn { version := true, nextHandle := (t.spdmConn m.conn).nextHandle }) :=
  takes.answers rfl rfl

/-- The body of CAPABILITIES. -/
def capabilitiesBody : Bytes :=
  leBytes 1 0 ++ leBytes 1 0 ++ (leBytes 1 0 ++ padTo 1 (Config.freeBytes 0x61 0) ++ leBytes 2 0 ++ leBytes 4 spdmFlags
    ++ padTo 8 (Config.freeBytes 0x61 1))

theorem capabilitiesBody_flags : bytesAt capabilitiesBody 6 4 = leBytes 4 spdmFlags := by
  have placed : capabilitiesBody = (leBytes 1 0 ++ leBytes 1 0 ++ leBytes 1 0 ++ padTo 1 (Config.freeBytes 0x61 0) ++ leBytes 2 0) ++
      (leBytes 4 spdmFlags ++ padTo 8 (Config.freeBytes 0x61 1)) := by
    simp only [capabilitiesBody, List.append_assoc]
  rw [placed]
  exact bytesAt_append (by simp) (by simp)

theorem getCapabilities_answers (takes : SpdmTakes s (.getCapabilities m) m false .setup t)
    (version : (t.spdmConn m.conn).version = true) :
    Answers (.getCapabilities m) s m .setup 0x61 capabilitiesBody
      (t.setConn m.conn { t.spdmConn m.conn with caps := true }) :=
  takes.answers rfl (by
    dsimp only
    rw [version, Bool.not_true, if_neg Bool.false_ne_true]
    rfl)

theorem negotiateAlgorithms_answers (takes : SpdmTakes s (.negotiateAlgorithms m true) m false .setup t)
    (caps : (t.spdmConn m.conn).caps = true) :
    Answers (.negotiateAlgorithms m true) s m .setup 0x63 (leBytes 1 4 ++ leBytes 1 0 ++ spdmAlgorithms)
      (t.setConn m.conn { t.spdmConn m.conn with algs := true }) :=
  takes.answers rfl (by
    dsimp only
    rw [caps, Bool.not_true, if_neg Bool.false_ne_true, if_neg (by decide)]
    rfl)

/-! ### Certificates (R208, R209) -/

theorem getDigests_answers (takes : SpdmTakes s (.getDigests m) m false .anywhere t) :
    Answers (.getDigests m) s m .anywhere 0x01 (leBytes 1 0 ++ leBytes 1 1 ++ t.slotDigest) t :=
  takes.answers rfl rfl

theorem getCertificate_answers {off len : Nat} (takes : SpdmTakes s (.getCertificate m 0 off len) m false .anywhere t)
    (inside : off < t.slotChain.length) :
    let part := (t.slotChain.drop off).take len
    Answers (.getCertificate m 0 off len) s m .anywhere 0x02
      (leBytes 2 0 ++ (leBytes 2 part.length ++ leBytes 2 (t.slotChain.length - off - part.length) ++ part)) t := by
  have some_ : (t.slotChain.drop off).isEmpty = false := by simpa using inside
  intro part
  refine takes.answers rfl ?_
  dsimp only
  rw [if_neg (by decide), some_, if_neg Bool.false_ne_true, List.length_drop]
  rfl

theorem getCertificate_otherSlot {slot off len : Nat} (takes : SpdmTakes s (.getCertificate m slot off len) m false .anywhere t)
    (other : slot ≠ 0) :
    Answers (.getCertificate m slot off len) s m .anywhere 0x7F (leBytes 1 errUnsupported ++ leBytes 1 0x82) t :=
  takes.answers rfl (by
    dsimp only
    rw [if_pos (bne_iff_ne.mpr other)]
    rfl)

/-! ### Challenge and measurements (R209, R210) -/

/-- A signed response is its parameters, its fields and a signature. -/
theorem State.signedResp_eq (s : State) (i : Instr) (c : Conn) (code p1 p2 : Nat) (rest : Bytes) :
    ∃ sig v, s.signedResp i c code p1 p2 rest = (.now code (leBytes 1 p1 ++ leBytes 1 p2 ++ (rest ++ sig)), v) := ⟨_, _, rfl⟩

theorem challenge_answers {nonce : BitVec 256} (takes : SpdmTakes s (.challenge m 0 nonce) m false .anywhere t)
    (drbg : t.drbgReady = true) :
    ∃ body v, Answers (.challenge m 0 nonce) s m .anywhere 0x03 body v ∧ bytesAt body 2 48 = t.slotDigest := by
  obtain ⟨sig, v, signed⟩ := t.draw.2.signedResp_eq (.challenge m 0 nonce) m.conn 0x03 0 1
    (t.slotDigest ++ drawBytes t.draw.1 32 ++ leBytes 2 0)
  refine ⟨leBytes 1 0 ++ leBytes 1 1 ++ (t.slotDigest ++ drawBytes t.draw.1 32 ++ leBytes 2 0 ++ sig), v,
    takes.answers rfl ?_, ?_⟩
  · dsimp only
    rw [if_neg (by decide), drbg, Bool.not_true, if_neg Bool.false_ne_true]
    exact signed
  · have placed : leBytes 1 0 ++ leBytes 1 1 ++ (t.slotDigest ++ drawBytes t.draw.1 32 ++ leBytes 2 0 ++ sig) =
        (leBytes 1 0 ++ leBytes 1 1) ++ (t.slotDigest ++ (drawBytes t.draw.1 32 ++ leBytes 2 0 ++ sig)) := by
      simp only [List.append_assoc]
    rw [placed]
    exact bytesAt_append (by simp) (bvBytes_length _ _)

/-- The fields of a MEASUREMENTS response that stand before its signature. -/
def State.measurementFields (s : State) (bs : List Nat) : Bytes :=
  leBytes 1 bs.length ++ leBytes 3 (bs.flatMap s.measurementBlock).length ++ bs.flatMap s.measurementBlock
    ++ drawBytes s.draw.1 32 ++ leBytes 2 0

/-- The blocks stand where DSP0274 puts them. -/
theorem State.measurementFields_places (s : State) (bs : List Nat) (p1 : Nat) (tail : Bytes) :
    let body := leBytes 1 p1 ++ leBytes 1 0 ++ (s.measurementFields bs ++ tail)
    bytesAt body 2 1 = leBytes 1 bs.length ∧
      bytesAt body 6 (bs.flatMap s.measurementBlock).length = bs.flatMap s.measurementBlock := by
  intro body
  constructor
  · have placed : body = (leBytes 1 p1 ++ leBytes 1 0) ++ (leBytes 1 bs.length ++ (leBytes 3 (bs.flatMap s.measurementBlock).length ++
        bs.flatMap s.measurementBlock ++ drawBytes s.draw.1 32 ++ leBytes 2 0 ++ tail)) := by
      simp only [body, State.measurementFields, List.append_assoc]
    rw [placed]
    exact bytesAt_append (by simp) (leBytes_length _ _)
  · have placed : body = (leBytes 1 p1 ++ leBytes 1 0 ++ leBytes 1 bs.length ++ leBytes 3 (bs.flatMap s.measurementBlock).length) ++
        (bs.flatMap s.measurementBlock ++ (drawBytes s.draw.1 32 ++ leBytes 2 0 ++ tail)) := by
      simp only [body, State.measurementFields, List.append_assoc]
    rw [placed]
    exact bytesAt_append (by simp) rfl

section
variable {slot index : Nat} {signed : Bool} {nonce : BitVec 256}
  (takes : SpdmTakes s (.getMeasurements m slot index signed nonce) m false .anywhere t)
include takes

theorem getMeasurements_answers {bs : List Nat} (asked : measurementsAsked index = some bs) (drbg : t.drbgReady = true)
    (known : signed = false ∨ slot = 0) :
    ∃ body v, Answers (.getMeasurements m slot index signed nonce) s m .anywhere 0x60 body v ∧
      bytesAt body 2 1 = leBytes 1 bs.length ∧
      bytesAt body 6 (bs.flatMap t.measurementBlock).length = bs.flatMap t.measurementBlock := by
  have usable : ¬ (signed && slot != 0) = true := by
    rcases known with plain | zero
    · rw [plain]
      simp
    · rw [zero]
      simp
  cases signed with
  | false =>
    refine ⟨leBytes 1 (if index == 0 then 6 else 0) ++ leBytes 1 0 ++ (t.measurementFields bs ++ []), t.draw.2, takes.answers rfl ?_,
      t.measurementFields_places bs _ _⟩
    dsimp only
    rw [if_neg usable, asked]
    dsimp only
    rw [drbg, Bool.not_true, if_neg Bool.false_ne_true, if_neg Bool.false_ne_true, List.append_nil]
    rfl
  | true =>
    obtain ⟨sig, v, response⟩ := t.draw.2.signedResp_eq (.getMeasurements m slot index true nonce) m.conn 0x60
      (if index == 0 then 6 else 0) 0 (t.measurementFields bs)
    refine ⟨leBytes 1 (if index == 0 then 6 else 0) ++ leBytes 1 0 ++ (t.measurementFields bs ++ sig), v, takes.answers rfl ?_,
      t.measurementFields_places bs _ _⟩
    dsimp only
    rw [if_neg usable, asked]
    dsimp only
    rw [drbg, Bool.not_true, if_neg Bool.false_ne_true, if_pos rfl]
    exact response

theorem getMeasurements_otherSlot (asks : signed = true) (other : slot ≠ 0) :
    Answers (.getMeasurements m slot index signed nonce) s m .anywhere 0x7F (leBytes 1 errUnsupported ++ leBytes 1 0xE0) t :=
  takes.answers rfl (by
    dsimp only
    rw [asks, Bool.true_and, if_pos (bne_iff_ne.mpr other)]
    rfl)

end

end

/-- Settles O54: each request that the responder takes has its own answer, with its fields in their places. -/
theorem spdmRequestsAreAnswered : Obligations.SpdmRequestsAreAnswered := by
  unfold Obligations.SpdmRequestsAreAnswered
  intro s t m slot off len index code signed nonce bs x
  refine ⟨getVersion_answers, fun version takes => ⟨_, getCapabilities_answers takes version, capabilitiesBody_flags⟩,
    fun caps takes => negotiateAlgorithms_answers takes caps, getDigests_answers,
    fun takes => ⟨fun zero inside => ?_, getCertificate_otherSlot takes⟩,
    fun drbg takes => challenge_answers takes drbg, fun takes => ⟨getMeasurements_answers takes, getMeasurements_otherSlot takes⟩,
    fun takes => takes.answers rfl rfl⟩
  subst zero
  exact getCertificate_answers takes inside

end Sys2Proof.Machine
end

section
/-! PROOF. Obligation O55: SPDM sessions. -/
namespace Sys2Proof.Machine

/-- A response without fields is two zero parameters. -/
theorem spdmResp_bare (code p1 p2 : Nat) : spdmResp code p1 p2 [] = .now code (leBytes 1 p1 ++ leBytes 1 p2) := by
  rw [spdmResp_eq, List.append_nil]

theorem spdmResp_empty (code : Nat) : spdmResp code 0 0 [] = .now code (leBytes 2 0) := by rw [spdmResp_bare, leBytes_two_zero]

theorem State.noteSession_spdm (s : State) (c : Conn) : (s.noteSession c).spdm = s.spdm := by
  cases c <;> rfl

/-! ### KEY_EXCHANGE (R211, R213) -/

/-- The response names the session, and the session's entry is made. -/
theorem State.openSession_effect (s : State) (i : Instr) (m : SpdmCtx) (k : KexReq) (g : Option Nat) :
    ∃ b v z, s.openSession i m k g = (.now 0x64 b, v) ∧ bytesAt b 2 2 = leBytes 2 s.spdm.nextSession ∧
      v.spdm.sessions.find s.spdm.nextSession = some z ∧ z.conn = m.conn ∧ z.stage = .exchanged ∧ z.gdid = g ∧
      z.mutAuth = k.mutAuth := by
  refine ⟨_, _, _, rfl, ?_, Map.find_put_self _ _ _, rfl, rfl, rfl, rfl⟩
  simp only [List.append_assoc]
  rw [← List.append_assoc (leBytes 1 10)]
  exact bytesAt_append (by simp) (leBytes_length _ _)

theorem keyExchange_answers {s t : State} {m : SpdmCtx} {k : KexReq} (takes : SpdmTakes s (.keyExchange m k) m false .anywhere t)
    (outside : m.session = none) (slot : k.slot = 0) (ring : t.wrongRing m.conn (t.tenantGdid k) = false)
    (held : ∀ d, (if k.mutAuth then t.tenantGdid k else none) = some d → (t.ldiOfGdid d).isSome = true)
    (share : Config.p384Valid k.share = true) (room : t.sessionsFull (if k.mutAuth then t.tenantGdid k else none) = false)
    (drbg : t.drbgReady = true) :
    ∃ b v z, Answers (.keyExchange m k) s m .anywhere 0x64 b v ∧ bytesAt b 2 2 = leBytes 2 t.spdm.nextSession ∧
      v.spdm.sessions.find t.spdm.nextSession = some z ∧ z.conn = m.conn ∧ z.stage = .exchanged ∧
      z.gdid = (if k.mutAuth then t.tenantGdid k else none) ∧ z.mutAuth = k.mutAuth := by
  obtain ⟨b, v, z, opened, names, entry⟩ := (t.noteSession m.conn).openSession_effect (.keyExchange m k) m k
    (if k.mutAuth then t.tenantGdid k else none)
  rw [State.noteSession_spdm] at names entry
  refine ⟨b, v, z, takes.answers rfl ?_, names, entry⟩
  dsimp only
  rw [outside, Option.isSome_none, if_neg Bool.false_ne_true, slot, if_neg (by decide), ring, if_neg Bool.false_ne_true]
  rw [if_neg, share, Bool.not_true, if_neg Bool.false_ne_true, room, if_neg Bool.false_ne_true, drbg, Bool.not_true,
    if_neg Bool.false_ne_true]
  · exact opened
  · generalize (if k.mutAuth then t.tenantGdid k else none) = g at held ⊢
    cases g with
    | none => exact Bool.false_ne_true
    | some d =>
      intro lost
      exact absurd (held d rfl) (by rw [Option.isNone_iff_eq_none.mp lost]; decide)

/-! ### The handshake of a session (R208, R211) -/

/-- The session that holds the requester's key. -/
def Session.delivered (x : Session) (chain : Bytes) (leaf : Digest × Bytes) : Session :=
  { x with leaf := some leaf, transcript := x.transcript ++ bvBytes 48 (Config.sha384 chain) }

section
variable {s t : State} {m : SpdmCtx} {sid : Nat} {x : Session} (opening : t.opening m sid = some x)
include opening

theorem finish_opens {proof : Bytes} (takes : SpdmTakes s (.finish m sid proof) m false .handshake t) (ok : t.finishOk x proof = true) :
    Answers (.finish m sid proof) s m .handshake 0x65 (leBytes 2 0) ((t.noteSession m.conn).setSession sid
      ((t.noteSession m.conn).openedSession x proof)) :=
  takes.answers rfl (by
    dsimp only
    rw [opening]
    dsimp only
    rw [ok, if_pos rfl, spdmResp_empty])

theorem finish_ends {proof : Bytes} (takes : SpdmTakes s (.finish m sid proof) m false .handshake t) (bad : t.finishOk x proof = false) :
    Answers (.finish m sid proof) s m .handshake 0x7F (leBytes 1 errInvalid ++ leBytes 1 0) ((t.noteSession m.conn).endAfter sid) :=
  takes.answers rfl (by
    dsimp only
    rw [opening]
    dsimp only
    rw [bad, if_neg Bool.false_ne_true]
    rfl)

theorem encapRequest_answers (takes : SpdmTakes s (.getEncapsulatedRequest m sid) m false .handshake t) (mutual_ : x.mutAuth = true) :
    ∃ b, Answers (.getEncapsulatedRequest m sid) s m .handshake 0x6A b t :=
  ⟨_, takes.answers rfl (by
    rw [opening]
    dsimp only
    rw [mutual_, if_pos rfl, spdmResp_eq])⟩

theorem deliver_answers {chain : Bytes} {leaf : Digest × Bytes}
    (takes : SpdmTakes s (.deliverEncapsulatedResponse m sid chain) m false .handshake t) (mutual_ : x.mutAuth = true)
    (key : Config.leafKey chain = some leaf) (own : t.tkdMatches x leaf.1 = true) :
    ∃ v z, Answers (.deliverEncapsulatedResponse m sid chain) s m .handshake 0x6B (leBytes 1 1 ++ leBytes 1 0) v ∧
      v.spdm.sessions.find sid = some z ∧ z.leaf = some leaf := by
  refine ⟨(t.noteSession m.conn).setSession sid (x.delivered chain leaf), x.delivered chain leaf, takes.answers rfl ?_,
    Map.find_put_self _ _ _, rfl⟩
  rw [opening]
  dsimp only
  rw [if_neg (by rw [mutual_]; decide), key]
  dsimp only
  rw [own, if_pos rfl, spdmResp_bare]
  rfl

end

/-! ### Open sessions (R207, R212, R213, R254) -/

section
variable {s t : State} {m : SpdmCtx} {sid : Nat} (carried : m.session = some sid)
include carried

theorem keyUpdate_one (takes : SpdmTakes s (.keyUpdate m 1) m false .session t) :
    Answers (.keyUpdate m 1) s m .session 0x69 (leBytes 1 1 ++ leBytes 1 0)
      (t.setSession sid { t.session sid with req := (t.session sid).req.update }) :=
  takes.answers rfl (by
    dsimp only
    rw [carried, Option.getD_some, if_pos (by decide), spdmResp_bare])

theorem keyUpdate_two (takes : SpdmTakes s (.keyUpdate m 2) m false .session t) :
    Answers (.keyUpdate m 2) s m .session 0x69 (leBytes 1 2 ++ leBytes 1 0)
      (t.setSession sid { t.session sid with req := (t.session sid).req.update, rsp := (t.session sid).rsp.update }) :=
  takes.answers rfl (by
    dsimp only
    rw [carried, Option.getD_some, if_neg (by decide), if_pos (by decide), spdmResp_bare])

theorem endSession_answers (takes : SpdmTakes s (.endSession m) m false .session t) :
    Answers (.endSession m) s m .session 0x6C (leBytes 2 0) ((t.noteSession m.conn).endAfter sid) :=
  takes.answers rfl (by
    rw [carried, Option.getD_some, spdmResp_empty])

theorem vendorRequest_taken {std vendor : Nat} {body : Bytes}
    (takes : SpdmTakes s (.vendorDefinedRequest m std vendor body) m false .session t) (block : t.isBlockCommand m std vendor = true)
    (whole : 256 ≤ body.length) (free : (t.session sid).inbox = none) (idle : (t.session sid).running = false) :
    exec (.vendorDefinedRequest m std vendor body) s = .next ((t.setSession sid { t.session sid with inbox := some body }).drainTurns) := by
  obtain ⟨up, taken, -⟩ := id takes
  have queued : respVendor m std vendor body t = (.later none, t.setSession sid { t.session sid with inbox := some body }) := by
    unfold respVendor
    dsimp only
    rw [block, Bool.not_true, if_neg Bool.false_ne_true, takes.checked]
    rw [carried, Option.getD_some, if_neg (Nat.not_lt_of_le whole), free, idle, if_neg (by decide)]
    rfl
  refine (nextIf_of up).trans ?_
  rw [taken]
  dsimp only
  rw [queued]
  rfl

end

theorem keyUpdate_three {s t : State} {m : SpdmCtx} (takes : SpdmTakes s (.keyUpdate m 3) m false .session t) :
    Answers (.keyUpdate m 3) s m .session 0x69 (leBytes 1 3 ++ leBytes 1 0) t :=
  takes.answers rfl (by
    dsimp only
    rw [if_neg (by decide), if_neg (by decide), if_pos (by decide), spdmResp_bare])

theorem heartbeat_answers {s t : State} {m : SpdmCtx} (takes : SpdmTakes s (.heartbeat m) m false .session t) :
    Answers (.heartbeat m) s m .session 0x68 (leBytes 2 0) t := takes.answers rfl (by rw [spdmResp_empty])

/-- An ended session has no entry. -/
theorem State.endSession_gone (s : State) (sid : Nat) : (s.endSession sid).spdm.sessions.find sid = none := by
  unfold State.endSession
  split
  · exact Map.find_del_self _ _
  · next none_ => exact none_

theorem execSessionHeartbeatTimeout_of {s : State} {sid : Nat} {x : Session} (up : s.loomUp = true)
    (held : s.spdm.sessions.find sid = some x) : execSessionHeartbeatTimeout sid s =
      .next ((s.advanceTo (x.lastMsg + 10 * secTicks)).internalEntry.endSession sid) := by
  unfold execSessionHeartbeatTimeout
  rw [held]
  exact nextIf_of up

/-- Settles O55: a session is made, opened, renewed and ended by its messages, as R207 to R213 and R254 say. -/
theorem sessionRequestsTakeEffect : Obligations.SessionRequestsTakeEffect := by
  unfold Obligations.SessionRequestsTakeEffect
  intro s t m k sid std vendor x body chain leaf g y
  refine ⟨keyExchange_answers, fun takes opening => ⟨finish_opens opening takes, finish_ends opening takes⟩,
    fun takes opening => encapRequest_answers opening takes, fun takes opening => deliver_answers opening takes,
    fun carried => ⟨heartbeat_answers, keyUpdate_one carried, keyUpdate_two carried, keyUpdate_three, endSession_answers carried,
      vendorRequest_taken carried⟩, fun up held => ?_⟩
  exact ⟨_, execSessionHeartbeatTimeout_of up held, State.endSession_gone _ sid⟩

end Sys2Proof.Machine
end

section
/-! PROOF. Obligation O56: SPDM chunks and the MCTP endpoint. -/
namespace Sys2Proof.Machine

/-! ### Chunks (R207) -/

section
variable {s t : State} {m : SpdmCtx} {handle : Nat} {chunk : Bytes}

theorem chunkSend_first (small : chunk.length ≤ 65536) (takes : SpdmTakes s (.chunkSend m handle 0 false chunk) m false .chunked t) :
    Answers (.chunkSend m handle 0 false chunk) s m .chunked 0x05 (leBytes 1 0 ++ leBytes 1 (handle % 256) ++ (leBytes 2 0 ++ []))
      (t.setConn m.conn { t.spdmConn m.conn with chunkIn := some (handle, 1, chunk) }) :=
  takes.answers rfl (by
    have fits : ¬ largestMessage < chunk.length := Nat.not_lt_of_le small
    dsimp only
    rw [if_pos (by decide)]
    dsimp only
    rw [List.nil_append, if_neg fits, if_neg Bool.false_ne_true]
    rfl)

section
variable {n : Nat} (takes : SpdmTakes s (.chunkSend m handle (n + 1) false chunk) m false .chunked t)
include takes

theorem chunkSend_next {b : Bytes} (held : (t.spdmConn m.conn).chunkIn = some (handle, n + 1, b))
    (small : b.length + chunk.length ≤ 65536) :
    Answers (.chunkSend m handle (n + 1) false chunk) s m .chunked 0x05
      (leBytes 1 0 ++ leBytes 1 (handle % 256) ++ (leBytes 2 (n + 1) ++ []))
      (t.setConn m.conn { t.spdmConn m.conn with chunkIn := some (handle, n + 2, b ++ chunk) }) :=
  takes.answers rfl (by
    have fits : ¬ largestMessage < (b ++ chunk).length := by
      rw [List.length_append]
      exact Nat.not_lt_of_le small
    dsimp only
    rw [if_neg (by simp), held]
    dsimp only
    rw [if_pos (by simp)]
    dsimp only
    rw [if_neg fits, if_neg Bool.false_ne_true]
    rfl)

/-- A chunk that does not follow the one held. -/
theorem chunkSend_stray (stray : ∀ c, (t.spdmConn m.conn).chunkIn ≠ some (handle, n + 1, c)) :
    Answers (.chunkSend m handle (n + 1) false chunk) s m .chunked 0x7F (leBytes 1 errInvalid ++ leBytes 1 0)
      (t.setConn m.conn { t.spdmConn m.conn with chunkIn := none }) :=
  takes.answers rfl (by
    dsimp only
    rw [if_neg (by simp)]
    generalize held : (t.spdmConn m.conn).chunkIn = c at stray
    match c with
    | none => rfl
    | some (h, k, b) =>
      have other : ¬ (h == handle && k == n + 1) = true := by
        intro same
        simp only [Bool.and_eq_true, beq_iff_eq] at same
        exact stray b (by rw [same.1, same.2])
      dsimp only
      rw [if_neg other]
      rfl)

end

theorem chunkGet_answers {seq : Nat} {b : Bytes} (takes : SpdmTakes s (.chunkGet m handle seq) m false .chunked t)
    (held : (t.spdmConn m.conn).chunkOut = some (handle, seq, b)) :
    ∃ body, Answers (.chunkGet m handle seq) s m .chunked 0x06 body (t.setConn m.conn
      { t.spdmConn m.conn with chunkOut := if (b.drop 1008).isEmpty then none else some (handle, seq + 1, b.drop 1008) }) :=
  ⟨_, takes.answers rfl (by
    dsimp only
    rw [held]
    dsimp only
    rw [if_pos (by simp)]
    rfl)⟩

end

/-! ### The MCTP endpoint (R456) -/

section
variable {s : State} (up : s.mctpUp = true)
include up

theorem execSetEndpointId_taken {eid : Nat} (some_ : eid ≠ 0) (single : eid ≠ 0xFF) : execSetEndpointId eid s =
    .next (({ s with link := { s.link with eid := eid } } : State).answerCtl 0x01 0x00 (leBytes 1 0 ++ leBytes 1 eid ++ leBytes 1 0)) := by
  unfold execSetEndpointId
  rw [nextIf_of up, if_neg (by simp [some_, single])]

theorem execSetEndpointId_refused {eid : Nat} (reserved : eid = 0 ∨ eid = 0xFF) :
    execSetEndpointId eid s = .next (s.answerCtl 0x01 0x02 []) := by
  unfold execSetEndpointId
  rw [nextIf_of up, if_pos (by simpa using reserved)]

end

/-- A packet is a transport header of 4 B and a unit at most. -/
theorem State.mctpPackets_short (s : State) (type : Nat) (body : Bytes) :
    ∀ p ∈ s.mctpPackets type body, ∃ x, p = .mgPacket x ∧ x.length ≤ 1028 := by
  intro p mem
  unfold State.mctpPackets at mem
  obtain ⟨i, -, rfl⟩ := List.mem_map.mp mem
  refine ⟨_, rfl, ?_⟩
  simp only [List.length_append, leBytes_length, List.length_take]
  omega

theorem State.answerCtl_out (s : State) (command completion : Nat) (rest : Bytes) :
    ∃ ps, (s.answerCtl command completion rest).out =
        s.out ++ .mgTx 0x00 (leBytes 1 0 ++ leBytes 1 command ++ leBytes 1 completion ++ rest) :: ps ∧
      ∀ p ∈ ps, ∃ x, p = .mgPacket x ∧ x.length ≤ 1028 :=
  ⟨_, s.emitAll_out _, s.mctpPackets_short _ _⟩

theorem State.mgmtWrite_tail (s : State) (b : Bytes) :
    ((s.mgmtWrite b).ring 68).tail = ((s.ring 68).tail + 1) % 2 ^ 32 := by
  unfold State.mgmtWrite
  dsimp only
  rw [State.setRing_ring]

/-- Settles O56: chunks are assembled and given out in order, and the MCTP endpoint answers and queues as R456 says. -/
theorem transportsTakeEffect : Obligations.TransportsTakeEffect := by
  unfold Obligations.TransportsTakeEffect
  intro s t m handle seq n chunk b eid type vendor cmdSet x
  refine ⟨chunkSend_first, fun takes => ⟨chunkSend_next takes, chunkSend_stray takes⟩, chunkGet_answers, fun up =>
    ⟨execSetEndpointId_taken up, execSetEndpointId_refused up, nextIf_of up, nextIf_of up, nextIf_of up, s.answerCtl_out eid type b⟩,
    fun slot ready room => ⟨?_, s.mgmtWrite_tail b⟩, fun none_ ready unnamed => ?_⟩
  · exact (if_pos slot).trans (nextIf_of (by rw [ready, room]; rfl))
  · exact (if_neg (by rw [none_]; decide)).trans (nextIf_of (by rw [ready, unnamed]; rfl))

end Sys2Proof.Machine
end

section
/-! PROOF. Obligation O57: TDISP, the state machine of each function. -/
namespace Sys2Proof.Machine

/-! ### Where TDISP and IDE_KM run (R332) -/

section
variable {s t : State} {i : Instr} {m : SpdmCtx} {resp f : State → Resp × State}

theorem State.pciAnswer_session (host : m.conn = .host 0) (placed : t.placeOk m .session = true) :
    t.pciAnswer i m f = t.answerSpdm i m false .session f := by
  have stage : (m.session.map (fun sid => (t.session sid).stage) == some .open_) = true := placed
  unfold State.pciAnswer
  rw [host, stage]
  rfl

theorem State.pciAnswer_nowhere (elsewhere : m.conn ≠ .host 0 ∨ m.session.map (fun sid => (t.session sid).stage) ≠ some .open_) :
    t.pciAnswer i m f = t.answerSpdm i m false .nowhere (fun s => (spdmError errUnsupported 0xFE, s)) := by
  unfold State.pciAnswer
  rw [if_neg]
  intro here
  simp only [Bool.and_eq_true, beq_iff_eq] at here
  exact elsewhere.elim (· here.1) (· here.2)

/-- A request of PCI-SIG in an open session of HOST ring 0. -/
theorem SpdmTakes.pci {u : State} {code : Nat} {body : Bytes} (takes : SpdmTakes s i m false .session t) (host : m.conn = .host 0)
    (row : exec i s = s.spdmRow i m (fun s => s.pciAnswer i m f)) (own : f t = (.now code body, u)) :
    Answers i s m .session code body u := by
  obtain ⟨-, -, -, -, placed, -⟩ := id takes
  exact takes.answers_as row (State.pciAnswer_session host placed) own

/-- A TDISP request of a function that exists, there. -/
theorem SpdmTakes.tdisp {u : State} {func code : Nat} {body : Bytes} (takes : SpdmTakes s i m false .session t)
    (host : m.conn = .host 0) (low : 1 ≤ func) (high : func ≤ 63)
    (row : exec i s = s.spdmRow i m (fun s => s.tdispAnswer i m func f)) (own : f t = (.now code body, u)) :
    Answers i s m .session code body u := by
  have exists_ : ¬ (func == 0 || decide (63 < func)) = true := by
    simp only [Bool.or_eq_true, beq_iff_eq, decide_eq_true_eq, not_or, Nat.not_lt]
    exact ⟨Nat.ne_of_gt low, high⟩
  exact takes.pci host row (by rw [if_neg exists_, own])

/-- Elsewhere each of them is refused. -/
theorem SpdmTakes.elsewhere (takes : SpdmTakes s i m false .nowhere t)
    (elsewhere : m.conn ≠ .host 0 ∨ m.session.map (fun sid => (t.session sid).stage) ≠ some .open_)
    (row : exec i s = s.spdmRow i m (fun s => s.pciAnswer i m f)) :
    Answers i s m .nowhere 0x7F (leBytes 1 errUnsupported ++ leBytes 1 0xFE) t :=
  takes.answers_as row (State.pciAnswer_nowhere elsewhere) rfl

end

/-! ### The requests of the state machine (R333, R334) -/

section
variable {s t : State} {m : SpdmCtx} {func : Nat} (host : m.conn = .host 0) (low : 1 ≤ func) (high : func ≤ 63)
include host low high

theorem lockInterface_locks {l : Nat} (takes : SpdmTakes s (.lockInterfaceRequest m func) m false .session t)
    (unlocked : (t.tdi func).state = .unlocked) (bound : t.funcActive func = some l) (ready : t.drbgReady = true) :
    Answers (.lockInterfaceRequest m func) s m .session 0x7E (tdispBody 0x03 func (drawBytes t.draw.1 32))
      (t.draw.2.setTdi func
        { t.tdi func with state := .locked, nonce := BitVec.ofNat 256 (leNat (drawBytes t.draw.1 32)) }) :=
  takes.tdisp host low high rfl (by
    dsimp only
    rw [unlocked, bound, ready]
    rfl)

theorem lockInterface_refused (takes : SpdmTakes s (.lockInterfaceRequest m func) m false .session t)
    (held : (t.tdi func).state ≠ .unlocked) :
    Answers (.lockInterfaceRequest m func) s m .session 0x7E (tdispBody 0x7F func (leBytes 4 tdispState ++ leBytes 4 0)) t :=
  takes.tdisp host low high rfl (by
    dsimp only
    rw [if_pos (by rw [bne_iff_ne.mpr held]; rfl)]
    rfl)

theorem interfaceReport_answers (takes : SpdmTakes s (.getDeviceInterfaceReport m func) m false .session t)
    (bound : (t.tdi func).state = .locked ∨ (t.tdi func).state = .run) :
    Answers (.getDeviceInterfaceReport m func) s m .session 0x7E
      (tdispBody 0x04 func (leBytes 2 (t.tdispReport func).length ++ leBytes 2 0 ++ t.tdispReport func)) t :=
  takes.tdisp host low high rfl (by
    dsimp only
    rw [if_pos (by simpa using bound)]
    rfl)

end

theorem State.startOk_iff {t : State} {func : Nat} {nonce : BitVec 256} : t.startOk func nonce = true ↔
    (t.tdi func).state = .locked ∧ (t.tdi func).nonce = nonce ∧ (t.tdi func).stream ≠ none ∧ (t.tdi func).active ≠ [] ∧
      ∃ l, t.funcLdi func = some l ∧ stSealed.contains (t.dom l).state = true := by
  unfold State.startOk
  cases t.funcLdi func with
  | none => simp
  | some l =>
    simp only [Bool.and_eq_true, beq_iff_eq, Option.isSome_iff_ne_none, Bool.not_eq_true', List.isEmpty_eq_false_iff,
      Option.some.injEq, exists_eq_left', and_assoc]

section
variable {s t : State} {m : SpdmCtx} {func : Nat} {nonce : BitVec 256} (host : m.conn = .host 0) (low : 1 ≤ func) (high : func ≤ 63)
  (takes : SpdmTakes s (.startInterfaceRequest m func nonce) m false .session t)
include host low high takes

theorem startInterface_starts (ok : t.startOk func nonce = true) :
    Answers (.startInterfaceRequest m func nonce) s m .session 0x7E (tdispBody 0x06 func [])
      (t.setTdi func { t.tdi func with state := .run }) :=
  takes.tdisp host low high rfl (by
    dsimp only
    rw [if_pos ok]
    rfl)

theorem startInterface_refused (bad : ¬ t.startOk func nonce = true) :
    Answers (.startInterfaceRequest m func nonce) s m .session 0x7E (tdispBody 0x7F func (leBytes 4 tdispState ++ leBytes 4 0)) t :=
  takes.tdisp host low high rfl (by
    dsimp only
    rw [if_neg bad]
    rfl)

end

theorem State.tdiUnlock_unlocked {s : State} {func : Nat} (unlocked : (s.tdi func).state = .unlocked) : s.tdiUnlock func = s :=
  if_pos (by rw [unlocked]; rfl)

theorem State.tdiStop_unlocked {s : State} {func : Nat} (unlocked : (s.tdi func).state = .unlocked) : s.tdiStop func = s := by
  unfold State.tdiStop
  dsimp only
  rw [State.tdiUnlock_unlocked unlocked, unlocked]
  exact if_neg (by decide)

/-- Settles O57: a TDISP request of HOST ring 0's open session is answered by its own rule, and every request of TDISP and
IDE_KM elsewhere with UnsupportedRequest. -/
theorem interfaceRequestsTakeEffect : Obligations.InterfaceRequestsTakeEffect := by
  unfold Obligations.InterfaceRequestsTakeEffect
  intro s t m func code l vendor stream keySet nonce
  dsimp only
  refine ⟨fun host low high => ⟨?_, ?_, ?_, ?_, ?_, ?_, ?_, ?_⟩, fun elsewhere i listed takes => ?_⟩
  · exact fun takes => takes.tdisp host low high rfl rfl
  · exact fun takes => ⟨_, takes.tdisp host low high rfl rfl⟩
  · refine fun takes => ⟨fun unlocked bound ready => ?_, lockInterface_refused host low high takes⟩
    exact ⟨_, _, _, lockInterface_locks host low high takes unlocked bound ready, State.setTdi_tdi .., rfl, rfl, rfl, rfl⟩
  · exact interfaceReport_answers host low high
  · exact fun takes => takes.tdisp host low high rfl rfl
  · refine fun takes => ⟨fun locked own streamed active bound runs => ?_, fun bad => ?_⟩
    · refine startInterface_starts host low high takes (State.startOk_iff.mpr ⟨locked, own, streamed, active, l, bound, ?_⟩)
      rcases runs with runs | runs <;> rw [runs] <;> rfl
    · refine startInterface_refused host low high takes fun ok => ?_
      obtain ⟨locked, own, -⟩ := State.startOk_iff.mp ok
      exact bad.elim (· locked) (· own)
  · exact fun takes => ⟨takes.tdisp host low high rfl rfl, State.tdiStop_unlocked⟩
  · exact fun takes => takes.pci host rfl rfl
  · simp only [List.mem_cons, List.not_mem_nil, or_false] at listed
    rcases listed with rfl | rfl | rfl | rfl | rfl | rfl | rfl | rfl | rfl | rfl | rfl | rfl | rfl <;>
      exact takes.elsewhere elsewhere rfl

end Sys2Proof.Machine
end

section
/-!
PROOF. What the ends of domains and SAs leave: event bits that are up, and each function whose TDI is not locked and does not run
(R333).
-/
namespace Sys2Proof.Machine

/-- CONFIG_LOCKED or RUN. -/
def TdiState.bound (st : TdiState) : Bool := st == .locked || st == .run

theorem TdiState.bound_iff {st : TdiState} : st.bound = true ↔ st = .locked ∨ st = .run := by
  unfold TdiState.bound
  rw [Bool.or_eq_true, beq_iff_eq, beq_iff_eq]

/-- What an abort leaves. -/
structure State.EndsKeep (s t : State) : Prop where
  events : s.EventsStay t
  tdi : ∀ f, (s.tdi f).state.bound = false → t.tdi f = s.tdi f

theorem State.EndsKeep.refl (s : State) : s.EndsKeep s := ⟨State.EventsStay.refl s, fun _ _ => rfl⟩

theorem State.EndsKeep.trans {s t u : State} (h : s.EndsKeep t) (k : t.EndsKeep u) : s.EndsKeep u where
  events := h.events.trans k.events
  tdi f free := by
    have first := h.tdi f free
    exact (k.tdi f (by rw [first]; exact free)).trans first

theorem Touches.tdi {F : List Part} {s t : State} (h : Touches F s t) (n : Part.link ∉ F) (f : Nat) : t.tdi f = s.tdi f := by
  unfold State.tdi
  rw [h.link.resolve_left n]

theorem Touches.endsKeep {F : List Part} {s t : State} (h : Touches F s t) (events : Part.events ∉ F) (link : Part.link ∉ F) :
    s.EndsKeep t := ⟨h.eventsStay events, fun f _ => h.tdi link f⟩

theorem State.endsKeep_foldl {α : Type} (f : State → α → State) (keeps : ∀ s a, State.EndsKeep s (f s a)) (l : List α)
    (s : State) : s.EndsKeep (l.foldl f s) := by
  induction l generalizing s with
  | nil => exact State.EndsKeep.refl s
  | cons a l ih => exact (keeps s a).trans (ih _)

/-- A TDI that is locked or runs goes to ERROR. -/
theorem State.tdiError_bound {s : State} {func : Nat} (bound : (s.tdi func).state.bound = true) :
    s.tdiError func = s.setTdi func { s.tdi func with state := .error } := by
  have state : (s.link.tdis.findD func {}).state = .locked ∨ (s.link.tdis.findD func {}).state = .run := TdiState.bound_iff.mp bound
  unfold State.tdiError
  rcases state with locked | run
  · simp only [locked]
    rfl
  · simp only [run]
    rfl

theorem State.tdiError_free {s : State} {func : Nat} (free : (s.tdi func).state.bound = false) : s.tdiError func = s := by
  change (s.link.tdis.findD func {}).state.bound = false at free
  unfold State.tdiError
  dsimp only
  split
  · next locked => rw [locked] at free; cases free
  · next run => rw [run] at free; cases free
  · rfl

theorem State.endsKeep_tdiError (s : State) (func : Nat) : s.EndsKeep (s.tdiError func) := by
  refine ⟨(s.tdiError_touches func).eventsStay (by decide), fun f free => ?_⟩
  cases bound : (s.tdi func).state.bound with
  | false => rw [State.tdiError_free bound]
  | true =>
    have other : f ≠ func := fun same => by
      rw [same, bound] at free
      cases free
    rw [State.tdiError_bound bound]
    exact s.setTdi_tdi_other func _ other

/-! ### Aborts -/

theorem State.endsKeep_markAborted (s : State) (l : Nat) : s.EndsKeep (s.markAborted l) := by
  have marked (u : State) (d : Domain) (fs : List Nat) : u.EndsKeep (fs.foldl State.tdiError (u.setDom l d)) :=
    State.EndsKeep.trans (t := u.setDom l d) ⟨fun _ up => up, fun _ _ => rfl⟩ (State.endsKeep_foldl _ State.endsKeep_tdiError fs _)
  exact (((s.overtake_touches l).endsKeep (by decide) (by decide)).trans (marked _ _ _)).trans
    ((State.abortPulls_touches _ l).endsKeep (by decide) (by decide))

theorem State.endsKeep_restAbort (s : State) (a : DueAbort) : s.EndsKeep (s.restAbort a) :=
  ⟨s.eventsStay_restAbort a, fun f _ => (s.restAbort_touches a).tdi (by decide) f⟩

theorem State.endsKeep_noteAbort (s : State) (a : DueAbort) : s.EndsKeep (s.noteAbort a) := ⟨fun _ up => up, fun _ _ => rfl⟩

theorem State.endsKeep_abort (s : State) (l cause : Nat) (origin : Bool) : s.EndsKeep (s.abort l cause origin) := by
  have marked : s.EndsKeep (s.settle.markAborted l) :=
    (s.settle_touches.endsKeep (by decide) (by decide)).trans (State.endsKeep_markAborted _ _)
  have closed (u : State) (a : DueAbort) : u.EndsKeep (u.closeAbort a) := (u.closeAbort_touches a).endsKeep (by decide) (by decide)
  unfold State.abort
  dsimp only
  split
  · split
    · exact (s.sendSquall_touches l cause).endsKeep (by decide) (by decide)
    · exact State.EndsKeep.refl s
  · split
    · exact State.EndsKeep.refl s
    · split
      · exact ((marked.trans (closed _ _)).trans ((State.signalAbort_touches _ _).endsKeep (by decide) (by decide))).trans
          (State.endsKeep_restAbort _ _)
      · split
        · exact ((marked.trans (closed _ _)).trans (State.endsKeep_restAbort _ _)).trans (State.endsKeep_noteAbort _ _)
        · exact marked.trans (State.endsKeep_noteAbort _ _)

/-! ### Ends of SAs -/

theorem State.endsKeep_endSa (s : State) (p cause : Nat) (st : SaState) : s.EndsKeep (s.endSa p cause st) := by
  unfold State.endSa
  split
  · have before : s.EndsKeep (s.internalEntry.loseAtomics p) :=
      (s.internalEntry_touches.endsKeep (by decide) (by decide)).trans
        ((State.loseAtomics_touches _ p).endsKeep (by decide) (by decide))
    have written (u : State) (a : Sa) : u.EndsKeep (u.setSa p a) := ⟨fun _ up => up, fun _ _ => rfl⟩
    have gone (u : State) : u.EndsKeep ((u.endMigrations p).quarantinePeerGone p) :=
      ((u.endMigrations_touches p).endsKeep (by decide) (by decide)).trans
        ((State.quarantinePeerGone_touches _ p).endsKeep (by decide) (by decide))
    exact ((before.trans (written _ _)).trans (gone _)).trans
      (State.endsKeep_foldl _ (fun s l => s.endsKeep_abort l cause true) _ _)
  · exact State.EndsKeep.refl s

theorem State.endsKeep_endExhausted (s : State) (p : Nat) : s.EndsKeep (s.endExhausted p) := by
  unfold State.endExhausted State.loseSa
  split
  · split
    · exact (s.endsKeep_endSa p 0x05 .lost).trans ((State.saRecord_touches _ _ _ _ _).endsKeep (by decide) (by decide))
    · exact State.EndsKeep.refl s
  · exact State.EndsKeep.refl s

theorem State.endsKeep_endSpent (s : State) : s.EndsKeep s.endSpent := State.endsKeep_foldl _ State.endsKeep_endExhausted _ s

theorem State.abortsStay_endSpent (s : State) : s.AbortsStay s.endSpent :=
  State.abortsStay_foldl _ (fun s p => by
    unfold State.endExhausted
    split
    · exact s.abortsStay_loseSa p
    · exact State.AbortsStay.refl s) _ s

end Sys2Proof.Machine
end

section
/-! PROOF. Obligation O58: IDE keys and the key port. -/
namespace Sys2Proof.Machine

/-! ### Records on `KP_` (R337, R458) -/

/-- The records that no acknowledgement has completed. -/
def State.kpCount (s : State) : Nat := s.link.kpOut.length + s.link.kpWait.length

theorem State.kpSend_kpCount (s : State) (r : KpRec) : (s.kpSend r).kpCount = s.kpCount + 1 := by
  unfold State.kpSend State.kpCount
  dsimp only
  split
  · rw [State.emit_link, List.length_append, List.length_singleton, Nat.add_right_comm]
  · rw [List.length_append, List.length_singleton, Nat.add_assoc]

theorem State.kpSend_tdi (s : State) (r : KpRec) (f : Nat) : (s.kpSend r).tdi f = s.tdi f := by
  unfold State.kpSend
  dsimp only
  split <;> rfl

section
variable {α : Type} (record : α → KpRec) (l : List α) (s : State)

theorem State.foldl_kpSend_kpCount : (l.foldl (fun s x => s.kpSend (record x)) s).kpCount = s.kpCount + l.length := by
  induction l generalizing s with
  | nil => rfl
  | cons a l ih => rw [List.foldl_cons, ih, State.kpSend_kpCount, List.length_cons, Nat.add_assoc, Nat.add_comm 1]

theorem State.foldl_kpSend_tdi (f : Nat) : (l.foldl (fun s x => s.kpSend (record x)) s).tdi f = s.tdi f := by
  induction l generalizing s with
  | nil => rfl
  | cons a l ih => rw [List.foldl_cons, ih, State.kpSend_tdi]

end

theorem Touches.kpCount {F : List Part} {s t : State} (h : Touches F s t) (n : Part.link ∉ F) : t.kpCount = s.kpCount := by
  unfold State.kpCount
  rw [h.link.resolve_left n]

theorem Touches.keySlot {F : List Part} {s t : State} (h : Touches F s t) (n : Part.keys ∉ F) (i : Nat) : t.keySlot i = s.keySlot i := by
  unfold State.keySlot
  rw [h.keys.resolve_left n]

/-! ### Requests of IDE_KM whose answer waits for `KP_` (R335, R336) -/

section
variable {s t u : State} {i : Instr} {m : SpdmCtx} {f : State → Resp × State} {n : Option Nat}
  (takes : SpdmTakes s i m false .session t) (host : m.conn = .host 0)
include takes host

theorem SpdmTakes.pci_later (row : exec i s = s.spdmRow i m (fun s => s.pciAnswer i m f)) (own : f t = (.later n, u)) :
    exec i s = .next u := by
  obtain ⟨-, -, -, -, placed, -⟩ := id takes
  rw [row, takes.row, State.pciAnswer_session host placed, takes.checked, own]
  rfl

theorem SpdmTakes.tdisp_later {func : Nat} (low : 1 ≤ func) (high : func ≤ 63)
    (row : exec i s = s.spdmRow i m (fun s => s.tdispAnswer i m func f)) (own : f t = (.later n, u)) : exec i s = .next u := by
  have exists_ : ¬ (func == 0 || decide (63 < func)) = true := by
    simp only [Bool.or_eq_true, beq_iff_eq, decide_eq_true_eq, not_or, Nat.not_lt]
    exact ⟨Nat.ne_of_gt low, high⟩
  exact takes.pci_later host row (by rw [if_neg exists_, own])

end

/-- The function takes the stream, and the keys' records go out. -/
def State.deliverKeys (s : State) (m : SpdmCtx) (func stream keySet l : Nat) : State :=
  let k := s.ideKeys l 6
  (k.2.setTdi func { k.2.tdi func with stream := some stream }).sendInstalls func stream keySet
    (m.conn, m.session, vdmBody s.otp.integId func (k.1.flatMap (fun x => keyBytes x.2))) k.1

section
variable {s t : State} {m : SpdmCtx} {func stream keySet l : Nat} (host : m.conn = .host 0) (low : 1 ≤ func) (high : func ≤ 63)

theorem State.deliverKeys_tdi (t : State) : (t.deliverKeys m func stream keySet l).tdi func =
    { t.tdi func with stream := some stream } := by
  unfold State.deliverKeys State.sendInstalls
  rw [State.foldl_kpSend_tdi, State.setTdi_tdi, (t.ideKeys_touches l 6).tdi (by decide)]

theorem State.deliverKeys_kpCount {t : State} (six : (t.ideKeys l 6).1.length = 6) :
    (t.deliverKeys m func stream keySet l).kpCount = t.kpCount + 6 := by
  unfold State.deliverKeys State.sendInstalls
  rw [State.foldl_kpSend_kpCount, List.length_zip, List.length_range, Nat.min_self, six]
  exact congrArg (· + 6) ((t.ideKeys_touches l 6).kpCount (by decide))

theorem State.deliverKeys_keySlot (t : State) (i : Nat) : (t.deliverKeys m func stream keySet l).keySlot i =
    (t.ideKeys l 6).2.keySlot i := by
  unfold State.deliverKeys
  exact (State.sendInstalls_touches _ _ _ _ _ _).keySlot (by decide) i

include host low high in
theorem ideKeyDelivery_delivers (takes : SpdmTakes s (.ideKeyDeliveryVdm m t.otp.integId func stream keySet) m false .session t)
    (bound : t.funcActive func = some l) (stream_ : stream ≤ 255) (set_ : keySet ≤ 1) (free : t.streamFree func stream = true)
    (ready : t.drbgReady = true) (six : (t.ideKeys l 6).1.length = 6) :
    exec (.ideKeyDeliveryVdm m t.otp.integId func stream keySet) s = .next (t.deliverKeys m func stream keySet l) :=
  takes.tdisp_later host low high rfl (by
    have fits : ¬ (decide (255 < stream) || decide (1 < keySet) || !t.streamFree func stream) = true := by
      rw [free, decide_eq_false (Nat.not_lt.mpr stream_), decide_eq_false (Nat.not_lt.mpr set_)]
      decide
    have all : ¬ (t.ideKeys l 6).1.length < 6 := by
      rw [six]
      decide
    dsimp only
    rw [if_neg (by rw [bne_self_eq_false]; decide), bound]
    dsimp only
    rw [if_neg fits, if_neg (by rw [ready]; decide), if_neg all]
    rfl)

end

/-! ### GO and STOP (R335) -/

theorem State.sendGoStop_tdi (s : State) (m : SpdmCtx) (func stream keySet : Nat) (go : Bool) (f : Nat) :
    (s.sendGoStop m func stream keySet go).tdi f = s.tdi f := State.foldl_kpSend_tdi _ _ s f

theorem State.sendGoStop_kpCount (s : State) (m : SpdmCtx) (func stream keySet : Nat) (go : Bool) :
    (s.sendGoStop m func stream keySet go).kpCount = s.kpCount + 6 := State.foldl_kpSend_kpCount _ _ s

theorem State.endGo_kpCount (s : State) (func keySet : Nat) : (s.endGo func keySet).kpCount = s.kpCount := by
  unfold State.endGo State.kpCount
  dsimp only
  rw [List.length_map, List.length_map]

section
variable {s t : State} {m : SpdmCtx} {func stream keySet : Nat} (host : m.conn = .host 0) (low : 1 ≤ func)

theorem State.goStopOk_of (low : 1 ≤ func) (set_ : keySet < 2) (own : (t.tdi func).stream = some stream) :
    t.goStopOk func stream keySet = true := by
  unfold State.goStopOk
  rw [own, bne_iff_ne.mpr (Nat.ne_of_gt low), decide_eq_true set_, beq_self_eq_true]
  rfl

include host low

theorem kSetGo_sends (takes : SpdmTakes s (.kSetGo m func stream keySet) m false .session t) (set_ : keySet < 2)
    (own : (t.tdi func).stream = some stream) :
    exec (.kSetGo m func stream keySet) s = .next (t.sendGoStop m func stream keySet true) :=
  takes.pci_later host rfl (if_pos (State.goStopOk_of low set_ own))

theorem kSetStop_sends (takes : SpdmTakes s (.kSetStop m func stream keySet) m false .session t) (set_ : keySet < 2)
    (own : (t.tdi func).stream = some stream) :
    exec (.kSetStop m func stream keySet) s = .next
      (((t.setTdi func { t.tdi func with active := (t.tdi func).active.filter (fun k => k != keySet) }).endGo func keySet).sendGoStop
        m func stream keySet false) :=
  takes.pci_later host rfl (if_pos (State.goStopOk_of low set_ own))

omit low in
theorem kSetGo_refused (takes : SpdmTakes s (.kSetGo m func stream keySet) m false .session t)
    (other : (t.tdi func).stream ≠ some stream) :
    Answers (.kSetGo m func stream keySet) s m .session 0x7F (leBytes 1 errInvalid ++ leBytes 1 0) t :=
  takes.pci host rfl (if_neg (by
    unfold State.goStopOk
    rw [beq_eq_false_iff_ne.mpr other, Bool.and_false]
    decide))

end

/-! ### The end of a TDISP binding (R190, R333) -/

theorem State.forgetInstalls_tdi (s : State) (func f : Nat) : (s.forgetInstalls func).tdi f = s.tdi f := by
  unfold State.forgetInstalls
  exact (Touches.foldl State.clearSlot _ _ (Touches.refl [.keys] _) fun u i h =>
    h.trans (u.clearSlot_touches i)).tdi (by decide) f

/-- An unlocked function has no stream left. -/
theorem State.tdiUnlock_tdi {s : State} {func : Nat} (held : (s.tdi func).state ≠ .unlocked) :
    ((s.tdiUnlock func).tdi func).state = .unlocked ∧ ((s.tdiUnlock func).tdi func).stream = none := by
  have locked : ¬ ((s.tdi func).state == .unlocked) = true := fun same => held (beq_iff_eq.mp same)
  unfold State.tdiUnlock State.invalidate
  dsimp only
  rw [if_neg locked]
  split
  · rw [State.kpSend_tdi, State.setTdi_tdi, State.setTdi_tdi]
    exact ⟨rfl, rfl⟩
  · next none_ =>
    rw [State.forgetInstalls_tdi]
    refine ⟨?_, none_⟩
    rw [State.setTdi_tdi]

theorem State.tdiUnlock_state (s : State) (func : Nat) : ((s.tdiUnlock func).tdi func).state = .unlocked := by
  by_cases unlocked : (s.tdi func).state = .unlocked
  · rw [State.tdiUnlock_unlocked unlocked]
    exact unlocked
  · exact (State.tdiUnlock_tdi unlocked).1

theorem Touches.funcLdi {F : List Part} {s t : State} (h : Touches F s t) (doms : Part.doms ∉ F) (tallies : Part.tallies ∉ F) (func : Nat) :
    t.funcLdi func = s.funcLdi func := by
  have same : t.tables.domains = s.tables.domains := (h.tables.tallies.resolve_left doms).resolve_left tallies
  unfold State.funcLdi State.ldisWith
  rw [same]

theorem State.endsKeep_tdiAbort (s : State) (func : Nat) : s.EndsKeep (s.tdiAbort func) := by
  unfold State.tdiAbort
  split
  · dsimp only
    split
    · exact ((s.internalEntry_touches.endsKeep (by decide) (by decide)).trans (State.endsKeep_abort _ _ _ _)).trans
        (State.endsKeep_endSpent _)
    · exact State.EndsKeep.refl s
  · exact State.EndsKeep.refl s

/-- The domain of a function is aborted where the abort of R333 reaches it. -/
theorem State.tdiAbort_aborted {s : State} {func l : Nat} (bound : s.funcLdi func = some l) (idle : (s.dom l).retiring = false)
    (live : (s.dom l).state = .building ∨ (s.dom l).state = .sealed_ ∨ (s.dom l).state = .running) :
    ((s.tdiAbort func).dom l).state = .aborted := by
  have entered := s.internalEntry_touches.core (by decide) l
  have reached : (s.dom l).state.abortable = true := by rcases live with h | h | h <;> rw [h] <;> rfl
  have named : ((s.dom l).state == .building || (s.dom l).state == .sealed_ || (s.dom l).state == .running) = true := by
    rcases live with h | h | h <;> rw [h] <;> rfl
  unfold State.tdiAbort
  rw [bound]
  dsimp only
  rw [if_pos named]
  refine State.abortsStay_endSpent _ l (State.abort_state_own 0x01 true ?_ ?_)
  · exact (Domain.core_retiring entered).trans idle
  · rw [Domain.core_state entered]
    exact reached

theorem State.tdiAbort_unbound {s : State} {func : Nat} (unbound : s.funcLdi func = none) : s.tdiAbort func = s := by
  unfold State.tdiAbort
  rw [unbound]

theorem Touches.tdiAbort_unbound {F : List Part} {s t : State} (h : Touches F s t) (doms : Part.doms ∉ F) (tallies : Part.tallies ∉ F)
    {func : Nat} (unbound : s.funcLdi func = none) : t.tdiAbort func = t :=
  State.tdiAbort_unbound ((h.funcLdi doms tallies func).trans unbound)

theorem State.tdiStop_held {s : State} {func : Nat} (held : (s.tdi func).state.bound = true) :
    s.tdiStop func = (s.tdiUnlock func).tdiAbort func := if_pos held

theorem State.tdiStop_free {s : State} {func : Nat} (free : (s.tdi func).state.bound = false) :
    s.tdiStop func = s.tdiUnlock func := if_neg (fun held => Bool.false_ne_true (free.symm.trans held))

/-- A STOP keeps what the unlocking has made of the function. -/
theorem State.tdiStop_tdi (s : State) (func : Nat) : (s.tdiStop func).tdi func = (s.tdiUnlock func).tdi func := by
  cases held : (s.tdi func).state.bound with
  | false => rw [State.tdiStop_free held]
  | true =>
    rw [State.tdiStop_held held]
    exact (State.endsKeep_tdiAbort _ func).tdi func (by rw [State.tdiUnlock_state]; rfl)

theorem State.tdiStop_aborted {s : State} {func l : Nat} (held : (s.tdi func).state = .locked ∨ (s.tdi func).state = .run)
    (bound : s.funcLdi func = some l) (idle : (s.dom l).retiring = false)
    (live : (s.dom l).state = .building ∨ (s.dom l).state = .sealed_ ∨ (s.dom l).state = .running) :
    ((s.tdiStop func).dom l).state = .aborted := by
  have before := s.tdiUnlock_touches func
  have core := before.core (by decide) l
  rw [State.tdiStop_held (TdiState.bound_iff.mpr held)]
  refine State.tdiAbort_aborted ((before.funcLdi (by decide) (by decide) func).trans bound) ?_ ?_
  · exact (Domain.core_retiring core).trans idle
  · rw [Domain.core_state core]
    exact live

/-! ### An IDE failure (R333) -/

/-- The record, the event and the count of a failure. -/
def State.ideNoted (s : State) (l : Nat) : State :=
  (({ s with freeCount := s.freeCount + 1 }.record (Config.freeNat s.freeCount % 2 ^ 12) (Config.freeBytes s.freeCount 48)).raiseInteg l).bumpDom
    l 8

theorem State.ideIntegrity_eq (s : State) (l : Nat) : s.ideIntegrity l =
    if ((s.ideNoted l).dom l).integReport then s.ideNoted l else ((s.ideNoted l).abort l 0x03 true).endSpent := rfl

theorem State.ideNoted_freeCount (s : State) (l : Nat) : (s.ideNoted l).freeCount = s.freeCount + 1 := by
  have count := (State.bumpDom_touches (({ s with freeCount := s.freeCount + 1 }.record (Config.freeNat s.freeCount % 2 ^ 12)
    (Config.freeBytes s.freeCount 48)).raiseInteg l) l 8 1).free.resolve_left (by decide)
  exact count.trans ((State.record_touches _ _ _).free.resolve_left (by decide))

theorem State.ideNoted_raised (s : State) (l : Nat) : (s.ideNoted l).events.status.getLsbD 0 = true :=
  (State.bumpDom_touches _ l 8 1).eventsStay (by decide) 0 (State.raise_raised _ (by decide))

theorem State.ideNoted_tdi (s : State) (l f : Nat) : (s.ideNoted l).tdi f = s.tdi f :=
  ((State.bumpDom_touches _ l 8 1).tdi (by decide) f).trans ((State.record_touches _ _ _).tdi (by decide) f)

theorem State.ideNoted_endsKeep (s : State) (l : Nat) : (s.ideNoted l).EndsKeep (s.ideIntegrity l) := by
  rw [State.ideIntegrity_eq]
  split
  · exact State.EndsKeep.refl _
  · exact (State.endsKeep_abort _ _ _ _).trans (State.endsKeep_endSpent _)

theorem State.ideIntegrity_freeCount (s : State) (l : Nat) : (s.ideIntegrity l).freeCount = s.freeCount + 1 := by
  rw [State.ideIntegrity_eq]
  split
  · exact s.ideNoted_freeCount l
  · rw [(State.endSpent_touches _).free.resolve_left (by decide), (State.abort_touches _ _ _ _).free.resolve_left (by decide)]
    exact s.ideNoted_freeCount l

theorem State.ideIntegrity_raised (s : State) (l : Nat) : (s.ideIntegrity l).events.status.getLsbD 0 = true :=
  (s.ideNoted_endsKeep l).events 0 (s.ideNoted_raised l)

theorem State.ideIntegrity_tdi {s : State} {l f : Nat} (free : (s.tdi f).state.bound = false) :
    (s.ideIntegrity l).tdi f = s.tdi f := by
  have noted := s.ideNoted_tdi l f
  exact ((s.ideNoted_endsKeep l).tdi f (by rw [noted]; exact free)).trans noted

/-! ### Events of `KP_` -/

theorem execKpAck_oldest {s : State} {r : KpRec} {rs : List KpRec} (up : s.released = true) (records : s.link.kpOut = r :: rs) :
    execKpAck s = .next (({ s with link := { s.link with kpOut := rs } }.kpDone r).kpNext) := by
  unfold execKpAck
  rw [records]
  exact nextIf_of up

section
variable {s : State} {func : Nat} (up : s.takesInput = true) (low : 1 ≤ func) (high : func ≤ 63)
include up low high

theorem State.kpEvent_of : s.kpEvent func = true := by
  unfold State.kpEvent
  rw [up, bne_iff_ne.mpr (Nat.ne_of_gt low), decide_eq_true (Nat.lt_succ_of_le high)]
  rfl

theorem kpFlr_stops : exec (.kpFlr func) s = .next (s.tdiStop func) := nextIf_of (State.kpEvent_of up low high)

theorem kpLockedConfigWrite_errs : exec (.kpLockedConfigWrite func) s = .next (s.tdiError func) :=
  nextIf_of (State.kpEvent_of up low high)

theorem kpIdeIntegrityFailure_errs (bound : (s.tdi func).state.bound = true) :
    exec (.kpIdeIntegrityFailure func) s = .next (match s.funcLdi func with
      | some l => (s.tdiError func).ideIntegrity l
      | none => s.tdiError func) :=
  nextIf_of (by
    rw [State.kpEvent_of up low high]
    exact bound)

theorem kpIdeIntegrityFailure_unbound (bound : (s.tdi func).state.bound = true) (none_ : s.funcLdi func = none) :
    exec (.kpIdeIntegrityFailure func) s = .next (s.tdiError func) := by
  rw [kpIdeIntegrityFailure_errs up low high bound, none_]

theorem kpIdeIntegrityFailure_of {l : Nat} (bound : (s.tdi func).state.bound = true) (ldi : s.funcLdi func = some l) :
    exec (.kpIdeIntegrityFailure func) s = .next ((s.tdiError func).ideIntegrity l) := by
  rw [kpIdeIntegrityFailure_errs up low high bound, ldi]

end

/-- Settles O58: the records of a key set are sent one after another, and what an abort leaves of the functions' states stands
through the ends of SAs that follow it. -/
theorem streamKeysTakeEffect : Obligations.StreamKeysTakeEffect := by
  unfold Obligations.StreamKeysTakeEffect
  dsimp only
  refine ⟨fun s t m func stream keySet l host low high => ⟨?_, ?_, ?_, ?_, ?_⟩, fun s func r rs =>
    ⟨fun up records => ?_, fun up low high => ⟨?_, fun held => ⟨?_, fun unbound => ?_, fun l bound => ?_⟩, fun free => ?_⟩⟩⟩
  · intro takes bound stream_ set_ free ready six
    refine ⟨_, ideKeyDelivery_delivers host low high takes bound stream_ set_ free ready six, ?_, ?_, ?_, ?_⟩
    · rw [State.deliverKeys_tdi]
    · rw [State.deliverKeys_tdi]
    · exact State.deliverKeys_kpCount six
    · exact fun x _ => t.deliverKeys_keySlot x.1
  · exact fun takes => ⟨_, takes.pci host rfl rfl⟩
  · exact fun takes => ⟨_, takes.pci host rfl rfl⟩
  · refine fun takes => ⟨fun set_ own => ⟨_, kSetGo_sends host low takes set_ own, ?_, t.sendGoStop_kpCount m func stream keySet true⟩,
      kSetGo_refused host takes⟩
    rw [State.sendGoStop_tdi]
  · intro takes set_ own
    refine ⟨_, kSetStop_sends host low takes set_ own, ?_, ?_⟩
    · rw [State.sendGoStop_tdi]
      change keySet ∉ (State.tdi (t.setTdi func _) func).active
      rw [State.setTdi_tdi]
      simp
    · exact (State.sendGoStop_kpCount _ m func stream keySet false).trans (congrArg (· + 6) (State.endGo_kpCount _ func keySet))
  · exact execKpAck_oldest up records
  · refine ⟨_, kpFlr_stops up low high, ?_, fun held l bound idle live => State.tdiStop_aborted held bound idle live,
      State.tdiStop_unlocked, fun held unbound => ?_⟩
    · rw [State.tdiStop_tdi]
      exact s.tdiUnlock_state func
    · rw [State.tdiStop_tdi]
      exact (State.tdiUnlock_tdi held).2
  · rw [kpLockedConfigWrite_errs up low high, State.tdiError_bound (TdiState.bound_iff.mpr held)]
  · rw [kpIdeIntegrityFailure_unbound up low high (TdiState.bound_iff.mpr held) unbound,
      State.tdiError_bound (TdiState.bound_iff.mpr held)]
  · have erred := State.tdiError_bound (TdiState.bound_iff.mpr held)
    have error : ((s.tdiError func).tdi func).state = .error := by rw [erred, State.setTdi_tdi]
    refine ⟨_, kpIdeIntegrityFailure_of up low high (TdiState.bound_iff.mpr held) bound, ?_, State.ideIntegrity_raised _ l, ?_⟩
    · rw [State.ideIntegrity_tdi (by rw [error]; rfl)]
      exact error
    · rw [State.ideIntegrity_freeCount, (s.tdiError_touches func).free.resolve_left (by decide)]
  · rw [kpLockedConfigWrite_errs up low high, State.tdiError_free (by rcases free with h | h <;> rw [h] <;> rfl)]

end Sys2Proof.Machine
end

section
/-! PROOF. Obligation O59: the test access port. -/
namespace Sys2Proof.Machine

/-! ### An access (R459) -/

section
variable {s : State} {dr : BitVec 96}

theorem dbgAccess_available (up : s.dbgAvailable = true) : exec (.dbgAccess (.access dr)) s = .next (s.tapAccess dr) :=
  congrArg _ (if_pos up)

theorem dbgAccess_unavailable (down : s.dbgAvailable = false) :
    exec (.dbgAccess (.access dr)) s = .next { s with dbg := { s.dbg with tapIr := irBypass } } :=
  congrArg _ (if_neg (by rw [down]; decide))

theorem State.tapAccess_idle (idle : dr.getLsbD 87 = false) : s.tapAccess dr =
    { s with dbg := { s.dbg with drData := dr.setWidth 64, drDone := false, tapIr := irDbgAccess } } :=
  if_pos (by rw [idle]; rfl)

theorem State.tapAccess_write (go : dr.getLsbD 87 = true) (write : dr.getLsbD 86 = true) : ∃ u : State,
    s.tapAccess dr = u.dbgDone (dr.setWidth 64) := by
  unfold State.tapAccess
  dsimp only
  rw [if_neg (by rw [go]; decide), if_pos write]
  exact ⟨_, rfl⟩

theorem State.tapAccess_read (go : dr.getLsbD 87 = true) (read : dr.getLsbD 86 = false) : ∃ u : State,
    s.tapAccess dr = u.dbgDone (s.dbgRead (dr.toNat / 2 ^ 64 % 2 ^ 22)).1 := by
  unfold State.tapAccess
  dsimp only
  rw [if_neg (by rw [go]; decide), if_neg (by rw [read]; decide)]
  exact ⟨_, rfl⟩

end

section
variable (s : State) (v : BitVec 64)

theorem State.dbgDone_drData : (s.dbgDone v).dbg.drData = v := rfl

theorem State.dbgDone_drDone : (s.dbgDone v).dbg.drDone = true := rfl

theorem State.dbgDone_last : (s.dbgDone v).out.getLast? = some (.dbgRsp v) := List.getLast?_concat

end

/-- An access with GO completes: what it writes, or what it has read. -/
theorem State.tapAccess_done {s : State} {dr : BitVec 96} (go : dr.getLsbD 87 = true) : ∃ (u : State) (v : BitVec 64),
    s.tapAccess dr = u.dbgDone v ∧ (dr.getLsbD 86 = true → v = dr.setWidth 64) ∧
      (dr.getLsbD 86 = false → v = (s.dbgRead (dr.toNat / 2 ^ 64 % 2 ^ 22)).1) := by
  cases kind : dr.getLsbD 86 with
  | true =>
    obtain ⟨u, done⟩ := State.tapAccess_write (s := s) go kind
    exact ⟨u, _, done, fun _ => rfl, nofun⟩
  | false =>
    obtain ⟨u, done⟩ := State.tapAccess_read (s := s) go kind
    exact ⟨u, _, done, nofun, fun _ => rfl⟩

/-! ### The instruction (R459) -/

section
variable (s : State) {code : BitVec 5}

theorem State.tapSelects_port (port : code = irExtest ∨ code = irIdcode ∨ code = irSample) : s.tapSelects code = code := by
  rcases port with rfl | rfl | rfl <;> rfl

theorem State.tapSelects_dbgAccess : s.tapSelects irDbgAccess = if s.dbgAvailable then irDbgAccess else irBypass := by
  unfold State.tapSelects
  cases s.dbgAvailable <;> rfl

theorem State.tapSelects_scan : s.tapSelects irScan = if s.right rightScan then irScan else irBypass := by
  unfold State.tapSelects
  cases s.right rightScan <;> rfl

theorem State.tapSelects_bypass (none_ : code ∉ [irExtest, irIdcode, irSample, irDbgAccess, irScan]) :
    s.tapSelects code = irBypass := by
  simp only [List.mem_cons, List.not_mem_nil, or_false, not_or] at none_
  obtain ⟨extest, idcode, sample, access, scan⟩ := none_
  unfold State.tapSelects
  simp only [beq_eq_false_iff_ne.mpr extest, beq_eq_false_iff_ne.mpr idcode, beq_eq_false_iff_ne.mpr sample,
    beq_eq_false_iff_ne.mpr access, beq_eq_false_iff_ne.mpr scan, Bool.or_self, Bool.false_and, Bool.false_eq_true, if_false]

theorem State.tapSelect_ir (code : BitVec 5) : (s.tapSelect code).dbg.tapIr = s.tapSelects code := rfl

theorem State.tapSelect_last (code : BitVec 5) : (s.tapSelect code).out.getLast? =
    some (.tapDr (s.tapSelects code) (s.tapCapture (s.tapSelects code))) := List.getLast?_concat

end

theorem dbgAccess_select (s : State) (code : BitVec 5) : exec (.dbgAccess (.select code)) s = .next (s.tapSelect code) := rfl

theorem dbgAccess_program {s : State} {addr : Nat} {bits : BitVec 32} (clocked : s.clocked = true) (decoded : s.decoded = true) :
    exec (.dbgAccess (.program addr bits)) s = .next (s.tapProgram addr bits) :=
  nextIf_of (by rw [clocked, decoded]; rfl)

/-- Settles O59: an access by its GO and WRITE bits, a selection by its code. -/
theorem tapAccessesTakeEffect : Obligations.TapAccessesTakeEffect := by
  unfold Obligations.TapAccessesTakeEffect
  refine fun s dr code addr bits => ⟨dbgAccess_unavailable, fun up idle => ?_, fun up go => ?_,
    ⟨_, dbgAccess_select s code, ?_, ?_, ?_, ?_, ?_⟩, dbgAccess_program, rfl⟩
  · rw [dbgAccess_available up, State.tapAccess_idle idle]
  · obtain ⟨u, v, done, written, read⟩ := State.tapAccess_done (s := s) go
    rw [dbgAccess_available up, done]
    exact ⟨_, rfl, u.dbgDone_drDone v, u.dbgDone_last v, written, read⟩
  · rintro rfl
    rw [State.tapSelect_ir, State.tapSelect_last, State.tapSelects_port s (.inr (.inl rfl))]
    exact ⟨rfl, rfl⟩
  · exact fun port => s.tapSelects_port (port.elim .inl (.inr ∘ .inr))
  · rintro rfl
    exact s.tapSelects_dbgAccess
  · rintro rfl
    exact s.tapSelects_scan
  · intro none_
    rw [State.tapSelect_ir, State.tapSelect_last, State.tapSelects_bypass s none_]
    exact ⟨rfl, rfl⟩

end Sys2Proof.Machine
end
